-- ==== Sys2Proof/Word.lean ====
section
/-!
DEFINITION. The words of the module: a register is 32 bits (scope, Registers and access types), a register pair and a
position are 64 bits (R4, R5), memory is bytes.
-/
namespace Sys2Proof

/-- One byte of memory or of a message. -/
abbrev Byte := BitVec 8
/-- One device register (all registers are 32 bits wide). -/
abbrev Word := BitVec 32
/-- A 64-bit register pair, a position or a time (R4, R5). -/
abbrev DWord := BitVec 64

end Sys2Proof
end

