-- ==== Sys2Proof/Syntax.lean ====
section
/-!
DEFINITION. The commands of the module: one constructor of `Instr` for each row of spec/opcode_table.json, in the
table's order, with the operands that the rule of the row names. A physical fact that State cannot hold (a level at a
pin, a sample, a received frame, a temperature) is an operand; an index with a fixed range is a `Fin`.
-/
namespace Sys2Proof

/-- Who makes a register access (R12, R466): the host through the aperture, or the control processor's firmware. -/
inductive Writer where
  | host
  | firmware
  deriving DecidableEq, Repr

/-- What one AHEAD-of-decode RTP payload of a decoder stream holds, as the codec's syntax tells it (R136 to R151). The
codec standards lie outside the spec, so the parsed facts are the operand. -/
structure RtpInfo where
  /-- RTP sequence number. -/
  seq : BitVec 16
  /-- RTP marker bit: it closes the picture (R146). -/
  marker : Bool
  /-- The packet holds the first byte of a new picture. -/
  first : Bool
  /-- The packet activates a sequence parameter set; `some ok` says whether all its features are supported (R138). -/
  spsOk : Option Bool
  /-- Picture width in pixels as the picture header or the active set gives it (R143). -/
  width : Nat
  /-- Picture height in rows. -/
  height : Nat
  /-- Bits of a component: 8, 10 or 12. -/
  depth : Nat
  /-- The picture is an IRAP picture; every JPEG XS codestream counts as one (R138, R148). -/
  irap : Bool
  /-- The pixel rows that this packet's slices complete, after the rows decoded so far: components in the stream's colour
  and depth. -/
  rows : List (List Nat)
  /-- Rows from the first damaged row to the end of its slice, when a gap stands before this packet or a syntax error lies in
  it (R147). -/
  errRows : Option Nat
  /-- Bit offset of the damage from the first bit of the picture (R153). -/
  bitPos : BitVec 64
  /-- The picture predicts from a reference that carries CONCEALED, SUBSTITUTED or REF_DAMAGED (R148). -/
  refBad : Bool
  deriving DecidableEq, Repr

/-- A pixel-data packet of a camera stream (R72, R83, R93). -/
inductive StreamPacket where
  /-- A CoaXPress stream packet: pixel components of the line in progress and whether its CRC is good. -/
  | cxp (pix : List Nat) (crcOk : Bool)
  /-- A GVSP payload packet: the line and column its byte offset gives, and its pixel components. -/
  | gvsp (line col : Nat) (pix : List Nat)
  /-- A GVSP packet missing from the packet-ID sequence, or rejected by the MAC: the place its data would have filled. -/
  | missing (line col n : Nat)
  /-- A packet of a stream other than the first, or of an unsupported payload type: discarded and counted. -/
  | other
  deriving DecidableEq, Repr

/-- A received Ethernet frame, as its headers give it (R496). -/
structure EthFrame where
  /-- Frame length in bytes, FCS included. -/
  len : Nat
  /-- The frame check sequence is good. -/
  fcsOk : Bool
  /-- PAUSE or priority-flow-control frame. -/
  pause : Bool
  /-- Ethertype. -/
  etherType : BitVec 16
  /-- IPv4 source address. -/
  ipSrc : BitVec 32
  /-- IPv4 destination address. -/
  ipDst : BitVec 32
  /-- The frame carries UDP. -/
  udp : Bool
  /-- UDP source port. -/
  portSrc : BitVec 16
  /-- UDP destination port. -/
  portDst : BitVec 16
  /-- The frame is ARP, ICMP echo or GVCP for the CP. -/
  toCp : Bool
  /-- The frame is an ARP or ICMP echo request for this MAC, which the CP answers (R497). -/
  asks : Bool
  deriving DecidableEq, Repr

/-- A PTP message type of R521; `other` is any message the module drops. -/
inductive PtpKind where
  | sync | followUp | delayReq | delayResp | pdelayReq | pdelayResp | pdelayRespFollowUp | announce | other
  deriving DecidableEq, Repr

/-- A Kalinamo flit of R500, CRC already compared; `payload` holds the valid payload bytes. -/
structure Flit where
  /-- TYPE: 0 IDLE, 1 FIRST, 2 MIDDLE, 3 LAST, 4 ONLY, 15 LINK_CONTROL. -/
  typ : BitVec 4
  /-- Sequence number of a sequenced flit. -/
  seq : BitVec 12
  /-- NAK bit. -/
  nak : Bool
  /-- Last sequenced flit accepted by the peer. -/
  ack : BitVec 12
  /-- Virtual channel. -/
  vc : BitVec 2
  /-- Destination node. -/
  dest : BitVec 4
  /-- Source node. -/
  src : BitVec 4
  /-- VC of the returned credits. -/
  cvc : BitVec 2
  /-- Credits returned for `cvc`. -/
  credits : BitVec 8
  /-- Payload bytes, at most 244. -/
  payload : List Byte
  deriving DecidableEq, Repr

/-- A fault-record class of R573. -/
inductive FaultClass where
  | pending | transient | lasting | notRecoverable
  deriving DecidableEq, Repr

/-- A 128-bit tile instruction of R268, its fields separated. -/
structure TileInstr where
  /-- RND, bits [119:118]. -/
  rnd : BitVec 2
  /-- QRND, bit [117]. -/
  qrnd : Bool
  /-- SAT, bit [116]. -/
  sat : Bool
  /-- STAT, bits [115:114]. -/
  stat : BitVec 2
  /-- ACT, bits [113:110]. -/
  act : BitVec 4
  /-- END, bit [109]. -/
  last : Bool
  /-- LAYER, bits [107:96]. -/
  layer : BitVec 12
  /-- SRC_A, bits [95:80]. -/
  srcA : BitVec 16
  /-- SRC_B, bits [79:64]. -/
  srcB : BitVec 16
  /-- DST, bits [63:48]. -/
  dst : BitVec 16
  /-- KS_COUNT or ARG0, bits [47:32]. -/
  arg0 : BitVec 16
  /-- KS_FIRST or ARG1, bits [31:16]. -/
  arg1 : BitVec 16
  /-- CGRP, bits [15:7]. -/
  cgrp : BitVec 9
  /-- ROWS, bits [6:0]. -/
  rows : BitVec 7
  deriving DecidableEq, Repr

/-- What the reads of on-chip SRAM in a step met (R427): nothing, a corrected word, a word still in error after its
correction was written back, an uncorrectable word. -/
inductive SramRead where
  | clean | corrected | lasting | uncorrectable
  deriving DecidableEq, Repr

/-- Errors in transfer that a DRAM read meets beside what is stored (R410, R415): the sector of the transfer, counted from
0, and the bad symbols of the first and of the second read. -/
structure ReadUpset where
  sector : Nat
  first : BitVec 36
  second : BitVec 36
  deriving DecidableEq, Repr

/-- An input pair of an encoder channel (R61). -/
inductive EncPair where
  | a | b | z
  deriving DecidableEq, Repr

/-- A live output warning of R371. -/
inductive OutWarn where
  | openOn | openOff | stuckOn
  deriving DecidableEq, Repr

/-- A PTP message as received, with what the servo and the best master clock algorithm read from it (R521 to R523). -/
structure PtpMsg where
  kind : PtpKind
  /-- PTP domain number. -/
  domain : BitVec 8
  /-- Carried by layer 2, rather than by UDP/IPv4. -/
  layer2 : Bool
  /-- A Sync of two-step mode: its origin time-stamp comes in the Follow_Up. -/
  twoStep : Bool
  /-- The origin or receive time-stamp the message carries, in ns. -/
  origin : DWord
  /-- Correction field in ns. -/
  correction : Int
  /-- Announce: the sender is better than this clock, and it announces the PTP timescale. -/
  better : Bool
  timescale : Bool
  /-- The sender is the grandmaster followed so far. -/
  sameMaster : Bool
  deriving DecidableEq, Repr

/-- The commands of the module, one constructor for each row of spec/opcode_table.json, in its order. -/
inductive Instr where
  /-- REGISTER_WRITE (R12): A host or firmware write to a register that has no row of its own stores the value, or is refused with a status code. -/
  | registerWrite (w : Writer) (addr : Nat) (v : Word)
  /-- CHECKED_WRITE_DECIDED (R12): A register write that firmware checks is decided within 2 ms and then applied or refused. -/
  | checkedWriteDecided
  /-- PAIR_HI_WRITE (R6): A write of the _HI word of a register pair is held pending until the _LO write applies both halves. -/
  | pairHiWrite (w : Writer) (addr : Nat) (v : Word)
  /-- PAIR_LO_READ (R5): A read of the _LO word of a register pair latches the matching _HI half for the next _HI read. -/
  | pairLoRead (addr : Nat)
  /-- RC_READ (R7): A read of an RC field returns its value and then clears it. -/
  | rcRead (addr : Nat)
  /-- UNMAPPED_ACCESS (R11): An access to an address with no register reads zero or is ignored, and increments the unmapped-access counter. -/
  | unmappedAccess (addr : Nat) (write : Bool)
  /-- ENC_CFG_WRITE (R34): A write of ENC_CFG that changes MODE or INVERT sets POSITION_UNKNOWN and counts on from the held position, subject to the partner and comet checks. -/
  | encCfgWrite (w : Writer) (ch : Fin 4) (v : Word)
  /-- ENC_EDGE_ACCEPT (R40): The edge filter accepts a new level on an RS-422 A or B input after N stable filter clocks. -/
  | encEdgeAccept (ch : Fin 4) (a b : Bool) (held : Nat)
  /-- FAULT_WINDOW_END (R43): A fault window of WINDOW microseconds ends and the next window starts with a zero count. -/
  | faultWindowEnd (ch : Fin 4)
  /-- ANALOGUE_SAMPLE (R45): The sin and cos tracks are sampled at 16 MS/s, interpolated and checked for amplitude and phase jumps. -/
  | analogueSample (ch : Fin 4) (sin cos : Int)
  /-- AMPLITUDE_FAULT (R45): An amplitude outside limits for 16 consecutive samples sets AMPLITUDE, holds the position and raises ENC_FAULT. -/
  | amplitudeFault (ch : Fin 4)
  /-- AMPLITUDE_RECOVER (R45): Sixteen samples within limits clear AMPLITUDE and the next sample becomes the reference phase. -/
  | amplitudeRecover (ch : Fin 4)
  /-- OBSERVER_UPDATE (R48): Every 1 µs the tracking observer and the standstill and reversal logic are updated from the measured position. -/
  | observerUpdate (ch : Fin 4)
  /-- STANDSTILL_IN (R50): The position staying within 1/64 lc for T_ss declares STANDSTILL. -/
  | standstillIn (ch : Fin 4)
  /-- SETTLED (R52): SETTLING ends after SETTLE time constants and SETTLED is raised. -/
  | settled (ch : Fin 4)
  /-- INDEX_EVENT (R645): A qualified rising edge on Z captures the position and time, loads the index position or runs the line-count check. -/
  | indexEvent (ch : Fin 4) (held : Nat) (sinHigh cosHigh : Bool)
  /-- PRESET (R58): A write of ENC_CMD.PRESET loads the measured position from ENC_PRESET if allowed. -/
  | preset (w : Writer) (ch : Fin 4)
  /-- FAULT_CLEAR (R63): A write of ENC_CMD.FAULT_CLEAR clears ENC_FAULT, INDEX_MISMATCH and CROSSCHECK when no live fault remains. -/
  | faultClear (w : Writer) (ch : Fin 4)
  /-- OPEN_PAIR_FAULT (R61): An RS-422 pair below 200 mV for 1 µs sets OPEN_A, OPEN_B or OPEN_Z. -/
  | openPairFault (ch : Fin 4) (pair : EncPair) (heldNs : Nat)
  /-- OPEN_PAIR_RECOVER (R650): A recovered RS-422 pair resumes decoding from its current levels without counting a step. -/
  | openPairRecover (ch : Fin 4) (pair : EncPair) (a b : Bool)
  /-- ENC_SUPPLY_FAULT (R649): The encoder supply output below 4.5 V for 100 µs sets SUPPLY and raises ENC_FAULT. -/
  | encSupplyFault (ch : Fin 4) (millivolts heldNs : Nat)
  /-- ENC_SUPPLY_RETRY (R62): After a supply fault the encoder supply output retries every 100 ms. -/
  | encSupplyRetry (ch : Fin 4)
  /-- ENC_SUPPLY_RECOVER (R649): SUPPLY clears once the output has held at or above 4.5 V for 100 µs and the field supply is present. -/
  | encSupplyRecover (ch : Fin 4) (millivolts heldNs : Nat)
  /-- CAM_PORT_CFG_WRITE (R643): A write of CAM_PORT_CFG enables or reconfigures a port after the lane, payload and budget checks. -/
  | camPortCfgWrite (w : Writer) (n : Fin 8) (v : Word)
  /-- TRIG_GRID_WRITE (R81): An accepted write of PITCH or PHASE on an enabled port rebuilds the trigger grid around the current position. -/
  | trigGridWrite (w : Writer) (n : Fin 8) (phase : Bool) (v : Word)
  /-- GRID_POINT_REACHED (R75): The measured position reaches a trigger grid point, which is numbered, enters the trigger FIFO and issues a trigger. -/
  | gridPointReached (n : Fin 8)
  /-- DELAYED_TRIGGER (R79): A trigger that waited for MIN_PERIOD or the previous pulse is issued with LATE_TRIGGER. -/
  | delayedTrigger (n : Fin 8)
  /-- TRIGGER_PULSE_END (R359): A camera trigger pulse on a field output ends after PULSE_US. -/
  | triggerPulseEnd (n : Fin 32)
  /-- TRIGGER_ACK (R84): A CoaXPress trigger acknowledgement arrives and is counted. -/
  | triggerAck (n : Fin 8)
  /-- CAM_LINK_UP (R71): All lanes of a port lock and a heartbeat arrives, so the link comes up and discovery starts. -/
  | camLinkUp (n : Fin 8)
  /-- DISCOVERY_DONE (R71): Discovery ends, setting DISCOVERED after writing the bootstrap registers, or DISC_FAIL. -/
  | discoveryDone (n : Fin 8) (ids : List Nat) (same : Bool)
  /-- CAM_LINK_DOWN (R95): A port's link goes down, closing the open block and emptying the trigger FIFO. -/
  | camLinkDown (n : Fin 8)
  /-- HEARTBEAT_TIMEOUT (R71): No heartbeat packet for 1 s takes a CoaXPress-over-Fiber port's link down. -/
  | heartbeatTimeout (n : Fin 8)
  /-- HEARTBEAT_PACKET (R71): A CoaXPress heartbeat packet arrives as link liveness. -/
  | heartbeatPacket (n : Fin 8)
  /-- GEV_HEARTBEAT (R73): The CP sends the GigE Vision control heartbeat to a camera. -/
  | gevHeartbeat (n : Fin 8)
  /-- STREAM_BLOCK_HEADER (R72): An image header or GVSP leader opens a block, checked against the configured pixel format. -/
  | streamBlockHeader (n : Fin 8) (fmt : BitVec 7) (width : Nat) (exposure : DWord)
  /-- STREAM_PACKET (R93): A CoaXPress stream packet or GVSP packet arrives and is written to the line buffer, with CRC or missing-packet handling. -/
  | streamPacket (n : Fin 8) (p : StreamPacket)
  /-- LINE_ARRIVAL (R90): The first byte of a line arrives and the line is admitted to a free slot and paired with its trigger position. -/
  | lineArrival (n : Fin 8) (index : Nat)
  /-- BLOCK_END (R84): A block ends, short blocks are completed with fill lines and the trigger entries leave the FIFO. -/
  | blockEnd (n : Fin 8)
  /-- CXP_EVENT_PACKET (R644): A CoaXPress event packet or GigE Vision chunk is forwarded to the host event queue or discarded if too long. -/
  | cxpEventPacket (n : Fin 8) (body : List Byte)
  /-- STRIPE_START (R123): The pipeline picks an eligible context by weighted round robin and starts a stripe or frame. -/
  | stripeStart (p : Fin 8)
  /-- STRIPE_DONE (R123): A stripe or frame finishes, its output rows are written and the consumed lines are released. -/
  | stripeDone (p : Fin 8)
  /-- APPLY (R128): A write of ISP_CTX_APPLY has the firmware check the shadows and requests them to take effect at the next boundary. -/
  | apply (w : Writer) (p : Fin 8) (c : Fin 4)
  /-- APPLY_BOUNDARY (R128): A pending configuration takes effect at the context's next block or frame boundary. -/
  | applyBoundary (p : Fin 8) (c : Fin 4)
  /-- APPLIED (R132): The last line under the old configuration leaves the output stage and APPLIED is raised. -/
  | applied (p : Fin 8) (c : Fin 4)
  /-- ISP_ENGINE_RESET (R133): An engine reset of a pipeline abandons its stripes, invalidates its row stores and history, and resumes at block boundaries. -/
  | ispEngineReset (p : Fin 8)
  /-- RTP_PACKET (R136): An RTP packet of a decoder stream arrives and is decoded. -/
  | rtpPacket (n : Fin 32) (info : RtpInfo)
  /-- SAMPLE_WRITTEN (R145): A decoded sample's last row is written into a free slot of the stream's ring. -/
  | sampleWritten (n : Fin 32)
  /-- DECODE_BUDGET_EXPIRY (R150): A sample not finished when its budget expires in SERVICE mode is skipped and substituted. -/
  | decodeBudgetExpiry (n : Fin 32)
  /-- BATCH_TIMEOUT (R157): An open batch closes TIMEOUT after its first sample and is padded. -/
  | batchTimeout (n : Fin 32)
  /-- REPORT_PLACED (R152): A decoder report record waiting on a HOLD queue is placed once credit is granted. -/
  | reportPlaced (n : Fin 32)
  /-- DEC_ENGINE_RESET (R159): An engine reset of the decoder abandons samples in progress and closes open batches. -/
  | decEngineReset
  /-- TILE_START (R296): At a tile boundary the spire scheduler picks the next eligible context and starts its tile. -/
  | tileStart (e : Fin 42)
  /-- PREEMPTION_REQUEST (R299): A context that would come first becomes eligible and pre-emption is requested for the next boundary. -/
  | preemptionRequest (e : Fin 42)
  /-- TILE_COMMIT (R273): A tile reaches END and commits write-back, statistics, remote sends, verdicts and semaphore releases in order. -/
  | tileCommit (e : Fin 42)
  /-- CONTEXT_SAVE_DONE (R300): A context save to its save area completes and its credits are returned. -/
  | contextSaveDone (e : Fin 34) (sram : SramRead)
  /-- CONTEXT_RESTORE_DONE (R300): A context restore from its save area completes and its credits are requested again. -/
  | contextRestoreDone (e : Fin 34) (upset : Option ReadUpset)
  /-- SPR_ENGINE_RESET (R190): A write of SPR_CTRL.ENGINE_RESET saves the resident context and resets the spire. -/
  | sprEngineReset (w : Writer) (e : Fin 34)
  /-- MOON_ENGINE_RESET (R190): A write of MOON_CTRL.ENGINE_RESET resets the moon engine. -/
  | moonEngineReset (w : Writer) (m : Fin 8)
  /-- ENGINE_RESET_DONE (R190): An engine reset completes, raises RESET_DONE and the abandoned tile replays. -/
  | engineResetDone (e : Fin 42)
  /-- HANG_TIMEOUT (R570): A tile not committed within the hang timeout is a hang and its engine is reset. -/
  | hangTimeout (e : Fin 42)
  /-- LASTING_FAULT_SWAP (R317): A lasting fault of a physical spire moves its logical spire to a spare at the next boundary. -/
  | lastingFaultSwap (e : Fin 34)
  /-- MOON_ADOPTION (R171): A moon engine with a lasting fault has its work adopted by its partner at the next tile boundary. -/
  | moonAdoption (m : Fin 8)
  /-- REMOTE_REPLY_LAND (R302): The fabric receive DMA lands a remote reply in its DST stream and sets REMOTE_DONE. -/
  | remoteReplyLand (h : Fin 1024) (u : Fin 32)
  /-- ACCOUNTING_WINDOW (R297): An accounting window starts and every context on a shared spire receives its budget. -/
  | accountingWindow
  /-- PART_JOIN (R290): A part joins the lowest FREE batch slot at a tile boundary when its first rows are present. -/
  | partJoin (h : Fin 1024)
  /-- TILE_NOP (R270): The NOP instruction does nothing. -/
  | tileNop (e : Fin 42)
  /-- WAIT_ROWS (R270): The WAIT_ROWS instruction holds until the rows are present. -/
  | waitRows (e : Fin 42)
  /-- SEM_ACQUIRE (R304): The SEM_ACQUIRE instructions of a tile take all their semaphores at once or none. -/
  | semAcquire (e : Fin 42)
  /-- SEM_RELEASE (R271): The SEM_RELEASE instruction releases a semaphore at commit. -/
  | semRelease (e : Fin 42)
  /-- BARRIER (R270): The BARRIER instruction synchronises the tiles of one step. -/
  | barrier (e : Fin 42)
  /-- REMOTE_SEND (R273): The REMOTE_SEND instruction sends a message to another module at commit. -/
  | remoteSend (e : Fin 42)
  /-- REMOTE_WAIT (R302): The REMOTE_WAIT instruction waits at a boundary for a remote tag. -/
  | remoteWait (e : Fin 42)
  /-- VERDICT (R265): The VERDICT instruction maps argmax indices through CLASSMAP and delivers final verdicts at commit. -/
  | verdict (e : Fin 42)
  /-- PROVISIONAL (R270): The PROVISIONAL instruction delivers a provisional verdict at commit. -/
  | provisional (e : Fin 42)
  /-- LOAD_WEIGHTS (R165): The LOAD_WEIGHTS instruction fills the idle weight staging half and forms column sums. -/
  | loadWeights (e : Fin 42) (sram : SramRead) (upset : Option ReadUpset)
  /-- LOAD_ACT (R224): The LOAD_ACT instruction loads rows into the rolling window. -/
  | loadAct (e : Fin 42) (sram : SramRead) (upset : Option ReadUpset)
  /-- STORE (R273): The STORE instruction stages output rows for write-back at commit. -/
  | store (e : Fin 42)
  /-- LOAD_BANK (R248): The LOAD_BANK instruction loads feature-bank entries into staging. -/
  | loadBank (e : Fin 42) (sram : SramRead) (upset : Option ReadUpset)
  /-- GATHER (R291): The GATHER instruction cuts part windows from an input ring and writes sample headers. -/
  | gather (e : Fin 42)
  /-- ZERO (R270): The ZERO instruction writes zero codes. -/
  | zero (e : Fin 42)
  /-- CONV (R223): The CONV instruction runs a convolution slice range. -/
  | conv (e : Fin 42) (sram : SramRead)
  /-- CONV_DW (R232): The CONV_DW instruction runs a depthwise convolution. -/
  | convDw (e : Fin 42) (sram : SramRead)
  /-- MATMUL (R270): The MATMUL instruction runs a 1 x 1 convolution with a tensor operand. -/
  | matmul (e : Fin 42) (sram : SramRead)
  /-- AVGPOOL (R236): The AVGPOOL instruction runs average pooling. -/
  | avgpool (e : Fin 42) (sram : SramRead)
  /-- ATTN_SCORE (R245): The ATTN_SCORE instruction computes scaled, masked attention scores and their softmax. -/
  | attnScore (e : Fin 42) (sram : SramRead)
  /-- ATTN_VALUE (R245): The ATTN_VALUE instruction multiplies probabilities by V. -/
  | attnValue (e : Fin 42) (sram : SramRead)
  /-- DIST (R250): The DIST instruction runs a distance pass over a bank segment. -/
  | dist (e : Fin 42) (sram : SramRead)
  /-- REQUANT (R212): The REQUANT instruction converts values to the destination format. -/
  | requant (e : Fin 42) (sram : SramRead)
  /-- ACTIVATE (R238): The ACTIVATE instruction applies an activation function. -/
  | activate (e : Fin 42) (sram : SramRead)
  /-- ADD (R237): The ADD instruction adds element-wise. -/
  | add (e : Fin 42) (sram : SramRead)
  /-- SUB (R237): The SUB instruction subtracts element-wise. -/
  | sub (e : Fin 42) (sram : SramRead)
  /-- MUL (R237): The MUL instruction multiplies element-wise. -/
  | mul (e : Fin 42) (sram : SramRead)
  /-- MAX (R237): The MAX instruction takes the element-wise maximum. -/
  | max (e : Fin 42) (sram : SramRead)
  /-- MIN (R237): The MIN instruction takes the element-wise minimum. -/
  | min (e : Fin 42) (sram : SramRead)
  /-- NEAREST_UP (R237): The NEAREST_UP instruction repeats values by a factor of 2 or 4. -/
  | nearestUp (e : Fin 42) (sram : SramRead)
  /-- MAXPOOL (R235): The MAXPOOL instruction runs maximum pooling. -/
  | maxpool (e : Fin 42) (sram : SramRead)
  /-- NORM (R240): The NORM instruction runs layer, group or window normalisation. -/
  | norm (e : Fin 42) (sram : SramRead)
  /-- SOFTMAX (R244): The SOFTMAX instruction computes softmax over a vector. -/
  | softmax (e : Fin 42) (sram : SramRead)
  /-- ARGMAX (R242): The ARGMAX instruction returns the first-ranked channel index. -/
  | argmax (e : Fin 42) (sram : SramRead)
  /-- TOPK (R243): The TOPK instruction returns the first k ranked elements. -/
  | topk (e : Fin 42) (sram : SramRead)
  /-- MERGE_LIST (R252): The MERGE_LIST instruction merges partial distance lists. -/
  | mergeList (e : Fin 42) (sram : SramRead)
  /-- FOLD (R185): The FOLD instruction folds node stacks into the tree root. -/
  | fold (e : Fin 42) (sram : SramRead)
  /-- COPY (R233): The COPY instruction copies a stream with layout conversion. -/
  | copy (e : Fin 42) (sram : SramRead)
  /-- WT_CYCLE (R323): Each 5 ns cycle of domain 16 the watchtower takes visible verdict tokens, compares positions and acts. -/
  | wtCycle
  /-- COMET_CREATE (R324): A detection reaches its creation point and a comet is created with LEAD and line lane. -/
  | cometCreate (lane : Fin 32)
  /-- OVERLENGTH (R326): A part running MAX_LEN with no trailing edge gets TRAIL = LEAD + MAX_LEN and OVERLENGTH. -/
  | overlength (lane : Fin 32)
  /-- IMAGE_ROW_OBSERVED (R325): A row of the configured output unit is judged occupied or not for IMAGE detection. -/
  | imageRowObserved (lane : Fin 32)
  /-- VERDICT_TOKEN_ARRIVAL (R333): A final verdict token reaches the watchtower and is recorded, ignored as duplicate or discarded as stale. -/
  | verdictTokenArrival
  /-- PROVISIONAL_TOKEN_ARRIVAL (R334): The first provisional verdict of a comet is recorded in PROV_VERDICT. -/
  | provisionalTokenArrival
  /-- COMMIT (R335): At the commit position the watchtower fixes the verdict or the fail-safe and its status. -/
  | commit (comet : Fin 65536)
  /-- EJECTION_START (R341): The start action of an ejection falls due and drives the group's local outputs. -/
  | ejectionStart (comet : Fin 65536)
  /-- EJECTION_END (R343): The end action releases the comet's outputs once the end position is passed. -/
  | ejectionEnd (comet : Fin 65536)
  /-- MIN_PULSE_END (R343): MIN_PULSE after energising expires and a pending release may cut the output. -/
  | minPulseEnd (comet : Fin 65536)
  /-- PULSE_CAP (R343): An output still on MAX_PULSE after energising is cut and PULSE_CAPPED is set. -/
  | pulseCap (comet : Fin 65536)
  /-- OUTPUT_ENERGISED (R348): The output feedback crosses 12 V and the ejection becomes visible with P_ON and T_ON. -/
  | outputEnergised (n : Fin 32)
  /-- RETIRE (R346): A committed comet past its ejection end with no active output retires. -/
  | retire (comet : Fin 65536)
  /-- EXPORT_RECORD (R346): A retired comet record is written to the export queue when it has room and its entry is freed. -/
  | exportRecord (comet : Fin 65536)
  /-- EJECT_SEND (R352): The remote start falls due with lead LEAD_ON + SEND_AHEAD and an EJECT command is sent. -/
  | ejectSend (comet : Fin 65536)
  /-- REMOTE_ACK (R351): A valve-bank acknowledgement arrives and is matched to its command. -/
  | remoteAck (group : Fin 16) (dgram : List Byte)
  /-- ACK_TIMEOUT (R353): A command unacknowledged after ACK_TIMEOUT is resent, or after three attempts sets REMOTE_NOACK. -/
  | ackTimeout (group : Fin 16) (seq : Word)
  /-- ARP_REFRESH (R350): The CP resolves a remote bank's Ethernet address by ARP every 30 s. -/
  | arpRefresh (group : Fin 16) (reply : Option (BitVec 48))
  /-- FIELD_SUPPLY_CHANGE (R358): The field supply changes state, forcing outputs off outside GOOD and resuming them on return. -/
  | fieldSupplyChange (decivolts : Nat) (heldNs : Nat)
  /-- DI_EDGE (R368): A field input edge is accepted after FILT + 1 clocks and captures time and position. -/
  | diEdge (n : Fin 16) (level : Bool) (held : Nat)
  /-- DI_OPEN (R370): An input current below 0.2 mA for 10 ms sets DI_OPEN and raises INPUT_OPEN. -/
  | diOpen (n : Fin 16) (microamps heldNs : Nat)
  /-- DI_OPEN_CLEAR (R370): DI_OPEN clears once the input current returns above 0.5 mA. -/
  | diOpenClear (n : Fin 16) (microamps : Nat)
  /-- FIO_DO_SET_WRITE (R359): A write of FIO_DO_SET sets HOST outputs and counts attempted changes to other owners' bits. -/
  | fioDoSetWrite (w : Writer) (v : Word)
  /-- OVERLOAD (R371): Current limit reached for 100 µs switches the output off and sets OVERLOAD. -/
  | overload (n : Fin 32) (heldNs : Nat)
  /-- OVERTEMP (R371): A switch junction above 150 °C switches the output off and sets OVERTEMP. -/
  | overtemp (n : Fin 32) (degC : Int)
  /-- OPEN_ON (R371): Current below 3 mA for 1 ms while energised sets OPEN_ON. -/
  | openOn (n : Fin 32) (microamps heldNs : Nat)
  /-- OPEN_OFF (R371): An output above 3 V for 1 ms while off with OPEN_EN sets OPEN_OFF. -/
  | openOff (n : Fin 32) (millivolts heldNs : Nat)
  /-- STUCK_ON (R371): An output above 12 V for 5 ms while commanded off sets STUCK_ON. -/
  | stuckOn (n : Fin 32) (millivolts heldNs : Nat)
  /-- OUTPUT_RESTART (R372): With RESTART set a faulted output returns to its commanded level once cooled and 10 ms have passed. -/
  | outputRestart (n : Fin 32) (degC : Int)
  /-- FIO_DO_CLEAR (R372): A write of FIO_DO_CLEAR clears a latched output fault if the switch has cooled. -/
  | fioDoClear (w : Writer) (v hot : Word)
  /-- MEMORY_INIT_DONE (R383): The memory initialiser finishes writing every sector and sets INIT_DONE. -/
  | memoryInitDone
  /-- MERGE_TIMEOUT (R390): A merge-buffer entry 256 ns old is retired by read-modify-write. -/
  | mergeTimeout (v : Fin 32)
  /-- PATROL_READ (R419): The patrol scrubber reads the next sector at its paced rate and logs any error. -/
  | patrolRead (inner : Nat) (first second : BitVec 36)
  /-- REWRITE (R420): A write of MEM_SCRUB_CMD.REWRITE reads, rewrites and re-reads a sector and classifies the error. -/
  | rewrite (w : Writer) (first third : BitVec 36)
  /-- INJECT_ARM (R430): A write of MEM_INJECT.ARM corrupts the next write of the target sector. -/
  | injectArm (w : Writer)
  /-- REFRESH_RATE_CHANGE (R387): A tower crossing 85 °C halves or restores its refresh interval. -/
  | refreshRateChange (tower : Fin 4) (degC : Int)
  /-- XLT_RESUME (R402): A write of XLT_RESUME resumes the engine's suspended transfer. -/
  | xltResume (w : Writer) (engine : Fin 64)
  /-- XLT_RESUME_FAIL (R402): A write of XLT_RESUME with FAIL faults the job with S_XLT_FAULT. -/
  | xltResumeFail (w : Writer) (engine : Fin 64)
  /-- XLT_INVAL (R405): A write of XLT_INVAL removes cached translations for one job over a page range. -/
  | xltInval (w : Writer) (handle : Fin 1024) (pages : Fin 65536)
  /-- XLT_INVAL_ALL (R405): A write of XLT_INVAL with ALL removes every cached translation. -/
  | xltInvalAll (w : Writer)
  /-- MIGRATION_START (R403): A write of XLT_MIG_CTRL.START begins moving a page. -/
  | migrationStart (w : Writer) (handle : Fin 1024) (big : Bool)
  /-- MIGRATION_DONE (R403): A page migration completes, the entry is made valid and suspended transfers resume. -/
  | migrationDone
  /-- CREDIT_REQUEST (R438): A producer requests n credits of a queue, granted whole or made to wait. -/
  | creditRequest (q : Fin 16384) (producer n : Nat)
  /-- CREDIT_GRANT (R438): A waiting credit request is granted once enough entries are free. -/
  | creditGrant (q : Fin 16384)
  /-- PACKET_RESERVE (R440): A producer reserves a packet, taking entries and a SEQ, with a wrap PAD if needed. -/
  | packetReserve (q : Fin 16384) (producer len : Nat)
  /-- BACK_FILL (R440): The producer back-fills the packet header, publishing it in reservation order. -/
  | backFill (q : Fin 16384) (producer : Nat) (seq : Word) (kind : Fin 128) (body : List Byte)
  /-- RECORD_PUBLISH (R443): A producer writes a whole record entry, publishing it or dropping it on a full DROP queue. -/
  | recordPublish (q : Fin 16384) (producer : Nat) (data : List Byte)
  /-- ABANDONED_PAD (R442): A reservation abandoned before back-fill is written and published as a PAD. -/
  | abandonedPad (q : Fin 16384) (producer : Nat) (seq : Word)
  /-- ENTRY_RELEASE (R445): A consumer releases entries it has taken. -/
  | entryRelease (q : Fin 16384) (n : Nat)
  /-- CP_CLAIM (R445): The CP claims up to 64 entries of a queue it consumes. -/
  | cpClaim (q : Fin 16384) (n : Nat)
  /-- POP (R446): A write of QM_POP copies the head entry into QM_POP_BUF or returns the not-valid tag. -/
  | pop (w : Writer) (q : Fin 16384)
  /-- CLIENT_CLEAR (R320): A write of QM_CLIENT_CLEAR clears one client's accounting registers. -/
  | clientClear (w : Writer) (client : Fin 64)
  /-- CLIENT_CLEAR_ALL (R320): A write of QM_CLIENT_CLEAR with ALL clears every client's accounting registers. -/
  | clientClearAll (w : Writer)
  /-- DOORBELL (R458): A write of F1_DOORBELL queues a doorbell record and makes the mailbox POSTED. -/
  | doorbell (m : Fin 16)
  /-- MAILBOX_WRITE (R458): A host write to a mailbox is stored if the mailbox is IDLE or DONE, otherwise ignored and counted. -/
  | mailboxWrite (m : Fin 16) (offset : Fin 4096) (data : List Byte)
  /-- BULK_WRITE (R462): A CMD53 block to the bulk port appends bytes to the staging buffer. -/
  | bulkWrite (data : List Byte) (crcOk : Bool)
  /-- APERTURE_BYTE_ACCESS (R465): A CMD52 aperture access goes through the 4-byte assembly latch. -/
  | apertureByteAccess (offset : Fin 65536) (write : Bool) (v : Byte)
  /-- EXPORT_READ (R471): A function 3 read returns export records in queue order, with empty records when the queue is empty. -/
  | exportRead (bytes : Nat)
  /-- REREAD (R472): Setting F3_CTRL.REREAD makes the next read return the previous read's records again. -/
  | reread
  /-- SDIO_RESET (R456): CMD0 or a write of RES resets the SDIO interface only. -/
  | sdioReset (res : Bool)
  /-- IO_ENABLE (R455): The host setting I/O Enable of function 1 releases the module from its held reset and boot begins. -/
  | ioEnable (fn : Fin 4)
  /-- CD_DISABLE (R454): Setting CD Disable in the CCCR disconnects the DAT[3] pull-up. -/
  | cdDisable
  /-- FIRMWARE_READY (R455): Firmware boot completes, the fixed queues exist and the functions report I/O Ready. -/
  | firmwareReady
  /-- NOP (R460): The NOP command returns S_OK. -/
  | nop (m : Fin 16)
  /-- STATE_SUMMARY (R476): STATE_SUMMARY with PART 0 fires a snapshot, builds a new summary and returns its first slice. -/
  | stateSummary (m : Fin 16)
  /-- STATE_SUMMARY_PART (R476): STATE_SUMMARY with PART 1 or 2 returns a later slice of the current summary. -/
  | stateSummaryPart (m : Fin 16)
  /-- MODULE_RESET (R473): The MODULE_RESET command writes its reply and resets the module. -/
  | moduleReset (m : Fin 16)
  /-- SET_OPERATING_POINT (R546): SET_OPERATING_POINT checks and starts a change of the requested operating point. -/
  | setOperatingPoint (m : Fin 16)
  /-- SET_POWER_STATE (R551): SET_POWER_STATE checks entry conditions and starts a change of power state. -/
  | setPowerState (m : Fin 16)
  /-- ORDERLY_REMOVE (R614): ORDERLY_REMOVE forces outputs off, writes the marker, powers down and lights REMOVE. -/
  | orderlyRemove (m : Fin 16)
  /-- SNAPSHOT (R577): The SNAPSHOT command fires a HOST trigger and returns the snapshot number. -/
  | snapshot (m : Fin 16)
  /-- CAM_CONTROL_READ (R475): CAM_CONTROL read fetches camera registers through control packets or GVCP. -/
  | camControlRead (m : Fin 16)
  /-- CAM_CONTROL_WRITE (R475): CAM_CONTROL write writes camera registers through control packets or GVCP. -/
  | camControlWrite (m : Fin 16)
  /-- QUEUE_CREATE (R449): QUEUE_CREATE creates a host queue with its ring in the pool. -/
  | queueCreate (m : Fin 16)
  /-- QUEUE_DESTROY (R449): QUEUE_DESTROY destroys a host queue unless it is in use. -/
  | queueDestroy (m : Fin 16)
  /-- LOAD_BEGIN (R462): LOAD_BEGIN opens the staging buffer, freeing any unconsumed one. -/
  | loadBegin (m : Fin 16)
  /-- LOAD_JOB (R283): LOAD_JOB validates the staged job image and creates a job descriptor. -/
  | loadJob (m : Fin 16)
  /-- LOAD_WEIGHT_SET (R309): LOAD_WEIGHT_SET loads a second weight set for a job. -/
  | loadWeightSet (m : Fin 16)
  /-- BIND_INPUT (R277): BIND_INPUT binds a job input to a pipeline output unit and line lanes after the feasibility check. -/
  | bindInput (m : Fin 16)
  /-- START (R287): START checks feasibility and starts a new run of the job. -/
  | start (m : Fin 16)
  /-- START_LAZY (R397): START with LAZY maps only the header and section table, faulting other pages in on first touch. -/
  | startLazy (m : Fin 16)
  /-- STOP (R287): STOP takes a running job to DRAINING. -/
  | stop (m : Fin 16)
  /-- PAUSE (R312): PAUSE saves each context of the job at its next boundary. -/
  | pause (m : Fin 16)
  /-- RESUME (R312): RESUME returns a paused job to its remembered state. -/
  | resume (m : Fin 16)
  /-- ABORT (R314): ABORT passes the completion arbitration and ends the run if it wins. -/
  | abort (m : Fin 16)
  /-- UNLOAD (R287): UNLOAD frees the job's descriptor, image and save areas. -/
  | unload (m : Fin 16)
  /-- SET_PRIORITY (R284): SET_PRIORITY changes a job's priority, client and share after re-checking feasibility. -/
  | setPriority (m : Fin 16)
  /-- SWITCH_WEIGHTS (R310): SWITCH_WEIGHTS checks a weight set and sets per-lane switch positions. -/
  | switchWeights (m : Fin 16)
  /-- CALIBRATE (R219): CALIBRATE derives parameter records from statistics records. -/
  | calibrate (m : Fin 16)
  /-- BANK_PREPARE (R248): BANK_PREPARE computes the norm table of a feature bank. -/
  | bankPrepare (m : Fin 16)
  /-- SPARE_SWAP (R317): SPARE_SWAP moves a logical spire to a spare physical spire. -/
  | spareSwap (m : Fin 16)
  /-- CLEAR_SOFT_MAP (R426): CLEAR_SOFT_MAP clears the soft repair map and the soft disabled-unit map. -/
  | clearSoftMap (m : Fin 16)
  /-- FW_UPDATE (R589): FW_UPDATE verifies a staged firmware image and writes it to flash. -/
  | fwUpdate (m : Fin 16)
  /-- ATTEST (R594): ATTEST returns a signed attestation report over the nonce. -/
  | attest (m : Fin 16)
  /-- WATCHDOG_TIMEOUT (R575): Ten ms without watchdog service starts a CP warm restart. -/
  | watchdogTimeout (reason : Fin 4) (pc : DWord)
  /-- WARM_RESTART_DONE (R23): A CP warm restart completes and waiting commands are served from the journal or again. -/
  | warmRestartDone (copiesLost : Bool)
  /-- TRAINING_DONE (R487): Lane training with the link partner completes and the lane becomes ACTIVE. -/
  | trainingDone (l : Fin 32) (peer : Fin 16) (precode : BitVec 2)
  /-- TRAIN_TIMEOUT (R487): Training not complete within 500 ms sets TRAIN_FAIL and restarts. -/
  | trainTimeout (l : Fin 32)
  /-- LANE_LOCK_LOSS (R508): An owned lane loses CDR lock and its owner treats it as a link loss. -/
  | laneLockLoss (l : Fin 32) (heldNs : Nat)
  /-- LANE_ACTIVITY (R490): A lane in DEEP sees signal for 10 µs and raises ACTIVITY. -/
  | laneActivity (l : Fin 32) (millivolts heldNs : Nat)
  /-- LINK_RESET (R491): A write of LN_LINK_RESET retrains every lane of the lane's owner. -/
  | linkReset (w : Writer) (v : Word)
  /-- PRBS_INJ_ONE (R494): A write of INJ_ONE flips the next generator bit. -/
  | prbsInjOne (w : Writer) (l : Fin 32) (v : Word)
  /-- ETH_FRAME_RECEIVE (R496): A received Ethernet frame is checked and delivered to the first matching consumer or dropped. -/
  | ethFrameReceive (m : Fin 8) (f : EthFrame)
  /-- ETH_FRAME_TRANSMIT (R498): A MAC starts sending the next frame by strict class priority. -/
  | ethFrameTransmit (m : Fin 8)
  /-- MAC_LINK_UP (R497): A MAC link comes up and the CP sends a gratuitous ARP. -/
  | macLinkUp (m : Fin 8)
  /-- FLIT_RECEIVE (R501): A Kalinamo flit is received, checked, acknowledged, forwarded or consumed. -/
  | flitReceive (j : Fin 4) (f : Flit) (crcOk : Bool)
  /-- RETRY_TIMEOUT (R501): ACK not advancing for RETRY_TIMEOUT makes the transmitter replay. -/
  | retryTimeout (j : Fin 4)
  /-- ACK_INTERVAL (R501): An acknowledgement is sent when 1 µs passes without one. -/
  | ackInterval (j : Fin 4)
  /-- LINK_RETRAIN_TIMEOUT (R502): A link not retrained within 100 ms raises LINK_DOWN. -/
  | linkRetrainTimeout (j : Fin 4)
  /-- LANE_FAIL (R508): A data lane fails its lock or error criteria and a swap is requested. -/
  | laneFail (j k : Fin 4) (lostNs unc corr : Nat)
  /-- SWAP_REQ_RECEIVE (R509): A SWAP_REQ from the peer is answered with SWAP_ACK and striping moves to the spare. -/
  | swapReqReceive (j k : Fin 4)
  /-- SWAP_ACK_RECEIVE (R509): A SWAP_ACK completes the spare-lane swap and raises SWAPPED. -/
  | swapAckReceive (j : Fin 4)
  /-- FAB_INJECT (R511): A write of FAB_INJECT corrupts the CRC of the next COUNT sequenced flits. -/
  | fabInject (w : Writer) (j : Fin 4) (n : Byte)
  /-- CAGE_INSERT (R607): A plugged module inserted in a cage is powered, read and released from reset. -/
  | cageInsert (k : Fin 4) (cls : Fin 16)
  /-- CAGE_REMOVE (R607): A plugged module removed from a cage turns the cage supply off. -/
  | cageRemove (k : Fin 4)
  /-- CAGE_POWER_FAULT (R606): A cage at its current limit for 1 ms turns its supply off and sets PWR_FAULT. -/
  | cagePowerFault (k : Fin 4) (heldNs : Nat)
  /-- TIME_RATE_WRITE (R516): A write of TIME_RATE rebases OFFSET and ANCHOR and applies the new rate. -/
  | timeRateWrite (w : Writer) (v : Word)
  /-- TIME_OFFSET_APPLY (R517): An applied write of the TIME_OFFSET pair steps the time base. -/
  | timeOffsetApply (w : Writer) (lo : Word)
  /-- TIME_ADJ (R517): A write of TIME_ADJ adds a signed step to OFFSET. -/
  | timeAdj (w : Writer) (v : Word)
  /-- PTP_RECEIVE (R522): A PTP message arrives with its receive stamp and is answered or passed to the CP servo. -/
  | ptpReceive (mac : Fin 8) (msg : PtpMsg)
  /-- PTP_SYNC_SEND (R522): In MASTER the time base sends Sync at the configured interval. -/
  | ptpSyncSend
  /-- PTP_ANNOUNCE_SEND (R522): In MASTER the time base sends Announce at the configured interval. -/
  | ptpAnnounceSend
  /-- PTP_DELAY_REQ_SEND (R522): The time base sends Delay_Req or Pdelay_Req at the configured interval. -/
  | ptpDelayReqSend
  /-- ANNOUNCE_TIMEOUT (R523): No Sync within the announce receipt timeout clears LOCKED. -/
  | announceTimeout
  /-- HISTORY_ENTRY (R531): At every 1,000 raw counts each enabled channel writes a position history entry. -/
  | historyEntry
  /-- OP_CHANGE_DONE (R547): An operating-point change completes, BUSY clears and the reply is written. -/
  | opChangeDone
  /-- THROTTLE_STEP_DOWN (R548): While too hot the throttle cap steps one point lower every 10 ms. -/
  | throttleStepDown (degC : Int)
  /-- THROTTLE_STEP_UP (R548): After 100 ms below the release threshold the cap steps one point higher every 100 ms. -/
  | throttleStepUp (degC : Int)
  /-- TEMPERATURE_HOT (R549): PM_TJ crossing 105 °C raises HOT. -/
  | temperatureHot (degC : Int)
  /-- THERMAL_TRIP (R549): PM_TJ at 125 °C or a tower at 100 °C enters S3 at once. -/
  | thermalTrip (core tower : Int)
  /-- POWER_ENTRY_DONE (R555): The PM sequencer completes entry to S1, S2 or S3 and the reply is written. -/
  | powerEntryDone
  /-- WAKE_BUS_FRAME (R559): A wake bus frame addressed to the module is answered and a WAKE command acts. -/
  | wakeBusFrame (addr : BitVec 7) (cmd : Byte)
  /-- WAKE_PATTERN (R560): A lane sees the wake pattern or activity and wakes the module. -/
  | wakePattern (lane : Fin 32) (bursts : List (Nat × Nat))
  /-- SDIO_START_BIT_WAKE (R558): A start bit on CMD wakes the module from S3. -/
  | sdioStartBitWake
  /-- WAKE_DONE (R556): A wake completes, restoring the retention words and returning to S0. -/
  | wakeDone (storeOk : Bool)
  /-- POWER_INPUT_CHANGE (R576): A 48 V input changes state, raising SUPPLY and writing a fault record. -/
  | powerInputChange (b : Bool) (decivolts : Nat) (heldNs : Nat)
  /-- BUS_UNDERVOLTAGE (R576): The 48 V bus falls below 34 V and the module loses power. -/
  | busUndervoltage (decivolts : Nat)
  /-- POWER_ON_RESET (R587): At POR the boot ROM verifies firmware, derives keys and starts firmware. -/
  | powerOnReset
  /-- MRST (R618): MRST_N held low for 10 µs causes a module reset. -/
  | mrst (heldNs : Nat)
  /-- SEATED (R612): Both presence pins low for 10 ms seat the module and the always-on domain starts. -/
  | seated (heldNs : Nat)
  /-- EMERGENCY_QUIESCE (R615): A presence pin high for 2 µs unseats the module and it quiesces within 200 µs. -/
  | emergencyQuiesce (pin : Fin 2) (heldNs : Nat)
  /-- SNAPIN_EDGE (R577): A rising edge on SNAPIN fires a snapshot trigger. -/
  | snapinEdge (heldNs : Nat)
  /-- SNAP_MATCH (R577): The measured position crossing SNAP_MATCH fires a snapshot trigger. -/
  | snapMatch (before : DWord)
  /-- FIRE (R577): A write of SNAP_CTRL.FIRE fires a HOST snapshot trigger. -/
  | fire (w : Writer)
  /-- ARM (R578): A write of SNAP_CTRL.ARM re-arms a HELD snapshot. -/
  | arm (w : Writer)
  /-- SNAPSHOT_LATCH_DONE (R579): All powered blocks have latched their snapshot words and DONE is set. -/
  | snapshotLatchDone
  /-- OUTPUT_DEENERGISED (R363): An output's feedback voltage falls through 12 V and its ENERGISED bit in FIO_DO_STATE clears. -/
  | outputDeenergised (n : Fin 32)
  /-- OUTPUT_WARN_CLEAR (R372): OPEN_ON, OPEN_OFF or STUCK_ON clears by itself when its condition ends. -/
  | outputWarnClear (n : Fin 32) (flag : OutWarn)
  /-- MRST_RELEASE (R618): MRST_N rises after a reset and the module restarts from step 7 of R613 without waiting for I/O Enable. -/
  | mrstRelease
  /-- SNAPOUT_PULSE_END (R578): The 1 µs SNAPOUT pulse of an accepted trigger ends and the pin returns low. -/
  | snapoutPulseEnd
  /-- LANE_UP (R488): An owned lane's CDR gains lock and LANE_UP is raised. -/
  | laneUp (l : Fin 32)
  /-- PRBS_CHECKER_LOCK (R493): A lane's PRBS checker locks after 64 consecutive error-free bits. -/
  | prbsCheckerLock (l : Fin 32) (goodBits : Nat)
  /-- PRBS_CHECKER_RESYNC (R493): Sixteen errors within 64 bits make the checker resynchronise, and the resynchronisation is counted. -/
  | prbsCheckerResync (l : Fin 32) (errors bits : Nat)
  /-- PRBS_BIT_ERROR (R493): A locked checker counts a bit error and raises PRBS_ERR. -/
  | prbsBitError (l : Fin 32)
  /-- PRBS_RATE_INJECTION (R494): With INJ_RATE = n, the generator flips one transmitted bit every 2^(n+10) bits. -/
  | prbsRateInjection (l : Fin 32) (bits : Nat)
  /-- CAGE_INTERRUPT (R605): IntL of a plugged QSFP112 module is asserted, and INT is set in LN_CAGE_STATUS and LN_CAGE_EVENT. -/
  | cageInterrupt (k : Fin 4)
  /-- CONTROL_ACKNOWLEDGE (R475): A CoaXPress control acknowledgement arrives from the camera during a CAM_CONTROL transfer. -/
  | controlAcknowledge (port : Fin 8) (ok : Bool) (data : List Byte)
  /-- CAMERA_TIMEOUT (R475): No acknowledgement within 200 ms makes CAM_CONTROL retry, or after three retries reply S_CAMERA_TIMEOUT. -/
  | cameraTimeout
  deriving DecidableEq, Repr

end Sys2Proof
end

