-- ==== Sys2Proof/Machine/Bits.lean ====
section
/-!
DEFINITION. Bit fields of registers, and positions as 64-bit words (R4, R39).
-/
namespace Sys2Proof

/-- Bits `[lo + len - 1 : lo]` of a word, as a number. -/
def fld {w : Nat} (x : BitVec w) (lo len : Nat) : Nat := (x.toNat >>> lo) % 2 ^ len

/-- Bits `[lo + len - 1 : lo]` of a word read as a two's-complement number. -/
def sfld {w : Nat} (x : BitVec w) (lo len : Nat) : Int := (BitVec.ofNat len (fld x lo len)).toInt

/-- A word with ones in `len` bits from `lo`. -/
def fldMask (lo len : Nat) : Word := BitVec.ofNat 32 ((2 ^ len - 1) <<< lo)

/-- `x` with bits `[lo + len - 1 : lo]` set to `v`; the other bits stay. -/
def setFld (x : Word) (lo len v : Nat) : Word :=
  (x &&& ~~~ fldMask lo len) ||| (BitVec.ofNat 32 (v <<< lo) &&& fldMask lo len)

/-- `x` with bit `n` set or cleared. -/
def putBit (x : Word) (n : Nat) (b : Bool) : Word := setFld x n 1 b.toNat

/-- The low word of a pair. -/
def loWord (x : DWord) : Word := x.setWidth 32
/-- The high word of a pair. -/
def hiWord (x : DWord) : Word := (x >>> 32).setWidth 32
/-- A pair from its halves. -/
def joinWords (hi lo : Word) : DWord := hi.setWidth 64 <<< 32 ||| lo.setWidth 64

/-- A position of `x` sub-counts as its 64-bit word: bits [63:62] repeat bit [61] (R4); the position wraps (R39). -/
def posWord (x : Int) : DWord := (BitVec.ofInt 62 x).signExtend 64

/-- The signed number of sub-counts from position `b` to position `a`, on the wrapping 62-bit circle (R39). -/
def posDiff (a b : DWord) : Int := (BitVec.ofInt 62 (a.toInt - b.toInt)).toInt

/-- A number held at the ends of the signed range of `n` bits. -/
def clampS (n : Nat) (x : Int) : Int := max (-(2 ^ (n - 1) : Int)) (min (2 ^ (n - 1) - 1 : Int) x)

/-- A number clamped to a range. -/
def clampI (lo hi x : Int) : Int := max lo (min hi x)
/-- A number clamped to a range. -/
def clampN (lo hi x : Nat) : Nat := max lo (min hi x)

/-- Least significant byte first. -/
def bytesLE : Nat → Nat → List Byte
  | 0, _ => []
  | n + 1, x => BitVec.ofNat 8 x :: bytesLE n (x / 256)

/-- The number of a little-endian byte list. -/
def natLE : List Byte → Nat
  | [] => 0
  | b :: t => b.toNat + 256 * natLE t

/-- Integer division by `2 ^ k` rounded to nearest, ties upward. -/
def rshiftHalfUp (x : Int) (k : Nat) : Int := (x + 2 ^ (k - 1)) / 2 ^ k

/-- The largest grid point `phase + k * pitch` at or below a position (R327). -/
def gridBelow (pitch phase : Nat) (p : Int) : Int :=
  if pitch = 0 then p else (phase : Int) + ((p - phase).fdiv pitch) * pitch

/-- Division rounded up. -/
def ceilDiv (a b : Nat) : Nat := (a + b - 1) / b

end Sys2Proof
end

