-- ==== Sys2Proof/Config.lean ====
section
/-!
DEFINITION. What the spec leaves to the implementation or to published standards, as constants with no body: nothing in
the model can see what they are, so a statement that mentions one holds whatever it is. Each is named in an assumption
log entry.
-/
namespace Sys2Proof

/-- A value the spec leaves open, fresh for each draw `n` (notes/assumptions: free values). -/
opaque Config.freeWord (n : Nat) : Word

/-! ### Encoder (R45 to R49) -/

/-- The 12-bit place within a quadrant that the interpolator reads from the magnitudes of sin and cos; the spec gives an
interpolation to 14 bits and no rounding. -/
opaque Config.interpolate (sinMag cosMag : Nat) : BitVec 12
/-- `K2 * e` of R48 in units of 2^-32 lc/s^2 for a bandwidth in Hz; R49 gives the format and no rounding. -/
opaque Config.obsAccel (bw : Nat) (e : BitVec 64) : BitVec 64
/-- `Ts * K2 * e` of R48 in units of 2^-32 lc/s. -/
opaque Config.obsDeltaV (bw : Nat) (e : BitVec 64) : BitVec 64
/-- `Ts * (v_hat + K1 * e)` of R48 in units of 2^-32 lc. -/
opaque Config.obsDeltaP (bw : Nat) (v e : BitVec 64) : BitVec 64

/-! ### Published cryptography (FIPS 202, FIPS 204) and what the factory wrote (R583, R584) -/

/-- SHAKE256 with 512-bit output: 64 bytes (R585). -/
opaque Config.shake256 (data : List Byte) : List Byte
/-- ML-DSA-65 verification: public key, context, message, signature. -/
opaque Config.mldsaVerify (key context message signature : List Byte) : Bool
/-- ML-DSA-65 key generation from a 32-byte seed: the public key. -/
opaque Config.mldsaPublic (seed : List Byte) : List Byte
/-- ML-DSA-65 signature under the key of a seed: context and message. -/
opaque Config.mldsaSign (seed context message : List Byte) : List Byte
/-- The unique device secret UDS (R583). -/
opaque Config.uds : List Byte
/-- The digests of the firmware root keys ROOT[0] to ROOT[3] (R583). -/
opaque Config.root (slot : Nat) : List Byte
/-- The firmware image in flash as delivered (R584). -/
opaque Config.factoryFirmware : List Byte
/-- The device certificate in flash (R593). -/
opaque Config.factoryCert : List Byte
/-- The physical spires that the fuse part of the disabled-unit map disables (R571). -/
opaque Config.fuseDisabled : List Nat
/-- Physical base of a ring copy that firmware places: queue, copy (R435, R436). -/
opaque Config.ringBase (q copy : Nat) : DWord
/-- Physical base of the comet table that firmware places (R331). -/
opaque Config.cometTableBase : DWord
/-- Physical base of the second copy of the comet table (R418). -/
opaque Config.cometTableMirror : DWord
/-- Byte `k` of an item that neither copy gives (R418): its queue and first entry; 65,536 and the index for a comet record. -/
opaque Config.lostByte (q first k : Nat) : Byte
/-- Free spare rows of the bank that holds a row, used at manufacture subtracted (R423). -/
opaque Config.spareRows (row : Nat) : Nat

/-- The MAC address that firmware gives MAC `m` (R495). -/
opaque Config.macAddr (m : Nat) : DWord

/-! ### PTP (IEEE 1588-2019): the servo and the best master clock algorithm run in firmware (R521, R523) -/

/-- The rate that the servo writes after a Sync: rate in force, offset from master. -/
opaque Config.servoRate (rate : Word) (offset : Int) : Word
/-- The PTP state the best master clock algorithm selects after an Announce: state, better announce seen. -/
opaque Config.bmca (state : Nat) (better : Bool) : Fin 7
/-- The mean path or link delay in ns that firmware computes from the stamps of an exchange. -/
opaque Config.meanDelay (t1 t2 t3 t4 : DWord) (correction : Int) : Nat
/-- The position a lookup returns where a channel has no history at all. -/
opaque Config.noHistory (channel : Nat) (t : DWord) : DWord

/-! ### Image pipelines (R90, R112) -/

/-- A sample that the spec gives no value: of a dropped line of a frame, or of a colour that no neighbour has. Pipeline
context, block, line and component. -/
opaque Config.openSample (ctx block line comp : Nat) : Nat

/-! ### Operators and tiles (R238, R300) -/

/-- The activation functions whose results R238 bounds by a number of ulp and does not fix: ACT code and FP32 input. -/
opaque Config.actApprox (code : Nat) (x : Word) : Word
/-- Byte `i` of the tile SRAM image that a save area holds: engine, job handle, raw count of the save (R301). -/
opaque Config.sramImage (engine handle : Nat) (at_ : DWord) (i : Nat) : Byte
/-- Job virtual address at which firmware places the statistics records of a layer: handle, layer (R216). -/
opaque Config.statBase (handle layer : Nat) : Nat
/-- The code of the fill rows of a part window: job handle, input (R226, R332). -/
opaque Config.windowFill (handle input : Nat) : Nat
/-- Passes over a vector that a normalisation takes in the post-processing stage: R167 counts passes, R240 states none. -/
opaque Config.normPasses : Nat
/-- A weight byte that no LOAD_WEIGHTS has staged: stream and offset. -/
opaque Config.openWeight (stream offset : Nat) : Byte

end Sys2Proof
end

