-- ==== Sys2Proof/Machine/Assoc.lean ====
section
/-!
DEFINITION. Sparse data by key: a list of key and value pairs, keys rising. It holds the register file, the memory, the
queues and every other sparse table of the module.
-/
namespace Sys2Proof

/-- A sparse table keyed by a number; an absent key has the table's default. -/
abbrev AMap (β : Type) := List (Nat × β)

/-- The entry of key `a`, if listed. -/
def AMap.look {β : Type} : AMap β → Nat → Option β
  | [], _ => none
  | (k, v) :: t, a => if a = k then some v else AMap.look t a

/-- `m` with key `a` holding `v`; keys stay in rising order. -/
def AMap.put {β : Type} : AMap β → Nat → β → AMap β
  | [], a, v => [(a, v)]
  | (k, w) :: t, a, v =>
    if a < k then (a, v) :: (k, w) :: t else if a = k then (a, v) :: t else (k, w) :: AMap.put t a v

/-- `m` without key `a`. -/
def AMap.del {β : Type} (m : AMap β) (a : Nat) : AMap β := List.filter (fun p => p.1 ≠ a) m

/-- `m` with key `a` holding `v`, in the form that lists no entry equal to the default `d`. -/
def AMap.store {β : Type} [DecidableEq β] (m : AMap β) (d : β) (a : Nat) (v : β) : AMap β :=
  if v = d then AMap.del m a else AMap.put m a v

/-- The value of key `a`, the default `d` where it is not listed. -/
def AMap.get {β : Type} (m : AMap β) (d : β) (a : Nat) : β := (AMap.look m a).getD d

/-- The keys rise strictly. -/
abbrev AMap.Sorted {β : Type} (m : AMap β) : Prop := List.Pairwise (fun p q => p.1 < q.1) m

/-- The canonical form: strictly rising keys, no entry equal to the default. -/
abbrev AMap.Canon {β : Type} (d : β) (m : AMap β) : Prop := AMap.Sorted m ∧ ∀ p ∈ m, p.2 ≠ d

end Sys2Proof
end

