-- ==== Sys2Proof/Machine/Float.lean ====
section
/-!
DEFINITION. Exact values of floating-point codes, one rounding function for every format and mode (R183), and the FP32
operations of the post-processing stage (R167): add, multiply, divide, square root, ordering.
-/
namespace Sys2Proof

/-! ### What the arithmetic counts -/

/-- Arithmetic events of one instruction: slices that became NaN, overflows and truncating slices (R180 to R183),
saturated integer and floating-point outputs, NaN outputs (R212 to R215), accumulator saturations (R217), and the operator
events of R254. -/
structure Cnt where
  invalid : Nat := 0
  overflow : Nat := 0
  trunc : Nat := 0
  satInt : Nat := 0
  satFp : Nat := 0
  nanOut : Nat := 0
  accSat : Nat := 0
  masked : Nat := 0
  allLow : Nat := 0
  short : Nat := 0
  clamped : Nat := 0
  deriving DecidableEq, Repr

/-- The events of two computations together. -/
def Cnt.plus (a b : Cnt) : Cnt :=
  { invalid := a.invalid + b.invalid, overflow := a.overflow + b.overflow, trunc := a.trunc + b.trunc,
    satInt := a.satInt + b.satInt, satFp := a.satFp + b.satFp, nanOut := a.nanOut + b.nanOut,
    accSat := a.accSat + b.accSat, masked := a.masked + b.masked, allLow := a.allLow + b.allLow,
    short := a.short + b.short, clamped := a.clamped + b.clamped }

/-- The events of a list of computations. -/
def Cnt.total (l : List Cnt) : Cnt := l.foldl Cnt.plus {}

/-- A value with the events of its computation. -/
abbrev Counted (α : Type) := α × Cnt

/-- The values and the events of a list of computations. -/
def countAll {α : Type} (l : List (Counted α)) : Counted (List α) := (l.map (fun p => p.1), Cnt.total (l.map (fun p => p.2)))

/-- A computation on a counted value. -/
def Counted.andThen {α β : Type} (x : Counted α) (f : α → Counted β) : Counted β := ((f x.1).1, x.2.plus (f x.1).2)

/-! ### Exact values -/

/-- The value of a code: a number `m * 2 ^ e` with a sign of its own, an infinity, or NaN. -/
inductive FV where
  | nan
  | inf (neg : Bool)
  | fin (neg : Bool) (m : Nat) (e : Int)
  deriving DecidableEq, Repr

/-- The value of a code with `eb` exponent bits and `mb` fraction bits, laid out sign first; an all-ones exponent is
special where `special` holds. -/
def decodeFloat (eb mb : Nat) (bias : Int) (special : Bool) (x : Nat) : FV :=
  let neg := decide (x / 2 ^ (eb + mb) % 2 = 1)
  let e := x / 2 ^ mb % 2 ^ eb
  let m := x % 2 ^ mb
  if special ∧ e = 2 ^ eb - 1 then (if m = 0 then .inf neg else .nan)
  else if e = 0 then .fin neg m (1 - bias - mb)
  else .fin neg (2 ^ mb + m) ((e : Int) - bias - mb)

/-- The value of an FP32 word. -/
def FV.ofF32 (x : Word) : FV := decodeFloat 8 23 127 true x.toNat

/-- The value of an X16 code (R172). -/
def FV.ofX16 (x : BitVec 16) : FV := decodeFloat 8 7 127 true x.toNat

/-- An integer as a value. -/
def FV.ofInt (i : Int) : FV := .fin (decide (i < 0)) i.natAbs 0

/-! ### Rounding (R183) -/

/-- Rounding modes of RND. -/
inductive Rnd where
  | rne | rtz | rup | rdn
  deriving DecidableEq, Repr

/-- The mode that an RND field selects. -/
def Rnd.of (n : BitVec 2) : Rnd := if n = 0 then .rne else if n = 1 then .rtz else if n = 2 then .rup else .rdn

/-- The number of units nearest to `n / d` under a mode, for a magnitude with a sign. -/
def roundQuot (mode : Rnd) (neg : Bool) (n d : Nat) : Nat :=
  let q := n / d
  let r := n % d
  let up := match mode with
    | .rne => decide (d < 2 * r) || (decide (2 * r = d) && decide (q % 2 = 1))
    | .rtz => false
    | .rup => !neg && decide (r ≠ 0)
    | .rdn => neg && decide (r ≠ 0)
  if up then q + 1 else q

/-- `2 ^ k` for `0 ≤ k`, and 1 below. -/
def pow2 (k : Int) : Nat := 2 ^ k.toNat

/-- The number of units of `2 ^ lsb` nearest to `n / d * 2 ^ e`. -/
def roundUnits (mode : Rnd) (neg : Bool) (n d : Nat) (e lsb : Int) : Nat :=
  roundQuot mode neg (n * pow2 (e - lsb)) (d * pow2 (lsb - e))

/-- floor(log2(n / d)) for a positive quotient. -/
def log2Quot (n d : Nat) : Int :=
  let k : Int := (Nat.log2 n : Int) - (Nat.log2 d : Int)
  if d * pow2 k ≤ n * pow2 (-k) then k else k - 1

/-- A magnitude rounded to `p` significant bits, with no bit below `2 ^ emin`: units and their exponent. -/
def roundTo (mode : Rnd) (neg : Bool) (p : Nat) (emin : Int) (n d : Nat) (e : Int) : Nat × Int :=
  let lsb := max (log2Quot n d + e - (p - 1)) emin
  let u := roundUnits mode neg n d e lsb
  if 2 ^ p ≤ u then (u / 2, lsb + 1) else (u, lsb)

/-- The layout of a floating-point format: exponent and fraction bits, bias. -/
structure FloatFmt where
  eb : Nat
  mb : Nat
  bias : Int
  deriving DecidableEq, Repr

/-- Exponent of the least subnormal. -/
def FloatFmt.emin (f : FloatFmt) : Int := 1 - f.bias - f.mb

/-- The code of a rounded magnitude `u * 2 ^ lsb`, no bound applied. -/
def FloatFmt.encode (f : FloatFmt) (neg : Bool) (u : Nat) (lsb : Int) : Nat :=
  let s := if neg then 2 ^ (f.eb + f.mb) else 0
  if u < 2 ^ f.mb then s + u else s + (u - 2 ^ f.mb) + (lsb - f.emin + 1).toNat * 2 ^ f.mb

def f32 : FloatFmt := { eb := 8, mb := 23, bias := 127 }
def x16 : FloatFmt := { eb := 8, mb := 7, bias := 127 }

/-- The one NaN result (R182). -/
def nanWord : Word := 0x7FC00000
/-- Infinity with a sign. -/
def infWord (neg : Bool) : Word := if neg then 0xFF800000 else 0x7F800000
/-- Zero with a sign. -/
def zeroWord (neg : Bool) : Word := if neg then 0x80000000 else 0
/-- The largest finite value with a sign. -/
def maxWord (neg : Bool) : Word := if neg then 0xFF7FFFFF else 0x7F7FFFFF

/-- The result of a value that rounds beyond the FP32 range (R183). -/
def overflowWord (mode : Rnd) (neg : Bool) : Word :=
  match mode with
  | .rne => infWord neg
  | .rtz => maxWord neg
  | .rup => if neg then maxWord true else infWord false
  | .rdn => if neg then infWord true else maxWord false

/-- `n / d * 2 ^ e` with a sign, rounded once to FP32 (R183). A magnitude of zero keeps the sign given. -/
def roundF32 (mode : Rnd) (neg : Bool) (n d : Nat) (e : Int) : Counted Word :=
  if n = 0 then (zeroWord neg, {})
  else
    let r := roundTo mode neg 24 f32.emin n d e
    if 2 ^ 23 ≤ r.1 ∧ 105 ≤ r.2 then (overflowWord mode neg, { overflow := 1 })
    else (BitVec.ofNat 32 (f32.encode neg r.1 r.2), {})

/-- A sum in units of `2 ^ e` rounded to FP32; an exact zero is +0, or −0 in mode RDN (R182). -/
def roundInt (mode : Rnd) (i : Int) (e : Int) : Counted Word :=
  if i = 0 then (zeroWord (mode = .rdn), {}) else roundF32 mode (decide (i < 0)) i.natAbs 1 e

/-! ### FP32 operations -/

/-- A NaN that arises from operands that are not NaN (R182). -/
def invalidNan : Counted Word := (nanWord, { invalid := 1 })

/-- Signed magnitude in units of `2 ^ lsb`. -/
def FV.units (neg : Bool) (m : Nat) (e lsb : Int) : Int := (if neg then -1 else 1) * (m * pow2 (e - lsb) : Nat)

/-- The sum of two values, rounded once. -/
def addFV (mode : Rnd) (a b : FV) : Counted Word :=
  match a, b with
  | .nan, _ => (nanWord, {})
  | _, .nan => (nanWord, {})
  | .inf x, .inf y => if x = y then (infWord x, {}) else invalidNan
  | .inf x, .fin _ _ _ => (infWord x, {})
  | .fin _ _ _, .inf y => (infWord y, {})
  | .fin x m e, .fin y n f =>
    if m = 0 ∧ n = 0 ∧ x = y then (zeroWord x, {})
    else roundInt mode (FV.units x m e (min e f) + FV.units y n f (min e f)) (min e f)

/-- IEEE 754 addition in a mode. -/
def fAdd (mode : Rnd) (a b : Word) : Counted Word := addFV mode (FV.ofF32 a) (FV.ofF32 b)

/-- The word with its sign turned over. -/
def fNeg (a : Word) : Word := a ^^^ 0x80000000

/-- IEEE 754 subtraction in a mode. -/
def fSub (mode : Rnd) (a b : Word) : Counted Word := fAdd mode a (fNeg b)

/-- The product of two values, rounded once. -/
def mulFV (mode : Rnd) (a b : FV) : Counted Word :=
  match a, b with
  | .nan, _ => (nanWord, {})
  | _, .nan => (nanWord, {})
  | .inf x, .inf y => (infWord (x != y), {})
  | .inf x, .fin y n _ => if n = 0 then invalidNan else (infWord (x != y), {})
  | .fin x m _, .inf y => if m = 0 then invalidNan else (infWord (x != y), {})
  | .fin x m e, .fin y n f => roundF32 mode (x != y) (m * n) 1 (e + f)

/-- IEEE 754 multiplication in a mode. -/
def fMul (mode : Rnd) (a b : Word) : Counted Word := mulFV mode (FV.ofF32 a) (FV.ofF32 b)

/-- The quotient of two values, rounded once. -/
def divFV (mode : Rnd) (a b : FV) : Counted Word :=
  match a, b with
  | .nan, _ => (nanWord, {})
  | _, .nan => (nanWord, {})
  | .inf _, .inf _ => invalidNan
  | .inf x, .fin y _ _ => (infWord (x != y), {})
  | .fin x _ _, .inf y => (zeroWord (x != y), {})
  | .fin x m e, .fin y n f =>
    if n = 0 then (if m = 0 then invalidNan else (infWord (x != y), {}))
    else roundF32 mode (x != y) m n (e - f)

/-- IEEE 754 division in a mode. -/
def fDiv (mode : Rnd) (a b : Word) : Counted Word := divFV mode (FV.ofF32 a) (FV.ofF32 b)

/-- floor(sqrt n), bit by bit from bit `k - 1` down, starting from `acc`. -/
def sqrtBits : Nat → Nat → Nat → Nat
  | 0, _, acc => acc
  | k + 1, n, acc => sqrtBits k n (if (acc + 2 ^ k) * (acc + 2 ^ k) ≤ n then acc + 2 ^ k else acc)

/-- Square root of an FP32 word, correctly rounded to nearest (R250). -/
def fSqrt (a : Word) : Counted Word :=
  match FV.ofF32 a with
  | .nan => (nanWord, {})
  | .inf neg => if neg then invalidNan else (infWord false, {})
  | .fin neg m e =>
    if m = 0 then (zeroWord neg, {})
    else if neg then invalidNan
    else
      let odd := decide (e % 2 ≠ 0)
      let n := (if odd then 2 * m else m) * 2 ^ 64
      let e' := (if odd then e - 1 else e) / 2 - 32
      let r := sqrtBits 48 n 0
      let sticky := if r * r = n then 0 else 1
      roundF32 .rne false (2 * r + sticky) 1 (e' - 1)

/-- A value as FP32, rounded once to nearest: RNE32. -/
def FV.toF32 (v : FV) : Word :=
  match v with
  | .nan => nanWord
  | .inf neg => infWord neg
  | .fin neg m e => (roundF32 .rne neg m 1 e).1

/-- An integer as FP32. -/
def intF32 (i : Int) : Word := (FV.ofInt i).toF32

/-! ### Order -/

/-- The word is a NaN. -/
def isNan (a : Word) : Bool := decide (fld a 23 8 = 255) && decide (fld a 0 23 ≠ 0)
/-- The word is an infinity. -/
def isInf (a : Word) : Bool := decide (fld a 23 8 = 255) && decide (fld a 0 23 = 0)
/-- The word is a zero of either sign. -/
def isZero (a : Word) : Bool := decide (fld a 0 31 = 0)
/-- The sign bit. -/
def isNeg (a : Word) : Bool := a.getLsbD 31

/-- Rank of a word that is no NaN, with −0 below +0 (R217, R235, R237). -/
def rankW (a : Word) : Int := if isNeg a then -1 - (fld a 0 31 : Int) else fld a 0 31

/-- Rank of a word that is no NaN, with both zeros equal (R241, R251). -/
def rankEq (a : Word) : Int := if isNeg a then -(fld a 0 31 : Int) else fld a 0 31

/-- The larger value, −0 below +0; NaN if either is NaN (R237). -/
def fMax (a b : Word) : Word := if isNan a ∨ isNan b then nanWord else if rankW a < rankW b then b else a
/-- The smaller value, −0 below +0; NaN if either is NaN (R237). -/
def fMin (a b : Word) : Word := if isNan a ∨ isNan b then nanWord else if rankW b < rankW a then b else a

end Sys2Proof
end

