-- ==== Sys2Proof/Machine/Slice.lean ====
section
/-!
DEFINITION. Element formats, the expansion to X16 and block-exact accumulation (R172 to R187, R194 to R203, R207 to
R209).
-/
namespace Sys2Proof

/-! ### Formats (R173, R194, R260) -/

/-- Bits of an element by FORMAT code of R260; 0 for the reserved code. -/
def fmtBits (f : Nat) : Nat :=
  match f with
  | 0 => 4 | 1 => 8 | 2 => 8 | 3 => 8 | 4 => 8 | 5 => 16 | 6 => 16 | 7 => 32
  | 8 => 8 | 9 => 8 | 10 => 8 | 11 => 6 | 12 => 6 | 13 => 4 | 14 => 16 | _ => 0

/-- INT4, INT8 and UINT8. -/
def fmtInt (f : Nat) : Bool := decide (f ≤ 2)
/-- Formats with MX block scales. -/
def fmtMx (f : Nat) : Bool := decide (8 ≤ f) && decide (f ≤ 13)
/-- Formats of the three-pass class (R173). -/
def fmtThree (f : Nat) : Bool := decide (f = 6) || decide (f = 7)
/-- Formats of the double class (R173). -/
def fmtDouble (f : Nat) : Bool := decide (f = 0) || decide (f = 3) || decide (f = 4) || (decide (9 ≤ f) && decide (f ≤ 13))

/-- Bytes that `n` packed elements take (R194). -/
def packedBytes (f n : Nat) : Nat := ceilDiv (n * fmtBits f) 8

/-- The code of element `i` of packed bytes (R194). -/
def codeAt (f : Nat) (bytes : List Byte) (i : Nat) : Nat :=
  let b := i * fmtBits f
  natLE ((bytes.drop (b / 8)).take 5) / 2 ^ (b % 8) % 2 ^ fmtBits f

/-- Codes packed into bytes (R194). -/
def packCodes (f : Nat) (codes : List Nat) : List Byte :=
  bytesLE (packedBytes f codes.length) (codes.foldr (fun c acc => c % 2 ^ fmtBits f + acc * 2 ^ fmtBits f) 0)

/-- A code of an integer format as the number it stands for. -/
def codeInt (f c : Nat) : Int := if f = 2 then (c % 256 : Nat) else if f = 0 then (BitVec.ofNat 4 c).toInt else (BitVec.ofNat 8 c).toInt

/-- The value of a code before scale and zero point (R173, R197). -/
def codeValue (f c : Nat) : FV :=
  match f with
  | 0 => .ofInt (codeInt 0 c)
  | 1 => .ofInt (codeInt 1 c)
  | 2 => .ofInt (codeInt 2 c)
  | 3 => if c % 128 = 127 then .nan else decodeFloat 4 3 7 false c
  | 4 => decodeFloat 5 2 15 true c
  | 5 => decodeFloat 8 7 127 true c
  | 6 => decodeFloat 5 10 15 true c
  | 7 => decodeFloat 8 23 127 true c
  | 8 => match FV.ofInt (codeInt 1 c) with
    | .fin n m e => .fin n m (e - 6)
    | v => v
  | 9 => if c % 128 = 127 then .nan else decodeFloat 4 3 7 false c
  | 10 => decodeFloat 5 2 15 true c
  | 11 => decodeFloat 3 2 3 false c
  | 12 => decodeFloat 2 3 1 false c
  | 13 => decodeFloat 2 1 1 false c
  | _ => .ofInt (c : Int)

/-- The X16 code of a value that X16 holds exactly, or the nearest one (R173, R174, R177). -/
def toX16 (v : FV) : BitVec 16 :=
  match v with
  | .nan => 0x7FC0
  | .inf neg => if neg then 0xFF80 else 0x7F80
  | .fin neg m e =>
    if m = 0 then (if neg then 0x8000 else 0)
    else
      let r := roundTo .rne neg 8 (-133) m 1 e
      if 2 ^ 7 ≤ r.1 ∧ 121 ≤ r.2 then (if neg then 0xFF80 else 0x7F80) else BitVec.ofNat 16 (x16.encode neg r.1 r.2)

/-- An operand as the multiplier takes it: hi and lo (R173, R177). The lo part of an operand outside the three-pass class
is zero. -/
def expand (f c : Nat) : FV × FV :=
  if fmtThree f then
    let a := (codeValue f c).toF32
    let hi : BitVec 16 := BitVec.ofNat 16 (a.toNat / 65536)
    match FV.ofF32 a with
    | .nan => (.nan, .fin false 0 0)
    | .inf n => (.inf n, .fin false 0 0)
    | .fin neg m e =>
      let low := fld a 0 16
      let lo := FV.ofX16 (toX16 (.fin neg (if m = 0 then 0 else low) e))
      (FV.ofX16 hi, lo)
  else (FV.ofX16 (toX16 (codeValue f c)), .fin false 0 0)

/-! ### Slices (R179 to R183) -/

/-- One product of a slice. -/
def mulExact (a b : FV) : FV :=
  match a, b with
  | .nan, _ => .nan
  | _, .nan => .nan
  | .inf x, .inf y => .inf (x != y)
  | .inf x, .fin y n _ => if n = 0 then .nan else .inf (x != y)
  | .fin x m _, .inf y => if m = 0 then .nan else .inf (x != y)
  | .fin x m e, .fin y n f => .fin (x != y) (m * n) (e + f)

/-- The products of one pair of operands: one, or three in three-pass mode (R164, R177). -/
def passes (three : Bool) (a b : FV × FV) : List FV :=
  if three then [mulExact a.1 b.1, mulExact a.1 b.2, mulExact a.2 b.1] else [mulExact a.1 b.1]

/-- Weight exponent of the leading bit of a nonzero product. -/
def FV.lead? (v : FV) : Option Int :=
  match v with
  | .fin _ m e => if m = 0 then none else some ((Nat.log2 m : Int) + e)
  | _ => none

/-- E_max of a slice, if it has a nonzero product (R179). -/
def eMax (ps : List FV) : Option Int :=
  ps.foldl (fun acc v => match acc, v.lead? with
    | none, x => x
    | some a, none => some a
    | some a, some b => some (max a b)) none

/-- A product in units of the window's least significant bit, truncated towards minus infinity, and whether a nonzero bit
was discarded (R180). -/
def windowTerm (lsb : Int) (v : FV) : Int × Bool :=
  match v with
  | .fin neg m e =>
    let i : Int := (if neg then -1 else 1) * (m * pow2 (e - lsb) : Nat)
    let d : Int := (pow2 (lsb - e) : Nat)
    (i.fdiv d, decide (i.fmod d ≠ 0))
  | _ => (0, false)

/-- The window value of a slice's finite products, its exponent, and whether the slice truncates. -/
def windowSum (ps : List FV) : Int × Int × Bool :=
  match eMax ps with
  | none => (0, 0, false)
  | some em =>
    let ts := ps.map (windowTerm (em - 79))
    ((ts.map (fun t => t.1)).sum, em - 79, ts.any (fun t => t.2))

/-- The result of a slice from its products, with the exponent of its block scales; `none` when a scale is 0xFF. `opNan`:
some operand is NaN (R181, R182). -/
def sliceResult (mode : Rnd) (ps : List FV) (scale : Option Int) (opNan : Bool) : Counted Word :=
  let pos := ps.any (fun v => decide (v = .inf false))
  let neg := ps.any (fun v => decide (v = .inf true))
  if opNan then (nanWord, {})
  else if ps.any (fun v => decide (v = .nan)) ∨ (pos ∧ neg) ∨ scale.isNone then invalidNan
  else if pos then (infWord false, {})
  else if neg then (infWord true, {})
  else
    let w := windowSum ps
    let r := roundInt mode w.1 (w.2.1 + scale.getD 0)
    (r.1, r.2.plus { trunc := w.2.2.toNat })

/-- The exponent that two E8M0 block scales give a slice (R181, R195). -/
def scaleExp (xa xb : Nat) : Option Int := if xa = 255 ∨ xb = 255 then none else some ((xa : Int) + xb - 254)

/-- An operand of a slice: its FORMAT and its code. -/
structure Elem where
  fmt : Nat
  code : Nat
  deriving DecidableEq, Repr

/-- The element is a NaN code. -/
def Elem.isNan (x : Elem) : Bool := decide (codeValue x.fmt x.code = .nan)

/-- A slice over pairs of operands of the array (R164 to R182). -/
def sliceDot (mode : Rnd) (pairs : List (Elem × Elem)) (xa xb : Nat) : Counted Word :=
  let three := pairs.any (fun p => fmtThree p.1.fmt || fmtThree p.2.fmt)
  sliceResult mode (pairs.flatMap (fun p => passes three (expand p.1.fmt p.1.code) (expand p.2.fmt p.2.code)))
    (scaleExp xa xb) (pairs.any (fun p => p.1.isNan || p.2.isNan))

/-- A slice of integer codes with zero points, in exact integers (R201, R203): `pairs` holds activation and weight codes. -/
def sliceInt (za zc : Int) (pairs : List (Int × Int)) : Int :=
  let p := (pairs.map (fun q => q.1 * q.2)).sum
  let a := (pairs.map (fun q => q.1)).sum
  let w := (pairs.map (fun q => q.2)).sum
  p - zc * a - za * w + pairs.length * za * zc

/-! ### The tree and the node stacks (R184, R185) -/

/-- One level of the tree: elements 2i and 2i + 1 are added, and an odd last element passes on. -/
def treeLevel (mode : Rnd) : List Word → Counted (List Word)
  | a :: b :: t =>
    let s := fAdd mode a b
    let r := treeLevel mode t
    (s.1 :: r.1, s.2.plus r.2)
  | l => (l, {})

/-- Levels until one value remains; `fuel` bounds the number of levels. -/
def treeFuel (mode : Rnd) : Nat → List Word → Counted Word
  | 0, l => (l.headD 0, {})
  | fuel + 1, l =>
    match l with
    | [] => (0, {})
    | [x] => (x, {})
    | _ =>
      let r := treeLevel mode l
      let q := treeFuel mode fuel r.1
      (q.1, r.2.plus q.2)

/-- The tree of R184 over a list of values. -/
def treeSum (mode : Rnd) (l : List Word) : Counted Word := treeFuel mode (Nat.log2 l.length + 1) l

/-- A node of a stack: its level and its value. -/
abbrev Node := Nat × Word

/-- A slice result joins a node stack, newest first: nodes of one level are added as long as two stand on top. `fuel`
bounds the merges. -/
def pushNode (mode : Rnd) : Nat → Node → List Node → Counted (List Node)
  | 0, n, st => (n :: st, {})
  | fuel + 1, n, st =>
    match st with
    | [] => ([n], {})
    | top :: rest =>
      if top.1 = n.1 then
        let s := fAdd mode top.2 n.2
        let r := pushNode mode fuel (n.1 + 1, s.1) rest
        (r.1, s.2.plus r.2)
      else (n :: top :: rest, {})

/-- Slice results join a node stack in ascending order. -/
def pushAll (mode : Rnd) : List Word → List Node → Counted (List Node)
  | [], st => (st, {})
  | w :: t, st =>
    let a := pushNode mode 32 (0, w) st
    let r := pushAll mode t a.1
    (r.1, a.2.plus r.2)

/-- The fold of a stack from its newest entry to its oldest, given an accumulated newest part. -/
def foldNodes (mode : Rnd) : Word → List Node → Counted Word
  | acc, [] => (acc, {})
  | acc, n :: t =>
    let s := fAdd mode n.2 acc
    let r := foldNodes mode s.1 t
    (r.1, s.2.plus r.2)

/-- The root of a node stack (R185). -/
def foldStack (mode : Rnd) : List Node → Counted Word
  | [] => (0, {})
  | n :: t => foldNodes mode n.2 t

/-- The levels of the nodes that `n` slices leave on a stack, newest (lowest) first. -/
def stackLevels (n : Nat) : List Nat := (List.range 17).filter (fun k => decide (n / 2 ^ k % 2 = 1))

/-- A node stack as it lies in DRAM: at most 16 FP32 values, oldest first, in an entry of 64 bytes. -/
def stackBytes (st : List Node) : List Byte :=
  let b := (st.reverse.map (fun n => bytesLE 4 n.2.toNat)).flatten
  b ++ List.replicate (64 - b.length) 0

/-- The node stack of `n` slices in an entry of 64 bytes. -/
def stackOf (n : Nat) (entry : List Byte) : List Node :=
  ((stackLevels n).reverse.zipIdx.map (fun p => (p.1, BitVec.ofNat 32 (natLE ((entry.drop (4 * p.2)).take 4))))).reverse

/-- Values cut into slices of 32; the last may be shorter. -/
def chunks32 {α : Type} : Nat → List α → List (List α)
  | 0, _ => []
  | n + 1, l => l.take 32 :: chunks32 n (l.drop 32)

/-- A dot product of elements without scales or zero points: slices and tree (R248, R250). -/
def dotElems (mode : Rnd) (pairs : List (Elem × Elem)) : Counted Word :=
  (countAll ((chunks32 (ceilDiv pairs.length 32) pairs).map (fun p => sliceDot mode p 127 127))).andThen (treeSum mode)

end Sys2Proof
end

