-- ==== Sys2Proof/Machine/Status.lean ====
section
/-!
DEFINITION. The status codes (R13, R478).
-/
namespace Sys2Proof.Machine

/-- Success (R478). -/
def S_OK : Nat := 0x0000
/-- OPCODE not defined (R473) (R478). -/
def S_UNKNOWN_COMMAND : Nat := 0x0001
/-- LENGTH wrong for the opcode (R478). -/
def S_BAD_LENGTH : Nat := 0x0002
/-- Reserved field not zero, or value out of range (R478). -/
def S_BAD_FIELD : Nat := 0x0003
/-- Resource in use (R478). -/
def S_BUSY : Nat := 0x0004
/-- Command not allowed in the job's state (R478). -/
def S_JOB_STATE : Nat := 0x0005
/-- No job with that handle (R478). -/
def S_HANDLE_INVALID : Nat := 0x0006
/-- Completion came before the abort (R478). -/
def S_ALREADY_COMPLETE : Nat := 0x0007
/-- Run ended by abort (R478). -/
def S_ABORTED : Nat := 0x0008
/-- No entry or data to return (R478). -/
def S_NOT_VALID : Nat := 0x0009
/-- Staging buffer not filled (R478). -/
def S_LOAD_INCOMPLETE : Nat := 0x000A
/-- Power state change refused (R478). -/
def S_POWER_STATE : Nat := 0x000B
/-- 64 jobs already loaded (R478). -/
def S_JOB_LIMIT : Nat := 0x000C
/-- Configuration not allowed (R478). -/
def S_INVALID_CONFIG : Nat := 0x0100
/-- Check of R16 fails (R478). -/
def S_DEADLINE_INFEASIBLE : Nat := 0x0101
/-- Pixel budget exceeded (R478). -/
def S_INGRESS_BUDGET : Nat := 0x0102
/-- Serial lane claimed twice (R478). -/
def S_LANE_CONFLICT : Nat := 0x0103
/-- Lane payload exceeded (R478). -/
def S_LANE_BUDGET : Nat := 0x0104
/-- Vertical reach above 64 lines (R478). -/
def S_MESH_RANGE : Nat := 0x0105
/-- Decoder rate or budget exceeded (R478). -/
def S_DECODE_BUDGET : Nat := 0x0106
/-- Batch slots exceeded (R478). -/
def S_SLOT_BUDGET : Nat := 0x0107
/-- Spire shares exceeded (R478). -/
def S_SHARE_BUDGET : Nat := 0x0108
/-- Queue pool exhausted (R478). -/
def S_QUEUE_BUDGET : Nat := 0x0109
/-- Queue not enabled or not host-consumed (R478). -/
def S_QUEUE_ACCESS : Nat := 0x010A
/-- DRAM exhausted (R478). -/
def S_MEM_BUDGET : Nat := 0x010B
/-- Camera did not acknowledge (R475) (R478). -/
def S_CAMERA_TIMEOUT : Nat := 0x010C
/-- Job image malformed (R478). -/
def S_IMAGE_FORMAT : Nat := 0x0200
/-- Format or firmware release mismatch (R478). -/
def S_IMAGE_VERSION : Nat := 0x0201
/-- Digest mismatch (R478). -/
def S_IMAGE_DIGEST : Nat := 0x0202
/-- Key unknown or revoked, or signature invalid (R478). -/
def S_IMAGE_SIGNATURE : Nat := 0x0203
/-- Signature required (R478). -/
def S_IMAGE_UNSIGNED : Nat := 0x0204
/-- Logical spire count differs, or spire lost (R478). -/
def S_SPIRES_UNAVAILABLE : Nat := 0x0205
/-- Split plan or modules disagree (R478). -/
def S_SPLIT_MISMATCH : Nat := 0x0206
/-- Parameter record invalid (R478). -/
def S_QPARAM_INVALID : Nat := 0x0207
/-- Output size of zero or less (R478). -/
def S_SHAPE_EMPTY : Nat := 0x0208
/-- Reflect padding too large (R478). -/
def S_PAD_RANGE : Nat := 0x0209
/-- Filter above 15 × 15 (R478). -/
def S_FILTER_TOO_LARGE : Nat := 0x020A
/-- Operator limit exceeded (R478). -/
def S_OP_LIMIT : Nat := 0x020B
/-- Instruction or ordering invalid (R478). -/
def S_INSTR_INVALID : Nat := 0x020C
/-- Tile above 24,000 tokens (R478). -/
def S_TILE_TOO_LONG : Nat := 0x020D
/-- Stream hazard within a step (R478). -/
def S_TILE_HAZARD : Nat := 0x020E
/-- Tile SRAM exceeded (R478). -/
def S_SRAM_BUDGET : Nat := 0x020F
/-- Compute terms invalid (R478). -/
def S_TERM_INCONSISTENT : Nat := 0x0210
/-- Weight set differs beyond its sections (R478). -/
def S_WEIGHT_SET_MISMATCH : Nat := 0x0211
/-- Firmware image failed verification (R478). -/
def S_FW_IMAGE : Nat := 0x0212
/-- Scale tag mismatch (R478). -/
def S_SCALE_SEQ : Nat := 0x0300
/-- Unresolvable translation fault (R478). -/
def S_XLT_FAULT : Nat := 0x0301
/-- Uncorrectable data (R478). -/
def S_UNCORRECTABLE : Nat := 0x0302
/-- No final verdict at commit (R478). -/
def S_LATE_VERDICT : Nat := 0x0303
/-- Fail-safe requested by marks or class range (R478). -/
def S_FAILSAFE_REQUEST : Nat := 0x0304
/-- Encoder channel faulted (R478). -/
def S_ENC_FAULT : Nat := 0x0305
/-- Picture dimensions above maximum (R478). -/
def S_DIMS_EXCEED : Nat := 0x0400
/-- Stream feature not supported (R478). -/
def S_STREAM_UNSUPPORTED : Nat := 0x0401
/-- Statistics record empty (R478). -/
def S_CALIB_EMPTY : Nat := 0x0402
/-- Statistics saw infinity (R478). -/
def S_CALIB_NONFINITE : Nat := 0x0403

end Sys2Proof.Machine
end

