-- ==== Sys2Proof/Machine/Requant.lean ====
section
/-!
DEFINITION. Parameter records, requantisation, calibration statistics and the calibrator (R197 to R221).
-/
namespace Sys2Proof

/-! ### Parameter records (R199, R200) -/

/-- A parameter record. -/
structure QParam where
  scale : Word := 0x3F800000
  inv : Word := 0x3F800000
  zp : Word := 0
  flags : Byte := 0
  typ : Nat := 0
  resv : Nat := 0
  deriving DecidableEq, Repr

/-- The record of 16 bytes. -/
def QParam.parse (b : List Byte) : QParam :=
  { scale := BitVec.ofNat 32 (natLE (b.take 4)), inv := BitVec.ofNat 32 (natLE ((b.drop 4).take 4)),
    zp := BitVec.ofNat 32 (natLE ((b.drop 8).take 4)), flags := (b.drop 12).headD 0,
    typ := natLE ((b.drop 13).take 1), resv := natLE ((b.drop 14).take 2) }

/-- The 16 bytes of a record. -/
def QParam.bytes (q : QParam) : List Byte :=
  bytesLE 4 q.scale.toNat ++ bytesLE 4 q.inv.toNat ++ bytesLE 4 q.zp.toNat ++ bytesLE 1 q.flags.toNat
  ++ bytesLE 1 q.typ ++ bytesLE 2 0

/-- FLAGS CONSTANT. -/
def QParam.isConst (q : QParam) : Bool := q.flags.getLsbD 0

/-- An FP32 word as an integer, where it is one. -/
def wordInt (w : Word) : Option Int :=
  match FV.ofF32 w with
  | .fin neg m e =>
    if m % pow2 (-e) = 0 then some ((if neg then -1 else 1) * ((m / pow2 (-e) * pow2 e : Nat) : Int)) else none
  | _ => none

/-- The zero point in force: 0 under CONSTANT (R205, R212). -/
def QParam.z (q : QParam) : Int := if q.isConst then 0 else (wordInt q.zp).getD 0

/-- Smallest and largest code of an integer format (R194). -/
def intRange (f : Nat) : Int × Int := if f = 0 then (-8, 7) else if f = 1 then (-128, 127) else (0, 255)

/-- Positive and finite. -/
def posFinite (w : Word) : Bool := !isNeg w && !isZero w && !isNan w && !isInf w

/-- The record is one that validation accepts (R200). -/
def QParam.valid (q : QParam) : Bool :=
  posFinite q.scale && posFinite q.inv && decide (q.typ ≤ 4) && decide (q.resv = 0) && decide (q.flags.toNat < 4)
  && (q.isConst || (match wordInt q.zp with
    | some z => decide (2 < q.typ) || (decide ((intRange q.typ).1 ≤ z) && decide (z ≤ (intRange q.typ).2))
    | none => false))
  && (decide (q.typ < 3) || isZero q.zp)
  && (!q.isConst || decide (q.inv = 0x3F800000))

/-- The real value of a code of a tensor, rounded to FP32 (R197, R237); CONSTANT adds the constant. `x` is the block scale
of an MX element. -/
def realWord (f : Nat) (q : QParam) (x c : Nat) : Word :=
  if fmtInt f then
    if q.isConst then (fAdd .rne (intF32 (codeInt f c)) q.zp).1
    else (fMul .rne q.scale (intF32 (codeInt f c - q.z))).1
  else if f = 3 ∨ f = 4 then
    match codeValue f c with
    | .fin n m e => (mulFV .rne (FV.ofF32 q.scale) (.fin n m e)).1
    | v => v.toF32
  else if fmtMx f then
    if x = 255 then nanWord else
      match codeValue f c with
      | .fin n m e => (roundF32 .rne n m 1 (e + x - 127)).1
      | v => v.toF32
  else (codeValue f c).toF32

/-! ### Requantisation (R212 to R215) -/

/-- A value rounded to an integer, ties to even or away from zero. -/
def roundWhole (away : Bool) (w : Word) : Int :=
  match FV.ofF32 w with
  | .fin neg m e =>
    let d := pow2 (-e)
    let n := m * pow2 e
    let q := if away then (2 * n + d) / (2 * d) else roundQuot .rne false n d
    if neg then -(q : Int) else q
  | _ => 0

/-- `u` of R212, and whether it came from a NaN. -/
def requantScaled (q : QParam) (v : Word) : Word :=
  let t := if q.isConst then (fSub .rne v q.zp).1 else v
  (fMul .rne t q.inv).1

/-- The code of an integer value in `bits` bits. -/
def intCode (f : Nat) (i : Int) : Nat := (BitVec.ofInt 32 i).toNat % 2 ^ fmtBits f

/-- An integer output (R212). -/
def requantInt (f : Nat) (q : QParam) (away : Bool) (v : Word) : Counted Nat :=
  let r := intRange f
  if isNan v then (intCode f q.z, { nanOut := 1 })
  else if isInf v then (intCode f (if isNeg v then r.1 else r.2), { satInt := 1 })
  else
    let u := requantScaled q v
    if isInf u then (intCode f (if isNeg u then r.1 else r.2), { satInt := 1 })
    else
      let x := roundWhole away u + q.z
      let y := clampI r.1 r.2 x
      (intCode f y, if x = y then {} else { satInt := 1 })

/-- Layout of a floating-point element format. -/
def elemFmt (f : Nat) : FloatFmt :=
  match f with
  | 3 => { eb := 4, mb := 3, bias := 7 }
  | 4 => { eb := 5, mb := 2, bias := 15 }
  | 9 => { eb := 4, mb := 3, bias := 7 }
  | 10 => { eb := 5, mb := 2, bias := 15 }
  | 11 => { eb := 3, mb := 2, bias := 3 }
  | 12 => { eb := 2, mb := 3, bias := 1 }
  | _ => { eb := 2, mb := 1, bias := 1 }

/-- The code of the largest finite value. -/
def maxCode (f : Nat) : Nat :=
  match f with
  | 3 => 0x7E | 4 => 0x7B | 8 => 127 | 9 => 0x7E | 10 => 0x7B | 11 => 0x1F | 12 => 0x1F | 13 => 7 | _ => 0

/-- A finite magnitude rounded to nearest in a narrow format: the code without sign, and whether it lies beyond the
largest finite value. -/
def roundCode (f : Nat) (n d : Nat) (e : Int) : Nat × Bool :=
  if n = 0 then (0, false)
  else
    let k := elemFmt f
    let r := roundTo .rne false (k.mb + 1) k.emin n d e
    let c := k.encode false r.1 r.2
    if maxCode f < c then (maxCode f, true) else (c, false)

/-- An FP8 output (R213). -/
def requantFp8 (f : Nat) (q : QParam) (sat : Bool) (v : Word) : Counted Nat :=
  if isNan v then (0x7F, { nanOut := 1 })
  else
    let u := requantScaled q v
    let s := if isNeg u then 128 else 0
    match FV.ofF32 u with
    | .fin _ m e =>
      let r := roundCode f m 1 e
      if r.2 then (s + (if sat then maxCode f else if f = 3 then 0x7F else 0x7C), { satFp := 1 }) else (s + r.1, {})
    | _ => if f = 3 then (s + (if sat then 0x7E else 0x7F), { satFp := 1 }) else (s + 0x7C, {})

/-- e_max of R214. -/
def mxEmax (f : Nat) : Int :=
  match f with
  | 8 => 0 | 9 => 8 | 10 => 15 | 11 => 4 | 12 => 2 | _ => 2

/-- floor(log2 |v|) of a finite nonzero word. -/
def log2Word (v : Word) : Int :=
  match FV.ofF32 v with
  | .fin _ m e => (Nat.log2 m : Int) + e
  | _ => 0

/-- The scale of an MX block of finite values (R214). -/
def mxScale (f : Nat) (vs : List Word) : Nat :=
  let nz := vs.filter (fun v => !isZero v)
  if nz.isEmpty then 127
  else
    let top := nz.foldl (fun acc v => max acc (log2Word v)) (-200)
    (clampI 0 254 (top - mxEmax f + 127)).toNat

/-- One element of an MX block with scale `x` (R214). -/
def mxElem (f x : Nat) (v : Word) : Counted Nat :=
  match FV.ofF32 v with
  | .fin neg m e =>
    let s := if neg then 2 ^ (fmtBits f - 1) else 0
    let k : Int := e + 127 - x
    if f = 8 then
      let i := roundUnits .rne neg m 1 k (-6)
      let sat := decide (127 < i)
      let i := min i 127
      (intCode 1 (if neg then -(i : Int) else i), { satFp := sat.toNat })
    else
      let r := roundCode f m 1 k
      (s + r.1, { satFp := r.2.toNat })
  | _ => (0, {})

/-- An MX block: its scale and its element codes (R214). -/
def requantMx (f : Nat) (vs : List Word) : Counted (Nat × List Nat) :=
  if vs.any (fun v => isNan v || isInf v) then ((255, vs.map (fun _ => 0)), { nanOut := 1 })
  else
    let x := mxScale f vs
    let r := countAll (vs.map (mxElem f x))
    ((x, r.1), r.2)

/-- An output element of a format without block scales: quantised by R212 or R213, or written as BF16, FP16, FP32 or U16
rounded to nearest. -/
def requantElem (f : Nat) (q : QParam) (away sat : Bool) (v : Word) : Counted Nat :=
  if fmtInt f then requantInt f q away v
  else if f = 3 ∨ f = 4 then requantFp8 f q sat v
  else if f = 5 then ((toX16 (FV.ofF32 v)).toNat, {})
  else if f = 6 then
    match FV.ofF32 v with
    | .nan => (0x7E00, {})
    | .inf n => (if n then 0xFC00 else 0x7C00, {})
    | .fin neg m e =>
      let s := if neg then 0x8000 else 0
      if m = 0 then (s, {}) else
        let k : FloatFmt := { eb := 5, mb := 10, bias := 15 }
        let r := roundTo .rne neg 11 k.emin m 1 e
        (s + min 0x7C00 (k.encode false r.1 r.2), {})
  else if f = 7 then (v.toNat, {})
  else (clampI 0 65535 (roundWhole false v) |>.toNat, {})

/-! ### Statistics records (R216, R217) -/

/-- A statistics record. -/
structure StatRec where
  min : Word := 0
  max : Word := 0
  flags : Word := 0
  count : Nat := 0
  sq : Nat := 0
  deriving DecidableEq, Repr

/-- The record of 64 bytes. -/
def StatRec.parse (b : List Byte) : StatRec :=
  { min := BitVec.ofNat 32 (natLE (b.take 4)), max := BitVec.ofNat 32 (natLE ((b.drop 4).take 4)),
    flags := BitVec.ofNat 32 (natLE ((b.drop 8).take 4)), count := natLE ((b.drop 16).take 8),
    sq := natLE ((b.drop 24).take 40) }

/-- The 64 bytes of a record. -/
def StatRec.bytes (r : StatRec) : List Byte :=
  bytesLE 4 r.min.toNat ++ bytesLE 4 r.max.toNat ++ bytesLE 4 r.flags.toNat ++ bytesLE 4 0 ++ bytesLE 8 r.count
  ++ bytesLE 40 r.sq

/-- e² is added exactly to SQACC, which holds at its largest value (R217). -/
def StatRec.addSquare (r : StatRec) (e2 : Word) : Counted StatRec :=
  match FV.ofF32 e2 with
  | .fin _ m e =>
    let s := r.sq + m * pow2 (e + 160)
    if 2 ^ 320 ≤ s then ({ r with sq := 2 ^ 320 - 1, flags := r.flags ||| 8 }, { accSat := 1 }) else ({ r with sq := s }, {})
  | _ => (r, {})

/-- One value of an output and the value `d` that its code stands for (R217). -/
def StatRec.update (r : StatRec) (v d : Word) : Counted StatRec :=
  if isNan v then ({ r with flags := r.flags ||| 2 }, {})
  else
    let seen := r.flags.getLsbD 0
    let r' : StatRec :=
      { r with min := if seen then fMin r.min v else v, max := if seen then fMax r.max v else v,
               flags := r.flags ||| 1, count := (r.count + 1) % 2 ^ 64 }
    let e := (fSub .rne v d).1
    let e2 := (fMul .rne e e).1
    if isInf v ∨ isInf e ∨ isNan e ∨ isInf e2 then ({ r' with flags := r'.flags ||| 4 }, {}) else r'.addSquare e2

/-! ### The calibrator (R219 to R221) -/

/-- RNE32 of a quotient `n / d * 2 ^ e`. -/
def quotWord (n d : Nat) (e : Int) : Word := (roundF32 .rne false n d e).1

/-- The absolute value of a word. -/
def fAbs (w : Word) : Word := w &&& 0x7FFFFFFF

/-- The largest code of a target as FP32. -/
def targetTop (typ : Nat) : Word := if typ = 3 then intF32 448 else if typ = 4 then intF32 57344 else intF32 (intRange typ).2

/-- The 32-byte output entry of a record, given the target TYPE and the choice of symmetric parameters. -/
def calibrateEntry (typ : Nat) (sym : Bool) (r : StatRec) : List Byte :=
  let fail (st : Nat) : List Byte := List.replicate 28 0 ++ bytesLE 2 st ++ bytesLE 2 0
  let entry (q : QParam) (mse : Word) : List Byte :=
    q.bytes ++ bytesLE 4 mse.toNat ++ bytesLE 4 r.min.toNat ++ bytesLE 4 r.max.toNat ++ bytesLE 2 Machine.S_OK ++ bytesLE 2 0
  let flag : Byte := if sym then 2 else 0
  if r.count = 0 then fail Machine.S_CALIB_EMPTY
  else if r.flags.getLsbD 2 then fail Machine.S_CALIB_NONFINITE
  else if rankEq r.min = rankEq r.max then
    entry { zp := r.min, flags := 1, typ := typ } 0
  else if typ = 2 ∧ sym then fail Machine.S_QPARAM_INVALID
  else
    let mse := quotWord r.sq r.count (-160)
    if typ ≤ 2 ∧ !sym then
      let lo := if rankEq r.min < 0 then r.min else 0
      let hi := if 0 < rankEq r.max then r.max else 0
      let rg := intRange typ
      let scale := (fDiv .rne (fSub .rne hi lo).1 (intF32 (rg.2 - rg.1))).1
      let z := clampI rg.1 rg.2 (rg.1 - roundWhole false (fDiv .rne lo scale).1)
      entry { scale := scale, inv := (fDiv .rne 0x3F800000 scale).1, zp := intF32 z, flags := flag, typ := typ } mse
    else
      let scale := (fDiv .rne (fMax (fAbs r.min) (fAbs r.max)) (targetTop typ)).1
      entry { scale := scale, inv := (fDiv .rne 0x3F800000 scale).1, zp := 0, flags := flag, typ := typ } mse

end Sys2Proof
end

