-- ==== Sys2Proof/Machine/JobTypes.lean ====
section
/-!
DEFINITION. Jobs, contexts, engines and tiles as plain data (chapters 6, 9 and 10).
-/
namespace Sys2Proof.Machine

open Sys2Proof

/-! ### The tables of a job image (R256 to R266, R279) -/

/-- A section table entry (R257). -/
structure SectD where
  typ : Nat
  flags : Nat
  count : Nat
  off : Nat
  bytes : Nat
  resv : Nat
  deriving DecidableEq, Repr

/-- A tensor descriptor (R260). -/
structure TensorD where
  fmt : Nat := 0
  layout : Nat := 0
  c : Nat := 0
  w : Nat := 0
  h : Nat := 0
  qparam : Nat := 0xFFFFFFFF
  /-- Reserved bits and bytes, all taken together. -/
  resv : Nat := 0
  deriving DecidableEq, Repr

/-- A layer descriptor (R261). -/
structure LayerD where
  kh : Nat := 0
  kw : Nat := 0
  sy : Nat := 0
  sx : Nat := 0
  dily : Nat := 0
  dilx : Nat := 0
  padLoY : Nat := 0
  padHiY : Nat := 0
  padLoX : Nat := 0
  padHiX : Nat := 0
  modes : Nat := 0
  engine : Nat := 0
  padCode : Nat := 0
  cin : Nat := 0
  cout : Nat := 0
  g : Nat := 0
  ksel : Nat := 0
  heads : Nat := 0
  t : Nat := 0
  d : Nat := 0
  nodeStream : Nat := 0xFFFF
  p0 : Word := 0
  p1 : Word := 0
  qparamW : Nat := 0
  biasMult : Nat := 0
  gammaBeta : Nat := 0
  resv : Nat := 0
  deriving DecidableEq, Repr

/-- PAD_MODE on y. -/
def LayerD.padY (l : LayerD) : Nat := l.modes % 4
/-- PAD_MODE on x. -/
def LayerD.padX (l : LayerD) : Nat := l.modes / 4 % 4
/-- COUNT_PAD. -/
def LayerD.countPad (l : LayerD) : Bool := decide (l.modes / 16 % 2 = 1)
/-- SQRT. -/
def LayerD.root (l : LayerD) : Bool := decide (l.modes / 32 % 2 = 1)
/-- NKIND. -/
def LayerD.nkind (l : LayerD) : Nat := l.modes / 64 % 4
/-- Input channels of one group (R223). -/
def LayerD.cinG (l : LayerD) : Nat := l.cin / max 1 l.g
/-- Reduction length K (R223). -/
def LayerD.k (l : LayerD) : Nat := l.kh * l.kw * l.cinG
/-- Slices of the reduction. -/
def LayerD.slices (l : LayerD) : Nat := ceilDiv l.k 32
/-- A depthwise layer (R232). -/
def LayerD.depthwise (l : LayerD) : Bool := decide (l.g = l.cin) && decide (l.cin = l.cout)

/-- A stream descriptor (R262). -/
structure StreamD where
  base : Nat := 0
  rowBytes : Nat := 0
  rowStride : Nat := 0
  tensor : Nat := 0xFFFF
  scale : Nat := 0xFFFF
  tag0 : Nat := 0
  kind : Nat := 0
  ringLog2 : Nat := 0
  input : Nat := 0
  resv : Nat := 0
  deriving DecidableEq, Repr

/-- An INPUTS entry (R263). -/
structure InputD where
  input : Nat := 0
  source : Nat := 0
  tensor : Nat := 0
  lineTermRows : Nat := 0
  windowRows : Nat := 0
  resv : Nat := 0
  deriving DecidableEq, Repr

/-- A tile record with its instructions, each with its OP (R266, R268). -/
structure TileD where
  id : Nat := 0
  rank : Nat := 0
  engine : Nat := 0
  flags : Nat := 0
  resv : Nat := 0
  trigger : Nat := 0
  tokens : Nat := 0
  /-- OP, the instruction, bit 108. -/
  prog : List (Nat × TileInstr × Bool) := []
  deriving DecidableEq, Repr

/-- The tile runs on a moon engine. -/
def TileD.moon (t : TileD) : Bool := decide (t.engine / 128 % 2 = 1)
/-- Logical engine: 0 to 31 for spires, 32 to 39 for moon engines. -/
def TileD.unit (t : TileD) : Nat := if t.moon then 32 + t.engine % 32 else t.engine % 32

/-- A reduction of a split plan (R279): its stream and its steps LEVEL, LEFT, RIGHT, DEST. -/
structure ReductD where
  stream : Nat := 0
  steps : List (Nat × Nat × Nat × Nat) := []
  deriving DecidableEq, Repr

/-- A job image as the module keeps it after validation. -/
structure JobImg where
  imageBytes : Nat := 0
  flags : Nat := 0
  minFw : Nat := 0
  modules : Nat := 1
  spires : Nat := 0
  slots : Nat := 1
  markFailsafe : Nat := 0
  tileCount : Nat := 0
  crit : Nat := 0
  compute : List Nat := []
  dramBytes : Nat := 0
  jobId : DWord := 0
  sections : List SectD := []
  tensors : List TensorD := []
  layers : List LayerD := []
  streams : List StreamD := []
  tiles : List TileD := []
  qparams : List QParam := []
  /-- Pairs of BIAS_MULT: bias and MULT, or gamma and beta. -/
  biasMult : List (Word × Word) := []
  inputs : List InputD := []
  classMap : List Nat := []
  reductions : List ReductD := []
  digest : List Byte := []
  deriving DecidableEq, Repr

/-! ### Jobs (R282 to R291) -/

/-- States of a job (R287). -/
inductive JobState where
  | loaded | running | draining | pausing | paused | done | aborted | faulted
  deriving DecidableEq, Repr

/-- States of a batch slot (R289). -/
inductive SlotState where
  | free | joined | active | final
  deriving DecidableEq, Repr

/-- A batch slot. -/
structure Slot where
  st : SlotState := .free
  /-- A part has been given the slot; GATHER has still to write its header. -/
  taken : Bool := false
  comet : Nat := 0
  cseq : BitVec 16 := 0
  /-- The sample header of R291. -/
  firstPos : DWord := 0
  time : DWord := 0
  marks : Word := 0
  rowsValid : Nat := 0
  input : Nat := 0
  lineSeq : Word := 0
  /-- A padding sample (R157, R292). -/
  padding : Bool := false
  /-- The slot uses the second weight set (R310). -/
  newSet : Bool := false
  /-- Rows that an instruction has done for the part: `256 * tile + instruction` to rows. -/
  rows : AMap Nat := []
  /-- Steps that a tile has committed: tile index to steps. -/
  steps : AMap Nat := []
  /-- Row of each input's ring at which the part's window starts. -/
  ringFirst : AMap Word := []
  deriving DecidableEq, Repr

/-- The binding of a job input (R263, BIND_INPUT). -/
structure Binding where
  pipe : Nat
  out : Nat
  lanes : Word
  deriving DecidableEq, Repr

/-- A loaded job. -/
structure Job where
  img : JobImg
  st : JobState := .loaded
  /-- The state that a pause remembers. -/
  before : JobState := .running
  prio : Nat := 0
  client : Nat := 0
  complQ : Nat := 0
  share : Nat := 1
  run : Nat := 0
  parts : Nat := 0
  verdicts : Nat := 0
  dropped : Nat := 0
  lastStatus : Nat := 0
  /-- Operating point of the last check (R282). -/
  op : Nat := 0
  rank : Nat := 0
  lazy : Bool := false
  /-- Physical 64 KiB pages of the job's address space, in order of virtual address. -/
  pages : List Nat := []
  /-- Pages of the save areas by unit, and the footprint of each unit in bytes (R286, R300). -/
  saves : AMap (List Nat) := []
  foot : AMap Nat := []
  slots : AMap Slot := []
  binds : AMap Binding := []
  /-- Comets that have waited for a slot and been counted. -/
  waited : List (Nat × BitVec 16) := []
  /-- The second weight set, its pages, and the switch positions by lane once SWITCH_WEIGHTS has succeeded (R309, R310). -/
  set2 : Option JobImg := none
  set2Pages : List Nat := []
  switch : AMap DWord := []
  /-- Virtual address from which the weights of the set in use are counted (R310). -/
  wBase : Nat := 0
  /-- The number of the set that LOAD_WEIGHT_SET loads next. -/
  nextSet : Nat := 1
  deriving DecidableEq, Repr

/-! ### Contexts and engines (R295 to R303) -/

/-- The rows of one stream and slot that a rolling window holds (R224), from row 0, each as
bytes with the scale entries of its blocks. -/
structure Window where
  stream : Nat
  slot : Nat
  rows : List (List Byte × List Word)
  deriving DecidableEq, Repr

/-- Staged weights of one stream: the bytes and the scale entries (R165, R207); of a bank, the first entry and the norms
(R248). -/
structure StagedW where
  stream : Nat
  bytes : List Byte
  scales : List Word := []
  entry : Nat := 0
  norms : List Word := []
  deriving DecidableEq, Repr

/-- A context: the work of one job on one engine. -/
structure Ctx where
  windows : List Window := []
  /-- The half that the array reads and the half that is being filled (R165). -/
  active : List StagedW := []
  idle : List StagedW := []
  /-- It lies in its save area. -/
  saved : Bool := false
  /-- Outstanding tag and its DST stream, and whether the reply has landed (R302). -/
  remote : Option (Nat × Nat) := none
  remoteDone : Bool := false
  /-- Semaphores that its next tile waits for (R304). -/
  semWait : List Nat := []
  /-- Raw count since which it has been eligible (R296, R320). -/
  eligAt : Option DWord := none
  /-- Budget left in the accounting window, in ns, and whether its exhaustion has been counted. -/
  budget : Nat := 0
  budgetOut : Bool := false
  /-- Priority inherited until the tile that releases the semaphore commits (R305). -/
  inherit : Nat := 0
  /-- Tile to run on restore: index in the program. -/
  nextTile : Option Nat := none
  deriving DecidableEq, Repr

/-- A statistics update of a tile (R217): address of the record, the value and what its code stands for. -/
structure StatUpd where
  va : Nat
  v : Word
  d : Word
  deriving DecidableEq, Repr

/-- A staged write of a tile (R273): the stream, slot and row that it belongs to, the job virtual address, the bytes. -/
structure Staged where
  stream : Nat
  slot : Nat
  row : Nat
  va : Nat
  bytes : List Byte
  deriving DecidableEq, Repr

/-- A verdict that a tile delivers at its commit (R265, R434). -/
structure VerdictOut where
  slot : Nat
  kind : Nat
  cls : Nat
  index : Nat
  deriving DecidableEq, Repr

/-- The tile in progress on an engine (R273). -/
structure TileRun where
  handle : Nat
  /-- Index of the tile in the program. -/
  tile : Nat
  slots : List Nat
  /-- The slots use the second weight set (R311). -/
  newSet : Bool := false
  startAt : DWord
  todo : List (Nat × TileInstr × Bool)
  writes : List Staged := []
  /-- Rows done by an instruction for a slot: slot, `256 * tile + instruction`, rows. -/
  progress : List (Nat × Nat × Nat) := []
  stats : List StatUpd := []
  /-- REMOTE_SEND transfers: stream, destination rank, tag. -/
  sends : List (Nat × Nat × Nat) := []
  verdicts : List VerdictOut := []
  releases : List Nat := []
  /-- Windows that GATHER has completed: slot and input; their rows are released at the commit. -/
  gathers : List (Nat × Nat) := []
  /-- Semaphores that the tile has taken (R304). -/
  sems : List Nat := []
  /-- Suspended on a translation fault (R400). -/
  susp : Bool := false
  /-- END has been reached; commit is left. -/
  ended : Bool := false
  deriving DecidableEq, Repr

/-- What a switch of contexts is doing. -/
inductive Switch where
  /-- Saving the resident context, with REASON. -/
  | saving (reason : Nat)
  /-- Restoring the context of the job given. -/
  | restoring (handle : Nat)
  deriving DecidableEq, Repr

/-- A physical engine: a spire 0 to 33, or moon engine 34 to 41. -/
structure Engine where
  /-- Job of the resident context of a spire. -/
  resident : Option Nat := none
  tile : Option TileRun := none
  switch : Option Switch := none
  switchAt : DWord := 0
  /-- The context whose coming first caused the switch: it is charged (R297). -/
  cause : Option Nat := none
  /-- Pre-emption or pause has been requested. -/
  preempt : Bool := false
  resetting : Bool := false
  /-- A swap waits for the boundary. -/
  swapPending : Bool := false
  /-- A tile that has hung once here: its job, its index, and the number of its record (R570). -/
  hung : Option (Nat × Nat × Word) := none
  deriving DecidableEq, Repr

/-- Jobs and scheduling. -/
structure JobSt where
  jobs : AMap Job := []
  /-- Contexts: `64 * handle + unit`. -/
  ctxs : AMap Ctx := []
  engines : AMap Engine := []
  /-- Semaphores held: number to handle (R304). -/
  sems : AMap Nat := []
  /-- Contexts that have reached a barrier of the present step: `64 * handle + barrier` to tiles. -/
  barriers : AMap (List Nat) := []
  /-- Runs started since reset. -/
  runs : Nat := 0
  /-- Start of the accounting window, as a multiple of WINDOW (R297). -/
  window : Nat := 0
  /-- Completion records that wait for room in a HOLD queue: handle, queue, bytes (R313, R314). -/
  pendRecords : List (Nat × Nat × List Byte) := []
  deriving DecidableEq, Repr

end Sys2Proof.Machine
end

