-- ==== Sys2Proof/Machine/RegIndex.lean ====
section
/-!
DEFINITION. The register index (spec/25_register_index.md, R636 to R639): every register of the device register space and
of the SDIO functions, with its address, its repetition, its reset word, its writable bits by access type (R7) and its
retention class (R637). A register of SDIO function `n` stands at `n * 0x1000_0000 +` its function address, since the
functions have address spaces of their own (R639).
-/
namespace Sys2Proof.Machine

/-- The retention classes of R637. `kq` is the class of the per-queue registers: S2 for queues 0 and 16 to 21, K for the
others. `wo` is a write-only command, which holds no value. -/
inductive RetClass where
  | p | s2 | s3 | k | v | c | f | l | wo | kq
  deriving DecidableEq, Repr

/-- One row of the register index. Element `i`, `j`, `k` of the register stands at
`addr + i * s1 + j * s2 + k * s3`. -/
structure RegRow where
  name : String
  /-- Address of the first element. -/
  addr : Nat
  s1 : Nat := 0
  n1 : Nat := 1
  s2 : Nat := 0
  n2 : Nat := 1
  s3 : Nat := 0
  n3 : Nat := 1
  /-- The word after POR (R638). -/
  reset : Word := 0
  /-- Bits of the access types of R7; a bit of none of them is reserved, reads zero and ignores writes (R8). -/
  rw : Word := 0
  w1c : Word := 0
  w1s : Word := 0
  rc : Word := 0
  ro : Word := 0
  wo : Word := 0
  cls : RetClass
  deriving DecidableEq, Repr

/-- The address of element `i`, `j`, `k`. A number beyond the last element, which no command gives, counts from the first
again, so that no element stands outside its register. -/
def RegRow.at (r : RegRow) (i j k : Nat) : Nat :=
  r.addr + i % r.n1 * r.s1 + j % r.n2 * r.s2 + k % r.n3 * r.s3

/-- The quotient and the rest of an offset by a stride; a stride of 0 stands for no repetition. -/
def splitStride (d st : Nat) : Nat × Nat := if st = 0 then (0, d) else (d / st, d % st)

/-- Which element of `r` stands at address `a`, if one does. -/
def RegRow.find (r : RegRow) (a : Nat) : Option (Nat × Nat × Nat) :=
  if a < r.addr then none else
    let p := splitStride (a - r.addr) r.s1
    let q := splitStride p.2 r.s2
    let t := splitStride q.2 r.s3
    if p.1 < r.n1 ∧ q.1 < r.n2 ∧ t.1 < r.n3 ∧ t.2 = 0 then some (p.1, q.1, t.1) else none


/-- ENC_CFG (spec/02_position_feedback.md). -/
def Reg.ENC_CFG : RegRow :=
  { name := "ENC_CFG", addr := 0x400000,
    s1 := 0x100, n1 := 4, rw := 0x3F, cls := .s3 }

/-- ENC_FILT_CFG (spec/02_position_feedback.md). -/
def Reg.ENC_FILT_CFG : RegRow :=
  { name := "ENC_FILT_CFG", addr := 0x400004,
    s1 := 0x100, n1 := 4, reset := 0x604, rw := 0xFF3F, cls := .s3 }

/-- ENC_FAULT_CFG (spec/02_position_feedback.md). -/
def Reg.ENC_FAULT_CFG : RegRow :=
  { name := "ENC_FAULT_CFG", addr := 0x400008,
    s1 := 0x100, n1 := 4, reset := 0x1003E8, rw := 0xFFFFFF, cls := .s3 }

/-- ENC_OBS_CFG (spec/02_position_feedback.md). -/
def Reg.ENC_OBS_CFG : RegRow :=
  { name := "ENC_OBS_CFG", addr := 0x40000C,
    s1 := 0x100, n1 := 4, reset := 0x64400C8, rw := 0x3FFF3FFF, cls := .s3 }

/-- ENC_INDEX_NOM (spec/02_position_feedback.md). -/
def Reg.ENC_INDEX_NOM : RegRow :=
  { name := "ENC_INDEX_NOM", addr := 0x400010,
    s1 := 0x100, n1 := 4, rw := 0xFFFFFFFF, cls := .s3 }

/-- ENC_INDEX_TOL (spec/02_position_feedback.md). -/
def Reg.ENC_INDEX_TOL : RegRow :=
  { name := "ENC_INDEX_TOL", addr := 0x400014,
    s1 := 0x100, n1 := 4, reset := 0x1000, rw := 0xFFFFFF, cls := .s3 }

/-- ENC_INDEX_POS_LO (spec/02_position_feedback.md). -/
def Reg.ENC_INDEX_POS_LO : RegRow :=
  { name := "ENC_INDEX_POS_LO", addr := 0x400018,
    s1 := 0x100, n1 := 4, rw := 0xFFFFFFFF, cls := .s3 }

/-- ENC_INDEX_POS_HI (spec/02_position_feedback.md). -/
def Reg.ENC_INDEX_POS_HI : RegRow :=
  { name := "ENC_INDEX_POS_HI", addr := 0x40001C,
    s1 := 0x100, n1 := 4, rw := 0xFFFFFFFF, cls := .s3 }

/-- ENC_PRESET_LO (spec/02_position_feedback.md). -/
def Reg.ENC_PRESET_LO : RegRow :=
  { name := "ENC_PRESET_LO", addr := 0x400020,
    s1 := 0x100, n1 := 4, rw := 0xFFFFFFFF, cls := .s3 }

/-- ENC_PRESET_HI (spec/02_position_feedback.md). -/
def Reg.ENC_PRESET_HI : RegRow :=
  { name := "ENC_PRESET_HI", addr := 0x400024,
    s1 := 0x100, n1 := 4, rw := 0xFFFFFFFF, cls := .s3 }

/-- ENC_CMD (spec/02_position_feedback.md). -/
def Reg.ENC_CMD : RegRow :=
  { name := "ENC_CMD", addr := 0x400028,
    s1 := 0x100, n1 := 4, wo := 0x3, cls := .wo }

/-- ENC_POS_LO (spec/02_position_feedback.md). -/
def Reg.ENC_POS_LO : RegRow :=
  { name := "ENC_POS_LO", addr := 0x400030,
    s1 := 0x100, n1 := 4, ro := 0xFFFFFFFF, cls := .k }

/-- ENC_POS_HI (spec/02_position_feedback.md). -/
def Reg.ENC_POS_HI : RegRow :=
  { name := "ENC_POS_HI", addr := 0x400034,
    s1 := 0x100, n1 := 4, ro := 0xFFFFFFFF, cls := .k }

/-- ENC_SPEED (spec/02_position_feedback.md). -/
def Reg.ENC_SPEED : RegRow :=
  { name := "ENC_SPEED", addr := 0x400038,
    s1 := 0x100, n1 := 4, ro := 0xFFFFFFFF, cls := .l }

/-- ENC_ACCEL (spec/02_position_feedback.md). -/
def Reg.ENC_ACCEL : RegRow :=
  { name := "ENC_ACCEL", addr := 0x40003C,
    s1 := 0x100, n1 := 4, ro := 0xFFFFFFFF, cls := .l }

/-- ENC_STATUS (spec/02_position_feedback.md). -/
def Reg.ENC_STATUS : RegRow :=
  { name := "ENC_STATUS", addr := 0x400040,
    s1 := 0x100, n1 := 4, reset := 0x1, ro := 0xFFF, cls := .l }

/-- ENC_EVENT (spec/02_position_feedback.md). -/
def Reg.ENC_EVENT : RegRow :=
  { name := "ENC_EVENT", addr := 0x400044,
    s1 := 0x100, n1 := 4, w1c := 0x1FF, cls := .k }

/-- ENC_IRQ_EN (spec/02_position_feedback.md). -/
def Reg.ENC_IRQ_EN : RegRow :=
  { name := "ENC_IRQ_EN", addr := 0x400048,
    s1 := 0x100, n1 := 4, rw := 0x1FF, cls := .s3 }

/-- ENC_INDEX_ERR (spec/02_position_feedback.md). -/
def Reg.ENC_INDEX_ERR : RegRow :=
  { name := "ENC_INDEX_ERR", addr := 0x40004C,
    s1 := 0x100, n1 := 4, ro := 0xFFFFFFFF, cls := .l }

/-- ENC_CNT (spec/02_position_feedback.md). -/
def Reg.ENC_CNT : RegRow :=
  { name := "ENC_CNT", addr := 0x400060,
    s1 := 0x100, n1 := 4, s2 := 0x4, n2 := 7, rc := 0xFFFFFFFF, cls := .c }

/-- CAM_PORT_CFG (spec/03_camera_ingress.md). -/
def Reg.CAM_PORT_CFG : RegRow :=
  { name := "CAM_PORT_CFG", addr := 0x800000,
    s1 := 0x400, n1 := 8, rw := 0x1FFF, cls := .v }

/-- CAM_FMT (spec/03_camera_ingress.md). -/
def Reg.CAM_FMT : RegRow :=
  { name := "CAM_FMT", addr := 0x800004,
    s1 := 0x400, n1 := 8, reset := 0x4000, rw := 0xFE7FFF, cls := .v }

/-- CAM_FRAME_CFG (spec/03_camera_ingress.md). -/
def Reg.CAM_FRAME_CFG : RegRow :=
  { name := "CAM_FRAME_CFG", addr := 0x800008,
    s1 := 0x400, n1 := 8, reset := 0x40, rw := 0xFFFFFFFF, cls := .v }

/-- CAM_TRIG_CFG (spec/03_camera_ingress.md). -/
def Reg.CAM_TRIG_CFG : RegRow :=
  { name := "CAM_TRIG_CFG", addr := 0x800010,
    s1 := 0x400, n1 := 8, rw := 0x1F07, cls := .v }

/-- CAM_TRIG_PITCH (spec/03_camera_ingress.md). -/
def Reg.CAM_TRIG_PITCH : RegRow :=
  { name := "CAM_TRIG_PITCH", addr := 0x800014,
    s1 := 0x400, n1 := 8, reset := 0x4000, rw := 0xFFFFFFFF, cls := .v }

/-- CAM_TRIG_PHASE (spec/03_camera_ingress.md). -/
def Reg.CAM_TRIG_PHASE : RegRow :=
  { name := "CAM_TRIG_PHASE", addr := 0x800018,
    s1 := 0x400, n1 := 8, rw := 0xFFFFFFFF, cls := .v }

/-- CAM_TRIG_MIN_PERIOD (spec/03_camera_ingress.md). -/
def Reg.CAM_TRIG_MIN_PERIOD : RegRow :=
  { name := "CAM_TRIG_MIN_PERIOD", addr := 0x80001C,
    s1 := 0x400, n1 := 8, reset := 0x30E, rw := 0xFFFF, cls := .v }

/-- CAM_OFFSET_LO (spec/03_camera_ingress.md). -/
def Reg.CAM_OFFSET_LO : RegRow :=
  { name := "CAM_OFFSET_LO", addr := 0x800020,
    s1 := 0x400, n1 := 8, rw := 0xFFFFFFFF, cls := .v }

/-- CAM_OFFSET_HI (spec/03_camera_ingress.md). -/
def Reg.CAM_OFFSET_HI : RegRow :=
  { name := "CAM_OFFSET_HI", addr := 0x800024,
    s1 := 0x400, n1 := 8, rw := 0xFFFFFFFF, cls := .v }

/-- CAM_MAX_RATE (spec/03_camera_ingress.md). -/
def Reg.CAM_MAX_RATE : RegRow :=
  { name := "CAM_MAX_RATE", addr := 0x800028,
    s1 := 0x400, n1 := 8, reset := 0xF424000, rw := 0xFFFFFFFF, cls := .v }

/-- CAM_GEV_SRC (spec/03_camera_ingress.md). -/
def Reg.CAM_GEV_SRC : RegRow :=
  { name := "CAM_GEV_SRC", addr := 0x80002C,
    s1 := 0x400, n1 := 8, rw := 0xFFFFFFFF, cls := .v }

/-- CAM_GEV_CFG (spec/03_camera_ingress.md). -/
def Reg.CAM_GEV_CFG : RegRow :=
  { name := "CAM_GEV_CFG", addr := 0x800030,
    s1 := 0x400, n1 := 8, rw := 0xFFFFFFFF, cls := .v }

/-- CAM_BUF_BASE_LO (spec/03_camera_ingress.md). -/
def Reg.CAM_BUF_BASE_LO : RegRow :=
  { name := "CAM_BUF_BASE_LO", addr := 0x800034,
    s1 := 0x400, n1 := 8, reset := 0xC, rw := 0xFFFFF00F, cls := .v }

/-- CAM_BUF_BASE_HI (spec/03_camera_ingress.md). -/
def Reg.CAM_BUF_BASE_HI : RegRow :=
  { name := "CAM_BUF_BASE_HI", addr := 0x800038,
    s1 := 0x400, n1 := 8, rw := 0x7, cls := .v }

/-- CAM_STATUS (spec/03_camera_ingress.md). -/
def Reg.CAM_STATUS : RegRow :=
  { name := "CAM_STATUS", addr := 0x800040,
    s1 := 0x400, n1 := 8, ro := 0xF0F, cls := .l }

/-- CAM_OCC (spec/03_camera_ingress.md). -/
def Reg.CAM_OCC : RegRow :=
  { name := "CAM_OCC", addr := 0x800044,
    s1 := 0x400, n1 := 8, rc := 0xFFFF0000, ro := 0xFFFF, cls := .l }

/-- CAM_EVENT (spec/03_camera_ingress.md). -/
def Reg.CAM_EVENT : RegRow :=
  { name := "CAM_EVENT", addr := 0x800048,
    s1 := 0x400, n1 := 8, w1c := 0x3F, cls := .v }

/-- CAM_IRQ_EN (spec/03_camera_ingress.md). -/
def Reg.CAM_IRQ_EN : RegRow :=
  { name := "CAM_IRQ_EN", addr := 0x80004C,
    s1 := 0x400, n1 := 8, rw := 0x3F, cls := .v }

/-- CAM_CNT (spec/03_camera_ingress.md). -/
def Reg.CAM_CNT : RegRow :=
  { name := "CAM_CNT", addr := 0x800060,
    s1 := 0x400, n1 := 8, s2 := 0x4, n2 := 11, rc := 0xFFFFFFFF, cls := .c }

/-- ISP_PIPE_CTRL (spec/04_image_pipeline.md). -/
def Reg.ISP_PIPE_CTRL : RegRow :=
  { name := "ISP_PIPE_CTRL", addr := 0xA00000,
    s1 := 0x4000, n1 := 8, rw := 0xF, cls := .v }

/-- ISP_PIPE_STATUS (spec/04_image_pipeline.md). -/
def Reg.ISP_PIPE_STATUS : RegRow :=
  { name := "ISP_PIPE_STATUS", addr := 0xA00004,
    s1 := 0x4000, n1 := 8, reset := 0x4, ro := 0xFFFF0007, cls := .l }

/-- ISP_EVENT (spec/04_image_pipeline.md). -/
def Reg.ISP_EVENT : RegRow :=
  { name := "ISP_EVENT", addr := 0xA00008,
    s1 := 0x4000, n1 := 8, w1c := 0x3FF, cls := .v }

/-- ISP_IRQ_EN (spec/04_image_pipeline.md). -/
def Reg.ISP_IRQ_EN : RegRow :=
  { name := "ISP_IRQ_EN", addr := 0xA0000C,
    s1 := 0x4000, n1 := 8, rw := 0x3FF, cls := .v }

/-- ISP_CNT (spec/04_image_pipeline.md). -/
def Reg.ISP_CNT : RegRow :=
  { name := "ISP_CNT", addr := 0xA00040,
    s1 := 0x4000, n1 := 8, s2 := 0x4, n2 := 8, rc := 0xFFFFFFFF, cls := .c }

/-- ISP_CTX_CFG (spec/04_image_pipeline.md). -/
def Reg.ISP_CTX_CFG : RegRow :=
  { name := "ISP_CTX_CFG", addr := 0xA00400,
    s1 := 0x4000, n1 := 8, s2 := 0x400, n2 := 4, reset := 0x10800000, rw := 0xFFFE003F, cls := .v }

/-- ISP_CTX_APPLY (spec/04_image_pipeline.md). -/
def Reg.ISP_CTX_APPLY : RegRow :=
  { name := "ISP_CTX_APPLY", addr := 0xA00404,
    s1 := 0x4000, n1 := 8, s2 := 0x400, n2 := 4, wo := 0x1, cls := .wo }

/-- ISP_CTX_STATUS (spec/04_image_pipeline.md). -/
def Reg.ISP_CTX_STATUS : RegRow :=
  { name := "ISP_CTX_STATUS", addr := 0xA00408,
    s1 := 0x4000, n1 := 8, s2 := 0x400, n2 := 4, ro := 0xFFFFFF01, cls := .l }

/-- ISP_NR_CFG (spec/04_image_pipeline.md). -/
def Reg.ISP_NR_CFG : RegRow :=
  { name := "ISP_NR_CFG", addr := 0xA0040C,
    s1 := 0x4000, n1 := 8, s2 := 0x400, n2 := 4, rw := 0xFFFF0007, cls := .v }

/-- ISP_TNR_CFG (spec/04_image_pipeline.md). -/
def Reg.ISP_TNR_CFG : RegRow :=
  { name := "ISP_TNR_CFG", addr := 0xA00410,
    s1 := 0x4000, n1 := 8, s2 := 0x400, n2 := 4, reset := 0x400000, rw := 0xFFFFFF, cls := .v }

/-- ISP_TNR_BASE_LO (spec/04_image_pipeline.md). -/
def Reg.ISP_TNR_BASE_LO : RegRow :=
  { name := "ISP_TNR_BASE_LO", addr := 0xA00414,
    s1 := 0x4000, n1 := 8, s2 := 0x400, n2 := 4, rw := 0xFFFFF000, cls := .v }

/-- ISP_TNR_BASE_HI (spec/04_image_pipeline.md). -/
def Reg.ISP_TNR_BASE_HI : RegRow :=
  { name := "ISP_TNR_BASE_HI", addr := 0xA00418,
    s1 := 0x4000, n1 := 8, s2 := 0x400, n2 := 4, rw := 0x7, cls := .v }

/-- ISP_FF_CFG (spec/04_image_pipeline.md). -/
def Reg.ISP_FF_CFG : RegRow :=
  { name := "ISP_FF_CFG", addr := 0xA0041C,
    s1 := 0x4000, n1 := 8, s2 := 0x400, n2 := 4, rw := 0x1FFF0003, cls := .v }

/-- ISP_FF_BASE_LO (spec/04_image_pipeline.md). -/
def Reg.ISP_FF_BASE_LO : RegRow :=
  { name := "ISP_FF_BASE_LO", addr := 0xA00420,
    s1 := 0x4000, n1 := 8, s2 := 0x400, n2 := 4, rw := 0xFFFFF000, cls := .v }

/-- ISP_FF_BASE_HI (spec/04_image_pipeline.md). -/
def Reg.ISP_FF_BASE_HI : RegRow :=
  { name := "ISP_FF_BASE_HI", addr := 0xA00424,
    s1 := 0x4000, n1 := 8, s2 := 0x400, n2 := 4, rw := 0x7, cls := .v }

/-- ISP_LDC_CFG (spec/04_image_pipeline.md). -/
def Reg.ISP_LDC_CFG : RegRow :=
  { name := "ISP_LDC_CFG", addr := 0xA00428,
    s1 := 0x4000, n1 := 8, s2 := 0x400, n2 := 4, reset := 0x20000000, rw := 0xFFFF0003, cls := .v }

/-- ISP_LDC_CENTRE (spec/04_image_pipeline.md). -/
def Reg.ISP_LDC_CENTRE : RegRow :=
  { name := "ISP_LDC_CENTRE", addr := 0xA0042C,
    s1 := 0x4000, n1 := 8, s2 := 0x400, n2 := 4, reset := 0x40000000, rw := 0xFFFFFFFF, cls := .v }

/-- ISP_LDC_COEF (spec/04_image_pipeline.md). -/
def Reg.ISP_LDC_COEF : RegRow :=
  { name := "ISP_LDC_COEF", addr := 0xA00430,
    s1 := 0x4000, n1 := 8, s2 := 0x400, n2 := 4, s3 := 0x4, n3 := 5, rw := 0xFFFFFFFF, cls := .v }

/-- ISP_MESH_CFG (spec/04_image_pipeline.md). -/
def Reg.ISP_MESH_CFG : RegRow :=
  { name := "ISP_MESH_CFG", addr := 0xA00444,
    s1 := 0x4000, n1 := 8, s2 := 0x400, n2 := 4, reset := 0x400800, rw := 0xFFFFFC07, cls := .v }

/-- ISP_MESH_BASE_LO (spec/04_image_pipeline.md). -/
def Reg.ISP_MESH_BASE_LO : RegRow :=
  { name := "ISP_MESH_BASE_LO", addr := 0xA00448,
    s1 := 0x4000, n1 := 8, s2 := 0x400, n2 := 4, rw := 0xFFFFF000, cls := .v }

/-- ISP_MESH_BASE_HI (spec/04_image_pipeline.md). -/
def Reg.ISP_MESH_BASE_HI : RegRow :=
  { name := "ISP_MESH_BASE_HI", addr := 0xA0044C,
    s1 := 0x4000, n1 := 8, s2 := 0x400, n2 := 4, rw := 0x7, cls := .v }

/-- ISP_OUT_CFG (spec/04_image_pipeline.md). -/
def Reg.ISP_OUT_CFG : RegRow :=
  { name := "ISP_OUT_CFG", addr := 0xA01400,
    s1 := 0x4000, n1 := 8, s2 := 0x100, n2 := 4, reset := 0xA000, rw := 0xFF337, cls := .v }

/-- ISP_OUT_CROP_X (spec/04_image_pipeline.md). -/
def Reg.ISP_OUT_CROP_X : RegRow :=
  { name := "ISP_OUT_CROP_X", addr := 0xA01404,
    s1 := 0x4000, n1 := 8, s2 := 0x100, n2 := 4, reset := 0x40000000, rw := 0xFFFFFFFF, cls := .v }

/-- ISP_OUT_CROP_Y (spec/04_image_pipeline.md). -/
def Reg.ISP_OUT_CROP_Y : RegRow :=
  { name := "ISP_OUT_CROP_Y", addr := 0xA01408,
    s1 := 0x4000, n1 := 8, s2 := 0x100, n2 := 4, rw := 0xFFFFFFFF, cls := .v }

/-- ISP_OUT_SCALE (spec/04_image_pipeline.md). -/
def Reg.ISP_OUT_SCALE : RegRow :=
  { name := "ISP_OUT_SCALE", addr := 0xA0140C,
    s1 := 0x4000, n1 := 8, s2 := 0x100, n2 := 4, reset := 0x1000100, rw := 0xFFFFFFFF, cls := .v }

/-- ISP_OUT_BASE_LO (spec/04_image_pipeline.md). -/
def Reg.ISP_OUT_BASE_LO : RegRow :=
  { name := "ISP_OUT_BASE_LO", addr := 0xA01410,
    s1 := 0x4000, n1 := 8, s2 := 0x100, n2 := 4, rw := 0xFFFFF000, cls := .v }

/-- ISP_OUT_BASE_HI (spec/04_image_pipeline.md). -/
def Reg.ISP_OUT_BASE_HI : RegRow :=
  { name := "ISP_OUT_BASE_HI", addr := 0xA01414,
    s1 := 0x4000, n1 := 8, s2 := 0x100, n2 := 4, rw := 0x7, cls := .v }

/-- DEC_STATUS (spec/05_decode_and_conditioning.md). -/
def Reg.DEC_STATUS : RegRow :=
  { name := "DEC_STATUS", addr := 0xC00004,
    ro := 0xFFFFFFFF, cls := .l }

/-- DEC_EVENT (spec/05_decode_and_conditioning.md). -/
def Reg.DEC_EVENT : RegRow :=
  { name := "DEC_EVENT", addr := 0xC00008,
    w1c := 0xF, cls := .v }

/-- DEC_IRQ_EN (spec/05_decode_and_conditioning.md). -/
def Reg.DEC_IRQ_EN : RegRow :=
  { name := "DEC_IRQ_EN", addr := 0xC0000C,
    rw := 0xF, cls := .v }

/-- DEC_REPORT_Q (spec/05_decode_and_conditioning.md). -/
def Reg.DEC_REPORT_Q : RegRow :=
  { name := "DEC_REPORT_Q", addr := 0xC00010,
    rw := 0x3FFF, cls := .v }

/-- DEC_STREAM_CFG (spec/05_decode_and_conditioning.md). -/
def Reg.DEC_STREAM_CFG : RegRow :=
  { name := "DEC_STREAM_CFG", addr := 0xC01000,
    s1 := 0x100, n1 := 32, rw := 0xFC000FC3, cls := .v }

/-- DEC_STREAM_MAX (spec/05_decode_and_conditioning.md). -/
def Reg.DEC_STREAM_MAX : RegRow :=
  { name := "DEC_STREAM_MAX", addr := 0xC01004,
    s1 := 0x100, n1 := 32, reset := 0x8700F00, rw := 0xFFFFFFFF, cls := .v }

/-- DEC_STREAM_RATE (spec/05_decode_and_conditioning.md). -/
def Reg.DEC_STREAM_RATE : RegRow :=
  { name := "DEC_STREAM_RATE", addr := 0xC01008,
    s1 := 0x100, n1 := 32, reset := 0x61A8, rw := 0xFFFFFFFF, cls := .v }

/-- DEC_STREAM_BUDGET (spec/05_decode_and_conditioning.md). -/
def Reg.DEC_STREAM_BUDGET : RegRow :=
  { name := "DEC_STREAM_BUDGET", addr := 0xC0100C,
    s1 := 0x100, n1 := 32, reset := 0x9C40, rw := 0xFFFFFFFF, cls := .v }

/-- DEC_STREAM_FILL (spec/05_decode_and_conditioning.md). -/
def Reg.DEC_STREAM_FILL : RegRow :=
  { name := "DEC_STREAM_FILL", addr := 0xC01010,
    s1 := 0x100, n1 := 32, rw := 0xFFFF, cls := .v }

/-- DEC_STREAM_BATCH (spec/05_decode_and_conditioning.md). -/
def Reg.DEC_STREAM_BATCH : RegRow :=
  { name := "DEC_STREAM_BATCH", addr := 0xC01014,
    s1 := 0x100, n1 := 32, reset := 0x9C4001, rw := 0xFFFFFF7F, cls := .v }

/-- DEC_SRC_ADDR (spec/05_decode_and_conditioning.md). -/
def Reg.DEC_SRC_ADDR : RegRow :=
  { name := "DEC_SRC_ADDR", addr := 0xC01018,
    s1 := 0x100, n1 := 32, rw := 0xFFFFFFFF, cls := .v }

/-- DEC_SRC_PORT (spec/05_decode_and_conditioning.md). -/
def Reg.DEC_SRC_PORT : RegRow :=
  { name := "DEC_SRC_PORT", addr := 0xC0101C,
    s1 := 0x100, n1 := 32, rw := 0xFFFF, cls := .v }

/-- DEC_OUT_BASE_LO (spec/05_decode_and_conditioning.md). -/
def Reg.DEC_OUT_BASE_LO : RegRow :=
  { name := "DEC_OUT_BASE_LO", addr := 0xC01020,
    s1 := 0x100, n1 := 32, reset := 0x2, rw := 0xFFFFF007, cls := .v }

/-- DEC_OUT_BASE_HI (spec/05_decode_and_conditioning.md). -/
def Reg.DEC_OUT_BASE_HI : RegRow :=
  { name := "DEC_OUT_BASE_HI", addr := 0xC01024,
    s1 := 0x100, n1 := 32, rw := 0x7, cls := .v }

/-- DEC_OFFSET_LO (spec/05_decode_and_conditioning.md). -/
def Reg.DEC_OFFSET_LO : RegRow :=
  { name := "DEC_OFFSET_LO", addr := 0xC01028,
    s1 := 0x100, n1 := 32, rw := 0xFFFFFFFF, cls := .v }

/-- DEC_OFFSET_HI (spec/05_decode_and_conditioning.md). -/
def Reg.DEC_OFFSET_HI : RegRow :=
  { name := "DEC_OFFSET_HI", addr := 0xC0102C,
    s1 := 0x100, n1 := 32, rw := 0xFFFFFFFF, cls := .v }

/-- DEC_TIME_ADJ (spec/05_decode_and_conditioning.md). -/
def Reg.DEC_TIME_ADJ : RegRow :=
  { name := "DEC_TIME_ADJ", addr := 0xC01030,
    s1 := 0x100, n1 := 32, rw := 0xFFFFFFFF, cls := .v }

/-- DEC_STREAM_STATUS (spec/05_decode_and_conditioning.md). -/
def Reg.DEC_STREAM_STATUS : RegRow :=
  { name := "DEC_STREAM_STATUS", addr := 0xC01034,
    s1 := 0x100, n1 := 32, ro := 0xFFFF0003, cls := .l }

/-- DEC_STREAM_CNT (spec/05_decode_and_conditioning.md). -/
def Reg.DEC_STREAM_CNT : RegRow :=
  { name := "DEC_STREAM_CNT", addr := 0xC01040,
    s1 := 0x100, n1 := 32, s2 := 0x4, n2 := 7, rc := 0xFFFFFFFF, cls := .c }

/-- SPR_ID (spec/06_spires_and_arithmetic.md). -/
def Reg.SPR_ID : RegRow :=
  { name := "SPR_ID", addr := 0x1000000,
    s1 := 0x10000, n1 := 34, ro := 0xFFFF, cls := .l }

/-- SPR_STATUS (spec/06_spires_and_arithmetic.md). -/
def Reg.SPR_STATUS : RegRow :=
  { name := "SPR_STATUS", addr := 0x1000004,
    s1 := 0x10000, n1 := 34, reset := 0x2, ro := 0x7F000F, cls := .l }

/-- SPR_CTRL (spec/06_spires_and_arithmetic.md). -/
def Reg.SPR_CTRL : RegRow :=
  { name := "SPR_CTRL", addr := 0x1000008,
    s1 := 0x10000, n1 := 34, wo := 0x1, cls := .wo }

/-- SPR_EVENT (spec/06_spires_and_arithmetic.md). -/
def Reg.SPR_EVENT : RegRow :=
  { name := "SPR_EVENT", addr := 0x100000C,
    s1 := 0x10000, n1 := 34, w1c := 0x3F, cls := .v }

/-- SPR_IRQ_EN (spec/06_spires_and_arithmetic.md). -/
def Reg.SPR_IRQ_EN : RegRow :=
  { name := "SPR_IRQ_EN", addr := 0x1000010,
    s1 := 0x10000, n1 := 34, rw := 0x3F, cls := .v }

/-- SPR_TOKEN_RATE (spec/06_spires_and_arithmetic.md). -/
def Reg.SPR_TOKEN_RATE : RegRow :=
  { name := "SPR_TOKEN_RATE", addr := 0x1000014,
    s1 := 0x10000, n1 := 34, ro := 0xFFFF, cls := .l }

/-- SPR_CNT (spec/06_spires_and_arithmetic.md). -/
def Reg.SPR_CNT : RegRow :=
  { name := "SPR_CNT", addr := 0x1000040,
    s1 := 0x10000, n1 := 34, s2 := 0x4, n2 := 8, rc := 0xFFFFFFFF, cls := .c }

/-- MOON_STATUS (spec/06_spires_and_arithmetic.md). -/
def Reg.MOON_STATUS : RegRow :=
  { name := "MOON_STATUS", addr := 0x1400000,
    s1 := 0x1000, n1 := 8, reset := 0x2, ro := 0x1F, cls := .l }

/-- MOON_CTRL (spec/06_spires_and_arithmetic.md). -/
def Reg.MOON_CTRL : RegRow :=
  { name := "MOON_CTRL", addr := 0x1400004,
    s1 := 0x1000, n1 := 8, wo := 0x1, cls := .wo }

/-- MOON_EVENT (spec/06_spires_and_arithmetic.md). -/
def Reg.MOON_EVENT : RegRow :=
  { name := "MOON_EVENT", addr := 0x1400008,
    s1 := 0x1000, n1 := 8, w1c := 0x7F, cls := .v }

/-- MOON_IRQ_EN (spec/06_spires_and_arithmetic.md). -/
def Reg.MOON_IRQ_EN : RegRow :=
  { name := "MOON_IRQ_EN", addr := 0x140000C,
    s1 := 0x1000, n1 := 8, rw := 0x7F, cls := .v }

/-- MOON_CNT (spec/06_spires_and_arithmetic.md). -/
def Reg.MOON_CNT : RegRow :=
  { name := "MOON_CNT", addr := 0x1400040,
    s1 := 0x1000, n1 := 8, s2 := 0x4, n2 := 8, rc := 0xFFFFFFFF, cls := .c }

/-- SPR_QEVENT (spec/07_quantisation.md). -/
def Reg.SPR_QEVENT : RegRow :=
  { name := "SPR_QEVENT", addr := 0x1000018,
    s1 := 0x10000, n1 := 34, w1c := 0xF, cls := .v }

/-- SPR_QIRQ_EN (spec/07_quantisation.md). -/
def Reg.SPR_QIRQ_EN : RegRow :=
  { name := "SPR_QIRQ_EN", addr := 0x100001C,
    s1 := 0x10000, n1 := 34, rw := 0xF, cls := .v }

/-- SPR_QCNT (spec/07_quantisation.md). -/
def Reg.SPR_QCNT : RegRow :=
  { name := "SPR_QCNT", addr := 0x1000080,
    s1 := 0x10000, n1 := 34, s2 := 0x4, n2 := 6, rc := 0xFFFFFFFF, cls := .c }

/-- MOON_QEVENT (spec/07_quantisation.md). -/
def Reg.MOON_QEVENT : RegRow :=
  { name := "MOON_QEVENT", addr := 0x1400018,
    s1 := 0x1000, n1 := 8, w1c := 0xF, cls := .v }

/-- MOON_QIRQ_EN (spec/07_quantisation.md). -/
def Reg.MOON_QIRQ_EN : RegRow :=
  { name := "MOON_QIRQ_EN", addr := 0x140001C,
    s1 := 0x1000, n1 := 8, rw := 0xF, cls := .v }

/-- MOON_QCNT (spec/07_quantisation.md). -/
def Reg.MOON_QCNT : RegRow :=
  { name := "MOON_QCNT", addr := 0x1400080,
    s1 := 0x1000, n1 := 8, s2 := 0x4, n2 := 6, rc := 0xFFFFFFFF, cls := .c }

/-- SPR_OPCNT (spec/08_operators.md). -/
def Reg.SPR_OPCNT : RegRow :=
  { name := "SPR_OPCNT", addr := 0x10000A0,
    s1 := 0x10000, n1 := 34, s2 := 0x4, n2 := 4, rc := 0xFFFFFFFF, cls := .c }

/-- MOON_OPCNT (spec/08_operators.md). -/
def Reg.MOON_OPCNT : RegRow :=
  { name := "MOON_OPCNT", addr := 0x14000A0,
    s1 := 0x1000, n1 := 8, s2 := 0x4, n2 := 4, rc := 0xFFFFFFFF, cls := .c }

/-- QM_SCHED_CFG (spec/10_scheduling_and_preemption.md). -/
def Reg.QM_SCHED_CFG : RegRow :=
  { name := "QM_SCHED_CFG", addr := 0x1880000,
    reset := 0x3E8, rw := 0x3FFF, cls := .v }

/-- QM_SCHED_STATUS (spec/10_scheduling_and_preemption.md). -/
def Reg.QM_SCHED_STATUS : RegRow :=
  { name := "QM_SCHED_STATUS", addr := 0x1880004,
    ro := 0xFF03FF, cls := .l }

/-- QM_SCHED_EVENT (spec/10_scheduling_and_preemption.md). -/
def Reg.QM_SCHED_EVENT : RegRow :=
  { name := "QM_SCHED_EVENT", addr := 0x1880008,
    w1c := 0x3F, cls := .v }

/-- QM_SCHED_IRQ_EN (spec/10_scheduling_and_preemption.md). -/
def Reg.QM_SCHED_IRQ_EN : RegRow :=
  { name := "QM_SCHED_IRQ_EN", addr := 0x188000C,
    rw := 0x3F, cls := .v }

/-- QM_CLIENT_CLEAR (spec/10_scheduling_and_preemption.md). -/
def Reg.QM_CLIENT_CLEAR : RegRow :=
  { name := "QM_CLIENT_CLEAR", addr := 0x1880010,
    wo := 0x8000003F, cls := .wo }

/-- QM_CLIENT_TIME_LO (spec/10_scheduling_and_preemption.md). -/
def Reg.QM_CLIENT_TIME_LO : RegRow :=
  { name := "QM_CLIENT_TIME_LO", addr := 0x1881000,
    s1 := 0x40, n1 := 64, ro := 0xFFFFFFFF, cls := .v }

/-- QM_CLIENT_TIME_HI (spec/10_scheduling_and_preemption.md). -/
def Reg.QM_CLIENT_TIME_HI : RegRow :=
  { name := "QM_CLIENT_TIME_HI", addr := 0x1881004,
    s1 := 0x40, n1 := 64, ro := 0xFFFFFFFF, cls := .v }

/-- QM_CLIENT_WAIT_LO (spec/10_scheduling_and_preemption.md). -/
def Reg.QM_CLIENT_WAIT_LO : RegRow :=
  { name := "QM_CLIENT_WAIT_LO", addr := 0x1881008,
    s1 := 0x40, n1 := 64, ro := 0xFFFFFFFF, cls := .v }

/-- QM_CLIENT_WAIT_HI (spec/10_scheduling_and_preemption.md). -/
def Reg.QM_CLIENT_WAIT_HI : RegRow :=
  { name := "QM_CLIENT_WAIT_HI", addr := 0x188100C,
    s1 := 0x40, n1 := 64, ro := 0xFFFFFFFF, cls := .v }

/-- QM_CLIENT_WAIT_MAX (spec/10_scheduling_and_preemption.md). -/
def Reg.QM_CLIENT_WAIT_MAX : RegRow :=
  { name := "QM_CLIENT_WAIT_MAX", addr := 0x1881010,
    s1 := 0x40, n1 := 64, rc := 0xFFFFFFFF, cls := .v }

/-- QM_CLIENT_CNT (spec/10_scheduling_and_preemption.md). -/
def Reg.QM_CLIENT_CNT : RegRow :=
  { name := "QM_CLIENT_CNT", addr := 0x1881020,
    s1 := 0x40, n1 := 64, s2 := 0x4, n2 := 8, rc := 0xFFFFFFFF, cls := .v }

/-- SPR_SCHED_STATUS (spec/10_scheduling_and_preemption.md). -/
def Reg.SPR_SCHED_STATUS : RegRow :=
  { name := "SPR_SCHED_STATUS", addr := 0x10000C0,
    s1 := 0x10000, n1 := 34, ro := 0x3FFFFF7, cls := .l }

/-- WT_CTRL (spec/11_comets_verdicts_ejection.md). -/
def Reg.WT_CTRL : RegRow :=
  { name := "WT_CTRL", addr := 0x500000,
    rw := 0x3, cls := .s2 }

/-- WT_STATUS (spec/11_comets_verdicts_ejection.md). -/
def Reg.WT_STATUS : RegRow :=
  { name := "WT_STATUS", addr := 0x500004,
    ro := 0x1FFFF, cls := .l }

/-- WT_EVENT (spec/11_comets_verdicts_ejection.md). -/
def Reg.WT_EVENT : RegRow :=
  { name := "WT_EVENT", addr := 0x500008,
    w1c := 0xFF, cls := .v }

/-- WT_IRQ_EN (spec/11_comets_verdicts_ejection.md). -/
def Reg.WT_IRQ_EN : RegRow :=
  { name := "WT_IRQ_EN", addr := 0x50000C,
    rw := 0xFF, cls := .s2 }

/-- WT_TABLE_BASE_LO (spec/11_comets_verdicts_ejection.md). -/
def Reg.WT_TABLE_BASE_LO : RegRow :=
  { name := "WT_TABLE_BASE_LO", addr := 0x500010,
    rw := 0xFFFFF000, cls := .s2 }

/-- WT_TABLE_BASE_HI (spec/11_comets_verdicts_ejection.md). -/
def Reg.WT_TABLE_BASE_HI : RegRow :=
  { name := "WT_TABLE_BASE_HI", addr := 0x500014,
    rw := 0x7, cls := .s2 }

/-- WT_CNT (spec/11_comets_verdicts_ejection.md). -/
def Reg.WT_CNT : RegRow :=
  { name := "WT_CNT", addr := 0x500040,
    s1 := 0x4, n1 := 16, rc := 0xFFFFFFFF, cls := .c }

/-- WT_LANE_CFG (spec/11_comets_verdicts_ejection.md). -/
def Reg.WT_LANE_CFG : RegRow :=
  { name := "WT_LANE_CFG", addr := 0x501000,
    s1 := 0x80, n1 := 32, reset := 0xFF000000, rw := 0xFFFBF331, cls := .s2 }

/-- WT_COMMIT_LEAD (spec/11_comets_verdicts_ejection.md). -/
def Reg.WT_COMMIT_LEAD : RegRow :=
  { name := "WT_COMMIT_LEAD", addr := 0x501004,
    s1 := 0x80, n1 := 32, rw := 0xFFFFFFFF, cls := .s2 }

/-- WT_MAX_LEN (spec/11_comets_verdicts_ejection.md). -/
def Reg.WT_MAX_LEN : RegRow :=
  { name := "WT_MAX_LEN", addr := 0x501008,
    s1 := 0x80, n1 := 32, rw := 0xFFFFFFFF, cls := .s2 }

/-- WT_MIN_LEN (spec/11_comets_verdicts_ejection.md). -/
def Reg.WT_MIN_LEN : RegRow :=
  { name := "WT_MIN_LEN", addr := 0x50100C,
    s1 := 0x80, n1 := 32, rw := 0xFFFFFFFF, cls := .s2 }

/-- WT_MAX_SPEED (spec/11_comets_verdicts_ejection.md). -/
def Reg.WT_MAX_SPEED : RegRow :=
  { name := "WT_MAX_SPEED", addr := 0x501010,
    s1 := 0x80, n1 := 32, rw := 0xFFFFFFFF, cls := .s2 }

/-- WT_EJECT_OFS (spec/11_comets_verdicts_ejection.md). -/
def Reg.WT_EJECT_OFS : RegRow :=
  { name := "WT_EJECT_OFS", addr := 0x501014,
    s1 := 0x80, n1 := 32, rw := 0xFFFFFFFF, cls := .s2 }

/-- WT_EJECT_EXT (spec/11_comets_verdicts_ejection.md). -/
def Reg.WT_EJECT_EXT : RegRow :=
  { name := "WT_EJECT_EXT", addr := 0x501018,
    s1 := 0x80, n1 := 32, rw := 0xFFFFFFFF, cls := .s2 }

/-- WT_WIN_PRE (spec/11_comets_verdicts_ejection.md). -/
def Reg.WT_WIN_PRE : RegRow :=
  { name := "WT_WIN_PRE", addr := 0x50101C,
    s1 := 0x80, n1 := 32, rw := 0xFFFFFFFF, cls := .s2 }

/-- WT_WIN_POST (spec/11_comets_verdicts_ejection.md). -/
def Reg.WT_WIN_POST : RegRow :=
  { name := "WT_WIN_POST", addr := 0x501020,
    s1 := 0x80, n1 := 32, rw := 0xFFFFFFFF, cls := .s2 }

/-- WT_DET_OFFSET (spec/11_comets_verdicts_ejection.md). -/
def Reg.WT_DET_OFFSET : RegRow :=
  { name := "WT_DET_OFFSET", addr := 0x501024,
    s1 := 0x80, n1 := 32, rw := 0xFFFFFFFF, cls := .s2 }

/-- WT_GRID_PITCH (spec/11_comets_verdicts_ejection.md). -/
def Reg.WT_GRID_PITCH : RegRow :=
  { name := "WT_GRID_PITCH", addr := 0x501028,
    s1 := 0x80, n1 := 32, rw := 0xFFFFFFFF, cls := .s2 }

/-- WT_GRID_PHASE (spec/11_comets_verdicts_ejection.md). -/
def Reg.WT_GRID_PHASE : RegRow :=
  { name := "WT_GRID_PHASE", addr := 0x50102C,
    s1 := 0x80, n1 := 32, rw := 0xFFFFFFFF, cls := .s2 }

/-- WT_IMG_CFG (spec/11_comets_verdicts_ejection.md). -/
def Reg.WT_IMG_CFG : RegRow :=
  { name := "WT_IMG_CFG", addr := 0x501030,
    s1 := 0x80, n1 := 32, reset := 0x400, rw := 0xFFFF8F1F, cls := .s2 }

/-- WT_IMG_BAND (spec/11_comets_verdicts_ejection.md). -/
def Reg.WT_IMG_BAND : RegRow :=
  { name := "WT_IMG_BAND", addr := 0x501034,
    s1 := 0x80, n1 := 32, rw := 0xFFFFFFFF, cls := .s2 }

/-- WT_IMG_MINPIX (spec/11_comets_verdicts_ejection.md). -/
def Reg.WT_IMG_MINPIX : RegRow :=
  { name := "WT_IMG_MINPIX", addr := 0x501038,
    s1 := 0x80, n1 := 32, reset := 0x1, rw := 0xFFFF, cls := .s2 }

/-- WT_EJECT_MASK (spec/11_comets_verdicts_ejection.md). -/
def Reg.WT_EJECT_MASK : RegRow :=
  { name := "WT_EJECT_MASK", addr := 0x501040,
    s1 := 0x80, n1 := 32, s2 := 0x4, n2 := 8, rw := 0xFFFFFFFF, cls := .s2 }

/-- WT_GRP_CFG (spec/11_comets_verdicts_ejection.md). -/
def Reg.WT_GRP_CFG : RegRow :=
  { name := "WT_GRP_CFG", addr := 0x502000,
    s1 := 0x40, n1 := 16, reset := 0x3E80000, rw := 0xFFFF000F, ro := 0x10, cls := .s2 }

/-- WT_GRP_DO (spec/11_comets_verdicts_ejection.md). -/
def Reg.WT_GRP_DO : RegRow :=
  { name := "WT_GRP_DO", addr := 0x502004,
    s1 := 0x40, n1 := 16, rw := 0xFFFFFFFF, cls := .s2 }

/-- WT_GRP_LEAD_ON (spec/11_comets_verdicts_ejection.md). -/
def Reg.WT_GRP_LEAD_ON : RegRow :=
  { name := "WT_GRP_LEAD_ON", addr := 0x502008,
    s1 := 0x40, n1 := 16, rw := 0xFFFFFFFF, cls := .s2 }

/-- WT_GRP_LEAD_OFF (spec/11_comets_verdicts_ejection.md). -/
def Reg.WT_GRP_LEAD_OFF : RegRow :=
  { name := "WT_GRP_LEAD_OFF", addr := 0x50200C,
    s1 := 0x40, n1 := 16, rw := 0xFFFFFFFF, cls := .s2 }

/-- WT_GRP_PULSE (spec/11_comets_verdicts_ejection.md). -/
def Reg.WT_GRP_PULSE : RegRow :=
  { name := "WT_GRP_PULSE", addr := 0x502010,
    s1 := 0x40, n1 := 16, reset := 0x640000, rw := 0xFFFFFFFF, cls := .s2 }

/-- WT_GRP_BANK_ADDR (spec/11_comets_verdicts_ejection.md). -/
def Reg.WT_GRP_BANK_ADDR : RegRow :=
  { name := "WT_GRP_BANK_ADDR", addr := 0x502014,
    s1 := 0x40, n1 := 16, rw := 0xFFFFFFFF, cls := .s2 }

/-- WT_GRP_BANK_PORT (spec/11_comets_verdicts_ejection.md). -/
def Reg.WT_GRP_BANK_PORT : RegRow :=
  { name := "WT_GRP_BANK_PORT", addr := 0x502018,
    s1 := 0x40, n1 := 16, reset := 0xC80000, rw := 0xFFFFFFFF, cls := .s2 }

/-- WT_GRP_VALVES_LO (spec/11_comets_verdicts_ejection.md). -/
def Reg.WT_GRP_VALVES_LO : RegRow :=
  { name := "WT_GRP_VALVES_LO", addr := 0x50201C,
    s1 := 0x40, n1 := 16, rw := 0xFFFFFFFF, cls := .s2 }

/-- WT_GRP_VALVES_HI (spec/11_comets_verdicts_ejection.md). -/
def Reg.WT_GRP_VALVES_HI : RegRow :=
  { name := "WT_GRP_VALVES_HI", addr := 0x502020,
    s1 := 0x40, n1 := 16, rw := 0xFFFFFFFF, cls := .s2 }

/-- WT_GRP_SEND_AHEAD (spec/11_comets_verdicts_ejection.md). -/
def Reg.WT_GRP_SEND_AHEAD : RegRow :=
  { name := "WT_GRP_SEND_AHEAD", addr := 0x502024,
    s1 := 0x40, n1 := 16, reset := 0x1F4, rw := 0xFFFFFFFF, cls := .s2 }

/-- WT_GRP_BANK_MAC_LO (spec/11_comets_verdicts_ejection.md). -/
def Reg.WT_GRP_BANK_MAC_LO : RegRow :=
  { name := "WT_GRP_BANK_MAC_LO", addr := 0x502028,
    s1 := 0x40, n1 := 16, ro := 0xFFFFFFFF, cls := .l }

/-- WT_GRP_BANK_MAC_HI (spec/11_comets_verdicts_ejection.md). -/
def Reg.WT_GRP_BANK_MAC_HI : RegRow :=
  { name := "WT_GRP_BANK_MAC_HI", addr := 0x50202C,
    s1 := 0x40, n1 := 16, ro := 0xFFFFFFFF, cls := .l }

/-- FIO_SUPPLY (spec/12_field_io.md). -/
def Reg.FIO_SUPPLY : RegRow :=
  { name := "FIO_SUPPLY", addr := 0x600000,
    ro := 0x301FF, cls := .l }

/-- FIO_EVENT (spec/12_field_io.md). -/
def Reg.FIO_EVENT : RegRow :=
  { name := "FIO_EVENT", addr := 0x600004,
    w1c := 0xF, cls := .k }

/-- FIO_IRQ_EN (spec/12_field_io.md). -/
def Reg.FIO_IRQ_EN : RegRow :=
  { name := "FIO_IRQ_EN", addr := 0x600008,
    rw := 0xF, cls := .s3 }

/-- FIO_GANG (spec/12_field_io.md). -/
def Reg.FIO_GANG : RegRow :=
  { name := "FIO_GANG", addr := 0x60000C,
    rw := 0xFFFF, cls := .s3 }

/-- FIO_DO_SET (spec/12_field_io.md). -/
def Reg.FIO_DO_SET : RegRow :=
  { name := "FIO_DO_SET", addr := 0x600010,
    rw := 0xFFFFFFFF, cls := .s3 }

/-- FIO_DO_STATE (spec/12_field_io.md). -/
def Reg.FIO_DO_STATE : RegRow :=
  { name := "FIO_DO_STATE", addr := 0x600014,
    ro := 0xFFFFFFFF, cls := .l }

/-- FIO_DO_CLEAR (spec/12_field_io.md). -/
def Reg.FIO_DO_CLEAR : RegRow :=
  { name := "FIO_DO_CLEAR", addr := 0x600018,
    wo := 0xFFFFFFFF, cls := .wo }

/-- FIO_DI_STATE (spec/12_field_io.md). -/
def Reg.FIO_DI_STATE : RegRow :=
  { name := "FIO_DI_STATE", addr := 0x60001C,
    ro := 0xFFFFFFFF, cls := .l }

/-- FIO_CNT (spec/12_field_io.md). -/
def Reg.FIO_CNT : RegRow :=
  { name := "FIO_CNT", addr := 0x600040,
    s1 := 0x4, n1 := 8, rc := 0xFFFFFFFF, cls := .c }

/-- FIO_DO_CFG (spec/12_field_io.md). -/
def Reg.FIO_DO_CFG : RegRow :=
  { name := "FIO_DO_CFG", addr := 0x600100,
    s1 := 0x4, n1 := 32, reset := 0xA0000, rw := 0xFFFF003B, cls := .s3 }

/-- FIO_DO_STATUS (spec/12_field_io.md). -/
def Reg.FIO_DO_STATUS : RegRow :=
  { name := "FIO_DO_STATUS", addr := 0x600200,
    s1 := 0x4, n1 := 32, ro := 0x3F, cls := .k }

/-- FIO_DI_CFG (spec/12_field_io.md). -/
def Reg.FIO_DI_CFG : RegRow :=
  { name := "FIO_DI_CFG", addr := 0x600300,
    s1 := 0x4, n1 := 16, reset := 0xC70000, rw := 0xFFFF0067, cls := .s3 }

/-- MEM_STATUS (spec/13_memory_and_translation.md). -/
def Reg.MEM_STATUS : RegRow :=
  { name := "MEM_STATUS", addr := 0x1C00000,
    reset := 0x1, ro := 0xFF03, cls := .l }

/-- MEM_EVENT (spec/13_memory_and_translation.md). -/
def Reg.MEM_EVENT : RegRow :=
  { name := "MEM_EVENT", addr := 0x1C00004,
    w1c := 0xF, cls := .v }

/-- MEM_IRQ_EN (spec/13_memory_and_translation.md). -/
def Reg.MEM_IRQ_EN : RegRow :=
  { name := "MEM_IRQ_EN", addr := 0x1C00008,
    rw := 0xF, cls := .v }

/-- MEM_FREE (spec/13_memory_and_translation.md). -/
def Reg.MEM_FREE : RegRow :=
  { name := "MEM_FREE", addr := 0x1C0000C,
    ro := 0xFFFF, cls := .l }

/-- MEM_TOWER_TEMP (spec/13_memory_and_translation.md). -/
def Reg.MEM_TOWER_TEMP : RegRow :=
  { name := "MEM_TOWER_TEMP", addr := 0x1C00010,
    s1 := 0x4, n1 := 4, ro := 0xFF, cls := .l }

/-- MEM_VAULT_MERGE (spec/13_memory_and_translation.md). -/
def Reg.MEM_VAULT_MERGE : RegRow :=
  { name := "MEM_VAULT_MERGE", addr := 0x1C00100,
    s1 := 0x4, n1 := 32, rc := 0xFFFF0000, ro := 0x7F, cls := .l }

/-- MEM_VAULT_CNT (spec/13_memory_and_translation.md). -/
def Reg.MEM_VAULT_CNT : RegRow :=
  { name := "MEM_VAULT_CNT", addr := 0x1C01000,
    s1 := 0x40, n1 := 32, s2 := 0x4, n2 := 8, rc := 0xFFFFFFFF, cls := .c }

/-- XLT_STATUS (spec/13_memory_and_translation.md). -/
def Reg.XLT_STATUS : RegRow :=
  { name := "XLT_STATUS", addr := 0x2000000,
    ro := 0x3, cls := .l }

/-- XLT_EVENT (spec/13_memory_and_translation.md). -/
def Reg.XLT_EVENT : RegRow :=
  { name := "XLT_EVENT", addr := 0x2000004,
    w1c := 0xF, cls := .v }

/-- XLT_IRQ_EN (spec/13_memory_and_translation.md). -/
def Reg.XLT_IRQ_EN : RegRow :=
  { name := "XLT_IRQ_EN", addr := 0x2000008,
    rw := 0xF, cls := .v }

/-- XLT_FAULT_Q (spec/13_memory_and_translation.md). -/
def Reg.XLT_FAULT_Q : RegRow :=
  { name := "XLT_FAULT_Q", addr := 0x200000C,
    reset := 0x10, rw := 0xFF, cls := .v }

/-- XLT_RESUME (spec/13_memory_and_translation.md). -/
def Reg.XLT_RESUME : RegRow :=
  { name := "XLT_RESUME", addr := 0x2000010,
    wo := 0x8000003F, cls := .wo }

/-- XLT_INVAL (spec/13_memory_and_translation.md). -/
def Reg.XLT_INVAL : RegRow :=
  { name := "XLT_INVAL", addr := 0x2000014,
    wo := 0x83FFFFFF, cls := .wo }

/-- XLT_INVAL_VA_LO (spec/13_memory_and_translation.md). -/
def Reg.XLT_INVAL_VA_LO : RegRow :=
  { name := "XLT_INVAL_VA_LO", addr := 0x2000018,
    rw := 0xFFFFFFFF, cls := .v }

/-- XLT_INVAL_VA_HI (spec/13_memory_and_translation.md). -/
def Reg.XLT_INVAL_VA_HI : RegRow :=
  { name := "XLT_INVAL_VA_HI", addr := 0x200001C,
    rw := 0xFF, cls := .v }

/-- XLT_MIG_VA_LO (spec/13_memory_and_translation.md). -/
def Reg.XLT_MIG_VA_LO : RegRow :=
  { name := "XLT_MIG_VA_LO", addr := 0x2000020,
    rw := 0xFFFFFFFF, cls := .v }

/-- XLT_MIG_VA_HI (spec/13_memory_and_translation.md). -/
def Reg.XLT_MIG_VA_HI : RegRow :=
  { name := "XLT_MIG_VA_HI", addr := 0x2000024,
    rw := 0xFF, cls := .v }

/-- XLT_MIG_DST_LO (spec/13_memory_and_translation.md). -/
def Reg.XLT_MIG_DST_LO : RegRow :=
  { name := "XLT_MIG_DST_LO", addr := 0x2000028,
    rw := 0xFFFFFFFF, cls := .v }

/-- XLT_MIG_DST_HI (spec/13_memory_and_translation.md). -/
def Reg.XLT_MIG_DST_HI : RegRow :=
  { name := "XLT_MIG_DST_HI", addr := 0x200002C,
    rw := 0x7, cls := .v }

/-- XLT_MIG_CTRL (spec/13_memory_and_translation.md). -/
def Reg.XLT_MIG_CTRL : RegRow :=
  { name := "XLT_MIG_CTRL", addr := 0x2000030,
    wo := 0x83FF0001, cls := .wo }

/-- XLT_CNT (spec/13_memory_and_translation.md). -/
def Reg.XLT_CNT : RegRow :=
  { name := "XLT_CNT", addr := 0x2000040,
    s1 := 0x4, n1 := 8, rc := 0xFFFFFFFF, cls := .c }

/-- XLT_ROOT_LO (spec/13_memory_and_translation.md). -/
def Reg.XLT_ROOT_LO : RegRow :=
  { name := "XLT_ROOT_LO", addr := 0x2010000,
    s1 := 0x8, n1 := 1024, rw := 0xFFFFE001, cls := .v }

/-- XLT_ROOT_HI (spec/13_memory_and_translation.md). -/
def Reg.XLT_ROOT_HI : RegRow :=
  { name := "XLT_ROOT_HI", addr := 0x2010004,
    s1 := 0x8, n1 := 1024, rw := 0x7, cls := .v }

/-- MEM_ECC_EVENT (spec/14_data_integrity.md). -/
def Reg.MEM_ECC_EVENT : RegRow :=
  { name := "MEM_ECC_EVENT", addr := 0x1C00200,
    w1c := 0x1F, cls := .v }

/-- MEM_ECC_IRQ_EN (spec/14_data_integrity.md). -/
def Reg.MEM_ECC_IRQ_EN : RegRow :=
  { name := "MEM_ECC_IRQ_EN", addr := 0x1C00204,
    rw := 0x1F, cls := .v }

/-- MEM_CE_LOG_Q (spec/14_data_integrity.md). -/
def Reg.MEM_CE_LOG_Q : RegRow :=
  { name := "MEM_CE_LOG_Q", addr := 0x1C00208,
    reset := 0x11, rw := 0xFF, cls := .v }

/-- MEM_SCRUB_CFG (spec/14_data_integrity.md). -/
def Reg.MEM_SCRUB_CFG : RegRow :=
  { name := "MEM_SCRUB_CFG", addr := 0x1C0020C,
    reset := 0xC00, rw := 0xFF01, cls := .v }

/-- MEM_SCRUB_ADDR_LO (spec/14_data_integrity.md). -/
def Reg.MEM_SCRUB_ADDR_LO : RegRow :=
  { name := "MEM_SCRUB_ADDR_LO", addr := 0x1C00210,
    rw := 0xFFFFFFC0, cls := .v }

/-- MEM_SCRUB_ADDR_HI (spec/14_data_integrity.md). -/
def Reg.MEM_SCRUB_ADDR_HI : RegRow :=
  { name := "MEM_SCRUB_ADDR_HI", addr := 0x1C00214,
    rw := 0x7, cls := .v }

/-- MEM_SCRUB_CMD (spec/14_data_integrity.md). -/
def Reg.MEM_SCRUB_CMD : RegRow :=
  { name := "MEM_SCRUB_CMD", addr := 0x1C00218,
    wo := 0x1, cls := .wo }

/-- MEM_SCRUB_RESULT (spec/14_data_integrity.md). -/
def Reg.MEM_SCRUB_RESULT : RegRow :=
  { name := "MEM_SCRUB_RESULT", addr := 0x1C0021C,
    reset := 0x3F, ro := 0x8000073F, cls := .l }

/-- MEM_PATROL_PTR_LO (spec/14_data_integrity.md). -/
def Reg.MEM_PATROL_PTR_LO : RegRow :=
  { name := "MEM_PATROL_PTR_LO", addr := 0x1C00220,
    ro := 0xFFFFFFFF, cls := .l }

/-- MEM_PATROL_PTR_HI (spec/14_data_integrity.md). -/
def Reg.MEM_PATROL_PTR_HI : RegRow :=
  { name := "MEM_PATROL_PTR_HI", addr := 0x1C00224,
    ro := 0xFFFFFFFF, cls := .l }

/-- MEM_INJECT (spec/14_data_integrity.md). -/
def Reg.MEM_INJECT : RegRow :=
  { name := "MEM_INJECT", addr := 0x1C00228,
    wo := 0x80000000, cls := .wo }

/-- MEM_INJECT_LANES (spec/14_data_integrity.md). -/
def Reg.MEM_INJECT_LANES : RegRow :=
  { name := "MEM_INJECT_LANES", addr := 0x1C0022C,
    rw := 0xFFFFFFFF, cls := .v }

/-- MEM_INJECT_LANES_CHK (spec/14_data_integrity.md). -/
def Reg.MEM_INJECT_LANES_CHK : RegRow :=
  { name := "MEM_INJECT_LANES_CHK", addr := 0x1C00230,
    rw := 0xF, cls := .v }

/-- MEM_SPARE_STATUS (spec/14_data_integrity.md). -/
def Reg.MEM_SPARE_STATUS : RegRow :=
  { name := "MEM_SPARE_STATUS", addr := 0x1C00234,
    ro := 0x3FFFFF, cls := .l }

/-- MEM_ECC_CNT (spec/14_data_integrity.md). -/
def Reg.MEM_ECC_CNT : RegRow :=
  { name := "MEM_ECC_CNT", addr := 0x1C02000,
    s1 := 0x40, n1 := 32, s2 := 0x4, n2 := 10, rc := 0xFFFFFFFF, cls := .c }

/-- QM_STATUS (spec/15_hardware_queues.md). -/
def Reg.QM_STATUS : RegRow :=
  { name := "QM_STATUS", addr := 0x1800000,
    ro := 0x7FFF, cls := .l }

/-- QM_POOL_FREE (spec/15_hardware_queues.md). -/
def Reg.QM_POOL_FREE : RegRow :=
  { name := "QM_POOL_FREE", addr := 0x1800004,
    reset := 0x20000, ro := 0x3FFFF, cls := .l }

/-- QM_EVENT (spec/15_hardware_queues.md). -/
def Reg.QM_EVENT : RegRow :=
  { name := "QM_EVENT", addr := 0x1800008,
    w1c := 0x7, cls := .v }

/-- QM_IRQ_EN (spec/15_hardware_queues.md). -/
def Reg.QM_IRQ_EN : RegRow :=
  { name := "QM_IRQ_EN", addr := 0x180000C,
    rw := 0x7, cls := .s2 }

/-- QM_POP (spec/15_hardware_queues.md). -/
def Reg.QM_POP : RegRow :=
  { name := "QM_POP", addr := 0x1800010,
    wo := 0x3FFF, cls := .wo }

/-- QM_POP_STATUS (spec/15_hardware_queues.md). -/
def Reg.QM_POP_STATUS : RegRow :=
  { name := "QM_POP_STATUS", addr := 0x1800014,
    ro := 0xFFFFFFFF, cls := .v }

/-- QM_CNT (spec/15_hardware_queues.md). -/
def Reg.QM_CNT : RegRow :=
  { name := "QM_CNT", addr := 0x1800040,
    s1 := 0x4, n1 := 6, rc := 0xFFFFFFFF, cls := .c }

/-- QM_PEND (spec/15_hardware_queues.md). -/
def Reg.QM_PEND : RegRow :=
  { name := "QM_PEND", addr := 0x1801000,
    s1 := 0x4, n1 := 512, w1c := 0xFFFFFFFF, cls := .k }

/-- QM_POP_BUF (spec/15_hardware_queues.md). -/
def Reg.QM_POP_BUF : RegRow :=
  { name := "QM_POP_BUF", addr := 0x1802000,
    s1 := 0x4, n1 := 1024, ro := 0xFFFFFFFF, cls := .v }

/-- QM_Q_CFG (spec/15_hardware_queues.md). -/
def Reg.QM_Q_CFG : RegRow :=
  { name := "QM_Q_CFG", addr := 0x1900000,
    s1 := 0x20, n1 := 16384, reset := 0x400001, rw := 0xF9FFFFFF, cls := .kq }

/-- QM_Q_BASE_LO (spec/15_hardware_queues.md). -/
def Reg.QM_Q_BASE_LO : RegRow :=
  { name := "QM_Q_BASE_LO", addr := 0x1900004,
    s1 := 0x20, n1 := 16384, rw := 0xFFFFF000, cls := .kq }

/-- QM_Q_BASE_HI (spec/15_hardware_queues.md). -/
def Reg.QM_Q_BASE_HI : RegRow :=
  { name := "QM_Q_BASE_HI", addr := 0x1900008,
    s1 := 0x20, n1 := 16384, rw := 0x7, cls := .kq }

/-- QM_Q_MIRROR_LO (spec/15_hardware_queues.md). -/
def Reg.QM_Q_MIRROR_LO : RegRow :=
  { name := "QM_Q_MIRROR_LO", addr := 0x190000C,
    s1 := 0x20, n1 := 16384, rw := 0xFFFFF000, cls := .kq }

/-- QM_Q_MIRROR_HI (spec/15_hardware_queues.md). -/
def Reg.QM_Q_MIRROR_HI : RegRow :=
  { name := "QM_Q_MIRROR_HI", addr := 0x1900010,
    s1 := 0x20, n1 := 16384, rw := 0x7, cls := .kq }

/-- QM_Q_FILL (spec/15_hardware_queues.md). -/
def Reg.QM_Q_FILL : RegRow :=
  { name := "QM_Q_FILL", addr := 0x1900014,
    s1 := 0x20, n1 := 16384, ro := 0x1FFFF, cls := .l }

/-- QM_Q_CREDIT (spec/15_hardware_queues.md). -/
def Reg.QM_Q_CREDIT : RegRow :=
  { name := "QM_Q_CREDIT", addr := 0x1900018,
    s1 := 0x20, n1 := 16384, ro := 0x1FFFF, cls := .l }

/-- QM_Q_SEQ (spec/15_hardware_queues.md). -/
def Reg.QM_Q_SEQ : RegRow :=
  { name := "QM_Q_SEQ", addr := 0x190001C,
    s1 := 0x20, n1 := 16384, ro := 0xFFFFFFFF, cls := .l }

/-- F1_DOORBELL (spec/16_host_link_and_mailboxes.md). -/
def Reg.F1_DOORBELL : RegRow :=
  { name := "F1_DOORBELL", addr := 0x10010000,
    wo := 0xF, cls := .wo }

/-- F1_MB_STATE (spec/16_host_link_and_mailboxes.md). -/
def Reg.F1_MB_STATE : RegRow :=
  { name := "F1_MB_STATE", addr := 0x10010004,
    ro := 0xFFFFFFFF, cls := .k }

/-- F1_EVENT (spec/16_host_link_and_mailboxes.md). -/
def Reg.F1_EVENT : RegRow :=
  { name := "F1_EVENT", addr := 0x10010008,
    w1c := 0x1FFFF, cls := .k }

/-- F1_IRQ_EN (spec/16_host_link_and_mailboxes.md). -/
def Reg.F1_IRQ_EN : RegRow :=
  { name := "F1_IRQ_EN", addr := 0x1001000C,
    rw := 0x1FFFF, cls := .k }

/-- F1_BULK_COUNT_LO (spec/16_host_link_and_mailboxes.md). -/
def Reg.F1_BULK_COUNT_LO : RegRow :=
  { name := "F1_BULK_COUNT_LO", addr := 0x10010010,
    ro := 0xFFFFFFFF, cls := .k }

/-- F1_BULK_COUNT_HI (spec/16_host_link_and_mailboxes.md). -/
def Reg.F1_BULK_COUNT_HI : RegRow :=
  { name := "F1_BULK_COUNT_HI", addr := 0x10010014,
    ro := 0xFFFFFFFF, cls := .k }

/-- F1_CNT (spec/16_host_link_and_mailboxes.md). -/
def Reg.F1_CNT : RegRow :=
  { name := "F1_CNT", addr := 0x10010040,
    s1 := 0x4, n1 := 5, rc := 0xFFFFFFFF, cls := .c }

/-- F2_PAGE (spec/16_host_link_and_mailboxes.md). -/
def Reg.F2_PAGE : RegRow :=
  { name := "F2_PAGE", addr := 0x20010000,
    rw := 0x3FF, cls := .k }

/-- F2_VIOL_CNT (spec/16_host_link_and_mailboxes.md). -/
def Reg.F2_VIOL_CNT : RegRow :=
  { name := "F2_VIOL_CNT", addr := 0x20010004,
    rc := 0xFFFFFFFF, cls := .c }

/-- F3_LEVEL (spec/16_host_link_and_mailboxes.md). -/
def Reg.F3_LEVEL : RegRow :=
  { name := "F3_LEVEL", addr := 0x30010000,
    ro := 0x1FFFF, cls := .l }

/-- F3_CTRL (spec/16_host_link_and_mailboxes.md). -/
def Reg.F3_CTRL : RegRow :=
  { name := "F3_CTRL", addr := 0x30010004,
    w1s := 0x1, cls := .k }

/-- F3_THRESH (spec/16_host_link_and_mailboxes.md). -/
def Reg.F3_THRESH : RegRow :=
  { name := "F3_THRESH", addr := 0x30010008,
    rw := 0x1FFFF, cls := .k }

/-- SYS_IRQ_SRC (spec/16_host_link_and_mailboxes.md). -/
def Reg.SYS_IRQ_SRC : RegRow :=
  { name := "SYS_IRQ_SRC", addr := 0x100,
    ro := 0x3FFFF, cls := .l }

/-- SYS_IRQ_HOST_EN (spec/16_host_link_and_mailboxes.md). -/
def Reg.SYS_IRQ_HOST_EN : RegRow :=
  { name := "SYS_IRQ_HOST_EN", addr := 0x104,
    rw := 0x3FFFF, cls := .k }

/-- SYS_HOST_EVENT (spec/16_host_link_and_mailboxes.md). -/
def Reg.SYS_HOST_EVENT : RegRow :=
  { name := "SYS_HOST_EVENT", addr := 0x108,
    w1c := 0x7, cls := .k }

/-- SYS_HOST_IRQ_EN (spec/16_host_link_and_mailboxes.md). -/
def Reg.SYS_HOST_IRQ_EN : RegRow :=
  { name := "SYS_HOST_IRQ_EN", addr := 0x10C,
    rw := 0x7, cls := .k }

/-- SYS_UNMAPPED_CNT (spec/16_host_link_and_mailboxes.md). -/
def Reg.SYS_UNMAPPED_CNT : RegRow :=
  { name := "SYS_UNMAPPED_CNT", addr := 0x110,
    rc := 0xFFFFFFFF, cls := .c }

/-- SYS_FW_VERSION (spec/16_host_link_and_mailboxes.md). -/
def Reg.SYS_FW_VERSION : RegRow :=
  { name := "SYS_FW_VERSION", addr := 0x114,
    reset := 0xB0000000, ro := 0xFF00FFFF, cls := .l }

/-- SYS_REFUSED_ADDR (spec/16_host_link_and_mailboxes.md). -/
def Reg.SYS_REFUSED_ADDR : RegRow :=
  { name := "SYS_REFUSED_ADDR", addr := 0x118,
    ro := 0x3FFFFFF, cls := .k }

/-- SYS_REFUSED_STATUS (spec/16_host_link_and_mailboxes.md). -/
def Reg.SYS_REFUSED_STATUS : RegRow :=
  { name := "SYS_REFUSED_STATUS", addr := 0x11C,
    ro := 0xFFFF, cls := .k }

/-- SYS_REFUSED_CNT (spec/16_host_link_and_mailboxes.md). -/
def Reg.SYS_REFUSED_CNT : RegRow :=
  { name := "SYS_REFUSED_CNT", addr := 0x120,
    rc := 0xFFFFFFFF, cls := .c }

/-- LN_STATUS (spec/17_serial_lanes_and_fabric.md). -/
def Reg.LN_STATUS : RegRow :=
  { name := "LN_STATUS", addr := 0x2400000,
    ro := 0xFFFF0000, cls := .l }

/-- LN_EVENT (spec/17_serial_lanes_and_fabric.md). -/
def Reg.LN_EVENT : RegRow :=
  { name := "LN_EVENT", addr := 0x2400004,
    w1c := 0x1F, cls := .v }

/-- LN_IRQ_EN (spec/17_serial_lanes_and_fabric.md). -/
def Reg.LN_IRQ_EN : RegRow :=
  { name := "LN_IRQ_EN", addr := 0x2400008,
    rw := 0x1F, cls := .s2 }

/-- LN_LINK_RESET (spec/17_serial_lanes_and_fabric.md). -/
def Reg.LN_LINK_RESET : RegRow :=
  { name := "LN_LINK_RESET", addr := 0x240000C,
    wo := 0xFFFFFFFF, cls := .wo }

/-- LN_LANE_CFG (spec/17_serial_lanes_and_fabric.md). -/
def Reg.LN_LANE_CFG : RegRow :=
  { name := "LN_LANE_CFG", addr := 0x2401000,
    s1 := 0x80, n1 := 32, reset := 0x200, rw := 0x3FB, cls := .s2 }

/-- LN_LANE_STATUS (spec/17_serial_lanes_and_fabric.md). -/
def Reg.LN_LANE_STATUS : RegRow :=
  { name := "LN_LANE_STATUS", addr := 0x2401004,
    s1 := 0x80, n1 := 32, reset := 0x80, ro := 0x3FFF, cls := .l }

/-- LN_TX_FFE (spec/17_serial_lanes_and_fabric.md). -/
def Reg.LN_TX_FFE : RegRow :=
  { name := "LN_TX_FFE", addr := 0x2401008,
    s1 := 0x80, n1 := 32, reset := 0x3F00, rw := 0x3F3F3F3F, cls := .s2 }

/-- LN_PRBS_CFG (spec/17_serial_lanes_and_fabric.md). -/
def Reg.LN_PRBS_CFG : RegRow :=
  { name := "LN_PRBS_CFG", addr := 0x240100C,
    s1 := 0x80, n1 := 32, rw := 0xFFF03, wo := 0x100000, cls := .s2 }

/-- LN_LANE_CNT (spec/17_serial_lanes_and_fabric.md). -/
def Reg.LN_LANE_CNT : RegRow :=
  { name := "LN_LANE_CNT", addr := 0x2401040,
    s1 := 0x80, n1 := 32, s2 := 0x4, n2 := 6, rc := 0xFFFFFFFF, cls := .c }

/-- LN_MAC_CFG (spec/17_serial_lanes_and_fabric.md). -/
def Reg.LN_MAC_CFG : RegRow :=
  { name := "LN_MAC_CFG", addr := 0x2403000,
    s1 := 0x100, n1 := 8, rw := 0x1F9F1, ro := 0x80000000, cls := .s2 }

/-- LN_MAC_ADDR_LO (spec/17_serial_lanes_and_fabric.md). -/
def Reg.LN_MAC_ADDR_LO : RegRow :=
  { name := "LN_MAC_ADDR_LO", addr := 0x2403004,
    s1 := 0x100, n1 := 8, rw := 0xFFFFFFFF, cls := .s2 }

/-- LN_MAC_ADDR_HI (spec/17_serial_lanes_and_fabric.md). -/
def Reg.LN_MAC_ADDR_HI : RegRow :=
  { name := "LN_MAC_ADDR_HI", addr := 0x2403008,
    s1 := 0x100, n1 := 8, rw := 0xFFFF, cls := .s2 }

/-- LN_MAC_IPV4 (spec/17_serial_lanes_and_fabric.md). -/
def Reg.LN_MAC_IPV4 : RegRow :=
  { name := "LN_MAC_IPV4", addr := 0x240300C,
    s1 := 0x100, n1 := 8, rw := 0xFFFFFFFF, cls := .s2 }

/-- LN_MAC_CNT (spec/17_serial_lanes_and_fabric.md). -/
def Reg.LN_MAC_CNT : RegRow :=
  { name := "LN_MAC_CNT", addr := 0x2403040,
    s1 := 0x100, n1 := 8, s2 := 0x4, n2 := 9, rc := 0xFFFFFFFF, cls := .c }

/-- FAB_NODE (spec/17_serial_lanes_and_fabric.md). -/
def Reg.FAB_NODE : RegRow :=
  { name := "FAB_NODE", addr := 0x2800000,
    rw := 0x1F, ro := 0xFFFF0000, cls := .s2 }

/-- FAB_EVENT (spec/17_serial_lanes_and_fabric.md). -/
def Reg.FAB_EVENT : RegRow :=
  { name := "FAB_EVENT", addr := 0x2800004,
    w1c := 0x7F, cls := .v }

/-- FAB_IRQ_EN (spec/17_serial_lanes_and_fabric.md). -/
def Reg.FAB_IRQ_EN : RegRow :=
  { name := "FAB_IRQ_EN", addr := 0x2800008,
    rw := 0x7F, cls := .s2 }

/-- FAB_ROUTE (spec/17_serial_lanes_and_fabric.md). -/
def Reg.FAB_ROUTE : RegRow :=
  { name := "FAB_ROUTE", addr := 0x2800040,
    s1 := 0x4, n1 := 16, rw := 0x7, cls := .s2 }

/-- FAB_LINK_CFG (spec/17_serial_lanes_and_fabric.md). -/
def Reg.FAB_LINK_CFG : RegRow :=
  { name := "FAB_LINK_CFG", addr := 0x2801000,
    s1 := 0x100, n1 := 4, reset := 0x4280302, rw := 0xFFFFFF03, cls := .s2 }

/-- FAB_LINK_STATUS (spec/17_serial_lanes_and_fabric.md). -/
def Reg.FAB_LINK_STATUS : RegRow :=
  { name := "FAB_LINK_STATUS", addr := 0x2801004,
    s1 := 0x100, n1 := 4, ro := 0xF0FF0007, cls := .l }

/-- FAB_VC_CREDIT (spec/17_serial_lanes_and_fabric.md). -/
def Reg.FAB_VC_CREDIT : RegRow :=
  { name := "FAB_VC_CREDIT", addr := 0x2801008,
    s1 := 0x100, n1 := 4, reset := 0x40404040, rw := 0xFFFFFFFF, cls := .s2 }

/-- FAB_INJECT (spec/17_serial_lanes_and_fabric.md). -/
def Reg.FAB_INJECT : RegRow :=
  { name := "FAB_INJECT", addr := 0x280100C,
    s1 := 0x100, n1 := 4, wo := 0xFF, cls := .wo }

/-- FAB_LINK_CNT (spec/17_serial_lanes_and_fabric.md). -/
def Reg.FAB_LINK_CNT : RegRow :=
  { name := "FAB_LINK_CNT", addr := 0x2801040,
    s1 := 0x100, n1 := 4, s2 := 0x4, n2 := 8, rc := 0xFFFFFFFF, cls := .c }

/-- TIME_NOW_LO (spec/18_network_time.md). -/
def Reg.TIME_NOW_LO : RegRow :=
  { name := "TIME_NOW_LO", addr := 0x2C00000,
    ro := 0xFFFFFFFF, cls := .l }

/-- TIME_NOW_HI (spec/18_network_time.md). -/
def Reg.TIME_NOW_HI : RegRow :=
  { name := "TIME_NOW_HI", addr := 0x2C00004,
    ro := 0xFFFFFFFF, cls := .l }

/-- TIME_RAW_LO (spec/18_network_time.md). -/
def Reg.TIME_RAW_LO : RegRow :=
  { name := "TIME_RAW_LO", addr := 0x2C00008,
    ro := 0xFFFFFFFF, cls := .l }

/-- TIME_RAW_HI (spec/18_network_time.md). -/
def Reg.TIME_RAW_HI : RegRow :=
  { name := "TIME_RAW_HI", addr := 0x2C0000C,
    ro := 0xFFFFFFFF, cls := .l }

/-- TIME_OFFSET_LO (spec/18_network_time.md). -/
def Reg.TIME_OFFSET_LO : RegRow :=
  { name := "TIME_OFFSET_LO", addr := 0x2C00010,
    rw := 0xFFFFFFFF, cls := .s3 }

/-- TIME_OFFSET_HI (spec/18_network_time.md). -/
def Reg.TIME_OFFSET_HI : RegRow :=
  { name := "TIME_OFFSET_HI", addr := 0x2C00014,
    rw := 0xFFFFFFFF, cls := .s3 }

/-- TIME_RATE (spec/18_network_time.md). -/
def Reg.TIME_RATE : RegRow :=
  { name := "TIME_RATE", addr := 0x2C00018,
    rw := 0xFFFFFFFF, cls := .s3 }

/-- TIME_ADJ (spec/18_network_time.md). -/
def Reg.TIME_ADJ : RegRow :=
  { name := "TIME_ADJ", addr := 0x2C0001C,
    wo := 0xFFFFFFFF, cls := .wo }

/-- TIME_ANCHOR_LO (spec/18_network_time.md). -/
def Reg.TIME_ANCHOR_LO : RegRow :=
  { name := "TIME_ANCHOR_LO", addr := 0x2C00020,
    ro := 0xFFFFFFFF, cls := .l }

/-- TIME_ANCHOR_HI (spec/18_network_time.md). -/
def Reg.TIME_ANCHOR_HI : RegRow :=
  { name := "TIME_ANCHOR_HI", addr := 0x2C00024,
    ro := 0xFFFFFFFF, cls := .l }

/-- TIME_STATUS (spec/18_network_time.md). -/
def Reg.TIME_STATUS : RegRow :=
  { name := "TIME_STATUS", addr := 0x2C00028,
    ro := 0xFFFF007B, cls := .l }

/-- TIME_EVENT (spec/18_network_time.md). -/
def Reg.TIME_EVENT : RegRow :=
  { name := "TIME_EVENT", addr := 0x2C0002C,
    w1c := 0x1F, cls := .k }

/-- TIME_IRQ_EN (spec/18_network_time.md). -/
def Reg.TIME_IRQ_EN : RegRow :=
  { name := "TIME_IRQ_EN", addr := 0x2C00030,
    rw := 0x1F, cls := .s3 }

/-- TIME_PTP_CFG (spec/18_network_time.md). -/
def Reg.TIME_PTP_CFG : RegRow :=
  { name := "TIME_PTP_CFG", addr := 0x2C00034,
    reset := 0x808010, rw := 0xFFFFFFFF, cls := .s3 }

/-- TIME_PTP_INTERVAL (spec/18_network_time.md). -/
def Reg.TIME_PTP_INTERVAL : RegRow :=
  { name := "TIME_PTP_INTERVAL", addr := 0x2C00038,
    reset := 0x3000100, rw := 0xFFFFFFFF, cls := .s3 }

/-- TIME_SERVO_CFG (spec/18_network_time.md). -/
def Reg.TIME_SERVO_CFG : RegRow :=
  { name := "TIME_SERVO_CFG", addr := 0x2C0003C,
    reset := 0x27100064, rw := 0xFFFFFFFF, cls := .s3 }

/-- TIME_MASTER_OFS (spec/18_network_time.md). -/
def Reg.TIME_MASTER_OFS : RegRow :=
  { name := "TIME_MASTER_OFS", addr := 0x2C00040,
    ro := 0xFFFFFFFF, cls := .l }

/-- TIME_PATH_DELAY (spec/18_network_time.md). -/
def Reg.TIME_PATH_DELAY : RegRow :=
  { name := "TIME_PATH_DELAY", addr := 0x2C00044,
    ro := 0xFFFFFFFF, cls := .l }

/-- TIME_CNT (spec/18_network_time.md). -/
def Reg.TIME_CNT : RegRow :=
  { name := "TIME_CNT", addr := 0x2C00060,
    s1 := 0x4, n1 := 6, rc := 0xFFFFFFFF, cls := .c }

/-- TIME_MAC_ADJ (spec/18_network_time.md). -/
def Reg.TIME_MAC_ADJ : RegRow :=
  { name := "TIME_MAC_ADJ", addr := 0x2C00100,
    s1 := 0x4, n1 := 8, rw := 0xFFFFFFFF, cls := .s3 }

/-- PM_STATE (spec/20_power_states_and_retention.md). -/
def Reg.PM_STATE : RegRow :=
  { name := "PM_STATE", addr := 0x200000,
    ro := 0xFFFF0007, cls := .l }

/-- PM_OP_STATUS (spec/20_power_states_and_retention.md). -/
def Reg.PM_OP_STATUS : RegRow :=
  { name := "PM_OP_STATUS", addr := 0x200004,
    reset := 0x3200011, ro := 0xFFFF033F, cls := .l }

/-- PM_TJ (spec/20_power_states_and_retention.md). -/
def Reg.PM_TJ : RegRow :=
  { name := "PM_TJ", addr := 0x200008,
    rc := 0xFF00, ro := 0xFF, cls := .l }

/-- PM_THERMAL_CFG (spec/20_power_states_and_retention.md). -/
def Reg.PM_THERMAL_CFG : RegRow :=
  { name := "PM_THERMAL_CFG", addr := 0x20000C,
    reset := 0x6C, rw := 0xFF, cls := .p }

/-- PM_WAKE_CFG (spec/20_power_states_and_retention.md). -/
def Reg.PM_WAKE_CFG : RegRow :=
  { name := "PM_WAKE_CFG", addr := 0x200010,
    reset := 0x3, rw := 0xFFFF0F03, cls := .p }

/-- PM_WAKE_LANES (spec/20_power_states_and_retention.md). -/
def Reg.PM_WAKE_LANES : RegRow :=
  { name := "PM_WAKE_LANES", addr := 0x200014,
    rw := 0xFFFFFFFF, cls := .p }

/-- PM_WAKE_PATTERN (spec/20_power_states_and_retention.md). -/
def Reg.PM_WAKE_PATTERN : RegRow :=
  { name := "PM_WAKE_PATTERN", addr := 0x200018,
    rw := 0xFFFFFFFF, cls := .p }

/-- PM_WAKE_ADDR (spec/20_power_states_and_retention.md). -/
def Reg.PM_WAKE_ADDR : RegRow :=
  { name := "PM_WAKE_ADDR", addr := 0x20001C,
    reset := 0x7F, rw := 0x7F, cls := .p }

/-- PM_WAKE_CAUSE (spec/20_power_states_and_retention.md). -/
def Reg.PM_WAKE_CAUSE : RegRow :=
  { name := "PM_WAKE_CAUSE", addr := 0x200020,
    rc := 0x3F, cls := .p }

/-- PM_EVENT (spec/20_power_states_and_retention.md). -/
def Reg.PM_EVENT : RegRow :=
  { name := "PM_EVENT", addr := 0x200024,
    w1c := 0x7F, cls := .p }

/-- PM_IRQ_EN (spec/20_power_states_and_retention.md). -/
def Reg.PM_IRQ_EN : RegRow :=
  { name := "PM_IRQ_EN", addr := 0x200028,
    rw := 0x7F, cls := .p }

/-- PM_CNT (spec/20_power_states_and_retention.md). -/
def Reg.PM_CNT : RegRow :=
  { name := "PM_CNT", addr := 0x200040,
    s1 := 0x4, n1 := 8, rc := 0xFFFFFFFF, cls := .p }

/-- SNAP_CTRL (spec/21_fault_handling_and_snapshots.md). -/
def Reg.SNAP_CTRL : RegRow :=
  { name := "SNAP_CTRL", addr := 0x100000,
    wo := 0x3, cls := .wo }

/-- SNAP_CFG (spec/21_fault_handling_and_snapshots.md). -/
def Reg.SNAP_CFG : RegRow :=
  { name := "SNAP_CFG", addr := 0x100004,
    rw := 0x3F, cls := .k }

/-- SNAP_TRIG_DI (spec/21_fault_handling_and_snapshots.md). -/
def Reg.SNAP_TRIG_DI : RegRow :=
  { name := "SNAP_TRIG_DI", addr := 0x100008,
    rw := 0x1F, cls := .k }

/-- SNAP_FAULT_MASK (spec/21_fault_handling_and_snapshots.md). -/
def Reg.SNAP_FAULT_MASK : RegRow :=
  { name := "SNAP_FAULT_MASK", addr := 0x10000C,
    reset := 0x1BFFFF, rw := 0x1FFFFF, cls := .k }

/-- SNAP_MATCH_CFG (spec/21_fault_handling_and_snapshots.md). -/
def Reg.SNAP_MATCH_CFG : RegRow :=
  { name := "SNAP_MATCH_CFG", addr := 0x100010,
    rw := 0xF, cls := .k }

/-- SNAP_MATCH_LO (spec/21_fault_handling_and_snapshots.md). -/
def Reg.SNAP_MATCH_LO : RegRow :=
  { name := "SNAP_MATCH_LO", addr := 0x100014,
    rw := 0xFFFFFFFF, cls := .k }

/-- SNAP_MATCH_HI (spec/21_fault_handling_and_snapshots.md). -/
def Reg.SNAP_MATCH_HI : RegRow :=
  { name := "SNAP_MATCH_HI", addr := 0x100018,
    rw := 0xFFFFFFFF, cls := .k }

/-- SNAP_STATUS (spec/21_fault_handling_and_snapshots.md). -/
def Reg.SNAP_STATUS : RegRow :=
  { name := "SNAP_STATUS", addr := 0x100020,
    ro := 0xF, cls := .k }

/-- SNAP_SOURCES (spec/21_fault_handling_and_snapshots.md). -/
def Reg.SNAP_SOURCES : RegRow :=
  { name := "SNAP_SOURCES", addr := 0x100024,
    ro := 0x1F, cls := .k }

/-- SNAP_NUMBER (spec/21_fault_handling_and_snapshots.md). -/
def Reg.SNAP_NUMBER : RegRow :=
  { name := "SNAP_NUMBER", addr := 0x100028,
    ro := 0xFFFFFFFF, cls := .k }

/-- SNAP_LATCHED (spec/21_fault_handling_and_snapshots.md). -/
def Reg.SNAP_LATCHED : RegRow :=
  { name := "SNAP_LATCHED", addr := 0x10002C,
    ro := 0x3FFFF, cls := .k }

/-- SNAP_TIME_LO (spec/21_fault_handling_and_snapshots.md). -/
def Reg.SNAP_TIME_LO : RegRow :=
  { name := "SNAP_TIME_LO", addr := 0x100030,
    ro := 0xFFFFFFFF, cls := .k }

/-- SNAP_TIME_HI (spec/21_fault_handling_and_snapshots.md). -/
def Reg.SNAP_TIME_HI : RegRow :=
  { name := "SNAP_TIME_HI", addr := 0x100034,
    ro := 0xFFFFFFFF, cls := .k }

/-- SNAP_EVENT (spec/21_fault_handling_and_snapshots.md). -/
def Reg.SNAP_EVENT : RegRow :=
  { name := "SNAP_EVENT", addr := 0x100038,
    w1c := 0x1F, cls := .k }

/-- SNAP_IRQ_EN (spec/21_fault_handling_and_snapshots.md). -/
def Reg.SNAP_IRQ_EN : RegRow :=
  { name := "SNAP_IRQ_EN", addr := 0x10003C,
    rw := 0x1F, cls := .k }

/-- SNAP_CNT (spec/21_fault_handling_and_snapshots.md). -/
def Reg.SNAP_CNT : RegRow :=
  { name := "SNAP_CNT", addr := 0x100040,
    s1 := 0x4, n1 := 8, rc := 0xFFFFFFFF, cls := .c }

/-- SNAP_SUPPLY (spec/21_fault_handling_and_snapshots.md). -/
def Reg.SNAP_SUPPLY : RegRow :=
  { name := "SNAP_SUPPLY", addr := 0x100080,
    ro := 0xF0FFFFFF, cls := .l }

/-- SNAP_FLT_CFG (spec/21_fault_handling_and_snapshots.md). -/
def Reg.SNAP_FLT_CFG : RegRow :=
  { name := "SNAP_FLT_CFG", addr := 0x100084,
    reset := 0x410, rw := 0xFFF, cls := .k }

/-- SNAP_BLK (spec/21_fault_handling_and_snapshots.md). -/
def Reg.SNAP_BLK : RegRow :=
  { name := "SNAP_BLK", addr := 0x101000,
    s1 := 0x400, n1 := 18, s2 := 0x4, n2 := 256, ro := 0xFFFFFFFF, cls := .k }

/-- SEC_STATUS (spec/22_secure_boot_and_attestation.md). -/
def Reg.SEC_STATUS : RegRow :=
  { name := "SEC_STATUS", addr := 0x3000000,
    ro := 0xFFFFFF3F, cls := .l }

/-- SEC_EVENT (spec/22_secure_boot_and_attestation.md). -/
def Reg.SEC_EVENT : RegRow :=
  { name := "SEC_EVENT", addr := 0x3000004,
    w1c := 0x7, cls := .k }

/-- SEC_IRQ_EN (spec/22_secure_boot_and_attestation.md). -/
def Reg.SEC_IRQ_EN : RegRow :=
  { name := "SEC_IRQ_EN", addr := 0x3000008,
    rw := 0x7, cls := .k }

/-- SEC_DEVICE_ID_LO (spec/22_secure_boot_and_attestation.md). -/
def Reg.SEC_DEVICE_ID_LO : RegRow :=
  { name := "SEC_DEVICE_ID_LO", addr := 0x300000C,
    ro := 0xFFFFFFFF, cls := .l }

/-- SEC_DEVICE_ID_HI (spec/22_secure_boot_and_attestation.md). -/
def Reg.SEC_DEVICE_ID_HI : RegRow :=
  { name := "SEC_DEVICE_ID_HI", addr := 0x3000010,
    ro := 0xFFFFFFFF, cls := .l }

/-- SEC_KEYSET (spec/22_secure_boot_and_attestation.md). -/
def Reg.SEC_KEYSET : RegRow :=
  { name := "SEC_KEYSET", addr := 0x3000014,
    ro := 0xFFFFFFFF, cls := .l }

/-- SEC_CNT (spec/22_secure_boot_and_attestation.md). -/
def Reg.SEC_CNT : RegRow :=
  { name := "SEC_CNT", addr := 0x3000040,
    s1 := 0x4, n1 := 4, rc := 0xFFFFFFFF, cls := .c }

/-- SEC_CERT_DEV (spec/22_secure_boot_and_attestation.md). -/
def Reg.SEC_CERT_DEV : RegRow :=
  { name := "SEC_CERT_DEV", addr := 0x3010000,
    s1 := 0x4, n1 := 1338, ro := 0xFFFFFFFF, cls := .l }

/-- SEC_CERT_ALIAS (spec/22_secure_boot_and_attestation.md). -/
def Reg.SEC_CERT_ALIAS : RegRow :=
  { name := "SEC_CERT_ALIAS", addr := 0x3012000,
    s1 := 0x4, n1 := 1338, ro := 0xFFFFFFFF, cls := .l }

/-- LN_CAGE_STATUS (spec/23_module_connectors_and_hot_plug.md). -/
def Reg.LN_CAGE_STATUS : RegRow :=
  { name := "LN_CAGE_STATUS", addr := 0x2400020,
    s1 := 0x4, n1 := 4, ro := 0x7F3, cls := .l }

/-- LN_CAGE_EVENT (spec/23_module_connectors_and_hot_plug.md). -/
def Reg.LN_CAGE_EVENT : RegRow :=
  { name := "LN_CAGE_EVENT", addr := 0x2400030,
    w1c := 0xFFFF, cls := .v }

/-- LN_CAGE_IRQ_EN (spec/23_module_connectors_and_hot_plug.md). -/
def Reg.LN_CAGE_IRQ_EN : RegRow :=
  { name := "LN_CAGE_IRQ_EN", addr := 0x2400034,
    rw := 0xFFFF, cls := .v }

/-- PM_HOTPLUG (spec/23_module_connectors_and_hot_plug.md). -/
def Reg.PM_HOTPLUG : RegRow :=
  { name := "PM_HOTPLUG", addr := 0x200080,
    ro := 0xF, cls := .l }

/-- PM_PLUG_CNT (spec/23_module_connectors_and_hot_plug.md). -/
def Reg.PM_PLUG_CNT : RegRow :=
  { name := "PM_PLUG_CNT", addr := 0x200084,
    s1 := 0x4, n1 := 3, ro := 0xFFFFFFFF, cls := .f }

/-- The registers of block ENC. -/
def regIndexENC : List RegRow :=
  [ Reg.ENC_CFG, Reg.ENC_FILT_CFG, Reg.ENC_FAULT_CFG, Reg.ENC_OBS_CFG,
    Reg.ENC_INDEX_NOM, Reg.ENC_INDEX_TOL, Reg.ENC_INDEX_POS_LO, Reg.ENC_INDEX_POS_HI,
    Reg.ENC_PRESET_LO, Reg.ENC_PRESET_HI, Reg.ENC_CMD, Reg.ENC_POS_LO,
    Reg.ENC_POS_HI, Reg.ENC_SPEED, Reg.ENC_ACCEL, Reg.ENC_STATUS,
    Reg.ENC_EVENT, Reg.ENC_IRQ_EN, Reg.ENC_INDEX_ERR, Reg.ENC_CNT ]

/-- The registers of block CAM. -/
def regIndexCAM : List RegRow :=
  [ Reg.CAM_PORT_CFG, Reg.CAM_FMT, Reg.CAM_FRAME_CFG, Reg.CAM_TRIG_CFG,
    Reg.CAM_TRIG_PITCH, Reg.CAM_TRIG_PHASE, Reg.CAM_TRIG_MIN_PERIOD, Reg.CAM_OFFSET_LO,
    Reg.CAM_OFFSET_HI, Reg.CAM_MAX_RATE, Reg.CAM_GEV_SRC, Reg.CAM_GEV_CFG,
    Reg.CAM_BUF_BASE_LO, Reg.CAM_BUF_BASE_HI, Reg.CAM_STATUS, Reg.CAM_OCC,
    Reg.CAM_EVENT, Reg.CAM_IRQ_EN, Reg.CAM_CNT ]

/-- The registers of block ISP. -/
def regIndexISP : List RegRow :=
  [ Reg.ISP_PIPE_CTRL, Reg.ISP_PIPE_STATUS, Reg.ISP_EVENT, Reg.ISP_IRQ_EN,
    Reg.ISP_CNT, Reg.ISP_CTX_CFG, Reg.ISP_CTX_APPLY, Reg.ISP_CTX_STATUS,
    Reg.ISP_NR_CFG, Reg.ISP_TNR_CFG, Reg.ISP_TNR_BASE_LO, Reg.ISP_TNR_BASE_HI,
    Reg.ISP_FF_CFG, Reg.ISP_FF_BASE_LO, Reg.ISP_FF_BASE_HI, Reg.ISP_LDC_CFG,
    Reg.ISP_LDC_CENTRE, Reg.ISP_LDC_COEF, Reg.ISP_MESH_CFG, Reg.ISP_MESH_BASE_LO,
    Reg.ISP_MESH_BASE_HI, Reg.ISP_OUT_CFG, Reg.ISP_OUT_CROP_X, Reg.ISP_OUT_CROP_Y,
    Reg.ISP_OUT_SCALE, Reg.ISP_OUT_BASE_LO, Reg.ISP_OUT_BASE_HI ]

/-- The registers of block DEC. -/
def regIndexDEC : List RegRow :=
  [ Reg.DEC_STATUS, Reg.DEC_EVENT, Reg.DEC_IRQ_EN, Reg.DEC_REPORT_Q,
    Reg.DEC_STREAM_CFG, Reg.DEC_STREAM_MAX, Reg.DEC_STREAM_RATE, Reg.DEC_STREAM_BUDGET,
    Reg.DEC_STREAM_FILL, Reg.DEC_STREAM_BATCH, Reg.DEC_SRC_ADDR, Reg.DEC_SRC_PORT,
    Reg.DEC_OUT_BASE_LO, Reg.DEC_OUT_BASE_HI, Reg.DEC_OFFSET_LO, Reg.DEC_OFFSET_HI,
    Reg.DEC_TIME_ADJ, Reg.DEC_STREAM_STATUS, Reg.DEC_STREAM_CNT ]

/-- The registers of block SPR. -/
def regIndexSPR : List RegRow :=
  [ Reg.SPR_ID, Reg.SPR_STATUS, Reg.SPR_CTRL, Reg.SPR_EVENT,
    Reg.SPR_IRQ_EN, Reg.SPR_TOKEN_RATE, Reg.SPR_CNT, Reg.SPR_QEVENT,
    Reg.SPR_QIRQ_EN, Reg.SPR_QCNT, Reg.SPR_OPCNT, Reg.SPR_SCHED_STATUS ]

/-- The registers of block MOON. -/
def regIndexMOON : List RegRow :=
  [ Reg.MOON_STATUS, Reg.MOON_CTRL, Reg.MOON_EVENT, Reg.MOON_IRQ_EN,
    Reg.MOON_CNT, Reg.MOON_QEVENT, Reg.MOON_QIRQ_EN, Reg.MOON_QCNT,
    Reg.MOON_OPCNT ]

/-- The registers of block QM. -/
def regIndexQM : List RegRow :=
  [ Reg.QM_SCHED_CFG, Reg.QM_SCHED_STATUS, Reg.QM_SCHED_EVENT, Reg.QM_SCHED_IRQ_EN,
    Reg.QM_CLIENT_CLEAR, Reg.QM_CLIENT_TIME_LO, Reg.QM_CLIENT_TIME_HI, Reg.QM_CLIENT_WAIT_LO,
    Reg.QM_CLIENT_WAIT_HI, Reg.QM_CLIENT_WAIT_MAX, Reg.QM_CLIENT_CNT, Reg.QM_STATUS,
    Reg.QM_POOL_FREE, Reg.QM_EVENT, Reg.QM_IRQ_EN, Reg.QM_POP,
    Reg.QM_POP_STATUS, Reg.QM_CNT, Reg.QM_PEND, Reg.QM_POP_BUF,
    Reg.QM_Q_CFG, Reg.QM_Q_BASE_LO, Reg.QM_Q_BASE_HI, Reg.QM_Q_MIRROR_LO,
    Reg.QM_Q_MIRROR_HI, Reg.QM_Q_FILL, Reg.QM_Q_CREDIT, Reg.QM_Q_SEQ ]

/-- The registers of block WT. -/
def regIndexWT : List RegRow :=
  [ Reg.WT_CTRL, Reg.WT_STATUS, Reg.WT_EVENT, Reg.WT_IRQ_EN,
    Reg.WT_TABLE_BASE_LO, Reg.WT_TABLE_BASE_HI, Reg.WT_CNT, Reg.WT_LANE_CFG,
    Reg.WT_COMMIT_LEAD, Reg.WT_MAX_LEN, Reg.WT_MIN_LEN, Reg.WT_MAX_SPEED,
    Reg.WT_EJECT_OFS, Reg.WT_EJECT_EXT, Reg.WT_WIN_PRE, Reg.WT_WIN_POST,
    Reg.WT_DET_OFFSET, Reg.WT_GRID_PITCH, Reg.WT_GRID_PHASE, Reg.WT_IMG_CFG,
    Reg.WT_IMG_BAND, Reg.WT_IMG_MINPIX, Reg.WT_EJECT_MASK, Reg.WT_GRP_CFG,
    Reg.WT_GRP_DO, Reg.WT_GRP_LEAD_ON, Reg.WT_GRP_LEAD_OFF, Reg.WT_GRP_PULSE,
    Reg.WT_GRP_BANK_ADDR, Reg.WT_GRP_BANK_PORT, Reg.WT_GRP_VALVES_LO, Reg.WT_GRP_VALVES_HI,
    Reg.WT_GRP_SEND_AHEAD, Reg.WT_GRP_BANK_MAC_LO, Reg.WT_GRP_BANK_MAC_HI ]

/-- The registers of block FIO. -/
def regIndexFIO : List RegRow :=
  [ Reg.FIO_SUPPLY, Reg.FIO_EVENT, Reg.FIO_IRQ_EN, Reg.FIO_GANG,
    Reg.FIO_DO_SET, Reg.FIO_DO_STATE, Reg.FIO_DO_CLEAR, Reg.FIO_DI_STATE,
    Reg.FIO_CNT, Reg.FIO_DO_CFG, Reg.FIO_DO_STATUS, Reg.FIO_DI_CFG ]

/-- The registers of block MEM. -/
def regIndexMEM : List RegRow :=
  [ Reg.MEM_STATUS, Reg.MEM_EVENT, Reg.MEM_IRQ_EN, Reg.MEM_FREE,
    Reg.MEM_TOWER_TEMP, Reg.MEM_VAULT_MERGE, Reg.MEM_VAULT_CNT, Reg.MEM_ECC_EVENT,
    Reg.MEM_ECC_IRQ_EN, Reg.MEM_CE_LOG_Q, Reg.MEM_SCRUB_CFG, Reg.MEM_SCRUB_ADDR_LO,
    Reg.MEM_SCRUB_ADDR_HI, Reg.MEM_SCRUB_CMD, Reg.MEM_SCRUB_RESULT, Reg.MEM_PATROL_PTR_LO,
    Reg.MEM_PATROL_PTR_HI, Reg.MEM_INJECT, Reg.MEM_INJECT_LANES, Reg.MEM_INJECT_LANES_CHK,
    Reg.MEM_SPARE_STATUS, Reg.MEM_ECC_CNT ]

/-- The registers of block XLT. -/
def regIndexXLT : List RegRow :=
  [ Reg.XLT_STATUS, Reg.XLT_EVENT, Reg.XLT_IRQ_EN, Reg.XLT_FAULT_Q,
    Reg.XLT_RESUME, Reg.XLT_INVAL, Reg.XLT_INVAL_VA_LO, Reg.XLT_INVAL_VA_HI,
    Reg.XLT_MIG_VA_LO, Reg.XLT_MIG_VA_HI, Reg.XLT_MIG_DST_LO, Reg.XLT_MIG_DST_HI,
    Reg.XLT_MIG_CTRL, Reg.XLT_CNT, Reg.XLT_ROOT_LO, Reg.XLT_ROOT_HI ]

/-- The registers of block F1. -/
def regIndexF1 : List RegRow :=
  [ Reg.F1_DOORBELL, Reg.F1_MB_STATE, Reg.F1_EVENT, Reg.F1_IRQ_EN,
    Reg.F1_BULK_COUNT_LO, Reg.F1_BULK_COUNT_HI, Reg.F1_CNT ]

/-- The registers of block F2. -/
def regIndexF2 : List RegRow :=
  [ Reg.F2_PAGE, Reg.F2_VIOL_CNT ]

/-- The registers of block F3. -/
def regIndexF3 : List RegRow :=
  [ Reg.F3_LEVEL, Reg.F3_CTRL, Reg.F3_THRESH ]

/-- The registers of block SYS. -/
def regIndexSYS : List RegRow :=
  [ Reg.SYS_IRQ_SRC, Reg.SYS_IRQ_HOST_EN, Reg.SYS_HOST_EVENT, Reg.SYS_HOST_IRQ_EN,
    Reg.SYS_UNMAPPED_CNT, Reg.SYS_FW_VERSION, Reg.SYS_REFUSED_ADDR, Reg.SYS_REFUSED_STATUS,
    Reg.SYS_REFUSED_CNT ]

/-- The registers of block LN. -/
def regIndexLN : List RegRow :=
  [ Reg.LN_STATUS, Reg.LN_EVENT, Reg.LN_IRQ_EN, Reg.LN_LINK_RESET,
    Reg.LN_LANE_CFG, Reg.LN_LANE_STATUS, Reg.LN_TX_FFE, Reg.LN_PRBS_CFG,
    Reg.LN_LANE_CNT, Reg.LN_MAC_CFG, Reg.LN_MAC_ADDR_LO, Reg.LN_MAC_ADDR_HI,
    Reg.LN_MAC_IPV4, Reg.LN_MAC_CNT, Reg.LN_CAGE_STATUS, Reg.LN_CAGE_EVENT,
    Reg.LN_CAGE_IRQ_EN ]

/-- The registers of block FAB. -/
def regIndexFAB : List RegRow :=
  [ Reg.FAB_NODE, Reg.FAB_EVENT, Reg.FAB_IRQ_EN, Reg.FAB_ROUTE,
    Reg.FAB_LINK_CFG, Reg.FAB_LINK_STATUS, Reg.FAB_VC_CREDIT, Reg.FAB_INJECT,
    Reg.FAB_LINK_CNT ]

/-- The registers of block TIME. -/
def regIndexTIME : List RegRow :=
  [ Reg.TIME_NOW_LO, Reg.TIME_NOW_HI, Reg.TIME_RAW_LO, Reg.TIME_RAW_HI,
    Reg.TIME_OFFSET_LO, Reg.TIME_OFFSET_HI, Reg.TIME_RATE, Reg.TIME_ADJ,
    Reg.TIME_ANCHOR_LO, Reg.TIME_ANCHOR_HI, Reg.TIME_STATUS, Reg.TIME_EVENT,
    Reg.TIME_IRQ_EN, Reg.TIME_PTP_CFG, Reg.TIME_PTP_INTERVAL, Reg.TIME_SERVO_CFG,
    Reg.TIME_MASTER_OFS, Reg.TIME_PATH_DELAY, Reg.TIME_CNT, Reg.TIME_MAC_ADJ ]

/-- The registers of block PM. -/
def regIndexPM : List RegRow :=
  [ Reg.PM_STATE, Reg.PM_OP_STATUS, Reg.PM_TJ, Reg.PM_THERMAL_CFG,
    Reg.PM_WAKE_CFG, Reg.PM_WAKE_LANES, Reg.PM_WAKE_PATTERN, Reg.PM_WAKE_ADDR,
    Reg.PM_WAKE_CAUSE, Reg.PM_EVENT, Reg.PM_IRQ_EN, Reg.PM_CNT,
    Reg.PM_HOTPLUG, Reg.PM_PLUG_CNT ]

/-- The registers of block SNAP. -/
def regIndexSNAP : List RegRow :=
  [ Reg.SNAP_CTRL, Reg.SNAP_CFG, Reg.SNAP_TRIG_DI, Reg.SNAP_FAULT_MASK,
    Reg.SNAP_MATCH_CFG, Reg.SNAP_MATCH_LO, Reg.SNAP_MATCH_HI, Reg.SNAP_STATUS,
    Reg.SNAP_SOURCES, Reg.SNAP_NUMBER, Reg.SNAP_LATCHED, Reg.SNAP_TIME_LO,
    Reg.SNAP_TIME_HI, Reg.SNAP_EVENT, Reg.SNAP_IRQ_EN, Reg.SNAP_CNT,
    Reg.SNAP_SUPPLY, Reg.SNAP_FLT_CFG, Reg.SNAP_BLK ]

/-- The registers of block SEC. -/
def regIndexSEC : List RegRow :=
  [ Reg.SEC_STATUS, Reg.SEC_EVENT, Reg.SEC_IRQ_EN, Reg.SEC_DEVICE_ID_LO,
    Reg.SEC_DEVICE_ID_HI, Reg.SEC_KEYSET, Reg.SEC_CNT, Reg.SEC_CERT_DEV,
    Reg.SEC_CERT_ALIAS ]

/-- The whole index. -/
def regIndex : List RegRow :=
  regIndexENC ++ regIndexCAM ++ regIndexISP ++ regIndexDEC ++ regIndexSPR ++ regIndexMOON ++ regIndexQM ++ regIndexWT ++ regIndexFIO ++ regIndexMEM ++ regIndexXLT ++ regIndexF1 ++ regIndexF2 ++ regIndexF3 ++ regIndexSYS ++ regIndexLN ++ regIndexFAB ++ regIndexTIME ++ regIndexPM ++ regIndexSNAP ++ regIndexSEC


/-- The register at an address, with its element numbers. XLT_ROOT has handles 1 to 1,023 only (register index, XLT). -/
def findReg (a : Nat) : Option (RegRow × Nat × Nat × Nat) :=
  if a = 0x2010000 ∨ a = 0x2010004 then none
  else regIndex.findSome? (fun r => (r.find a).map (fun ijk => (r, ijk)))

/-- The blocks of the address map (R636), in the order of their numbers. -/
inductive Block where
  | SYS | SNAP | PM | ENC | WT | FIO | CAM | ISP | DEC | SPR | MOON | QM | MEM | XLT | LN | FAB | TIME | SEC
  deriving DecidableEq, Repr

/-- The block numbers of R636. -/
def Block.num : Block → Nat
  | .SYS => 0 | .SNAP => 1 | .PM => 2 | .ENC => 3 | .WT => 4 | .FIO => 5 | .CAM => 6 | .ISP => 7 | .DEC => 8
  | .SPR => 9 | .MOON => 10 | .QM => 11 | .MEM => 12 | .XLT => 13 | .LN => 14 | .FAB => 15 | .TIME => 16 | .SEC => 17

/-- The block whose address range holds a device address (R636). -/
def blockAt (a : Nat) : Option Block :=
  if a < 0x100000 then some .SYS
  else if a < 0x200000 then some .SNAP
  else if a < 0x400000 then some .PM
  else if a < 0x500000 then some .ENC
  else if a < 0x600000 then some .WT
  else if a < 0x800000 then some .FIO
  else if a < 0xA00000 then some .CAM
  else if a < 0xC00000 then some .ISP
  else if a < 0x1000000 then some .DEC
  else if a < 0x1220000 then some .SPR
  else if a < 0x1400000 then none
  else if a < 0x1800000 then some .MOON
  else if a < 0x1C00000 then some .QM
  else if a < 0x2000000 then some .MEM
  else if a < 0x2400000 then some .XLT
  else if a < 0x2800000 then some .LN
  else if a < 0x2C00000 then some .FAB
  else if a < 0x3000000 then some .TIME
  else if a < 0x3400000 then some .SEC
  else none

/-- The blocks that are powered in S2 (R636). -/
def Block.onInS2 : Block → Bool
  | .SYS | .SNAP | .PM | .ENC | .FIO | .TIME | .SEC => true
  | _ => false

end Sys2Proof.Machine
end

