-- ==== Sys2Proof/Machine/State.lean ====
section
/-!
DEFINITION. The state of the module as plain data: the register file by device address, the memory, the hidden state that
the rules give each block, and the queue of the commands that wait. A table keyed by a unit number lists only the units
that differ from the default, which is the unit's state after reset.
-/
namespace Sys2Proof.Machine

open Sys2Proof

/-- The spec ends no run: every fault it names is a record, an event or a status, and the module goes on. There is no way
to make a `Fault`. Safe. -/
inductive Fault where
  deriving DecidableEq, Repr

/-- Why a command has no meaning. -/
inductive Refusal where
  /-- Raised by the dispatcher alone, for a command whose meaning is not written. Safe: nothing is claimed of it. -/
  | notModelled (mnemonic : String)
  deriving DecidableEq, Repr

/-! ### Always-on domain, control processor and host link -/

/-- What the control processor (CP) is doing: unpowered, in the boot ROM or firmware boot (R455, R587), serving, in a warm
restart (R23), halted (R575), or in the recovery ROM (R588). -/
inductive CpMode where
  | off | booting | running | restarting | halted | recovery
  deriving DecidableEq, Repr

/-- The always-on domain and the boot sequence (R612 to R619). -/
structure CoreSt where
  /-- The always-on domain runs: the bus is charged and the module was seated (R613 step 5). -/
  alive : Bool := false
  /-- The module holds itself in reset until I/O Enable of function 1 (R455). -/
  held : Bool := true
  /-- MRST_N is low and holds the module in reset (R618). -/
  mrst : Bool := false
  /-- I/O Enable has been set since insertion, so a module reset restarts without waiting for it (R618). -/
  enabledOnce : Bool := false
  /-- After an emergency quiesce every block stays in reset until power is gone or presence returns (R615, R619). -/
  quiesced : Bool := false
  /-- ORDERLY_REMOVE has finished: no wake source is obeyed (R614). -/
  removed : Bool := false
  /-- The blue REMOVE indicator (R614 step 6). -/
  removeLit : Bool := false
  cp : CpMode := .off
  /-- Warm restarts since POR (R477). -/
  warmRestarts : Nat := 0
  /-- Raw counts at which the CP last restarted, newest first (R575). -/
  restartTimes : List DWord := []
  /-- Number, reason and program counter of the record of the warm restart in progress (R575). -/
  restartRec : Option (Word × Nat × DWord) := none
  /-- A firmware boot after the boot ROM is in progress (R455, R587). -/
  romDone : Bool := false
  /-- No firmware has booted since power came (R617). -/
  cold : Bool := true
  deriving DecidableEq, Repr

/-- The staging buffer of R462. -/
structure Staging where
  /-- BYTES of LOAD_BEGIN. -/
  size : Nat
  /-- Bytes appended so far, in order. -/
  data : List Byte
  deriving DecidableEq, Repr

/-- A CAM_CONTROL transfer in progress (R475). -/
structure CamXfer where
  mailbox : Nat
  port : Nat
  write : Bool
  addr : Nat
  /-- Bytes still to read, or the bytes still to write. -/
  left : Nat
  wdata : List Byte
  /-- Bytes read so far. -/
  rdata : List Byte
  /-- Retries of the packet in flight. -/
  retries : Nat
  /-- Raw count at which the packet in flight was sent. -/
  sentAt : DWord
  deriving DecidableEq, Repr

/-- The SDIO interface and the command interpreter (chapter 16). -/
structure HostSt where
  /-- CCCR I/O Enable, bit `f` for function `f` (R452, R455). -/
  ioEnable : BitVec 4 := 0
  /-- CCCR I/O Ready, bit `f` for function `f`. -/
  ioReady : BitVec 4 := 0
  /-- CCCR Int Enable (R470). -/
  intEnable : BitVec 4 := 0
  /-- CD Disable of the CCCR: the DAT[3] pull-up is disconnected (R454). -/
  cdDisable : Bool := false
  /-- The card state has been set up since power came (R480, R558). -/
  cardUp : Bool := false
  /-- Mailbox bytes, mailbox `m` at `4096 * m`; an unlisted byte is zero. -/
  mail : AMap Byte := []
  /-- Mailboxes whose doorbells have been rung and whose commands have no reply yet, oldest doorbell first (R24). -/
  bells : List Nat := []
  /-- The 4-byte assembly latch of the aperture (R465). -/
  latch : Word := 0
  /-- The staging buffer, if open (R462). -/
  staging : Option Staging := none
  /-- Journalled replies of commands whose effect is done (R461): mailbox to reply. -/
  journal : AMap (List Byte) := []
  /-- Records of the last function 3 read (R472). -/
  lastRead : List (List Byte) := []
  /-- Records of a reread that no transfer has reached yet (R472). -/
  rereadRest : List (List Byte) := []
  /-- Summary bytes of the last STATE_SUMMARY with PART 0 (R476); none since the last reset. -/
  summary : Option (List Byte) := none
  /-- GENERATION of the summary (R476). -/
  generation : Word := 0
  camXfer : Option CamXfer := none
  /-- A SPARE_SWAP that waits for its tile boundary (R317): mailbox, logical spire, physical spire before the swap. -/
  swapWait : Option (Nat × Nat × Nat) := none
  /-- Register writes that firmware is checking, in the order in which they were made (R12): address, value, and whether
  the high half of a pair rides along. -/
  decideQ : List (Nat × Word × Option Word) := []
  deriving DecidableEq, Repr

/-! ### Power -/

/-- The PM block's sequencer and the retention store (chapter 20). -/
structure PmSt where
  /-- Operating-point change in progress: the point asked for and the mailbox that waits for the reply (R547). -/
  opTarget : Option (Nat × Nat) := none
  /-- Power-state entry in progress: the target and the mailbox that waits; no mailbox for a thermal trip (R555). -/
  entry : Option (Nat × Option Nat) := none
  /-- A wake came while an entry was in progress (R565). -/
  wakePending : Bool := false
  /-- An exit to S0 is in progress, from the state given (R550), and the mailbox whose SET_POWER_STATE 0 waits for it. -/
  waking : Option Nat := none
  wakeReply : Option Nat := none
  /-- After a thermal trip no wake source is obeyed until PM_TJ is below 95 degrees (R549). -/
  tripHold : Bool := false
  /-- Since when PM_TJ has stayed below THROTTLE_C - 5 (R548). -/
  coolSince : Option DWord := none
  /-- Answer symbol to the last wake bus frame: acknowledge or refuse; none where none was driven (R559). -/
  busAnswer : Option Bool := none
  /-- Raw count of the last throttle step. -/
  lastStep : Option DWord := none
  /-- HOST outputs stay off until FIO_DO_SET is written after a wake from S3 (R557). -/
  hostBlocked : Bool := false
  /-- The retention store by word number; an unlisted word is zero (R562). -/
  store : AMap Word := []
  deriving DecidableEq, Repr

/-! ### Faults, snapshots, flash and fuses -/

/-- Fault records and spares (chapter 21). -/
structure FaultSt where
  /-- Number of the next fault record (R573 SEQ). -/
  seq : Word := 0
  /-- The record each block holds until queue 16 has room (R574). -/
  held : AMap (List Byte) := []
  /-- Transient faults of the last 24 h: unit, cause, raw count (R569). -/
  transients : List (Nat × Nat × DWord) := []
  /-- Records raised per block since POR or module reset (R477). -/
  perBlock : AMap Nat := []
  deriving DecidableEq, Repr

/-- What the flash of the module holds (R426, R571, R584, R616, R617). -/
structure FlashSt where
  /-- Bytes of the firmware image; none when no valid image is left (R591). -/
  firmware : Option (List Byte) := none
  /-- The device certificate bytes (R593). -/
  deviceCert : List Byte := []
  /-- The key set image in force (R595). -/
  keySet : Option (List Byte) := none
  /-- KEY_IDs revoked by a later key set (R597). -/
  revoked : List (List Byte) := []
  /-- The soft map: row number and state, 0 PENDING, 1 applied, 2 retired (R423, R425). -/
  softMap : AMap Nat := []
  /-- The soft part of the disabled-unit map: physical spires (R571). -/
  softDisabled : List Nat := []
  /-- The removal marker: false RUNNING, true ORDERLY (R617). -/
  orderly : Bool := true
  /-- PM_PLUG_CNT[0 to 2] (R617). -/
  plugCnt : AMap Word := []
  deriving DecidableEq, Repr

/-- Fuses that firmware updates may change (R583, R587, R596). -/
structure FuseSt where
  minSvn : Nat := 0
  rootRevoked : BitVec 4 := 0
  owner : Option (List Byte) := none
  deriving DecidableEq, Repr

/-- The boot ROM and the running firmware (chapter 22). -/
structure SecSt where
  /-- FW_DIGEST of the running image (R587). -/
  fwDigest : List Byte := []
  /-- The running image's copy in the reserved region (R590). -/
  running : Option (List Byte) := none
  /-- The alias certificate of this boot (R587, R593). -/
  aliasCert : List Byte := []
  deriving DecidableEq, Repr

/-! ### Encoder channels -/

/-- One encoder channel (chapter 2). -/
structure EncCh where
  /-- Measured position (R4, R36). -/
  pos : DWord := 0
  /-- Accepted levels of the RS-422 A and B inputs (R40). -/
  lvlA : Bool := false
  lvlB : Bool := false
  /-- Raw count of the last accepted edge on A or B (R41, R340). -/
  lastEdge : Option DWord := none
  /-- Raw counts between the last two accepted edges and the step of the last one (R340). -/
  edgeGap : Option (Nat × Int) := none
  /-- Start and count of the fault window (R43). -/
  winStart : DWord := 0
  winCnt : Nat := 0
  /-- Consecutive samples outside and within the amplitude limits (R45). -/
  ampOut : Nat := 0
  ampIn : Nat := 0
  /-- Phase of the last sample; none when the next sample is the reference (R34, R45, R46). -/
  phase : Option (BitVec 14) := none
  /-- Last illegal phase change was forward (R46). -/
  illegalFwd : Option Bool := none
  /-- Edge count of COMBINED mode (R47). -/
  edgeCount : DWord := 0
  /-- Observer: p_hat, v_hat and a_hat in units of 2^-32 lc (R48, R49). -/
  pHat : BitVec 64 := 0
  vHat : BitVec 64 := 0
  aHat : BitVec 64 := 0
  /-- Reference and turning point of standstill and reversal (R50 to R54). -/
  pRef : DWord := 0
  pTurn : DWord := 0
  stillSince : DWord := 0
  settleFrom : DWord := 0
  /-- Start of the check pair (R57). -/
  idxStart : Option DWord := none
  /-- Position and time-base reading captured at the last index event (R645). -/
  capPos : DWord := 0
  capTime : DWord := 0
  /-- Raw count of the last attempt of the supply output after a fault (R62), and whether the output is driven. -/
  supplyAt : DWord := 0
  supplyTries : Nat := 0
  /-- Recent positions by raw count, newest first, for the speed of the watchtower (R340). -/
  recent : List (DWord × DWord) := []
  /-- Epoch of the position history (R531). -/
  epoch : Nat := 0
  deriving DecidableEq, Repr

/-- One entry of a channel's position history (R531). -/
structure HistEnt where
  pos : DWord
  unknown : Bool
  epoch : Nat
  deriving DecidableEq, Repr

/-! ### Hardware queues -/

/-- One item of a ring: a record, a packet, a PAD or a reservation (R437 to R442). -/
structure QItem where
  /-- First entry and number of entries. -/
  first : Nat
  entries : Nat
  /-- The producer that holds it. -/
  producer : Nat
  seq : Word
  /-- LENGTH in bytes. -/
  len : Nat
  data : List Byte
  published : Bool
  pad : Bool
  /-- The consumer has handled it and its release waits for older items. -/
  done : Bool
  deriving DecidableEq, Repr

/-- One hardware queue (chapter 15). -/
structure Queue where
  /-- Items from the head, in ring order. -/
  items : List QItem := []
  /-- Index of the next entry to reserve. -/
  tail : Nat := 0
  /-- Entries that the CP has claimed (R445). -/
  claimed : Nat := 0
  /-- Credits held: producer to entries (R438). -/
  credits : AMap Nat := []
  /-- Requests that wait, in arrival order: producer and entries (R438). -/
  waiting : List (Nat × Nat) := []
  /-- SEQ of the next reservation (R440). -/
  seq : Word := 0
  deriving DecidableEq, Repr

/-! ### Memory -/

/-- One entry of a vault's merge buffer (R389). -/
structure MergeEnt where
  /-- Sector number, physical address / 64. -/
  sector : Nat
  /-- Bytes written so far: offset in the sector to byte. -/
  bytes : AMap Byte
  /-- Raw count of the allocation. -/
  at_ : DWord
  /-- Sources that contributed bytes. -/
  sources : List Nat
  deriving DecidableEq, Repr

/-- Bad symbols of a stored sector (R410, R430). -/
structure SectorErr where
  /-- Bit `i`: symbol `i` is bad. -/
  syms : BitVec 36
  injected : Bool
  deriving DecidableEq, Repr

/-- A transfer suspended on a translation fault (R400), with what its fault record holds. -/
structure XltSusp where
  handle : Nat
  va : Nat
  offset : Nat
  write : Bool
  /-- 1 LOAD, 2 MIGRATING. -/
  kind : Nat
  seq : Word
  stream : Nat
  tile : Nat
  level : Nat
  deriving DecidableEq, Repr

/-- The memory towers beside the DRAM bytes (chapters 13 and 14). -/
structure MemSt where
  /-- Merge buffers by vault, oldest entry first. -/
  merge : AMap (List MergeEnt) := []
  errs : AMap SectorErr := []
  /-- Sectors whose correction was logged, with the raw count (R414). -/
  logged : AMap DWord := []
  /-- INJECT is armed for the sector given, with its symbol mask (R430). -/
  inject : Option (Nat × BitVec 36) := none
  /-- Bytes moved, counted towards whole MiB: vault to bytes, for local reads, network reads and writes. -/
  rdLocal : AMap Nat := []
  rdNet : AMap Nat := []
  wrBytes : AMap Nat := []
  /-- Suspended transfers by engine (R400). -/
  susp : AMap XltSusp := []
  /-- Engines of faulted transfers that were resumed once on a page (R399): engine to page. -/
  resumed : AMap Nat := []
  /-- Migration in progress: handle, job address, destination (R403). -/
  mig : Option (Nat × Nat × Nat) := none
  /-- Cached translations: engine to (handle, page of 64 KiB) pairs (R398). -/
  tlb : AMap (List (Nat × Nat)) := []
  /-- 64 KiB pages that the staging buffer holds, and pages withdrawn with a retired row (R386, R425, R462). -/
  stagingPages : List Nat := []
  withdrawn : List Nat := []
  deriving DecidableEq, Repr

/-! ### Watchtower -/

/-- States of a comet (R330); a FREE entry is not listed. -/
inductive CometState where
  | opened | closed | committed | retired
  deriving DecidableEq, Repr

/-- Where the ejection of a comet stands. -/
inductive EjPhase where
  /-- Nothing decided yet. -/
  | idle
  /-- Decided not to eject (R347). -/
  | withheld
  /-- Local outputs are held. -/
  | holding
  /-- A remote EJECT waits in the MAC or has been sent. -/
  | sent
  /-- The ejection is over. -/
  | ended
  deriving DecidableEq, Repr

/-- A comet (R329), with what the watchtower keeps beside the record. -/
structure Comet where
  seq : BitVec 16
  st : CometState
  lane : Nat
  src : Nat
  enc : Nat
  flags : Word := 0
  marks : Word := 0
  lead : DWord
  trail : DWord := 0
  commitOfs : Word
  ejectOfs : Word
  ejectExt : Word
  winPre : Word
  winPost : Word
  ejectLen : Word := 0
  job : Nat := 0
  group : Nat
  tCreate : DWord
  pVerdict : DWord := 0
  tVerdict : DWord := 0
  pCommit : DWord := 0
  tCommit : DWord := 0
  pOn : DWord := 0
  tOn : DWord := 0
  pOff : DWord := 0
  tOff : DWord := 0
  pulseNs : Word := 0
  status : Nat := 0
  verdict : Byte := 0
  prov : Byte := 0
  eject : Bool := false
  ejActive : Bool := false
  /-- A batch slot has been joined for it (R293). -/
  joined : Bool := false
  phase : EjPhase := .idle
  /-- The course in force after a decision (R349). -/
  course : Option Bool := none
  /-- Raw count at which the first output of the group energised (R343, R348). -/
  onAt : Option DWord := none
  /-- The end action has come and the release waits for MIN_PULSE. -/
  endPending : Bool := false
  /-- TRAIL has been set. -/
  trailIn : Bool := false
  /-- PULSE_NS keeps the value measured when an output faulted (R373). -/
  pulseFixed : Bool := false
  /-- The decision point has passed with SPEC_EN clear, so the commit decides (R337). -/
  specPassed : Bool := false
  /-- Raw count at which the last action takes effect (R342). -/
  placedAt : DWord := 0
  /-- T_ON and T_OFF of the last command sent to the bank (R352). -/
  sentOn : DWord := 0
  sentOff : DWord := 0
  deriving DecidableEq, Repr

/-- The detector of a line lane (R324 to R327). -/
structure Detector where
  /-- Leading edge seen: LEAD of the part under the detector. -/
  lead : Option DWord := none
  /-- TRAIL, once the opposite edge or the gap has come. -/
  trail : Option DWord := none
  /-- A condition of R327 held at some moment of the interval. -/
  tainted : Bool := false
  /-- The comet of the part, once created. -/
  comet : Option Nat := none
  /-- The detection has been taken, with a comet or without one (R327, R328). -/
  done : Bool := false
  /-- TRAIL was forced by MAX_LEN and the detector has not returned to idle (R326). -/
  forced : Bool := false
  /-- Run of unoccupied rows (R324, IMAGE), and the aligned position of its first row. -/
  gap : Nat := 0
  gapPos : DWord := 0
  /-- Measured position at the last cycle of a WINDOW lane (R647); none before the first. -/
  lastPos : Option DWord := none
  /-- High-water mark of LEAD (R327). -/
  high : Option DWord := none
  deriving DecidableEq, Repr

/-- A command of a remote group that waits for its acknowledgement (R353). -/
structure BankCmd where
  typ : Nat
  comet : Nat
  cometSeq : BitVec 16
  seq : Word
  tOn : DWord
  tOff : DWord
  attempts : Nat
  sentAt : DWord
  deriving DecidableEq, Repr

/-- An ejector group (R339, R350). -/
structure Group where
  /-- Next command number. -/
  seq : Word := 0
  /-- Commands without acknowledgement. -/
  outstanding : List BankCmd := []
  deriving DecidableEq, Repr

/-- The watchtower (chapter 11). -/
structure WtSt where
  comets : AMap Comet := []
  /-- SEQ of the last use of an entry. -/
  seqs : AMap (BitVec 16) := []
  dets : AMap Detector := []
  groups : AMap Group := []
  deriving DecidableEq, Repr

/-! ### Field inputs and outputs -/

/-- One field output (chapter 12). -/
structure DoSt where
  /-- The switch is driven on. -/
  on : Bool := false
  /-- A camera trigger pulse runs until the raw count given (R359). -/
  pulse : Option DWord := none
  /-- OVERLOAD or OVERTEMP has switched the output off. -/
  faulted : Bool := false
  /-- Raw count of the last fault (R372). -/
  faultAt : DWord := 0
  /-- Raw count at which the last camera pulse ended (R79). -/
  pulseEnd : Option DWord := none
  deriving DecidableEq, Repr

/-- One field input. -/
structure DiSt where
  /-- Accepted level before INVERT. -/
  level : Bool := false
  /-- Time and position captured at the last accepted edge (R369). -/
  capTime : DWord := 0
  capPos : DWord := 0
  deriving DecidableEq, Repr

/-- The field side. -/
structure FioSt where
  outs : AMap DoSt := []
  ins : AMap DiSt := []
  /-- Outputs are forced off by reset, S3 or quiesce (R375). -/
  forcedOff : Bool := false
  /-- Outputs are in their SAFE states (R376). -/
  safe : Bool := false
  deriving DecidableEq, Repr

/-! ### Time base -/

/-- What a frame queued in a MAC carries. -/
inductive TxTag where
  /-- A command to the valve bank of a group: type, table entry and SEQ of the comet, command number (R351). -/
  | bank (group typ comet : Nat) (cseq : BitVec 16) (seq : Word)
  | ptp (k : PtpKind)
  /-- An action command of a camera port (R80). -/
  | action (port : Nat)
  /-- A GVCP frame for a camera port. -/
  | gvcp (port : Nat)
  /-- Traffic of the CP: ARP, ICMP. -/
  | cp
  deriving DecidableEq, Repr

/-- A frame that waits in a MAC, with its priority class 1 to 3 (R498). -/
structure TxFrame where
  cls : Nat
  tag : TxTag
  data : List Byte
  deriving DecidableEq, Repr

/-- Where a received frame goes (R496). -/
inductive FrameDest where
  | camera (port : Nat) | decoder (stream : Nat) | bank (group : Nat) | timeBase | cp
  deriving DecidableEq, Repr

/-- An Ethernet MAC beside its registers. -/
structure MacSt where
  /-- Frames that wait, oldest first. -/
  txq : List TxFrame := []
  /-- Consumer of the last frame delivered. -/
  lastDest : Option FrameDest := none
  /-- Start of the second in which frames for the CP are counted, and their number (R496). -/
  cpFrom : DWord := 0
  cpCount : Nat := 0
  deriving DecidableEq, Repr

/-- A serial lane beside its registers (R487 to R494). -/
structure LaneSt where
  /-- Training runs since. -/
  training : Option DWord := none
  /-- Generator bits flipped (R494). -/
  flips : Nat := 0
  /-- Generator bits sent since the last flip of INJ_RATE. -/
  genBits : Nat := 0
  /-- Number of the record of a lost lock that has not been classified. -/
  downSeq : Option Word := none
  deriving DecidableEq, Repr

/-- A Kalinamo link beside its registers (R499 to R510). -/
structure LinkSt where
  /-- SEQ of the next flit sent, and of the next flit expected. -/
  txSeq : BitVec 12 := 0
  rxSeq : BitVec 12 := 0
  /-- Replay buffer, oldest first (R501). -/
  replay : List Flit := []
  /-- Flits that wait for credit or for the link. -/
  out : List Flit := []
  /-- A NAK has been sent and the replay has not begun. -/
  nakSent : Bool := false
  /-- Replays without progress. -/
  replays : Nat := 0
  /-- Raw count of the last progress of ACK, and of the last acknowledgement sent. -/
  progressAt : DWord := 0
  ackAt : DWord := 0
  /-- Credits held per VC (R503). -/
  credits : AMap Nat := []
  /-- Retraining since (R502). -/
  retrain : Option DWord := none
  /-- A swap was requested and waits for its acknowledgement (R509): 4 × criterion of R508 + lane within the link. -/
  swap : Option Nat := none
  /-- Lane within the link that carries the flits of the failed one: the spare is in use. -/
  spareUsed : Bool := false
  /-- Sequenced flits still to be sent with a bad CRC. -/
  inject : Nat := 0
  /-- The link has come up and waits for the peer's acknowledgement to replay from (R501). -/
  resync : Bool := false
  /-- Flits accepted since the last acknowledgement sent. -/
  rxCount : Nat := 0
  /-- Number of the record of a link-down that has not been classified. -/
  downSeq : Option Word := none
  deriving DecidableEq, Repr

/-- Messages that arrive at this node (R500). -/
structure FabSt where
  links : AMap LinkSt := []
  /-- Message parts received so far, by source node and VC: `16 * vc + src`. -/
  partials : AMap (List Byte) := []
  /-- Whole messages not yet landed, oldest first: VC, source node, payload. -/
  inbox : List (Nat × Nat × List Byte) := []
  /-- The last confirmation that each node has sent of a split job (R281): `16 * JOB_ID + node`. -/
  confirms : AMap (List Byte) := []
  deriving DecidableEq, Repr

/-- A PTP message sent by the module, with its transmit stamp, and whether the MAC wrote the stamp into it (R522, R528 to
R530). -/
structure PtpSent where
  kind : PtpKind
  stamp : DWord
  inserted : Bool
  deriving DecidableEq, Repr

/-- The time base beside its registers (chapter 18). -/
structure TimeSt where
  /-- Position histories: channel to entries by raw count / 1000 (R531). -/
  hist : AMap (AMap HistEnt) := []
  /-- Consecutive Sync intervals within and outside LOCK_NS (R523). -/
  inLock : Nat := 0
  outLock : Nat := 0
  /-- Raw count of the last Sync received. -/
  lastSync : Option DWord := none
  /-- Raw counts at which Sync, Announce and the delay request were last sent: 0, 1 and 2. -/
  lastSent : AMap DWord := []
  /-- PTP messages sent, with their stamps, as the CP receives them; newest first. -/
  sent : List PtpSent := []
  /-- A two-step Sync waits for its Follow_Up; its receive stamp is `t2`. -/
  syncWaits : Bool := false
  /-- Stamps of the delay mechanism: Sync origin and receipt, delay request sent, and its receipt at a peer. -/
  t1 : DWord := 0
  t2 : DWord := 0
  t3 : DWord := 0
  t4 : DWord := 0
  deriving DecidableEq, Repr

/-! ### Camera ports -/

/-- A numbered trigger position of a port (R75, R76). -/
structure CamTrig where
  num : Nat
  pos : DWord
  issued : Bool
  /-- It waited under R79. -/
  late : Bool
  /-- POSITION_UNKNOWN was set when it was issued (R81). -/
  noPos : Bool
  deriving DecidableEq, Repr

/-- A line in a port's line buffer (chapter 3, Line buffers and overflow). -/
structure CamLine where
  /-- `CamBlock.id` of its block. -/
  block : Nat
  /-- Index of the line in its block. -/
  index : Nat
  aligned : DWord
  trig : DWord
  time : DWord
  marks : Word
  /-- The components, the fill value where none has been received. -/
  pix : List Nat
  /-- Components received so far, fill of R93 included. -/
  got : Nat := 0
  /-- Written in full. -/
  full : Bool
  /-- Pipeline contexts, `4 * pipeline + context`, that have still to consume it (R89). -/
  readers : List Nat
  deriving DecidableEq, Repr

/-- The open block of a port (R83, R84). -/
structure CamBlock where
  /-- Its number under R83, and the number of blocks that the port had opened before it. -/
  no : Nat
  id : Nat
  /-- Indices of the lines received, discarded and dropped ones included, newest first. -/
  seen : List Nat := []
  /-- Index of the line in progress, when it was admitted. -/
  cur : Option Nat := none
  /-- Trigger of an area frame, once its first line has been paired. -/
  trig : Option CamTrig := none
  /-- Width of the image header or leader (R94). -/
  width : Nat
  /-- Exposure time of the frame, for ALIGN = TIME (R87). -/
  exposure : DWord
  marks : Word := 0
  deriving DecidableEq, Repr

/-- A camera port beside its registers. -/
structure CamPort where
  /-- High-water mark: the highest grid point already triggered, or the grid point last crossed (R77). -/
  high : DWord := 0
  /-- Number of the next trigger position (R83). -/
  nextNum : Nat := 0
  fifo : List CamTrig := []
  /-- Triggers of closed blocks that still wait under R79; they hold no FIFO entry. -/
  orphans : List CamTrig := []
  lastTrig : Option DWord := none
  /-- A trigger was suppressed by the full FIFO, and the next issued one marks its block (R76). -/
  skipped : Bool := false
  /-- Blocks that take LINES_DROPPED for a suppressed trigger. -/
  dropBlocks : List Nat := []
  /-- Number of the next block to open. -/
  blockNo : Nat := 0
  block : Option CamBlock := none
  /-- The block that arrives is discarded whole (R72). -/
  discard : Bool := false
  /-- Blocks opened since the block was powered. -/
  opened : Nat := 0
  /-- Lines held, oldest first. -/
  slots : List CamLine := []
  lastHeart : Option DWord := none
  /-- GigE Vision control heartbeat last sent (R73). -/
  beatSent : Option DWord := none
  discovering : Bool := false
  /-- Trigger acknowledgements counted. -/
  acks : Nat := 0
  deriving DecidableEq, Repr

/-! ### Image pipelines and decoders -/

/-- A row of an output ring (R118): its header, its sample codes in order, and the consumers that have still to release
it (R119): `64 * handle + input`, or 65,536 + line lane for IMAGE detection. -/
structure OutRow where
  aligned : DWord
  trig : DWord
  time : DWord
  marks : Word
  seq : Word
  pix : List Nat
  users : List Nat
  deriving DecidableEq, Repr

/-- An output unit, `4 * pipeline + unit`. -/
structure IspOut where
  rows : List OutRow := []
  /-- Number of the next output line. -/
  next : Word := 0
  /-- Corrected lines that the vertical scaler still holds, oldest first, and where the next output line begins in the
  first of them, in 1/256 lines (R115). -/
  held : List (List Nat × OutRow) := []
  voff : Nat := 0
  /-- The first line of a pair of Bayer lines that waits for the second (R117, PLANES4). -/
  odd : Option (List Nat × OutRow) := none
  /-- The next row carries PIPE_GAP (R133). -/
  gap : Bool := false
  deriving DecidableEq, Repr

/-- A source line as a pipeline takes it. -/
structure SrcLine where
  block : Nat
  index : Nat
  aligned : DWord
  trig : DWord
  time : DWord
  marks : Word
  pix : List Nat
  deriving DecidableEq, Repr

/-- A context, `4 * pipeline + context` (R99, R128). -/
structure IspCtx where
  /-- Configuration words in force, of the context and of the outputs bound to it: address to word. -/
  force : AMap Word := []
  /-- An APPLY waits for the boundary (R128). -/
  pend : Bool := false
  /-- The block in which an APPLY took effect has still lines of the old configuration in the stages (R132). -/
  applying : Bool := false
  /-- The next frame passes the temporal filter unfiltered (R103). -/
  fresh : Bool := true
  /-- The last frame passed unfiltered for its marks (R103). -/
  prevBad : Bool := false
  /-- The context waits for its next block boundary (R133). -/
  waitBlock : Bool := false
  /-- Lines before the next one, newest first, that neighbourhoods still reach. -/
  past : List SrcLine := []
  /-- Block of the last line taken. -/
  lastBlock : Option Nat := none
  deriving DecidableEq, Repr

/-- The stripe or frame that runs on a pipeline (R123): its context, the lines it takes and the rows it writes. -/
structure IspWork where
  ctx : Nat
  lines : List SrcLine
  rows : List (Nat × OutRow)
  /-- Frames of a decoder stream that it takes. -/
  frame : Option Word
  startAt : DWord
  deriving DecidableEq, Repr

/-- A pipeline. -/
structure IspPipe where
  cur : Nat := 0
  /-- Units of work that the current context has run in its turn. -/
  used : Nat := 0
  work : Option IspWork := none
  deriving DecidableEq, Repr

/-- A decoded sample in its ring slot (R145, R155). -/
structure DecSample where
  seq : Word
  aligned : DWord
  trig : DWord
  time : DWord
  marks : Word
  /-- Width in pixels, bits of a component, components of a pixel (R137, R144). -/
  width : Nat
  depth : Nat
  comps : Nat
  rows : List (List Nat)
  /-- Pipeline contexts that have still to release it. -/
  readers : List Nat
  deriving DecidableEq, Repr

/-- A sample that is being decoded (R146 to R151). -/
structure DecPic where
  seq : Word
  /-- Raw count of the first byte, and of the end of the data. -/
  firstAt : DWord
  ended : Option DWord := none
  width : Nat
  height : Nat
  depth : Nat
  rows : List (List Nat) := []
  marks : Word := 0
  irap : Bool
  /-- Time-base reading at the first byte. -/
  time : DWord
  /-- The sample has been skipped and holds its substitute (R150). -/
  skipped : Bool := false
  /-- MODE, SUBST and BUDGET in force for the sample (R141). -/
  mode : Nat
  subst : Bool
  budget : Nat
  deriving DecidableEq, Repr

/-- A decoder stream (chapter 5). -/
structure DecStream where
  pic : Option DecPic := none
  ring : List DecSample := []
  next : Word := 0
  /-- Pixels of the last sample without CONCEALED, SUBSTITUTED or REF_DAMAGED (R150). -/
  good : Option (List (List Nat)) := none
  /-- Width, height and depth of the last sample written. -/
  dims : Option (Nat × Nat × Nat) := none
  /-- Padding samples that wait for a slot. -/
  pads : Nat := 0
  /-- Packets that wait for the sample or the report before them, with the raw count of their arrival, oldest first (R145,
  R152). -/
  held : List (DWord × RtpInfo) := []
  /-- Samples in the open batch and raw count of its first (R157). -/
  batch : Option (Nat × DWord) := none
  lastRtp : Option (BitVec 16) := none
  /-- The active parameter set is not supported (R138). -/
  spsBad : Bool := false
  /-- References are damaged until the next IRAP picture (R148). -/
  refBad : Bool := false
  /-- Samples are skipped until the next IRAP picture after an engine reset (R159). -/
  waitIrap : Bool := false
  /-- Report records that wait for a HOLD queue, oldest first (R152). -/
  reports : List (List Byte) := []
  deriving DecidableEq, Repr

/-- The DEC block beside its registers. -/
structure DecSt where
  streams : AMap DecStream := []
  deriving DecidableEq, Repr

/-! ### Snapshots -/

/-- The snapshot unit (R577 to R581) beside its registers. -/
structure SnapSt where
  /-- The ENC source has fired on a forward or on a reverse crossing, and the position has not yet been 256 sc on the side
  that the crossing came from (R577). -/
  fwdOff : Bool := false
  revOff : Bool := false
  /-- SNAPOUT is high. -/
  snapOut : Bool := false
  deriving DecidableEq, Repr

/-- The state of the module. -/
structure State where
  /-- Registers by device address; an unlisted register holds its reset word (R638). SDIO function registers as in
  `Machine/RegIndex.lean`. -/
  regs : AMap Word := []
  /-- Latches of pair reads (R5): address of the _LO word to the latched _HI half. -/
  pairLatch : AMap Word := []
  /-- Pending _HI writes (R6): address of the _LO word to the half that waits. -/
  pairPend : AMap Word := []
  /-- The raw counter (R513), in ns. -/
  raw : DWord := 0
  /-- How many free values have been drawn; the model's own field. -/
  free : Nat := 0
  /-- DRAM bytes by physical address; an unlisted byte is zero (R383, R385). -/
  mem : List Host.Cell := []
  core : CoreSt := {}
  host : HostSt := {}
  pm : PmSt := {}
  fault : FaultSt := {}
  flash : FlashSt := {}
  fuse : FuseSt := {}
  sec : SecSt := {}
  snap : SnapSt := {}
  encs : AMap EncCh := []
  queues : AMap Queue := []
  memory : MemSt := {}
  wt : WtSt := {}
  fio : FioSt := {}
  time : TimeSt := {}
  cams : AMap CamPort := []
  ispOuts : AMap IspOut := []
  ispCtxs : AMap IspCtx := []
  ispPipes : AMap IspPipe := []
  dec : DecSt := {}
  job : JobSt := {}
  lanes : AMap LaneSt := []
  macs : AMap MacSt := []
  fab : FabSt := {}
  /-- Commands that wait, first in, first out. -/
  pending : List Instr := []
  deriving DecidableEq, Repr

/-- The module right after POR, not yet seated: every register holds its reset word (R638), DRAM reads zero (R385), no
queue exists (R451), no comet exists (R356), flash holds what the factory wrote (R584), and no command waits. -/
def State.reset : State :=
  { flash := { firmware := some Config.factoryFirmware, deviceCert := Config.factoryCert } }

/-- The outcome of a command. -/
abbrev Out := Host.Outcome State Fault Refusal

end Sys2Proof.Machine
end

