-- ==== Sys2Proof/Machine/Ops.lean ====
section
/-!
DEFINITION. The named operations over the register file, the counters and events, the time base and the power domains,
through which every meaning reads and writes the state.
-/
namespace Sys2Proof.Machine

open Sys2Proof

/-! ### Registers -/

/-- The word of element `i`, `j`, `k` of a register. -/
def State.rd (s : State) (r : RegRow) (i : Nat := 0) (j : Nat := 0) (k : Nat := 0) : Word :=
  AMap.get s.regs r.reset (r.at i j k)

/-- `s` with element `i`, `j`, `k` of a register holding `v`. -/
def State.wr (s : State) (r : RegRow) (v : Word) (i : Nat := 0) (j : Nat := 0) (k : Nat := 0) : State :=
  { s with regs := AMap.store s.regs r.reset (r.at i j k) v }

/-- A pair as one 64-bit word (R4). -/
def State.rd64 (s : State) (lo hi : RegRow) (i : Nat := 0) (j : Nat := 0) : DWord :=
  joinWords (s.rd hi i j) (s.rd lo i j)

/-- `s` with a pair holding `v`. -/
def State.wr64 (s : State) (lo hi : RegRow) (v : DWord) (i : Nat := 0) (j : Nat := 0) : State :=
  (s.wr lo (loWord v) i j).wr hi (hiWord v) i j

/-- Bits of a register as a number. -/
def State.f (s : State) (r : RegRow) (lo len : Nat) (i : Nat := 0) (j : Nat := 0) (k : Nat := 0) : Nat :=
  fld (s.rd r i j k) lo len

/-- One bit of a register. -/
def State.bit (s : State) (r : RegRow) (n : Nat) (i : Nat := 0) (j : Nat := 0) (k : Nat := 0) : Bool :=
  (s.rd r i j k).getLsbD n

/-- `s` with a field of a register set. -/
def State.setF (s : State) (r : RegRow) (lo len v : Nat) (i : Nat := 0) (j : Nat := 0) (k : Nat := 0) : State :=
  s.wr r (setFld (s.rd r i j k) lo len v) i j k

/-- `s` with one bit of a register set or cleared. -/
def State.setBit (s : State) (r : RegRow) (n : Nat) (b : Bool) (i : Nat := 0) (j : Nat := 0) (k : Nat := 0) : State :=
  s.wr r (putBit (s.rd r i j k) n b) i j k

/-- An event bit is set (R7, W1C). -/
def State.raise (s : State) (r : RegRow) (n : Nat) (i : Nat := 0) (j : Nat := 0) : State :=
  s.setBit r n true i j

/-- A counter counts `n` more and holds at its largest value. -/
def State.bumpBy (s : State) (n : Nat) (r : RegRow) (i : Nat := 0) (j : Nat := 0) : State :=
  s.wr r (BitVec.ofNat 32 (min ((s.rd r i j).toNat + n) 0xFFFFFFFF)) i j

/-- A counter counts one more. -/
def State.bump (s : State) (r : RegRow) (i : Nat := 0) (j : Nat := 0) : State := s.bumpBy 1 r i j

/-- `f s` when `c` holds, else `s`. -/
def State.when (s : State) (c : Bool) (f : State → State) : State := if c then f s else s

/-! ### Time (R513, R514, R518) -/

/-- Raw counts since `t`, on the wrapping counter. -/
def State.since (s : State) (t : DWord) : Nat := (s.raw - t).toNat

/-- The time-base reading of a raw count (R514). -/
def State.timeAt (s : State) (r : DWord) : DWord :=
  let d := r - s.rd64 Reg.TIME_ANCHOR_LO Reg.TIME_ANCHOR_HI
  let rate := (s.rd Reg.TIME_RATE).toInt
  s.rd64 Reg.TIME_OFFSET_LO Reg.TIME_OFFSET_HI + d + BitVec.ofInt 64 (((d.toNat : Int) * rate).fdiv (2 ^ 40))

/-- The time-base reading now. -/
def State.now (s : State) : DWord := s.timeAt s.raw

/-! ### Power domains (R550, R613) -/

/-- The power state S0 to S3. -/
def State.power (s : State) : Nat := s.f Reg.PM_STATE 0 2

/-- The module is out of reset and powered. -/
def State.live (s : State) : Bool :=
  s.core.alive && !s.core.held && !s.core.mrst && !s.core.quiesced && !s.core.removed

/-- The block is powered and out of reset (R550, R636). -/
def State.on (s : State) (b : Block) : Bool :=
  s.live && decide (s.power ≠ 3) && (b.onInS2 || decide (s.power ≠ 2))

/-- The memory initialiser has finished (R383). -/
def State.initDone (s : State) : Bool := s.bit Reg.MEM_STATUS 1

/-! ### Refusals, unmapped accesses, free values -/

/-- A refusal as a block with a LAST_STATUS field of its own records it (R12, R483, R525). -/
def State.lastStatus (s : State) (status addr : Nat) : State :=
  match blockAt addr with
  | some .LN => s.setF Reg.LN_STATUS 16 16 status
  | some .FAB => s.setF Reg.FAB_NODE 16 16 status
  | some .TIME => s.setF Reg.TIME_STATUS 16 16 status
  | some .DEC => match Reg.DEC_STREAM_CFG.find (addr / 256 * 256) with
    | some (n, _, _) => s.setF Reg.DEC_STREAM_STATUS 16 16 status n
    | none => s
  | _ => s

/-- A register write refused with a status code (R12): nothing but the record of the refusal changes. -/
def State.refuse (s : State) (status addr : Nat) : State :=
  ((((s.lastStatus status addr).wr Reg.SYS_REFUSED_STATUS (BitVec.ofNat 32 status)).wr Reg.SYS_REFUSED_ADDR
    (BitVec.ofNat 32 (addr % 2 ^ 26))).bump Reg.SYS_REFUSED_CNT).raise Reg.SYS_HOST_EVENT 2

/-- An access to no register, or a write that R384 or R554 ignores: counted (R11). -/
def State.unmapped (s : State) : State := (s.bump Reg.SYS_UNMAPPED_CNT).raise Reg.SYS_HOST_EVENT 1

/-- A host write to a read-only range: ignored and counted (R466). -/
def State.violation (s : State) : State := (s.bump Reg.F2_VIOL_CNT).raise Reg.SYS_HOST_EVENT 0

/-- A fresh free value and the state that has drawn it. -/
def State.draw (s : State) : Word × State := (Config.freeWord s.free, { s with free := s.free + 1 })

/-! ### Units -/

/-- Encoder channel `n`. -/
def State.enc (s : State) (n : Nat) : EncCh := AMap.get s.encs {} n
/-- `s` with encoder channel `n` replaced. -/
def State.setEnc (s : State) (n : Nat) (c : EncCh) : State := { s with encs := AMap.store s.encs {} n c }
/-- Queue `q`. -/
def State.queue (s : State) (q : Nat) : Queue := AMap.get s.queues {} q
/-- `s` with queue `q` replaced. -/
def State.setQueue (s : State) (q : Nat) (x : Queue) : State := { s with queues := AMap.store s.queues {} q x }
/-- Output `n`. -/
def State.dout (s : State) (n : Nat) : DoSt := AMap.get s.fio.outs {} n
/-- `s` with output `n` replaced. -/
def State.setDout (s : State) (n : Nat) (x : DoSt) : State :=
  { s with fio := { s.fio with outs := AMap.store s.fio.outs {} n x } }
/-- Input `n`. -/
def State.din (s : State) (n : Nat) : DiSt := AMap.get s.fio.ins {} n
/-- `s` with input `n` replaced. -/
def State.setDin (s : State) (n : Nat) (x : DiSt) : State :=
  { s with fio := { s.fio with ins := AMap.store s.fio.ins {} n x } }
/-- The detector of line lane `l`. -/
def State.det (s : State) (l : Nat) : Detector := AMap.get s.wt.dets {} l
/-- `s` with the detector of line lane `l` replaced. -/
def State.setDet (s : State) (l : Nat) (d : Detector) : State :=
  { s with wt := { s.wt with dets := AMap.store s.wt.dets {} l d } }
/-- The comet of table entry `i`, none when the entry is FREE. -/
def State.comet (s : State) (i : Nat) : Option Comet := AMap.look s.wt.comets i
/-- `s` with the comet of entry `i` replaced. -/
def State.setComet (s : State) (i : Nat) (c : Comet) : State :=
  { s with wt := { s.wt with comets := AMap.put s.wt.comets i c } }
/-- Ejector group `g`. -/
def State.group (s : State) (g : Nat) : Group := AMap.get s.wt.groups {} g
/-- `s` with ejector group `g` replaced. -/
def State.setGroup (s : State) (g : Nat) (x : Group) : State :=
  { s with wt := { s.wt with groups := AMap.store s.wt.groups {} g x } }

/-- Camera port `n`. -/
def State.cam (s : State) (n : Nat) : CamPort := AMap.get s.cams {} n
/-- `s` with camera port `n` replaced. -/
def State.setCam (s : State) (n : Nat) (c : CamPort) : State := { s with cams := AMap.store s.cams {} n c }

/-- MAC `m`. -/
def State.mac (s : State) (m : Nat) : MacSt := AMap.get s.macs {} m
/-- `s` with MAC `m` replaced. -/
def State.setMac (s : State) (m : Nat) (x : MacSt) : State := { s with macs := AMap.store s.macs {} m x }
/-- A frame joins the transmit queue of MAC `m` (R498). -/
def State.macSend (s : State) (m : Nat) (f : TxFrame) : State :=
  s.setMac m { s.mac m with txq := (s.mac m).txq ++ [f] }
/-- Serial lane `l`. -/
def State.lane (s : State) (l : Nat) : LaneSt := AMap.get s.lanes {} l
/-- `s` with serial lane `l` replaced. -/
def State.setLane (s : State) (l : Nat) (x : LaneSt) : State := { s with lanes := AMap.store s.lanes {} l x }
/-- Kalinamo link `j`. -/
def State.link (s : State) (j : Nat) : LinkSt := AMap.get s.fab.links {} j
/-- `s` with Kalinamo link `j` replaced. -/
def State.setLink (s : State) (j : Nat) (x : LinkSt) : State :=
  { s with fab := { s.fab with links := AMap.store s.fab.links {} j x } }

/-- The job of a handle. -/
def State.jobOf (s : State) (h : Nat) : Option Job := AMap.look s.job.jobs h
/-- `s` with the job of a handle replaced. -/
def State.setJob (s : State) (h : Nat) (j : Job) : State := { s with job := { s.job with jobs := AMap.put s.job.jobs h j } }
/-- `f` applied to the job of a handle, if it is loaded. -/
def State.updJob (s : State) (h : Nat) (f : Job → Job) : State :=
  match s.jobOf h with
  | some j => s.setJob h (f j)
  | none => s
/-- The context of a job on a unit: logical spire 0 to 31, or 32 + moon engine. -/
def State.ctx (s : State) (h u : Nat) : Ctx := AMap.get s.job.ctxs {} (64 * h + u)
/-- `s` with a context replaced. -/
def State.setCtx (s : State) (h u : Nat) (c : Ctx) : State :=
  { s with job := { s.job with ctxs := AMap.store s.job.ctxs {} (64 * h + u) c } }
/-- Engine `e`: physical spire 0 to 33, or 34 + moon engine. -/
def State.engine (s : State) (e : Nat) : Engine := AMap.get s.job.engines {} e
/-- `s` with engine `e` replaced. -/
def State.setEngine (s : State) (e : Nat) (x : Engine) : State :=
  { s with job := { s.job with engines := AMap.store s.job.engines {} e x } }

/-- Output unit `o` of pipeline `p`. -/
def State.ispOut (s : State) (p o : Nat) : IspOut := AMap.get s.ispOuts {} (4 * p + o)
/-- `s` with an output unit replaced. -/
def State.setIspOut (s : State) (p o : Nat) (x : IspOut) : State := { s with ispOuts := AMap.store s.ispOuts {} (4 * p + o) x }
/-- Context `c` of pipeline `p`. -/
def State.ispCtx (s : State) (p c : Nat) : IspCtx := AMap.get s.ispCtxs {} (4 * p + c)
/-- `s` with a pipeline context replaced. -/
def State.setIspCtx (s : State) (p c : Nat) (x : IspCtx) : State := { s with ispCtxs := AMap.store s.ispCtxs {} (4 * p + c) x }
/-- Pipeline `p`. -/
def State.ispPipe (s : State) (p : Nat) : IspPipe := AMap.get s.ispPipes {} p
/-- `s` with pipeline `p` replaced. -/
def State.setIspPipe (s : State) (p : Nat) (x : IspPipe) : State := { s with ispPipes := AMap.store s.ispPipes {} p x }
/-- Decoder stream `n`. -/
def State.stream (s : State) (n : Nat) : DecStream := AMap.get s.dec.streams {} n
/-- `s` with decoder stream `n` replaced. -/
def State.setStream (s : State) (n : Nat) (x : DecStream) : State :=
  { s with dec := { s.dec with streams := AMap.store s.dec.streams {} n x } }

/-- The watchtower holds a comet referenced to encoder channel `n` (R35, R58). -/
def State.cometsOn (s : State) (n : Nat) : Bool := s.wt.comets.any (fun p => p.2.enc = n)

/-- Fold a change over a list of units. -/
def State.forAll {α : Type} (s : State) (l : List α) (f : α → State → State) : State := l.foldl (fun t a => f a t) s

/-- The numbers below `n`. -/
def upTo (n : Nat) : List Nat := List.range n

end Sys2Proof.Machine
end

