-- ==== Sys2Proof/Machine/QueueOps.lean ====
section
/-!
DEFINITION. The operations at a queue's arbitration point (chapter 15): capacity, fill, credits, publication, release.
-/
namespace Sys2Proof.Machine

open Sys2Proof

/-- Queue `q`, one of the 16,384, is enabled. -/
def State.qOn (s : State) (q : Nat) : Bool := decide (q < 16384) && s.on .QM && s.bit Reg.QM_Q_CFG 31 q
/-- Queue `q` carries packets. -/
def State.qPacket (s : State) (q : Nat) : Bool := s.bit Reg.QM_Q_CFG 30 q
/-- Queue `q` drops its newest record when full. -/
def State.qDrop (s : State) (q : Nat) : Bool := s.bit Reg.QM_Q_CFG 29 q
/-- Consumer of queue `q`: 0 hardware, 1 CP, 2 host, 3 SDIO function 3. -/
def State.qCons (s : State) (q : Nat) : Nat := s.f Reg.QM_Q_CFG 27 2 q
/-- Entries of the ring (R435). -/
def State.qCap (s : State) (q : Nat) : Nat := 2 ^ clampN 4 16 (s.f Reg.QM_Q_CFG 20 5 q)
/-- Bytes of one entry (R435). -/
def State.qSize (s : State) (q : Nat) : Nat := 16 * 2 ^ s.f Reg.QM_Q_CFG 18 2 q
/-- The watermark; 0 is treated as 1. -/
def State.qWater (s : State) (q : Nat) : Nat := max 1 (s.f Reg.QM_Q_CFG 0 17 q)

/-- Entries that items take. -/
def entriesOf (l : List QItem) : Nat := (l.map (fun x => x.entries)).sum

/-- The items visible to the consumer: published, with every older item published (R441). -/
def Queue.visible (x : Queue) : List QItem := x.items.takeWhile (fun i => i.published)

/-- FILL: entries from the head to the publication point. -/
def Queue.fill (x : Queue) : Nat := entriesOf x.visible
/-- Entries granted as credits. -/
def Queue.granted (x : Queue) : Nat := (x.credits.map (fun p => p.2)).sum
/-- HELD: entries granted, or reserved and not yet published. -/
def Queue.held (x : Queue) : Nat := x.granted + (entriesOf x.items - x.fill)
/-- Entries that a grant may take (R438). -/
def State.qFree (s : State) (q : Nat) : Nat := s.qCap q - entriesOf (s.queue q).items - (s.queue q).granted

/-- Queue `q` replaced; its live registers follow, and a rise of the fill to the watermark sets its pending bit (R448). -/
def State.putQueue (s : State) (q : Nat) (x : Queue) : State :=
  let old := (s.queue q).fill
  let s := (((s.setQueue q x).wr Reg.QM_Q_FILL (BitVec.ofNat 32 x.fill) q).wr Reg.QM_Q_CREDIT
    (BitVec.ofNat 32 x.held) q).wr Reg.QM_Q_SEQ x.seq q
  let s := s.when (decide (q = 18)) (fun s => s.wr Reg.F3_LEVEL (BitVec.ofNat 32 x.fill))
  s.when (decide (old < s.qWater q) && decide (s.qWater q ≤ x.fill) && !s.bit Reg.QM_PEND (q % 32) (q / 32))
    (fun s => (s.setBit Reg.QM_PEND (q % 32) true (q / 32)).when (s.bit Reg.QM_Q_CFG 17 q)
      (fun s => s.raise Reg.QM_EVENT 0))

/-- A record, packet or reservation discarded and counted (R444, R644). -/
def State.qDropped (s : State) : State := (s.bump Reg.QM_CNT 2).raise Reg.QM_EVENT 1

/-- Credits of a producer. -/
def Queue.credit (x : Queue) (p : Nat) : Nat := AMap.get x.credits 0 p

/-- Queue with `n` credits taken from a producer, as far as it holds them. -/
def Queue.useCredit (x : Queue) (p n : Nat) : Queue :=
  { x with credits := AMap.store x.credits 0 p (x.credit p - n) }

/-- Queue with `n` credits more for a producer. -/
def Queue.addCredit (x : Queue) (p n : Nat) : Queue :=
  { x with credits := AMap.store x.credits 0 p (x.credit p + n) }

/-- Bytes cut or filled with zeros to a length. -/
def fitBytes (n : Nat) (l : List Byte) : List Byte := l.take n ++ List.replicate (n - l.length) 0

/-- A RECORD queue has room for one record of a producer: a credit of its own, or a free entry. -/
def State.qRoom (s : State) (q p : Nat) : Bool :=
  s.qOn q && !s.qPacket q && (decide (0 < (s.queue q).credit p) || decide (0 < s.qFree q))

/-! ### The two copies of a ring in DRAM (R418, R436) -/

/-- The errors of stored sectors replaced. -/
def State.setErrs (s : State) (m : AMap SectorErr) : State := { s with memory := { s.memory with errs := m } }

/-- A sector has been written in full with new check bytes: its errors are gone, and an armed injection strikes it. -/
def State.sectorStored (s : State) (sector : Nat) : State :=
  match s.memory.inject with
  | some (t, mask) =>
    if t = sector then
      let s := { s with memory := { s.memory with inject := none } }
      if mask = 0 then s.setErrs (AMap.del s.memory.errs sector)
      else s.setErrs (AMap.put s.memory.errs sector { syms := mask, injected := true })
    else s.setErrs (AMap.del s.memory.errs sector)
  | none => s.setErrs (AMap.del s.memory.errs sector)

/-- Sectors of `n` entries from entry `first` on, in the ring copy of queue `q` that starts at `base`. -/
def State.ringSectors (s : State) (base q first n : Nat) : List Nat :=
  let size := s.qSize q
  (upTo (ceilDiv ((first + n) * size) 64 - first * size / 64)).map (fun k => base / 64 + (first * size / 64 + k))

/-- Base of the first copy of a ring. -/
def State.ringFirst (s : State) (q : Nat) : Nat := (s.rd64 Reg.QM_Q_BASE_LO Reg.QM_Q_BASE_HI q).toNat % 2 ^ 35
/-- Base of the second copy of a ring. -/
def State.ringMirror (s : State) (q : Nat) : Nat := (s.rd64 Reg.QM_Q_MIRROR_LO Reg.QM_Q_MIRROR_HI q).toNat % 2 ^ 35

/-- Entries of a ring written to both copies, with new check bytes. -/
def State.ringStored (s : State) (q first n : Nat) : State :=
  s.forAll (s.ringSectors (s.ringFirst q) q first n ++ s.ringSectors (s.ringMirror q) q first n)
    (fun x s => s.sectorStored x)

/-- One record written as a whole entry (R443). -/
def State.qAppend (s : State) (q p : Nat) (data : List Byte) : State :=
  let x := (s.queue q).useCredit p 1
  let it : QItem := { first := x.tail, entries := 1, producer := p, seq := 0, len := s.qSize q,
                      data := fitBytes (s.qSize q) data, published := true, pad := false, done := false }
  ((s.putQueue q { x with items := x.items ++ [it], tail := (x.tail + 1) % s.qCap q }).ringStored q x.tail 1).bump
    Reg.QM_CNT 0

/-- A record offered to a RECORD queue: published, or dropped on a full DROP queue (R444); a producer of a full HOLD queue
waits and nothing changes. -/
def State.qOffer (s : State) (q p : Nat) (data : List Byte) : State :=
  if s.qRoom q p then s.qAppend q p data
  else if s.qOn q && !s.qPacket q && s.qDrop q then s.qDropped else s

/-- Bytes of a packet header (R437). -/
def packetHeader (kind len : Nat) (seq : Word) : List Byte :=
  bytesLE 4 (2 ^ 31 + (kind % 128) * 2 ^ 24 + len % 65536) ++ bytesLE 4 seq.toNat

/-- LENGTH is one that a reservation may have (R644). -/
def State.qLenOk (s : State) (q len : Nat) : Bool :=
  decide (8 ≤ len) && decide (len ≤ 4096) && decide (2 * len ≤ s.qCap q * s.qSize q)

/-- A packet reservation (R440, R644), with the wrap PAD where the packet would run past the end. A DROP queue with no
room discards the packet, which still uses up its SEQ (R444). A producer of a HOLD queue needs credits. -/
def State.qReserve (s : State) (q p len : Nat) : State :=
  if !(s.qOn q && s.qPacket q) then s
  else if !s.qLenOk q len then s.qDropped
  else
    let x := s.queue q
    let need := ceilDiv len (s.qSize q)
    let toEnd := s.qCap q - x.tail
    let padN := if need ≤ toEnd then 0 else toEnd
    let total := need + padN
    if total ≤ x.credit p ∨ (s.qDrop q ∧ total ≤ s.qFree q + x.credit p) then
      let padIt : List QItem := if padN = 0 then [] else
        [{ first := x.tail, entries := padN, producer := p, seq := x.seq, len := padN * s.qSize q,
           data := packetHeader 0 (padN * s.qSize q) x.seq, published := true, pad := true, done := false }]
      let at_ := if padN = 0 then x.tail else 0
      let it : QItem := { first := at_, entries := need, producer := p, seq := x.seq, len := len, data := [],
                          published := false, pad := false, done := false }
      let x := x.useCredit p total
      let s' := s.putQueue q { x with items := x.items ++ padIt ++ [it], tail := (at_ + need) % s.qCap q,
                                      seq := x.seq + 1 }
      s'.when (decide (padN ≠ 0)) (fun s' =>
        ((s'.ringStored q x.tail 1).bump Reg.QM_CNT 4).bumpBy padN Reg.QM_CNT 0)
    else if s.qDrop q then (s.putQueue q { x with seq := x.seq + 1 }).qDropped
    else s

/-- The first reservation of a producer with a SEQ is changed by `f`. -/
def updReserved (p : Nat) (seq : Word) (f : QItem → QItem) : List QItem → List QItem
  | [] => []
  | i :: t => if !i.published && i.producer = p && i.seq = seq then f i :: t else i :: updReserved p seq f t

/-- The reservation of a producer with a SEQ that has not been published. -/
def Queue.reserved (x : Queue) (p : Nat) (seq : Word) : Option QItem :=
  x.items.find? (fun i => !i.published && decide (i.producer = p) && decide (i.seq = seq))

/-- The header is back-filled and the packet is published (R440). -/
def State.qBackFill (s : State) (q p : Nat) (seq : Word) (kind : Nat) (body : List Byte) : State :=
  let x := s.queue q
  match s.qOn q && decide (kind ≠ 0), x.reserved p seq with
  | true, some it =>
    let s' := s.putQueue q { x with items := updReserved p seq (fun i =>
      { i with published := true, data := packetHeader kind i.len seq ++ fitBytes (i.len - 8) body }) x.items }
    (s'.ringStored q it.first it.entries).bumpBy it.entries Reg.QM_CNT 0
  | _, _ => s

/-- An abandoned reservation becomes a PAD of its length that keeps its SEQ (R442). -/
def State.qAbandon (s : State) (q p : Nat) (seq : Word) : State :=
  let x := s.queue q
  match s.qOn q, x.reserved p seq with
  | true, some it =>
    let s' := s.putQueue q { x with items := updReserved p seq (fun i =>
      { i with published := true, pad := true, data := packetHeader 0 i.len seq }) x.items }
    ((s'.ringStored q it.first 1).bump Reg.QM_CNT 4).bumpBy it.entries Reg.QM_CNT 0
  | _, _ => s

/-- Items without the leading PADs, which the queue manager releases at the head (R442). -/
def dropPads : List QItem → List QItem
  | [] => []
  | i :: t => if i.published && i.pad then dropPads t else i :: t

/-- Items after the release of up to `n` entries from the head. -/
def releaseItems : Nat → List QItem → List QItem
  | _, [] => []
  | n, i :: t =>
    if i.published && i.pad then releaseItems n t
    else if i.published && decide (i.entries ≤ n) then releaseItems (n - i.entries) t
    else i :: t

/-- `n` entries released by the consumer that took them (R445). -/
def State.qRelease (s : State) (q n : Nat) : State :=
  let x := s.queue q
  s.putQueue q { x with items := releaseItems n x.items, claimed := x.claimed - n }

/-- The first item of a queue that a consumer can take, PADs passed over. -/
def Queue.head (x : Queue) : Option QItem :=
  match dropPads x.items with
  | i :: _ => if i.published then some i else none
  | [] => none

end Sys2Proof.Machine
end

