-- ==== Sys2Proof/Machine/FaultOps.lean ====
section
/-!
DEFINITION. Reads of live registers, the block lines, snapshots and fault records (R468, R569 to R581).
-/
namespace Sys2Proof.Machine

open Sys2Proof

/-! ### Block lines (R468) -/

/-- The event and enable registers of each block: block number, event register, enable register, number of units. -/
def eventRegs : List (Nat × RegRow × RegRow × Nat) :=
  [ (0, Reg.SYS_HOST_EVENT, Reg.SYS_HOST_IRQ_EN, 1), (1, Reg.SNAP_EVENT, Reg.SNAP_IRQ_EN, 1),
    (2, Reg.PM_EVENT, Reg.PM_IRQ_EN, 1), (3, Reg.ENC_EVENT, Reg.ENC_IRQ_EN, 4), (4, Reg.WT_EVENT, Reg.WT_IRQ_EN, 1),
    (5, Reg.FIO_EVENT, Reg.FIO_IRQ_EN, 1), (6, Reg.CAM_EVENT, Reg.CAM_IRQ_EN, 8), (7, Reg.ISP_EVENT, Reg.ISP_IRQ_EN, 8),
    (8, Reg.DEC_EVENT, Reg.DEC_IRQ_EN, 1), (9, Reg.SPR_EVENT, Reg.SPR_IRQ_EN, 34), (9, Reg.SPR_QEVENT, Reg.SPR_QIRQ_EN, 34),
    (10, Reg.MOON_EVENT, Reg.MOON_IRQ_EN, 8), (10, Reg.MOON_QEVENT, Reg.MOON_QIRQ_EN, 8),
    (11, Reg.QM_EVENT, Reg.QM_IRQ_EN, 1), (11, Reg.QM_SCHED_EVENT, Reg.QM_SCHED_IRQ_EN, 1),
    (12, Reg.MEM_EVENT, Reg.MEM_IRQ_EN, 1), (12, Reg.MEM_ECC_EVENT, Reg.MEM_ECC_IRQ_EN, 1),
    (13, Reg.XLT_EVENT, Reg.XLT_IRQ_EN, 1), (14, Reg.LN_EVENT, Reg.LN_IRQ_EN, 1),
    (14, Reg.LN_CAGE_EVENT, Reg.LN_CAGE_IRQ_EN, 1), (15, Reg.FAB_EVENT, Reg.FAB_IRQ_EN, 1),
    (16, Reg.TIME_EVENT, Reg.TIME_IRQ_EN, 1), (17, Reg.SEC_EVENT, Reg.SEC_IRQ_EN, 1) ]

/-- The line of block `b`: some event is set together with its enable. -/
def State.line (s : State) (b : Nat) : Bool :=
  eventRegs.any (fun e => decide (e.1 = b) && (upTo e.2.2.2).any (fun i => decide (s.rd e.2.1 i &&& s.rd e.2.2.1 i ≠ 0)))

/-- SYS_IRQ_SRC: the eighteen block lines. -/
def State.irqLines (s : State) : Word :=
  (upTo 18).foldl (fun w b => if s.line b then w ||| BitVec.ofNat 32 (2 ^ b) else w) 0

/-! ### Live registers -/

/-- A register as a read sees it: the position, the time base and the block lines are read at their sources. -/
def State.view (s : State) (r : RegRow) (i : Nat := 0) (j : Nat := 0) (k : Nat := 0) : Word :=
  if r.addr = Reg.ENC_POS_LO.addr then loWord (s.enc i).pos
  else if r.addr = Reg.ENC_POS_HI.addr then hiWord (s.enc i).pos
  else if r.addr = Reg.TIME_NOW_LO.addr then loWord s.now
  else if r.addr = Reg.TIME_NOW_HI.addr then hiWord s.now
  else if r.addr = Reg.TIME_RAW_LO.addr then loWord s.raw
  else if r.addr = Reg.TIME_RAW_HI.addr then hiWord s.raw
  else if r.addr = Reg.SYS_IRQ_SRC.addr then s.irqLines
  else s.rd r i j k

/-! ### Snapshots (R577 to R581) -/

/-- One register over its units. -/
def overUnits (r : RegRow) (n : Nat) : List (RegRow × Nat × Nat) := (upTo n).map (fun i => (r, i, 0))

/-- Several registers for each of `n` units. -/
def perUnit (rs : List RegRow) (n : Nat) : List (RegRow × Nat × Nat) :=
  (upTo n).flatMap (fun i => rs.map (fun r => (r, i, 0)))

/-- The counters of one register array of one unit. -/
def counters (r : RegRow) (n : Nat) : List (RegRow × Nat × Nat) := (upTo n).map (fun i => (r, i, 0))

/-- The snapshot words of a block, in order (R580). -/
def snapWords : Block → List (RegRow × Nat × Nat)
  | .SYS => overUnits Reg.SYS_IRQ_SRC 1 ++ overUnits Reg.SYS_UNMAPPED_CNT 1
  | .SNAP => overUnits Reg.SNAP_SUPPLY 1 ++ counters Reg.SNAP_CNT 8
  | .PM => perUnit [Reg.PM_STATE, Reg.PM_OP_STATUS, Reg.PM_TJ] 1
  | .ENC => perUnit [Reg.ENC_POS_LO, Reg.ENC_POS_HI, Reg.ENC_SPEED, Reg.ENC_ACCEL, Reg.ENC_STATUS] 4
  | .WT => perUnit [Reg.WT_STATUS, Reg.WT_EVENT] 1 ++ counters Reg.WT_CNT 16
  | .FIO => perUnit [Reg.FIO_SUPPLY, Reg.FIO_DO_SET, Reg.FIO_DO_STATE, Reg.FIO_DI_STATE] 1
      ++ overUnits Reg.FIO_DO_STATUS 32
  | .CAM => perUnit [Reg.CAM_STATUS, Reg.CAM_OCC] 8
  | .ISP => overUnits Reg.ISP_PIPE_STATUS 8
  | .DEC => overUnits Reg.DEC_STATUS 1 ++ overUnits Reg.DEC_STREAM_STATUS 32
  | .SPR => perUnit [Reg.SPR_STATUS, Reg.SPR_SCHED_STATUS] 34
  | .MOON => overUnits Reg.MOON_STATUS 8
  | .QM => perUnit [Reg.QM_STATUS, Reg.QM_SCHED_STATUS] 1 ++ overUnits Reg.QM_Q_FILL 1
      ++ (upTo 6).map (fun i => (Reg.QM_Q_FILL, 16 + i, 0))
  | .MEM => perUnit [Reg.MEM_STATUS, Reg.MEM_FREE] 1 ++ overUnits Reg.MEM_TOWER_TEMP 4 ++ overUnits Reg.MEM_SPARE_STATUS 1
  | .XLT => overUnits Reg.XLT_STATUS 1
  | .LN => overUnits Reg.LN_LANE_STATUS 32 ++ overUnits Reg.LN_MAC_CFG 8
  | .FAB => overUnits Reg.FAB_LINK_STATUS 4
  | .TIME => perUnit [Reg.TIME_NOW_LO, Reg.TIME_NOW_HI, Reg.TIME_RAW_LO, Reg.TIME_RAW_HI, Reg.TIME_STATUS] 1
  | .SEC => overUnits Reg.SEC_STATUS 1

/-- The blocks in base-table order. -/
def allBlocks : List Block :=
  [.SYS, .SNAP, .PM, .ENC, .WT, .FIO, .CAM, .ISP, .DEC, .SPR, .MOON, .QM, .MEM, .XLT, .LN, .FAB, .TIME, .SEC]

/-- The block latches its snapshot words; a block that is off latches zeros (R579). -/
def latchBlock (src : State) (b : Block) (s : State) : State :=
  s.forAll (snapWords b).zipIdx (fun e s =>
    s.wr Reg.SNAP_BLK (if src.on b then src.view e.1.1 e.1.2.1 e.1.2.2 else 0) b.num e.2)

/-- An accepted trigger: number, time, sources, the words of every block, SNAPOUT (R578, R579). -/
def State.snapLatch (s : State) (srcBits : Nat) (overwrite : Bool) : State :=
  let latched := allBlocks.foldl (fun w b => if s.on b then w + 2 ^ b.num else w) 0
  let t := s.now
  let s' := s.forAll allBlocks (fun b x => latchBlock s b x)
  let s' := ((s'.wr Reg.SNAP_NUMBER (s.rd Reg.SNAP_NUMBER + 1)).wr Reg.SNAP_SOURCES (BitVec.ofNat 32 srcBits)).wr64
    Reg.SNAP_TIME_LO Reg.SNAP_TIME_HI t
  let s' := ((s'.wr Reg.SNAP_LATCHED (BitVec.ofNat 32 latched)).setF Reg.SNAP_STATUS 0 2 1).setBit Reg.SNAP_STATUS 2 false
  let s' := s'.when overwrite (fun s => s.setBit Reg.SNAP_STATUS 3 true)
  (s'.bump Reg.SNAP_CNT 0).when (s.bit Reg.SNAP_CFG 5) (fun s => { s with snap := { s.snap with snapOut := true } })

/-- A trigger from source 0 HOST, 1 ENC, 2 DI, 3 FAULT or 4 SNAPIN (R577, R578, R581). -/
def State.snapFire (s : State) (src : Nat) : State :=
  let st := s.f Reg.SNAP_STATUS 0 2
  let oneshot := s.bit Reg.SNAP_CFG 4
  if !s.on .SNAP then s
  else if src ≠ 0 ∧ !s.bit Reg.SNAP_CFG (src - 1) then s
  else if st = 1 then s.wr Reg.SNAP_SOURCES (s.rd Reg.SNAP_SOURCES ||| BitVec.ofNat 32 (2 ^ src))
  else if st = 2 ∧ oneshot then
    if src = 0 then s.snapLatch (2 ^ src) true else (s.raise Reg.SNAP_EVENT 1).bump Reg.SNAP_CNT 1
  else s.snapLatch (2 ^ src) false

/-- The trigger that `snapFire` would take starts a snapshot, rather than joining or missing one. -/
def State.snapAccepts (s : State) (src : Nat) : Bool :=
  s.on .SNAP && (decide (src = 0) || s.bit Reg.SNAP_CFG (src - 1)) && decide (s.f Reg.SNAP_STATUS 0 2 ≠ 1) &&
    !(decide (s.f Reg.SNAP_STATUS 0 2 = 2) && s.bit Reg.SNAP_CFG 4 && decide (src ≠ 0))

/-- The position of channel `n` has changed: the ENC source arms again in a direction once the position lies 256 sc on the
side that a crossing in that direction comes from (R577). -/
def State.snapRearm (s : State) (n : Nat) : State :=
  if s.f Reg.SNAP_MATCH_CFG 0 2 = n ∧ (s.snap.fwdOff ∨ s.snap.revOff) then
    let d := posDiff (s.enc n).pos (s.rd64 Reg.SNAP_MATCH_LO Reg.SNAP_MATCH_HI)
    { s with snap := { s.snap with fwdOff := s.snap.fwdOff && decide (-256 < d), revOff := s.snap.revOff && decide (d < 256) } }
  else s

/-! ### Fault records (R569 to R574) -/

/-- The fields of a fault record (R573). `cls`: 0 pending, 1 transient, 2 lasting, 3 not recoverable. -/
structure FaultRec where
  status : Nat := 0
  block : Nat
  cause : Nat
  unit : Nat
  cls : Nat
  injected : Bool := false
  write : Bool := false
  action : Nat := 0
  handle : Nat := 0
  stream : Nat := 0xFFFF
  tile : Nat := 0xFFFFFFFF
  address : Nat := 0
  offset : Nat := 0
  detail : List Byte := []
  deriving DecidableEq, Repr

/-- The 64 bytes of a fault record (R573). -/
def FaultRec.bytes (r : FaultRec) (time : DWord) (seq : Word) (snapshot : Nat) : List Byte :=
  bytesLE 2 r.status ++ bytesLE 1 r.block ++ bytesLE 1 r.cause ++ bytesLE 2 r.unit
  ++ bytesLE 1 (r.cls + 4 * r.injected.toNat + 8 * r.write.toNat) ++ bytesLE 1 r.action ++ bytesLE 2 r.handle
  ++ bytesLE 2 r.stream ++ bytesLE 4 r.tile ++ bytesLE 8 r.address ++ bytesLE 8 r.offset ++ fitBytes 16 r.detail
  ++ bytesLE 8 time.toNat ++ bytesLE 4 seq.toNat ++ bytesLE 2 snapshot ++ bytesLE 2 0

/-- The queue of a block's fault records: queue 16, or the queue named in XLT_FAULT_Q for XLT (R399, R574). -/
def State.faultQueue (s : State) (block : Nat) : Nat := if block = 13 then s.f Reg.XLT_FAULT_Q 0 8 else 16

/-- The record is offered to its queue: published, held by its block, or lost (R574). -/
def State.faultPublish (s : State) (block : Nat) (data : List Byte) : State :=
  if s.qRoom (s.faultQueue block) block then s.qAppend (s.faultQueue block) block data
  else if (AMap.look s.fault.held block).isNone then
    { s with fault := { s.fault with held := AMap.put s.fault.held block data } }
  else s.bump Reg.SNAP_CNT 6

/-- A record of a class and block triggers a snapshot when SNAP_FAULT_MASK selects both (R577). -/
def State.faultTriggers (s : State) (block cls : Nat) : Bool :=
  decide (cls ≠ 0) && s.bit Reg.SNAP_FAULT_MASK block && s.bit Reg.SNAP_FAULT_MASK (17 + cls)

/-- One writing of a record: the trigger of its last writing, its counters, and its place in queue 16. -/
def State.faultWrite (s : State) (r : FaultRec) (seq : Word) : State :=
  let trig := s.faultTriggers r.block r.cls
  let accepted := trig && s.snapAccepts 3
  let t := s.now
  let s := s.when trig (fun s => s.snapFire 3)
  let snapNo := if accepted then (s.rd Reg.SNAP_NUMBER).toNat % 65536 else 0xFFFF
  let s := s.when (decide (r.cls = 1)) (fun s => s.bump Reg.SNAP_CNT 3)
  let s := s.when (decide (r.cls = 2)) (fun s => (s.bump Reg.SNAP_CNT 4).raise Reg.SNAP_EVENT 2)
  let s := s.when (decide (r.cls = 3)) (fun s => s.bump Reg.SNAP_CNT 5)
  s.faultPublish r.block (r.bytes t seq snapNo)

/-- A new record takes the next number and is counted (R573, SNAP_CNT k = 2). -/
def State.faultNew (s : State) (r : FaultRec) : State :=
  let seq := s.fault.seq
  let n := AMap.get s.fault.perBlock 0 r.block + 1
  let s := { s with fault := { s.fault with seq := seq + 1, perBlock := AMap.store s.fault.perBlock 0 r.block n } }
  (s.bump Reg.SNAP_CNT 2).faultWrite r seq

/-- The class of a fault whose retry has succeeded: transient, or lasting once the unit has had more than TRANSIENT_LIMIT
transient faults of the cause within 24 h (R569). -/
def State.retryClass (s : State) (unit cause : Nat) : Nat :=
  let lim := max 1 (s.f Reg.SNAP_FLT_CFG 0 8)
  let n := (s.fault.transients.filter (fun t =>
    decide (t.1 = unit) && decide (t.2.1 = cause) && decide (s.since t.2.2 ≤ 86400000000000))).length
  if lim < n then 2 else 1

/-- A transient fault is remembered for the count of R569. -/
def State.noteTransient (s : State) (unit cause : Nat) : State :=
  { s with fault := { s.fault with transients := (unit, cause, s.raw) :: s.fault.transients } }

/-- A fault that was retried at once: written with class 0 and again with the class of the outcome (R573). -/
def State.faultRetried (s : State) (r : FaultRec) (cls : Nat) : State :=
  let seq := s.fault.seq
  (s.faultNew { r with cls := 0 }).faultWrite { r with cls := cls } seq

/-- Records that blocks hold are published as their queue gains room, lowest block first (R574). -/
def State.flushHeld (s : State) : State :=
  s.fault.held.foldl (fun t p =>
    let q := t.faultQueue p.1
    if t.qRoom q p.1 then
      { (t.qAppend q p.1 p.2) with fault := { (t.qAppend q p.1 p.2).fault with held := AMap.del t.fault.held p.1 } }
    else t) s

end Sys2Proof.Machine
end

