-- ==== Sys2Proof/Machine/Gate.lean ====
section
/-!
DEFINITION. Who may write a register and when (R384, R466, R467, R554): the gate in front of every register write.
-/
namespace Sys2Proof.Machine

open Sys2Proof

/-- Blocks whose writes R384 ignores until INIT_DONE. -/
def Block.needsInit : Block → Bool
  | .CAM | .ISP | .DEC | .WT | .SPR | .MOON | .QM | .MEM | .XLT => true
  | _ => false

/-- The host may write the register at a device address (R466). -/
def hostMayWrite (a : Nat) : Bool :=
  match blockAt a with
  | some .SYS => decide (a = Reg.SYS_IRQ_HOST_EN.addr ∨ a = Reg.SYS_HOST_EVENT.addr ∨ a = Reg.SYS_HOST_IRQ_EN.addr)
  | some .MEM => decide (a = Reg.MEM_EVENT.addr ∨ a = Reg.MEM_ECC_EVENT.addr)
  | some .XLT => decide (a = Reg.XLT_EVENT.addr)
  | some .SEC => decide (a = Reg.SEC_EVENT.addr)
  | some .QM => !decide (0x1900000 ≤ a ∧ a ≤ 0x197FFFF)
  | _ => true

/-- The enable registers, which R467 excepts. -/
def irqEnAddrs : List Nat := eventRegs.map (fun e => e.2.2.1.addr)

/-- A configuration register in the sense of R467, ISP_CTX_APPLY among them. -/
def RegRow.isConfig (r : RegRow) : Bool :=
  (decide (r.rw ≠ 0) &&
    (match r.cls with | .s2 | .s3 | .k | .v | .kq => true | _ => false) &&
    !(irqEnAddrs.contains r.addr) && decide (r.addr ≠ Reg.SYS_IRQ_HOST_EN.addr) &&
    decide (r.addr ≠ Reg.FIO_DO_SET.addr))
  || decide (r.addr = Reg.ISP_CTX_APPLY.addr)

/-- The host can reach SDIO function `f`: firmware has booted, and the host has enabled function 1 (R455). -/
def State.fnReady (s : State) (f : Nat) : Bool :=
  s.live && decide (s.power ≠ 3) && s.host.ioReady.getLsbD f && s.host.ioEnable.getLsbD 1

/-- A write of `w` to element `i`, `j`, `k` of register `r`: `f` is its effect where the gates let it through. -/
def State.gate (s : State) (w : Writer) (r : RegRow) (i j k : Nat) (f : State → State) : State :=
  let a := r.at i j k
  match blockAt a with
  | none => s
  | some b =>
    if !s.live ∨ s.power = 3 ∨ (w = .host ∧ !s.fnReady 2) then s
    else if !s.on b then s.unmapped
    else if w = .host ∧ b.needsInit ∧ !s.initDone then s.unmapped
    else if w = .host ∧ !hostMayWrite a then s.violation
    else if w = .host ∧ s.core.cp = .restarting ∧ r.isConfig then s.refuse S_BUSY a
    else f s

end Sys2Proof.Machine
end

