-- ==== Sys2Proof/Machine/PmOps.lean ====
section
/-!
DEFINITION. A wake source fires (R549, R558, R565).
-/
namespace Sys2Proof.Machine

open Sys2Proof

/-- The state against which a wake source is judged: the target of an entry in progress, else the state in force. -/
def State.wakeState (s : State) : Nat :=
  match s.pm.entry with
  | some e => e.1
  | none => s.power

/-- A wake source, bit `src` of PM_WAKE_CAUSE, fires; it acts in the states of the table of R558 alone. It is recorded and
raises WAKE; the first one starts the exit to S0, or leaves it to the end of an entry in progress (R565). -/
def State.wakeFire (s : State) (src : Nat) (states : List Nat) : State :=
  if s.core.alive ∧ !s.core.quiesced ∧ !s.core.removed ∧ !s.pm.tripHold ∧ s.wakeState ∈ states then
    let s := (s.setBit Reg.PM_WAKE_CAUSE src true).raise Reg.PM_EVENT 4
    if s.pm.entry.isSome then { s with pm := { s.pm with wakePending := true } }
    else if s.pm.waking.isSome then s
    else ({ s with pm := { s.pm with waking := some s.power } }).setBit Reg.PM_STATE 2 true
  else s

end Sys2Proof.Machine
end

