-- ==== Sys2Proof/Machine/Enc.lean ====
section
/-!
DEFINITION. Encoder and position feedback (spec/02_position_feedback.md): the commands of the encoder channels.
-/
namespace Sys2Proof.Machine

open Sys2Proof

/-! ### Shared operations of a channel -/

/-- MODE of channel `n`: 0 OFF, 1 DIGITAL, 2 ANALOGUE, 3 COMBINED (R32). -/
def State.encMode (s : State) (n : Nat) : Nat := s.f Reg.ENC_CFG 0 2 n

/-- The field supply is ABSENT, so the channels' receivers are unpowered (R649). -/
def State.fieldAbsent (s : State) : Bool := decide (s.f Reg.FIO_SUPPLY 16 2 = 0)

/-- The partner channel of R642. -/
def encPartner (n : Nat) : Nat := if n % 2 = 0 then n + 1 else n - 1

/-- A comet of channel `n` that has not been committed takes ENC_FAULTED (R64, R335). -/
def markFaulted (n : Nat) (c : Comet) : Comet :=
  if c.enc = n ∧ (c.st = .opened ∨ c.st = .closed) then { c with flags := c.flags ||| 64 } else c

/-- ENC_FAULT is raised on channel `n`: the status bit, the event, its counter, and the comets of the channel (R61, R64). -/
def State.encFault (s : State) (n : Nat) : State :=
  if s.bit Reg.ENC_STATUS 4 n then s
  else
    let s := { s with wt := { s.wt with comets := s.wt.comets.map (fun (p : Nat × Comet) => (p.1, markFaulted n p.2)) } }
    ((s.setBit Reg.ENC_STATUS 4 true n).raise Reg.ENC_EVENT 2 n).bump Reg.ENC_CNT n 6

/-- A window fault is counted; more than LIMIT in one window raise ENC_FAULT (R43). -/
def State.windowFault (s : State) (n : Nat) : State :=
  let c := s.enc n
  let s := s.setEnc n { c with winCnt := c.winCnt + 1 }
  s.when (decide (s.f Reg.ENC_FAULT_CFG 16 8 n < c.winCnt + 1)) (fun s => s.encFault n)

/-- The cross-check of R47 on channel `n` in COMBINED mode. -/
def State.crossCheck (s : State) (n : Nat) : State :=
  let c := s.enc n
  if 8192 < (posDiff c.pos c.edgeCount).natAbs then (s.setBit Reg.ENC_STATUS 11 true n).encFault n else s

/-- What a lane keeps after a load of its channel's position (R327): the high-water mark at the new position, or at the
grid point at or below it on a WINDOW lane; the interval under way is spoilt. -/
def State.laneLoaded (s : State) (n l : Nat) : State :=
  if s.f Reg.WT_LANE_CFG 8 2 l = n then
    let d := s.det l
    let p := (s.enc n).pos
    let window := decide (s.f Reg.WT_LANE_CFG 4 2 l = 1)
    let g := gridBelow (s.rd Reg.WT_GRID_PITCH l).toNat (s.rd Reg.WT_GRID_PHASE l).toNat p.toInt
    s.setDet l { d with high := some (if window then posWord g else p), tainted := d.tainted || d.lead.isSome,
                        lastPos := none }
  else s

/-- The trigger grid of port `p` is rebuilt around the position of its channel (R81). -/
def State.camGrid (s : State) (p : Nat) : State :=
  let pos := (s.enc (s.f Reg.CAM_PORT_CFG 10 2 p)).pos
  let g := gridBelow (s.rd Reg.CAM_TRIG_PITCH p).toNat (s.rd Reg.CAM_TRIG_PHASE p).toNat pos.toInt
  s.setCam p { s.cam p with high := posWord g }

/-- A load of channel `n`'s position rebuilds the grid of an enabled port that follows it (R81). -/
def State.camLoaded (s : State) (n p : Nat) : State :=
  if s.bit Reg.CAM_PORT_CFG 0 p ∧ s.f Reg.CAM_PORT_CFG 10 2 p = n then s.camGrid p else s

/-- The measured position of channel `n` is loaded with `p`, by a preset or an index event (R56, R59): the observer and the
standstill references shift by the same step, the edge count is loaded (R47), POSITION_UNKNOWN clears, KNOWN is raised
where it was set, the history's epoch moves on (R531), and the lanes of the channel follow R327. -/
def State.loadPos (s : State) (n : Nat) (p : DWord) : State :=
  let c := s.enc n
  let d := posDiff p c.pos
  let known := s.bit Reg.ENC_STATUS 0 n
  let c := { c with pos := p, pRef := posWord (c.pRef.toInt + d), pTurn := posWord (c.pTurn.toInt + d),
                    pHat := c.pHat + BitVec.ofInt 64 (d * 2 ^ 18), edgeCount := p, epoch := c.epoch + 1,
                    idxStart := none }
  let s := ((s.setEnc n c).snapRearm n).setBit Reg.ENC_STATUS 0 false n
  let s := s.when known (fun s => s.raise Reg.ENC_EVENT 8 n)
  (s.forAll (upTo 32) (fun l s => s.laneLoaded n l)).forAll (upTo 8) (fun p s => s.camLoaded n p)

/-! ### Configuration -/

/-- MODE or INVERT differ between two words of ENC_CFG. -/
def encModeChanges (old new : Word) : Bool := decide (fld old 0 3 ≠ fld new 0 3)

/-- An enabled camera port on channel `n` has a pitch below one digital edge (R78). -/
def State.finePitch (s : State) (n : Nat) : Bool :=
  (upTo 8).any (fun p => s.bit Reg.CAM_PORT_CFG 0 p && decide (s.f Reg.CAM_PORT_CFG 10 2 p = n) &&
    decide ((s.rd Reg.CAM_TRIG_PITCH p).toNat < 4096))

/-- The status with which a write of ENC_CFG is refused (R35, R78, R642). -/
def State.encCfgCheck (s : State) (n : Nat) (v : Word) : Option Nat :=
  let mode := fld v 0 2
  let partner := s.encMode (encPartner n)
  if encModeChanges (s.rd Reg.ENC_CFG n) v ∧ s.cometsOn n then some S_BUSY
  else if mode = 3 ∧ partner ≠ 0 then some S_INVALID_CONFIG
  else if mode ≠ 0 ∧ partner = 3 then some S_INVALID_CONFIG
  else if mode = 1 ∧ s.encMode n ≠ 1 ∧ s.finePitch n then some S_INVALID_CONFIG
  else none

/-- The effect of an accepted write of ENC_CFG (R34, R47, R61, R646): a change of MODE or INVERT sets POSITION_UNKNOWN and
keeps the position; faults of signals that the new mode does not use clear. -/
def State.encCfgApply (s : State) (n : Nat) (v : Word) : State :=
  let changed := encModeChanges (s.rd Reg.ENC_CFG n) v
  let mode := fld v 0 2
  let s := s.wr Reg.ENC_CFG (v &&& Reg.ENC_CFG.rw) n
  let s := s.when changed (fun s =>
    let c := s.enc n
    let s := s.setEnc n { c with phase := none, edgeCount := c.pos, idxStart := none, ampOut := 0, ampIn := 0,
                                 lastEdge := none, edgeGap := none, recent := [] }
    let s := s.setBit Reg.ENC_STATUS 0 true n
    let s := s.when (decide (mode ≠ 1 ∧ mode ≠ 3)) (fun s =>
      (s.setBit Reg.ENC_STATUS 5 false n).setBit Reg.ENC_STATUS 6 false n)
    let s := s.when (decide (mode ≠ 2 ∧ mode ≠ 3)) (fun s => s.setBit Reg.ENC_STATUS 8 false n)
    s.forAll (upTo 32) (fun l s =>
      if s.f Reg.WT_LANE_CFG 8 2 l = n ∧ (s.det l).lead.isSome then s.setDet l { s.det l with tainted := true } else s))
  let s := s.when (v.getLsbD 4) (fun s => s.setBit Reg.ENC_STATUS 7 false n)
  s.when (!v.getLsbD 5 && !s.fieldAbsent) (fun s => s.setBit Reg.ENC_STATUS 9 false n)

/-- A write of ENC_CFG, checked (R12). -/
def State.encCfgWrite (s : State) (n : Nat) (v : Word) : State :=
  match s.encCfgCheck n v with
  | some st => s.refuse st (Reg.ENC_CFG.at n 0 0)
  | none => s.encCfgApply n v

/-- ENC_CFG_WRITE (R34, R35, R642). -/
def execEncCfgWrite (w : Writer) (ch : Fin 4) (v : Word) (s : State) : Out :=
  .next (s.gate w Reg.ENC_CFG ch 0 0 (fun s => s.encCfgWrite ch v))

/-! ### Counting -/

/-- The step of the quadrature decoder for one changed level: forward when A leads B (R33). -/
def quadForward (changedA a b : Bool) : Bool := if changedA then a != b else a == b

/-- An RS-422 pair that the decoder needs is open, or the receivers are unpowered: nothing is decoded (R61, R649). -/
def State.encPairsDead (s : State) (n : Nat) : Bool :=
  s.bit Reg.ENC_STATUS 5 n || s.bit Reg.ENC_STATUS 6 n || s.fieldAbsent

/-- The accepted edge as a signed step, 0 for a simultaneous change (R33, R38, R42). -/
def State.encStep (s : State) (n : Nat) (a b : Bool) : Int :=
  let c := s.enc n
  let chA := a != c.lvlA
  let chB := b != c.lvlB
  if chA && chB then 0
  else if quadForward chA a b != s.bit Reg.ENC_CFG 2 n then 4096 else -4096

/-- The interval rule (R41). -/
def State.encInterval (s : State) (n : Nat) : State :=
  let mei := s.f Reg.ENC_FILT_CFG 8 8 n
  match (s.enc n).lastEdge with
  | some t => if mei ≠ 0 ∧ s.since t < mei * 5 then (s.bump Reg.ENC_CNT n 1).windowFault n else s
  | none => s

/-- An accepted change of the A and B levels (R40 to R42, R47). -/
def State.encAccept (s : State) (n : Nat) (a b : Bool) : State :=
  let c := s.enc n
  let mode := s.encMode n
  let step := s.encStep n a b
  let gap := match c.lastEdge with
    | some t => some (s.since t, if step = 0 then (c.edgeGap.map (fun g => g.2)).getD 0 else step)
    | none => none
  let c' := { c with lvlA := a, lvlB := b, lastEdge := some s.raw, edgeGap := gap,
                     pos := if mode = 1 then posWord (c.pos.toInt + step) else c.pos,
                     edgeCount := if mode = 3 then posWord (c.edgeCount.toInt + step) else c.edgeCount }
  let s := (s.encInterval n)
  let s := s.setEnc n { c' with winCnt := (s.enc n).winCnt }
  let s := if step ≠ 0 then s
    else if mode = 1 then (s.bump Reg.ENC_CNT n 0).windowFault n else s.bump Reg.ENC_CNT n 2
  (s.when (decide (mode = 3)) (fun s => s.crossCheck n)).snapRearm n

/-- ENC_EDGE_ACCEPT (R40): levels held for `held` filter clocks. -/
def execEncEdgeAccept (ch : Fin 4) (a b : Bool) (held : Nat) (s : State) : Out :=
  let n := ch.val
  let c := s.enc n
  let mode := s.encMode n
  .next (if s.on .ENC ∧ (mode = 1 ∨ mode = 3) ∧ !s.encPairsDead n ∧ max 1 (s.f Reg.ENC_FILT_CFG 0 6 n) ≤ held
      ∧ (a ≠ c.lvlA ∨ b ≠ c.lvlB) then s.encAccept n a b else s)

/-- FAULT_WINDOW_END (R43): the window ends when WINDOW microseconds have passed, and the next starts empty. -/
def execFaultWindowEnd (ch : Fin 4) (s : State) : Out :=
  let n := ch.val
  let c := s.enc n
  .next (if s.on .ENC ∧ max 1 (s.f Reg.ENC_FAULT_CFG 0 16 n) * 1000 ≤ s.since c.winStart then
    s.setEnc n { c with winStart := s.raw, winCnt := 0 } else s)

/-! ### Analogue interpolation -/

/-- Four times the sum of squares of sin and cos in microvolts lies within the limits of R45: 0.6 to 1.3 Vpp. -/
def ampWithin (sin cos : Int) : Bool :=
  let a := 4 * (sin * sin + cos * cos)
  decide (600000 ^ 2 ≤ a) && decide (a ≤ 1300000 ^ 2)

/-- The quadrant of the phase that rises when sin leads cos (R33). -/
def quadrant (sin cos : Int) : Nat :=
  if 0 ≤ sin ∧ cos < 0 then 0 else if 0 < sin ∧ 0 ≤ cos then 1 else if sin ≤ 0 ∧ 0 < cos then 2 else 3

/-- The 14-bit phase of a sample: its quadrant, and the place within it that the interpolator reads. -/
def phaseOf (sin cos : Int) : BitVec 14 :=
  BitVec.ofNat 14 (quadrant sin cos * 4096 + (Config.interpolate sin.natAbs cos.natAbs).toNat)

/-- The signed phase change of two samples, the shorter way round; half a period goes against the last illegal change, and
forward when there was none (R46). -/
def phaseStep (last : Option Bool) (old new : BitVec 14) : Int :=
  let d := (new - old).toInt
  if d = -8192 then (if last = some true then -8192 else 8192) else d

/-- The position follows the phase (R46); a change of more than a quarter period is an illegal transition. -/
def State.phaseMove (s : State) (n : Nat) (ph : BitVec 14) : State :=
  let c := s.enc n
  match c.phase with
  | none => s.setEnc n { c with phase := some ph }
  | some old =>
    let inv := s.bit Reg.ENC_CFG 2 n
    let d := if inv then phaseStep c.illegalFwd ph old else phaseStep c.illegalFwd old ph
    let illegal := decide (4096 < d.natAbs)
    let c := { c with phase := some ph, pos := posWord (c.pos.toInt + d),
                      illegalFwd := if illegal then some (decide (0 < d)) else c.illegalFwd }
    let s := (s.setEnc n c).snapRearm n
    s.when illegal (fun s => (s.bump Reg.ENC_CNT n 0).windowFault n)

/-- The samples of the last 16 microseconds, and the one before them, for R340. -/
def keepRecent (now : DWord) : List (DWord × DWord) → List (DWord × DWord)
  | [] => []
  | (t, p) :: l => if 16000 ≤ (now - t).toNat then [(t, p)] else (t, p) :: keepRecent now l

/-- ANALOGUE_SAMPLE (R45, R46): sin and cos in microvolts. -/
def execAnalogueSample (ch : Fin 4) (sin cos : Int) (s : State) : Out :=
  let n := ch.val
  let mode := s.encMode n
  .next (if s.on .ENC ∧ (mode = 2 ∨ mode = 3) ∧ !s.fieldAbsent then
    let c := s.enc n
    let ok := ampWithin sin cos
    let s := s.setEnc n { c with ampOut := if ok then 0 else c.ampOut + 1, ampIn := if ok then c.ampIn + 1 else 0 }
    let hold := s.bit Reg.ENC_STATUS 8 n || (decide (mode = 3) && (s.bit Reg.ENC_STATUS 5 n || s.bit Reg.ENC_STATUS 6 n))
    let s := if hold then s.setEnc n { s.enc n with phase := none } else s.phaseMove n (phaseOf sin cos)
    let c := s.enc n
    s.setEnc n { c with recent := (s.raw, c.pos) :: keepRecent s.raw c.recent }
  else s)

/-- AMPLITUDE_FAULT (R45): 16 samples in a row lay outside the limits. -/
def execAmplitudeFault (ch : Fin 4) (s : State) : Out :=
  let n := ch.val
  .next (if s.on .ENC ∧ 16 ≤ (s.enc n).ampOut ∧ !s.bit Reg.ENC_STATUS 8 n then
    (s.setBit Reg.ENC_STATUS 8 true n).encFault n else s)

/-- AMPLITUDE_RECOVER (R45): 16 samples in a row lay within the limits; the next sample is the reference phase. -/
def execAmplitudeRecover (ch : Fin 4) (s : State) : Out :=
  let n := ch.val
  .next (if s.on .ENC ∧ 16 ≤ (s.enc n).ampIn ∧ s.bit Reg.ENC_STATUS 8 n then
    (s.setBit Reg.ENC_STATUS 8 false n).setEnc n { s.enc n with phase := none } else s)

/-! ### Observer, standstill and reversal -/

/-- A fixed-point value divided by `2 ^ k`, to nearest with ties away from zero (R49). -/
def roundAway (x : Int) (k : Nat) : Int :=
  if 0 ≤ x then (x + 2 ^ (k - 1)) / 2 ^ k else -((-x + 2 ^ (k - 1)) / 2 ^ k)

/-- ENC_SPEED and ENC_ACCEL as the observer reports them; exactly zero in STANDSTILL (R49, R50). -/
def State.encReport (s : State) (n : Nat) : State :=
  let c := s.enc n
  let still := s.bit Reg.ENC_STATUS 1 n
  let v := if still then 0 else clampS 32 (roundAway c.vHat.toInt 24)
  let a := if still then 0 else clampS 32 (roundAway c.aHat.toInt 32)
  (s.wr Reg.ENC_SPEED (BitVec.ofInt 32 v) n).wr Reg.ENC_ACCEL (BitVec.ofInt 32 a) n

/-- One update of the observer (R48, R49). -/
def observe (bw : Nat) (c : EncCh) : EncCh :=
  let e := BitVec.ofInt 64 (c.pos.toInt * 2 ^ 18) - c.pHat
  let v := c.vHat + Config.obsDeltaV bw e
  { c with aHat := Config.obsAccel bw e, vHat := v, pHat := c.pHat + Config.obsDeltaP bw v e }

/-- The movement part of the standstill rule (R50, R51): a move of 1/64 lc ends STANDSTILL and starts SETTLING; an enabled
channel then wakes the module from S2 (R558). -/
def State.encMovement (s : State) (n : Nat) : State :=
  let c := s.enc n
  if 256 ≤ (posDiff c.pos c.pRef).natAbs then
    let still := s.bit Reg.ENC_STATUS 1 n
    let c' := { c with pRef := c.pos, stillSince := s.raw }
    if still then
      let c' := { c' with pHat := BitVec.ofInt 64 (c.pos.toInt * 2 ^ 18), vHat := 0, aHat := 0, settleFrom := s.raw }
      let s := (((s.setEnc n c').setBit Reg.ENC_STATUS 1 false n).setBit Reg.ENC_STATUS 2 true n).raise Reg.ENC_EVENT 4 n
      s.when (s.bit Reg.PM_WAKE_CFG (8 + n)) (fun s => s.wakeFire 4 [2])
    else s.setEnc n c'
  else s

/-- The lanes of channel `n` with a part under the detector see the reversal (R327). -/
def State.taintLanes (s : State) (n : Nat) : State :=
  s.forAll (upTo 32) (fun l s =>
    if s.f Reg.WT_LANE_CFG 8 2 l = n ∧ (s.det l).lead.isSome then s.setDet l { s.det l with tainted := true } else s)

/-- The reversal rule (R53, R54): DIR changes once the position has moved 1/64 lc back from the turning point. -/
def State.encReversal (s : State) (n : Nat) : State :=
  let c := s.enc n
  let rev := s.bit Reg.ENC_STATUS 3 n
  let d := posDiff c.pos c.pTurn
  let further := if rev then decide (d < 0) else decide (0 < d)
  let turned := if rev then decide (256 ≤ d) else decide (d ≤ -256)
  if turned then
    let s := (s.setEnc n { c with pTurn := c.pos, idxStart := none }).setBit Reg.ENC_STATUS 3 (!rev) n
    let s := (s.raise Reg.ENC_EVENT 0 n).bump Reg.ENC_CNT n 3
    s.taintLanes n
  else if further then s.setEnc n { c with pTurn := c.pos } else s

/-- OBSERVER_UPDATE (R48 to R54): one update every microsecond. -/
def execObserverUpdate (ch : Fin 4) (s : State) : Out :=
  let n := ch.val
  .next (if s.on .ENC ∧ s.encMode n ≠ 0 then
    let s := s.setEnc n (observe (clampN 10 10000 (s.f Reg.ENC_OBS_CFG 0 14 n)) (s.enc n))
    ((s.encMovement n).encReversal n).encReport n
  else s)

/-- STANDSTILL_IN (R50, R52): the position has stayed within 1/64 lc of its reference for T_ss. -/
def execStandstillIn (ch : Fin 4) (s : State) : Out :=
  let n := ch.val
  let c := s.enc n
  .next (if s.on .ENC ∧ s.encMode n ≠ 0 ∧ !s.bit Reg.ENC_STATUS 1 n ∧ (posDiff c.pos c.pRef).natAbs < 256
      ∧ clampN 1 1000 (s.f Reg.ENC_OBS_CFG 20 10 n) * 1000000 ≤ s.since c.stillSince then
    (((s.setBit Reg.ENC_STATUS 1 true n).setBit Reg.ENC_STATUS 2 false n).raise Reg.ENC_EVENT 3 n).encReport n
  else s)

/-- The number pi times 10^30, cut to an integer. -/
def piE30 : Nat := 3141592653589793238462643383279

/-- SETTLE time constants in ns, rounded up: SETTLE / (2 pi BW) seconds (R48, R51). -/
def settleNs (settle bw : Nat) : Nat := ceilDiv (settle * 10 ^ 39) (2 * piE30 * bw)

/-- SETTLED (R51, R52): SETTLING ends when its time constants have run out. -/
def execSettled (ch : Fin 4) (s : State) : Out :=
  let n := ch.val
  let t := settleNs (max 1 (s.f Reg.ENC_OBS_CFG 16 4 n)) (clampN 10 10000 (s.f Reg.ENC_OBS_CFG 0 14 n))
  .next (if s.on .ENC ∧ s.bit Reg.ENC_STATUS 2 n ∧ t ≤ s.since (s.enc n).settleFrom then
    (s.setBit Reg.ENC_STATUS 2 false n).raise Reg.ENC_EVENT 5 n else s)

/-! ### Index, preset, fault clear -/

/-- The qualification of R651 at the edge on Z. -/
def State.indexQualified (s : State) (n : Nat) (sinHigh cosHigh : Bool) : Bool :=
  let c := s.enc n
  !s.bit Reg.ENC_CFG 3 n || (if s.encMode n = 2 then sinHigh && cosHigh else c.lvlA && c.lvlB)

/-- The line-count check of R57 for a check pair from `p1` to the position now. -/
def State.lineCheck (s : State) (n : Nat) (p1 : DWord) : State :=
  let nom := (s.rd Reg.ENC_INDEX_NOM n).toNat
  let err : Int := (posDiff (s.enc n).pos p1).natAbs - 16384 * (nom : Int)
  let s := s.wr Reg.ENC_INDEX_ERR (BitVec.ofInt 32 (clampS 32 err)) n
  if s.f Reg.ENC_INDEX_TOL 0 24 n < err.natAbs then
    ((s.setBit Reg.ENC_STATUS 10 true n).bump Reg.ENC_CNT n 5).encFault n
  else s.bump Reg.ENC_CNT n 4

/-- An index event: the capture, then the load (R56) or the line-count check (R57). -/
def State.indexEvent (s : State) (n : Nat) : State :=
  let c := s.enc n
  let s := (s.setEnc n { c with capPos := c.pos, capTime := s.now }).raise Reg.ENC_EVENT 1 n
  if s.bit Reg.ENC_STATUS 0 n then s.loadPos n (posWord (s.rd64 Reg.ENC_INDEX_POS_LO Reg.ENC_INDEX_POS_HI n).toInt)
  else
    let s := match c.idxStart with
      | some p1 => if s.rd Reg.ENC_INDEX_NOM n = 0 then s else s.lineCheck n p1
      | none => s
    s.setEnc n { s.enc n with idxStart := some c.pos }

/-- INDEX_EVENT (R56, R57, R645, R651): a rising edge on Z, held for `held` filter clocks when ZTYPE is 0. -/
def execIndexEvent (ch : Fin 4) (held : Nat) (sinHigh cosHigh : Bool) (s : State) : Out :=
  let n := ch.val
  let stable := s.bit Reg.ENC_CFG 4 n || decide (max 1 (s.f Reg.ENC_FILT_CFG 0 6 n) ≤ held)
  .next (if s.on .ENC ∧ s.encMode n ≠ 0 ∧ !s.bit Reg.ENC_STATUS 7 n ∧ !s.fieldAbsent ∧ stable
      ∧ s.indexQualified n sinHigh cosHigh then s.indexEvent n else s)

/-- A preset (R58, R59). -/
def State.encPreset (s : State) (n : Nat) : State :=
  if s.bit Reg.ENC_STATUS 0 n ∨ !s.cometsOn n then
    (s.loadPos n (posWord (s.rd64 Reg.ENC_PRESET_LO Reg.ENC_PRESET_HI n).toInt)).raise Reg.ENC_EVENT 6 n
  else s.raise Reg.ENC_EVENT 7 n

/-- PRESET (R58, R59): a write of ENC_CMD.PRESET. -/
def execPreset (w : Writer) (ch : Fin 4) (s : State) : Out :=
  .next (s.gate w Reg.ENC_CMD ch 0 0 (fun s => s.encPreset ch))

/-- FAULT_CLEAR takes effect (R63). -/
def State.encClearable (s : State) (n : Nat) : Bool :=
  !s.bit Reg.ENC_STATUS 5 n && !s.bit Reg.ENC_STATUS 6 n && !s.bit Reg.ENC_STATUS 8 n && !s.bit Reg.ENC_STATUS 9 n &&
    (!s.bit Reg.ENC_STATUS 7 n || decide (s.rd Reg.ENC_INDEX_NOM n = 0))

/-- The fault of a channel is cleared (R47, R63). -/
def State.encFaultClear (s : State) (n : Nat) : State :=
  if s.encClearable n then
    let c := s.enc n
    let s := s.setEnc n { c with winStart := s.raw, winCnt := 0, edgeCount := c.pos }
    ((s.setBit Reg.ENC_STATUS 4 false n).setBit Reg.ENC_STATUS 10 false n).setBit Reg.ENC_STATUS 11 false n
  else s

/-- FAULT_CLEAR (R63): a write of ENC_CMD.FAULT_CLEAR. -/
def execFaultClear (w : Writer) (ch : Fin 4) (s : State) : Out :=
  .next (s.gate w Reg.ENC_CMD ch 0 0 (fun s => s.encFaultClear ch))

/-! ### Wiring and supply -/

/-- The status bit of an input pair. -/
def encPairBit : EncPair → Nat
  | .a => 5
  | .b => 6
  | .z => 7

/-- Open-pair detection applies to the pair (R646). -/
def State.pairWatched (s : State) (n : Nat) : EncPair → Bool
  | .z => !s.bit Reg.ENC_CFG 4 n && decide (s.encMode n ≠ 0)
  | _ => decide (s.encMode n = 1) || decide (s.encMode n = 3)

/-- OPEN_PAIR_FAULT (R61, R646): the differential voltage stayed below 200 mV for `heldNs`. -/
def execOpenPairFault (ch : Fin 4) (pair : EncPair) (heldNs : Nat) (s : State) : Out :=
  let n := ch.val
  .next (if s.on .ENC ∧ s.pairWatched n pair ∧ 1000 ≤ heldNs then
    let s := s.setBit Reg.ENC_STATUS (encPairBit pair) true n
    s.when (decide (pair ≠ .z) || decide (s.rd Reg.ENC_INDEX_NOM n ≠ 0)) (fun s => s.encFault n)
  else s)

/-- OPEN_PAIR_RECOVER (R650): the decoder takes the levels it then accepts, and counts nothing. -/
def execOpenPairRecover (ch : Fin 4) (pair : EncPair) (a b : Bool) (s : State) : Out :=
  let n := ch.val
  .next (if s.on .ENC ∧ s.bit Reg.ENC_STATUS (encPairBit pair) n ∧ !s.fieldAbsent then
    (s.setBit Reg.ENC_STATUS (encPairBit pair) false n).setEnc n { s.enc n with lvlA := a, lvlB := b }
  else s)

/-- ENC_SUPPLY_FAULT (R61, R649): with PWR_EN set the output stayed below 4.5 V for 100 microseconds. -/
def execEncSupplyFault (ch : Fin 4) (millivolts heldNs : Nat) (s : State) : Out :=
  let n := ch.val
  .next (if s.on .ENC ∧ s.bit Reg.ENC_CFG 5 n ∧ millivolts < 4500 ∧ 100000 ≤ heldNs then
    let c := s.enc n
    ((s.setEnc n { c with supplyAt := s.raw, supplyTries := 0 }).setBit Reg.ENC_STATUS 9 true n).encFault n
  else s)

/-- ENC_SUPPLY_RETRY (R62): the output tries again every 100 ms after a supply fault. -/
def execEncSupplyRetry (ch : Fin 4) (s : State) : Out :=
  let n := ch.val
  let c := s.enc n
  .next (if s.on .ENC ∧ s.bit Reg.ENC_CFG 5 n ∧ s.bit Reg.ENC_STATUS 9 n ∧ 100000000 ≤ s.since c.supplyAt then
    s.setEnc n { c with supplyAt := s.raw, supplyTries := c.supplyTries + 1 } else s)

/-- ENC_SUPPLY_RECOVER (R649): the field supply is present and the output has held 4.5 V for 100 microseconds. -/
def execEncSupplyRecover (ch : Fin 4) (millivolts heldNs : Nat) (s : State) : Out :=
  let n := ch.val
  .next (if s.on .ENC ∧ s.bit Reg.ENC_STATUS 9 n ∧ !s.fieldAbsent
      ∧ (!s.bit Reg.ENC_CFG 5 n ∨ (4500 ≤ millivolts ∧ 100000 ≤ heldNs)) then
    s.setBit Reg.ENC_STATUS 9 false n else s)

/-- The field supply becomes ABSENT: every channel sets SUPPLY and raises ENC_FAULT (R61, R649). -/
def State.encFieldLost (s : State) : State :=
  s.forAll (upTo 4) (fun n s => ((s.setBit Reg.ENC_STATUS 9 true n).setEnc n { s.enc n with phase := none }).encFault n)

/-- The field supply leaves ABSENT: SUPPLY clears on a channel whose output is not enabled (R649). -/
def State.encFieldBack (s : State) : State :=
  s.forAll (upTo 4) (fun n s => s.when (!s.bit Reg.ENC_CFG 5 n) (fun s => s.setBit Reg.ENC_STATUS 9 false n))

end Sys2Proof.Machine
end

