-- ==== Sys2Proof/Machine/FioOps.lean ====
section
/-!
DEFINITION. The field outputs as their owners drive them (R358 to R361, R371 to R377, R557).
-/
namespace Sys2Proof.Machine

open Sys2Proof

/-- GANG mode of the quad of output `n` (R360). -/
def State.gangMode (s : State) (n : Nat) : Nat := s.f Reg.FIO_GANG (2 * (n / 4)) 2

/-- The leader of the gang of output `n`: its lowest output. -/
def State.leader (s : State) (n : Nat) : Nat :=
  if s.gangMode n = 1 then n / 2 * 2 else if s.gangMode n = 2 then n / 4 * 4 else n

/-- The outputs of the gang of output `n`. -/
def State.gang (s : State) (n : Nat) : List Nat := (upTo 32).filter (fun m => decide (s.leader m = s.leader n))

/-- OWNER of output `n`, as its leader has it: 0 HOST, 1 WATCHTOWER, 2 CAMERA (R359, R360). -/
def State.doOwner (s : State) (n : Nat) : Nat := s.f Reg.FIO_DO_CFG 0 2 (s.leader n)

/-- The field supply is GOOD. -/
def State.supplyGood (s : State) : Bool := decide (s.f Reg.FIO_SUPPLY 16 2 = 2)

/-- The field supply is ABSENT. -/
def State.fieldGone (s : State) : Bool := decide (s.f Reg.FIO_SUPPLY 16 2 = 0)

/-- Ejector group `g` drives local output `n` (R344). -/
def State.groupHas (s : State) (g n : Nat) : Bool := !s.bit Reg.WT_GRP_CFG 0 g && s.bit Reg.WT_GRP_DO n g

/-- The watchtower holds output `n`: some comet's ejection names it (R344). -/
def State.wtHolds (s : State) (n : Nat) : Bool :=
  s.wt.comets.any (fun p => decide (p.2.phase = .holding) && s.groupHas p.2.group n)

/-- The owner of output `n` commands it on (R359, R376, R557). -/
def State.doCommanded (s : State) (n : Nat) : Bool :=
  let l := s.leader n
  let o := s.doOwner n
  if s.fio.safe then
    decide (o = 0) && s.bit Reg.FIO_DO_CFG 3 l && s.bit Reg.FIO_DO_SET l
  else if o = 0 then s.bit Reg.FIO_DO_SET l && !s.pm.hostBlocked
  else if o = 1 then s.wtHolds l
  else if o = 2 then (s.dout l).pulse.isSome
  else false

/-- The switch of output `n` is driven on: commanded, no fault, supply GOOD and not forced off. -/
def State.doDriven (s : State) (n : Nat) : Bool :=
  s.doCommanded n && !(s.dout (s.leader n)).faulted && s.supplyGood && !s.fio.forcedOff

/-- Output `n` follows its owner. -/
def State.syncOut (s : State) (n : Nat) : State :=
  (s.setBit Reg.FIO_DO_STATUS 0 (s.doCommanded n) n).setDout n { s.dout n with on := s.doDriven n }

/-- Every output follows its owner. -/
def State.syncOuts (s : State) : State := s.forAll (upTo 32) (fun n s => s.syncOut n)

/-- Every output is forced off: reset, S3, emergency quiesce (R375). -/
def State.outputsOff (s : State) : State :=
  ({ s with fio := { s.fio with forcedOff := true } }).syncOuts

/-- Output `n` is energised or held by the watchtower, so its configuration may not change (R361). -/
def State.doInUse (s : State) (n : Nat) : Bool := s.bit Reg.FIO_DO_STATE n || s.wtHolds n

end Sys2Proof.Machine
end

