-- ==== Sys2Proof/Machine/FabOps.lean ====
section
/-!
DEFINITION. The Kalinamo fabric (spec/17_serial_lanes_and_fabric.md, R499 to R511): the state of a link, the flits that a
node sends, retry, routes, messages and the spare-lane swap.
-/
namespace Sys2Proof.Machine

open Sys2Proof

/-- A node number as a small word. -/
def nat4 (n : Nat) : BitVec 4 := BitVec.ofNat 4 n

/-! ### The state of a link (FAB_LINK_STATUS) -/

/-- This module's node number. -/
def State.nodeId (s : State) : Nat := s.f Reg.FAB_NODE 0 4
/-- STATE of a link: 0 DOWN, 1 TRAINING, 2 UP, 3 DEGRADED, 4 RESETTING. -/
def State.linkState (s : State) (j : Nat) : Nat := s.f Reg.FAB_LINK_STATUS 0 3 j
/-- `s` with the state of a link set. -/
def State.setLinkState (s : State) (j n : Nat) : State := s.setF Reg.FAB_LINK_STATUS 0 3 n j
/-- The link carries flits. -/
def State.linkUp (s : State) (j : Nat) : Bool :=
  s.on .FAB && s.bit Reg.FAB_NODE 4 && (decide (s.linkState j = 2) || decide (s.linkState j = 3))
/-- The spare lane within a link. -/
def State.spareLane (s : State) (j : Nat) : Nat := s.f Reg.FAB_LINK_CFG 8 2 j
/-- A lane of the failed-lane map. -/
def State.laneFailed (s : State) (j k : Nat) : Bool := s.bit Reg.FAB_LINK_STATUS (16 + k) j

/-- Lanes within a link that carry flits: the data lanes that have not failed, and the spare once it is in use (R509). -/
def State.dataLanes (s : State) (j : Nat) : List Nat :=
  (upTo 4).filter (fun k => !s.laneFailed j k && (decide (k ≠ s.spareLane j) || (s.link j).spareUsed))

/-- DATA_LANES follows; it reads zero while the link is down. -/
def State.syncLink (s : State) (j : Nat) : State :=
  let up := decide (s.linkState j = 2) || decide (s.linkState j = 3)
  s.setF Reg.FAB_LINK_STATUS 20 4 (if up then ((s.dataLanes j).map (fun k => 2 ^ k)).sum else 0) j

/-! ### Sending (R501, R503) -/

/-- One flit goes out on a link: it is counted, carries the acknowledgement, and meets an injected CRC error (R511). -/
def State.flitOut (s : State) (j : Nat) (sequenced : Bool) : State :=
  let x := s.link j
  (s.setLink j { x with ackAt := s.raw, rxCount := 0, inject := if sequenced then x.inject - 1 else x.inject }).bump
    Reg.FAB_LINK_CNT j 0

/-- A flit that takes no sequence number: an acknowledgement, a NAK, a LINK_CONTROL (R501). -/
def State.controlOut (s : State) (j : Nat) : State := s.flitOut j false

/-- Credits held for a virtual channel. -/
def LinkSt.credit (x : LinkSt) (vc : Nat) : Nat := AMap.get x.credits 0 vc

/-- The first waiting flit whose virtual channel has a credit, with the flits left. -/
def takeFlit (credit : Nat → Nat) : List Nat → List Flit → Option (Flit × List Flit)
  | _, [] => none
  | blocked, f :: t =>
    if 0 < credit f.vc.toNat ∧ !blocked.contains f.vc.toNat then some (f, t)
    else (takeFlit credit (f.vc.toNat :: blocked) t).map (fun r => (r.1, f :: r.2))

/-- Waiting flits go out as far as the link, the replay buffer of 512 flits and the credits allow (R501, R503). -/
def State.pumpLink (s : State) (j : Nat) : Nat → State
  | 0 => s
  | fuel + 1 =>
    let x := s.link j
    if !s.linkUp j ∨ x.resync ∨ 512 ≤ x.replay.length then s
    else
      match takeFlit x.credit [] x.out with
      | some (f, rest) =>
        let g := { f with seq := x.txSeq }
        let x := { x with out := rest, replay := x.replay ++ [g], txSeq := x.txSeq + 1,
                          credits := AMap.store x.credits 0 f.vc.toNat (x.credit f.vc.toNat - 1),
                          progressAt := if x.replay = [] then s.raw else x.progressAt }
        ((s.setLink j x).flitOut j true).pumpLink j fuel
      | none => s

/-- What waits on a link goes out. -/
def State.pump (s : State) (j : Nat) : State := s.pumpLink j (s.link j).out.length

/-- A flit joins the flits that wait for a link. -/
def State.queueFlits (s : State) (j : Nat) (l : List Flit) : State :=
  (s.setLink j { s.link j with out := (s.link j).out ++ l }).pump j

/-! ### Routes and messages (R500, R505, R506) -/

/-- The outgoing link for a node. -/
def State.route (s : State) (dest : Nat) : Option Nat :=
  if s.bit Reg.FAB_ROUTE 2 dest then some (s.f Reg.FAB_ROUTE 0 2 dest) else none

/-- The virtual channel that a message takes on leaving by link `j` (R506): `arrived` is the link that it came on, none at
its source. -/
def State.vcOn (s : State) (arrived : Option Nat) (j vc : Nat) : Nat :=
  if 2 ≤ vc then vc
  else if s.bit Reg.FAB_LINK_CFG 11 j then 1
  else
    match arrived with
    | none => 0
    | some a => if s.bit Reg.FAB_LINK_CFG 10 j = s.bit Reg.FAB_LINK_CFG 10 a then vc else 0

/-- The payload of a message cut into flits: ONLY, or FIRST, MIDDLE and LAST. -/
def messageFlits (vc dest src : Nat) : Nat → Bool → List Byte → List Flit
  | 0, _, _ => []
  | fuel + 1, first, l =>
    let last := decide (l.length ≤ 244)
    let typ : Nat := if first then (if last then 4 else 1) else if last then 3 else 2
    let f : Flit := { typ := nat4 typ, seq := 0, nak := false, ack := 0, vc := BitVec.ofNat 2 vc, dest := nat4 dest,
                      src := nat4 src, cvc := 0, credits := 0, payload := l.take 244 }
    if last then [f] else f :: messageFlits vc dest src fuel false (l.drop 244)

/-- KIND of a message (R500). For split-job control: 0 validated, 1 refused, 2 start, 3 abort. -/
def messageKind (l : List Byte) : Nat := natLE ((l.drop 6).take 1)
/-- DIGEST, module count, spire count and JOB_ID of a split-job control message (R281). -/
def splitBody (l : List Byte) : List Byte := (l.drop 16).take 74
/-- JOB_ID of a split-job control message. -/
def splitJobId (l : List Byte) : Nat := natLE ((l.drop 82).take 8)

/-- What the ranks of a split job confirm to one another (R281): DIGEST, MODULES, SPIRES, JOB_ID. -/
def splitConfirm (digest : List Byte) (modules spires jobId : Nat) : List Byte :=
  fitBytes 64 digest ++ bytesLE 1 modules ++ bytesLE 1 spires ++ bytesLE 8 jobId

/-- A whole message has arrived at this node: confirmations of split jobs are kept by job and node, the rest waits to land
(R281, R503). -/
def State.arrive (s : State) (vc src : Nat) (l : List Byte) : State :=
  if vc = 2 ∧ messageKind l < 2 then
    { s with fab := { s.fab with confirms := AMap.put s.fab.confirms (16 * splitJobId l + src) l } }
  else if vc = 3 then s
  else { s with fab := { s.fab with inbox := s.fab.inbox ++ [(vc, src, l)] } }

/-- A message leaves this node for node `dest` (R504 to R506). -/
def State.fabSend (s : State) (vc dest : Nat) (l : List Byte) : State :=
  if !(s.on .FAB && s.bit Reg.FAB_NODE 4) then s
  else if dest = s.nodeId then s.arrive vc s.nodeId l
  else
    match s.route dest with
    | some j => s.queueFlits j (messageFlits (s.vcOn none j vc) dest s.nodeId (l.length / 244 + 1) true l)
    | none => s.raise Reg.FAB_EVENT 6

/-- The message header of R500. -/
def messageHeader (handle tag stream kind offset bytes : Nat) : List Byte :=
  bytesLE 2 handle ++ bytesLE 2 tag ++ bytesLE 2 stream ++ bytesLE 1 kind ++ bytesLE 1 0 ++ bytesLE 4 offset
  ++ bytesLE 4 bytes

/-! ### Records of a link (R572 causes 7 and 8) -/

/-- The record of a link that went down: replays before the reset. -/
def linkRecord (j cls action replays : Nat) : FaultRec :=
  { block := 15, cause := 8, unit := j, cls := cls, action := action, detail := bytesLE 1 j ++ bytesLE 1 replays }

/-- The record of a lane of a link that failed; criterion 1 lock, 2 uncorrectable codewords, 3 corrected symbols (R508). -/
def laneRecord (j k crit : Nat) : FaultRec :=
  { block := 15, cause := 7, unit := j, cls := 3, action := 5, detail := bytesLE 1 j ++ bytesLE 1 k ++ bytesLE 1 crit }

/-! ### Link reset and retry (R491, R501, R502) -/

/-- A link reset of a Kalinamo link: its lanes go through DEEP and train again, and the failed-lane map is cleared; replay
buffer and sequence numbers stay. -/
def State.fabLinkReset (s : State) (j : Nat) : State :=
  let x := s.link j
  let s := s.setLink j { x with swap := none, spareUsed := false, replays := 0, nakSent := false, retrain := some s.raw,
                                resync := false }
  let s := s.forAll (upTo 4) (fun k s =>
    let l := 16 + 4 * j + k
    let w := setFld (setFld (setFld (s.rd Reg.LN_LANE_STATUS l) 0 2 0) 3 1 0) 6 2 2
    (s.wr Reg.LN_LANE_STATUS w l).setLane l { s.lane l with training := some s.raw })
  let s := ((s.setF Reg.FAB_LINK_STATUS 16 4 0 j).setLinkState j 4).syncLink j
  s.bump Reg.FAB_LINK_CNT j 4

/-- Every flit of the replay buffer goes out again, in order (R501); the ninth time without progress the link is reset. -/
def State.replayLink (s : State) (j : Nat) : State :=
  let x := s.link j
  if x.replay = [] then s
  else if 8 ≤ x.replays then
    let seq := s.fault.seq
    let s := s.faultNew (linkRecord j 0 1 x.replays)
    (s.setLink j { s.link j with downSeq := some seq }).fabLinkReset j
  else
    let s := s.setLink j { x with replays := x.replays + 1, progressAt := s.raw, ackAt := s.raw, rxCount := 0,
                                  inject := x.inject - x.replay.length }
    ((s.bumpBy x.replay.length Reg.FAB_LINK_CNT j 0).bump Reg.FAB_LINK_CNT j 3).raise Reg.FAB_EVENT 1

/-- Flits up to an acknowledged number leave the replay buffer (R501). -/
def ackFlits (ack : BitVec 12) (l : List Flit) : List Flit :=
  if l.any (fun f => decide (f.seq = ack)) then (l.dropWhile (fun f => decide (f.seq ≠ ack))).drop 1 else l

/-- The acknowledgement and the credits that a flit carries. -/
def State.flitAck (s : State) (j : Nat) (f : Flit) : State :=
  let x := s.link j
  let left := ackFlits f.ack x.replay
  let moved := decide (left.length < x.replay.length)
  let vc := f.cvc.toNat
  s.setLink j { x with replay := left, progressAt := if moved then s.raw else x.progressAt,
                       replays := if moved then 0 else x.replays,
                       credits := AMap.store x.credits 0 vc (x.credit vc + f.credits.toNat) }

/-- One NAK for the flits after an error (R501). -/
def State.sendNak (s : State) (j : Nat) : State :=
  let x := s.link j
  if x.nakSent then s else (s.setLink j { x with nakSent := true }).controlOut j

/-- A part of a message for this node (R500). -/
def State.takePart (s : State) (f : Flit) : State :=
  let key := 16 * f.vc.toNat + f.src.toNat
  let old := AMap.get s.fab.partials [] key
  let t := f.typ.toNat
  let l := if t = 1 ∨ t = 4 then f.payload else old ++ f.payload
  if t = 3 ∨ t = 4 then
    let s := { s with fab := { s.fab with partials := AMap.store s.fab.partials [] key [] } }
    s.arrive f.vc.toNat f.src.toNat l
  else { s with fab := { s.fab with partials := AMap.store s.fab.partials [] key l } }

/-- A flit for another node is forwarded on its route, or discarded without one (R505, R506). -/
def State.forward (s : State) (j : Nat) (f : Flit) : State :=
  match s.route f.dest.toNat with
  | some k =>
    (s.bump Reg.FAB_LINK_CNT j 6).queueFlits k [{ f with vc := BitVec.ofNat 2 (s.vcOn (some j) k f.vc.toNat) }]
  | none => (s.bump Reg.FAB_LINK_CNT j 7).raise Reg.FAB_EVENT 6

/-- A sequenced flit accepted (R501, R505): at least every 32 flits an acknowledgement goes out. -/
def State.acceptFlit (s : State) (j : Nat) (f : Flit) : State :=
  let x := s.link j
  let s := s.setLink j { x with rxSeq := x.rxSeq + 1, nakSent := false, rxCount := x.rxCount + 1 }
  let s := if f.dest.toNat = s.nodeId then s.takePart f else s.forward j f
  if 32 ≤ (s.link j).rxCount then s.controlOut j else s

/-- A LINK_CONTROL flit after training (R501, R503): the peer's free space per VC, four 16-bit counts, and the replay from
its acknowledgement. -/
def State.linkControl (s : State) (j : Nat) (f : Flit) : State :=
  let x := s.link j
  let s := if 8 ≤ f.payload.length then
      s.setLink j { x with credits := (upTo 4).foldl (fun m v =>
        AMap.store m 0 v (natLE ((f.payload.drop (2 * v)).take 2))) [] }
    else s
  if (s.link j).resync then
    let s := s.setLink j { s.link j with resync := false }
    let n := (s.link j).replay.length
    let s := if n = 0 then s
      else ((s.setLink j { s.link j with progressAt := s.raw, inject := (s.link j).inject - n }).bumpBy n
        Reg.FAB_LINK_CNT j 0)
    s.pump j
  else s

/-- A received flit (R501). -/
def State.flitIn (s : State) (j : Nat) (f : Flit) (crcOk : Bool) : State :=
  let s := s.bump Reg.FAB_LINK_CNT j 1
  if !crcOk then (s.bump Reg.FAB_LINK_CNT j 2).sendNak j
  else
    let s := s.flitAck j f
    let t := f.typ.toNat
    let s := if t = 15 then s.linkControl j f
      else if 1 ≤ t ∧ t ≤ 4 then
        if f.seq = (s.link j).rxSeq then s.acceptFlit j f else s.sendNak j
      else s
    let s := if f.nak then s.replayLink j else s
    s.pump j

/-! ### Swap and loss of lanes (R508 to R510) -/

/-- The link runs on the lanes that are left (R510). -/
def State.lanesLeft (s : State) (j : Nat) : State :=
  let n := (s.dataLanes j).length
  if n < 2 then
    let s := ((s.setLinkState j 0).syncLink j).raise Reg.FAB_EVENT 2
    s.setLink j { s.link j with retrain := none }
  else if n = 2 then
    ((if s.linkState j = 3 then s else s.raise Reg.FAB_EVENT 4).setLinkState j 3).syncLink j
  else s.syncLink j

/-- Both ends stripe onto the spare in place of lane `k` (R509). -/
def State.swapDone (s : State) (j k crit : Nat) : State :=
  let s := s.setBit Reg.FAB_LINK_STATUS (16 + k) true j
  let s := s.setLink j { s.link j with swap := none, spareUsed := true }
  let s := ((s.bump Reg.FAB_LINK_CNT j 5).raise Reg.FAB_EVENT 3).syncLink j
  s.faultNew (laneRecord j k crit)

/-- The spare can take over a lane. -/
def State.spareFree (s : State) (j : Nat) : Bool := !(s.link j).spareUsed && !s.laneFailed j (s.spareLane j)

/-- Lane `k` of link `j` fails (R508 to R510): a swap is requested, or the link loses the lane. -/
def State.failLane (s : State) (j k crit : Nat) : State :=
  if !s.linkUp j ∨ s.laneFailed j k then s
  else
    let carries := (s.dataLanes j).contains k
    if carries ∧ s.spareFree j ∧ (s.link j).swap = none then
      (s.setLink j { s.link j with swap := some (4 * crit + k) }).controlOut j
    else if carries ∧ (s.link j).swap.isSome ∧ s.spareFree j then s
    else
      let s := s.setBit Reg.FAB_LINK_STATUS (16 + k) true j
      if carries then (s.faultNew { laneRecord j k crit with action := 0 }).lanesLeft j else s

/-! ### Training of a link (R503, R504) -/

/-- Every lane of a link that has to train has done so. -/
def State.allTrained (s : State) (j : Nat) : Bool := (upTo 4).all (fun k => s.bit Reg.LN_LANE_STATUS 3 (16 + 4 * j + k))

/-- A lane of link `j` has trained, and the peer reports its node (R504): the link comes up with the last lane, or is held
down. -/
def State.linkTrained (s : State) (j peer : Nat) : State :=
  let s := s.setF Reg.FAB_LINK_STATUS 28 4 peer j
  if peer ≠ s.f Reg.FAB_LINK_CFG 12 4 j then ((s.setLinkState j 0).syncLink j).raise Reg.FAB_EVENT 5
  else if s.allTrained j ∧ !s.linkUp j then
    let x := s.link j
    let s := match x.downSeq with
      | some q => (s.faultWrite (linkRecord j (s.retryClass j 8) 1 8) q).noteTransient j 8
      | none => s
    let s := s.setLink j { x with retrain := none, downSeq := none, resync := true, nakSent := false }
    let s := ((s.setLinkState j 2).syncLink j).raise Reg.FAB_EVENT 0
    s.controlOut j
  else s

/-- The link has not retrained within 100 ms (R502). -/
def State.retrainLate (s : State) (j : Nat) : State :=
  let x := s.link j
  match x.retrain with
  | some t =>
    if 100000000 ≤ s.since t then
      let s := match x.downSeq with
        | some q => s.faultWrite (linkRecord j 2 0 8) q
        | none => s.faultNew (linkRecord j 2 0 0)
      ((s.setLink j { x with retrain := none, downSeq := none }).setLinkState j 0).raise Reg.FAB_EVENT 2
    else s
  | none => s

end Sys2Proof.Machine
end

