-- ==== Sys2Proof/Machine/LaneOps.lean ====
section
/-!
DEFINITION. Serial lanes (spec/17_serial_lanes_and_fabric.md, R481 to R491): which lanes an owner claims, the state of a
lane, and what a claim changes.
-/
namespace Sys2Proof.Machine

open Sys2Proof

/-! ### Lanes of an owner (R67, R482, R495) -/

/-- The first `n` lanes of camera port `p`, in lane order (R67). -/
def portLanes (p n : Nat) : List Nat :=
  (upTo n).map (fun i => if p % 2 = 0 then 4 * (p / 2) + i else 4 * (p / 2) + 3 - i)

/-- Lanes of a MAC mode (R495). -/
def macLaneCount (mode : Nat) : Nat := if mode = 3 then 4 else if mode = 4 then 2 else 1
/-- RATE of the lanes of a MAC mode (R481, R495). -/
def macRate (mode : Nat) : Nat := if mode = 0 then 0 else if mode = 1 ∨ mode = 3 then 1 else if mode = 5 then 3 else 2

/-- Camera port `n` is enabled. -/
def State.camEnabled (s : State) (n : Nat) : Bool := s.on .CAM && s.bit Reg.CAM_PORT_CFG 0 n
/-- Camera port `n` runs GigE Vision. -/
def State.camGev (s : State) (n : Nat) : Bool := s.bit Reg.CAM_PORT_CFG 1 n
/-- MAC of camera port `n`. -/
def State.camMac (s : State) (n : Nat) : Nat := s.f Reg.CAM_PORT_CFG 5 3 n
/-- Lanes that the fields of CAM_PORT_CFG give port `n`. -/
def camCfgLanes (n : Nat) (w : Word) : List Nat := if w.getLsbD 1 then [] else portLanes n (fld w 2 2 + 1)
/-- Lanes of camera port `n`; a GigE Vision port has none. -/
def State.camLanes (s : State) (n : Nat) : List Nat := camCfgLanes n (s.rd Reg.CAM_PORT_CFG n)
/-- Lanes that the fields of LN_MAC_CFG give a MAC. -/
def macCfgLanes (w : Word) : List Nat := (upTo (macLaneCount (fld w 6 3))).map (fun i => fld w 11 5 + i)
/-- Lanes of MAC `m`. -/
def State.macLanes (s : State) (m : Nat) : List Nat := macCfgLanes (s.rd Reg.LN_MAC_CFG m)
/-- MAC `m` is on. -/
def State.macEnabled (s : State) (m : Nat) : Bool := s.on .LN && s.bit Reg.LN_MAC_CFG 0 m
/-- The link of MAC `m` is up. -/
def State.macUp (s : State) (m : Nat) : Bool := s.macEnabled m && s.bit Reg.LN_MAC_CFG 31 m
/-- Lanes of Kalinamo link `j`, the spare included. -/
def fabLanes (j : Nat) : List Nat := (upTo 4).map (fun k => 16 + 4 * j + k)

/-- OWNER of a lane: 0 none, 1 camera port, 2 MAC, 3 Kalinamo link. -/
def State.laneOwner (s : State) (l : Nat) : Nat := s.f Reg.LN_LANE_STATUS 12 2 l
/-- OWNER_ID of a lane. -/
def State.laneOwnerId (s : State) (l : Nat) : Nat := s.f Reg.LN_LANE_STATUS 8 4 l
/-- STATE of a lane: 0 ACTIVE, 1 QUIET, 2 DEEP. -/
def State.laneState (s : State) (l : Nat) : Nat := s.f Reg.LN_LANE_STATUS 6 2 l
/-- The CDR of a lane is locked. -/
def State.laneLock (s : State) (l : Nat) : Bool := s.bit Reg.LN_LANE_STATUS 0 l

/-! ### States of a lane (R487 to R489) -/

/-- The lane trains on the way to ACTIVE: EQ_MODE TRAINED, or a Kalinamo lane (R502, R504). -/
def State.laneTrains (s : State) (l : Nat) : Bool := s.bit Reg.LN_LANE_CFG 3 l || decide (s.laneOwner l = 3)

/-- A lane is asked for a state (R488). The lane keeps its equaliser in QUIET, loses training in DEEP, and a lane that
trains stays in DEEP until its training is complete (R487). The reserved request 3 changes nothing. -/
def State.laneTo (s : State) (l st : Nat) : State :=
  let w := s.rd Reg.LN_LANE_STATUS l
  let old := fld w 6 2
  if st = 0 then
    if old = 0 then s
    else if old = 2 ∧ s.laneTrains l then s.setLane l { s.lane l with training := some s.raw }
    else s.wr Reg.LN_LANE_STATUS (setFld (putBit w 2 false) 6 2 0) l
  else if st = 1 ∨ st = 2 then
    let w := putBit (putBit (setFld w 6 2 st) 0 false) 5 false
    let w := if st = 2 then putBit w 3 false else w
    (s.wr Reg.LN_LANE_STATUS w l).setLane l { s.lane l with training := none }
  else s

/-- The lane follows STATE_REQ, as a lane without an owner or of a MAC does (R489). -/
def State.laneFollow (s : State) (l : Nat) : State := s.laneTo l (s.f Reg.LN_LANE_CFG 8 2 l)

/-- A lane passes to an owner, whose rate and coding it takes; PRBS generator and checker stop (R482, R485, R492). -/
def State.laneClaim (s : State) (owner id rate l : Nat) : State :=
  let s := s.wr Reg.LN_LANE_STATUS (setFld (setFld (putBit (s.rd Reg.LN_LANE_STATUS l) 5 false) 12 2 owner) 8 4 id) l
  let s := (s.setF Reg.LN_LANE_CFG 0 2 rate l).setF Reg.LN_PRBS_CFG 0 2 0 l
  s.when (decide (owner = 3)) (fun s => s.setF Reg.LN_LANE_CFG 4 2 3 l)

/-- A lane loses its owner and takes the state that STATE_REQ asks for (R489). -/
def State.laneFree (s : State) (l : Nat) : State :=
  (s.wr Reg.LN_LANE_STATUS (setFld (s.rd Reg.LN_LANE_STATUS l) 8 6 0) l).laneFollow l

/-- A lane goes through DEEP and comes back (R491). -/
def State.laneCycle (s : State) (l : Nat) : State := (s.laneTo l 2).laneTo l 0

/-- Some lane of the list has an owner other than the one given (R482). -/
def State.lanesTaken (s : State) (owner id : Nat) (l : List Nat) : Bool :=
  l.any (fun x => decide (s.laneOwner x ≠ 0) && !(decide (s.laneOwner x = owner) && decide (s.laneOwnerId x = id)))

end Sys2Proof.Machine
end

