-- ==== Sys2Proof/Machine/Time.lean ====
section
/-!
DEFINITION. Network time and time-stamps (spec/18_network_time.md): the time base, PTP and the position histories.
-/
namespace Sys2Proof.Machine

open Sys2Proof

/-! ### Steps and rates (R514 to R517, R525, R533) -/

/-- OFFSET and ANCHOR set: T is `offset` at raw count `anchor`. -/
def State.setBase (s : State) (offset anchor : DWord) : State :=
  (s.wr64 Reg.TIME_OFFSET_LO Reg.TIME_OFFSET_HI offset).wr64 Reg.TIME_ANCHOR_LO Reg.TIME_ANCHOR_HI anchor

/-- LOCKED clears, if set: UNLOCK and the count of lock losses (R523). -/
def State.timeUnlock (s : State) : State :=
  let s := { s with time := { s.time with inLock := 0, outLock := 0 } }
  if s.bit Reg.TIME_STATUS 1 then ((s.setBit Reg.TIME_STATUS 1 false).raise Reg.TIME_EVENT 2).bump Reg.TIME_CNT 3 else s

/-- What every step does: STEP is raised and counted, and LOCKED clears (R517, R523). -/
def State.timeStepped (s : State) : State := ((s.raise Reg.TIME_EVENT 0).bump Reg.TIME_CNT 0).timeUnlock

/-- A signed step in ns added to OFFSET (R517). -/
def State.timeAdjust (s : State) (d : Int) : State :=
  (s.wr64 Reg.TIME_OFFSET_LO Reg.TIME_OFFSET_HI (s.rd64 Reg.TIME_OFFSET_LO Reg.TIME_OFFSET_HI + BitVec.ofInt 64 d)).timeStepped

/-- OFFSET set to a value and ANCHOR to the raw count now: a step that makes the time base VALID (R517, R520). -/
def State.timeSet (s : State) (offset : DWord) : State :=
  ((s.setBase offset s.raw).setBit Reg.TIME_STATUS 0 true).timeStepped

/-- The rate changes; T is continuous across the change (R516). -/
def State.timeRate (s : State) (rate : Word) : State := (s.setBase s.now s.raw).wr Reg.TIME_RATE rate

/-- A host write to the time base while PTP is enabled is ignored and recorded (R525, R12). -/
def State.timeHost (s : State) (w : Writer) (addr : Nat) (f : State → State) : State :=
  if w = .host ∧ s.bit Reg.TIME_PTP_CFG 0 then
    (((s.setF Reg.TIME_STATUS 16 16 S_BUSY).raise Reg.TIME_EVENT 4).bump Reg.TIME_CNT 5).refuse S_BUSY addr
  else f s

/-- A write of TIME_RATE. -/
def State.writeTimeRate (s : State) (w : Writer) (v : Word) : State :=
  s.gate w Reg.TIME_RATE 0 0 0 (fun s => s.timeHost w Reg.TIME_RATE.addr (fun s => s.timeRate v))

/-- A write of TIME_OFFSET_LO, which applies the pair: a pending high half, else the high half of the OFFSET in force
(R6, R517). -/
def State.writeTimeOffset (s : State) (w : Writer) (lo : Word) : State :=
  let a := Reg.TIME_OFFSET_LO.addr
  s.gate w Reg.TIME_OFFSET_LO 0 0 0 (fun s => s.timeHost w a (fun s =>
    let hi := (AMap.look s.pairPend a).getD (s.rd Reg.TIME_OFFSET_HI)
    { (s.timeSet (joinWords hi lo)) with pairPend := AMap.del s.pairPend a }))

/-- A write of TIME_ADJ. -/
def State.writeTimeAdj (s : State) (w : Writer) (v : Word) : State :=
  s.gate w Reg.TIME_ADJ 0 0 0 (fun s => s.timeHost w Reg.TIME_ADJ.addr (fun s => s.timeAdjust v.toInt))

/-- TIME_RATE_WRITE (R516, R525). -/
def execTimeRateWrite (w : Writer) (v : Word) (s : State) : Out := .next (s.writeTimeRate w v)

/-- TIME_OFFSET_APPLY (R517, R525). -/
def execTimeOffsetApply (w : Writer) (lo : Word) (s : State) : Out := .next (s.writeTimeOffset w lo)

/-- TIME_ADJ (R517, R525). -/
def execTimeAdj (w : Writer) (v : Word) (s : State) : Out := .next (s.writeTimeAdj w v)

/-! ### Stamps (R526 to R528) -/

/-- The fixed transmit and receive corrections in ns of a MODE and FEC (R526). -/
def stampCorrection : Nat → Nat → Nat × Nat
  | 0, 0 => (42, 58)
  | 0, 1 => (42, 263)
  | 1, 0 => (24, 33)
  | 1, 1 => (24, 115)
  | 1, 2 => (36, 240)
  | 2, 3 => (30, 210)
  | 3, 0 => (26, 40)
  | 3, 2 => (32, 190)
  | 4, 3 => (28, 150)
  | 5, 3 => (22, 120)
  | _, _ => (0, 0)

/-- The corrections of MAC `m` in its mode. -/
def State.macCorrection (s : State) (m : Nat) : Nat × Nat :=
  stampCorrection (s.f Reg.LN_MAC_CFG 6 3 m) (s.f Reg.LN_MAC_CFG 4 2 m)

/-- The transmit stamp that MAC `m` takes now (R526, R527). -/
def State.txStamp (s : State) (m : Nat) : DWord :=
  s.now + BitVec.ofNat 64 (s.macCorrection m).1 + BitVec.ofInt 64 (sfld (s.rd Reg.TIME_MAC_ADJ m) 16 16)

/-- The receive stamp that MAC `m` takes now (R526, R527). -/
def State.rxStamp (s : State) (m : Nat) : DWord :=
  s.now - BitVec.ofNat 64 (s.macCorrection m).2 - BitVec.ofInt 64 (sfld (s.rd Reg.TIME_MAC_ADJ m) 0 16)

/-! ### PTP (R521 to R530) -/

/-- PTP takes part: the block is on and EN is set. -/
def State.ptpOn (s : State) : Bool := s.on .TIME && s.bit Reg.TIME_PTP_CFG 0
/-- The MAC of the PTP port. -/
def State.ptpMac (s : State) : Nat := s.f Reg.TIME_PTP_CFG 5 3
/-- PTP_STATE. -/
def State.ptpState (s : State) : Nat := s.f Reg.TIME_STATUS 4 3
/-- PROFILE: 0 delay request-response, 1 peer-to-peer, 2 802.1AS. -/
def State.ptpProfile (s : State) : Nat := s.f Reg.TIME_PTP_CFG 1 2
/-- PTP runs over layer 2: 802.1AS, or a MAC with no IPv4 address. -/
def State.ptpLayer2 (s : State) : Bool :=
  decide (2 ≤ s.ptpProfile) || decide (s.rd Reg.LN_MAC_IPV4 s.ptpMac = 0)
/-- A power of two of a second in ns. -/
def logNs (n : Int) : Nat := if n < 0 then 10 ^ 9 / 2 ^ n.natAbs else 10 ^ 9 * 2 ^ n.natAbs

/-- A PTP message is queued in the port's MAC, in class 1 (R498). -/
def State.ptpQueue (s : State) (k : PtpKind) : State := s.macSend s.ptpMac { cls := 1, tag := .ptp k, data := [] }

/-- A message of `kind` is due: `interval` has run since the last was sent. -/
def State.ptpDue (s : State) (slot interval : Nat) : Bool :=
  match AMap.look s.time.lastSent slot with
  | some t => decide (interval ≤ s.since t)
  | none => true

/-- A message sent on its interval. -/
def State.ptpSend (s : State) (slot : Nat) (k : PtpKind) : State :=
  ({ s with time := { s.time with lastSent := AMap.put s.time.lastSent slot s.raw } }).ptpQueue k

/-- A PTP message has left the MAC with its transmit stamp (R522, R528). One-step mode writes the stamp into a Sync, and
sends no follow-up; two-step mode follows with one (R529). -/
def State.ptpSent (s : State) (m : Nat) (k : PtpKind) : State :=
  let st := s.txStamp m
  let one := s.bit Reg.TIME_PTP_CFG 3
  let p2p := decide (1 ≤ s.ptpProfile)
  let ins := one && (decide (k = .sync) || (decide (k = .pdelayResp) && p2p))
  let s := { s with time := { s.time with sent := { kind := k, stamp := st, inserted := ins } :: s.time.sent } }
  let s := if k = .delayReq ∨ k = .pdelayReq then { s with time := { s.time with t3 := st } } else s
  let s := s.when (decide (k = .sync) && !ins) (fun s => s.ptpQueue .followUp)
  s.when (decide (k = .pdelayResp) && !ins) (fun s => s.ptpQueue .pdelayRespFollowUp)

/-- LOCKED after a Sync interval that ended within LOCK_NS or outside it (R523). -/
def State.servoLock (s : State) (within : Bool) : State :=
  let locked := s.bit Reg.TIME_STATUS 1
  if within then
    let n := s.time.inLock + 1
    let s := { s with time := { s.time with inLock := n, outLock := 0 } }
    if 16 ≤ n ∧ !locked then
      ((s.setBit Reg.TIME_STATUS 1 true).setBit Reg.TIME_STATUS 0 true).raise Reg.TIME_EVENT 1 else s
  else
    let n := s.time.outLock + 1
    let s := { s with time := { s.time with inLock := 0, outLock := n } }
    if 4 ≤ n then s.timeUnlock else s

/-- The servo takes the offset from master of one Sync: a step beyond STEP_NS, else a rate (R523). -/
def State.servo (s : State) (ofs : Int) : State :=
  let stepNs := max 1 (s.f Reg.TIME_SERVO_CFG 16 16)
  let lockNs := max 1 (s.f Reg.TIME_SERVO_CFG 0 16)
  let s := s.wr Reg.TIME_MASTER_OFS (BitVec.ofInt 32 (clampS 32 ofs))
  if stepNs < ofs.natAbs then s.timeAdjust (-ofs)
  else (s.timeRate (Config.servoRate (s.rd Reg.TIME_RATE) ofs)).servoLock (decide (ofs.natAbs ≤ lockNs))

/-- The offset from master of a Sync received at `t2` and sent at `t1`. -/
def State.masterOffset (s : State) (t1 t2 : DWord) (correction : Int) : Int :=
  (t2 - t1).toInt - correction - (s.rd Reg.TIME_PATH_DELAY).toNat

/-- A Sync: counted, and used by the servo of a slave; a two-step Sync waits for its Follow_Up. In a CP restart the Sync
is not used (R523, R524). -/
def State.ptpSync (s : State) (m : PtpMsg) (stamp : DWord) : State :=
  let s := { s.bump Reg.TIME_CNT 1 with time := { s.time with lastSync := some s.raw } }
  if (s.ptpState = 2 ∨ s.ptpState = 3) ∧ s.core.cp = .running then
    let s := { s with time := { s.time with t1 := m.origin, t2 := stamp, syncWaits := m.twoStep } }
    if m.twoStep then s else s.servo (s.masterOffset m.origin stamp m.correction)
  else s

/-- A Follow_Up completes the Sync before it. -/
def State.ptpFollowUp (s : State) (m : PtpMsg) : State :=
  if s.time.syncWaits ∧ (s.ptpState = 2 ∨ s.ptpState = 3) ∧ s.core.cp = .running then
    let s := { s with time := { s.time with t1 := m.origin, syncWaits := false } }
    s.servo (s.masterOffset m.origin s.time.t2 m.correction)
  else s

/-- The end of a delay exchange: firmware computes the mean delay, held at the ends of its register. -/
def State.ptpDelay (s : State) (t1 t2 t3 t4 : DWord) (correction : Int) : State :=
  if s.core.cp = .running then
    s.wr Reg.TIME_PATH_DELAY (BitVec.ofNat 32 (min 0xFFFFFFFF (Config.meanDelay t1 t2 t3 t4 correction))) else s

/-- An Announce: the best master clock algorithm on the CP sets PTP_STATE; a slave-only clock is never MASTER (R521). -/
def State.ptpAnnounce (s : State) (m : PtpMsg) : State :=
  if s.core.cp = .running then
    let st := (Config.bmca s.ptpState m.better).val
    let st := if st = 4 ∧ s.bit Reg.TIME_PTP_CFG 4 then 1 else st
    let s := (s.setF Reg.TIME_STATUS 4 3 st).setBit Reg.TIME_STATUS 3 m.timescale
    s.when (m.better && !m.sameMaster) (fun s => s.raise Reg.TIME_EVENT 3)
  else s

/-- The module takes this PTP message: its MAC, its domain, its transport and a type of R521. -/
def State.ptpAccepts (s : State) (mac : Nat) (m : PtpMsg) : Bool :=
  s.bit Reg.TIME_PTP_CFG 0 && decide (mac = s.ptpMac) && decide (m.kind ≠ .other) && decide (m.layer2 = s.ptpLayer2) &&
    decide (m.domain.toNat = if 2 ≤ s.ptpProfile then 0 else s.f Reg.TIME_PTP_CFG 24 8)

/-- What a PTP message does once taken (R522, R523). -/
def State.ptpTake (s : State) (mac : Nat) (m : PtpMsg) : State :=
  let stamp := s.rxStamp mac
  match m.kind with
  | .sync => s.ptpSync m stamp
  | .followUp => s.ptpFollowUp m
  | .delayReq => s.when (decide (s.ptpState = 4)) (fun s => s.ptpQueue .delayResp)
  | .pdelayReq => s.when (decide (s.ptpState = 4)) (fun s => s.ptpQueue .pdelayResp)
  | .delayResp => s.ptpDelay s.time.t1 s.time.t2 s.time.t3 m.origin m.correction
  | .pdelayResp =>
    let s := { s with time := { s.time with t2 := m.origin, t4 := stamp } }
    if m.twoStep then s else s.ptpDelay s.time.t3 m.origin m.origin stamp m.correction
  | .pdelayRespFollowUp => s.ptpDelay s.time.t3 s.time.t2 m.origin s.time.t4 m.correction
  | .announce => s.ptpAnnounce m
  | .other => s

/-- PTP_RECEIVE (R521 to R524, R528): a PTP message arrives at MAC `mac`; one that R521 does not list is dropped and
counted. -/
def execPtpReceive (mac : Fin 8) (msg : PtpMsg) (s : State) : Out :=
  .next (if s.on .TIME then
    if s.ptpAccepts mac msg then s.ptpTake mac msg else s.bump Reg.TIME_CNT 4
  else s)

/-- PTP_SYNC_SEND (R522, R529): a MASTER sends Sync at its interval of 2^-7 to 2^4 s. -/
def execPtpSyncSend (s : State) : Out :=
  .next (if s.ptpOn ∧ s.ptpState = 4 ∧ s.ptpDue 0 (logNs (clampI (-7) 4 (sfld (s.rd Reg.TIME_PTP_INTERVAL) 0 8))) then
    (s.ptpSend 0 .sync).bump Reg.TIME_CNT 2 else s)

/-- PTP_ANNOUNCE_SEND (R522): a MASTER sends Announce at its interval. -/
def execPtpAnnounceSend (s : State) : Out :=
  .next (if s.ptpOn ∧ s.ptpState = 4 ∧ s.ptpDue 1 (logNs (sfld (s.rd Reg.TIME_PTP_INTERVAL) 8 8)) then
    s.ptpSend 1 .announce else s)

/-- PTP_DELAY_REQ_SEND (R522): Pdelay_Req in every state under the peer-to-peer profiles, Delay_Req in the SLAVE state
under the other. -/
def execPtpDelayReqSend (s : State) : Out :=
  .next (if s.ptpOn ∧ s.ptpDue 2 (logNs (sfld (s.rd Reg.TIME_PTP_INTERVAL) 16 8)) then
    if 1 ≤ s.ptpProfile then s.ptpSend 2 .pdelayReq
    else if s.ptpState = 3 then s.ptpSend 2 .delayReq else s
  else s)

/-- ANNOUNCE_TIMEOUT (R523): no Sync within the announce receipt timeout clears LOCKED. -/
def execAnnounceTimeout (s : State) : Out :=
  let n := max 2 (s.f Reg.TIME_PTP_INTERVAL 24 8)
  .next (match s.time.lastSync with
    | some t => if s.ptpOn ∧ n * logNs (sfld (s.rd Reg.TIME_PTP_INTERVAL) 8 8) ≤ s.since t then s.timeUnlock else s
    | none => s)

/-- A write of TIME_PTP_CFG: PTP turned on listens, PTP turned off is disabled. -/
def State.ptpCfgWrite (s : State) (v : Word) : State :=
  let was := s.bit Reg.TIME_PTP_CFG 0
  let s := s.wr Reg.TIME_PTP_CFG v
  if v.getLsbD 0 then (if was then s else s.setF Reg.TIME_STATUS 4 3 1)
  else ({ s.timeUnlock with time := { s.timeUnlock.time with lastSync := none, lastSent := [], syncWaits := false } }).setF
    Reg.TIME_STATUS 4 3 0

/-! ### Position histories (R531, R532) -/

/-- One history entry of channel `n` at this raw count; the 65,536 newest are kept. -/
def State.histWrite (s : State) (n : Nat) : State :=
  if s.f Reg.ENC_CFG 0 2 n = 0 then s
  else
    let k := s.raw.toNat / 1000
    let e : HistEnt := { pos := (s.enc n).pos, unknown := s.bit Reg.ENC_STATUS 0 n, epoch := (s.enc n).epoch }
    let h := List.filter (fun p => decide (k < p.1 + 65536)) (AMap.put (AMap.get s.time.hist [] n) k e)
    { s with time := { s.time with hist := AMap.put s.time.hist n h } }

/-- HISTORY_ENTRY (R531): at a raw count that is a multiple of 1,000 every enabled channel writes an entry. -/
def execHistoryEntry (s : State) : Out :=
  .next (if s.on .TIME ∧ s.raw.toNat % 1000 = 0 then s.forAll (upTo 4) (fun n s => s.histWrite n) else s)

/-- The smallest raw count at which T has reached `t`, under the time base in force (R532). -/
def State.rawOf (s : State) (t : DWord) : DWord :=
  let off := s.rd64 Reg.TIME_OFFSET_LO Reg.TIME_OFFSET_HI
  let k := 2 ^ 40 + (s.rd Reg.TIME_RATE).toInt
  let d := -((-((t - off).toInt * 2 ^ 40)).fdiv k)
  s.rd64 Reg.TIME_ANCHOR_LO Reg.TIME_ANCHOR_HI + BitVec.ofInt 64 d

/-- A quotient rounded to nearest, halves away from zero. -/
def divHalfAway (x : Int) (n : Nat) : Int :=
  if 0 ≤ x then (2 * x + n).fdiv (2 * n) else -((2 * -x + n).fdiv (2 * n))

/-- The entry of a history nearest to a raw count. -/
def histNearest (r : Nat) (h : AMap HistEnt) : Option HistEnt :=
  (h.foldl (fun (b : Option (Nat × HistEnt)) p =>
    let d := ((p.1 * 1000 : Nat) - (r : Int)).natAbs
    match b with
    | none => some (d, p.2)
    | some q => if d < q.1 then some (d, p.2) else b) none).map (fun q => q.2)

/-- A lookup of the position of channel `n` at time `t`, and whether it carries NO_POSITION (R532). -/
def State.lookupPos (s : State) (n : Nat) (t : DWord) : DWord × Bool :=
  let h := AMap.get s.time.hist [] n
  let r := (s.rawOf t).toNat
  match AMap.look h (r / 1000), AMap.look h (r / 1000 + 1) with
  | some a, some b =>
    let p := posWord (a.pos.toInt + divHalfAway (posDiff b.pos a.pos * (r % 1000 : Nat)) 1000)
    (p, a.unknown || b.unknown || decide (a.epoch ≠ b.epoch))
  | _, _ =>
    match histNearest r h with
    | some e => (e.pos, true)
    | none => (Config.noHistory n t, true)

end Sys2Proof.Machine
end

