-- ==== Sys2Proof/Machine/CamOps.lean ====
section
/-!
DEFINITION. Camera ports (spec/03_camera_ingress.md): the trigger generator, the blocks, the line buffer and the link.
-/
namespace Sys2Proof.Machine

open Sys2Proof

/-! ### Configuration of a port -/

/-- Encoder channel of a port. -/
def State.camEnc (s : State) (n : Nat) : Nat := s.f Reg.CAM_PORT_CFG 10 2 n
/-- ALIGN of a port: 0 none, 1 POSITION, 2 TIME. -/
def State.camAlign (s : State) (n : Nat) : Nat := s.f Reg.CAM_PORT_CFG 8 2 n
/-- The port is an area port. -/
def State.camArea (s : State) (n : Nat) : Bool := s.bit Reg.CAM_PORT_CFG 12 n
/-- SOURCE of a port: 0 none, 1 trigger packet, 2 field output, 3 action command. -/
def State.camSource (s : State) (n : Nat) : Nat := s.f Reg.CAM_TRIG_CFG 0 2 n
/-- Lines of a block. -/
def State.blockLines (s : State) (n : Nat) : Nat := max 1 (s.f Reg.CAM_FRAME_CFG 0 16 n)
/-- Trigger positions of a block: one for a frame, else one for each line (R83, AREA). -/
def State.camPerBlock (s : State) (n : Nat) : Nat := if s.camArea n then 1 else s.blockLines n
/-- WIDTH of a port. -/
def State.camWidth (s : State) (n : Nat) : Nat := s.f Reg.CAM_FMT 0 15 n
/-- PATTERN of a port. -/
def State.camPattern (s : State) (n : Nat) : Nat := s.f Reg.CAM_FMT 20 4 n
/-- Components of a stored pixel. -/
def State.camComps (s : State) (n : Nat) : Nat := if s.camPattern n = 5 ∨ s.camPattern n = 6 then 3 else 1
/-- Line slots of a port. -/
def State.camCap (s : State) (n : Nat) : Nat := 2 ^ clampN 8 12 (s.f Reg.CAM_BUF_BASE_LO 0 4 n)
/-- CAM_OFFSET of a port. -/
def State.camOffset (s : State) (n : Nat) : Int := (s.rd64 Reg.CAM_OFFSET_LO Reg.CAM_OFFSET_HI n).toInt
/-- The link of a port is up. -/
def State.camUp (s : State) (n : Nat) : Bool := s.camEnabled n && s.bit Reg.CAM_STATUS 0 n
/-- The port receives stream data and numbers grid points: link up and, for CoaXPress-over-Fiber, discovered (R75, R95). -/
def State.camReady (s : State) (n : Nat) : Bool := s.camUp n && (s.camGev n || s.bit Reg.CAM_STATUS 1 n)

/-- `f` applied to a port. -/
def State.updCam (s : State) (n : Nat) (f : CamPort → CamPort) : State := s.setCam n (f (s.cam n))
/-- CAM_CNT `k` of a port counts. -/
def State.camCnt (s : State) (n k : Nat) : State := s.bump Reg.CAM_CNT n k

/-! ### Pipeline contexts that read a port (R89, R99) -/

/-- A configuration word in force of context `c` of pipeline `p` (R128). -/
def State.inForce (s : State) (p c : Nat) (r : RegRow) (j : Nat) (k : Nat := 0) : Word :=
  AMap.get (s.ispCtx p c).force r.reset (r.at p j k)

/-- A context of a pipeline is enabled. -/
def State.ctxOn (s : State) (p c : Nat) : Bool := s.on .ISP && s.bit Reg.ISP_PIPE_CTRL c p

/-- Enabled contexts, `4 * pipeline + context`, whose source in force is the one given: SRC_KIND and SRC. -/
def State.readersOf (s : State) (kind src : Nat) : List Nat :=
  (upTo 32).filter (fun x => s.ctxOn (x / 4) (x % 4) &&
    let w := s.inForce (x / 4) (x % 4) Reg.ISP_CTX_CFG (x % 4)
    decide (fld w 5 1 = kind) && decide (fld w 0 5 = src))

/-! ### Line buffer (R89, R90) -/

/-- CAM_OCC and FULL follow the slots. -/
def State.camOcc (s : State) (n : Nat) : State :=
  let k := (s.cam n).slots.length
  let s := s.wr Reg.CAM_OCC (BitVec.ofNat 32 (max (s.f Reg.CAM_OCC 16 16 n) k * 65536 + k)) n
  s.setBit Reg.CAM_STATUS 3 (decide (s.camCap n ≤ k)) n

/-- Slots written in full that no context has still to consume are released (R89). -/
def State.camRelease (s : State) (n : Nat) : State :=
  (s.updCam n (fun c => { c with slots := c.slots.filter (fun l => !(l.full && l.readers.isEmpty)) })).camOcc n

/-- Mark bits of R96 on the open block. -/
def CamPort.mark (c : CamPort) (m : Nat) : CamPort :=
  { c with block := c.block.map (fun b => { b with marks := b.marks ||| BitVec.ofNat 32 m }) }

/-- Marks of R96, as bits of the mark word. -/
def markCrc : Nat := 1
/-- LINES_DROPPED. -/
def markDropped : Nat := 2
/-- MISSING_DATA. -/
def markMissing : Nat := 4
/-- SHORT. -/
def markShort : Nat := 8
/-- LONG. -/
def markLong : Nat := 16
/-- WIDTH. -/
def markWidth : Nat := 32
/-- LATE_TRIGGER. -/
def markLate : Nat := 64
/-- NO_POSITION. -/
def markNoPos : Nat := 128

/-! ### Pairing (R83 to R87) -/

/-- The issued trigger of line `i` of the open block. -/
def State.camTrigOf (s : State) (n : Nat) (b : CamBlock) (i : Nat) : Option CamTrig :=
  if s.camArea n then
    match b.trig with
    | some t => some t
    | none => (s.cam n).fifo.find? (fun t => t.issued && decide (t.num = b.no))
  else (s.cam n).fifo.find? (fun t => t.issued && decide (t.num = b.no * s.blockLines n + i))

/-- Aligned position and trigger position of a line, with the marks that they bring (R85, R87). Where the spec gives a line
no position, the word is free. -/
def State.camAligned (s : State) (n : Nat) (b : CamBlock) (t : Option CamTrig) : DWord × DWord × Nat × State :=
  let off := s.camOffset n
  let m := match t with
    | some t => (if t.late then markLate else 0) + (if t.noPos then markNoPos else 0)
    | none => 0
  let (f0, s1) := s.draw
  let (f1, s1) := s1.draw
  let open_ := joinWords f1 f0
  let tp := (t.map (fun t => t.pos)).getD open_
  let s' := if t.isSome then s else s1
  if s.camAlign n = 2 then
    let adj := (s.rd Reg.CAM_GEV_CFG n)
    let (p, lost) := s.lookupPos (s.camEnc n) (b.exposure + BitVec.ofInt 64 (sfld adj 16 16))
    (posWord (p.toInt - off), tp, m ||| (if lost then markNoPos else 0), s')
  else if s.camAlign n = 1 then (posWord (tp.toInt - off), tp, m, s')
  else (open_, tp, m, s1)

/-- The trigger entry of a line leaves the FIFO once it has been paired (R76). -/
def State.camPair (s : State) (n : Nat) (t : Option CamTrig) : State :=
  match t with
  | some t => s.updCam n (fun c => { c with
      fifo := c.fifo.filter (fun x => decide (x.num ≠ t.num))
      block := if s.camArea n then c.block.map (fun b => { b with trig := some t }) else c.block })
  | none => s

/-- A line of the open block takes a slot, or is dropped when none is free (R90); a fill line is full at once (R84). -/
def State.camAdmit (s : State) (n i : Nat) (b : CamBlock) (t : Option CamTrig) (fillLine : Bool) : State :=
  let s := s.camPair n t
  if s.camCap n ≤ (s.cam n).slots.length then
    ((s.camCnt n 3).raise Reg.CAM_EVENT 3 n).updCam n (fun c =>
      let c := c.mark markDropped
      { c with block := c.block.map (fun b => { b with cur := none }) })
  else
    let (al, tp, m, s) := s.camAligned n b t
    let fill := s.f Reg.CAM_FRAME_CFG 16 16 n
    let line : CamLine := { block := b.id, index := i, aligned := al, trig := tp, time := s.now, marks := 0,
                            pix := List.replicate (s.camWidth n * s.camComps n) fill, full := fillLine,
                            readers := s.readersOf 0 n }
    let s := s.updCam n (fun c =>
      let c := c.mark m
      { c with slots := c.slots ++ [line],
               block := c.block.map (fun b => { b with cur := if fillLine then b.cur else some i }) })
    (if fillLine then s.camRelease n else (s.camCnt n 1).camOcc n)

/-- A line that has no place in its block is discarded, counted, and marks the block LONG (R83, R84). -/
def State.camDiscard (s : State) (n : Nat) : State :=
  (s.camCnt n 9).updCam n (fun c =>
    let c := c.mark markLong
    { c with block := c.block.map (fun b => { b with cur := none }) })

/-- The line in progress has no more data: it is written in full, and WIDTH is marked and counted (R94). -/
def State.camLineDone (s : State) (n : Nat) : State :=
  match (s.cam n).block with
  | some b =>
    match b.cur with
    | some i =>
      let bad := decide (b.width ≠ s.camWidth n)
      let s := s.updCam n (fun c =>
        let c := if bad then c.mark markWidth else c
        { c with block := c.block.map (fun b => { b with cur := none }),
                 slots := c.slots.map (fun l => if l.block = b.id ∧ l.index = i then { l with full := true } else l) })
      (s.when bad (fun s => s.camCnt n 6)).camRelease n
    | none => s
  | none => s

/-- The first byte of line `i` of the open block arrives (R83, R84, R90). -/
def State.camLine (s : State) (n i : Nat) : State :=
  let s := s.camLineDone n
  match (s.cam n).block with
  | none => s
  | some b =>
    let s := s.updCam n (fun c => { c with block := some { b with seen := i :: b.seen } })
    if s.blockLines n ≤ i then s.camDiscard n
    else if s.camSource n = 0 then s.camAdmit n i b none false
    else
      match s.camTrigOf n b i with
      | some t => s.camAdmit n i b (some t) false
      | none => s.camDiscard n

/-- The stored place of component `k` of a line on the wire: a line-sequential colour line brings R, G and B one after the
other (PATTERN 6). -/
def camPlace (seq : Bool) (hw w comps k : Nat) : Option Nat :=
  if seq then
    if k % max 1 hw < w ∧ k / max 1 hw < 3 then some (3 * (k % max 1 hw) + k / max 1 hw) else none
  else if k < w * comps then some k else none

/-- Components written into a line from wire place `k` on. -/
def placePix (place : Nat → Option Nat) : Nat → List Nat → List Nat → List Nat
  | _, [], l => l
  | k, v :: t, l =>
    placePix place (k + 1) t
      (match place k with
       | some i => l.set i v
       | none => l)

/-- Components of line `i` of the open block at wire place `k`, or at the end of what it has; a line with all its data is
written in full. -/
def State.camWrite (s : State) (n i : Nat) (k : Option Nat) (pix : List Nat) : State :=
  match (s.cam n).block with
  | none => s
  | some b =>
    let place := camPlace (decide (s.camPattern n = 6)) b.width (s.camWidth n) (s.camComps n)
    let upd : CamLine → CamLine := fun l =>
      if l.block = b.id ∧ l.index = i ∧ !l.full then
        { l with pix := placePix place (k.getD l.got) pix l.pix, got := l.got + pix.length } else l
    let s := s.updCam n (fun c => { c with slots := c.slots.map upd })
    match (s.cam n).slots.find? (fun l => decide (l.block = b.id ∧ l.index = i)) with
    | some l =>
      if b.width * s.camComps n ≤ l.got then
        if b.cur = some i then s.camLineDone n
        else
          (s.updCam n (fun c => { c with slots := c.slots.map (fun x =>
            if x.block = b.id ∧ x.index = i then { x with full := true } else x) })).camRelease n
      else s
    | none => s

/-! ### Blocks (R72, R84, R95) -/

/-- Entries of block `no` leave the FIFO; its triggers that still wait are issued all the same. -/
def State.camLeave (s : State) (n no : Nat) : State :=
  let per := s.camPerBlock n
  s.updCam n (fun c => { c with
    fifo := c.fifo.filter (fun t => decide (t.num / per ≠ no))
    orphans := c.orphans ++ c.fifo.filter (fun t => decide (t.num / per = no) && !t.issued) })

/-- Fill lines for the lines that a block has not brought: a line-scan block fills the trigger positions that were numbered
(R84). -/
def State.camFill (s : State) (n : Nat) : State :=
  match (s.cam n).block with
  | none => s
  | some b =>
    s.forAll ((upTo (s.blockLines n)).filter (fun i => !b.seen.contains i)) (fun i s =>
      match (s.cam n).block with
      | none => s
      | some b =>
        if s.camSource n = 0 then s.camAdmit n i b none true
        else
          match s.camTrigOf n b i with
          | some t => s.camAdmit n i b (some t) true
          | none => s)

/-- The open block closes with the marks given; its lines take the marks of the block (R84, R96). -/
def State.camClose (s : State) (n marks : Nat) : State :=
  match (s.cam n).block with
  | none => s
  | some b0 =>
    let short := decide ((b0.seen.filter (fun i => decide (i < s.blockLines n))).length < s.blockLines n)
    let s := s.camLineDone n
    let s := s.updCam n (fun c => c.mark (marks ||| (if short then markShort else 0)))
    let s := s.when short (fun s => s.camFill n)
    match (s.cam n).block with
    | none => s
    | some b =>
      let s := s.updCam n (fun c => { c with
        slots := c.slots.map (fun l => if l.block = b.id then { l with marks := b.marks, full := true } else l)
        block := none })
      let s := (s.camLeave n b.no).camRelease n
      let s := s.camCnt n 0
      let s := s.when (b.marks.getLsbD 3) (fun s => s.camCnt n 4)
      let s := s.when (b.marks.getLsbD 4) (fun s => s.camCnt n 5)
      s.when (decide (b.marks ≠ 0)) (fun s => s.raise Reg.CAM_EVENT 4 n)

/-- An image header or leader opens the next block, or has it discarded whole for its format (R72). -/
def State.camOpen (s : State) (n : Nat) (fmt : BitVec 7) (width : Nat) (exposure : DWord) : State :=
  let s := s.camClose n 0
  let no := (s.cam n).blockNo
  if fmt.toNat ≠ s.f Reg.CAM_FMT 17 7 n then
    let s := s.updCam n (fun c => { c with blockNo := no + 1, discard := true })
    ((s.camLeave n no).camCnt n 9).raise Reg.CAM_EVENT 5 n
  else
    s.updCam n (fun c => { c with
      blockNo := no + 1, discard := false, opened := c.opened + 1
      dropBlocks := c.dropBlocks.filter (fun x => decide (x ≠ no))
      block := some { no := no, id := c.opened, width := width, exposure := exposure,
                      marks := if c.dropBlocks.contains no then BitVec.ofNat 32 markDropped else 0 } })

/-- The link of a port is lost, or the port is disabled: the open block closes, the trigger FIFO is emptied, numbering
starts anew, and LINK_DOWN is raised (R71, R83, R95). -/
def State.camDown (s : State) (n : Nat) : State :=
  let was := s.bit Reg.CAM_STATUS 0 n || (s.cam n).block.isSome
  let s := s.camClose n (markMissing ||| markShort)
  let s := s.updCam n (fun c => { c with
    fifo := [], orphans := [], nextNum := 0, blockNo := 0, dropBlocks := [], skipped := false, discard := false
    lastHeart := none, discovering := false })
  let s := s.setF Reg.CAM_STATUS 0 3 0 n
  s.when was (fun s => s.raise Reg.CAM_EVENT 1 n)

/-- LANE_UP of a CoaXPress-over-Fiber port follows the locks of its lanes. -/
def State.camLanesUp (s : State) (n : Nat) : State :=
  let bits := ((s.camLanes n).zipIdx.map (fun p => if s.camEnabled n && s.laneLock p.1 then 2 ^ p.2 else 0)).sum
  s.setF Reg.CAM_STATUS 8 4 bits n

/-! ### Trigger generator (R75 to R81) -/

/-- The field output of a port is free for a new pulse: none runs, and 5 µs have passed since the last one (R79). -/
def State.pulseFree (s : State) (n : Nat) : Bool :=
  let o := s.dout (s.leader (s.f Reg.CAM_TRIG_CFG 8 5 n))
  o.pulse.isNone && (match o.pulseEnd with
    | some t => decide (5000 ≤ s.since t)
    | none => true)

/-- A trigger of the port may be issued now (R79). -/
def State.camFree (s : State) (n : Nat) : Bool :=
  s.camReady n &&
  (match (s.cam n).lastTrig with
   | some t => decide (5 * max 1 (s.f Reg.CAM_TRIG_MIN_PERIOD 0 16 n) ≤ s.since t)
   | none => true) &&
  (decide (s.camSource n ≠ 2) || s.pulseFree n)

/-- The triggers that still wait, in grid order. -/
def CamPort.waits (c : CamPort) : List CamTrig := c.orphans ++ c.fifo.filter (fun t => !t.issued)

/-- Trigger `num` goes out on the path of SOURCE (R75): a trigger packet, a pulse of PULSE_US, or an action command. -/
def State.camIssue (s : State) (n num : Nat) (late : Bool) : State :=
  let noPos := s.bit Reg.ENC_STATUS 0 (s.camEnc n)
  let s := s.updCam n (fun c => { c with
    lastTrig := some s.raw
    orphans := c.orphans.filter (fun t => decide (t.num ≠ num))
    fifo := c.fifo.map (fun t => if t.num = num then { t with issued := true, late := late, noPos := noPos } else t) })
  let s := s.when late (fun s => s.camCnt n 7)
  if s.camSource n = 2 then
    let o := s.leader (s.f Reg.CAM_TRIG_CFG 8 5 n)
    let us := max 1 (s.f Reg.FIO_DO_CFG 16 16 o)
    (s.setDout o { s.dout o with pulse := some (s.raw + BitVec.ofNat 64 (us * 1000)) }).syncOuts
  else if s.camSource n = 3 then s.macSend (s.camMac n) { cls := 2, tag := .action n, data := [] }
  else s

/-- The next grid point that the measured position has reached, if any (R75, R77): above the high-water mark, or with
REV_MODE at the next crossing in either direction; with it the mark after it. -/
def State.camNext (s : State) (n : Nat) : Option (DWord × DWord) :=
  let pitch : Nat := (s.rd Reg.CAM_TRIG_PITCH n).toNat
  let pos := (s.enc (s.camEnc n)).pos
  let high := (s.cam n).high
  let d := posDiff pos high
  if (pitch : Int) ≤ d then some (posWord (high.toInt + pitch), posWord (high.toInt + pitch))
  else if s.bit Reg.CAM_TRIG_CFG 2 n ∧ d < 0 then some (high, posWord (high.toInt - pitch))
  else none

/-- A grid point is reached: it counts for the mark, and is numbered, enters the FIFO and issues its trigger at once or
waits, or is counted as suppressed (R75, R76, R79). -/
def State.camReach (s : State) (n : Nat) : State :=
  match s.camNext n with
  | none => s
  | some (g, high) =>
    let s := s.updCam n (fun c => { c with high := high })
    if !s.camReady n then s.camCnt n 10
    else if 4096 ≤ (s.cam n).fifo.length then
      ((s.camCnt n 10).raise Reg.CAM_EVENT 3 n).updCam n (fun c => { c with skipped := true })
    else
      let c := s.cam n
      let num := c.nextNum
      let no := num / s.camPerBlock n
      let atOnce := c.waits.isEmpty && s.camFree n
      let t : CamTrig := { num := num, pos := g, issued := false, late := false, noPos := false }
      let past := decide (no < c.blockNo) && !(match c.block with
        | some b => decide (b.no = no)
        | none => false)
      let s := s.setCam n { c with nextNum := num + 1,
                                   fifo := if past then c.fifo else c.fifo ++ [t],
                                   orphans := if past then c.orphans ++ [t] else c.orphans,
                                   skipped := false }
      let s := s.when c.skipped (fun s => s.updCam n (fun c =>
        match c.block with
        | some b => if b.no = no then c.mark markDropped else { c with dropBlocks := no :: c.dropBlocks }
        | none => { c with dropBlocks := no :: c.dropBlocks }))
      s.when atOnce (fun s => s.camIssue n num false)

/-- The first trigger that waits is issued late, once it may be (R79). -/
def State.camDelayed (s : State) (n : Nat) : State :=
  match (s.cam n).waits with
  | t :: _ => if s.camFree n then s.camIssue n t.num true else s
  | [] => s

/-! ### Enable and disable (R489, R643) -/

/-- A port that is enabled claims its lanes, which become ACTIVE, and builds its grid (R81, R489). -/
def State.camEnable (s : State) (n : Nat) : State :=
  let s := s.setCam n { opened := (s.cam n).opened, slots := (s.cam n).slots }
  let s := s.forAll (s.camLanes n) (fun l s => (s.laneClaim 1 n (s.f Reg.CAM_PORT_CFG 4 1 n) l).laneTo l 0)
  (s.camGrid n).camLanesUp n

/-- A port that is disabled closes its block and gives up its lanes, which go to DEEP (R95, R489); `lanes` are the lanes
that it held. -/
def State.camDisable (s : State) (n : Nat) (lanes : List Nat) : State :=
  let s := s.camDown n
  let s := s.forAll lanes (fun l s => (s.laneTo l 2).laneFree l)
  s.setF Reg.CAM_STATUS 8 4 0 n

end Sys2Proof.Machine
end

