-- ==== Sys2Proof/Machine/IspMath.lean ====
section
/-!
DEFINITION. The arithmetic of the image pipelines (spec/04_image_pipeline.md, R101 to R117): integer and exact, on rows of
components.
-/
namespace Sys2Proof.Machine

open Sys2Proof

/-- A row of an image: its components in order, the marks of the lines that have gone into it, and its number in its block
or frame, which gives the Bayer colours. -/
structure PixRow where
  pix : List Nat
  marks : Word
  num : Nat
  deriving DecidableEq, Repr

/-- What a source gives a pipeline: pixels of a line, components of a pixel, PATTERN of a Bayer source or 0, bits of a
component, the FILL value, and whether it is an area source. -/
structure PixSrc where
  w : Nat
  comps : Nat
  bayer : Nat
  depth : Nat
  fill : Nat
  area : Bool
  deriving DecidableEq, Repr

/-- The largest sample of a source (R101). -/
def PixSrc.top (c : PixSrc) : Nat := 2 ^ c.depth - 1

/-- Row `i` of a list that begins at row 0. -/
def rowAt (rows : List PixRow) (i : Int) : Option PixRow := if i < 0 then none else rows[i.toNat]?

/-- Component `k` of row `i`, with `n` components a row. -/
def pixAt (rows : List PixRow) (n : Nat) (i k : Int) : Option Nat :=
  if k < 0 ∨ (n : Int) ≤ k then none else (rowAt rows i).bind (fun r => r.pix[k.toNat]?)

/-- The mean of a sum of `n` samples, halves up. -/
def meanHalfUp (sum n : Nat) : Nat := (2 * sum + n) / (2 * n)

/-- A quotient of integers rounded to nearest, halves up. -/
def roundHalfUp (x : Int) (n : Nat) : Int := (2 * x + n).fdiv (2 * n)

/-! ### Colours of a Bayer source (R101, R112) -/

/-- Colour of a Bayer pixel: 0 R, 1 G, 2 B. PATTERN 1 RG, 2 GR, 3 GB, 4 BG gives the first two pixels of an even row. -/
def bayerColour (pattern x y : Nat) : Nat :=
  let a := x % 2
  let b := y % 2
  if pattern = 1 then a + b
  else if pattern = 2 then (if a = b then 1 else if a = 1 then 0 else 2)
  else if pattern = 3 then (if a = b then 1 else if a = 1 then 2 else 0)
  else 2 - (a + b)

/-- Two pixels lie in one plane: of one colour of a Bayer source, else always. -/
def samePlane (c : PixSrc) (x y x' y' : Nat) : Bool :=
  decide (c.bayer = 0) || decide (bayerColour c.bayer x y = bayerColour c.bayer x' y')

/-! ### Temporal noise reduction (R102) -/

/-- One pixel against its history. -/
def tnrPix (thresh k v hist : Nat) : Nat :=
  let d : Int := (v : Int) - hist
  if thresh < d.natAbs then v else ((hist : Int) + (d * k + 128) / 256).toNat

/-! ### Spatial noise reduction (R104) -/

/-- The qualifying samples around component `k` of row `i`, the centre among them; `listed x y` says that a pixel is on the
defect list. -/
def snrTaps (c : PixSrc) (rows : List PixRow) (r thresh : Nat) (listed : Nat → Nat → Bool) (i k : Nat) : List Nat :=
  let n := c.w * c.comps
  let x := k / c.comps
  let num (j : Int) : Nat := ((rowAt rows j).map (fun q => q.num)).getD 0
  let v := (pixAt rows n i k).getD 0
  let offs : List Int := (List.range (2 * r + 1)).map (fun d => (d : Int) - r)
  offs.flatMap (fun dy => offs.filterMap (fun dx =>
    let j : Int := (i : Int) + dy
    let x' : Int := (x : Int) + dx
    match (if x' < 0 then none else pixAt rows n j ((k : Int) + dx * c.comps)) with
    | some u =>
      if samePlane c x (num i) x'.toNat (num j) && !(listed x'.toNat (num j) && !(decide (dx = 0) && decide (dy = 0)))
          && decide (((u : Int) - v).natAbs ≤ thresh) then some u else none
    | none => none))

/-- A row after spatial noise reduction; the rows of its window give it their marks (R104, R120). -/
def snrRow (c : PixSrc) (rows : List PixRow) (r thresh : Nat) (listed : Nat → Nat → Bool) (i : Nat) (row : PixRow) : PixRow :=
  let pix := row.pix.zipIdx.map (fun p =>
    if listed (p.2 / c.comps) row.num then p.1
    else
      let t := snrTaps c rows r thresh listed i p.2
      (t.sum + t.length / 2) / max 1 t.length)
  let near := (List.range (2 * r + 1)).filterMap (fun d => rowAt rows ((i : Int) + d - r))
  { row with pix := pix, marks := near.foldl (fun m q => m ||| q.marks) row.marks }

/-! ### Flat-field and defect correction (R105 to R107) -/

/-- One component under its table entry: the result and whether R101 clamped it. -/
def flatPix (top : Nat) (entry : Word) (v : Nat) : Nat × Bool :=
  let o := ((v - fld entry 0 16) * fld entry 16 16 + 8192) / 2 ^ 14
  (min o top, decide (top < o))

/-- A row under its table entries, and the number of clamped components. -/
def flatRow (top : Nat) (entries : List Word) (row : PixRow) : PixRow × Nat :=
  let l := (row.pix.zip entries).map (fun p => flatPix top p.2 p.1)
  ({ row with pix := l.map (fun p => p.1) }, (l.filter (fun p => p.2)).length)

/-- The nearest unlisted pixel of the plane on one side, within four steps of `step` pixels (R107). -/
def defectSide (c : PixSrc) (listed : Nat → Bool) (row : PixRow) (k : Nat) (step : Int) : Option Nat :=
  ([1, 2, 3, 4] : List Int).findSome? (fun d =>
    let x : Int := ((k / c.comps : Nat) : Int) + d * step
    if x < 0 ∨ (c.w : Int) ≤ x then none
    else if listed x.toNat then none else row.pix[x.toNat * c.comps + k % c.comps]?)

/-- A row after defect correction, and the number of pixels left unresolved. -/
def defectRow (c : PixSrc) (listed : Nat → Bool) (row : PixRow) : PixRow × Nat :=
  let step : Int := if c.bayer = 0 then 1 else 2
  let l := row.pix.zipIdx.map (fun p =>
    if !listed (p.2 / c.comps) then (p.1, 0)
    else
      match defectSide c listed row p.2 (-step), defectSide c listed row p.2 step with
      | some a, some b => ((a + b + 1) / 2, 0)
      | some a, none => (a, 0)
      | none, some b => (b, 0)
      | none, none => (p.1, if p.2 % c.comps = 0 then 1 else 0))
  let n := (l.map (fun p => p.2)).sum
  ({ row with pix := l.map (fun p => p.1), marks := if n = 0 then row.marks else row.marks ||| 0x200 }, n)

/-! ### Demosaic (R112) -/

/-- Component `col` of Bayer pixel `x` of row `i`: its own, or the mean of that colour among its eight neighbours. -/
def demosaicPix (c : PixSrc) (rows : List PixRow) (i x col : Nat) (openVal : Nat) : Nat :=
  let num (j : Int) : Nat := ((rowAt rows j).map (fun q => q.num)).getD 0
  if bayerColour c.bayer x (num i) = col then (pixAt rows c.w i x).getD 0
  else
    let offs : List Int := [-1, 0, 1]
    let l := offs.flatMap (fun dy => offs.filterMap (fun dx =>
      let j : Int := (i : Int) + dy
      let x' : Int := (x : Int) + dx
      match pixAt rows c.w j x' with
      | some u => if bayerColour c.bayer x'.toNat (num j) = col then some u else none
      | none => none))
    if l = [] then openVal else meanHalfUp l.sum l.length

/-- A Bayer row as RGB; the rows on both sides give it their marks. -/
def demosaicRow (c : PixSrc) (rows : List PixRow) (openVal : Nat → Nat → Nat) (i : Nat) (row : PixRow) : PixRow :=
  let pix := (List.range c.w).flatMap (fun x => (List.range 3).map (fun col => demosaicPix c rows i x col (openVal x col)))
  let near := (List.range 3).filterMap (fun d => rowAt rows ((i : Int) + d - 1))
  { row with pix := pix, marks := near.foldl (fun m q => m ||| q.marks) row.marks }

/-! ### Geometry (R108 to R111) -/

/-- The mesh of a context: spacing, points in a row and rows, and its bytes. -/
structure MeshCfg where
  spacing : Nat
  cols : Nat
  rows : Nat
  bytes : List Byte
  deriving DecidableEq, Repr

/-- A signed little-endian 32-bit value. -/
def s32 (l : List Byte) : Int := (BitVec.ofNat 32 (natLE (l.take 4))).toInt

/-- Control point `(i, j)`: x_m and y_m in 1/256 pixel. -/
def MeshCfg.pt (m : MeshCfg) (i j : Nat) : Int × Int :=
  let b := m.bytes.drop (8 * (j * m.cols + i))
  (s32 b, s32 (b.drop 4))

/-- The intermediate coordinate of output pixel `(x, y)` (R110), in 1/256 pixel: bilinear between points, the outermost cell
extended. In a line-scan context y_m is an offset from the line. -/
def MeshCfg.map (m : MeshCfg) (area : Bool) (x y : Nat) : Int × Int :=
  let cx := min (x / m.spacing) (m.cols - 2)
  let fx : Int := (x : Int) - cx * m.spacing
  let gx : Int := (m.spacing : Int) - fx
  if area then
    let cy := min (y / m.spacing) (m.rows - 2)
    let fy : Int := (y : Int) - cy * m.spacing
    let gy : Int := (m.spacing : Int) - fy
    let mix (f : Int × Int → Int) : Int :=
      roundHalfUp (gx * gy * f (m.pt cx cy) + fx * gy * f (m.pt (cx + 1) cy) + gx * fy * f (m.pt cx (cy + 1))
        + fx * fy * f (m.pt (cx + 1) (cy + 1))) (m.spacing * m.spacing)
    (mix (fun p => p.1), mix (fun p => p.2))
  else
    let mix (f : Int × Int → Int) : Int := roundHalfUp (gx * f (m.pt cx 0) + fx * f (m.pt (cx + 1) 0)) m.spacing
    (mix (fun p => p.1), 256 * (y : Int) + mix (fun p => p.2))

/-- The lens correction of a context (R109): centre in 1/2 pixel, normalising length, coefficients k1, k2, k3, p1, p2. -/
structure LensCfg where
  cx : Nat
  cy : Nat
  norm : Nat
  coef : List Int
  deriving DecidableEq, Repr

/-- One coordinate of R109 in 1/256 pixel: `u` and `v` are the offsets from the centre along and across the axis, in 1/256
pixel, `pu` and `pv` the coefficients of the terms u·v and r² + 2u². Exact, then rounded half up. -/
def LensCfg.axis (m : LensCfg) (c u v pu pv : Int) : Int :=
  let n : Nat := 256 * m.norm
  let d : Int := n * n
  let q : Int := u * u + v * v
  let k (i : Nat) : Int := m.coef.getD i 0
  let one : Int := 2 ^ 27
  let num := u * (one * d ^ 3 + k 0 * q * d ^ 2 + k 1 * q ^ 2 * d + k 2 * q ^ 3)
    + (2 * pu * u * v + pv * (q + 2 * u * u)) * (n : Int) ^ 5
  c + roundHalfUp num (2 ^ 27 * n ^ 6)

/-- The source coordinate of an intermediate one (R109). In a line-scan context dy is 0 and y_s is y_m. -/
def LensCfg.map (m : LensCfg) (area : Bool) (p : Int × Int) : Int × Int :=
  let x0 : Int := 128 * m.cx
  let y0 : Int := 128 * m.cy
  let u := p.1 - x0
  let v := if area then p.2 - y0 else 0
  let p1 := m.coef.getD 3 0
  let p2 := m.coef.getD 4 0
  (m.axis x0 u v p1 p2, if area then m.axis y0 v u p2 p1 else p.2)

/-- The geometry of a context: mesh, lens, and bicubic resampling. -/
structure Geometry where
  mesh : Option MeshCfg
  lens : Option LensCfg
  cubic : Bool
  deriving DecidableEq, Repr

/-- A geometry stage is enabled. -/
def Geometry.on (g : Geometry) : Bool := g.mesh.isSome || g.lens.isSome

/-- The source coordinate of output pixel `(x, y)` in 1/256 pixel (R108). -/
def Geometry.map (g : Geometry) (area : Bool) (x y : Nat) : Int × Int :=
  let p : Int × Int := match g.mesh with
    | some m => m.map area x y
    | none => (256 * (x : Int), 256 * (y : Int))
  match g.lens with
  | some l => l.map area p
  | none => p

/-- First tap and weights of an axis (R111): bilinear over 2 samples in 1/256, bicubic Catmull-Rom over 4 in 1/2^25. -/
def resampleTaps (cubic : Bool) (p : Int) : Int × List Int :=
  let i := p.fdiv 256
  let t := p - 256 * i
  if cubic then
    (i - 1, [-(t ^ 3) + 512 * t ^ 2 - 65536 * t, 3 * t ^ 3 - 1280 * t ^ 2 + 33554432, -(3 * t ^ 3) + 1024 * t ^ 2 + 65536 * t,
             t ^ 3 - 256 * t ^ 2])
  else (i, [256 - t, t])

/-- Component `comp` of an output pixel: `rows` are the source rows from number `base` on; a tap outside reads FILL. -/
def resamplePix (cubic : Bool) (top fill comps w : Nat) (rows : List PixRow) (base : Int) (p : Int × Int) (comp : Nat) : Nat :=
  let tx := resampleTaps cubic p.1
  let ty := resampleTaps cubic p.2
  let sum : Int := (ty.2.zipIdx.map (fun wy => (tx.2.zipIdx.map (fun wx =>
    let x : Int := tx.1 + wx.2
    let v := if x < 0 then fill else (pixAt rows (w * comps) (ty.1 + wy.2 - base) (x * comps + comp)).getD fill
    wx.1 * wy.1 * (v : Int))).sum)).sum
  let unit : Nat := if cubic then 2 ^ 50 else 2 ^ 16
  (clampI 0 top (roundHalfUp sum unit)).toNat

/-- An output row of the resampler: row `y` of the image, whose rows from `base` on are given. The rows that a tap touches
give it their marks (R111, R120). -/
def resampleRow (g : Geometry) (c : PixSrc) (comps : Nat) (rows : List PixRow) (base : Int) (y : Nat) (row : PixRow) : PixRow :=
  let at_ := (List.range c.w).map (fun x => g.map c.area x y)
  let pix := at_.flatMap (fun p => (List.range comps).map (fun k => resamplePix g.cubic c.top c.fill comps c.w rows base p k))
  let taps := (at_.flatMap (fun p =>
    let t := resampleTaps g.cubic p.2
    (List.range t.2.length).map (fun (d : Nat) => t.1 + (d : Int)))).eraseDups
  { row with pix := pix, marks := (taps.filterMap (fun i => rowAt rows (i - base))).foldl (fun m q => m ||| q.marks) row.marks }

/-- Whole lines that output row `y` reaches down and up, the resampler's lines included (R113). -/
def Geometry.reach (g : Geometry) (c : PixSrc) (rows : List Nat) : Nat × Nat :=
  if !g.on then (0, 0)
  else
    let extra := if g.cubic then 2 else 1
    let d := rows.flatMap (fun y => (List.range c.w).map (fun x => (g.map c.area x y).2 - 256 * (y : Int)))
    let down := d.foldl (fun m v => max m v) 0
    let up := d.foldl (fun m v => max m (-v)) 0
    (ceilDiv down.toNat 256 + extra, ceilDiv up.toNat 256 + extra)

/-! ### Output (R115 to R117) -/

/-- Overlap of `[a, a + n)` with unit `i`, `[256 i, 256 i + 256)`, in 1/256. -/
def overlap256 (a n i : Nat) : Nat := min (a + n) (256 * i + 256) - max a (256 * i)

/-- A scaled row: output pixel `j` is the mean of its span over the lines given with their weights, rounded half up (R115). -/
def scaleRow (comps hscale cropW : Nat) (lines : List (List Nat × Nat)) : List Nat :=
  let total := hscale * (lines.map (fun l => l.2)).sum
  (List.range (cropW * 256 / hscale)).flatMap (fun j => (List.range comps).map (fun k =>
    let a := j * hscale
    let xs := (List.range (ceilDiv (a + hscale) 256 - a / 256)).map (fun d => a / 256 + d)
    let sum := (lines.map (fun l => (xs.map (fun x => l.2 * overlap256 a hscale x * l.1.getD (x * comps + k) 0)).sum)).sum
    meanHalfUp sum (max 1 total)))

/-- The sample code of FORMAT: 0 U8, 1 U16, 2 BF16 (R117). -/
def outCode (format shift v : Nat) : Nat :=
  if format = 0 then min 255 (if shift = 0 then v else (v + 2 ^ (shift - 1)) / 2 ^ shift)
  else if format = 1 then v
  else
    let r := roundTo .rne false 8 x16.emin v 1 0
    x16.encode false r.1 r.2

/-- The pixels of a pair of Bayer rows as R, Gr, Gb and B of half resolution (R117): Gr shares a row with R. -/
def planes4 (pattern w : Nat) (even odd : List Nat) : List Nat :=
  (List.range (w / 2)).flatMap (fun x =>
    let q : List (Nat × Nat × Nat) := [(0, 0, even.getD (2 * x) 0), (1, 0, even.getD (2 * x + 1) 0),
      (0, 1, odd.getD (2 * x) 0), (1, 1, odd.getD (2 * x + 1) 0)]
    let rRow := if bayerColour pattern 0 0 = 0 ∨ bayerColour pattern 1 0 = 0 then 0 else 1
    let pick (col row : Nat) : Nat :=
      ((q.find? (fun e => decide (bayerColour pattern e.1 e.2.1 = col) && decide (e.2.1 = row))).map (fun e => e.2.2)).getD 0
    [pick 0 rRow, pick 1 rRow, pick 1 (1 - rRow), pick 2 (1 - rRow)])

end Sys2Proof.Machine
end

