-- ==== Sys2Proof/Machine/JobOps.lean ====
section
/-!
DEFINITION. Jobs, slots, contexts and engines: the operations that chapters 6, 9 and 10 share.
-/
namespace Sys2Proof.Machine

open Sys2Proof

/-! ### Engines and units -/

/-- Engine `e` is a spire. -/
def isSpire (e : Nat) : Bool := decide (e < 34)

/-- The unit that engine `e` presents: logical spire, or 32 + moon engine; none for a spare or a disabled spire (R162). -/
def State.unitOf (s : State) (e : Nat) : Option Nat :=
  if isSpire e then (if s.bit Reg.SPR_ID 7 e then some (s.f Reg.SPR_ID 0 5 e) else none) else some (e - 2)

/-- The physical spire that presents a logical spire (R162). -/
def State.spireOf (s : State) (u : Nat) : Option Nat :=
  (upTo 34).find? (fun e => s.bit Reg.SPR_ID 7 e && decide (s.f Reg.SPR_ID 0 5 e = u))

/-- The engine that presents a unit (R162, R171): the partner's, where a moon engine's work has been adopted; where both
engines of a pair are lost, the logical spire of the moon engine's number. -/
def State.engineOf (s : State) (u : Nat) : Option Nat :=
  if u < 32 then s.spireOf u
  else
    let m := u - 32
    let p := if m % 2 = 0 then m + 1 else m - 1
    if s.bit Reg.MOON_STATUS 3 m ∧ s.bit Reg.MOON_STATUS 3 p then s.spireOf m
    else some (34 + (if s.bit Reg.MOON_STATUS 3 m ∧ s.bit Reg.MOON_STATUS 4 p then p else m))

/-- Units that engine `e` serves: its own, and those it has adopted (R171). -/
def State.unitsOf (s : State) (e : Nat) : List Nat := (upTo 40).filter (fun u => decide (s.engineOf u = some e))

/-- Logical spires of the module (R162). -/
def State.spireCount (s : State) : Nat := ((upTo 34).filter (fun e => s.bit Reg.SPR_ID 7 e)).length

/-- The engine is faulted (R171, R317). -/
def State.engFaulted (s : State) (e : Nat) : Bool :=
  if isSpire e then s.bit Reg.SPR_STATUS 3 e else s.bit Reg.MOON_STATUS 3 (e - 34)

/-- Block of an engine. -/
def engBlock (e : Nat) : Block := if isSpire e then .SPR else .MOON

/-- The counter `k` of an engine (SPR_CNT, MOON_CNT). -/
def State.engCnt (s : State) (e k n : Nat) : State :=
  if n = 0 then s else if isSpire e then s.bumpBy n Reg.SPR_CNT e k else s.bumpBy n Reg.MOON_CNT (e - 34) k
/-- The quantisation counter `k` of an engine. -/
def State.engQCnt (s : State) (e k n : Nat) : State :=
  if n = 0 then s else if isSpire e then s.bumpBy n Reg.SPR_QCNT e k else s.bumpBy n Reg.MOON_QCNT (e - 34) k
/-- The operator counter `k` of an engine. -/
def State.engOpCnt (s : State) (e k n : Nat) : State :=
  if n = 0 then s else if isSpire e then s.bumpBy n Reg.SPR_OPCNT e k
  else if k = 0 ∨ k = 3 then s else s.bumpBy n Reg.MOON_OPCNT (e - 34) k
/-- An event bit of an engine. -/
def State.engEvent (s : State) (e b : Nat) : State :=
  if isSpire e then s.raise Reg.SPR_EVENT b e else s.raise Reg.MOON_EVENT b (e - 34)
/-- A quantisation event bit of an engine. -/
def State.engQEvent (s : State) (e b : Nat) : State :=
  if isSpire e then s.raise Reg.SPR_QEVENT b e else s.raise Reg.MOON_QEVENT b (e - 34)

/-- The arithmetic events of an instruction (R180 to R183, R212 to R217, R254). -/
def State.engCounts (s : State) (e : Nat) (c : Cnt) : State :=
  let s := (s.engCnt e 2 c.invalid).when (decide (c.invalid ≠ 0)) (fun s => s.engEvent e 0)
  let s := (s.engCnt e 3 c.overflow).when (decide (c.overflow ≠ 0)) (fun s => s.engEvent e 1)
  let s := (s.engCnt e 4 c.trunc).when (decide (c.trunc ≠ 0)) (fun s => s.engEvent e 2)
  let s := ((s.engQCnt e 0 c.satInt).engQCnt e 1 c.satFp).when (decide (c.satInt + c.satFp ≠ 0)) (fun s => s.engQEvent e 0)
  let s := (s.engQCnt e 2 c.nanOut).when (decide (c.nanOut ≠ 0)) (fun s => s.engQEvent e 1)
  (((s.engOpCnt e 0 c.masked).engOpCnt e 1 c.allLow).engOpCnt e 2 c.short).engOpCnt e 3 c.clamped

/-! ### Codes -/

/-- STATE codes of R287. -/
def JobState.code : JobState → Nat
  | .loaded => 1
  | .running => 2
  | .draining => 3
  | .pausing => 4
  | .paused => 5
  | .done => 6
  | .aborted => 7
  | .faulted => 8

/-- A run is in progress (R287). -/
def JobState.inRun : JobState → Bool
  | .running | .draining | .pausing | .paused => true
  | _ => false

/-- Parts may run (R295). -/
def JobState.active : JobState → Bool
  | .running | .draining => true
  | _ => false

/-- Codes of slot states in a save area (R301). -/
def SlotState.code : SlotState → Nat
  | .free => 0
  | .joined => 1
  | .active => 2
  | .final => 3

/-! ### Status registers -/

/-- Slots that are not FREE. -/
def Job.used (j : Job) : Nat := (j.slots.filter (fun p => decide (p.2.st ≠ .free) || p.2.taken)).length

/-- The effective priority of a context (R296, R305). -/
def State.effPrio (s : State) (h u : Nat) : Nat :=
  match s.jobOf h with
  | some j => max j.prio (s.ctx h u).inherit
  | none => 0

/-- Contexts of a unit that lie in save areas. -/
def State.savedOn (s : State) (u : Nat) : Nat :=
  (s.job.ctxs.filter (fun p => decide (p.1 % 64 = u) && p.2.saved)).length

/-- CTX_STATE of a spire (SPR_SCHED_STATUS). -/
def State.ctxState (s : State) (e : Nat) : Nat :=
  let x := s.engine e
  match x.switch, x.resident, x.tile with
  | some (.saving _), _, _ => 2
  | some (.restoring _), _, _ => 3
  | none, none, _ => 0
  | none, some _, some _ => 1
  | none, some h, none =>
    let c := s.ctx h ((s.unitOf e).getD 0)
    if c.remote.isSome ∧ !c.remoteDone then 4 else if c.semWait ≠ [] then 5 else 6

/-- The status registers of engine `e` follow its state. -/
def State.syncEngine (s : State) (e : Nat) : State :=
  let x := s.engine e
  let run := x.tile.isSome
  if isSpire e then
    let u := (s.unitOf e).getD 0
    let used := match x.resident with
      | some h => ((s.jobOf h).map Job.used).getD 0
      | none => 0
    let st := (((s.rd Reg.SPR_STATUS e) |> fun w => setFld w 0 1 run.toNat) |> fun w => setFld w 1 1 (!run).toNat)
      |> fun w => setFld (setFld w 2 1 x.resetting.toNat) 16 7 (min used 64)
    let h := x.resident.getD 0
    let sch := h * 2 ^ 16 + min (s.savedOn u) 255 * 2 ^ 8 + (if x.resident.isSome then s.effPrio h u else 0) * 2 ^ 4
      + s.ctxState e
    (s.wr Reg.SPR_STATUS st e).wr Reg.SPR_SCHED_STATUS (BitVec.ofNat 32 sch) e
  else
    let m := e - 34
    s.wr Reg.MOON_STATUS (setFld (setFld (setFld (s.rd Reg.MOON_STATUS m) 0 1 run.toNat) 1 1 (!run).toNat) 2 1
      x.resetting.toNat) m

/-- QM_SCHED_STATUS follows the jobs. -/
def State.syncSched (s : State) : State :=
  let saved := (s.job.ctxs.filter (fun p => p.2.saved)).length
  let run := (s.job.jobs.filter (fun p => p.2.st.active)).length
  s.wr Reg.QM_SCHED_STATUS (BitVec.ofNat 32 (min saved 255 * 2 ^ 16 + min run 1023))

/-- Every engine's registers and QM_SCHED_STATUS follow. -/
def State.syncJobs (s : State) : State := (s.forAll (upTo 42) (fun e s => s.syncEngine e)).syncSched

/-- Engine `e` replaced, its registers following. -/
def State.putEngine (s : State) (e : Nat) (x : Engine) : State := ((s.setEngine e x).syncEngine e).syncSched

/-! ### Accounting (R320) -/

/-- A 64-bit pair counts `n` more and holds at its largest value. -/
def State.addPair (s : State) (lo hi : RegRow) (i n : Nat) : State :=
  s.wr64 lo hi (BitVec.ofNat 64 (min ((s.rd64 lo hi i).toNat + n) (2 ^ 64 - 1))) i

/-- Spire time charged to a client and to a context's budget (R297, R320). -/
def State.charge (s : State) (h u n : Nat) : State :=
  match s.jobOf h with
  | some j =>
    let c := s.ctx h u
    let s := s.setCtx h u { c with budget := c.budget - n }
    s.addPair Reg.QM_CLIENT_TIME_LO Reg.QM_CLIENT_TIME_HI j.client n
  | none => s

/-- A queue wait ends (R320). -/
def State.waited (s : State) (h u : Nat) : State :=
  let c := s.ctx h u
  match s.jobOf h, c.eligAt with
  | some j, some t =>
    let n := s.since t
    let s := s.addPair Reg.QM_CLIENT_WAIT_LO Reg.QM_CLIENT_WAIT_HI j.client n
    let s := s.wr Reg.QM_CLIENT_WAIT_MAX (BitVec.ofNat 32 (max (s.rd Reg.QM_CLIENT_WAIT_MAX j.client).toNat
      (min n 0xFFFFFFFF))) j.client
    s.setCtx h u { c with eligAt := none }
  | _, _ => s

/-- A counter of the client of a job. -/
def State.clientCnt (s : State) (h k : Nat) : State :=
  match s.jobOf h with
  | some j => s.bump Reg.QM_CLIENT_CNT j.client k
  | none => s

/-! ### Input rings (R119, R290, R293) -/

/-- The consumer number of an input of a job. -/
def ringUser (h input : Nat) : Nat := 64 * h + input

/-- A consumer releases the rows of an output ring that satisfy `p`; rows that nobody holds leave the ring (R119). -/
def State.releaseRows (s : State) (pipe out user : Nat) (p : OutRow → Bool) : State :=
  let x := s.ispOut pipe out
  let rows := x.rows.map (fun r => if p r then { r with users := r.users.filter (fun u => u ≠ user) } else r)
  s.setIspOut pipe out { x with rows := rows.filter (fun r => decide (r.users ≠ [])) }

/-- The rows of an output ring that a consumer still holds. -/
def State.ringRows (s : State) (pipe out user : Nat) : List OutRow :=
  (s.ispOut pipe out).rows.filter (fun r => r.users.contains user)

/-- Position of the first row of a comet's window, and the position from which rows are fill (R332). -/
def Comet.windowFrom (c : Comet) : Int := c.lead.toInt - c.winPre.toNat
def Comet.windowTo (c : Comet) : Int := c.trail.toInt + c.winPost.toNat

/-- The comet's part window begins at or before the aligned position of a row (R332). -/
def Comet.inWindow (c : Comet) (r : OutRow) : Bool :=
  decide (0 ≤ posDiff r.aligned (posWord c.windowFrom)) && !r.marks.getLsbD 15

/-- The rows of a comet's window in a ring: from the first row at or past its start. -/
def windowRows (c : Comet) (n : Nat) (rows : List OutRow) : List OutRow :=
  (rows.dropWhile (fun r => !c.inWindow r)).take n

/-- The job serves a line lane through some input. -/
def Job.serves (j : Job) (lane : Nat) : Bool := j.binds.any (fun b => b.2.lanes.getLsbD lane)

/-- Row `r` lies in the window, of `n` rows at most, of some comet of a lane in `lanes` that has not joined, other than
`c`. -/
def State.stillWanted (s : State) (lanes : Word) (c : Comet) (r : OutRow) : Bool :=
  s.wt.comets.any (fun p => !p.2.joined && lanes.getLsbD p.2.lane && decide (p.2.seq ≠ c.seq ∨ p.2.lead ≠ c.lead)
    && decide (p.2.st = .opened ∨ p.2.st = .closed) && p.2.inWindow r)

/-- The rows of a comet's window, and older ones, are released from a job's input ring, but for rows that the window of
another comet still needs. -/
def State.releaseInput (s : State) (h : Nat) (i : InputD) (b : Binding) (c : Comet) : State :=
  let rows := s.ringRows b.pipe b.out (ringUser h i.input)
  let n := (rows.takeWhile (fun r => !c.inWindow r)).length + i.windowRows
  let gone := (rows.take n).filter (fun r => !s.stillWanted b.lanes c r)
  s.releaseRows b.pipe b.out (ringUser h i.input) (fun r => gone.any (fun w => decide (w.seq = r.seq)))

/-- Rows of a comet's window are released from a job's input rings (R293). -/
def State.releaseWindow (s : State) (h : Nat) (j : Job) (c : Comet) : State :=
  s.forAll j.img.inputs (fun i s =>
    match AMap.look j.binds i.input with
    | some b => if b.lanes.getLsbD c.lane then s.releaseInput h i b c else s
    | none => s)

/-- A comet committed without having joined: each RUNNING job that serves its lane releases its rows and counts the miss
(R293). -/
def State.slotMissed (s : State) (c : Comet) : State :=
  s.forAll s.job.jobs (fun p s =>
    if p.2.st = .running ∧ p.2.serves c.lane then
      ((s.releaseWindow p.1 p.2 c).bump Reg.QM_CLIENT_CNT p.2.client 5).raise Reg.QM_SCHED_EVENT 2
    else s)

/-! ### Slots (R289) -/

/-- The comet of a slot takes SLOT_DROPPED (R289, R331). -/
def State.markDropped (s : State) (x : Slot) : State :=
  match s.comet x.comet with
  | some c => if c.seq = x.cseq ∧ !x.padding then s.setComet x.comet { c with flags := putBit c.flags 7 true } else s
  | none => s

/-- Every occupied slot of a job is dropped without a verdict (R289, R315). -/
def State.dropSlots (s : State) (h : Nat) : State :=
  match s.jobOf h with
  | some j =>
    let used := j.slots.filter (fun p => decide (p.2.st ≠ .free) || p.2.taken)
    let s := s.forAll used (fun p s => if p.2.st = .final then s else s.markDropped p.2)
    s.setJob h { j with slots := [], dropped := j.dropped + (used.filter (fun p => decide (p.2.st ≠ .final))).length }
  | none => s

/-! ### Tiles and contexts -/

/-- The tile has VERDICT or PROVISIONAL among its instructions (R439). -/
def TileD.delivers (t : TileD) : Bool := t.prog.any (fun p => decide (p.1 = 7 ∨ p.1 = 8))

/-- Credits of queue 20 that the tile holds are returned (R439, R442). -/
def State.returnTileCredits (s : State) (t : TileRun) : State :=
  match s.jobOf t.handle with
  | some j =>
    if ((j.img.tiles.drop t.tile).headD {}).delivers then
      s.putQueue 20 ((s.queue 20).useCredit (1024 + t.handle) t.slots.length)
    else s
  | none => s

/-- The tile in progress on engine `e` is abandoned (R190, R274, R401): none of its outputs commit. A tile suspended on a
translation fault is counted, and its transfer is given up. -/
def State.abandonTile (s : State) (e : Nat) : State :=
  let x := s.engine e
  match x.tile with
  | some t =>
    let u := (s.unitOf e).getD 0
    let s := s.when t.susp (fun s => (s.bump Reg.XLT_CNT 5))
    let s := { s with memory := { s.memory with susp := AMap.del s.memory.susp e, resumed := AMap.del s.memory.resumed e } }
    let u := match s.jobOf t.handle with
      | some j => ((j.img.tiles.drop t.tile).headD {}).unit
      | none => u
    let c := s.ctx t.handle u
    let s := (s.setCtx t.handle u { c with nextTile := some t.tile }).returnTileCredits t
    (s.engCnt e 1 1).putEngine e { x with tile := none }
  | none => s

/-- Contexts of a job are emptied. -/
def State.clearCtxs (s : State) (h : Nat) : State :=
  { s with job := { s.job with ctxs := s.job.ctxs.filter (fun p => decide (p.1 / 64 ≠ h)),
                               barriers := s.job.barriers.filter (fun p => decide (p.1 / 64 ≠ h)),
                               sems := s.job.sems.filter (fun p => decide (p.2 ≠ h)) } }

/-- Queue credits that the contexts of a job hold are returned (R303, R315). -/
def State.returnCredits (s : State) (h : Nat) : State :=
  { s with queues := s.queues.map (fun p => (p.1, { p.2 with credits := p.2.credits.filter (fun c => decide (c.1 ≠ 1024 + h)),
                                                             waiting := p.2.waiting.filter (fun c => decide (c.1 ≠ 1024 + h)) })) }

/-- Every engine leaves a job: its tiles are abandoned and its contexts emptied (R287, R315). -/
def State.leaveEngines (s : State) (h : Nat) : State :=
  let s := s.forAll (upTo 42) (fun e s =>
    let x := s.engine e
    let s := s.when (decide ((x.tile.map (fun t => t.handle)) = some h)) (fun s => s.abandonTile e)
    let x := s.engine e
    let gone : Bool := match x.switch with
      | some (.restoring h') => decide (h' = h)
      | some (.saving _) => decide (x.resident = some h)
      | none => false
    if x.resident = some h ∨ gone then
      s.setEngine e { x with resident := if x.resident = some h then none else x.resident,
                             switch := if gone then none else x.switch, preempt := false }
    else s)
  ((s.clearCtxs h).returnCredits h).syncJobs

/-! ### The end of a run (R313 to R315) -/

/-- The completion record (R313). -/
def State.completionRecord (s : State) (h : Nat) (j : Job) (status : Nat) : List Byte :=
  bytesLE 2 h ++ bytesLE 2 status ++ bytesLE 4 j.run ++ bytesLE 8 j.parts ++ bytesLE 4 j.verdicts ++ bytesLE 4 j.dropped
  ++ bytesLE 8 s.now.toNat

/-- The completion queue takes a record, or a DROP queue drops it (R443, R444). -/
def State.qTakes (s : State) (q p : Nat) : Bool := s.qRoom q p || !s.qOn q || s.qDrop q || s.qPacket q

/-- A completion record is placed, or waits for room in a HOLD queue. -/
def State.putCompletion (s : State) (h : Nat) (j : Job) (status : Nat) : State :=
  if s.qTakes j.complQ (1024 + h) then s.qOffer j.complQ (1024 + h) (s.completionRecord h j status)
  else { s with job := { s.job with pendRecords := s.job.pendRecords ++ [(h, j.complQ, s.completionRecord h j status)] } }

/-- Completion records that waited are placed as their queues gain room. -/
def State.flushRecords (s : State) : State :=
  s.job.pendRecords.foldl (fun t r =>
    if t.qTakes r.2.1 (1024 + r.1) then
      { (t.qOffer r.2.1 (1024 + r.1) r.2.2) with
        job := { (t.qOffer r.2.1 (1024 + r.1) r.2.2).job with pendRecords := t.job.pendRecords.erase r } }
    else t) s

/-- A run ends by abort or fault (R287, R315): tiles abandoned, slots dropped, semaphores and credits returned, and the
completion record written. -/
def State.endRun (s : State) (h : Nat) (st : JobState) (status : Nat) : State :=
  let s := (s.leaveEngines h).dropSlots h
  match s.jobOf h with
  | some j =>
    let s := s.putCompletion h j status
    (s.setJob h { j with st := st, lastStatus := if st = .faulted then status else j.lastStatus, switch := j.switch }).syncJobs
  | none => s

/-- A job fault (R287): the run of the job, if one is in progress, ends with the fault's status. -/
def State.faultJob (s : State) (h status : Nat) : State :=
  match s.jobOf h with
  | some j => if j.st.inRun then s.endRun h .faulted status else s
  | none => s

/-- A DRAINING job whose last slot is FREE completes with S_OK once its record can be placed (R287, R313, R314). -/
def State.tryComplete (s : State) (h : Nat) : State :=
  match s.jobOf h with
  | some j =>
    if j.st = .draining ∧ j.used = 0 ∧ s.qTakes j.complQ (1024 + h) then
      let s := s.putCompletion h j S_OK
      let s := (s.leaveEngines h)
      (s.updJob h (fun j => { j with st := .done, slots := [] })).syncJobs
    else s
  | none => s

/-- What is held back for want of room in a queue goes on: completion records, drained jobs, fault records (R313, R574). -/
def State.flushQueues (s : State) : State :=
  (s.job.jobs.foldl (fun t p => t.tryComplete p.1) s.flushRecords).flushHeld

end Sys2Proof.Machine
end

