-- ==== Sys2Proof/Machine/MemOps.lean ====
section
/-!
DEFINITION. The memory towers: stored bytes, the two DRAM codes as bad symbols of a sector, the correction log, the merge
buffers, job address spaces and DMA transfers (chapters 13 and 14).
-/
namespace Sys2Proof.Machine

open Sys2Proof

/-! ### Stored bytes (R378, R379, R385) -/

/-- The byte at a physical address as it stands in DRAM. -/
def State.byte (s : State) (pa : Nat) : Byte := AMap.get s.mem 0 pa
/-- `s` with one byte of DRAM replaced. -/
def State.poke (s : State) (pa : Nat) (v : Byte) : State := { s with mem := AMap.store s.mem 0 pa v }
/-- `n` bytes from a physical address, as they stand in DRAM. -/
def State.peek (s : State) (pa n : Nat) : List Byte := (upTo n).map (fun i => s.byte (pa + i))
/-- `s` with bytes of DRAM replaced from a physical address on. -/
def State.pokes (s : State) (pa : Nat) : List Byte → State
  | [] => s
  | b :: t => (s.poke pa b).pokes (pa + 1) t

/-- The canonical form of DRAM: addresses rising, no byte listed that equals what an unlisted byte reads as. -/
abbrev Memory.wf (m : List Host.Cell) : Prop := AMap.Canon (0 : Byte) m

/-- The vault of a sector (R378). -/
def vaultOf (sector : Nat) : Nat := sector / 2 ^ 24 % 32

/-! ### The outer code (R410 to R417, R430) -/

/-- Symbols set in a mask. -/
def popCount (m : BitVec 36) : Nat := ((List.range 36).filter (fun i => m.getLsbD i)).length
/-- Index of the lowest symbol set. -/
def lowSymbol (m : BitVec 36) : Nat := ((List.range 36).find? (fun i => m.getLsbD i)).getD 63

/-- Bad symbols that a stored sector has. -/
def State.badSyms (s : State) (sector : Nat) : BitVec 36 := ((AMap.look s.memory.errs sector).map (fun e => e.syms)).getD 0
/-- The sector's bad symbols were injected (R430). -/
def State.badInjected (s : State) (sector : Nat) : Bool :=
  ((AMap.look s.memory.errs sector).map (fun e => e.injected)).getD false

/-- The entry of the correction log (R414). -/
def State.ceEntry (s : State) (sector symbol src : Nat) : List Byte :=
  bytesLE 5 (sector % 2 ^ 29) ++ bytesLE 1 symbol ++ bytesLE 1 src ++ bytesLE 1 0 ++ bytesLE 8 s.now.toNat

/-- A corrected read is counted, and logged unless the sector was logged within the last millisecond (R414). -/
def State.corrected (s : State) (sector symbol src : Nat) : State :=
  let v := vaultOf sector
  let s := s.bump Reg.MEM_ECC_CNT v 1
  let recent := match AMap.look s.memory.logged sector with
    | some t => decide (s.since t ≤ 1000000)
    | none => false
  if recent then s
  else
    let q := s.f Reg.MEM_CE_LOG_Q 0 8
    let s := { s with memory := { s.memory with logged := AMap.put s.memory.logged sector s.raw } }
    if s.qRoom q 12 then (s.qAppend q 12 (s.ceEntry sector symbol src)).raise Reg.MEM_ECC_EVENT 0
    else (s.bump Reg.MEM_ECC_CNT v 8).raise Reg.MEM_ECC_EVENT 3

/-! ### Row repair (R423 to R425) -/

/-- MEM_SPARE_STATUS follows the soft map. -/
def State.syncSpare (s : State) : State :=
  let used := s.flash.softMap.length
  let pend := (s.flash.softMap.filter (fun p => decide (p.2 = 0))).length
  s.wr Reg.MEM_SPARE_STATUS (BitVec.ofNat 32 (pend * 2 ^ 11 + used))

/-- 64 KiB pages of the 32,256 MiB outside the reserved region (R386). -/
def poolPages : Nat := 32256 * 16

/-- The page number of a page of a job's address space that has been given back (R310). -/
def noPage : Nat := 2 ^ 19

/-- Pages in use: those of jobs, of the staging buffer, and those withdrawn. -/
def State.pagesUsed (s : State) : List Nat :=
  s.job.jobs.flatMap (fun p => p.2.pages.filter (fun n => decide (n ≠ noPage)) ++ p.2.set2Pages
    ++ p.2.saves.flatMap (fun q => q.2)) ++ s.memory.stagingPages ++ s.memory.withdrawn

/-- MEM_FREE follows the allocation (R386). -/
def State.syncFree (s : State) : State :=
  s.wr Reg.MEM_FREE (BitVec.ofNat 32 ((poolPages - s.pagesUsed.length) / 16))

/-- Rows of one bank share spare rows; a bank is named by the row number without its place in the bank. -/
def bankOf (row : Nat) : Nat := row / 2 ^ 12

/-- Free spare rows of the bank of a row: those left at manufacture less those that the soft map has taken. -/
def State.sparesLeft (s : State) (row : Nat) : Nat :=
  min 8 (Config.spareRows row) - (s.flash.softMap.filter (fun p => decide (bankOf p.1 = bankOf row) && decide (p.2 ≠ 2))).length

/-- A row enters the repair list (R423), or is retired where the bank has no spare row left or the soft map is full
(R425). -/
def State.rowRepair (s : State) (row : Nat) : State :=
  if (AMap.look s.flash.softMap row).isSome then s
  else
    let v := vaultOf (row * 128)
    let s := (s.bump Reg.MEM_ECC_CNT v 5).raise Reg.MEM_ECC_EVENT 2
    if s.sparesLeft row = 0 ∨ 1024 ≤ s.flash.softMap.length then
      let s := { s with
        flash := { s.flash with softMap := if s.flash.softMap.length < 1024 then AMap.put s.flash.softMap row 2
                                           else s.flash.softMap }
        memory := { s.memory with withdrawn := if s.memory.withdrawn.contains (row / 8) then s.memory.withdrawn
                                               else s.memory.withdrawn ++ [row / 8] } }
      (((s.bump Reg.MEM_ECC_CNT v 9).raise Reg.MEM_ECC_EVENT 4).syncSpare).syncFree
    else ({ s with flash := { s.flash with softMap := AMap.put s.flash.softMap row 0 } }).syncSpare

/-! ### Reading and writing sectors (R389 to R392, R413 to R416) -/

/-- A read of a sector: the bad symbols of the first and of the second read, beside those stored. Answers whether the data
is good. Source: 0 local port, 1 network port, 2 patrol, 3 merge buffer (R414, R415, R416). -/
def State.readSector (s : State) (sector src : Nat) (first second : BitVec 36) : State × Bool :=
  let b := s.badSyms sector
  let v := vaultOf sector
  let n := popCount (b ||| first)
  if n = 0 then (s, true)
  else if n = 1 then (s.corrected sector (lowSymbol (b ||| first)) src, true)
  else
    let m := popCount (b ||| second)
    if m ≤ 1 then
      let s := s.bump Reg.MEM_ECC_CNT v 2
      (if m = 1 then s.corrected sector (lowSymbol (b ||| second)) src else s, true)
    else
      let s := (s.bump Reg.MEM_ECC_CNT v 3).raise Reg.MEM_ECC_EVENT 1
      let inj := s.badInjected sector
      let s := s.faultRetried
        { status := S_UNCORRECTABLE, block := 12, cause := 1, unit := v, cls := 0, injected := inj, action := 1,
          address := sector * 64, detail := bytesLE 5 (b ||| second).toNat } 2
      (if inj then s else s.rowRepair (sector / 128), false)

/-- The merge buffer of a vault. -/
def State.mergeOf (s : State) (v : Nat) : List MergeEnt := AMap.get s.memory.merge [] v

/-- A merge buffer replaced; MEM_VAULT_MERGE follows. -/
def State.setMerge (s : State) (v : Nat) (l : List MergeEnt) : State :=
  let s := { s with memory := { s.memory with merge := AMap.store s.memory.merge [] v l } }
  let hw := max (s.f Reg.MEM_VAULT_MERGE 16 16 v) l.length
  s.wr Reg.MEM_VAULT_MERGE (BitVec.ofNat 32 (hw * 2 ^ 16 + l.length)) v

/-- Bytes of an entry merged into DRAM. -/
def State.mergeBytes (s : State) (e : MergeEnt) : State := s.forAll e.bytes (fun p s => s.poke (e.sector * 64 + p.1) p.2)

/-- An uncorrectable fault of the sources of a merge entry (R392): jobs by handle; other sources have the fault record. -/
def State.faultSources (s : State) (l : List Nat) : State := s.forAll l (fun h s => s.faultJob h S_UNCORRECTABLE)

/-- An entry is retired (R390, R392): as a whole sector when its mask is full, else by read-modify-write. -/
def State.retireMerge (s : State) (e : MergeEnt) : State :=
  let v := vaultOf e.sector
  let s := s.setMerge v ((s.mergeOf v).filter (fun x => decide (x.sector ≠ e.sector)))
  if e.bytes.length = 64 then ((s.mergeBytes e).sectorStored e.sector).bump Reg.MEM_VAULT_CNT v 3
  else
    let r := s.readSector e.sector 3 0 0
    let s := r.1.bump Reg.MEM_VAULT_CNT v 4
    if r.2 then (s.mergeBytes e).sectorStored e.sector
    else ((s.bump Reg.MEM_VAULT_CNT v 7).raise Reg.MEM_EVENT 3).faultSources e.sources

/-- A read or an atomic update waits for the entry of its sector (R391). -/
def State.settleSector (s : State) (sector : Nat) : State :=
  match (s.mergeOf (vaultOf sector)).find? (fun e => decide (e.sector = sector)) with
  | some e => (s.retireMerge e).bump Reg.MEM_VAULT_CNT (vaultOf sector) 6
  | none => s

/-- Bytes counted towards whole MiB (MEM_VAULT_CNT 0 to 2). -/
def State.countBytes (s : State) (k v n : Nat) : State :=
  let m := s.memory
  let acc := (if k = 0 then AMap.get m.rdLocal 0 v else if k = 1 then AMap.get m.rdNet 0 v else AMap.get m.wrBytes 0 v) + n
  let left := acc % 2 ^ 20
  let m' := if k = 0 then { m with rdLocal := AMap.store m.rdLocal 0 v left }
    else if k = 1 then { m with rdNet := AMap.store m.rdNet 0 v left }
    else { m with wrBytes := AMap.store m.wrBytes 0 v left }
  let s := { s with memory := m' }
  if 2 ^ 20 ≤ acc then s.bumpBy (acc / 2 ^ 20) Reg.MEM_VAULT_CNT v k else s

/-- A read of one sector by a port: 0 local, 1 network. -/
def State.fetchSector (s : State) (sector port : Nat) (first second : BitVec 36) : State × Bool :=
  ((s.settleSector sector).countBytes port (vaultOf sector) 64).readSector sector port first second

/-- A write of part of a sector: whole sectors directly, else through the merge buffer (R389, R390). `src`: the handle of
the job that writes, or a number above 1,023. -/
def State.writeSector (s : State) (sector off src : Nat) (l : List Byte) : State :=
  let v := vaultOf sector
  let s := s.countBytes 2 v l.length
  let old := (s.mergeOf v).find? (fun e => decide (e.sector = sector))
  if l.length = 64 then
    let s := s.setMerge v ((s.mergeOf v).filter (fun x => decide (x.sector ≠ sector)))
    (s.pokes (sector * 64) l).sectorStored sector
  else
    let s := if old.isNone ∧ 64 ≤ (s.mergeOf v).length then
        match (s.mergeOf v) with
        | e :: _ => ((s.retireMerge e).bump Reg.MEM_VAULT_CNT v 5).raise Reg.MEM_EVENT 2
        | [] => s
      else s
    let base : MergeEnt := old.getD { sector := sector, bytes := [], at_ := s.raw, sources := [] }
    let e : MergeEnt :=
      { base with
        bytes := l.zipIdx.foldl (fun m p => AMap.put m (off + p.2) p.1) base.bytes
        sources := if base.sources.contains src then base.sources else base.sources ++ [src] }
    let rest := (s.mergeOf v).filter (fun x => decide (x.sector ≠ sector))
    let s := s.setMerge v (if old.isSome then (s.mergeOf v).map (fun x => if x.sector = sector then e else x) else rest ++ [e])
    if e.bytes.length = 64 then s.retireMerge e else s

/-- A write of bytes at a physical address, sector by sector; `fuel` bounds the number of sectors. -/
def State.writePhys (s : State) (src : Nat) : Nat → Nat → List Byte → State
  | 0, _, _ => s
  | fuel + 1, pa, l =>
    match l with
    | [] => s
    | _ =>
      let off := pa % 64
      let n := min l.length (64 - off)
      (s.writeSector (pa / 64) off src (l.take n)).writePhys src fuel (pa + n) (l.drop n)

/-- Bytes at a physical address read through the network port; none where a sector is uncorrectable. -/
def State.readPhys (s : State) : Nat → Nat → Nat → State × Option (List Byte)
  | 0, _, _ => (s, some [])
  | fuel + 1, pa, n =>
    if n = 0 then (s, some [])
    else
      let off := pa % 64
      let k := min n (64 - off)
      let r := s.fetchSector (pa / 64) 1 0 0
      if r.2 then
        let t := r.1.readPhys fuel (pa + k) (n - k)
        (t.1, t.2.map (fun l => s.peek pa k ++ l))
      else (r.1, none)

/-! ### Translation (R393 to R399) -/

/-- Causes of R399, in the order of its table, as DETAIL of a fault record names them. -/
inductive XCause where
  | load | migrating | bad | noWrite | tableUe | again
  deriving DecidableEq, Repr

/-- The number of a cause. -/
def XCause.code : XCause → Nat
  | .load => 1
  | .migrating => 2
  | .bad => 3
  | .noWrite => 4
  | .tableUe => 5
  | .again => 6

/-- What a walk answers: a physical address, or a cause with the table level. -/
inductive Walk where
  | ok (pa : Nat)
  | stop (c : XCause) (level : Nat)
  deriving DecidableEq, Repr

/-- What an entry that is not valid answers. -/
def kindCause (e : Nat) : XCause := if e / 4 % 4 = 1 then .load else if e / 4 % 4 = 2 then .migrating else .bad

/-- A reserved field of an entry is not zero (R395). -/
def entryBad (e : Nat) : Bool := decide (e / 2 ^ 35 % 2 ^ 13 ≠ 0) || decide (e / 2 ^ 6 % 4 ≠ 0) || decide (e / 2 % 2 ≠ 0)

/-- One table entry, read through the network port (R398). -/
def State.readEntry (s : State) (pa : Nat) : State × Option Nat :=
  let r := s.fetchSector (pa / 64) 1 0 0
  (r.1, if r.2 then some (natLE (r.1.peek pa 8)) else none)

/-- A table walk for a job virtual address (R394, R395, R399). -/
def State.walk (s : State) (h va : Nat) (write : Bool) : State × Walk :=
  let lo := s.rd Reg.XLT_ROOT_LO h
  let root := fld (s.rd Reg.XLT_ROOT_HI h) 0 3 * 2 ^ 32 + fld lo 13 19 * 2 ^ 13
  if !lo.getLsbD 0 then (s, .stop .bad 0)
  else
    let leaf (e mask : Nat) (level : Nat) : Walk :=
      let pa := e % 2 ^ 35 / 2 ^ 8 * 2 ^ 8
      if pa % mask ≠ 0 then .stop .bad level
      else if write ∧ e / 16 % 2 = 0 then .stop .noWrite level
      else .ok (pa + va % mask)
    match s.readEntry (root + va / 2 ^ 30 % 1024 * 8) with
    | (s1, none) => (s1, .stop .tableUe 1)
    | (s1, some e1) =>
      if entryBad e1 then (s1, .stop .bad 1)
      else if e1 % 2 = 0 then (s1, .stop (kindCause e1) 1)
      else
        match s1.readEntry (e1 % 2 ^ 35 / 2 ^ 8 * 2 ^ 8 + va / 2 ^ 21 % 512 * 8) with
        | (s2, none) => (s2, .stop .tableUe 2)
        | (s2, some e2) =>
          if entryBad e2 then (s2, .stop .bad 2)
          else if e2 % 2 = 0 then (s2, .stop (kindCause e2) 2)
          else if e2 / 32 % 2 = 1 then (s2, leaf e2 (2 ^ 21) 2)
          else
            match s2.readEntry (e2 % 2 ^ 35 / 2 ^ 8 * 2 ^ 8 + va / 2 ^ 16 % 32 * 8) with
            | (s3, none) => (s3, .stop .tableUe 3)
            | (s3, some e3) =>
              if entryBad e3 then (s3, .stop .bad 3)
              else if e3 % 2 = 0 then (s3, .stop (kindCause e3) 3)
              else (s3, leaf e3 (2 ^ 16) 3)

/-- A translation by the unit of engine `e`: a page that is not cached costs a walk that is counted (R398). -/
def State.translate (s : State) (e h va : Nat) (write : Bool) : State × Walk :=
  let page := (h, va / 2 ^ 16)
  let cache := AMap.get s.memory.tlb [] e
  let r := s.walk h va write
  if cache.contains page then r
  else
    match r.2 with
    | .ok _ =>
      let c := (page :: cache).take 256
      ({ r.1 with memory := { r.1.memory with tlb := AMap.put r.1.memory.tlb e c } }.bump Reg.XLT_CNT 0, r.2)
    | .stop _ _ => (r.1.bump Reg.XLT_CNT 0, r.2)

/-! ### DMA transfers (R400) -/

/-- How a transfer ends: with its bytes, at a translation fault, or at an uncorrectable sector. -/
inductive Dma where
  | done (data : List Byte)
  | xlt (c : XCause) (level va offset : Nat)
  | ue (va : Nat)
  deriving DecidableEq, Repr

/-- The port by which engine `e` reaches a vault: the local port of the logical spire of the same number (R380). -/
def State.portOf (s : State) (e v : Nat) : Nat := if isSpire e ∧ s.unitOf e = some v then 0 else 1

/-- A DMA read of `n` bytes, sector by sector. `at_` is the offset of the part still to come. -/
def State.dmaRead (s : State) (e h : Nat) (up : Option ReadUpset) : Nat → Nat → Nat → Nat → State × Dma
  | 0, _, _, _ => (s, .done [])
  | fuel + 1, va, n, at_ =>
    if n = 0 then (s, .done [])
    else
      let off := va % 64
      let k := min n (64 - off)
      match s.translate e h va false with
      | (s1, .stop c l) => (s1, .xlt c l va (at_ / 64 * 64))
      | (s1, .ok pa) =>
        let hit := match up with
          | some u => if u.sector = at_ / 64 then (u.first, u.second) else (0, 0)
          | none => (0, 0)
        match s1.fetchSector (pa / 64) (s1.portOf e (vaultOf (pa / 64))) hit.1 hit.2 with
        | (s2, false) => (s2, .ue va)
        | (s2, true) =>
          match s2.dmaRead e h up fuel (va + k) (n - k) (at_ + k) with
          | (s3, .done l) => (s3, .done (s2.peek pa k ++ l))
          | r => r

/-- A DMA write, sector by sector; it stops at the sector below a translation fault (R400). -/
def State.dmaWrite (s : State) (e h : Nat) : Nat → Nat → List Byte → Nat → State × Dma
  | 0, _, _, _ => (s, .done [])
  | fuel + 1, va, l, at_ =>
    match l with
    | [] => (s, .done [])
    | _ =>
      let off := va % 64
      let k := min l.length (64 - off)
      match s.translate e h va true with
      | (s1, .stop c lv) => (s1, .xlt c lv va (at_ / 64 * 64))
      | (s1, .ok pa) => (s1.writeSector (pa / 64) off h (l.take k)).dmaWrite e h fuel (va + k) (l.drop k) (at_ + k)

/-- Sectors that `n` bytes can touch. -/
def sectorsOf (n : Nat) : Nat := n / 64 + 2

/-! ### Translation faults of a tile (R399 to R401) -/

/-- The resolvable fault of a transfer on the same page as the one resumed before it is lasting (R399). -/
def State.xCauseNow (s : State) (e va : Nat) (c : XCause) : XCause :=
  if (c = .load ∨ c = .migrating) ∧ AMap.look s.memory.resumed e = some (va / 2 ^ 16) then .again else c

/-- The fault record of a translation fault. -/
def xltRecord (e h stream tile va offset level : Nat) (write : Bool) (c : XCause) : FaultRec :=
  { status := match c with
      | .load => S_OK
      | .migrating => S_OK
      | .tableUe => S_UNCORRECTABLE
      | _ => S_XLT_FAULT
    block := 13, cause := 5, unit := e
    cls := match c with
      | .load => 0
      | .migrating => 0
      | .again => 2
      | _ => 3
    write := write
    action := match c with
      | .load => 1
      | .migrating => 1
      | _ => 7
    handle := h, stream := stream, tile := tile, address := va, offset := offset
    detail := bytesLE 1 c.code ++ bytesLE 1 level }

/-- The transfer of engine `e` waits (R400). -/
def State.suspend (s : State) (e : Nat) (x : XltSusp) : State :=
  { s with memory := { s.memory with susp := AMap.put s.memory.susp e x } }

/-- A translation fault of engine `e`: the tile suspends where the fault can be resolved, else the job is faulted. -/
def State.xltFault (s : State) (e h stream tile va offset level : Nat) (write : Bool) (c0 : XCause) : State :=
  let c := s.xCauseNow e va c0
  let seq := s.fault.seq
  let s := s.faultNew (xltRecord e h stream tile va offset level write c)
  let su (kind : Nat) : XltSusp :=
    { handle := h, va := va, offset := offset, write := write, kind := kind, seq := seq, stream := stream, tile := tile,
      level := level }
  match c with
  | .load => ((s.suspend e (su 1)).bump Reg.XLT_CNT 1).raise Reg.XLT_EVENT 0
  | .migrating => ((s.suspend e (su 2)).bump Reg.XLT_CNT 2).raise Reg.XLT_EVENT 0
  | .tableUe => (s.raise Reg.XLT_EVENT 3).faultJob h S_UNCORRECTABLE
  | _ => ((s.bump Reg.XLT_CNT 3).raise Reg.XLT_EVENT 1).faultJob h S_XLT_FAULT

/-! ### Page tables as firmware lays them out (R386, R394) -/

/-- The reserved region of vault `v`: its top 16 MiB. -/
def reservedBase (v : Nat) : Nat := v * 2 ^ 30 + 0x3F000000
/-- Level-1 table of a job. -/
def l1Base (h : Nat) : Nat := reservedBase 0 + h * 8192
/-- Level-2 table of GiB `g` of a job. -/
def l2Base (h g : Nat) : Nat := reservedBase 1 + (h * 32 + g) % 4096 * 4096
/-- Level-3 table of 2 MiB unit `m` of a job. -/
def l3Base (h m : Nat) : Nat := reservedBase (2 + h / 4 % 30) + (h % 4) * 2 ^ 22 + m % 16384 * 256

/-- Physical page number of the `i`-th page of the pool, the reserved regions passed over (R386). -/
def poolPage (i : Nat) : Nat := i / 16128 * 16384 + i % 16128

/-- The first `n` free pages of the pool; `fuel` bounds the pages looked at. -/
def takePages (used : List Nat) : Nat → Nat → Nat → List Nat
  | 0, _, _ => []
  | fuel + 1, i, n =>
    if n = 0 then [] else if used.contains (poolPage i) then takePages used fuel (i + 1) n
    else poolPage i :: takePages used fuel (i + 1) (n - 1)

/-- `n` free pages, if the pool has them. -/
def State.allocPages (s : State) (n : Nat) : Option (List Nat) :=
  let used := s.pagesUsed
  if poolPages < used.length + n then none
  else
    let l := takePages used (used.length + n) 0 n
    if l.length = n then some l else none

/-- An entry of a level-3 table: page, KIND, V. -/
def pageEntry (page kind : Nat) (v : Bool) : List Byte := bytesLE 8 (page * 2 ^ 16 + 16 + kind * 4 + v.toNat)

/-- The level-3 entry of page `i` of a job's address space, with its upper entries. -/
def State.mapPage (s : State) (h i page kind : Nat) (v : Bool) : State :=
  let g := i / 16384
  let m := i / 32
  let s := s.writePhys 2048 2 (l1Base h + g * 8) (bytesLE 8 (l2Base h g + 1))
  let s := s.writePhys 2048 2 (l2Base h g + m % 512 * 8) (bytesLE 8 (l3Base h m + 1))
  s.writePhys 2048 2 (l3Base h m + i % 32 * 8) (pageEntry page kind v)

/-- Firmware maps the pages of a job: those below `valid` with V = 1, the others with KIND LOAD (R396, R397). -/
def State.mapJob (s : State) (h : Nat) (pages : List Nat) (valid : Nat) : State :=
  let s := s.forAll pages.zipIdx (fun p s => s.mapPage h p.2 p.1 (if p.2 < valid then 0 else 1) (decide (p.2 < valid)))
  (s.wr Reg.XLT_ROOT_LO (BitVec.ofNat 32 (l1Base h + 1)) h).wr Reg.XLT_ROOT_HI (BitVec.ofNat 32 (l1Base h / 2 ^ 32)) h

/-- The address space of a job is given up. -/
def State.unmapJob (s : State) (h : Nat) : State := (s.wr Reg.XLT_ROOT_LO 0 h).wr Reg.XLT_ROOT_HI 0 h

/-- Bytes of a job's virtual address space written by firmware, page by page. -/
def State.fwWrite (s : State) (pages : List Nat) : Nat → Nat → List Byte → State
  | 0, _, _ => s
  | fuel + 1, va, l =>
    match l with
    | [] => s
    | _ =>
      let off := va % 65536
      let n := min l.length (65536 - off)
      (s.writePhys 2048 1026 ((pages.drop (va / 65536)).headD 0 * 65536 + off) (l.take n)).fwWrite pages fuel (va + n) (l.drop n)

end Sys2Proof.Machine
end

