-- ==== Sys2Proof/Machine/IspOps.lean ====
section
/-!
DEFINITION. The image pipelines (spec/04_image_pipeline.md): contexts and their configuration in force, the lines of a
source, a stripe or frame from source rows to output rows, and the output rings.
-/
namespace Sys2Proof.Machine

open Sys2Proof

/-! ### Configuration in force (R128) -/

/-- The number of context `c` of pipeline `p`. -/
def ctxNum (p c : Nat) : Nat := 4 * p + c

/-- The shadow registers of a context, and of an output unit. -/
def ctxShadows : List RegRow :=
  [Reg.ISP_CTX_CFG, Reg.ISP_NR_CFG, Reg.ISP_TNR_CFG, Reg.ISP_TNR_BASE_LO, Reg.ISP_TNR_BASE_HI, Reg.ISP_FF_CFG,
   Reg.ISP_FF_BASE_LO, Reg.ISP_FF_BASE_HI, Reg.ISP_LDC_CFG, Reg.ISP_LDC_CENTRE, Reg.ISP_LDC_COEF, Reg.ISP_MESH_CFG,
   Reg.ISP_MESH_BASE_LO, Reg.ISP_MESH_BASE_HI]
/-- The shadow registers of an output unit. -/
def outShadows : List RegRow :=
  [Reg.ISP_OUT_CFG, Reg.ISP_OUT_CROP_X, Reg.ISP_OUT_CROP_Y, Reg.ISP_OUT_SCALE, Reg.ISP_OUT_BASE_LO, Reg.ISP_OUT_BASE_HI]

/-- A configuration: the word of element `j`, `k` of a register of the pipeline. Checks read it from the shadows, stages
from what is in force. -/
abbrev IspCfg := RegRow → Nat → Nat → Word

/-- The shadows of a pipeline. -/
def State.ispShadow (s : State) (p : Nat) : IspCfg := fun r j k => s.rd r p j k
/-- The configuration in force of a context. -/
def State.ispForce (s : State) (p c : Nat) : IspCfg := fun r j k => s.inForce p c r j k

/-- A base address from its pair: bits [34:12]. -/
def basePair (lo hi : Word) : Nat := (fld hi 0 3) * 2 ^ 32 + (fld lo 12 20) * 2 ^ 12

/-- STRIPE_LINES of a context. -/
def stripeLines (f : IspCfg) (c : Nat) : Nat := clampN 16 1024 (fld (f Reg.ISP_CTX_CFG c 0) 17 11)
/-- WEIGHT of a context. -/
def ctxWeight (f : IspCfg) (c : Nat) : Nat := max 1 (fld (f Reg.ISP_CTX_CFG c 0) 28 4)
/-- The source of a context: SRC_KIND and SRC. -/
def ctxSrc (f : IspCfg) (c : Nat) : Nat × Nat := (fld (f Reg.ISP_CTX_CFG c 0) 5 1, fld (f Reg.ISP_CTX_CFG c 0) 0 5)
/-- Lines on each side that spatial noise reduction takes (R104); 0 with it off. -/
def snrRadius (f : IspCfg) (c : Nat) : Nat :=
  let w := f Reg.ISP_NR_CFG c 0
  if w.getLsbD 0 then 1 + fld w 1 1 else 0
/-- The output units bound to a context. -/
def ctxOuts (f : IspCfg) (c : Nat) : List Nat :=
  (upTo 4).filter (fun o => (f Reg.ISP_OUT_CFG o 0).getLsbD 0 && decide (fld (f Reg.ISP_OUT_CFG o 0) 1 2 = c))
/-- COLOUR of an output unit: 0 MONO, 1 RGB, 2 PLANES4. -/
def outColour (f : IspCfg) (o : Nat) : Nat := fld (f Reg.ISP_OUT_CFG o 0) 8 2
/-- HSCALE and VSCALE of an output unit (R115). -/
def outScale (f : IspCfg) (o : Nat) : Nat × Nat :=
  let w := f Reg.ISP_OUT_SCALE o 0
  (clampN 0x100 0x1000 (fld w 0 16), clampN 0x100 0x1000 (fld w 16 16))

/-- The spacing of mesh points in pixels. -/
def meshSpacing (w : Word) : Nat := 16 * 2 ^ fld w 1 2
/-- Points of a mesh: columns and rows; a line-scan context has one row (R110). -/
def meshSize (w : Word) (area : Bool) : Nat × Nat := (fld w 10 11, if area then fld w 21 11 else 1)

/-! ### Sources (R99, R101) -/

/-- What port `n` gives a pipeline. -/
def State.portSrc (s : State) (n : Nat) : PixSrc :=
  let p := s.camPattern n
  { w := s.camWidth n, comps := s.camComps n, bayer := if 1 ≤ p ∧ p ≤ 4 then p else 0,
    depth := [8, 10, 12, 16].getD (s.f Reg.CAM_FMT 18 2 n) 8, fill := s.f Reg.CAM_FRAME_CFG 16 16 n, area := s.camArea n }

/-- What a decoder stream gives a pipeline: the size and depth are those of the sample. -/
def State.sampleSrc (s : State) (n : Nat) (x : DecSample) : PixSrc :=
  { w := x.width, comps := x.comps, bayer := 0, depth := x.depth, fill := s.f Reg.DEC_STREAM_FILL 0 16 n, area := true }

/-- The source of a context is an area source. -/
def State.srcArea (s : State) (src : Nat × Nat) : Bool := decide (src.1 = 1) || s.camArea (src.2 % 8)

/-- Order of lines: by block, then by index. -/
def lineBefore (a b : CamLine) : Bool := decide (a.block < b.block) || (decide (a.block = b.block) && decide (a.index ≤ b.index))

/-- A line put into its place in an ordered list. -/
def putLine (x : CamLine) : List CamLine → List CamLine
  | [] => [x]
  | y :: t => if lineBefore x y then x :: y :: t else y :: putLine x t

/-- The lines of port `n` that context `x` has still to consume, in order, as far as they are written in full. -/
def State.linesFor (s : State) (n x : Nat) : List CamLine :=
  (((s.cam n).slots.filter (fun l => l.readers.contains x)).foldr putLine []).takeWhile (fun l => l.full)

/-- The marks of a line: those of its block (R96). -/
def State.lineMarks (s : State) (n : Nat) (l : CamLine) : Word :=
  match (s.cam n).block with
  | some b => if b.id = l.block then b.marks else l.marks
  | none => l.marks

/-- A line as a pipeline takes it. -/
def State.srcLine (s : State) (n : Nat) (l : CamLine) : SrcLine :=
  { block := l.block, index := l.index, aligned := l.aligned, trig := l.trig, time := l.time, marks := s.lineMarks n l,
    pix := l.pix }

/-- Context `x` has consumed the lines given (R89). -/
def State.consumeLines (s : State) (n x : Nat) (l : List (Nat × Nat)) : State :=
  (s.updCam n (fun c => { c with slots := c.slots.map (fun y =>
    if l.contains (y.block, y.index) then { y with readers := y.readers.filter (fun r => decide (r ≠ x)) } else y) })).camRelease n

/-- A context has released a sample of a decoder stream; a slot that no context holds is free (R145). -/
def State.consumeSample (s : State) (n x : Nat) (seq : Word) : State :=
  let d := s.stream n
  let ring := d.ring.map (fun y => if y.seq = seq then { y with readers := y.readers.filter (fun r => decide (r ≠ x)) } else y)
  s.setStream n { d with ring := ring.filter (fun y => decide (y.readers ≠ [])) }

/-- A frame of the block of port `n` that comes first: all its lines, a dropped one with open values. -/
def State.frameLines (s : State) (n x : Nat) (l : List CamLine) : List SrcLine :=
  match l with
  | [] => []
  | f :: _ =>
    let own := l.filter (fun y => decide (y.block = f.block))
    (upTo (s.blockLines n)).map (fun i =>
      match own.find? (fun y => decide (y.index = i)) with
      | some y => s.srcLine n y
      | none =>
        { s.srcLine n f with index := i, pix := (upTo (s.camWidth n * s.camComps n)).map (fun k => Config.openSample x f.block i k) })

/-- The rows of a sample as lines. -/
def sampleLines (x : DecSample) : List SrcLine :=
  x.rows.zipIdx.map (fun p => { block := x.seq.toNat, index := p.2, aligned := x.aligned, trig := x.trig, time := x.time,
                                marks := x.marks, pix := p.1 })

/-! ### Tables in memory (R105, R106, R110, R134) -/

/-- `n` bytes of a table, with the first sector that cannot be corrected. -/
def State.readTable (s : State) : Nat → Nat → Nat → State × List Byte × Option Nat
  | 0, _, _ => (s, [], none)
  | fuel + 1, pa, n =>
    if n = 0 then (s, [], none)
    else
      let k := min n (64 - pa % 64)
      let r := s.fetchSector (pa / 64) 1 0 0
      let t := r.1.readTable fuel (pa + k) (n - k)
      (t.1, s.peek pa k ++ t.2.1, if r.2 then t.2.2 else some (pa / 64))

/-- A whole table. -/
def State.table (s : State) (pa n : Nat) : State × List Byte × Option Nat := s.readTable (n / 64 + 2) pa n

/-- Little-endian words of a table. -/
def wordsLE : Nat → List Byte → List Word
  | 0, _ => []
  | n + 1, l => BitVec.ofNat 32 (natLE (l.take 4)) :: wordsLE n (l.drop 4)

/-- Entries of the correction table of a context (R105). -/
def flatEntries (c : PixSrc) (h : Nat) : Nat := c.w * c.comps * (if c.area then h else 1)

/-- The record of a table that cannot be read (R134, R572). -/
def tableRecord (p c sector : Nat) : FaultRec :=
  { block := 7, cause := 9, unit := p, cls := 3, status := S_UNCORRECTABLE, address := sector * 64,
    detail := bytesLE 1 p ++ bytesLE 1 c }

/-- The tables that a unit of work reads. -/
structure IspTables where
  flat : List Word := []
  defects : List Word := []
  mesh : List Byte := []
  /-- A table could not be read. -/
  bad : Bool := false
  deriving DecidableEq, Repr

/-- One table read; an uncorrectable one is recorded, counted and raised (R134). -/
def State.ispTable (s : State) (p c pa n : Nat) : State × List Byte × Bool :=
  let r := s.table pa n
  match r.2.2 with
  | some sec => (((r.1.faultNew (tableRecord p c sec)).bump Reg.ISP_CNT p 7).raise Reg.ISP_EVENT 8 p, r.2.1, true)
  | none => (r.1, r.2.1, false)

/-- The tables of context `c` under a configuration, for a source with frames of `h` rows. -/
def State.ispTables (s : State) (p c : Nat) (f : IspCfg) (src : PixSrc) (h : Nat) : State × IspTables :=
  let ff := f Reg.ISP_FF_CFG c 0
  let base := basePair (f Reg.ISP_FF_BASE_LO c 0) (f Reg.ISP_FF_BASE_HI c 0)
  let n := flatEntries src h
  let r1 := if ff.getLsbD 0 then s.ispTable p c base (4 * n) else (s, [], false)
  let m := min 4096 (fld ff 16 13)
  let useList := ff.getLsbD 1 || (f Reg.ISP_NR_CFG c 0).getLsbD 0
  let r2 := if useList ∧ m ≠ 0 then r1.1.ispTable p c (base + 4 * n) (4 * m) else (r1.1, [], false)
  let mw := f Reg.ISP_MESH_CFG c 0
  let size := meshSize mw src.area
  let r3 := if mw.getLsbD 0 then r2.1.ispTable p c (basePair (f Reg.ISP_MESH_BASE_LO c 0) (f Reg.ISP_MESH_BASE_HI c 0))
      (8 * size.1 * size.2) else (r2.1, [], false)
  (r3.1, { flat := wordsLE (r1.2.1.length / 4) r1.2.1, defects := wordsLE (r2.2.1.length / 4) r2.2.1, mesh := r3.2.1,
           bad := r1.2.2 || r2.2.2 || r3.2.2 })

/-- Pixel `(x, y)` is on the defect list; in a line-scan context the row is 0 (R106). -/
def IspTables.listed (t : IspTables) (area : Bool) (x y : Nat) : Bool :=
  t.defects.any (fun w => decide (fld w 0 15 = x) && decide (fld w 16 15 = if area then y else 0))

/-- The geometry of a context. -/
def ispGeometry (f : IspCfg) (c : Nat) (area : Bool) (mesh : List Byte) : Geometry :=
  let l := f Reg.ISP_LDC_CFG c 0
  let m := f Reg.ISP_MESH_CFG c 0
  let z := f Reg.ISP_LDC_CENTRE c 0
  { mesh := if m.getLsbD 0 then
      some { spacing := meshSpacing m, cols := (meshSize m area).1, rows := (meshSize m area).2, bytes := mesh } else none
    lens := if l.getLsbD 0 then
      some { cx := fld z 16 16, cy := fld z 0 16, norm := max 1 (fld l 16 16),
             coef := (upTo 5).map (fun i => (f Reg.ISP_LDC_COEF c i).toInt) } else none
    cubic := l.getLsbD 1 }

/-- A geometry stage is enabled. -/
def geometryOn (f : IspCfg) (c : Nat) : Bool := (f Reg.ISP_LDC_CFG c 0).getLsbD 0 || (f Reg.ISP_MESH_CFG c 0).getLsbD 0

/-- The source is demosaiced for some output of the context (R112). -/
def ispDemosaics (f : IspCfg) (c : Nat) (bayer : Nat) : Bool :=
  decide (bayer ≠ 0) && (geometryOn f c || (ctxOuts f c).any (fun o => decide (outColour f o = 1)))

/-- Rows that the reach is taken over: all of a frame, one line of a line-scan context (R113). -/
def reachRows (area : Bool) (h : Nat) : List Nat := if area then upTo h else [0]

/-- Lines that a line-scan context needs before it can process a line: noise reduction, demosaic, downward reach (R123). -/
def ispAhead (f : IspCfg) (c : Nat) (src : PixSrc) (mesh : List Byte) : Nat :=
  snrRadius f c + (if ispDemosaics f c src.bayer then 1 else 0)
    + ((ispGeometry f c src.area mesh).reach src (reachRows src.area 1)).1

/-- The line delay of R127. -/
def lineDelay (f : IspCfg) (c : Nat) (src : PixSrc) (h : Nat) (mesh : List Byte) : Nat :=
  stripeLines f c - 1 + snrRadius f c + ((ispGeometry f c src.area mesh).reach src (reachRows src.area h)).1
    + (if !src.area ∧ src.bayer ≠ 0 ∧ (ctxOuts f c).any (fun o => decide (outColour f o = 1)) then 1 else 0)

/-! ### Stages (R100) -/

/-- What the stages make of the rows that a unit of work sees. -/
structure StageOut where
  /-- After defect correction. -/
  corrected : List PixRow
  /-- After the demosaic, for a Bayer source that is demosaiced. -/
  rgb : List PixRow
  deriving DecidableEq, Repr

/-- Noise reduction, flat field, defect correction and demosaic on the rows of a window; temporal noise reduction has
already been done. -/
def stageRows (f : IspCfg) (x c : Nat) (src : PixSrc) (t : IspTables) (block : Nat) (rows : List PixRow) : StageOut :=
  let listed := t.listed src.area
  let r := snrRadius f c
  let thresh := fld (f Reg.ISP_NR_CFG c 0) 16 16
  let rows := rows.map (fun q => { q with pix := q.pix.map (fun v => min v src.top) })
  let snr := if r = 0 then rows else rows.zipIdx.map (fun p => snrRow src rows r thresh listed p.2 p.1)
  let ff := f Reg.ISP_FF_CFG c 0
  let n := src.w * src.comps
  let flat := if ff.getLsbD 0 then
      snr.map (fun q => (flatRow src.top (if src.area then (t.flat.drop (q.num * n)).take n else t.flat) q).1) else snr
  let fixed := if ff.getLsbD 1 then flat.map (fun q => (defectRow src (fun x => listed x q.num) q).1) else flat
  let rgb := if ispDemosaics f c src.bayer then
      fixed.zipIdx.map (fun p => demosaicRow src fixed (fun px col => min src.top (Config.openSample x block p.1.num (3 * px + col)))
        p.2 p.1)
    else fixed
  { corrected := fixed, rgb := rgb }

/-- Clamps of the flat field and unresolved defects of the rows that a unit of work processes (ISP_CNT 4 and 3). -/
def stageCounts (f : IspCfg) (c : Nat) (src : PixSrc) (t : IspTables) (rows : List PixRow) (first n : Nat) : Nat × Nat :=
  let listed := t.listed src.area
  let r := snrRadius f c
  let snr := if r = 0 then rows else rows.zipIdx.map (fun p => snrRow src rows r (fld (f Reg.ISP_NR_CFG c 0) 16 16) listed p.2 p.1)
  let ff := f Reg.ISP_FF_CFG c 0
  let k := src.w * src.comps
  let own := (snr.drop first).take n
  let flat := own.map (fun q =>
    if ff.getLsbD 0 then flatRow src.top (if src.area then (t.flat.drop (q.num * k)).take k else t.flat) q else (q, 0))
  let unres := if ff.getLsbD 1 then (flat.map (fun q => (defectRow src (fun x => listed x q.1.num) q.1).2)).sum else 0
  ((flat.map (fun q => q.2)).sum, unres)

/-- The rows that reach an output: corrected, demosaiced or resampled; `base` is the number of the first row of the window
relative to the first row processed, `n` rows are processed. -/
def outputRows (f : IspCfg) (c o : Nat) (src : PixSrc) (t : IspTables) (st : StageOut) (base n : Nat) : List PixRow :=
  let g := ispGeometry f c src.area t.mesh
  let rgb := decide (src.bayer ≠ 0) && (g.on || decide (outColour f o = 1))
  let comps := if rgb then 3 else src.comps
  let rows := if rgb then st.rgb else st.corrected
  let own := (rows.drop base).take n
  if g.on then
    own.zipIdx.map (fun p => resampleRow g src comps rows (-(base : Int)) p.2 p.1)
  else own

/-- Components of a pixel that an output writes. -/
def outComps (f : IspCfg) (c o : Nat) (src : PixSrc) : Nat :=
  if outColour f o = 2 then 4
  else if src.bayer ≠ 0 ∧ (geometryOn f c ∨ outColour f o = 1) then 3 else src.comps

/-! ### Output units (R115 to R118) -/

/-- A row cut to the columns of the crop that lie in the image (R115). -/
def cropRow (f : IspCfg) (o comps w : Nat) (pix : List Nat) : List Nat :=
  let cw := f Reg.ISP_OUT_CROP_X o 0
  let x0 := min w (fld cw 0 16)
  ((pix.drop (x0 * comps)).take (min (fld cw 16 16) (w - x0) * comps))

/-- Output rows that the lines held make, with the marks of their lines; the position is that of the line in which the
output line begins (R116, R120). -/
def scaleHeld (f : IspCfg) (o comps : Nat) : Nat → List (List Nat × OutRow) → Nat → List OutRow × List (List Nat × OutRow) × Nat
  | 0, held, voff => ([], held, voff)
  | fuel + 1, held, voff =>
    let sc := outScale f o
    match held with
    | [] => ([], [], voff)
    | (_, m0) :: _ =>
      if voff + sc.2 ≤ 256 * held.length then
        let n := ceilDiv (voff + sc.2) 256
        let lines := (held.take n).zipIdx.map (fun p => (p.1.1, overlap256 voff sc.2 p.2))
        let cw := (held.headD ([], m0)).1.length / max 1 comps
        let fmt := f Reg.ISP_OUT_CFG o 0
        let pix := (scaleRow comps sc.1 cw lines).map (fun v => outCode (fld fmt 4 2) (fld fmt 16 4) v)
        let marks := (held.take n).foldl (fun m p => m ||| p.2.marks) 0
        let voff := voff + sc.2
        let rest := scaleHeld f o comps fuel (held.drop (voff / 256)) (voff % 256)
        ({ m0 with marks := marks, pix := pix } :: rest.1, rest.2)
      else ([], held, voff)

/-- Bayer lines in pairs, for PLANES4: an even line waits for the odd one (R117). -/
def pairRows (pattern w : Nat) : Option (List Nat × OutRow) → List (Nat × List Nat × OutRow) →
    List (List Nat × OutRow) × Option (List Nat × OutRow)
  | odd, [] => ([], odd)
  | odd, (num, pix, m) :: t =>
    if num % 2 = 0 then pairRows pattern w (some (pix, m)) t
    else
      match odd with
      | some e =>
        let r := pairRows pattern w none t
        ((planes4 pattern w e.1 pix, { e.2 with marks := e.2.marks ||| m.marks }) :: r.1, r.2)
      | none => pairRows pattern w none t

/-- The rows that the processed lines bring an output unit: cropped, paired, scaled and converted; the unit keeps what the
scaler still needs. Numbers are given here, so that the rows of abandoned work are skipped (R133). -/
def State.outUnit (s : State) (p c o : Nat) (f : IspCfg) (src : PixSrc) (bad : Bool) (rows : List (PixRow × SrcLine)) :
    List OutRow × State :=
  let u := s.ispOut p o
  let comps := outComps f c o src
  let fmt := f Reg.ISP_OUT_CFG o 0
  let cy := f Reg.ISP_OUT_CROP_Y o 0
  let y0 := fld cy 0 16
  let rows := if src.area then (rows.drop y0).take (if fld cy 16 16 = 0 then rows.length else fld cy 16 16) else rows
  let lines : List (Nat × List Nat × OutRow) := rows.map (fun r =>
    (r.1.num, cropRow f o (if comps = 4 then 1 else comps) src.w r.1.pix,
     { aligned := r.2.aligned, trig := r.2.trig, time := r.2.time, marks := r.1.marks, seq := 0, pix := [], users := [] }))
  let pr := if comps = 4 then pairRows src.bayer ((lines.head?.map (fun l => l.2.1.length)).getD 0) (if src.area then none else u.odd) lines
    else (lines.map (fun l => l.2), u.odd)
  let held := if src.area then pr.1 else u.held ++ pr.1
  let r := scaleHeld f o comps (held.length + 1) held (if src.area then 0 else u.voff)
  let out := r.1.zipIdx.map (fun q =>
    let m := q.1.marks ||| (if u.gap ∧ q.2 = 0 then 0x800 else 0) ||| (if bad then 0x400 else 0)
    { q.1 with seq := u.next + BitVec.ofNat 32 q.2, marks := m,
               pix := if bad then q.1.pix.map (fun _ => outCode (fld fmt 4 2) (fld fmt 16 4) src.fill) else q.1.pix })
  let u := { u with next := u.next + BitVec.ofNat 32 out.length, gap := u.gap && out.isEmpty,
                    held := if src.area then [] else r.2.1, voff := if src.area then 0 else r.2.2,
                    odd := if src.area then none else pr.2 }
  (out, s.setIspOut p o u)

/-! ### Temporal noise reduction (R102, R103) -/

/-- The marks with which a frame passes the temporal filter unfiltered. -/
def tnrBadMarks : Word := 0x8F

/-- The frame after temporal noise reduction, with its new history in memory. -/
def State.tnrFrame (s : State) (p c : Nat) (f : IspCfg) (rows : List PixRow) : List PixRow × State :=
  if !(f Reg.ISP_NR_CFG c 0).getLsbD 2 then (rows, s)
  else
    let x := s.ispCtx p c
    let bad := decide (rows.foldl (fun m r => m ||| r.marks) 0 &&& tnrBadMarks ≠ 0)
    let pass := x.fresh || bad || x.prevBad
    let base := basePair (f Reg.ISP_TNR_BASE_LO c 0) (f Reg.ISP_TNR_BASE_HI c 0)
    let n := (rows.headD { pix := [], marks := 0, num := 0 }).pix.length
    let t := s.table base (2 * n * rows.length)
    let hist (k : Nat) : Nat := natLE ((t.2.1.drop (2 * k)).take 2)
    let w := f Reg.ISP_TNR_CFG c 0
    let out := if pass then rows.map (fun r => { r with marks := r.marks ||| 0x100 })
      else rows.zipIdx.map (fun r => { r.1 with pix := r.1.pix.zipIdx.map (fun v =>
        tnrPix (fld w 0 16) (fld w 16 8) v.1 (hist (r.2 * n + v.2))) })
    let bytes := (out.flatMap (fun r => r.pix)).flatMap (fun v => bytesLE 2 v)
    let s := t.1.writePhys 2048 (bytes.length / 64 + 2) base bytes
    let s := s.setIspCtx p c { s.ispCtx p c with fresh := false, prevBad := bad }
    (out, s.when pass (fun s => s.bump Reg.ISP_CNT p 2))

/-! ### Units of work (R123) -/

/-- Lines that a line-scan context keeps of those it has taken. -/
def keepLines : Nat := 72

/-- A unit of work of context `c`: `past` and `ahead` lines on both sides of the lines that it processes. Its rows are
worked out when it starts. -/
def State.startWork (s : State) (p c : Nat) (src : PixSrc) (past own ahead : List SrcLine) (frame : Option Word) : State :=
  let f := s.ispForce p c
  let t := s.ispTables p c f src own.length
  let s := t.1
  let row (l : SrcLine) : PixRow := { pix := l.pix, marks := l.marks, num := l.index }
  let tn := if src.area then s.tnrFrame p c f (own.map row) else (own.map row, s)
  let s := tn.2
  let window := past.map row ++ tn.1 ++ ahead.map row
  let block := (own.headD { block := 0, index := 0, aligned := 0, trig := 0, time := 0, marks := 0, pix := [] }).block
  let st := stageRows f (ctxNum p c) c src t.2 block window
  let cnt := stageCounts f c src t.2 window past.length own.length
  let s := (s.bumpBy cnt.1 Reg.ISP_CNT p 4).bumpBy cnt.2 Reg.ISP_CNT p 3
  let made := (ctxOuts f c).foldl (fun (a : List (Nat × OutRow) × State) o =>
    let rows := outputRows f c o src t.2 st past.length own.length
    let r := a.2.outUnit p c o f src t.2.bad (rows.zip own)
    (a.1 ++ r.1.map (fun q => (o, q)), r.2)) ([], s)
  let s := made.2
  let x := s.ispCtx p c
  let keep := if src.area then [] else (past ++ own).drop ((past ++ own).length - keepLines)
  let s := s.setIspCtx p c { x with past := keep, lastBlock := (own.getLast?.map (fun l => l.block)) }
  let pp := s.ispPipe p
  let s := s.setIspPipe p { pp with work := some { ctx := c, lines := own, rows := made.1, frame := frame, startAt := s.raw } }
  (s.setF Reg.ISP_PIPE_STATUS 0 2 c p).setBit Reg.ISP_PIPE_STATUS 2 false p

/-- The lines that the next unit of work of a context takes: its source, the lines, those ahead, and the frame number of a
sample; none when the context is not eligible on that side (R123). With an APPLY that waits, no work crosses the boundary
(R128). -/
def State.nextWork (s : State) (p c : Nat) : Option (PixSrc × List SrcLine × List SrcLine × Option Word) :=
  let f := s.ispForce p c
  let x := s.ispCtx p c
  let num := ctxNum p c
  let src := ctxSrc f c
  if !s.ctxOn p c then none
  else if src.1 = 1 then
    if x.pend then none
    else
      match (s.stream src.2).ring.find? (fun y => y.readers.contains num) with
      | some y => some (s.sampleSrc src.2 y, sampleLines y, [], some y.seq)
      | none => none
  else
    let n := src.2 % 8
    let ps := s.portSrc n
    let l := s.linesFor n num
    match l with
    | [] => none
    | first :: _ =>
      if x.pend ∧ (ps.area ∨ x.lastBlock ≠ some first.block) then none
      else if ps.area then
        let shut := decide (((s.cam n).block.map (fun b => b.id)) ≠ some first.block)
        if shut then some (ps, s.frameLines n num l, [], none) else none
      else
        let own := l.take (stripeLines f c)
        let cut := if x.pend then own.takeWhile (fun y => decide (y.block = first.block)) else own
        let whole := decide (own.length = stripeLines f c) || decide (cut.length < own.length)
        let mw := f Reg.ISP_MESH_CFG c 0
        let mesh := if mw.getLsbD 0 then s.peek (basePair (f Reg.ISP_MESH_BASE_LO c 0) (f Reg.ISP_MESH_BASE_HI c 0))
          (8 * (meshSize mw false).1) else []
        let more := ispAhead f c ps mesh
        let ahead := (l.drop cut.length).take more
        if whole ∧ ahead.length = more then some (ps, cut.map (s.srcLine n), ahead.map (s.srcLine n), none) else none

/-! ### Output rings (R119) -/

/-- Rows of an output ring. -/
def ringCap (w : Word) : Nat := 2 ^ clampN 4 12 (fld w 12 4)

/-- The consumers of the rows of a unit: the inputs of jobs in a run that are bound to it, and the IMAGE lanes that name
it. -/
def State.rowUsers (s : State) (p o : Nat) : List Nat :=
  s.job.jobs.flatMap (fun j => if j.2.st.inRun then
    (j.2.binds.filter (fun b => decide (b.2.pipe = p ∧ b.2.out = o))).map (fun b => ringUser j.1 b.1) else [])
  ++ ((upTo 32).filter (fun l => s.on .WT && s.bit Reg.WT_LANE_CFG 0 l && decide (s.f Reg.WT_LANE_CFG 4 2 l = 2) &&
    decide (s.f Reg.WT_IMG_CFG 0 3 l = p) && decide (s.f Reg.WT_IMG_CFG 3 2 l = o))).map (fun l => 65536 + l)

/-- Input `i` of job `h` has no part for a row: no comet of the lanes it serves has it in its window. -/
def State.rowIdle (s : State) (user : Nat) (r : OutRow) : Bool :=
  if 65536 ≤ user then false
  else
    match s.jobOf (user / 64) with
    | some j =>
      match AMap.look j.binds (user % 64) with
      | some b =>
        !r.marks.getLsbD 15 &&
        !(s.wt.comets.any (fun q => b.lanes.getLsbD q.2.lane && decide (q.2.st ≠ .retired) && q.2.inWindow r)) &&
        !(j.slots.any (fun q => decide (q.2.st ≠ .free) && decide (0 ≤ (r.seq - AMap.get q.2.ringFirst (r.seq + 1) (user % 64)).toInt)))
      | none => true
    | none => true

/-- The oldest row of a full ring leaves it when nobody has a part for it. -/
def State.makeRoom (s : State) (p o : Nat) : State :=
  match (s.ispOut p o).rows with
  | r :: t =>
    if r.users.all (fun u => s.rowIdle u r) then s.setIspOut p o { s.ispOut p o with rows := t } else s
  | [] => s

/-- The ring of a unit has a free row, or can have one. -/
def State.rowFree (s : State) (p o : Nat) (w : Word) : Bool :=
  decide ((s.ispOut p o).rows.length < ringCap w) ||
  decide (((s.makeRoom p o).ispOut p o).rows.length < ringCap w)

/-- A row is written to its ring (R118). -/
def State.putRow (s : State) (p o : Nat) (w : Word) (r : OutRow) : State :=
  let s := if (s.ispOut p o).rows.length < ringCap w then s else s.makeRoom p o
  let users := s.rowUsers p o
  let x := s.ispOut p o
  (s.setIspOut p o { x with rows := if users = [] then x.rows else x.rows ++ [{ r with users := users }] }).bump
    Reg.ISP_CNT p 5

/-- The rows of finished work are written as far as their rings have room (R119). -/
def State.putRows (s : State) (p : Nat) (f : IspCfg) : List (Nat × OutRow) → State × List (Nat × OutRow)
  | [] => (s, [])
  | (o, r) :: t =>
    if s.rowFree p o (f Reg.ISP_OUT_CFG o 0) then (s.putRow p o (f Reg.ISP_OUT_CFG o 0) r).putRows p f t
    else (s, (o, r) :: t)

/-! ### Shadows (R128) -/

/-- The shadow words of context `c` and of the outputs that name it. -/
def State.shadowWords (s : State) (p c : Nat) : AMap Word :=
  let regs : List (RegRow × Nat × Nat) := (ctxShadows.flatMap (fun r => (upTo r.n3).map (fun k => (r, c, k))))
    ++ ((upTo 4).filter (fun o => decide (s.f Reg.ISP_OUT_CFG 1 2 p o = c))).flatMap (fun o => outShadows.map (fun r => (r, o, 0)))
  regs.foldl (fun m e => AMap.store m e.1.reset (e.1.at p e.2.1 e.2.2) (s.rd e.1 p e.2.1 e.2.2)) []

/-- Addresses of the registers of an output unit. -/
def outAddrs (p o : Nat) : List Nat := outShadows.map (fun r => r.at p o 0)

end Sys2Proof.Machine
end

