-- ==== Sys2Proof/Machine/Dec.lean ====
section
/-!
DEFINITION. Decoders (spec/05_decode_and_conditioning.md): pictures from RTP packets to samples in the output ring, damage,
the time budget, reports and batches.
-/
namespace Sys2Proof.Machine

open Sys2Proof

/-! ### Configuration of a stream -/

/-- Stream `n` is enabled. -/
def State.decOn (s : State) (n : Nat) : Bool := s.on .DEC && s.bit Reg.DEC_STREAM_CFG 0 n
/-- The stream is H.265. -/
def State.decHevc (s : State) (n : Nat) : Bool := s.bit Reg.DEC_STREAM_CFG 1 n
/-- Components of a decoded pixel. -/
def State.decComps (s : State) (n : Nat) : Nat := if s.bit Reg.DEC_STREAM_CFG 8 n then 3 else 1
/-- MAC of a stream. -/
def State.decMac (s : State) (n : Nat) : Nat := s.f Reg.DEC_STREAM_CFG 9 3 n
/-- Sample slots of a stream. -/
def State.decSlots (s : State) (n : Nat) : Nat := 2 ^ clampN 2 6 (s.f Reg.DEC_OUT_BASE_LO 0 3 n)
/-- Samples of a batch. -/
def State.batchSize (s : State) (n : Nat) : Nat := clampN 1 64 (s.f Reg.DEC_STREAM_BATCH 0 7 n)
/-- `f` applied to a stream. -/
def State.updStream (s : State) (n : Nat) (f : DecStream → DecStream) : State := s.setStream n (f (s.stream n))
/-- DEC_STREAM_CNT `k` of a stream counts. -/
def State.decCnt (s : State) (n k : Nat) : State := s.bump Reg.DEC_STREAM_CNT n k
/-- Rows of FILL. -/
def State.fillRows (s : State) (n w rows : Nat) : List (List Nat) :=
  List.replicate rows (List.replicate (w * s.decComps n) (s.f Reg.DEC_STREAM_FILL 0 16 n))

/-- Decoder marks of R156. -/
def markConcealed : Word := 0x1000
/-- SUBSTITUTED. -/
def markSubst : Word := 0x2000
/-- REF_DAMAGED. -/
def markRef : Word := 0x4000
/-- PADDING. -/
def markPad : Word := 0x8000

/-! ### Reports (R151 to R153) -/

/-- A report record (R153). `kind`: 1 ended early, 2 gap, 3 syntax error, 4 over budget, 5 dimensions, 6 unsupported. -/
def State.decReport (s : State) (n : Nat) (mode kind status : Nat) (seq : Word) (bitpos row0 rows method : Nat) : State :=
  if mode = 0 then s
  else
    let q := s.f Reg.DEC_REPORT_Q 0 14
    let rec_ := bytesLE 1 n ++ bytesLE 1 kind ++ bytesLE 2 status ++ bytesLE 4 seq.toNat ++ bytesLE 8 bitpos
      ++ bytesLE 2 row0 ++ bytesLE 2 rows ++ bytesLE 1 method ++ bytesLE 1 mode ++ bytesLE 2 0 ++ bytesLE 8 s.now.toNat
    if q = 0 then s
    else if (s.stream n).reports.isEmpty ∧ s.qTakes q (2048 + n) then s.qOffer q (2048 + n) rec_
    else s.updStream n (fun d => { d with reports := d.reports ++ [rec_] })

/-! ### Samples (R143 to R150) -/

/-- The position words and marks of a sample with the time given (R155). -/
def State.decPosition (s : State) (n : Nat) (time : DWord) : DWord × DWord × Word :=
  if s.bit Reg.DEC_STREAM_CFG 27 n then
    let r := s.lookupPos (s.f Reg.DEC_STREAM_CFG 28 2 n) time
    (posWord (r.1.toInt - (s.rd64 Reg.DEC_OFFSET_LO Reg.DEC_OFFSET_HI n).toInt), r.1, if r.2 then 0x80 else 0)
  else (0, 0, 0x80)

/-- A slot of the ring is free (R145). -/
def State.decRoom (s : State) (n : Nat) : Bool := decide ((s.stream n).ring.length < s.decSlots n)

/-- A sample enters the ring; with no context reading the stream its slot is free at once. -/
def State.pushSample (s : State) (n : Nat) (x : DecSample) : State :=
  s.updStream n (fun d => { d with
    ring := if x.readers = [] then d.ring else d.ring ++ [x]
    next := d.next + 1
    dims := some (x.width, x.rows.length, x.depth) })

/-- Padding samples are written as far as slots are free (R157): all pixels FILL. Their positions are free. -/
def State.writePads (s : State) (n : Nat) : Nat → State
  | 0 => s
  | fuel + 1 =>
    let d := s.stream n
    if d.pads = 0 ∨ !s.decRoom n then s
    else
      let dm := d.dims.getD (s.f Reg.DEC_STREAM_MAX 0 16 n, s.f Reg.DEC_STREAM_MAX 16 16 n, 8)
      let (f0, s) := s.draw
      let (f1, s) := s.draw
      let x : DecSample := { seq := d.next, aligned := joinWords f1 f0, trig := joinWords f1 f0, time := s.now,
                             marks := markPad, width := dm.1, depth := dm.2.2, comps := s.decComps n,
                             rows := s.fillRows n dm.1 dm.2.1, readers := s.readersOf 1 n }
      let s := (s.pushSample n x).updStream n (fun d => { d with pads := d.pads - 1 })
      (s.decCnt n 6).writePads n fuel

/-- The open batch closes and is padded (R157). -/
def State.closeBatch (s : State) (n : Nat) : State :=
  match (s.stream n).batch with
  | some b =>
    (s.updStream n (fun d => { d with batch := none, pads := d.pads + (s.batchSize n - b.1) })).writePads n 64
  | none => s

/-- A sample counts in its batch. -/
def State.countBatch (s : State) (n : Nat) : State :=
  let b := (s.stream n).batch.getD (0, s.raw)
  let s := s.updStream n (fun d => { d with batch := some (b.1 + 1, b.2) })
  if s.batchSize n ≤ b.1 + 1 then s.closeBatch n else s

/-- A picture is skipped: its pixels give way to the substitute (R150). -/
def State.skipPic (s : State) (n : Nat) (x : DecPic) : State :=
  let d := s.stream n
  let rows : List (List Nat) := if x.subst then s.fillRows n x.width x.height
    else d.good.getD (s.fillRows n x.width x.height)
  let w := if x.subst ∨ d.good.isNone then x.width else (rows.headD []).length / s.decComps n
  let x := { x with rows := rows, width := w, height := rows.length, marks := markSubst, skipped := true,
                    ended := some (x.ended.getD s.raw) }
  ((s.updStream n (fun d => { d with pic := some x })).decCnt n 2).raise Reg.DEC_EVENT 1

/-- The budget of a picture is over in SERVICE mode (R149, R150). -/
def State.overBudget (s : State) (x : DecPic) : Bool :=
  match x.ended with
  | some t => decide (x.budget * 1000 ≤ s.since t)
  | none => false

/-- The picture in hand is written to a free slot (R145, R150, R155). -/
def State.writeSample (s : State) (n : Nat) : State :=
  match (s.stream n).pic with
  | some x0 =>
    if x0.ended.isNone ∨ !s.decRoom n ∨ (s.stream n).pads ≠ 0 then s
    else
      let s := if x0.mode = 0 ∧ !x0.skipped ∧ s.overBudget x0 then s.skipPic n x0 else s
      let x := (s.stream n).pic.getD x0
      let p := s.decPosition n x.time
      let sm : DecSample := { seq := x.seq, aligned := p.1, trig := p.2.1, time := x.time, marks := x.marks ||| p.2.2,
                              width := x.width, depth := x.depth, comps := s.decComps n, rows := x.rows,
                              readers := s.readersOf 1 n }
      let conc := x.marks.getLsbD 12
      let ref := x.marks.getLsbD 14
      let clean := !conc && !ref && !x.marks.getLsbD 13
      let s := s.when (decide (x.mode ≠ 0) && s.overBudget x) (fun s =>
        s.decReport n x.mode 4 S_DECODE_BUDGET x.seq (s.since (x.ended.getD s.raw)) 0 0 0)
      let s := s.pushSample n { sm with seq := (s.stream n).next }
      let s := s.updStream n (fun d => { d with pic := none, good := if clean then some x.rows else d.good })
      let s := (s.decCnt n 0).when conc (fun s => (s.decCnt n 1).raise Reg.DEC_EVENT 0)
      (s.when ref (fun s => s.decCnt n 5)).countBatch n
  | none => s

/-- A picture's data is closed before every slice has been decoded: the rest is FILL (R146). -/
def State.endEarly (s : State) (n : Nat) (at_ : DWord) (x : DecPic) (bitpos : Nat) : State :=
  let left := x.height - x.rows.length
  let s := if left = 0 then s else s.decReport n x.mode 1 S_OK x.seq bitpos x.rows.length left 1
  s.updStream n (fun d => { d with pic := some { x with
    rows := x.rows ++ s.fillRows n x.width left, ended := some at_
    marks := if left = 0 then x.marks else x.marks ||| markConcealed } })

/-- A rejected picture (R138, R143): its status and count; in SERVICE mode a substitute stands in for it at once, in the
other modes there is a report and no sample. -/
def State.rejectPic (s : State) (n : Nat) (x : DecPic) (status bitpos : Nat) : State :=
  let s := ((s.decCnt n 3).raise Reg.DEC_EVENT 2).setF Reg.DEC_STREAM_STATUS 16 16 status n
  if x.mode = 0 then
    s.skipPic n { x with width := min x.width (s.f Reg.DEC_STREAM_MAX 0 16 n), height := min x.height (s.f Reg.DEC_STREAM_MAX 16 16 n) }
  else
    (s.decReport n x.mode (if status = S_DIMS_EXCEED then 5 else 6) status x.seq bitpos 0 0 2).updStream n
      (fun d => { d with pic := none })

/-- A new picture begins with this packet. -/
def State.beginPic (s : State) (n : Nat) (at_ : DWord) (i : RtpInfo) : State :=
  let d := s.stream n
  let cfg := s.rd Reg.DEC_STREAM_CFG n
  let irap := i.irap || !s.decHevc n
  let ref := s.decHevc n && !irap && (i.refBad || d.refBad)
  let x : DecPic := { seq := d.next, firstAt := at_, width := i.width, height := i.height, depth := i.depth, irap := irap,
                      time := s.timeAt at_ + BitVec.ofInt 64 (s.rd Reg.DEC_TIME_ADJ n).toInt,
                      mode := fld cfg 30 2, subst := cfg.getLsbD 26, budget := (s.rd Reg.DEC_STREAM_BUDGET n).toNat,
                      marks := if ref then markRef else 0 }
  let s := s.updStream n (fun d => { d with pic := some x, refBad := ref })
  if d.spsBad then s.rejectPic n x S_STREAM_UNSUPPORTED i.bitPos.toNat
  else if s.f Reg.DEC_STREAM_MAX 0 16 n < i.width ∨ s.f Reg.DEC_STREAM_MAX 16 16 n < i.height then
    s.rejectPic n x S_DIMS_EXCEED i.bitPos.toNat
  else if d.waitIrap ∧ !irap then
    if x.mode = 0 then s.skipPic n x else s.updStream n (fun d => { d with pic := none })
  else (s.updStream n (fun d => { d with waitIrap := false })).setBit Reg.DEC_STREAM_STATUS 1 false n

/-- The rows of a packet, with the concealed ones before them (R147), and the end of the picture at its marker (R146). -/
def State.packetData (s : State) (n : Nat) (at_ : DWord) (i : RtpInfo) (gap : Bool) : State :=
  match (s.stream n).pic with
  | some x =>
    if x.ended.isSome then s
    else
      let bad := min (i.errRows.getD 0) (x.height - x.rows.length)
      let damaged := i.errRows.isSome
      let s := if gap ∨ damaged then
          s.decReport n x.mode (if gap then 2 else 3) S_OK x.seq i.bitPos.toNat x.rows.length bad (if bad = 0 then 0 else 1)
        else s
      let rows := (x.rows ++ s.fillRows n x.width bad ++ i.rows).take x.height
      let marks := x.marks ||| (if gap then 4 else 0) ||| (if gap ∨ damaged then markConcealed else 0)
      let x := { x with rows := rows, marks := marks }
      let s := s.updStream n (fun d => { d with pic := some x })
      if i.marker then s.endEarly n at_ x i.bitPos.toNat else s
  | none => s

/-- A packet of a stream that arrived at raw count `at_` (R136). A packet of the next picture waits while the sample before
it has no slot, or a report waits (R145, R152); it closes a picture whose data has not ended (R146). -/
def State.rtpIn (s : State) (n : Nat) (at_ : DWord) (i : RtpInfo) : State :=
  let d := s.stream n
  if d.held ≠ [] ∨ (i.first ∧ (d.pic.isSome ∨ d.reports ≠ [] ∨ d.pads ≠ 0)) then
    let s := match d.held.isEmpty, d.pic with
      | true, some x =>
        if x.ended.isSome then s
        else
          let (b, s) := s.draw
          s.endEarly n at_ x b.toNat
      | _, _ => s
    s.updStream n (fun d => { d with held := d.held ++ [(at_, i)] })
  else
    let gap : Bool := match d.lastRtp with
      | some q => decide (i.seq ≠ q + 1)
      | none => false
    let s := (s.updStream n (fun d => { d with lastRtp := some i.seq })).setBit Reg.DEC_STREAM_STATUS 0 true n
    let s := s.when gap (fun s => s.decCnt n 4)
    let s := match i.spsOk with
      | some ok => s.updStream n (fun d => { d with spsBad := if ok then d.spsBad && !i.irap else true })
      | none => s
    let s := if i.first then s.beginPic n at_ i else s
    s.packetData n at_ i gap

/-- The packets that waited are taken. -/
def State.decDrain (s : State) (n : Nat) : State :=
  let l := (s.stream n).held
  (s.updStream n (fun d => { d with held := [] })).forAll l (fun i s => s.rtpIn n i.1 i.2)

/-! ### Ends of a stream (R146, R154, R157, R159) -/

/-- The link of the stream's MAC is lost: the picture in progress ends early and the batch closes. -/
def State.decLinkLost (s : State) (n : Nat) : State :=
  let s := match (s.stream n).pic with
    | some x =>
      if x.ended.isSome then s
      else
        let (b, s) := s.draw
        s.endEarly n s.raw x b.toNat
    | none => s
  (s.closeBatch n).setBit Reg.DEC_STREAM_STATUS 0 false n

/-- The stream is disabled: its picture is abandoned without substitute or record, and its batch closes. -/
def State.decDisable (s : State) (n : Nat) : State :=
  let s := (s.updStream n (fun d => { d with pic := none, held := [], lastRtp := none, good := none })).closeBatch n
  s.setBit Reg.DEC_STREAM_STATUS 0 false n

/-- What a stream keeps through an engine reset of the decoder. -/
def State.decReset (s : State) (n : Nat) : State :=
  if !s.bit Reg.DEC_STREAM_CFG 0 n then s
  else
    let h := s.decHevc n
    let s := (s.updStream n (fun d => { d with pic := none, held := [], waitIrap := h })).closeBatch n
    s.setBit Reg.DEC_STREAM_STATUS 1 h n

/-! ### Commands -/

/-- RTP_PACKET (R136): a packet from the stream's source. -/
def execRtpPacket (n : Fin 32) (info : RtpInfo) (s : State) : Out :=
  .next (if s.decOn n ∧ s.macUp (s.decMac n) then s.rtpIn n s.raw info else s)

/-- SAMPLE_WRITTEN (R145): the last row of the sample in hand is written, after the padding samples that waited. -/
def execSampleWritten (n : Fin 32) (s : State) : Out :=
  .next (if s.on .DEC then ((s.writePads n 64).writeSample n).decDrain n else s)

/-- DECODE_BUDGET_EXPIRY (R150): the budget of a sample in SERVICE mode is over and it has not been written. -/
def execDecodeBudgetExpiry (n : Fin 32) (s : State) : Out :=
  .next (match (s.stream n).pic with
    | some x =>
      if s.on .DEC ∧ x.mode = 0 ∧ !x.skipped ∧ s.overBudget x then ((s.skipPic n x).writeSample n).decDrain n else s
    | none => s)

/-- BATCH_TIMEOUT (R157). -/
def execBatchTimeout (n : Fin 32) (s : State) : Out :=
  .next (match (s.stream n).batch with
    | some b => if s.on .DEC ∧ s.f Reg.DEC_STREAM_BATCH 8 24 n * 1000 ≤ s.since b.2 then s.closeBatch n else s
    | none => s)

/-- REPORT_PLACED (R152): a report that waited on a HOLD queue is placed, and the stream goes on. -/
def execReportPlaced (n : Fin 32) (s : State) : Out :=
  .next (match (s.stream n).reports with
    | r :: t =>
      let q := s.f Reg.DEC_REPORT_Q 0 14
      if s.on .DEC ∧ (q = 0 ∨ s.qTakes q (2048 + n)) then
        let s := (if q = 0 then s else s.qOffer q (2048 + n) r).updStream n (fun d => { d with reports := t })
        if t = [] then s.decDrain n else s
      else s
    | [] => s)

/-- DEC_ENGINE_RESET (R159). -/
def execDecEngineReset (s : State) : Out :=
  .next (if s.on .DEC then (s.forAll (upTo 32) (fun n s => s.decReset n)).raise Reg.DEC_EVENT 3 else s)

end Sys2Proof.Machine
end

