-- ==== Sys2Proof/Machine/Operators.lean ====
section
/-!
DEFINITION. Shapes and borders, activation functions, element-wise operations, normalisation, ranking, softmax and
distance values (R223 to R252), as functions on values.
-/
namespace Sys2Proof

/-! ### Shapes and borders (R227 to R230) -/

/-- Output size on one axis (R227). -/
def outSize (inp k s lo hi dil : Nat) : Int :=
  (((inp : Int) + lo + hi - dil * ((k : Int) - 1) - 1).fdiv s) + 1

/-- What a tap reads (R228): an index of the input, or padding. -/
inductive Tap where
  | at (j : Nat)
  | pad
  deriving DecidableEq, Repr

/-- The input index of tap `t` of output `i` on an axis of `inp` places (R228). -/
def tapAt (inp s lo dil mode i t : Nat) : Tap :=
  let j : Int := (i : Int) * s - lo + t * dil
  if 0 ≤ j ∧ j < inp then .at j.toNat
  else if mode = 2 then .at (if j < 0 then 0 else inp - 1)
  else if mode = 3 then .at (if j < 0 then (-j).toNat else (2 * ((inp : Int) - 1) - j).toNat)
  else .pad

/-! ### Activation functions (R238, R239) -/

/-- EXP: exact 1 at zero, else within 1 ulp (R238, R244). -/
def fExp (x : Word) : Word := if isNan x then nanWord else if isZero x then 0x3F800000 else Config.actApprox 12 x

/-- RSQRT (R239). -/
def fRsqrt (x : Word) : Word :=
  if isNan x then nanWord else if isZero x then infWord false else if isNeg x then nanWord else Config.actApprox 13 x

/-- RELU6 as FP32. -/
def relu6 (x : Word) : Word := if rankEq x ≤ 0 then 0 else if 0x40C00000 < x.toNat then 0x40C00000 else x

/-- HSIGMOID: one rounding of min(max(x + 3, 0), 6) / 6. -/
def hsigmoid (x : Word) : Word :=
  match FV.ofF32 x with
  | .nan => nanWord
  | .inf neg => if neg then 0 else 0x3F800000
  | .fin neg m e =>
    let lsb := min e 0
    let i := FV.units neg m e lsb + FV.units false 3 0 lsb
    let six := FV.units false 6 0 lsb
    let j := clampI 0 six i
    (roundF32 .rne false j.toNat 6 lsb).1

/-- The limit of functions 5 to 11 at an infinity (R239). -/
def actLimit (act : Nat) (neg : Bool) : Word :=
  match act with
  | 5 => if neg then 0 else 0x3F800000
  | 6 => if neg then 0xBF800000 else 0x3F800000
  | 10 => if neg then 0 else 0x3F800000
  | _ => if neg then 0 else infWord false

/-- The activation function of an ACT code (R238, R239). `p0` and `p1` are the layer's parameters. -/
def actFn (act : Nat) (p0 p1 : Word) (x : Word) : Word :=
  if act = 0 then x
  else if isNan x then nanWord
  else
    match act with
    | 1 => if 0 < rankEq x then x else 0
    | 2 => relu6 x
    | 3 => if 0 ≤ rankEq x then x else (fMul .rne p0 x).1
    | 4 => fMin (fMax x p0) p1
    | 10 => hsigmoid x
    | 11 => if isInf x then (if isNeg x then actLimit 11 true else infWord false) else (fMul .rne x (hsigmoid x)).1
    | 12 => fExp x
    | 13 => fRsqrt x
    | _ => if isInf x then actLimit act (isNeg x) else Config.actApprox act x

/-! ### Element-wise operations (R237) -/

/-- The two-operand operations. -/
inductive EltOp where
  | add | sub | mul | max | min
  deriving DecidableEq, Repr

/-- One element of an element-wise operation. -/
def eltFn (op : EltOp) (mode : Rnd) (a b : Word) : Counted Word :=
  match op with
  | .add => fAdd mode a b
  | .sub => fSub mode a b
  | .mul => fMul mode a b
  | .max => (fMax a b, {})
  | .min => (fMin a b, {})

/-- Maximum pooling over the taps inside the input (R235). -/
def maxPool (vs : List Word) : Word := vs.foldl fMax (infWord true)

/-! ### Normalisation (R240) -/

/-- One set of a normalisation layer: values with their gamma and beta. -/
def normSet (mode : Rnd) (eps : Word) (vs : List (Word × Word × Word)) : Counted (List Word) :=
  let n := intF32 vs.length
  let s := treeSum mode (vs.map (fun v => v.1))
  let mean := fDiv mode s.1 n
  let ds := countAll (vs.map (fun v => fSub mode v.1 mean.1))
  let sqs := countAll (ds.1.map (fun d => fMul mode d d))
  let sv := treeSum mode sqs.1
  let var := fDiv mode sv.1 n
  let ve := fAdd mode var.1 eps
  let r := fRsqrt ve.1
  let ys := countAll ((ds.1.zip vs).map (fun p =>
    ((fMul mode p.1 r).andThen (fun x => fMul mode x p.2.2.1)).andThen (fun x => fAdd mode x p.2.2.2)))
  (ys.1, Cnt.total [s.2, mean.2, ds.2, sqs.2, sv.2, var.2, ve.2, ys.2])

/-! ### Ranking (R241 to R243) -/

/-- `a` at index `i` ranks before `b` at index `j` (R241). -/
def ranksBefore (a : Word) (i : Nat) (b : Word) (j : Nat) : Bool :=
  if isNan a then (!isNan b || decide (i < j))
  else if isNan b then false
  else decide (rankEq b < rankEq a) || (decide (rankEq b = rankEq a) && decide (i < j))

/-- A value with its index. -/
abbrev Ranked := Word × Nat

/-- Insertion of an element into a list under an order. -/
def insertBy (before : Ranked → Ranked → Bool) (x : Ranked) : List Ranked → List Ranked
  | [] => [x]
  | y :: t => if before x y then x :: y :: t else y :: insertBy before x t

/-- A list in the order of ranking. -/
def sortBy (before : Ranked → Ranked → Bool) (l : List Ranked) : List Ranked := l.foldr (insertBy before) []

/-- Values with the indices from `first`. -/
def indexed (first : Nat) (l : List Word) : List Ranked := l.zipIdx.map (fun p => (p.1, first + p.2))

/-- The order of R241 on pairs. -/
def before241 (x y : Ranked) : Bool := ranksBefore x.1 x.2 y.1 y.2

/-- Argmax (R242): the index that ranks first and its value. -/
def argMax (l : List Word) : Ranked := (sortBy before241 (indexed 0 l)).headD (0, 0)

/-- The first `k` of a ranked list, filled with `fill` and index 0xFFFF_FFFF; a list that needs filling is short. -/
def firstK (k : Nat) (fill : Word) (l : List Ranked) : Counted (List Ranked) :=
  (l.take k ++ List.replicate (k - l.length) (fill, 0xFFFFFFFF), { short := (decide (l.length < k)).toNat })

/-- Top-k (R243). -/
def topK (k : Nat) (l : List Word) : Counted (List Ranked) := firstK k (infWord true) (sortBy before241 (indexed 0 l))

/-! ### Softmax (R244) -/

/-- The largest value of a list without NaN. -/
def maxOf (l : List Word) : Word := l.foldl (fun a b => if rankW a < rankW b then b else a) (infWord true)

/-- Softmax over a vector. -/
def softmax (mode : Rnd) (xs : List Word) : Counted (List Word) :=
  if xs.any isNan then (xs.map (fun _ => nanWord), {})
  else
    let m := maxOf xs
    if m = infWord false then
      let n := (xs.filter (fun x => decide (x = infWord false))).length
      (xs.map (fun x => if x = infWord false then (fDiv .rne (intF32 1) (intF32 n)).1 else 0), {})
    else if m = infWord true then (xs.map (fun _ => nanWord), { allLow := 1 })
    else
      let es := countAll (xs.map (fun x => (fSub mode x m).andThen (fun d => (fExp d, {}))))
      let s := treeSum mode es.1
      let ys := countAll (es.1.map (fun e => fDiv mode e s.1))
      (ys.1, Cnt.total [es.2, s.2, ys.2])

/-! ### Distance (R250, R251) -/

/-- The order of distance lists: ascending, NaN last, lower index first (R251). -/
def before251 (x y : Ranked) : Bool :=
  if isNan x.1 then (isNan y.1 && decide (x.2 < y.2))
  else if isNan y.1 then true
  else decide (rankEq x.1 < rankEq y.1) || (decide (rankEq x.1 = rankEq y.1) && decide (x.2 < y.2))

/-- The distance value of a query and an entry, from `nx`, the dot product and the norm (R250). -/
def distValue (nx dot nb mult : Word) (root : Bool) : Counted Word :=
  let t := fSub .rne nx (fMul .rne 0x40000000 dot).1
  let d2 := fAdd .rne t.1 nb
  let neg := !isNan d2.1 && decide (rankEq d2.1 < 0)
  let d := if neg then 0 else d2.1
  let v := fMul .rne d mult
  let w := if root then fSqrt v.1 else v
  (w.1, Cnt.total [t.2, d2.2, v.2, (if root then w.2 else {}), { clamped := neg.toNat }])

/-- The first `k` of a distance list (R251). -/
def nearestK (k : Nat) (l : List Ranked) : Counted (List Ranked) := firstK k (infWord false) (sortBy before251 l)

end Sys2Proof
end

