-- ==== Sys2Proof/Machine/TileGeom.lean ====
section
/-!
DEFINITION. Where the elements of a tensor lie in its rows and streams, and what a layer computes from the rows of its
sources, as functions on plain values (R203, R223 to R252, R269).
-/
namespace Sys2Proof.Machine

open Sys2Proof

/-! ### Elements of a row (R194, R196, R233) -/

/-- Channels of a pixel as stored: padded to a multiple of 32 in PIX32 and in MX tensors. -/
def TensorD.cPad (t : TensorD) : Nat := if t.layout = 1 ∨ fmtMx t.fmt then ceilDiv t.c 32 * 32 else t.c

/-- Place of channel `ch` of position `x` among the elements of a row. -/
def TensorD.place (t : TensorD) (x ch : Nat) : Nat :=
  if t.layout = 2 then
    let g := ch / 128
    g * 128 * t.w + x * min 128 (t.cPad - 128 * g) + ch % 128
  else if t.layout = 3 then ch * t.w + x
  else x * t.cPad + ch

/-- Elements of a row. -/
def TensorD.rowElems (t : TensorD) : Nat := t.cPad * t.w
/-- MX blocks of a row. -/
def TensorD.rowBlocks (t : TensorD) : Nat := ceilDiv t.rowElems 32

/-- Index of a block of a row in its stream (R207, R208): rows of a slot's ring follow one another. -/
def blockIndex (t : TensorD) (ringRows slot row blk : Nat) : Nat := (slot * ringRows + row % ringRows) * t.rowBlocks + blk

/-! ### Sources -/

/-- The rows of a source tensor for one slot, as the input stage sees them. -/
structure Src where
  t : TensorD := {}
  q : QParam := {}
  rows : List (List Byte × List Word) := []
  deriving DecidableEq, Repr

/-- Row `r` of a source. -/
def Src.row (v : Src) (r : Nat) : List Byte × List Word := (v.rows.drop r).headD ([], [])

/-- The code of an element. -/
def Src.code (v : Src) (r x ch : Nat) : Nat := codeAt v.t.fmt (v.row r).1 (v.t.place x ch)

/-- The block scale of an element; 127 where there is none. -/
def Src.scaleX (v : Src) (r x ch : Nat) : Nat :=
  if fmtMx v.t.fmt then fld (((v.row r).2.drop (v.t.place x ch / 32)).headD 127) 0 8 else 127

/-- The value of an element as FP32 (R237). -/
def Src.val (v : Src) (r x ch : Nat) : Word := realWord v.t.fmt v.q (v.scaleX r x ch) (v.code r x ch)

/-- Zero point of an integer activation tensor (R201, R205). -/
def Src.za (v : Src) : Int := if fmtInt v.t.fmt then v.q.z else 0

/-- The weights of a layer: staged bytes, row length, format, scale entries, parameter records by channel. -/
structure Wts where
  fmt : Nat
  stride : Nat
  bytes : List Byte
  stream : Nat
  scales : List Word
  qps : List QParam
  deriving DecidableEq, Repr

/-- A byte of the weight stream; a byte that was never staged is open. -/
def Wts.byte (w : Wts) (o : Nat) : Byte := ((w.bytes.drop o).head?).getD (Config.openWeight w.stream o)

/-- The code of weight `k` of output channel `c`. -/
def Wts.code (w : Wts) (c k : Nat) : Nat :=
  let o := c * w.stride + k * fmtBits w.fmt / 8
  natLE ((List.range 5).map (fun i => w.byte (o + i))) / 2 ^ (k * fmtBits w.fmt % 8) % 2 ^ fmtBits w.fmt

/-- The block scale of slice `j` of output channel `c`, for `n` slices. -/
def Wts.scaleX (w : Wts) (n c j : Nat) : Nat := if fmtMx w.fmt then fld ((w.scales.drop (c * n + j)).headD 127) 0 8 else 127

/-- Zero point of a weight channel. -/
def Wts.zc (w : Wts) (c : Nat) : Int := if fmtInt w.fmt then ((w.qps.drop c).headD {}).z else 0

/-! ### Convolution (R201, R203, R223, R228) -/

/-- Row and column that tap (`ky`, `kx`) of output (`r`, `x`) reads: a place of the input, or a padding code. -/
inductive TapCode where
  | elem (row col : Nat)
  | code (c : Nat)
  deriving DecidableEq, Repr

/-- The value of a padding tap (R203, R228). -/
def padTap (l : LayerD) (v : Src) (mode : Nat) : Nat :=
  if mode = 1 then l.padCode else if fmtInt v.t.fmt then intCode v.t.fmt v.za else 0

/-- What a tap reads. -/
def LayerD.tap (l : LayerD) (v : Src) (r x ky kx : Nat) : TapCode :=
  match tapAt v.t.h l.sy l.padLoY l.dily l.padY r ky, tapAt v.t.w l.sx l.padLoX l.dilx l.padX x kx with
  | .at i, .at j => .elem i j
  | .pad, _ => .code (padTap l v l.padY)
  | .at _, .pad => .code (padTap l v l.padX)

/-- The activation element and block scale of reduction index `k` for output channel `co` (R223). -/
def convElem (l : LayerD) (v : Src) (r x co k : Nat) : Elem × Option Nat :=
  let ci := k % max 1 l.cinG
  let t := k / max 1 l.cinG
  let ch := co / max 1 (l.cout / max 1 l.g) * l.cinG + ci
  match l.tap v r x (t / max 1 l.kw) (t % max 1 l.kw) with
  | .elem i j => ({ fmt := v.t.fmt, code := v.code i j ch }, some (v.scaleX i j ch))
  | .code c => ({ fmt := v.t.fmt, code := c }, none)

/-- Slice `j` of a reduction of length `kk` over activation elements and weights `wt k`: its FP32 result (R181, R201). -/
def sliceOf (mode : Rnd) (act : Nat → Elem × Option Nat) (wt : Nat → Elem) (wx : Nat → Nat) (za zc : Int) (kk j : Nat) :
    Counted Word :=
  let ks := (List.range 32).map (fun i => 32 * j + i) |>.filter (fun k => decide (k < kk))
  let ps := ks.map (fun k => (act k, wt k))
  let bothInt := ps.all (fun p => fmtInt p.1.1.fmt && fmtInt p.2.fmt)
  if bothInt then
    (intF32 (sliceInt za zc (ps.map (fun p => (codeInt p.1.1.fmt p.1.1.code, codeInt p.2.fmt p.2.code)))), {})
  else
    let xa := ((ps.filterMap (fun p => p.1.2)).head?).getD 127
    sliceDot mode (ps.map (fun p => (p.1.1, p.2))) xa (wx j)

/-- The slice results `j0` to `j1 - 1` of an output of a convolution. -/
def convSlices (mode : Rnd) (l : LayerD) (v : Src) (w : Wts) (r x co j0 j1 : Nat) : Counted (List Word) :=
  countAll (((List.range (j1 - j0)).map (fun i => j0 + i)).map (fun j =>
    sliceOf mode (fun k => convElem l v r x co k) (fun k => { fmt := w.fmt, code := w.code co k })
      (fun j => w.scaleX l.slices co j) v.za (w.zc co) l.k j))

/-- A channel group of 128 (CGRP). -/
def chGroup (cgrp cout : Nat) : List Nat := ((List.range 128).map (fun i => 128 * cgrp + i)).filter (fun c => decide (c < cout))

/-- Slices that an instruction covers: KS_FIRST and KS_COUNT, 0 meaning to the end of K (R268). -/
def sliceEnd (l : LayerD) (ksFirst ksCount : Nat) : Nat := if ksCount = 0 then l.slices else min l.slices (ksFirst + ksCount)

/-- Bias and MULT of an output channel; 1.0 and no bias where the layer names none (R184, R204). -/
def biasOf (bm : List (Word × Word)) (first co : Nat) : Option (Word × Word) := (bm.drop (first + co)).head?

/-- The end of a reduction: bias, MULT, activation function (R204, R238, R269). -/
def finish (mode : Rnd) (l : LayerD) (act : Nat) (bm : Option (Word × Word)) (root : Word) : Counted Word :=
  match bm with
  | some b => ((fAdd mode root b.1).andThen (fun x => fMul mode x b.2)).andThen (fun x => (actFn act l.p0 l.p1 x, {}))
  | none => (actFn act l.p0 l.p1 root, {})

/-- Every input row that output row `r` reads is among the first `n` rows (R225). -/
def rowReady (l : LayerD) (h n r : Nat) : Bool :=
  (List.range l.kh).all (fun ky => match tapAt h l.sy l.padLoY l.dily l.padY r ky with
    | .at j => decide (j < n)
    | .pad => true)

/-- Output rows from `from_` on that can be computed, `outH` bounding them. -/
def readyRows (ready : Nat → Bool) (from_ outH : Nat) : List Nat :=
  ((List.range (outH - from_)).map (fun i => from_ + i)).takeWhile ready

/-! ### Average and maximum pooling (R235, R236) -/

/-- Average pooling of one output. -/
def avgOne (mode : Rnd) (l : LayerD) (v : Src) (r x ch : Nat) : Counted Word :=
  let taps := (List.range (l.kh * l.kw)).map (fun i => l.tap v r x (i / max 1 l.kw) (i % max 1 l.kw))
  let inside := taps.filterMap (fun t => match t with
    | .elem i j => some (i, j)
    | .code _ => none)
  let used := if l.countPad then taps.length else inside.length
  let one : Elem := { fmt := 5, code := 0x3F80 }
  let acts : List (Elem × Nat) := taps.filterMap (fun t => match t with
    | .elem i j => some ({ fmt := v.t.fmt, code := v.code i j ch }, v.scaleX i j ch)
    | .code c => if l.countPad then some ({ fmt := v.t.fmt, code := c }, 127) else none)
  if used = 0 then (0, {})
  else
    let sl := chunks32 (ceilDiv acts.length 32) acts
    let sums : Counted (List Word) :=
      if fmtInt v.t.fmt then
        (sl.map (fun p => intF32 ((p.map (fun a => codeInt a.1.fmt a.1.code - v.za)).sum)), {})
      else countAll (sl.map (fun p => sliceDot mode (p.map (fun a => (a.1, one))) ((p.headD (one, 127)).2) 127))
    (sums.andThen (treeSum mode)).andThen (fun s => fDiv mode s (intF32 used))

/-- Maximum pooling of one output. -/
def maxOne (l : LayerD) (v : Src) (r x ch : Nat) : Word :=
  maxPool ((List.range (l.kh * l.kw)).filterMap (fun i =>
    match tapAt v.t.h l.sy l.padLoY l.dily 0 r (i / max 1 l.kw), tapAt v.t.w l.sx l.padLoX l.dilx 0 x (i % max 1 l.kw) with
    | .at a, .at b => some (v.val a b ch)
    | _, _ => none))

/-! ### Attention (R245, R246) -/

/-- RNE32(1/√d). -/
def invSqrt (d : Nat) : Word :=
  let r := sqrtBits 61 (2 ^ 120 / max 1 d) 0
  let sticky := if r * r * d = 2 ^ 120 then 0 else 1
  (roundF32 .rne false (2 * r + sticky) 1 (-61)).1

/-- The place of token `i` of the window that holds row `r` and column `x`. -/
def winToken (l : LayerD) (r x i : Nat) : Nat × Nat :=
  (r / max 1 l.kh * l.kh + i / max 1 l.kw, x / max 1 l.kw * l.kw + i % max 1 l.kw)

/-- The probabilities of one query for one head (R245 steps 1 to 3, R246). -/
def attnRow (mode : Rnd) (l : LayerD) (q k : Src) (bm : List (Word × Word)) (r x head : Nat) : Counted (List Word) :=
  let qi := (r % max 1 l.kh) * l.kw + x % max 1 l.kw
  let scores := countAll ((List.range l.t).map (fun j =>
    let p := winToken l r x j
    let dot := (countAll ((List.range (ceilDiv l.d 32)).map (fun sl =>
      sliceOf mode (fun e => ({ fmt := q.t.fmt, code := q.code r x (head * l.d + e) }, some (q.scaleX r x (head * l.d + e))))
        (fun e => { fmt := k.t.fmt, code := k.code p.1 p.2 (head * l.d + e) })
        (fun sl => k.scaleX p.1 p.2 (head * l.d + 32 * sl)) q.za k.za l.d sl))).andThen (treeSum mode)
    let sc := dot.andThen (fun s => fMul mode s (invSqrt l.d))
    match biasOf bm l.biasMult ((head * l.t + qi) * l.t + j) with
    | some b => sc.andThen (fun s => fAdd mode s b.1)
    | none => sc))
  if scores.1.all (fun s => decide (s = infWord true)) then (scores.1.map (fun _ => 0), scores.2.plus { masked := 1 })
  else scores.andThen (softmax mode)

/-- One output of the attention values (R245 step 4). -/
def attnOut (mode : Rnd) (l : LayerD) (p v : Src) (r x ch : Nat) : Counted Word :=
  let head := ch / max 1 l.d
  (countAll ((List.range (ceilDiv l.t 32)).map (fun sl =>
    sliceOf mode (fun j => ({ fmt := 5, code := (toX16 (FV.ofF32 (p.val r x (head * l.t + j)))).toNat }, some 127))
      (fun j => { fmt := v.t.fmt, code := v.code (winToken l r x j).1 (winToken l r x j).2 ch })
      (fun sl => v.scaleX (winToken l r x (32 * sl)).1 (winToken l r x (32 * sl)).2 ch) 0 v.za l.t sl))).andThen
    (treeSum mode)

/-! ### Rows of values to bytes (R194, R211 to R214, R233) -/

/-- Runs of neighbouring elements, packed, each with its byte offset; elements come in rising order of place. -/
def runsOf (f : Nat) : List (Nat × Nat) → List (Nat × List (Nat × Nat))
  | [] => []
  | (p, c) :: t =>
    match runsOf f t with
    | (q, l) :: rest => if q = p + 1 then (p, (p, c) :: l) :: rest else (p, [(p, c)]) :: (q, l) :: rest
    | [] => [(p, [(p, c)])]

/-- Elements in rising order of place. -/
def insertElem (x : Nat × Nat) : List (Nat × Nat) → List (Nat × Nat)
  | [] => [x]
  | y :: t => if x.1 ≤ y.1 then x :: y :: t else y :: insertElem x t

/-- A row of codes as byte runs of its stream row: offset and bytes. -/
def packRow (f : Nat) (elems : List (Nat × Nat)) : List (Nat × List Byte) :=
  (runsOf f (elems.foldr insertElem [])).map (fun r => (r.1 * fmtBits f / 8, packCodes f (r.2.map (fun e => e.2))))

/-- The outputs of one row: position, channel, value. -/
abbrev OutVals := List (Nat × Nat × Word)

/-- What a row of values becomes: byte runs, scale entries by block, the real value of each code for the statistics. -/
structure OutBytes where
  runs : List (Nat × List Byte)
  scales : List (Nat × Nat)
  /-- Channel, value, real value of the code. -/
  seen : List (Nat × Word × Word)
  deriving DecidableEq, Repr

/-- A row of values in an output tensor's format (R212 to R214). -/
def outRow (t : TensorD) (q : QParam) (away sat : Bool) (vals : OutVals) : Counted OutBytes :=
  if fmtMx t.fmt then
    let places := vals.map (fun v => (t.place v.1 v.2.1, v))
    let blks := (places.map (fun p => p.1 / 32)).eraseDups
    let one (b : Nat) : Counted (Nat × List (Nat × Nat) × List (Nat × Word × Word) × Nat) :=
      let ps := places.filter (fun p => decide (p.1 / 32 = b))
      let r := requantMx t.fmt (ps.map (fun p => p.2.2.2))
      let cs := ps.zip r.1.2
      ((b, cs.map (fun c => (c.1.1, c.2)), cs.map (fun c => (c.1.2.2.1, c.1.2.2.2, realWord t.fmt q r.1.1 c.2)), r.1.1), r.2)
    let all := countAll (blks.map one)
    ({ runs := packRow t.fmt (all.1.flatMap (fun b => b.2.1)), scales := all.1.map (fun b => (b.1, b.2.2.2)),
       seen := all.1.flatMap (fun b => b.2.2.1) }, all.2)
  else
    let cs := vals.map (fun v => (v, requantElem t.fmt q away sat v.2.2))
    ({ runs := packRow t.fmt (cs.map (fun c => (t.place c.1.1 c.1.2.1, c.2.1))), scales := [],
       seen := cs.map (fun c => (c.1.2.1, c.1.2.2, realWord t.fmt q 127 c.2.1)) }, Cnt.total (cs.map (fun c => c.2.2)))

/-! ### Normalisation (R240) -/

/-- Sets of places that a normalisation layer normalises together, for row `r` (all rows for KIND WINDOW). -/
def normSets (l : LayerD) (t : TensorD) (r : Nat) : List (List (Nat × Nat × Nat)) :=
  if l.nkind = 2 then
    (List.range t.c).map (fun ch => (List.range (t.h * t.w)).map (fun i => (i / max 1 t.w, i % max 1 t.w, ch)))
  else
    let n := if l.nkind = 1 then max 1 (t.c / max 1 l.g) else t.c
    (List.range t.w).flatMap (fun x => (List.range (ceilDiv t.c (max 1 n))).map (fun g =>
      ((List.range n).map (fun i => (r, x, g * n + i))).filter (fun p => decide (p.2.2 < t.c))))

/-- Row `r` of a normalisation layer. -/
def normRow (mode : Rnd) (l : LayerD) (v : Src) (gb : List (Word × Word)) (r : Nat) : Counted OutVals :=
  let sets := countAll ((normSets l v.t r).map (fun ps =>
    let ys := normSet mode l.p0 (ps.map (fun p =>
      let g := (biasOf gb l.gammaBeta p.2.2).getD (0x3F800000, 0)
      (v.val p.1 p.2.1 p.2.2, g.1, g.2)))
    (ps.zip ys.1, ys.2)))
  ((sets.1.flatten.filter (fun p => decide (p.1.1 = r))).map (fun p => (p.1.2.1, p.1.2.2, p.2)), sets.2)

/-! ### Lists of pairs (R243, R251, R252) -/

/-- Ranked pairs as bytes: FP32 value and 32-bit index, 8 bytes each. -/
def pairBytes (l : List Ranked) : List Byte := l.flatMap (fun p => bytesLE 4 p.1.toNat ++ bytesLE 4 p.2)

/-- `n` pairs of a byte list. -/
def pairsOf : Nat → List Byte → List Ranked
  | 0, _ => []
  | n + 1, b => (BitVec.ofNat 32 (natLE (b.take 4)), natLE ((b.drop 4).take 4)) :: pairsOf n (b.drop 8)

/-- Two partial lists merged (R252); the fill of a short list falls away. -/
def mergeLists (k : Nat) (a b : List Ranked) : Counted (List Ranked) :=
  nearestK k ((a ++ b).filter (fun p => decide (p.2 ≠ 0xFFFFFFFF)))

end Sys2Proof.Machine
end

