-- ==== Sys2Proof/Machine/TileOps.lean ====
section
/-!
DEFINITION. The tile in progress on an engine: its sources in tile SRAM, the rows that it can compute, and what it stages
(R161, R165, R192, R209, R224, R225, R273).
-/
namespace Sys2Proof.Machine

open Sys2Proof

/-! ### The tables of a job -/

/-- Stream descriptor `n`. -/
def JobImg.stream (g : JobImg) (n : Nat) : StreamD := (g.streams.drop n).headD {}
/-- Tensor descriptor of stream `n`. -/
def JobImg.tensorOf (g : JobImg) (n : Nat) : TensorD := (g.tensors.drop (g.stream n).tensor).headD {}
/-- Layer descriptor `n`. -/
def JobImg.layer (g : JobImg) (n : Nat) : LayerD := (g.layers.drop n).headD {}
/-- Parameter record `n`. -/
def JobImg.qparam (g : JobImg) (n : Nat) : QParam := (g.qparams.drop n).headD {}
/-- Tile `n` of the program. -/
def JobImg.tile (g : JobImg) (n : Nat) : TileD := (g.tiles.drop n).headD {}
/-- The entry of an input. -/
def JobImg.input (g : JobImg) (n : Nat) : InputD := (g.inputs.find? (fun i => decide (i.input = n))).getD {}

/-- Virtual address at which the buffers of a job begin: behind its image, page by page (R262). -/
def Job.dramVa (j : Job) : Nat := ceilDiv j.img.imageBytes 65536 * 65536
/-- Virtual address of the second weight set: behind everything else (R309). -/
def Job.set2Va (j : Job) : Nat := j.pages.length * 65536

/-- The tables that a tile works with: those of the second set for its slots, where they use it (R310, R311). -/
def State.imgOf (s : State) (t : TileRun) : JobImg :=
  match s.jobOf t.handle with
  | some j =>
    match t.newSet, j.set2 with
    | true, some g => { j.img with qparams := g.qparams, biasMult := g.biasMult }
    | _, _ => j.img
  | none => {}

/-- Virtual address of a stream's first byte (R262, R310). -/
def State.streamVa (s : State) (t : TileRun) (n : Nat) : Nat :=
  match s.jobOf t.handle with
  | some j =>
    let d := j.img.stream n
    if d.kind ≤ 1 then (if t.newSet ∧ j.set2.isSome then j.set2Va else j.wBase) + d.base
    else if d.kind = 2 then d.base
    else j.dramVa + d.base
  | none => 0

/-- Rows of a stream's ring for one slot. -/
def StreamD.ringRows (d : StreamD) : Nat := if d.kind = 4 then 128 else 2 ^ d.ringLog2

/-- Virtual address of a row of a stream for a slot; a slot has a ring of its own. -/
def State.rowVa (s : State) (t : TileRun) (n slot row : Nat) : Nat :=
  let d := (s.imgOf t).stream n
  s.streamVa t n + (if d.kind ≤ 2 then row else slot * d.ringRows + row % d.ringRows) * d.rowStride

/-- Virtual address of the scale entry of block `b` of an MX stream (R207). -/
def State.scaleVa (s : State) (t : TileRun) (n b : Nat) : Nat := s.streamVa t ((s.imgOf t).stream n).scale + 2 * b

/-! ### Slots and rows -/

/-- Slot `n` of a job. -/
def Job.slot (j : Job) (n : Nat) : Slot := AMap.get j.slots {} n
/-- `s` with a slot replaced. -/
def State.setSlot (s : State) (h n : Nat) (x : Slot) : State := s.updJob h (fun j => { j with slots := AMap.store j.slots {} n x })
/-- Slot `n` of the job of handle `h`. -/
def State.slotOf (s : State) (h n : Nat) : Slot := ((s.jobOf h).map (fun j => j.slot n)).getD {}

/-- Steps that a tile has committed for a slot. -/
def Slot.step (x : Slot) (tile : Nat) : Nat := AMap.get x.steps 0 tile

/-- The instructions of a job that write a stream: `256 * tile + instruction` (R269). -/
def JobImg.writers (g : JobImg) (stream : Nat) : List Nat :=
  g.tiles.zipIdx.flatMap (fun p => (p.1.prog.zipIdx.filter (fun q =>
    let o := q.1.1
    let i := q.1.2.1
    decide (i.dst.toNat = stream) && (decide (o = 0x06) || decide (o = 0x12) || decide (o = 0x14) || decide (o = 0x15)
      || decide (0x30 ≤ o)
      || (decide (0x20 ≤ o) && decide (o < 0x30)
          && decide (sliceEnd (g.layer i.layer.toNat) i.arg1.toNat i.arg0.toNat = (g.layer i.layer.toNat).slices))))).map
    (fun q => 256 * p.2 + q.2))

/-- The rows of an input ring that a slot's window takes: row and whether it is real, in order (R332). -/
def State.windowOf (s : State) (h : Nat) (j : Job) (x : Slot) (input : Nat) : List (OutRow × Bool) :=
  match AMap.look j.binds input with
  | some b =>
    let rows := (s.ringRows b.pipe b.out (ringUser h input)).dropWhile (fun r => decide ((r.seq - AMap.get x.ringFirst 0 input).toInt < 0))
    let fill (r : OutRow) : Bool :=
      match s.comet x.comet with
      | some c => decide (c.seq = x.cseq) && !x.padding && c.trailIn && decide (0 ≤ posDiff r.aligned (posWord c.windowTo))
      | none => false
    (rows.take (j.img.input input).windowRows).map (fun r => (r, !fill r))
  | none => []

/-- Rows of the window that have arrived; once a fill row has come the window is whole. -/
def State.windowRowsIn (s : State) (h : Nat) (j : Job) (x : Slot) (input : Nat) : Nat :=
  let w := s.windowOf h j x input
  if w.any (fun r => !r.2) then (j.img.input input).windowRows else w.length

/-- Rows of a stream that are present for a slot (R225, R266). -/
def State.rowsIn (s : State) (h : Nat) (j : Job) (n stream : Nat) : Nat :=
  let x := j.slot n
  let d := j.img.stream stream
  if d.kind = 5 then s.windowRowsIn h j x d.input
  else
    match (j.img.writers stream).map (fun k => AMap.get x.rows 0 k) with
    | [] => 0
    | r :: l => l.foldl min r

/-- Height of a stream's tensor: the rows of a part. -/
def JobImg.heightOf (g : JobImg) (stream : Nat) : Nat :=
  if (g.stream stream).kind = 5 then (g.input (g.stream stream).input).windowRows else (g.tensorOf stream).h

/-- Rows of one step of a tile: ROWS of its first instruction that names rows. -/
def TileD.stepRows (t : TileD) : Nat := ((t.prog.map (fun p => p.2.1.rows.toNat)).find? (fun n => decide (n ≠ 0))).getD 1

/-! ### SRAM reads (R192, R427, R571) -/

/-- The unit has a lasting fault: FAULTED is set, and firmware enters a spire in the soft part of the disabled-unit map
(R571). -/
def State.lastingUnit (s : State) (e : Nat) : State :=
  if isSpire e then
    let s := s.setBit Reg.SPR_STATUS 3 true e
    { s with flash := { s.flash with softDisabled := if s.flash.softDisabled.contains e then s.flash.softDisabled
                                                     else s.flash.softDisabled ++ [e] } }
  else s.setBit Reg.MOON_STATUS 3 true (e - 34)

/-- The fault record of an SRAM read (R572 cause 3). -/
def sramRecord (e h tile cls action status : Nat) : FaultRec :=
  { status := status, block := (engBlock e).num, cause := 3, unit := e, cls := cls, action := action, handle := h, tile := tile }

/-- What the reads of on-chip SRAM met in an instruction of a tile; answers whether the data is good. -/
def State.sramRead (s : State) (e : Nat) (t : TileRun) (r : SramRead) : State × Bool :=
  match r with
  | .clean => (s, true)
  | .corrected =>
    let c := s.retryClass e 3
    let s := ((s.engCnt e 5 1).engEvent e 3).faultRetried (sramRecord e t.handle t.tile 0 1 S_OK) c
    (if c = 2 then s.lastingUnit e else s.noteTransient e 3, true)
  | .lasting =>
    ((((s.engCnt e 5 1).engEvent e 3).faultRetried (sramRecord e t.handle t.tile 0 3 S_OK) 2).lastingUnit e, true)
  | .uncorrectable =>
    let s := ((s.engCnt e 6 1).engEvent e 4).faultNew (sramRecord e t.handle t.tile 3 7 S_UNCORRECTABLE)
    (s.faultJob t.handle S_UNCORRECTABLE, false)

/-! ### The instruction in turn -/

/-- The tile in progress on engine `e` replaced. -/
def State.putTile (s : State) (e : Nat) (t : TileRun) : State := s.setEngine e { s.engine e with tile := some t }

/-- The tile past its present instruction. -/
def TileRun.pass (t : TileRun) : TileRun :=
  match t.todo with
  | p :: r => { t with todo := r, ended := t.ended || p.2.1.last }
  | [] => t

/-- Number of the present instruction within its tile. -/
def State.instrNo (s : State) (t : TileRun) : Nat := ((s.imgOf t).tile t.tile).prog.length - t.todo.length
/-- Key of the present instruction among those of the job. -/
def State.instrKey (s : State) (t : TileRun) : Nat := 256 * t.tile + s.instrNo t

/-- The instruction that engine `e` has in turn, where it has OP `op`: the engine runs a tile that is neither suspended nor
ended. -/
def State.turn (s : State) (e op : Nat) : Option (TileRun × TileInstr) :=
  let g := s.engine e
  match g.tile with
  | some t =>
    match t.todo with
    | (o, i, _) :: _ => if s.on (engBlock e) ∧ !g.resetting ∧ !t.susp ∧ !t.ended ∧ o = op then some (t, i) else none
    | [] => none
  | none => none

/-- The instruction in turn with its effect; the state is unchanged where another instruction, or none, is in turn. -/
def State.onTurn (s : State) (e op : Nat) (f : TileRun → TileInstr → State → State) : State :=
  match s.turn e op with
  | some (t, i) => f t i s
  | none => s

/-! ### Transfers of a tile (R192, R400) -/

/-- A transfer of a tile that did not end: the tile suspends, or its job is faulted. -/
def State.dmaFail (s : State) (e : Nat) (t : TileRun) (stream : Nat) (write : Bool) (d : Dma) : State :=
  match d with
  | .done _ => s
  | .xlt c level va off =>
    let s := s.xltFault e t.handle stream ((s.imgOf t).tile t.tile).id va off level write c
    match (s.engine e).tile with
    | some r => s.putTile e { r with susp := true }
    | none => s
  | .ue _ => s.faultJob t.handle S_UNCORRECTABLE

/-- Bytes and scale entries of one row of a stream, read by DMA (R207). -/
def State.readRow (s : State) (e : Nat) (t : TileRun) (n slot row : Nat) (up : Option ReadUpset) :
    State × Except Dma (List Byte × List Word) :=
  let g := s.imgOf t
  let d := g.stream n
  let ten := g.tensorOf n
  match s.dmaRead e t.handle up (sectorsOf d.rowBytes) (s.rowVa t n slot row) d.rowBytes 0 with
  | (s1, .done l) =>
    if fmtMx ten.fmt ∧ d.scale ≠ 0xFFFF then
      let nb := ten.rowBlocks
      match s1.dmaRead e t.handle none (sectorsOf (2 * nb)) (s1.scaleVa t n (blockIndex ten d.ringRows slot row 0)) (2 * nb) 0 with
      | (s2, .done m) => (s2, .ok (l, (upTo nb).map (fun i => BitVec.ofNat 32 (natLE ((m.drop (2 * i)).take 2)))))
      | (s2, r) => (s2, .error r)
    else (s1, .ok (l, []))
  | (s1, r) => (s1, .error r)

/-- The window of a stream and slot. -/
def Ctx.win (c : Ctx) (stream slot : Nat) : List (List Byte × List Word) :=
  ((c.windows.find? (fun w => decide (w.stream = stream) && decide (w.slot = slot))).map (fun w => w.rows)).getD []

/-- A row joins a window. -/
def Ctx.addRow (c : Ctx) (stream slot : Nat) (r : List Byte × List Word) : Ctx :=
  let w : Window := { stream := stream, slot := slot, rows := c.win stream slot ++ [r] }
  { c with windows := w :: c.windows.filter (fun w => !(decide (w.stream = stream) && decide (w.slot = slot))) }

/-- The windows of a slot are given up. -/
def Ctx.dropSlot (c : Ctx) (slot : Nat) : Ctx := { c with windows := c.windows.filter (fun w => decide (w.slot ≠ slot)) }

/-- The unit whose context the tile belongs to. -/
def State.tileUnit (s : State) (t : TileRun) : Nat := ((s.imgOf t).tile t.tile).unit
/-- The context of the tile. -/
def State.tileCtx (s : State) (t : TileRun) : Ctx := s.ctx t.handle (s.tileUnit t)
/-- `s` with the context of the tile replaced. -/
def State.setTileCtx (s : State) (t : TileRun) (c : Ctx) : State := s.setCtx t.handle (s.tileUnit t) c

/-- A row of an input ring as the bytes of a tensor row. -/
def ringBytes (t : TensorD) (pix : List Nat) : List Byte := packCodes t.fmt pix

/-- Rows (slot, row) of a stream loaded into the windows one after another (R224); it stops where a transfer does not end.
Answers whether all are in. -/
def State.loadRows (s : State) (e : Nat) (t : TileRun) (n : Nat) : Option ReadUpset → List (Nat × Nat) → State × Bool
  | _, [] => (s, true)
  | up, (slot, row) :: rest =>
    let d := (s.imgOf t).stream n
    if d.kind = 5 then
      match s.jobOf t.handle with
      | some j =>
        let x := j.slot slot
        let w := (s.windowOf t.handle j x d.input).drop row
        let ten := j.img.tensorOf n
        let bytes := match w.head? with
          | some (r, true) => ringBytes ten r.pix
          | _ => packCodes ten.fmt (List.replicate ten.rowElems (Config.windowFill t.handle d.input))
        (s.setTileCtx t ((s.tileCtx t).addRow n slot (bytes, []))).loadRows e t n up rest
      | none => (s, true)
    else
      match s.readRow e t n slot row up with
      | (s1, .ok r) => (s1.setTileCtx t ((s1.tileCtx t).addRow n slot r)).loadRows e t n none rest
      | (s1, .error f) => (s1.dmaFail e t n false f, false)

/-- Rows that a LOAD_ACT still has to bring in: up to those of the tile's step, as far as they are present. -/
def State.rowsToLoad (s : State) (t : TileRun) (n rows : Nat) : List (Nat × Nat) :=
  match s.jobOf t.handle with
  | some j =>
    t.slots.flatMap (fun k =>
      let have_ := ((s.tileCtx t).win n k).length
      let goal := min (s.rowsIn t.handle j k n) (((j.slot k).step t.tile + 1) * rows)
      (upTo (goal - have_)).map (fun i => (k, have_ + i)))
  | none => []

/-! ### Sources -/

/-- A source of the present instruction for a slot: the rows in its window. -/
def State.srcOf (s : State) (t : TileRun) (n slot : Nat) : Src :=
  let g := s.imgOf t
  let ten := g.tensorOf n
  { t := ten, q := g.qparam ten.qparam, rows := (s.tileCtx t).win n slot }

/-- The name of a stream in a staging half: the second set's weights are kept apart (R311). -/
def TileRun.stagedAs (t : TileRun) (n : Nat) : Nat := if t.newSet then n + 65536 else n

/-- The staged weights of a stream in the half that the array reads. -/
def State.wtsOf (s : State) (t : TileRun) (l : LayerD) (n : Nat) : Wts :=
  let g := s.imgOf t
  let st := ((s.tileCtx t).active.find? (fun w => decide (w.stream = t.stagedAs n))).getD { stream := n, bytes := [] }
  { fmt := (g.tensorOf n).fmt, stride := (g.stream n).rowStride, bytes := st.bytes, stream := n, scales := st.scales,
    qps := g.qparams.drop l.qparamW }

/-! ### Tag checks (R208, R209) -/

/-- A mismatch of tags: expected, found, block, address of the scale entry. -/
abbrev TagFault := Nat × Nat × Nat × Nat

/-- The tag of a scale entry against block `b` of a stream. -/
def State.tagCheck (s : State) (t : TileRun) (n b : Nat) (entry : Word) : Option TagFault :=
  let d := (s.imgOf t).stream n
  let want := (d.tag0 + b) % 16
  let got := fld entry 8 4
  if want = got then none else some (want, got, b, s.scaleVa t n b)

/-- The first mismatch among the rows that a window holds. -/
def State.windowTags (s : State) (t : TileRun) (n slot : Nat) : Option TagFault :=
  let g := s.imgOf t
  let d := g.stream n
  ((s.tileCtx t).win n slot).zipIdx.findSome? (fun r => r.1.2.zipIdx.findSome? (fun e =>
    s.tagCheck t n (blockIndex (g.tensorOf n) d.ringRows slot r.2 e.2) e.1))

/-- The first mismatch among staged weights. -/
def State.weightTags (s : State) (t : TileRun) (n : Nat) : Option TagFault :=
  match (s.tileCtx t).active.find? (fun w => decide (w.stream = t.stagedAs n)) with
  | some w => w.scales.zipIdx.findSome? (fun e => s.tagCheck t n e.2 e.1)
  | none => none

/-- The first mismatch of a matrix instruction's operands. -/
def State.tagsOf (s : State) (t : TileRun) (i : TileInstr) : Option TagFault :=
  match t.slots.findSome? (fun k => s.windowTags t i.srcA.toNat k) with
  | some f => some f
  | none =>
    match s.weightTags t i.srcB.toNat with
    | some f => some f
    | none => t.slots.findSome? (fun k => s.windowTags t i.srcB.toNat k)

/-- A tag mismatch (R209): the tile stops, a record goes out and the job faults with S_SCALE_SEQ. -/
def State.scaleSeq (s : State) (e : Nat) (t : TileRun) (stream : Nat) (f : TagFault) : State :=
  let s := (s.engQCnt e 3 1).engQEvent e 2
  let r : FaultRec :=
    { status := S_SCALE_SEQ, block := (engBlock e).num, cause := 6, unit := e, cls := 3, action := 7,
      handle := t.handle, stream := stream, tile := ((s.imgOf t).tile t.tile).id, address := f.2.2.2,
      detail := bytesLE 1 f.1 ++ bytesLE 1 f.2.1 ++ bytesLE 4 f.2.2.1 }
  (s.faultNew r).faultJob t.handle S_SCALE_SEQ

/-! ### Staging (R211, R218, R273) -/

/-- What an instruction gives for one row: values that are converted to the output's format, or bytes. -/
inductive RowOut where
  | vals (v : OutVals)
  | raw (runs : List (Nat × List Byte))
  deriving DecidableEq, Repr

/-- Byte runs of a row staged. -/
def State.stageRuns (s : State) (t : TileRun) (n slot row : Nat) (runs : List (Nat × List Byte)) : TileRun :=
  let l : List Staged := runs.map (fun r =>
    { stream := n, slot := slot, row := row, va := s.rowVa t n slot row + r.1, bytes := r.2 })
  { t with writes := t.writes ++ l }

/-- Scale entries of a row staged: X and TAG = (TAG0 + b) mod 16 (R211). -/
def State.stageScales (s : State) (t : TileRun) (n slot row : Nat) (sc : List (Nat × Nat)) : TileRun :=
  let g := s.imgOf t
  let d := g.stream n
  let l : List Staged := sc.map (fun p =>
    let b := blockIndex (g.tensorOf n) d.ringRows slot row p.1
    { stream := d.scale, slot := slot, row := row, va := s.scaleVa t n b,
      bytes := bytesLE 2 (p.2 + (d.tag0 + b) % 16 * 256) })
  { t with writes := t.writes ++ l }

/-- Statistics updates of a row (R216, R218): one record for the tensor, or one for each output channel. -/
def stageStats (t : TileRun) (i : TileInstr) (seen : List (Nat × Word × Word)) : TileRun :=
  if i.stat = 0 then t
  else
    let l : List StatUpd := seen.map (fun x =>
      { va := Config.statBase t.handle i.layer.toNat + (if i.stat = 2 then 64 * x.1 else 0), v := x.2.1, d := x.2.2 })
    { t with stats := t.stats ++ l }

/-- One row of output staged. -/
def State.stageRow (s : State) (t : TileRun) (i : TileInstr) (slot row : Nat) (o : RowOut) : Counted TileRun :=
  let n := i.dst.toNat
  match o with
  | .raw runs => (s.stageRuns t n slot row runs, {})
  | .vals v =>
    let g := s.imgOf t
    let ten := g.tensorOf n
    let b := outRow ten (g.qparam ten.qparam) i.qrnd i.sat v
    (stageStats (s.stageScales (s.stageRuns t n slot row b.1.runs) n slot row b.1.scales) i b.1.seen, b.2)

/-- Rows that an instruction has done for a slot, those of this run included. -/
def State.doneRows (s : State) (t : TileRun) (slot : Nat) : Nat := AMap.get (s.slotOf t.handle slot).rows 0 (s.instrKey t)

/-- The rows of one slot computed and staged. -/
def State.computeSlot (s : State) (t : TileRun) (i : TileInstr) (slot outH : Nat) (ready : Nat → Bool)
    (mk : Nat → Counted RowOut) : Counted TileRun :=
  let from_ := s.doneRows t slot
  let rows := readyRows ready from_ outH
  let r := rows.foldl (fun (a : Counted TileRun) row =>
    let o := mk row
    let b := s.stageRow a.1 i slot row o.1
    (b.1, a.2.plus (o.2.plus b.2))) (t, {})
  ({ r.1 with progress := r.1.progress ++ [(slot, s.instrKey t, from_ + rows.length)] }, r.2)

/-- An instruction that computes rows (R225): `ready` says which rows of a slot can be computed, `mk` computes one. The
instruction is passed, and its arithmetic events are raised. -/
def State.computeRows (s : State) (e : Nat) (t : TileRun) (i : TileInstr) (outH : Nat) (ready : Nat → Nat → Bool)
    (mk : Nat → Nat → Counted RowOut) : State :=
  let r := t.slots.foldl (fun (a : Counted TileRun) slot =>
    let b := s.computeSlot a.1 i slot outH (ready slot) (mk slot)
    (b.1, a.2.plus b.2)) (t, {})
  (s.putTile e r.1.pass).engCounts e r.2

/-- A computing instruction with the checks that come first: its SRAM reads (R192) and, for matrix instructions, the tags of
its operands (R209). -/
def State.compute (s : State) (e op : Nat) (sram : SramRead) (tags : Bool) (f : TileRun → TileInstr → State → State) : State :=
  s.onTurn e op (fun t i s =>
    match s.sramRead e t sram with
    | (s1, false) => s1
    | (s1, true) =>
      match (if tags then s1.tagsOf t i else none) with
      | some x => s1.scaleSeq e t i.srcA.toNat x
      | none => f t i s1)

end Sys2Proof.Machine
end

