-- ==== Sys2Proof/Machine/Sched.lean ====
section
/-!
DEFINITION. The scheduler (chapter 10): ready tiles, eligible contexts, their order, switches of context, save areas,
slots, engine resets, spare swaps and adoption.
-/
namespace Sys2Proof.Machine

open Sys2Proof

/-! ### Ready tiles (R266, R289, R439) -/

/-- Tiles of this module's rank, with their indices. -/
def Job.ownTiles (j : Job) : List (TileD × Nat) := j.img.tiles.zipIdx.filter (fun p => decide (p.1.rank = j.rank))

/-- Units that the job uses on this module. -/
def Job.units (j : Job) : List Nat := (j.ownTiles.map (fun p => p.1.unit)).eraseDups

/-- The trigger rows of the next step of tile `n` are present for slot `k`. -/
def State.slotReady (s : State) (h : Nat) (j : Job) (t : TileD) (n k : Nat) : Bool :=
  let x := j.slot k
  let r := t.stepRows
  let height := j.img.heightOf t.trigger
  let step := x.step n
  x.taken && decide (x.st ≠ .final) && decide (step * r < height)
    && decide (min height ((step + 1) * r) ≤ s.rowsIn h j k t.trigger)

/-- The tile is not ahead of an earlier tile of its unit and trigger in a slot's step: tiles of one step run in ascending
TILE_ID. -/
def Job.inTurn (j : Job) (t : TileD) (n k : Nat) : Bool :=
  let x := j.slot k
  j.ownTiles.all (fun p => decide (n ≤ p.2) || decide (p.1.unit ≠ t.unit) || decide (p.1.trigger ≠ t.trigger)
    || decide (x.step n < x.step p.2))

/-- Slots for which tile `n` is ready. -/
def State.readySlots (s : State) (h : Nat) (j : Job) (t : TileD) (n : Nat) : List Nat :=
  (upTo j.img.slots).filter (fun k => s.slotReady h j t n k && j.inTurn t n k)

/-- Of the ready slots, those of one weight set: the old set first (R311). -/
def Job.oneSet (j : Job) (l : List Nat) : List Nat × Bool :=
  let old := l.filter (fun k => !(j.slot k).newSet)
  if old ≠ [] then (old, false) else (l, decide (l ≠ []))

/-- Weight and bank streams that a tile reads from staging (R165). -/
def JobImg.staged (g : JobImg) (t : TileD) : List Nat :=
  ((t.prog.filter (fun p => decide (p.1 = 0x20 ∨ p.1 = 0x21 ∨ p.1 = 0x26))).map (fun p => p.2.1.srcB.toNat)).filter
    (fun n => decide ((g.stream n).kind = 0 ∨ (g.stream n).kind = 2))

/-- The weights of a tile are complete in the half that it would read: the active one, or the idle one after the halves have
swapped (R165). -/
def Ctx.weightsIn (c : Ctx) (need : List Nat) : Bool :=
  need.all (fun n => c.active.any (fun w => decide (w.stream = n))) ||
    need.all (fun n => c.idle.any (fun w => decide (w.stream = n)))

/-- The names in staging of the streams that a tile needs. -/
def stagedNames (newSet : Bool) (l : List Nat) : List Nat := l.map (fun n => if newSet then n + 65536 else n)

/-- The credits that a tile requests can be granted (R438, R439). -/
def State.creditsFor (s : State) (t : TileD) (slots : Nat) : Bool :=
  !t.delivers || (decide ((s.queue 20).waiting = []) && decide (slots ≤ s.qFree 20))

/-- Tile `n` can start: its slots of one set, and which set. -/
def State.startable (s : State) (h : Nat) (j : Job) (t : TileD) (n : Nat) : Option (List Nat × Bool) :=
  let r := j.oneSet (s.readySlots h j t n)
  if r.1 ≠ [] ∧ (s.ctx h t.unit).weightsIn (stagedNames r.2 (j.img.staged t)) ∧ s.creditsFor t r.1.length then some r
  else none

/-- The tile that a context would run next: the one noted for its restore, else the last one in the program that is
ready. -/
def State.nextTile (s : State) (h : Nat) (j : Job) (u : Nat) : Option (TileD × Nat × List Nat × Bool) :=
  let all := (j.ownTiles.filter (fun p => decide (p.1.unit = u))).filterMap (fun p =>
    (s.startable h j p.1 p.2).map (fun r => (p.1, p.2, r.1, r.2)))
  match (s.ctx h u).nextTile with
  | some n =>
    match all.find? (fun x => decide (x.2.1 = n)) with
    | some x => some x
    | none => all.getLast?
  | none => all.getLast?

/-! ### Eligible contexts and their order (R295 to R298) -/

/-- A semaphore that a context waits for is still held. -/
def State.semBlocked (s : State) (c : Ctx) : Bool := c.semWait.any (fun n => (AMap.look s.job.sems n).isSome)

/-- The context of job `h` on unit `u` is eligible (R295). -/
def State.eligible (s : State) (h u : Nat) : Bool :=
  match s.jobOf h with
  | some j =>
    let c := s.ctx h u
    j.st.active && !s.semBlocked c && !(c.remote.isSome && !c.remoteDone) && (s.nextTile h j u).isSome
  | none => false

/-- Contexts of loaded jobs: handle and unit. -/
def State.allCtxs (s : State) : List (Nat × Nat) := s.job.jobs.flatMap (fun p => p.2.units.map (fun u => (p.1, u)))

/-- Jobs that use a unit. -/
def State.jobsOn (s : State) (u : Nat) : List Nat :=
  (s.job.jobs.filter (fun p => p.2.units.contains u)).map (fun p => p.1)

/-- The unit is a spire shared by more than one job (R297). -/
def State.sharedUnit (s : State) (u : Nat) : Bool := decide (u < 32) && decide (1 < (s.jobsOn u).length)

/-- The context has budget left, or needs none (R296, R297). -/
def State.hasBudget (s : State) (h u : Nat) : Bool := !s.sharedUnit u || decide (0 < (s.ctx h u).budget)

/-- Since when the context has been eligible, in raw counts up to now. -/
def State.eligFor (s : State) (h u : Nat) : Nat := ((s.ctx h u).eligAt.map (fun t => s.since t)).getD 0

/-- Context `a` comes before context `b` (R296). -/
def State.before (s : State) (a b : Nat × Nat) : Bool :=
  let ba := s.hasBudget a.1 a.2
  let bb := s.hasBudget b.1 b.2
  let pa := s.effPrio a.1 a.2
  let pb := s.effPrio b.1 b.2
  let ea := s.eligFor a.1 a.2
  let eb := s.eligFor b.1 b.2
  if ba ≠ bb then ba
  else if pa ≠ pb then decide (pb < pa)
  else if ea ≠ eb then decide (eb < ea)
  else decide (a.1 < b.1)

/-- The first of a list of contexts. -/
def State.firstCtx (s : State) : List (Nat × Nat) → Option (Nat × Nat)
  | [] => none
  | a :: t =>
    match s.firstCtx t with
    | some b => if s.before b a then some b else some a
    | none => some a

/-- Eligible contexts of the units that engine `e` serves. -/
def State.candidates (s : State) (e : Nat) : List (Nat × Nat) :=
  let us := s.unitsOf e
  s.allCtxs.filter (fun p => us.contains p.2 && s.eligible p.1 p.2)

/-- Contexts that have become eligible take the time, and those that are no longer so lose it; a budget that has run out
while its context is eligible is counted once in a window (R296, R320). -/
def State.noteElig (s : State) : State :=
  s.forAll s.allCtxs (fun p s =>
    let c := s.ctx p.1 p.2
    if s.eligible p.1 p.2 then
      let out := s.sharedUnit p.2 && decide (c.budget = 0) && c.budgetOut
      let s := s.when out (fun s => s.clientCnt p.1 6)
      s.setCtx p.1 p.2 { c with eligAt := some (c.eligAt.getD s.raw), budgetOut := c.budgetOut && !out }
    else s.setCtx p.1 p.2 { c with eligAt := none })

/-- Spire time charged to a context (R297); that its budget has run out is noted for the count. -/
def State.chargeTime (s : State) (h u n : Nat) : State :=
  let out := decide (0 < (s.ctx h u).budget) && decide ((s.ctx h u).budget ≤ n)
  let s := s.charge h u n
  s.when out (fun s => s.setCtx h u { s.ctx h u with budgetOut := true })

/-! ### Slots (R289) -/

/-- A slot becomes FREE: its rows leave the windows of every context. -/
def State.freeSlot (s : State) (h k : Nat) : State :=
  match s.jobOf h with
  | some j =>
    let s := s.forAll j.units (fun u s => s.setCtx h u ((s.ctx h u).dropSlot k))
    s.updJob h (fun j => { j with slots := AMap.del j.slots k })
  | none => s

/-- No part of the job can use the old weight set any more: on every lane a comet at or past the switch position has been
created, none before it waits to join, and no slot uses the old set (R310). -/
def State.oldSetDone (s : State) (j : Job) : Bool :=
  decide (j.switch ≠ []) && j.set2.isSome
    && j.switch.all (fun p =>
      (match (s.det p.1).high with
       | some x => decide (0 ≤ posDiff x p.2)
       | none => false)
      && !s.wt.comets.any (fun c => decide (c.2.lane = p.1) && !c.2.joined && decide (posDiff c.2.lead p.2 < 0)))
    && j.slots.all (fun p => !p.2.taken || p.2.newSet)

/-- Virtual pages that hold nothing but weights of the set in use. -/
def Job.oldPages (j : Job) : List Nat :=
  (j.img.sections.filter (fun x => decide (x.typ = 5))).flatMap (fun x =>
    let a := ceilDiv (j.wBase + x.off) 65536
    let b := (j.wBase + x.off + x.bytes) / 65536
    (upTo (b - a)).map (fun i => a + i))

/-- Staged weights once the new set is the only one. -/
def renamed (l : List StagedW) : List StagedW :=
  (l.filter (fun w => decide (65536 ≤ w.stream))).map (fun w => { w with stream := w.stream - 65536 })

/-- The old weight set is freed, and the new one is the job's set (R310). -/
def State.freeOldSet (s : State) (h : Nat) : State :=
  match s.jobOf h with
  | some j =>
    match j.set2, s.oldSetDone j with
    | some g, true =>
      let gone := j.oldPages
      let s := s.forAll gone (fun i s => s.mapPage h i 0 0 false)
      let pages := j.pages.zipIdx.map (fun p => if gone.contains p.2 then noPage else p.1)
      let img := { j.img with qparams := g.qparams, biasMult := g.biasMult, digest := g.digest, sections := g.sections }
      let slots := j.slots.map (fun p => (p.1, { p.2 with newSet := false }))
      let s := s.setJob h { j with img := img, pages := pages ++ j.set2Pages, wBase := j.set2Va, set2 := none,
                                   set2Pages := [], switch := [], slots := slots }
      (s.forAll j.units (fun u s =>
        let c := s.ctx h u
        s.setCtx h u { c with active := renamed c.active, idle := renamed c.idle })).syncFree
    | _, _ => s
  | none => s

/-- FINAL slots of a job become FREE at a tile boundary of the job on an engine, and a drained job completes (R289). -/
def State.freeFinal (s : State) (h : Nat) : State :=
  match s.jobOf h with
  | some j => (s.forAll (j.slots.filter (fun p => decide (p.2.st = .final))) (fun p s => s.freeSlot h p.1)).freeOldSet h |>.tryComplete h
  | none => s

/-! ### Save areas (R286, R300, R301) -/

/-- Bytes of the save area of a unit. -/
def Job.saveBytes (j : Job) (u : Nat) : Nat := 64 + 64 * 64 + AMap.get j.foot 0 u

/-- The header of a save area (R301). -/
def State.saveHeader (s : State) (h u reason : Nat) (j : Job) : List Byte :=
  let c := s.ctx h u
  let next := match c.nextTile with
    | some n => (j.img.tile n).id
    | none => ((s.nextTile h j u).map (fun x => x.1.id)).getD 0
  let tag := (c.remote.map (fun r => r.1)).getD 0xFFFF
  let dst := (c.remote.map (fun r => r.2)).getD 0
  let held := (s.job.sems.filter (fun p => decide (p.2 = h))).map (fun p => 2 ^ p.1)
  bytesLE 2 h ++ bytesLE 1 u ++ bytesLE 1 reason ++ bytesLE 4 next ++ bytesLE 2 tag ++ bytesLE 2 dst
  ++ bytesLE 1 c.remoteDone.toNat ++ bytesLE 3 0 ++ bytesLE 32 held.sum ++ bytesLE 8 (AMap.get j.foot 0 u)
  ++ bytesLE 8 s.now.toNat

/-- The sample header of a slot (R291). -/
def Slot.header (x : Slot) (k : Nat) : List Byte :=
  bytesLE 8 x.firstPos.toNat ++ bytesLE 8 x.time.toNat ++ bytesLE 4 x.marks.toNat
  ++ bytesLE 4 (x.cseq.toNat * 65536 + x.comet) ++ bytesLE 2 x.rowsValid ++ bytesLE 1 x.input ++ bytesLE 1 k
  ++ bytesLE 4 x.lineSeq.toNat

/-- Steps that a slot has been through: the most that any tile has committed for it. -/
def Slot.stepCount (x : Slot) : Nat := (x.steps.map (fun p => p.2)).foldl max 0

/-- The record of a slot (R301). -/
def slotRecord (j : Job) (k : Nat) : List Byte :=
  let x := j.slot k
  x.header k ++ bytesLE 1 x.st.code ++ bytesLE 3 0 ++ bytesLE 4 x.stepCount ++ List.replicate 24 0

/-- The image of a save area: header, 64 slot records, tile SRAM. -/
def State.saveImage (s : State) (e h u reason : Nat) (j : Job) : List Byte :=
  s.saveHeader h u reason j ++ (upTo 64).flatMap (fun k => slotRecord j k)
  ++ (upTo (AMap.get j.foot 0 u)).map (fun i => Config.sramImage e h s.raw i)

/-- Bytes written to a list of 64 KiB pages, page after page. -/
def State.writePages (s : State) (src : Nat) : List Nat → List Byte → State
  | [], _ => s
  | p :: t, l =>
    if l = [] then s
    else (s.writePhys src 1026 (p * 65536) (l.take 65536)).writePages src t (l.drop 65536)

/-- The context of a job on a unit is written to its save area. -/
def State.writeSave (s : State) (e h u reason : Nat) : State :=
  match s.jobOf h with
  | some j => s.writePages h (AMap.get j.saves [] u) (s.saveImage e h u reason j)
  | none => s

/-! ### Switching contexts (R298 to R303) -/

/-- Units of engine `e` on which job `h` has a context. -/
def State.ctxUnits (s : State) (e h : Nat) : List Nat :=
  match s.jobOf h with
  | some j => (s.unitsOf e).filter (fun u => j.units.contains u)
  | none => []

/-- The save of the resident context begins (R298, R300). -/
def State.beginSave (s : State) (e reason : Nat) (cause : Option Nat) : State :=
  let x := s.engine e
  s.putEngine e { x with switch := some (.saving reason), switchAt := s.raw, cause := cause, preempt := false }

/-- The restore of a job's context begins. -/
def State.beginRestore (s : State) (e h : Nat) : State :=
  let x := s.engine e
  s.putEngine e { x with switch := some (.restoring h), switchAt := s.raw, cause := some h }

/-- The job is PAUSED once none of its contexts is resident or at work (R287, R312). -/
def State.checkPaused (s : State) (h : Nat) : State :=
  match s.jobOf h with
  | some j =>
    let busy := (upTo 42).any (fun e =>
      let x := s.engine e
      decide (x.resident = some h) || decide ((x.tile.map (fun t => t.handle)) = some h) ||
        (match x.switch with
         | some (.restoring k) => decide (k = h)
         | _ => false))
    if j.st = .pausing ∧ !busy then (s.setJob h { j with st := .paused }).syncJobs else s
  | none => s

/-- A boundary of engine `e`: a resident context whose job pauses is saved (R312). -/
def State.pauseAt (s : State) (e : Nat) : State :=
  let x := s.engine e
  match x.tile, x.switch, x.resident with
  | none, none, some h =>
    match s.jobOf h with
    | some j => if j.st = .pausing then s.beginSave e 2 none else s
    | none => s
  | _, _, _ => s

/-- The tile starts on its engine (R165, R296, R304, R439). -/
def State.runTile (s : State) (e h : Nat) (x : TileD × Nat × List Nat × Bool) : State :=
  let t := x.1
  let u := t.unit
  let s := s.waited h u
  let c := s.ctx h u
  let need := stagedNames x.2.2.2 (((s.jobOf h).map (fun j => j.img.staged t)).getD [])
  let inActive := need.all (fun n => c.active.any (fun w => decide (w.stream = n)))
  let c := if inActive then c else { c with active := c.idle, idle := c.active }
  let s := s.setCtx h u { c with nextTile := none, semWait := [] }
  let s := s.when t.delivers (fun s => s.putQueue 20 ((s.queue 20).addCredit (1024 + h) x.2.2.1.length))
  let run : TileRun := { handle := h, tile := x.2.1, slots := x.2.2.1, newSet := x.2.2.2, startAt := s.raw, todo := t.prog }
  s.putEngine e { s.engine e with tile := some run, preempt := false, resident := if isSpire e then some h else none }

/-- The context that comes first is saved for, restored, or runs its tile. -/
def State.serve (s : State) (e : Nat) (p : Nat × Nat) : State :=
  let x := s.engine e
  match s.jobOf p.1 with
  | some j =>
    match s.nextTile p.1 j p.2 with
    | some t =>
      if !isSpire e ∨ x.resident = some p.1 then s.runTile e p.1 t
      else
        match x.resident with
        | some r =>
          let forced := decide (x.preempt = true) || (s.ctxUnits e r).any (fun u => s.eligible r u)
          let s := s.when forced (fun s =>
            ((s.clientCnt r 1).clientCnt p.1 2).raise Reg.QM_SCHED_EVENT 0)
          s.beginSave e (if forced then 1 else 5) (some p.1)
        | none => if (s.ctx p.1 p.2).saved then s.beginRestore e p.1 else s.runTile e p.1 t
    | none => s
  | none => s

/-- Jobs that have a tile boundary on engine `e` now: the resident one, or every one of a moon engine. -/
def State.boundaryJobs (s : State) (e : Nat) : List Nat :=
  if isSpire e then (s.engine e).resident.toList
  else (s.job.jobs.filter (fun p => (s.unitsOf e).any (fun u => p.2.units.contains u))).map (fun p => p.1)

/-- The engine can start a tile: at a boundary, powered, not faulted, no swap pending. -/
def State.engFree (s : State) (e : Nat) : Bool :=
  let x := s.engine e
  s.on (engBlock e) && x.tile.isNone && x.switch.isNone && !x.resetting && !x.swapPending && !s.engFaulted e

/-! ### Losing a context (R318) -/

/-- The slots of a context's job are dropped for want of its state (R318). -/
def State.swapLoss (s : State) (h : Nat) : State :=
  let s := (s.dropSlots h).raise Reg.QM_SCHED_EVENT 4
  match s.jobOf h with
  | some j => s.forAll j.units (fun u s => s.setCtx h u { s.ctx h u with windows := [], nextTile := none })
  | none => s

/-- The tile SRAM and the staging halves of a context are zeroed (R190): a lost context has no rows left. -/
def State.clearStaging (s : State) (h u : Nat) : State := s.setCtx h u { s.ctx h u with active := [], idle := [] }

/-! ### Spares (R162, R317, R319, R571) -/

/-- The lowest spare physical spire that has no lasting fault. -/
def State.spareSpire (s : State) : Option Nat := (upTo 34).find? (fun p => s.bit Reg.SPR_ID 6 p && !s.bit Reg.SPR_STATUS 3 p)

/-- Every job that uses a lost logical spire faults (R319). -/
def State.noSpare (s : State) (u : Nat) : State :=
  let hs := s.jobsOn u
  let s := s.raise Reg.QM_SCHED_EVENT 5
  s.forAll hs (fun h s =>
    match s.jobOf h with
    | some j =>
      if j.st.inRun then s.endRun h .faulted S_SPIRES_UNAVAILABLE
      else s.setJob h { j with st := .faulted, lastStatus := S_SPIRES_UNAVAILABLE }
    | none => s)

/-- The logical spire of physical spire `e` moves to a spare; its own contexts are in their save areas (R317, R319). -/
def State.swapSpire (s : State) (e : Nat) : State :=
  let u := s.f Reg.SPR_ID 0 5 e
  let dead := s.bit Reg.SPR_STATUS 3 e
  let s := s.setEngine e { s.engine e with swapPending := false, resident := none, hung := none }
  let clear (s : State) : State :=
    s.setF Reg.SPR_ID 0 8 ((if dead then 32 else 64)) e
  match s.spareSpire with
  | some p =>
    let s := (clear s).setF Reg.SPR_ID 0 8 (128 + u) p
    ((s.raise Reg.QM_SCHED_EVENT 3).syncJobs).noteElig
  | none =>
    if dead then (((s.noSpare u).setF Reg.SPR_ID 0 8 32 e).syncJobs).noteElig else s.raise Reg.QM_SCHED_EVENT 5

/-- A tile suspended on a translation fault is abandoned at once where a switch is requested (R401). -/
def State.yieldSuspended (s : State) (e : Nat) : State :=
  match (s.engine e).tile with
  | some t => if t.susp then s.abandonTile e else s
  | none => s

/-- A swap of the logical spire of `e` at the present boundary: the resident context is saved first (R317). -/
def State.swapAt (s : State) (e : Nat) : State :=
  let s := s.yieldSuspended e
  let x := s.engine e
  if x.tile.isSome ∨ x.switch.isSome then s.setEngine e { x with swapPending := true }
  else if x.resident.isSome then (s.setEngine e { x with swapPending := true }).beginSave e 3 none
  else s.swapSpire e

/-! ### Engine reset (R190, R316) -/

/-- An engine reset begins: the tile is abandoned and the resident context of a spire is saved first. -/
def State.engineReset (s : State) (e : Nat) : State :=
  let x := s.engine e
  if !s.on (engBlock e) ∨ x.resetting then s
  else
    let s := s.abandonTile e
    let s := s.setEngine e { s.engine e with resetting := true }
    let x := s.engine e
    if x.resident.isSome ∧ (x.switch.isNone) then s.beginSave e 4 none else s.putEngine e x

/-- Tokens in 100 microseconds at the floor rate of an operating point (R178, R267). -/
def floorRate (op : Nat) : Nat :=
  match op with
  | 0 => 150000
  | 1 => 120000
  | 2 => 85000
  | _ => 55000

/-- The effective operating point. -/
def State.effOp (s : State) : Nat := s.f Reg.PM_OP_STATUS 4 2

/-- The hang timeout of a tile in ns (R570). -/
def State.hangNs (s : State) (tokens : Nat) : Nat :=
  clampN 2 15 (s.f Reg.SNAP_FLT_CFG 8 4) * ceilDiv (tokens * 100000) (floorRate s.effOp) + 10000

end Sys2Proof.Machine
end

