-- ==== Sys2Proof/Machine/Isp.lean ====
section
/-!
DEFINITION. The image pipelines (spec/04_image_pipeline.md): stripes and frames, boundaries of a configuration, engine
reset. The write of ISP_CTX_APPLY and its boundary stand in Machine/Apply.lean.
-/
namespace Sys2Proof.Machine

open Sys2Proof

/-! ### Round robin (R123) -/

/-- Every output of context `c` has a free row (R119, R123). -/
def State.ctxRoom (s : State) (p c : Nat) : Bool :=
  let f := s.ispForce p c
  (ctxOuts f c).all (fun o => s.rowFree p o (f Reg.ISP_OUT_CFG o 0))

/-- The context is eligible: it has a unit of work, and room for its rows. -/
def State.ctxEligible (s : State) (p c : Nat) : Bool := (s.nextWork p c).isSome && s.ctxRoom p c

/-- The context that the pipeline serves next: the current one up to WEIGHT units of work in its turn, then the next. -/
def State.ispPick (s : State) (p : Nat) : Option Nat :=
  let pp := s.ispPipe p
  let others := (upTo 4).map (fun i => (pp.cur + 1 + i) % 4)
  let order := if pp.used < ctxWeight (s.ispForce p pp.cur) pp.cur then pp.cur :: others else others
  order.find? (fun c => s.ctxEligible p c)

/-- Output line numbers for `n` source lines that are lost (R133). -/
def State.skipRows (s : State) (p c n : Nat) : State :=
  let f := s.ispForce p c
  s.forAll (ctxOuts f c) (fun o s =>
    let u := s.ispOut p o
    s.setIspOut p o { u with next := u.next + BitVec.ofNat 32 (n * 256 / (outScale f o).2) })

/-- A context that waits for its next block after an engine reset lets go of the lines of the block that it was in
(R133). -/
def State.skipLost (s : State) (p c : Nat) : State :=
  let x := s.ispCtx p c
  let src := ctxSrc (s.ispForce p c) c
  if !x.waitBlock then s
  else if src.1 = 1 ∨ s.srcArea src ∨ x.lastBlock.isNone then s.setIspCtx p c { x with waitBlock := false }
  else
    let n := src.2 % 8
    let l := s.linesFor n (ctxNum p c)
    let lost := l.takeWhile (fun y => decide (some y.block = x.lastBlock))
    let s := (s.consumeLines n (ctxNum p c) (lost.map (fun y => (y.block, y.index)))).skipRows p c lost.length
    if lost.length < l.length then s.setIspCtx p c { x with waitBlock := false } else s

/-- The pipeline starts its next unit of work (R123). -/
def State.stripeStart (s : State) (p : Nat) : State :=
  if !s.on .ISP ∨ (s.ispPipe p).work.isSome then s
  else
    let s := s.forAll (upTo 4) (fun c s => s.skipLost p c)
    let stalled := (upTo 4).filter (fun c => (s.nextWork p c).isSome && !s.ctxRoom p c && !(s.ispCtx p c).waitBlock)
    let s := s.when (!stalled.isEmpty) (fun s => s.bumpBy stalled.length Reg.ISP_CNT p 6)
    match s.ispPick p with
    | none => s
    | some c =>
      if (s.ispCtx p c).waitBlock then s
      else
        match s.nextWork p c with
        | none => s
        | some (src, own, ahead, frame) =>
          let pp := s.ispPipe p
          let more := decide (c = pp.cur) && decide (pp.used < ctxWeight (s.ispForce p c) c)
          let s := s.setIspPipe p { pp with cur := c, used := if more then pp.used + 1 else 1 }
          let s := s.when (decide (c ≠ pp.cur)) (fun s => s.bump Reg.ISP_CNT p 1)
          s.startWork p c src (if src.area then [] else (s.ispCtx p c).past) own ahead frame

/-- STRIPE_START (R123). -/
def execStripeStart (p : Fin 8) (s : State) : Out := .next (s.stripeStart p)

/-- The source lines or the sample of a unit of work are released (R89, R145). -/
def State.releaseWork (s : State) (p : Nat) (w : IspWork) : State :=
  let src := ctxSrc (s.ispForce p w.ctx) w.ctx
  match w.frame with
  | some q => s.consumeSample src.2 (ctxNum p w.ctx) q
  | none => s.consumeLines (src.2 % 8) (ctxNum p w.ctx) (w.lines.map (fun l => (l.block, l.index)))

/-- The pipeline runs nothing. -/
def State.ispIdle (s : State) (p : Nat) : State :=
  (s.setIspPipe p { s.ispPipe p with work := none }).setBit Reg.ISP_PIPE_STATUS 2 true p

/-- The unit of work writes its rows as far as there is room, and is done with the last of them. -/
def State.stripeDone (s : State) (p : Nat) : State :=
  match (s.ispPipe p).work with
  | none => s
  | some w =>
    if !s.on .ISP then s
    else
      let r := s.putRows p (s.ispForce p w.ctx) w.rows
      let s := if r.2 = [] then
          ((r.1.releaseWork p w).bump Reg.ISP_CNT p 0).ispIdle p
        else
          (r.1.setIspPipe p { r.1.ispPipe p with work := some { w with rows := r.2 } }).bump Reg.ISP_CNT p 6
      s.noteElig

/-- STRIPE_DONE (R119, R123). -/
def execStripeDone (p : Fin 8) (s : State) : Out := .next (s.stripeDone p)

/-! ### Configuration (R128 to R132) -/

/-- Context `c` stands at a block or frame boundary, with no work of its own under way; a context that is off always
does. -/
def State.atBoundary (s : State) (p c : Nat) : Bool :=
  let x := s.ispCtx p c
  let src := ctxSrc (s.ispForce p c) c
  let busy : Bool := match (s.ispPipe p).work with
    | some w => decide (w.ctx = c)
    | none => false
  !busy && (!s.ctxOn p c || decide (src.1 = 1) || s.srcArea src || x.lastBlock.isNone ||
    (match s.linesFor (src.2 % 8) (ctxNum p c) with
     | l :: _ => decide (some l.block ≠ x.lastBlock)
     | [] => false))

/-- The temporal configuration of a context. -/
def tnrConfig (f : IspCfg) (c : Nat) : Bool × Word × Nat :=
  ((f Reg.ISP_NR_CFG c 0).getLsbD 2, f Reg.ISP_TNR_CFG c 0, basePair (f Reg.ISP_TNR_BASE_LO c 0) (f Reg.ISP_TNR_BASE_HI c 0))

/-- The line delay of a context under its configuration in force (R127). -/
def State.ctxDelay (s : State) (c : Nat) (f : IspCfg) : Nat :=
  let src := ctxSrc f c
  let ps := if src.1 = 0 then s.portSrc (src.2 % 8) else
    { w := s.f Reg.DEC_STREAM_MAX 0 16 src.2, comps := 1, bayer := 0, depth := 8, fill := 0, area := true }
  let h := if src.1 = 0 then s.blockLines (src.2 % 8) else s.f Reg.DEC_STREAM_MAX 16 16 src.2
  let mw := f Reg.ISP_MESH_CFG c 0
  let size := meshSize mw ps.area
  let mesh := if mw.getLsbD 0 then
      s.peek (basePair (f Reg.ISP_MESH_BASE_LO c 0) (f Reg.ISP_MESH_BASE_HI c 0)) (8 * size.1 * size.2)
    else []
  lineDelay f c ps h mesh

/-- Outputs whose shadow names context `c`. -/
def State.boundOuts (s : State) (p c : Nat) : List Nat := (upTo 4).filter (fun o => decide (s.f Reg.ISP_OUT_CFG 1 2 p o = c))

/-- The configuration in force of a context and of its outputs is that of the shadows. -/
def State.takeShadows (s : State) (p c : Nat) : State :=
  let words := s.shadowWords p c
  let mine := s.boundOuts p c
  let s := s.forAll (upTo 4) (fun d s =>
    if d = c then s
    else s.setIspCtx p d { s.ispCtx p d with force := List.filter (fun e => !(mine.any (fun o => (outAddrs p o).contains e.1)))
                                              (s.ispCtx p d).force })
  s.setIspCtx p c { s.ispCtx p c with force := words }

/-- The shadows of a context and of its outputs take effect (R128). -/
def State.applyNow (s : State) (p c : Nat) : State :=
  let old := s.ispForce p c
  let mine := s.boundOuts p c
  let s := s.takeShadows p c
  let s := s.setIspCtx p c { s.ispCtx p c with pend := false, applying := true }
  let new := s.ispForce p c
  let s := s.when (decide (tnrConfig old c ≠ tnrConfig new c)) (fun s =>
    s.setIspCtx p c { s.ispCtx p c with fresh := true, prevBad := false })
  let s := s.forAll mine (fun o s =>
    if old Reg.ISP_OUT_SCALE o 0 = new Reg.ISP_OUT_SCALE o 0 ∧ old Reg.ISP_OUT_CROP_X o 0 = new Reg.ISP_OUT_CROP_X o 0
        ∧ outColour old o = outColour new o then s
    else s.setIspOut p o { s.ispOut p o with held := [], voff := 0, odd := none })
  let s := if ctxSrc old c = ctxSrc new c then s else s.setIspCtx p c { s.ispCtx p c with past := [], lastBlock := none }
  (s.setBit Reg.ISP_CTX_STATUS 0 false p c).setF Reg.ISP_CTX_STATUS 8 8 (min 255 (s.ctxDelay c new)) p c

/-- APPLIED (R132): nothing of the old configuration is left in the stages. -/
def execApplied (p : Fin 8) (c : Fin 4) (s : State) : Out :=
  .next (if s.on .ISP ∧ (s.ispCtx p c).applying then
    (s.setIspCtx p c { s.ispCtx p c with applying := false }).raise Reg.ISP_EVENT c p
  else s)

/-! ### Engine reset (R133) -/

/-- What a context keeps through an engine reset of its pipeline. -/
def IspCtx.afterReset (x : IspCtx) : IspCtx := { x with past := [], fresh := true, prevBad := false, waitBlock := true }

/-- ISP_ENGINE_RESET (R133): work under way is abandoned and its lines are released; row stores and history frames are
invalid; the first row of each output carries PIPE_GAP. -/
def execIspEngineReset (p : Fin 8) (s : State) : Out :=
  .next (if !s.on .ISP then s
  else
    let s := match (s.ispPipe p).work with
      | some w => (s.releaseWork p w).ispIdle p
      | none => s
    let s := s.forAll (upTo 4) (fun c s => s.setIspCtx p c (s.ispCtx p c).afterReset)
    let s := s.forAll (upTo 4) (fun o s => s.setIspOut p o { s.ispOut p o with held := [], voff := 0, odd := none, gap := true })
    s.raise Reg.ISP_EVENT 9 p)

end Sys2Proof.Machine
end

