-- ==== Sys2Proof/Machine/Mirror.lean ====
section
/-!
DEFINITION. Reads of the structures that DRAM holds twice: queue rings and the comet table (R418, R436).
-/
namespace Sys2Proof.Machine

open Sys2Proof

/-- The record of a copy that was read from the other one (R572 cause 10). -/
def mirrorRecord (block id sector cls : Nat) (inj : Bool) : FaultRec :=
  { status := S_OK, block := block, cause := 10, unit := vaultOf sector, cls := cls, injected := inj, action := 8,
    address := sector * 64, detail := bytesLE 2 id }

/-- A correctable sector read through the network port is corrected and logged; a clean one is not touched. -/
def State.readCorrected (s : State) (sector : Nat) : State :=
  if popCount (s.badSyms sector) = 1 then s.corrected sector (lowSymbol (s.badSyms sector)) 1 else s

/-- A sector of the first copy, `a`, is read. Where it is uncorrectable the second copy, `b`, serves, and the first is written
again from it and counted; where both are, the read is reported as any other (R418). The row of a bad sector is listed for
repair (R416, R424). -/
def State.mirrorRead (s : State) (block id a b : Nat) : State :=
  if popCount (s.badSyms a) ≤ 1 then s.readCorrected a
  else if popCount (s.badSyms b) ≤ 1 then
    let inj := s.badInjected a
    let v := vaultOf a
    let s := ((((s.readCorrected b).bump Reg.MEM_ECC_CNT v 3).sectorStored a).bump Reg.MEM_ECC_CNT v 7)
    let s := (s.noteTransient v 10).faultRetried (mirrorRecord block id a 0 inj) (s.retryClass v 10)
    if inj then s else s.rowRepair (a / 128)
  else (s.readSector a 1 0 0).1

/-- An item of queue `q` is read from its ring. -/
def State.ringRead (s : State) (q : Nat) (i : QItem) : State :=
  s.forAll ((s.ringSectors (s.ringFirst q) q i.first i.entries).zip (s.ringSectors (s.ringMirror q) q i.first i.entries))
    (fun p s => s.mirrorRead 11 q p.1 p.2)

/-- Some sector cannot be corrected in either copy. -/
def State.bothBad (s : State) (l : List (Nat × Nat)) : Bool :=
  l.any (fun p => decide (1 < popCount (s.badSyms p.1)) && decide (1 < popCount (s.badSyms p.2)))

/-- The bytes that a read of an item of queue `q` gives. -/
def State.ringData (s : State) (q : Nat) (i : QItem) : List Byte :=
  if s.bothBad ((s.ringSectors (s.ringFirst q) q i.first i.entries).zip (s.ringSectors (s.ringMirror q) q i.first i.entries))
  then (upTo i.data.length).map (fun k => Config.lostByte q i.first k)
  else i.data

/-- Several items are read. -/
def State.ringReads (s : State) (q : Nat) (l : List QItem) : State := s.forAll l (fun i s => s.ringRead q i)

/-- Items that `n` entries touch, `a` entries from the head passed over. -/
def spanItems : Nat → Nat → List QItem → List QItem
  | _, _, [] => []
  | a, n, i :: t =>
    if 0 < a then spanItems (a - i.entries) n t
    else if n = 0 then [] else i :: spanItems 0 (n - i.entries) t

/-- The two sectors of entry `i` of a copy of the comet table, 128 bytes an entry (R329). -/
def cometSectors (base i : Nat) : List Nat := [base / 64 + 2 * i, base / 64 + (2 * i + 1)]

/-- Base of the first copy of the comet table. -/
def State.cometBase (s : State) : Nat := (s.rd64 Reg.WT_TABLE_BASE_LO Reg.WT_TABLE_BASE_HI).toNat % 2 ^ 35

/-- Entry `i` of the comet table is written in both copies. -/
def State.cometStored (s : State) (i : Nat) : State :=
  s.forAll (cometSectors s.cometBase i ++ cometSectors (Config.cometTableMirror.toNat % 2 ^ 35) i) (fun x s => s.sectorStored x)

/-- The sectors of entry `i` of the comet table in both copies. -/
def State.cometPairs (s : State) (i : Nat) : List (Nat × Nat) :=
  (cometSectors s.cometBase i).zip (cometSectors (Config.cometTableMirror.toNat % 2 ^ 35) i)

/-- Entry `i` of the comet table is read. -/
def State.cometRead (s : State) (i : Nat) : State :=
  s.forAll (s.cometPairs i) (fun p s => s.mirrorRead 12 0xFFFF p.1 p.2)

/-- The bytes that a read of entry `i` of the comet table gives, where `l` stands in it. -/
def State.cometData (s : State) (i : Nat) (l : List Byte) : List Byte :=
  if s.bothBad (s.cometPairs i) then (upTo l.length).map (fun k => Config.lostByte 65536 i k) else l

end Sys2Proof.Machine
end

