-- ==== Sys2Proof/Machine/Queue.lean ====
section
/-!
DEFINITION. Creation and destruction of hardware queues, and the commands on their arbitration points
(spec/15_hardware_queues.md, R432 to R451, R644).
-/
namespace Sys2Proof.Machine

open Sys2Proof

/-! ### Creation and destruction (R432 to R436, R449) -/

/-- KiB of the pool that a ring of a QM_Q_CFG word takes: rings are aligned to 4 KiB (R435). -/
def ringKib (w : Word) : Nat := 4 * ceilDiv (2 ^ clampN 4 16 (fld w 20 5) * (16 * 2 ^ fld w 18 2)) 4096

/-- Queue `q` is created with the QM_Q_CFG word given, empty, its rings where firmware puts them. -/
def State.makeQueue (s : State) (q : Nat) (w : Word) : State :=
  let s := (s.wr Reg.QM_Q_CFG (w ||| 0x80000000) q).wr64 Reg.QM_Q_BASE_LO Reg.QM_Q_BASE_HI (Config.ringBase q 0) q
  let s := s.wr64 Reg.QM_Q_MIRROR_LO Reg.QM_Q_MIRROR_HI (Config.ringBase q 1) q
  let s := s.wr Reg.QM_STATUS (s.rd Reg.QM_STATUS + 1)
  let s := s.wr Reg.QM_POOL_FREE (s.rd Reg.QM_POOL_FREE - BitVec.ofNat 32 (ringKib w))
  ((({ s with queues := AMap.del s.queues q }).wr Reg.QM_Q_FILL 0 q).wr Reg.QM_Q_CREDIT 0 q).wr Reg.QM_Q_SEQ 0 q

/-- Queue `q` is destroyed: its contents are discarded and its rings return to the pool. -/
def State.dropQueue (s : State) (q : Nat) : State :=
  let w := s.rd Reg.QM_Q_CFG q
  let s := s.wr Reg.QM_STATUS (s.rd Reg.QM_STATUS - 1)
  let s := s.wr Reg.QM_POOL_FREE (s.rd Reg.QM_POOL_FREE + BitVec.ofNat 32 (ringKib w))
  let s := ((s.wr Reg.QM_Q_CFG Reg.QM_Q_CFG.reset q).wr64 Reg.QM_Q_BASE_LO Reg.QM_Q_BASE_HI 0 q).wr64
    Reg.QM_Q_MIRROR_LO Reg.QM_Q_MIRROR_HI 0 q
  ((({ s with queues := AMap.del s.queues q }).wr Reg.QM_Q_FILL 0 q).wr Reg.QM_Q_CREDIT 0 q).wr Reg.QM_Q_SEQ 0 q

/-- A QM_Q_CFG word: mode, policy, consumer, RING_LOG2, ENTRY_LOG2, IRQ_EN, WATERMARK. -/
def queueWord (mode policy cons ring entry irq water : Nat) : Word :=
  BitVec.ofNat 32 (mode * 2 ^ 30 + policy * 2 ^ 29 + cons * 2 ^ 27 + ring * 2 ^ 20 + entry * 2 ^ 18 + irq * 2 ^ 17 + water)

/-- The fixed queues of R433, with the IRQ_EN and WATERMARK that QM_Q_CFG has after reset. -/
def fixedQueues : List (Nat × Word) :=
  [ (0, queueWord 0 0 1 6 0 0 1), (16, queueWord 0 0 1 12 2 0 1), (17, queueWord 0 1 1 12 0 0 1),
    (18, queueWord 0 0 3 16 3 0 1), (19, queueWord 1 1 2 12 2 0 1), (20, queueWord 0 0 0 14 0 0 1),
    (21, queueWord 1 0 2 10 2 0 1) ]

/-- Firmware creates the fixed queues that do not stand (R432, R433). -/
def State.makeFixedQueues (s : State) : State :=
  s.forAll fixedQueues (fun p s => if s.bit Reg.QM_Q_CFG 31 p.1 then s else s.makeQueue p.1 p.2)

/-! ### Producing (R438 to R444) -/

/-- The oldest request that waits can be granted (R438). -/
def State.grantable (s : State) (q : Nat) : Bool :=
  match (s.queue q).waiting with
  | (_, n) :: _ => decide (n ≤ s.qFree q)
  | [] => false

/-- CREDIT_REQUEST (R438): a request joins the requests that wait; one that cannot be granted at once is counted. -/
def execCreditRequest (q : Fin 16384) (producer n : Nat) (s : State) : Out :=
  let k := q.val
  .next (if s.qOn k then
    let x := s.queue k
    let late := !x.waiting.isEmpty || decide (s.qFree k < n)
    (s.setQueue k { x with waiting := x.waiting ++ [(producer, n)] }).when late (fun s => s.bump Reg.QM_CNT 3)
  else s)

/-- CREDIT_GRANT (R438): the oldest request is granted whole, once the free entries suffice. -/
def execCreditGrant (q : Fin 16384) (s : State) : Out :=
  let k := q.val
  .next (if s.qOn k ∧ s.grantable k then
    let x := s.queue k
    match x.waiting with
    | (p, n) :: t => s.putQueue k { x.addCredit p n with waiting := t }
    | [] => s
  else s)

/-- PACKET_RESERVE (R440, R444, R644). -/
def execPacketReserve (q : Fin 16384) (producer len : Nat) (s : State) : Out := .next (s.qReserve q producer len)

/-- BACK_FILL (R440, R441, R448). -/
def execBackFill (q : Fin 16384) (producer : Nat) (seq : Word) (kind : Fin 128) (body : List Byte) (s : State) : Out :=
  .next (s.qBackFill q producer seq kind body)

/-- A fault record given as its bytes is published, held or lost, with its trigger and its counts (R573, R574, R577). -/
def State.rawFault (s : State) (data : List Byte) : State :=
  let byte (i : Nat) : Nat := natLE ((data.drop i).take 1)
  let block := byte 2
  let cls := byte 6 % 4
  let s := s.when (decide (natLE ((data.drop 56).take 4) = s.fault.seq.toNat)) (fun s =>
    ({ s with fault := { s.fault with seq := s.fault.seq + 1 } }).bump Reg.SNAP_CNT 2)
  let s := s.when (s.faultTriggers block cls) (fun s => s.snapFire 3)
  let s := s.when (decide (cls = 1)) (fun s => s.bump Reg.SNAP_CNT 3)
  let s := s.when (decide (cls = 2)) (fun s => (s.bump Reg.SNAP_CNT 4).raise Reg.SNAP_EVENT 2)
  let s := s.when (decide (cls = 3)) (fun s => s.bump Reg.SNAP_CNT 5)
  s.faultPublish block data

/-- RECORD_PUBLISH (R443, R444, R448): a whole record into a RECORD queue; a fault record into queue 16 with what R574 and
R577 say of it. -/
def execRecordPublish (q : Fin 16384) (producer : Nat) (data : List Byte) (s : State) : Out :=
  .next (if s.qOn q ∧ !s.qPacket q then
    if q.val = 16 then s.rawFault (fitBytes 64 data) else s.qOffer q producer data
  else s)

/-- ABANDONED_PAD (R442). -/
def execAbandonedPad (q : Fin 16384) (producer : Nat) (seq : Word) (s : State) : Out := .next (s.qAbandon q producer seq)

/-! ### Consuming (R445 to R448) -/

/-- Items of queue 0 whose commands have been answered leave the ring from its head. -/
def State.releaseServed (s : State) : State :=
  let x := s.queue 0
  let gone := x.items.takeWhile (fun i => i.published && i.done)
  if gone = [] then s
  else s.putQueue 0 { x with items := x.items.drop gone.length, claimed := x.claimed - entriesOf gone }

/-- ENTRY_RELEASE (R445): a hardware consumer releases what it has taken, the CP what it has claimed. The entries of queue 0
leave with their commands. -/
def execEntryRelease (q : Fin 16384) (n : Nat) (s : State) : Out :=
  let k := q.val
  .next (if !s.qOn k then s
  else if k = 0 then s.releaseServed
  else if s.qCons k = 0 ∨ (s.qCons k = 1 ∧ n ≤ (s.queue k).claimed ∧ s.core.cp = .running) then
    let s := s.when (decide (s.qCons k = 0)) (fun s => s.ringReads k (spanItems 0 n (s.queue k).visible))
    (s.qRelease k n).flushQueues
  else s)

/-- CP_CLAIM (R445): up to 64 entries at a time, of those visible and not claimed yet. -/
def execCpClaim (q : Fin 16384) (n : Nat) (s : State) : Out :=
  let k := q.val
  .next (if s.qOn k ∧ s.qCons k = 1 ∧ s.core.cp = .running then
    let x := s.queue k
    let m := min (min n 64) (x.fill - x.claimed)
    (s.setQueue k { x with claimed := x.claimed + m }).ringReads k (spanItems x.claimed m x.visible)
  else s)

/-- The words of QM_POP_BUF from word `w` on take bytes. -/
def State.popWords (s : State) : Nat → Nat → List Byte → State
  | 0, _, _ => s
  | fuel + 1, w, l =>
    if l = [] then s
    else (s.wr Reg.QM_POP_BUF (BitVec.ofNat 32 (natLE (l.take 4))) w).popWords fuel (w + 1) (l.drop 4)

/-- A pop of queue `q` (R446, R447). -/
def State.pop (s : State) (q : Nat) : State :=
  if !s.qOn q ∨ s.qCons q ≠ 2 then
    ((s.wr Reg.QM_POP_STATUS (BitVec.ofNat 32 (q * 65536 + S_QUEUE_ACCESS))).raise Reg.QM_EVENT 2)
  else
    match (s.queue q).head with
    | some i =>
      let s := ((s.popWords 1024 0 (s.ringData q i)).ringRead q i).qRelease q i.entries
      let s := (s.wr Reg.QM_POP_STATUS (BitVec.ofNat 32 (2 ^ 31 + q * 65536 + i.len % 65536))).bump Reg.QM_CNT 1
      s.flushQueues
    | none => s.wr Reg.QM_POP_STATUS (BitVec.ofNat 32 (q * 65536 + S_NOT_VALID))

/-- A write of QM_POP. -/
def State.popWrite (s : State) (w : Writer) (q : Nat) : State := s.gate w Reg.QM_POP 0 0 0 (fun s => s.pop q)

/-- POP (R446, R447). -/
def execPop (w : Writer) (q : Fin 16384) (s : State) : Out := .next (s.popWrite w q)

/-! ### Accounting (R320) -/

/-- The accounting registers of a client return to zero. -/
def State.clearClient (s : State) (c : Nat) : State :=
  let s := (s.wr64 Reg.QM_CLIENT_TIME_LO Reg.QM_CLIENT_TIME_HI 0 c).wr64 Reg.QM_CLIENT_WAIT_LO Reg.QM_CLIENT_WAIT_HI 0 c
  (s.wr Reg.QM_CLIENT_WAIT_MAX 0 c).forAll (upTo 8) (fun k s => s.wr Reg.QM_CLIENT_CNT 0 c k)

/-- A write of QM_CLIENT_CLEAR. -/
def State.clientClearWrite (s : State) (w : Writer) (v : Word) : State :=
  s.gate w Reg.QM_CLIENT_CLEAR 0 0 0 (fun s =>
    if v.getLsbD 31 then s.forAll (upTo 64) (fun c s => s.clearClient c) else s.clearClient (fld v 0 6))

/-- CLIENT_CLEAR (R320). -/
def execClientClear (w : Writer) (client : Fin 64) (s : State) : Out :=
  .next (s.clientClearWrite w (BitVec.ofNat 32 client))

/-- CLIENT_CLEAR_ALL (R320). -/
def execClientClearAll (w : Writer) (s : State) : Out := .next (s.clientClearWrite w 0x80000000)

end Sys2Proof.Machine
end

