-- ==== Sys2Proof/Machine/HostOps.lean ====
section
/-!
DEFINITION. Mailboxes and the command interpreter (spec/16_host_link_and_mailboxes.md, R457 to R463, R473; R384, R553, R588).
-/
namespace Sys2Proof.Machine

open Sys2Proof

/-! ### Mailboxes (R457 to R459) -/

/-- State of mailbox `m`: 0 IDLE, 1 POSTED, 2 BUSY, 3 DONE. -/
def State.mbState (s : State) (m : Nat) : Nat := s.f Reg.F1_MB_STATE (2 * m) 2
/-- `s` with the state of a mailbox set. -/
def State.setMb (s : State) (m n : Nat) : State := s.setF Reg.F1_MB_STATE (2 * m) 2 n

/-- Bytes of mailbox `m`. -/
def State.mailBytes (s : State) (m off n : Nat) : List Byte := (upTo n).map (fun i => AMap.get s.host.mail 0 (4096 * m + off + i))

/-- Bytes written into mailbox `m`; none run past its end. -/
def State.putMail (s : State) (m off : Nat) (l : List Byte) : State :=
  let mail := (l.take (4096 - off)).zipIdx.foldl (fun t p => AMap.store t 0 (4096 * m + off + p.2) p.1) s.host.mail
  { s with host := { s.host with mail := mail } }

/-- OPCODE of the command in mailbox `m`. -/
def State.cmdOp (s : State) (m : Nat) : Nat := natLE (s.mailBytes m 0 2)
/-- LENGTH of the command in mailbox `m`. -/
def State.cmdLen (s : State) (m : Nat) : Nat := natLE (s.mailBytes m 2 2)
/-- A field of the payload of the command in mailbox `m`. -/
def State.arg (s : State) (m off n : Nat) : Nat := natLE (s.mailBytes m (16 + off) n)
/-- Bytes of the payload of the command in mailbox `m`. -/
def State.argBytes (s : State) (m off n : Nat) : List Byte := s.mailBytes m (16 + off) n

/-- The reply to the command in mailbox `m` (R459): its TAG is echoed. -/
def State.replyBytes (s : State) (m status : Nat) (payload : List Byte) (d0 d1 : Nat) : List Byte :=
  bytesLE 2 status ++ bytesLE 2 payload.length ++ s.mailBytes m 4 4 ++ bytesLE 4 d0 ++ bytesLE 4 d1 ++ payload

/-- The doorbell record of mailbox `m` is handled, and released with those before it (R445). -/
def State.bellServed (s : State) (m : Nat) : State :=
  let x := s.queue 0
  let mine (i : QItem) : Bool := !i.done && decide (natLE (i.data.take 1) = m)
  let items := match x.items.findIdx? mine with
    | some k => x.items.zipIdx.map (fun p => if p.2 = k then { p.1 with done := true } else p.1)
    | none => x.items
  (s.setQueue 0 { x with items := items }).releaseServed

/-- A reply is written over its command: DONE, and the mailbox's event (R458). -/
def State.mailReply (s : State) (m : Nat) (bytes : List Byte) : State :=
  let s := { s with host := { s.host with bells := s.host.bells.erase m, journal := AMap.del s.host.journal m } }
  ((((s.putMail m 0 bytes).setMb m 3).raise Reg.F1_EVENT m).bump Reg.F1_CNT 0).bellServed m

/-- A command ends with a reply; while the CP cannot write it, the journal holds it (R461). -/
def State.answer (s : State) (m status : Nat) (payload : List Byte := []) (d0 : Nat := 0) (d1 : Nat := 0) : State :=
  let b := s.replyBytes m status payload d0 d1
  if s.core.cp = .running ∨ s.core.cp = .recovery then s.mailReply m b
  else { s with host := { s.host with journal := AMap.put s.host.journal m b } }

/-! ### Service (R24, R384, R460) -/

/-- The opcodes of R473. -/
def knownOps : List Nat :=
  [1, 2, 3, 4, 5, 6, 7, 8, 0x10, 0x11, 0x20, 0x21, 0x22, 0x23, 0x24, 0x25, 0x26, 0x27, 0x28, 0x29, 0x2A, 0x2B, 0x2C, 0x2D,
   0x30, 0x31, 0x40, 0x41]

/-- NOP, STATE_SUMMARY and SNAPSHOT (R460). -/
def statusOp (op : Nat) : Bool := decide (op = 1 ∨ op = 2 ∨ op = 7)

/-- Opcodes served in S2 (R553). -/
def opInS2 (op : Nat) : Bool := decide (op = 1 ∨ op = 2 ∨ op = 7 ∨ op = 5 ∨ op = 6 ∨ op = 3 ∨ op = 0x41)

/-- Opcodes that the recovery ROM serves (R588). -/
def opInRecovery (op : Nat) : Bool := decide (op = 1 ∨ op = 0x20 ∨ op = 0x40)

/-- Some command is BUSY. -/
def State.anyBusy (s : State) : Bool := (upTo 16).any (fun m => decide (s.mbState m = 2))

/-- The command in mailbox `m` is served next: a status command at any time, every other one in doorbell order, one at a
time, and not before INIT_DONE (R384, R460). -/
def State.canServe (s : State) (m : Nat) : Bool :=
  s.live && decide (s.power ≠ 3) && (decide (s.core.cp = .running) || decide (s.core.cp = .recovery)) &&
  decide (s.mbState m = 1) &&
  (statusOp (s.cmdOp m) ||
    (s.initDone && !s.anyBusy &&
      decide ((s.host.bells.find? (fun x => !statusOp (s.cmdOp x))) = some m)))

/-- The command of opcode `op` in mailbox `m` is served (R473, R474, R553, R588). `len` is its LENGTH, none where it varies;
`pick` tells apart the forms that have rows of their own; `f` is its effect with its reply. -/
def State.command (s : State) (m op : Nat) (len : Option Nat) (pick : Bool) (f : State → State) : State :=
  if !s.canServe m then s
  else
    let o := s.cmdOp m
    if s.core.cp = .recovery ∧ !opInRecovery o then s.answer m S_FW_IMAGE
    else if !knownOps.contains o then s.answer m S_UNKNOWN_COMMAND
    else if o ≠ op ∨ !pick then s
    else if (len.map (fun n => decide (n ≠ s.cmdLen m))).getD (decide (4080 < s.cmdLen m)) then s.answer m S_BAD_LENGTH
    else if natLE (s.mailBytes m 8 8) ≠ 0 then s.answer m S_BAD_FIELD
    else if s.power = 2 ∧ !opInS2 op then s.answer m S_POWER_STATE
    else f s

/-- `f` where a condition on the fields holds, else S_BAD_FIELD (R473). -/
def State.fields (s : State) (m : Nat) (ok : Bool) (f : State → State) : State :=
  if ok then f s else s.answer m S_BAD_FIELD

/-- `f` of the job that the first field of the payload names, else S_HANDLE_INVALID (R474). -/
def State.withJob (s : State) (m : Nat) (f : Nat → Job → State → State) : State :=
  match s.jobOf (s.arg m 0 2) with
  | some j => f (s.arg m 0 2) j s
  | none => s.answer m S_HANDLE_INVALID

/-- NOP (R460, R473). -/
def execNop (m : Fin 16) (s : State) : Out := .next (s.command m 1 (some 0) true (fun s => s.answer m S_OK))

end Sys2Proof.Machine
end

