-- ==== Sys2Proof/Machine/Jobs.lean ====
section
/-!
DEFINITION. The commands of the scheduler (spec/10_scheduling_and_preemption.md) and of the engines
(spec/06_spires_and_arithmetic.md, R190; spec/21_fault_handling_and_snapshots.md, R570).
-/
namespace Sys2Proof.Machine

open Sys2Proof

/-! ### Spare swaps that a command has asked for (R317) -/

/-- The SPARE_SWAP that waits is answered once its swap has been made, or has found no spare. -/
def State.swapAnswer (s : State) : State :=
  match s.host.swapWait with
  | some (m, u, old) =>
    let t := { s with host := { s.host with swapWait := none } }
    match s.spireOf u with
    | some e => if e ≠ old then t.answer m S_OK (bytesLE 1 e) else if (s.engine old).swapPending then s else t.answer m S_SPIRES_UNAVAILABLE
    | none => t.answer m S_SPIRES_UNAVAILABLE
  | none => s

/-! ### Tile start and pre-emption -/

/-- TILE_START (R289, R296 to R298, R304, R439): at a boundary of engine `e` the FINAL slots become FREE, a pausing context
is saved, and the context that comes first runs, after a switch where it is not resident; a swap that waits is made first. -/
def State.tileStart (s : State) (e : Nat) : State :=
  let x := s.engine e
  if x.swapPending ∧ isSpire e ∧ s.on .SPR ∧ x.tile.isNone ∧ x.switch.isNone ∧ !x.resetting then (s.swapAt e).swapAnswer
  else if !s.engFree e then s
  else
    let s := s.forAll (s.boundaryJobs e) (fun h s => s.freeFinal h)
    let s := (s.pauseAt e).noteElig
    if (s.engine e).switch.isSome then s
    else
      match s.firstCtx (s.candidates e) with
      | some p => s.serve e p
      | none => s

/-- TILE_START (R296). -/
def execTileStart (e : Fin 42) (s : State) : Out := .next (s.tileStart e)

/-- An eligible context of another job comes before the resident one (R299). -/
def State.preemptWanted (s : State) (e : Nat) : Bool :=
  match (s.engine e).resident with
  | some h =>
    let mine := (s.ctxUnits e h).map (fun u => (h, u))
    (s.candidates e).any (fun p => decide (p.1 ≠ h) && mine.all (fun m => s.before p m))
  | none => false

/-- PREEMPTION_REQUEST (R299, R401): the resident tile runs to its end, and the switch is made at that boundary. -/
def execPreemptionRequest (e : Fin 42) (s : State) : Out :=
  let s := s.noteElig
  .next (if s.on (engBlock e) ∧ isSpire e ∧ s.preemptWanted e ∧ (s.engine e).switch.isNone then
    (s.putEngine e { s.engine e with preempt := true }).yieldSuspended e
  else s)

/-! ### Commit (R273, R274) -/

/-- Step 1: staged rows and node stacks to DRAM, one write after another; what is left where a transfer stops. -/
def State.writeBack (s : State) (e : Nat) (t : TileRun) : List Staged → State × Option (List Staged)
  | [] => (s, none)
  | w :: rest =>
    match s.dmaWrite e t.handle (sectorsOf w.bytes.length) w.va w.bytes 0 with
    | (s1, .done _) => s1.writeBack e t rest
    | (s1, f) => (s1.dmaFail e t w.stream true f, some (w :: rest))

/-- Physical address of a byte of a job's address space. -/
def State.jobPa (s : State) (h va : Nat) : Nat :=
  match s.jobOf h with
  | some j => (j.pages.drop (va / 65536)).headD 0 * 65536 + va % 65536
  | none => va

/-- Step 2: one statistics update as a read-modify-write at the vault (R217, R218). -/
def State.statUpdate (s : State) (e h : Nat) (u : StatUpd) : State :=
  let pa := s.jobPa h u.va
  let r := (StatRec.parse (s.peek pa 64)).update u.v u.d
  (((s.writePhys h 2 pa r.1.bytes).engQCnt e 4 1).engQCnt e 5 r.2.accSat).when (decide (r.2.accSat ≠ 0))
    (fun s => s.engQEvent e 3)

/-- Step 2 for all updates of a tile. -/
def State.commitStats (s : State) (e : Nat) (t : TileRun) : State := s.forAll t.stats (fun u s => s.statUpdate e t.handle u)

/-- The DST stream of the REMOTE_WAIT that a rank's tiles hold for a tag; the sent stream where there is none. -/
def JobImg.waitStream (g : JobImg) (rank tag src : Nat) : Nat :=
  match (g.tiles.filter (fun t => decide (t.rank = rank))).flatMap (fun t =>
      (t.prog.filter (fun p => decide (p.1 = 6) && decide (p.2.1.arg1.toNat = tag))).map (fun p => p.2.1.dst.toNat)) with
  | n :: _ => n
  | [] => src

/-- The bytes that a REMOTE_SEND carries: of the rows of its stream that are present for the tile's slots, from the lowest
address to the highest, with its offset in the stream. -/
def State.sendRange (s : State) (t : TileRun) (n : Nat) : Nat × Nat :=
  match s.jobOf t.handle with
  | some j =>
    let d := j.img.stream n
    let base := s.streamVa t n
    let vas := t.slots.flatMap (fun k => (upTo (s.rowsIn t.handle j k n)).map (fun r => s.rowVa t n k r - base))
    match vas with
    | [] => (0, 0)
    | a :: l => (l.foldl min a, l.foldl max a + d.rowBytes)
  | none => (0, 0)

/-- Step 3: one REMOTE_SEND transfer (R273, R500, R506). -/
def State.remoteOut (s : State) (e : Nat) (t : TileRun) (x : Nat × Nat × Nat) : State :=
  let g := s.imgOf t
  let r := s.sendRange t x.1
  let n := r.2 - r.1
  match s.dmaRead e t.handle none (sectorsOf n) (s.streamVa t x.1 + r.1) n 0 with
  | (s1, .done l) =>
    s1.fabSend 0 x.2.1 (messageHeader t.handle x.2.2 (g.waitStream x.2.1 x.2.2 x.1) 0 r.1 n ++ l)
  | (s1, f) => s1.dmaFail e t x.1 false f

/-- Step 3 for all transfers of a tile. -/
def State.commitSends (s : State) (e : Nat) (t : TileRun) : State := s.forAll t.sends (fun x s => s.remoteOut e t x)

/-- A VERDICT entry (R434). -/
def verdictEntry (x : Slot) (v : VerdictOut) (h : Nat) : List Byte :=
  bytesLE 4 (x.cseq.toNat * 65536 + x.comet) ++ bytesLE 1 v.kind ++ bytesLE 1 (if v.kind = 1 ∨ v.kind = 4 then v.cls else 0)
  ++ bytesLE 2 h ++ bytesLE 4 v.index ++ bytesLE 4 0

/-- Step 4: one verdict goes to queue 20; that of a padding sample is discarded (R158, R292). A final one takes its slot to
FINAL. -/
def State.deliver (s : State) (h : Nat) (v : VerdictOut) : State :=
  let x := s.slotOf h v.slot
  let s := if x.padding then s else s.qOffer 20 (1024 + h) (verdictEntry x v h)
  if v.kind = 4 then s
  else
    let s := s.setSlot h v.slot { s.slotOf h v.slot with st := .final }
    if x.padding then s else s.updJob h (fun j => { j with verdicts := j.verdicts + 1 })

/-- Step 4 for all verdicts of a tile; credits that were not used are returned (R439). -/
def State.commitVerdicts (s : State) (t : TileRun) : State :=
  let s := s.forAll t.verdicts (fun v s => s.deliver t.handle v)
  let left := (s.queue 20).credit (1024 + t.handle)
  let mine := t.slots.length - (t.verdicts.filter (fun v => !(s.slotOf t.handle v.slot).padding)).length
  if ((s.imgOf t).tile t.tile).delivers then s.putQueue 20 ((s.queue 20).useCredit (1024 + t.handle) (min left mine)) else s

/-- Step 5: semaphores are released, and with them an inherited priority (R271, R305). -/
def State.commitSems (s : State) (t : TileRun) : State :=
  if t.releases = [] then s
  else
    let sems := s.job.sems.filter (fun p => !(t.releases.contains p.1 && decide (p.2 = t.handle)))
    let s := { s with job := { s.job with sems := sems } }
    s.forAll ((s.job.ctxs.filter (fun p => decide (p.1 / 64 = t.handle))).map (fun p => p.1 % 64)) (fun u s =>
      s.setCtx t.handle u { s.ctx t.handle u with inherit := 0 })

/-- The input rows of a window that has been cut are released (R119, R290). -/
def State.releaseGather (s : State) (h : Nat) (g : Nat × Nat) : State :=
  match s.jobOf h with
  | some j =>
    let x := j.slot g.1
    match AMap.look j.binds g.2 with
    | some b =>
      let i := j.img.input g.2
      match (if x.padding then none else s.comet x.comet) with
      | some c => if c.seq = x.cseq then s.releaseInput h i b c else s
      | none =>
        s.releaseRows b.pipe b.out (ringUser h g.2) (fun r => decide ((r.seq - AMap.get x.ringFirst 0 g.2).toInt < i.windowRows))
    | none => s
  | none => s

/-- A slot after the commit of a tile: its rows, its step, and ACTIVE after the first (R289). -/
def Slot.afterTile (x : Slot) (tile : Nat) (rows : List (Nat × Nat)) : Slot :=
  { x with rows := rows.foldl (fun m p => AMap.put m p.1 (max p.2 (AMap.get m 0 p.1))) x.rows,
           steps := AMap.put x.steps tile (x.step tile + 1),
           st := if x.st = .joined then .active else x.st }

/-- Rows and steps of the tile's slots (R289). -/
def State.commitSlots (s : State) (t : TileRun) : State :=
  s.forAll t.slots (fun k s =>
    let rows := (t.progress.filter (fun p => decide (p.1 = k))).map (fun p => (p.2.1, p.2.2))
    s.setSlot t.handle k ((s.slotOf t.handle k).afterTile t.tile rows))

/-- A tile that hung once has been replayed with success: its fault is classified (R569, R570). -/
def State.hangOver (s : State) (e : Nat) (t : TileRun) : State :=
  match (s.engine e).hung with
  | some (h, n, seq) =>
    if h = t.handle ∧ n = t.tile then
      let r : FaultRec := { block := (engBlock e).num, cause := 4, unit := e, cls := s.retryClass e 4, action := 2, handle := h,
                            tile := ((s.imgOf t).tile n).id }
      ((s.faultWrite r seq).noteTransient e 4).setEngine e { s.engine e with hung := none }
    else s
  | none => s

/-- The end of a commit: the engine is at a boundary. -/
def State.tileDone (s : State) (e : Nat) (t : TileRun) : State :=
  let u := s.tileUnit t
  let s := s.hangOver e t
  let s := if isSpire e then s.chargeTime t.handle u (s.since t.startAt) else s
  let s := (s.engCnt e 0 1).clientCnt t.handle 0
  let s := s.setCtx t.handle u { s.ctx t.handle u with eligAt := none }
  let s := { s with memory := { s.memory with resumed := AMap.del s.memory.resumed e } }
  s.putEngine e { s.engine e with tile := none }

/-- What a boundary brings at once: a waiting swap, a pause (R275, R312, R317). -/
def State.afterBoundary (s : State) (e : Nat) : State :=
  if (s.engine e).swapPending then s.swapAt e else s.pauseAt e

/-- TILE_COMMIT (R273, R274). -/
def State.tileCommit (s : State) (e : Nat) : State :=
  match (s.engine e).tile with
  | some t =>
    if !s.on (engBlock e) ∨ t.susp ∨ !t.ended ∨ (s.engine e).resetting then s
    else
      match s.writeBack e t t.writes with
      | (s1, some rest) =>
        match (s1.engine e).tile with
        | some r => s1.putTile e { r with writes := rest }
        | none => s1
      | (s1, none) =>
        let s2 := ((s1.commitSlots t).commitStats e t).commitSends e t
        let s3 := (s2.commitVerdicts t).commitSems t
        let s4 := s3.forAll t.gathers (fun g s => s.releaseGather t.handle g)
        ((s4.tileDone e t).afterBoundary e).checkPaused t.handle |>.noteElig
  | none => s

/-- TILE_COMMIT (R273). -/
def execTileCommit (e : Fin 42) (s : State) : Out := .next (s.tileCommit e).swapAnswer

/-! ### Save and restore (R300 to R303, R312, R316 to R318) -/

/-- Time of a switch, charged to the context that caused it (R297). -/
def State.chargeSwitch (s : State) (e : Nat) : State :=
  let x := s.engine e
  match x.cause with
  | some h => (s.ctxUnits e h).head?.elim s (fun u => s.chargeTime h u (s.since x.switchAt))
  | none => s

/-- The resident context lies in its save area and its spire is empty. -/
def State.saved (s : State) (e h reason : Nat) : State :=
  let us := s.ctxUnits e h
  let s := s.forAll us (fun u s => (s.writeSave e h u reason).setCtx h u { s.ctx h u with saved := true })
  let x := s.engine e
  s.putEngine e { x with resident := none, switch := none }

/-- What follows a save: the swap of REASON 3, the end of a pause, the restore for the context that caused it. -/
def State.afterSave (s : State) (e h reason : Nat) : State :=
  if reason = 3 then s.swapSpire e
  else if reason = 2 then s.checkPaused h
  else if reason = 4 then s
  else
    match (s.engine e).cause with
    | some k => if (s.ctxUnits e k).any (fun u => (s.ctx k u).saved) then s.beginRestore e k else s
    | none => s

/-- CONTEXT_SAVE_DONE (R300, R301, R303, R318): `sram` is what the reads of tile SRAM met. -/
def execContextSaveDone (e : Fin 34) (sram : SramRead) (s : State) : Out :=
  let x := s.engine e
  .next (match x.switch, x.resident with
    | some (.saving reason), some h =>
      if !s.on .SPR then s
      else
        let t : TileRun := { handle := h, tile := 0, slots := [], startAt := s.raw, todo := [] }
        let s := s.chargeSwitch e
        if sram = .uncorrectable ∧ (reason = 3 ∨ reason = 4) then
          let s := ((s.engCnt e 6 1).engEvent e 4).faultNew (sramRecord e h 0xFFFFFFFF 3 3 S_UNCORRECTABLE)
          (((s.swapLoss h).saved e h reason).afterSave e h reason).noteElig.swapAnswer
        else
          match s.sramRead e t sram with
          | (s1, true) => ((s1.saved e h reason).afterSave e h reason).noteElig.swapAnswer
          | (s1, false) => s1
    | _, _ => s)

/-- The save area of a context is read back: whether the data is good (R410). -/
def State.readSave (s : State) (e h : Nat) (up : Option ReadUpset) : State × Bool :=
  match s.jobOf h with
  | some j =>
    let us := s.ctxUnits e h
    let r := us.foldl (fun (a : State × Bool) u =>
      (AMap.get j.saves [] u).foldl (fun (a : State × Bool) p =>
        let b := a.1.readPhys 1026 (p * 65536) (min 65536 (j.saveBytes u))
        (b.1, a.2 && b.2.isSome)) a) (s, true)
    match up with
    | some w =>
      match us.head? with
      | some u =>
        let q := r.1.readSector (((AMap.get j.saves [] u).headD 0) * 1024 + w.sector) 0 w.first w.second
        (q.1, r.2 && q.2)
      | none => r
    | none => r
  | none => (s, true)

/-- CONTEXT_RESTORE_DONE (R300, R302, R303): an uncorrectable read of the save area faults the job (R417). -/
def execContextRestoreDone (e : Fin 34) (upset : Option ReadUpset) (s : State) : Out :=
  let x := s.engine e
  .next (match x.switch with
    | some (.restoring h) =>
      if !s.on .SPR then s
      else
        let s := s.chargeSwitch e
        match s.readSave e h upset with
        | (s1, true) =>
          let s1 := s1.forAll (s1.ctxUnits e h) (fun u s => s.setCtx h u { s.ctx h u with saved := false })
          (s1.putEngine e { s1.engine e with resident := some h, switch := none, cause := none }).noteElig
        | (s1, false) => s1.faultJob h S_UNCORRECTABLE
    | _ => s)

/-! ### Engine resets, hangs, swaps, adoption -/

/-- SPR_ENGINE_RESET (R190, R316). -/
def execSprEngineReset (w : Writer) (e : Fin 34) (s : State) : Out :=
  .next (s.gate w Reg.SPR_CTRL e 0 0 (fun s => s.engineReset e))

/-- MOON_ENGINE_RESET (R190). -/
def execMoonEngineReset (w : Writer) (m : Fin 8) (s : State) : Out :=
  .next (s.gate w Reg.MOON_CTRL m 0 0 (fun s => s.engineReset (34 + m)))

/-- The end of an engine reset (R190, R191, R407): SRAMs zeroed, cached translations gone. A moon engine's contexts stay
assigned, and their rows are loaded again. -/
def State.resetDone (s : State) (e : Nat) : State :=
  let x := s.engine e
  let s := s.forAll ((s.allCtxs.filter (fun p => (s.unitsOf e).contains p.2)).filter (fun _ => !isSpire e))
    (fun p s => s.setCtx p.1 p.2 { s.ctx p.1 p.2 with windows := [], active := [], idle := [] })
  let s := { s with memory := { s.memory with tlb := AMap.del s.memory.tlb e } }
  ((s.putEngine e { x with resetting := false }).engCnt e 7 1).engEvent e 5

/-- ENGINE_RESET_DONE (R190): a spire whose context has been saved. -/
def execEngineResetDone (e : Fin 42) (s : State) : Out :=
  let x := s.engine e
  .next (if s.on (engBlock e) ∧ x.resetting ∧ x.switch.isNone then (s.resetDone e).noteElig else s)

/-- The record of a hang (R572 cause 4). -/
def State.hangRecord (s : State) (e : Nat) (t : TileRun) (cls action : Nat) : FaultRec :=
  let g := s.imgOf t
  let d := g.tile t.tile
  { block := (engBlock e).num, cause := 4, unit := e, cls := cls, action := action, handle := t.handle, stream := d.trigger,
    tile := d.id, address := s.streamVa t d.trigger, detail := bytesLE 8 d.tokens ++ bytesLE 8 (s.since t.startAt) }

/-- A tile has hung (R570): the engine is reset and the tile replays; the second time the fault is lasting. -/
def State.hang (s : State) (e : Nat) (t : TileRun) : State :=
  let again : Option Word := match (s.engine e).hung with
    | some (h, n, q) => if h = t.handle ∧ n = t.tile then some q else none
    | none => none
  match again with
  | some q =>
    let s := (s.faultWrite (s.hangRecord e t 2 (if isSpire e then 3 else 10)) q).lastingUnit e
    let s := (s.abandonTile e).clientCnt t.handle 7
    if isSpire e then s.swapAt e else s
  | none =>
    let seq := s.fault.seq
    let s := s.faultNew (s.hangRecord e t 0 4)
    let s := (s.setEngine e { s.engine e with hung := some (t.handle, t.tile, seq) }).clientCnt t.handle 7
    s.engineReset e

/-- HANG_TIMEOUT (R570). -/
def execHangTimeout (e : Fin 42) (s : State) : Out :=
  .next (match (s.engine e).tile with
    | some t =>
      if s.on (engBlock e) ∧ s.hangNs ((s.imgOf t).tile t.tile).tokens < s.since t.startAt then (s.hang e t).swapAnswer else s
    | none => s)

/-- LASTING_FAULT_SWAP (R317, R319): at a tile boundary of a spire with a lasting fault. -/
def execLastingFaultSwap (e : Fin 34) (s : State) : Out :=
  .next (if s.on .SPR ∧ s.bit Reg.SPR_STATUS 3 e ∧ s.bit Reg.SPR_ID 7 e ∧ (s.engine e).tile.isNone ∧
      (s.engine e).switch.isNone ∧ !(s.engine e).resetting then (s.swapAt e).swapAnswer else s)

/-- The partner of a moon engine (R171). -/
def moonPartner (m : Nat) : Nat := if m % 2 = 0 then m + 1 else m - 1

/-- MOON_ADOPTION (R171): the partner takes the work of a moon engine with a lasting fault at its tile boundary. -/
def execMoonAdoption (m : Fin 8) (s : State) : Out :=
  let p := moonPartner m
  .next (if s.on .MOON ∧ s.bit Reg.MOON_STATUS 3 m ∧ !s.bit Reg.MOON_STATUS 3 p ∧ !s.bit Reg.MOON_STATUS 4 p ∧
      (s.engine (34 + p)).tile.isNone then
    let s := s.abandonTile (34 + m)
    let s := (s.setBit Reg.MOON_STATUS 4 true p).raise Reg.MOON_EVENT 6 p
    (s.bump Reg.MOON_CNT p 7).noteElig
  else s)

/-! ### Remote replies, windows, joins -/

/-- The bytes of a message land at OFFSET in the DST stream of its job, by the fabric receive DMA, engine 42 (R302, R500). -/
def State.landMessage (s : State) (h : Nat) (l : List Byte) : State × Bool :=
  let stream := natLE ((l.drop 4).take 2)
  let off := natLE ((l.drop 8).take 4)
  let n := natLE ((l.drop 12).take 4)
  let t : TileRun := { handle := h, tile := 0, slots := [], startAt := s.raw, todo := [] }
  let data := (l.drop 16).take n
  match s.dmaWrite 42 h (sectorsOf data.length) (s.streamVa t stream + off) data 0 with
  | (s1, .done _) => (s1, true)
  | (s1, .xlt c level va o) => (s1.xltFault 42 h stream 0xFFFFFFFF va o level true c, false)
  | (s1, .ue _) => (s1.faultJob h S_UNCORRECTABLE, true)

/-- The first message that waits for a context: its tag is the one outstanding. -/
def State.replyFor (s : State) (h u : Nat) : Option (Nat × Nat × List Byte) :=
  match (s.ctx h u).remote with
  | some r => s.fab.inbox.find? (fun m => decide (m.1 ≠ 2) && decide (natLE (m.2.2.take 2) = h) && decide (natLE ((m.2.2.drop 2).take 2) = r.1))
  | none => none

/-- REMOTE_REPLY_LAND (R302, R500). -/
def execRemoteReplyLand (h : Fin 1024) (u : Fin 32) (s : State) : Out :=
  .next (if !s.on .FAB then s else
    match s.replyFor h u with
    | some m =>
      match s.landMessage h m.2.2 with
      | (s1, true) =>
        let s1 := { s1 with fab := { s1.fab with inbox := s1.fab.inbox.erase m } }
        (s1.setCtx h u { s1.ctx h u with remoteDone := true }).noteElig
      | (s1, false) => s1
    | none => s)

/-- WINDOW in ns. -/
def State.windowNs (s : State) : Nat := clampN 250 10000 (s.f Reg.QM_SCHED_CFG 0 14) * 1000

/-- ACCOUNTING_WINDOW (R297): a whole multiple of WINDOW on the time base has been passed; every context on a shared spire
receives its budget. -/
def execAccountingWindow (s : State) : Out :=
  let n := s.now.toNat / s.windowNs
  .next (if s.on .QM ∧ n ≠ s.job.window then
    let s := { s with job := { s.job with window := n } }
    (s.forAll s.allCtxs (fun p s =>
      if s.sharedUnit p.2 then
        let share := ((s.jobOf p.1).map (fun j => j.share)).getD 0
        s.setCtx p.1 p.2 { s.ctx p.1 p.2 with budget := share * s.windowNs / 1024, budgetOut := false }
      else s)).noteElig
  else s)

/-- Rows of a part's window that its first step takes: those of the GATHER that cuts it. -/
def JobImg.firstRows (g : JobImg) (input : Nat) : Nat :=
  let rows := g.tiles.flatMap (fun t =>
    (t.prog.filter (fun p => decide (p.1 = 0x14) && decide ((g.stream p.2.1.srcA.toNat).input = input))).map
      (fun p => p.2.1.rows.toNat))
  min (g.input input).windowRows (rows.headD 1)

/-- The inputs of a job that serve a line lane, with their bindings. -/
def Job.laneInputs (j : Job) (lane : Nat) : List (InputD × Binding) :=
  j.img.inputs.filterMap (fun i =>
    match AMap.look j.binds i.input with
    | some b => if b.lanes.getLsbD lane then some (i, b) else none
    | none => none)

/-- The first rows of a comet's window are present on an input: sequence number of the first. -/
def State.firstIn (s : State) (h : Nat) (j : Job) (c : Comet) (p : InputD × Binding) : Option Word :=
  let rows := windowRows c p.1.windowRows (s.ringRows p.2.pipe p.2.out (ringUser h p.1.input))
  if j.img.firstRows p.1.input ≤ rows.length then rows.head?.map (fun r => r.seq) else none

/-- The first rows of a comet's window on every input of its lane; none where some are missing. -/
def State.partFirst (s : State) (h : Nat) (j : Job) (c : Comet) : Option (AMap Word) :=
  let ins := j.laneInputs c.lane
  if ins = [] then none
  else ins.foldl (fun (a : Option (AMap Word)) p =>
    match a, s.firstIn h j c p with
    | some m, some w => some (AMap.put m p.1.input w)
    | _, _ => none) (some [])

/-- A comet placed among others by the time of its creation. -/
def byCreation (p : Nat × Comet) : List (Nat × Comet) → List (Nat × Comet)
  | [] => [p]
  | q :: t => if p.2.tCreate.toNat ≤ q.2.tCreate.toNat then p :: q :: t else q :: byCreation p t

/-- Comets that wait to join a job, in the order in which they were created. -/
def State.waiting (s : State) (j : Job) : List (Nat × Comet) :=
  let l := s.wt.comets.filter (fun p => !p.2.joined && decide (p.2.st = .opened ∨ p.2.st = .closed)
    && decide ((j.laneInputs p.2.lane) ≠ []))
  l.foldr byCreation []

/-- The lowest-numbered FREE slot. -/
def Job.freeSlot (j : Job) : Option Nat :=
  (upTo j.img.slots).find? (fun k => decide ((j.slot k).st = .free) && !(j.slot k).taken)

/-- Comet `p` joins slot `k` (R290, R310). -/
def State.joinComet (s : State) (h k : Nat) (j : Job) (p : Nat × Comet) (first : AMap Word) : State :=
  let newer := match AMap.look j.switch p.2.lane with
    | some x => decide (0 ≤ posDiff p.2.lead x)
    | none => false
  let x : Slot := { taken := true, comet := p.1, cseq := p.2.seq, ringFirst := first, newSet := newer }
  let s := s.setJob h { j with slots := AMap.put j.slots k x, parts := j.parts + 1 }
  s.setComet p.1 { p.2 with joined := true, job := h }

/-- The first padding sample in a bound ring whose rows are whole: input and first row (R292). -/
def State.paddingIn (s : State) (h : Nat) (j : Job) : Option (Nat × Word) :=
  j.binds.findSome? (fun b =>
    let rows := s.ringRows b.2.pipe b.2.out (ringUser h b.1)
    match rows with
    | r :: _ =>
      if r.marks.getLsbD 15 ∧ (j.img.input b.1).windowRows ≤ (rows.takeWhile (fun x => x.marks.getLsbD 15)).length then
        some (b.1, r.seq) else none
    | [] => none)

/-- A part that waits for a slot is counted once for its client (R290). -/
def State.noteWait (s : State) (h : Nat) (j : Job) (p : Nat × Comet) : State :=
  if j.waited.contains (p.1, p.2.seq) then s
  else (s.clientCnt h 4).setJob h { j with waited := j.waited ++ [(p.1, p.2.seq)] }

/-- No tile of the job runs on the engine whose tile cuts its windows (R290). -/
def State.joinBoundary (s : State) (h : Nat) (j : Job) : Bool :=
  (j.ownTiles.filter (fun p => p.1.prog.any (fun q => decide (q.1 = 0x14)))).all (fun p =>
    match s.engineOf p.1.unit with
    | some e => decide (((s.engine e).tile.map (fun t => t.handle)) ≠ some h)
    | none => true)

/-- A part joins a job (R290, R292). -/
def State.partJoin (s : State) (h : Nat) : State :=
  match s.jobOf h with
  | some j =>
    if !s.on .QM ∨ j.st ≠ .running ∨ !s.joinBoundary h j then s
    else
      match (s.waiting j).findSome? (fun p => (s.partFirst h j p.2).map (fun f => (p, f))), j.freeSlot with
      | some (p, f), some k => (s.joinComet h k j p f).noteElig
      | some (p, _), none => s.noteWait h j p
      | none, some k =>
        match s.paddingIn h j with
        | some (i, w) =>
          let x : Slot := { taken := true, padding := true, input := i, ringFirst := [(i, w)] }
          (s.setJob h { j with slots := AMap.put j.slots k x, parts := j.parts + 1 }).noteElig
        | none => s
      | none, none => s
  | none => s

/-- PART_JOIN (R290). -/
def execPartJoin (h : Fin 1024) (s : State) : Out := .next (s.partJoin h)

end Sys2Proof.Machine
end

