-- ==== Sys2Proof/Machine/Feas.lean ====
section
/-!
DEFINITION. The floor figures of the checks, and the checks themselves, as functions of a state: the rates of R26, R70, R124,
R125 and R139, and the feasibility of jobs (R16, R86, R127, R142, R264, R277, R300, R307, R542). Rates are in pixels or lines
per ns, times in ns, distances in sc.
-/
namespace Sys2Proof.Machine

open Sys2Proof

/-! ### Floor figures by operating point -/

/-- R_p of a pipeline (R124). -/
def pipeRate (op : Nat) : ℚ := [9 / 2, 9 / 2, 319 / 100].getD op (206 / 100)
/-- t_sw of a pipeline (R124). -/
def switchNs (op : Nat) : ℚ := [1600, 2000, 2830].getD op 4370
/-- The sustained pixel rate into the pipelines (R26). -/
def ingressRate (op : Nat) : ℚ := [32, 32, 226 / 10].getD op (146 / 10)
/-- Rate of a JPEG XS engine or an H.265 core (R139). -/
def decRate (op : Nat) : ℚ := [1 / 2, 1 / 2, 354 / 1000].getD op (229 / 1000)
/-- The aggregate rates of JPEG XS and of H.265 (R139). -/
def decTotal (op : Nat) (hevc : Bool) : ℚ :=
  if hevc then [2, 2, 142 / 100].getD op (92 / 100) else [8, 8, 567 / 100].getD op (367 / 100)
/-- The interruption I (R300). -/
def interruptNs (op : Nat) : ℚ := [82000, 86000, 121400].getD op 187600

/-! ### Rates of sources (R26, R70, R140) -/

/-- The line rate of R70 of port `n`. -/
def State.portRate (s : State) (n : Nat) : ℚ :=
  ((s.rd Reg.CAM_MAX_RATE n).toNat * (if s.camArea n then s.blockLines n else 1) : ℚ) / 10 ^ 12

/-- The configured rate of a port in pixels (R26). -/
def State.portLoad (s : State) (n : Nat) : ℚ := s.camWidth n * s.portRate n

/-- MAX_W of a stream. -/
def State.decW (s : State) (n : Nat) : Nat := s.f Reg.DEC_STREAM_MAX 0 16 n
/-- MAX_H of a stream. -/
def State.decH (s : State) (n : Nat) : Nat := s.f Reg.DEC_STREAM_MAX 16 16 n
/-- Samples of a stream per ns. -/
def State.decSamples (s : State) (n : Nat) : ℚ := ((s.rd Reg.DEC_STREAM_RATE n).toNat : ℚ) / 10 ^ 12
/-- The load of a stream (R140). -/
def State.decLoad (s : State) (n : Nat) : ℚ := s.decW n * s.decH n * s.decSamples n

/-- The sum of a figure over a list. -/
def sumOver {α : Type} (l : List α) (f : α → ℚ) : ℚ := (l.map f).sum

/-- The configured rates of all enabled ports and streams together (R26). -/
def State.ingressLoad (s : State) : ℚ :=
  sumOver ((upTo 8).filter (fun n => s.camEnabled n)) (fun n => s.portLoad n)
    + sumOver ((upTo 32).filter (fun n => s.decOn n)) (fun n => s.decLoad n)

/-- The sum of R26 stays within the figure of an operating point. -/
def State.ingressOk (s : State) (op : Nat) : Bool := decide (s.ingressLoad ≤ ingressRate op)

/-- Wire bits of a pixel of port `n` (R70, R74). -/
def State.wireBits (s : State) (n : Nat) : Nat :=
  let d := s.f Reg.CAM_FMT 18 2 n
  if s.camPattern n = 5 ∨ s.camPattern n = 6 then 24
  else if d = 0 then 8
  else if d = 3 ∨ !s.bit Reg.CAM_FMT 17 n then 16
  else if d = 1 then 10 else 12

/-- Bits per ns that a port needs. -/
def State.wireLoad (s : State) (n : Nat) : ℚ := s.portLoad n * s.wireBits n

/-- The rate of a MAC mode in bits per ns (R495). -/
def macGbps (mode : Nat) : ℚ := [10, 25, 50].getD mode 100

/-- The payload condition of R70 for port `n`: its lanes, or its MAC over all enabled ports that share it. -/
def State.payloadOk (s : State) (n : Nat) : Bool :=
  if s.camGev n then
    let m := s.camMac n
    let all := (upTo 8).filter (fun p => s.camEnabled p && s.camGev p && decide (s.camMac p = m))
    decide (sumOver all (fun p => s.wireLoad p) ≤ (985 / 1000 : ℚ) * macGbps (s.f Reg.LN_MAC_CFG 6 3 m))
  else
    let lane : ℚ := if s.bit Reg.CAM_PORT_CFG 4 n then 24 else 96 / 10
    decide (s.wireLoad n ≤ (s.f Reg.CAM_PORT_CFG 2 2 n + 1 : ℚ) * lane)

/-! ### Load of a pipeline (R125, R127) -/

/-- W_c, f_c and S_c of a context from its source's configuration (R125). -/
def State.srcFigures (s : State) (f : IspCfg) (c : Nat) : ℚ × ℚ × ℚ :=
  let src := ctxSrc f c
  if src.1 = 1 then (s.decW src.2, s.decH src.2 * s.decSamples src.2, s.decH src.2)
  else
    let n := src.2 % 8
    (s.camWidth n, s.portRate n, if s.camArea n then s.blockLines n else stripeLines f c)

/-- Enabled contexts of a pipeline. -/
def State.ctxsOn (s : State) (p : Nat) : List Nat := (upTo 4).filter (fun c => s.ctxOn p c)

/-- The source of a context counts in the load: a port only while it is enabled (R643). -/
def State.srcCounts (s : State) (f : IspCfg) (c : Nat) : Bool :=
  decide ((ctxSrc f c).1 = 1) || s.camEnabled ((ctxSrc f c).2 % 8)

/-- The load of pipeline `p` at an operating point (R125), under the configuration that `cfg` gives each context. -/
def State.pipeLoadWith (s : State) (p op : Nat) (cfg : Nat → IspCfg) : ℚ :=
  let on := s.ctxsOn p
  let use := on.filter (fun c => s.srcCounts (cfg c) c)
  let pix := sumOver use (fun c => let x := s.srcFigures (cfg c) c; x.2.1 * x.1) / pipeRate op
  let turns := sumOver use (fun c => let x := s.srcFigures (cfg c) c; x.2.1 * switchNs op / x.2.2)
  if 1 < on.length then pix + turns else pix

/-- The load under the configurations in force. -/
def State.pipeLoad (s : State) (p op : Nat) : ℚ := s.pipeLoadWith p op (fun c => s.ispForce p c)

/-- No pipeline is loaded above 1. -/
def State.pipesOk (s : State) (op : Nat) : Bool := (upTo 8).all (fun p => decide (s.pipeLoad p op ≤ 1))

/-- The turn time of a pipeline (R127). -/
def State.turnNs (s : State) (p op : Nat) : ℚ :=
  sumOver (s.ctxsOn p) (fun c =>
    let f := s.ispForce p c
    let x := s.srcFigures f c
    ctxWeight f c * (x.2.2 * x.1 / pipeRate op + switchNs op))

/-! ### Decoders (R140) -/

/-- Streams that are on and use a codec. -/
def State.decUsers (s : State) (hevc : Bool) : List Nat := (upTo 32).filter (fun n => s.decOn n && s.decHevc n == hevc)

/-- H.265 core of a stream. -/
def State.decCore (s : State) (n : Nat) : Nat := s.f Reg.DEC_STREAM_CFG 6 2 n

/-- Streams that are on and share the core of stream `n`. -/
def State.coreUsers (s : State) (k : Nat) : List Nat := (s.decUsers true).filter (fun n => decide (s.decCore n = k))

/-- The loads of all streams lie within the engine and core rates. -/
def State.decRatesOk (s : State) (op : Nat) : Bool :=
  (s.decUsers false).all (fun n => decide (s.decLoad n ≤ decRate op)) &&
    (upTo 4).all (fun k => decide (sumOver (s.coreUsers k) (fun n => s.decLoad n) ≤ decRate op))

/-- BUDGET of stream `n` is long enough at an operating point. -/
def State.decBudgetOk (s : State) (n op : Nat) : Bool :=
  let pix : ℚ := if s.decHevc n then sumOver (s.coreUsers (s.decCore n)) (fun m => (s.decW m * s.decH m : ℚ))
    else s.decW n * s.decH n
  decide (pix / decRate op ≤ (s.rd Reg.DEC_STREAM_BUDGET n).toNat * 1000)

/-- The checks of R140 at an operating point. -/
def State.decOk (s : State) (op : Nat) : Bool :=
  s.decRatesOk op && ((s.decUsers false) ++ (s.decUsers true)).all (fun n => s.decBudgetOk n op)

/-! ### What serves a line lane (R86, R127, R142, R264) -/

/-- The context that feeds output unit `o` of pipeline `p`, with its configuration: the one in force, else that of the shadow
registers. -/
def State.outFeed (s : State) (p o : Nat) : Nat × IspCfg :=
  match (upTo 4).find? (fun c => (ctxOuts (s.ispForce p c) c).contains o) with
  | some c => (c, s.ispForce p c)
  | none => (s.f Reg.ISP_OUT_CFG 1 2 p o, s.ispShadow p)

/-- Bindings of any job that serve a line lane: pipeline and output unit. -/
def State.feeds (s : State) (lane : Nat) : List (Nat × Nat) :=
  (s.job.jobs.flatMap (fun j => (j.2.binds.filter (fun b => b.2.lanes.getLsbD lane)).map (fun b => (b.2.pipe, b.2.out)))).eraseDups

/-- The contexts that serve a line lane: pipeline, context and configuration. -/
def State.laneCtxs (s : State) (lane : Nat) : List (Nat × Nat × IspCfg) :=
  (s.feeds lane).map (fun b => (b.1, (s.outFeed b.1 b.2).1, (s.outFeed b.1 b.2).2))

/-- A context's source is a line-scan port. -/
def State.lineScan (s : State) (f : IspCfg) (c : Nat) : Bool := !s.srcArea (ctxSrc f c)

/-- PITCH of the port that a context reads. -/
def State.srcPitch (s : State) (f : IspCfg) (c : Nat) : Nat := (s.rd Reg.CAM_TRIG_PITCH ((ctxSrc f c).2 % 8)).toNat

/-- The largest of a list of numbers. -/
def maxOf (l : List Nat) : Nat := l.foldl max 0

/-- The line term L of a job on a line lane (R264). -/
def State.lineTerm (s : State) (j : Job) (lane : Nat) : Nat :=
  maxOf (j.img.inputs.map (fun i =>
    match AMap.look j.binds i.input with
    | some b =>
      let x := s.outFeed b.pipe b.out
      if b.lanes.getLsbD lane ∧ i.source = 0 ∧ s.lineScan x.2 x.1 then
        ceilDiv (i.lineTermRows * (outScale x.2 b.out).2 * s.srcPitch x.2 x.1) 256
      else 0
    | none => 0))

/-- The increase of L for a line lane: the largest positive CAM_OFFSET (R86) and the largest line delay at its trigger pitch
(R127). -/
def State.extraL (s : State) (lane : Nat) : Nat :=
  let l := s.laneCtxs lane
  maxOf (l.map (fun x => if (ctxSrc x.2.2 x.2.1).1 = 0 then (s.camOffset ((ctxSrc x.2.2 x.2.1).2 % 8)).toNat else 0))
    + maxOf (l.map (fun x => if s.lineScan x.2.2 x.2.1 then s.ctxDelay x.2.1 x.2.2 * s.srcPitch x.2.2 x.2.1 else 0))

/-- The increase of C for a line lane: the turn times of the pipelines involved (R127), and BUDGET and TIMEOUT of the decoded
stream that takes longest (R142). -/
def State.extraC (s : State) (lane op : Nat) : ℚ :=
  let l := s.laneCtxs lane
  sumOver ((l.map (fun x => x.1)).eraseDups) (fun p => s.turnNs p op)
    + (maxOf (l.map (fun x =>
        let src := ctxSrc x.2.2 x.2.1
        if src.1 = 1 then
          ((s.rd Reg.DEC_STREAM_BUDGET src.2).toNat + s.f Reg.DEC_STREAM_BATCH 8 24 src.2) * 1000
        else 0)) : ℚ)

/-! ### The check of R277 -/

/-- C_eff of a job whose compute term is `c` (R307); none where S × W is not greater than I on a shared spire. -/
def State.effC (s : State) (j : Job) (c : ℚ) (op : Nat) : Option ℚ :=
  let i := interruptNs op
  if j.units.any (fun u => s.sharedUnit u) then
    let w : ℚ := s.windowNs
    let sw := (j.share : ℚ) / 1024 * w
    if sw ≤ i then none else some ((c / (sw - i) + 1) * w + i)
  else some (c + i)

/-- The check of R16 for one line lane, with the additions of R86, R127, R142 and R307. -/
def State.laneOk (s : State) (j : Job) (lane : Nat) (cEff : ℚ) (op : Nat) : Bool :=
  let slack : ℚ := (s.rd Reg.WT_COMMIT_LEAD lane).toNat - (s.rd Reg.WT_MAX_LEN lane).toNat - s.lineTerm j lane - s.extraL lane
  decide ((cEff + s.extraC lane op) * ((s.rd Reg.WT_MAX_SPEED lane).toNat * 16384 / 10 ^ 9) ≤ slack)

/-- Line lanes that a job serves. -/
def Job.lanes (j : Job) : List Nat := (upTo 32).filter (fun l => j.serves l)

/-- A job meets the check of R277 at an operating point, with `mult` × C (R311). -/
def State.jobOk (s : State) (h op mult : Nat) : Bool :=
  match s.jobOf h with
  | some j =>
    match s.effC j (mult * j.img.compute.getD op 0) op with
    | some c => j.lanes.all (fun l => s.laneOk j l c op)
    | none => false
  | none => true

/-- Every loaded job meets the check at an operating point (R17, R308). -/
def State.jobsOk (s : State) (op : Nat) : Bool := s.job.jobs.all (fun p => s.jobOk p.1 op 1)

/-- Every job that serves line lane `l` meets the check (R16). -/
def State.laneJobsOk (s : State) (l : Nat) : Bool := s.job.jobs.all (fun p => !p.2.serves l || s.jobOk p.1 s.effOp 1)

/-- The change from `s` to `t` makes no job fail that met the check before. -/
def State.keepsJobs (s t : State) : Bool := t.job.jobs.all (fun p => !s.jobOk p.1 s.effOp 1 || t.jobOk p.1 t.effOp 1)

/-- L_IN_FORCE of a job: L of R264, largest over the served lanes (R282). -/
def State.lInForce (s : State) (j : Job) : Nat := maxOf (j.lanes.map (fun l => s.lineTerm j l))

/-- Jobs take the operating point of the check that they have just passed (R282). -/
def State.checkedAt (s : State) (op : Nat) : State :=
  { s with job := { s.job with jobs := s.job.jobs.map (fun p => (p.1, { p.2 with op := op })) } }

/-! ### Load registers -/

/-- A load in 1/1,024, at most 65,535. -/
def load1024 (x : ℚ) : Nat := min 65535 (x * 1024).floor.toNat

/-- ISP_PIPE_STATUS.LOAD and DEC_STATUS follow the configuration (R125, R139). -/
def State.syncLoads (s : State) : State :=
  let op := s.effOp
  let s := if s.on .ISP then s.forAll (upTo 8) (fun p s => s.setF Reg.ISP_PIPE_STATUS 16 16 (load1024 (s.pipeLoad p op)) p) else s
  if s.on .DEC then
    let total (hevc : Bool) : Nat := load1024 (sumOver (s.decUsers hevc) (fun n => s.decLoad n) / decTotal op hevc)
    (s.setF Reg.DEC_STATUS 16 16 (total false)).setF Reg.DEC_STATUS 0 16 (total true)
  else s

end Sys2Proof.Machine
end

