-- ==== Sys2Proof/Machine/Apply.lean ====
section
/-!
DEFINITION. The write of ISP_CTX_APPLY, the checks that firmware makes on the shadows, and the boundary at which they take
effect (spec/04_image_pipeline.md, R99, R102, R106, R110, R112, R113, R117, R125, R127 to R131).
-/
namespace Sys2Proof.Machine

open Sys2Proof

/-- The source of a context under a configuration, with its lines per block or frame. -/
def State.cfgSrc (s : State) (f : IspCfg) (c : Nat) : PixSrc × Nat :=
  let src := ctxSrc f c
  if src.1 = 0 then (s.portSrc (src.2 % 8), s.blockLines (src.2 % 8))
  else
    ({ w := s.decW src.2, comps := if s.bit Reg.DEC_STREAM_CFG 8 src.2 then 3 else 1, bayer := 0, depth := 8,
       fill := s.f Reg.DEC_STREAM_FILL 0 16 src.2, area := true }, s.decH src.2)

/-- The defect entries of a list ascend strictly by row, then column. -/
def defectsAscend : List Word → Bool
  | a :: b :: t => decide (fld a 16 15 * 32768 + fld a 0 15 < fld b 16 15 * 32768 + fld b 0 15) && defectsAscend (b :: t)
  | _ => true

/-- The defect list of a configuration is allowed (R106). -/
def State.defectsOk (s : State) (f : IspCfg) (c : Nat) : Bool :=
  let x := s.cfgSrc f c
  let ff := f Reg.ISP_FF_CFG c 0
  let n := fld ff 16 13
  let base := basePair (f Reg.ISP_FF_BASE_LO c 0) (f Reg.ISP_FF_BASE_HI c 0)
  let l := wordsLE n (s.peek (base + 4 * flatEntries x.1 x.2) (4 * n))
  let used := ff.getLsbD 1 || (f Reg.ISP_NR_CFG c 0).getLsbD 0
  decide (n ≤ 4096) && (!used || (defectsAscend l &&
    l.all (fun w => decide (fld w 0 15 < x.1.w) && decide (fld w 16 15 < if x.1.area then x.2 else 1))))

/-- The output layout suits the source (R112, R117). -/
def layoutOk (f : IspCfg) (c o : Nat) (src : PixSrc) : Bool :=
  let k := outColour f o
  if src.bayer ≠ 0 then decide (k = 1) || (decide (k = 2) && !geometryOn f c)
  else if src.comps = 3 then decide (k = 1) else decide (k = 0)

/-- No field of an output unit holds a reserved value (R641). -/
def outFieldsOk (f : IspCfg) (o : Nat) : Bool :=
  decide (outColour f o ≠ 3) && decide (fld (f Reg.ISP_OUT_CFG o 0) 4 2 ≠ 3)

/-- The mesh has an allowed number of points (R110). -/
def meshOk (f : IspCfg) (c : Nat) (area : Bool) : Bool :=
  let w := f Reg.ISP_MESH_CFG c 0
  !w.getLsbD 0 || (decide (2 ≤ fld w 10 11) && decide (fld w 10 11 ≤ 1025) &&
    (!area || (decide (2 ≤ fld w 21 11) && decide (fld w 21 11 ≤ 1025))))

/-- The vertical reach of a configuration (R113). -/
def State.ctxReach (s : State) (f : IspCfg) (c : Nat) : Nat :=
  let x := s.cfgSrc f c
  let mw := f Reg.ISP_MESH_CFG c 0
  let size := meshSize mw x.1.area
  let mesh := if mw.getLsbD 0 then
      s.peek (basePair (f Reg.ISP_MESH_BASE_LO c 0) (f Reg.ISP_MESH_BASE_HI c 0)) (8 * size.1 * size.2)
    else []
  let r := (ispGeometry f c x.1.area mesh).reach x.1 (reachRows x.1.area x.2)
  max r.1 r.2

/-- Every port feeds at most four enabled contexts (R99). -/
def State.portsFeed (s : State) : Bool := (upTo 8).all (fun n => decide ((s.readersOf 0 n).length ≤ 4))

/-- The status with which an APPLY is refused (R131). -/
def State.applyCheck (s : State) (p c : Nat) : Option Nat :=
  let f := s.ispShadow p
  let src := (s.cfgSrc f c).1
  let t := s.takeShadows p c
  if (f Reg.ISP_NR_CFG c 0).getLsbD 2 ∧ !src.area then some S_INVALID_CONFIG
  else if !s.defectsOk f c then some S_INVALID_CONFIG
  else if !(s.boundOuts p c).all (fun o => outFieldsOk f o) then some S_INVALID_CONFIG
  else if !(ctxOuts f c).all (fun o => layoutOk f c o src) then some S_INVALID_CONFIG
  else if !meshOk f c src.area then some S_INVALID_CONFIG
  else if 64 < s.ctxReach f c then some S_MESH_RANGE
  else if !t.portsFeed then some S_INVALID_CONFIG
  else if 1 < t.pipeLoad p t.effOp ∧ s.ctxOn p c then some S_INGRESS_BUDGET
  else if !s.keepsJobs t then some S_DEADLINE_INFEASIBLE
  else none

/-- A write of ISP_CTX_APPLY with APPLY set (R128, R131). -/
def State.applyWrite (s : State) (p c : Nat) : State :=
  match s.applyCheck p c with
  | some st =>
    ((s.setF Reg.ISP_CTX_STATUS 16 16 st p c).raise Reg.ISP_EVENT (4 + c) p).refuse st (Reg.ISP_CTX_APPLY.at p c 0)
  | none =>
    ((s.setIspCtx p c { s.ispCtx p c with pend := true }).setF Reg.ISP_CTX_STATUS 16 16 S_OK p c).setBit
      Reg.ISP_CTX_STATUS 0 true p c

/-- APPLY (R128). -/
def execApply (w : Writer) (p : Fin 8) (c : Fin 4) (s : State) : Out :=
  .next (s.gate w Reg.ISP_CTX_APPLY p c 0 (fun s => s.applyWrite p c))

/-- APPLY_BOUNDARY (R128). -/
def execApplyBoundary (p : Fin 8) (c : Fin 4) (s : State) : Out :=
  .next (if s.on .ISP ∧ (s.ispCtx p c).pend ∧ s.atBoundary p c then (s.applyNow p c).syncLoads else s)

end Sys2Proof.Machine
end

