-- ==== Sys2Proof/Machine/Cam.lean ====
section
/-!
DEFINITION. Camera ports (spec/03_camera_ingress.md): the events of the trigger generator, of the link and of the stream.
The writes of CAM_PORT_CFG, PITCH and PHASE stand with the checks of register writes.
-/
namespace Sys2Proof.Machine

open Sys2Proof

/-! ### Triggers -/

/-- GRID_POINT_REACHED (R75 to R77): the next grid point, if the measured position has reached it. -/
def execGridPointReached (n : Fin 8) (s : State) : Out :=
  .next (if s.camEnabled n ∧ s.camSource n ≠ 0 then s.camReach n else s)

/-- DELAYED_TRIGGER (R79): the first trigger that waits goes out once MIN_PERIOD, and on a field output the pulse before it,
is over. -/
def execDelayedTrigger (n : Fin 8) (s : State) : Out := .next (s.camDelayed n)

/-- TRIGGER_PULSE_END (R359): the pulse on output `n` has run for PULSE_US. -/
def execTriggerPulseEnd (n : Fin 32) (s : State) : Out :=
  .next (match (s.dout n).pulse with
    | some t =>
      if s.on .FIO ∧ (s.raw - t).toNat < 2 ^ 63 then
        (s.setDout n { s.dout n with pulse := none, pulseEnd := some s.raw }).syncOuts
      else s
    | none => s)

/-- TRIGGER_ACK (R84): a trigger acknowledgement of a CoaXPress-over-Fiber camera is counted. -/
def execTriggerAck (n : Fin 8) (s : State) : Out :=
  .next (if s.camUp n ∧ !s.camGev n then s.updCam n (fun c => { c with acks := c.acks + 1 }) else s)

/-! ### Link (R71, R73, R95) -/

/-- The lanes of a CoaXPress-over-Fiber port are locked, or the MAC of a GigE Vision port is up. -/
def State.camCarrier (s : State) (n : Nat) : Bool :=
  if s.camGev n then s.macUp (s.camMac n) else (s.camLanes n).all (fun l => s.laneLock l)

/-- CAM_LINK_UP (R71): all lanes are locked and a heartbeat packet has arrived, or the MAC is up. Discovery starts on a
CoaXPress-over-Fiber port. -/
def execCamLinkUp (n : Fin 8) (s : State) : Out :=
  .next (if s.camEnabled n ∧ !s.camUp n ∧ s.camCarrier n ∧ (s.camGev n ∨ (s.cam n).lastHeart.isSome) then
    ((s.setF Reg.CAM_STATUS 0 3 1 n).raise Reg.CAM_EVENT 0 n).updCam n (fun c => { c with discovering := !s.camGev n })
  else s)

/-- DISCOVERY_DONE (R71): the lanes have reported the DeviceConnectionIDs `ids`, in lane order, of one device or not. -/
def execDiscoveryDone (n : Fin 8) (ids : List Nat) (same : Bool) (s : State) : Out :=
  .next (if s.camUp n ∧ (s.cam n).discovering then
    let s := s.updCam n (fun c => { c with discovering := false })
    if same ∧ ids = upTo (s.camLanes n).length then (s.setBit Reg.CAM_STATUS 1 true n).raise Reg.CAM_EVENT 2 n
    else s.setBit Reg.CAM_STATUS 2 true n
  else s)

/-- CAM_LINK_DOWN (R95): a lane of the port has lost lock, or its MAC is down. -/
def execCamLinkDown (n : Fin 8) (s : State) : Out :=
  .next (if s.camUp n ∧ !s.camCarrier n then s.camDown n else s)

/-- HEARTBEAT_TIMEOUT (R71): no heartbeat packet for 1 s. -/
def execHeartbeatTimeout (n : Fin 8) (s : State) : Out :=
  .next (if s.camUp n ∧ !s.camGev n then
    match (s.cam n).lastHeart with
    | some t => if 1000000000 ≤ s.since t then s.camDown n else s
    | none => s
  else s)

/-- HEARTBEAT_PACKET (R71): a heartbeat packet arrives over the port's lanes. -/
def execHeartbeatPacket (n : Fin 8) (s : State) : Out :=
  .next (if s.camEnabled n ∧ !s.camGev n ∧ s.camCarrier n then
    s.updCam n (fun c => { c with lastHeart := some s.raw })
  else s)

/-- GEV_HEARTBEAT (R73): the CP sends the control heartbeat to the camera of a GigE Vision port; a warm restart leaves a
gap. -/
def execGevHeartbeat (n : Fin 8) (s : State) : Out :=
  .next (if s.camUp n ∧ s.camGev n ∧ s.core.cp = .running then
    (s.macSend (s.camMac n) { cls := 2, tag := .gvcp n, data := [] }).updCam n (fun c => { c with beatSent := some s.raw })
  else s)

/-! ### Stream -/

/-- What arrives before discovery has completed is discarded and counted (R95); what arrives on a link that is down is not
received. -/
def State.camTake (s : State) (n : Nat) (f : State → State) : State :=
  if !s.camUp n then s else if s.camReady n then f s else s.camCnt n 9

/-- STREAM_BLOCK_HEADER (R72, R83): an image header or leader with PATTERN, DEPTH and PACKED as in CAM_FMT[23:17]. -/
def execStreamBlockHeader (n : Fin 8) (fmt : BitVec 7) (width : Nat) (exposure : DWord) (s : State) : Out :=
  .next (s.camTake n (fun s => s.camOpen n fmt width exposure))

/-- LINE_ARRIVAL (R83, R90): the first byte of a line; a GVSP line has the index that its byte offset gives. -/
def execLineArrival (n : Fin 8) (index : Nat) (s : State) : Out :=
  .next (s.camTake n (fun s =>
    match (s.cam n).block with
    | some b =>
      if s.camGev n then (if b.seen.contains index then s else s.camLine n index) else s.camLine n b.seen.length
    | none => s))

/-- A missing GVSP packet is counted and replaced by the fill value (R93); a line that it alone would have brought takes
its slot as any line does. -/
def State.camMissing (s : State) (n line col k : Nat) : State :=
  let s := (s.camCnt n 8).updCam n (fun c => c.mark markMissing)
  let s := match (s.cam n).block with
    | some b => if b.seen.contains line then s else s.camLine n line
    | none => s
  s.camWrite n line (some col) (List.replicate k (s.f Reg.CAM_FRAME_CFG 16 16 n))

/-- STREAM_PACKET (R72, R93): pixel data of the open block. A line that was dropped or discarded keeps none of it. -/
def execStreamPacket (n : Fin 8) (p : StreamPacket) (s : State) : Out :=
  .next (s.camTake n (fun s =>
    match p, (s.cam n).block with
    | .other, _ => s.camCnt n 9
    | .cxp pix crcOk, some b =>
      match b.cur with
      | some i =>
        let s := s.when (!crcOk) (fun s => (s.camCnt n 2).updCam n (fun c => c.mark markCrc))
        s.camWrite n i none pix
      | none => s
    | .gvsp line col pix, some _ => s.camWrite n line (some col) pix
    | .missing line col k, some _ => s.camMissing n line col k
    | _, none => s))

/-- BLOCK_END (R84): the camera has ended the open block. -/
def execBlockEnd (n : Fin 8) (s : State) : Out :=
  .next (s.camTake n (fun s => (s.camClose n 0).updCam n (fun c => { c with discard := false })))

/-- CXP_EVENT_PACKET (R644): an event packet or chunk data goes unchanged to queue 19, or is discarded and counted when the
queue cannot carry it. The spec gives the record type no number. -/
def execCxpEventPacket (n : Fin 8) (body : List Byte) (s : State) : Out :=
  .next (if s.camUp n then
    let (k, s) := s.draw
    let seq := (s.queue 19).seq
    (s.qReserve 19 (32 + n) (8 + body.length)).qBackFill 19 (32 + n) seq (1 + k.toNat % 127) body
  else s)

end Sys2Proof.Machine
end

