-- ==== Sys2Proof/Machine/Restart.lean ====
section
/-!
DEFINITION. What each reset and each power state keeps, loses and restores (R562 to R566, R637, R648), the retention store,
and the start of a boot.
-/
namespace Sys2Proof.Machine

open Sys2Proof

/-! ### CRC-32C (R500) -/

/-- One bit of the reflected CRC-32C. -/
def crcBit (c : Word) : Word := if c.getLsbD 0 then (c >>> 1) ^^^ 0x82F63B78 else c >>> 1
/-- One byte of the CRC-32C. -/
def crcByte (c : Word) (b : Byte) : Word := (upTo 8).foldl (fun x _ => crcBit x) (c ^^^ b.setWidth 32)
/-- CRC-32C: initial value and final XOR of ones, reflected. -/
def crc32c (l : List Byte) : Word := (l.foldl crcByte 0xFFFFFFFF) ^^^ 0xFFFFFFFF

/-! ### Registers after a reset or a power state (R637, R648) -/

/-- The resets and returns that change registers. -/
inductive Restart where
  | por | moduleReset | s1 | s2 | s3
  deriving DecidableEq, Repr

/-- Queues whose QM_Q_CFG and ring words are in the retention store (R562). -/
def storedQueues : List Nat := [0, 16, 17, 18, 19, 20, 21]

/-- Registers of class L that show what stands outside the module, whatever the reset (R648). -/
def alwaysLive : List Nat := [Reg.PM_TJ.addr, Reg.PM_HOTPLUG.addr, Reg.SNAP_SUPPLY.addr,
  Reg.LN_CAGE_STATUS.addr]

/-- Blocks whose live state is lost with their power in S2. -/
def Block.freshAfterS2 : Block → Bool
  | .CAM | .ISP | .DEC | .WT | .FAB => true
  | _ => false

/-- Element `i` of a register keeps its word (R637). The XLT_ROOT words are written again by firmware after S2 (R408). -/
def RegRow.keeps (r : RegRow) (k : Restart) (i : Nat) : Bool :=
  match k, r.cls with
  | .por, _ => false
  | _, .p => true
  | _, .f => true
  | .moduleReset, .l => alwaysLive.contains r.addr
  | .moduleReset, _ => false
  | .s1, .c => false
  | .s1, _ => true
  | .s2, .s3 => true
  | .s2, .k => true
  | .s2, .l => !((blockAt r.addr).map Block.freshAfterS2).getD false
  | .s2, .kq => !storedQueues.contains i
  | .s2, _ => decide (r.addr = Reg.XLT_ROOT_LO.addr ∨ r.addr = Reg.XLT_ROOT_HI.addr)
  | .s3, .l => alwaysLive.contains r.addr || decide (r.addr = Reg.PM_STATE.addr ∨ r.addr = Reg.PM_OP_STATUS.addr)
  | .s3, _ => false

/-- The word that a kept register holds: a counter within a register of class L is cleared as class C is, but in the PM
block (R648). -/
def RegRow.kept (r : RegRow) (w : Word) : Word :=
  if r.cls = .l ∧ r.addr ≠ Reg.PM_TJ.addr then w &&& ~~~ r.rc else w

/-- The register file after a reset or on return from a power state. -/
def regsAfter (k : Restart) (regs : AMap Word) : AMap Word :=
  regs.filterMap (fun p => match findReg p.1 with
    | some (r, i, _, _) => if r.keeps k i ∧ r.kept p.2 ≠ r.reset then some (p.1, r.kept p.2) else none
    | none => none)

/-- The state of every unit lost, with the registers and the raw count given. -/
def State.blank (s : State) (regs : AMap Word) : State :=
  { regs := regs, free := s.free, pending := s.pending, core := s.core, host := s.host, pm := s.pm, flash := s.flash,
    fuse := s.fuse }

/-- Outputs are released from a forced-off state and follow their owners. -/
def State.outputsFree (s : State) : State := ({ s with fio := { s.fio with forcedOff := false, safe := false } }).syncOuts

/-! ### The retention store (R562) -/

/-- Several registers for each of `n` units, each unit's words together. -/
def unitWords (rs : List RegRow) (n : Nat) : List (RegRow × Nat × Nat) := perUnit rs n

/-- Words 8 to 51: ENC. -/
def storeEnc : List (RegRow × Nat × Nat) :=
  unitWords [Reg.ENC_CFG, Reg.ENC_FILT_CFG, Reg.ENC_FAULT_CFG, Reg.ENC_OBS_CFG, Reg.ENC_INDEX_NOM, Reg.ENC_INDEX_TOL,
    Reg.ENC_INDEX_POS_LO, Reg.ENC_INDEX_POS_HI, Reg.ENC_PRESET_LO, Reg.ENC_PRESET_HI, Reg.ENC_IRQ_EN] 4

/-- Words 52 to 951: WT. -/
def storeWt : List (RegRow × Nat × Nat) :=
  unitWords [Reg.WT_CTRL, Reg.WT_IRQ_EN, Reg.WT_TABLE_BASE_LO, Reg.WT_TABLE_BASE_HI] 1
  ++ (upTo 32).flatMap (fun l =>
    [Reg.WT_LANE_CFG, Reg.WT_COMMIT_LEAD, Reg.WT_MAX_LEN, Reg.WT_MIN_LEN, Reg.WT_MAX_SPEED, Reg.WT_EJECT_OFS,
     Reg.WT_EJECT_EXT, Reg.WT_WIN_PRE, Reg.WT_WIN_POST, Reg.WT_DET_OFFSET, Reg.WT_GRID_PITCH, Reg.WT_GRID_PHASE,
     Reg.WT_IMG_CFG, Reg.WT_IMG_BAND, Reg.WT_IMG_MINPIX].map (fun r => (r, l, 0)) ++ (upTo 8).map (fun k => (Reg.WT_EJECT_MASK, l, k)))
  ++ unitWords [Reg.WT_GRP_CFG, Reg.WT_GRP_DO, Reg.WT_GRP_LEAD_ON, Reg.WT_GRP_LEAD_OFF, Reg.WT_GRP_PULSE,
    Reg.WT_GRP_BANK_ADDR, Reg.WT_GRP_BANK_PORT, Reg.WT_GRP_VALVES_LO, Reg.WT_GRP_VALVES_HI, Reg.WT_GRP_SEND_AHEAD] 16

/-- Words 952 to 1,002: FIO. -/
def storeFio : List (RegRow × Nat × Nat) :=
  unitWords [Reg.FIO_IRQ_EN, Reg.FIO_GANG, Reg.FIO_DO_SET] 1 ++ overUnits Reg.FIO_DO_CFG 32 ++ overUnits Reg.FIO_DI_CFG 16

/-- Words 1,003 to 1,131: LN. -/
def storeLn : List (RegRow × Nat × Nat) :=
  overUnits Reg.LN_IRQ_EN 1 ++ unitWords [Reg.LN_LANE_CFG, Reg.LN_TX_FFE, Reg.LN_PRBS_CFG] 32
  ++ unitWords [Reg.LN_MAC_CFG, Reg.LN_MAC_ADDR_LO, Reg.LN_MAC_ADDR_HI, Reg.LN_MAC_IPV4] 8

/-- Words 1,132 to 1,157: FAB. -/
def storeFab : List (RegRow × Nat × Nat) :=
  unitWords [Reg.FAB_NODE, Reg.FAB_IRQ_EN] 1 ++ overUnits Reg.FAB_ROUTE 16
  ++ unitWords [Reg.FAB_LINK_CFG, Reg.FAB_VC_CREDIT] 4

/-- Words 1,158 to 1,172: TIME. -/
def storeTime : List (RegRow × Nat × Nat) :=
  unitWords [Reg.TIME_OFFSET_LO, Reg.TIME_OFFSET_HI, Reg.TIME_RATE, Reg.TIME_IRQ_EN, Reg.TIME_PTP_CFG,
    Reg.TIME_PTP_INTERVAL, Reg.TIME_SERVO_CFG] 1 ++ overUnits Reg.TIME_MAC_ADJ 8

/-- Words 1,173 to 1,208: QM. -/
def storeQm : List (RegRow × Nat × Nat) :=
  overUnits Reg.QM_IRQ_EN 1 ++ storedQueues.flatMap (fun q =>
    [Reg.QM_Q_CFG, Reg.QM_Q_BASE_LO, Reg.QM_Q_BASE_HI, Reg.QM_Q_MIRROR_LO, Reg.QM_Q_MIRROR_HI].map (fun r => (r, q, 0)))

/-- The registers of words 8 to 1,208, in order. -/
def storeWords : List (RegRow × Nat × Nat) := storeEnc ++ storeWt ++ storeFio ++ storeLn ++ storeFab ++ storeTime ++ storeQm

/-- Word of the store. -/
def State.storeWord (s : State) (w : Nat) : Word := AMap.get s.pm.store 0 w

/-- The check word: CRC-32C over words 8 to 1,535. -/
def storeCheck (m : AMap Word) : Word :=
  crc32c ((upTo 1528).flatMap (fun i => bytesLE 4 (AMap.get m 0 (8 + i)).toNat))

/-- The store is written on entry to S2 or S3. -/
def State.saveStore (s : State) (target : Nat) : State :=
  let m : AMap Word := storeWords.zipIdx.foldl (fun m e => AMap.store m 0 (8 + e.2) (s.rd e.1.1 e.1.2.1 e.1.2.2)) []
  let m := AMap.store (AMap.store m 0 0 0x52545649) 0 1 (BitVec.ofNat 32 target)
  let m := AMap.store (AMap.store m 0 2 (BitVec.ofNat 32 (s.f Reg.SYS_FW_VERSION 0 16))) 0 3 (storeCheck m)
  { s with pm := { s.pm with store := m } }

/-- MAGIC is cleared (R563). -/
def State.voidStore (s : State) : State := { s with pm := { s.pm with store := AMap.del s.pm.store 0 } }

/-- The store passes its checks; `secdedOk` says that its SEC-DED check passes (R563). -/
def State.storeGood (s : State) (secdedOk : Bool) : Bool :=
  secdedOk && decide (s.storeWord 0 = 0x52545649) && decide (s.storeWord 3 = storeCheck s.pm.store)

/-- The words of the blocks that `p` names return from the store; bits that no write can set keep their reset value. -/
def State.restoreWords (s : State) (p : Block → Bool) : State :=
  storeWords.zipIdx.foldl (fun t e =>
    let r := e.1.1
    if ((blockAt r.addr).map p).getD false then
      t.wr r ((s.storeWord (8 + e.2) &&& r.rw) ||| (r.reset &&& ~~~ r.rw)) e.1.2.1 e.1.2.2
    else t) s

/-- A store that fails its check: RETAIN_BAD, counted (R563). -/
def State.storeBad (s : State) : State := (s.raise Reg.PM_EVENT 5).bump Reg.PM_CNT 7

/-! ### Owners of lanes (R482, R489, R503) -/

/-- A MAC that is on claims its lanes, which follow STATE_REQ. -/
def State.macClaim (s : State) (m : Nat) : State :=
  s.forAll (s.macLanes m) (fun l s => (s.laneClaim 2 m (macRate (s.f Reg.LN_MAC_CFG 6 3 m)) l).laneFollow l)

/-- A link that is on claims its lanes and trains them; it starts anew. -/
def State.fabClaim (s : State) (j : Nat) : State :=
  let rate := if s.bit Reg.FAB_LINK_CFG 1 j then 3 else 2
  let s := (s.setLink j {}).setF Reg.FAB_LINK_STATUS 0 32 0 j
  let s := s.forAll (fabLanes j) (fun l s => ((s.laneClaim 3 j rate l).laneTo l 2).laneTo l 0)
  (s.setLinkState j 1).syncLink j

/-- A link that is turned off gives up its lanes, which go to DEEP first. -/
def State.fabFree (s : State) (j : Nat) : State :=
  let s := s.forAll (fabLanes j) (fun l s => (s.laneTo l 2).laneFree l)
  (s.setLink j {}).setF Reg.FAB_LINK_STATUS 0 32 0 j

/-- Lanes leave DEEP as their owners require, after S2 and S3 (R556). -/
def State.claimLanes (s : State) : State :=
  let s := s.forAll (upTo 32) (fun l s => s.wr Reg.LN_LANE_STATUS (setFld (s.rd Reg.LN_LANE_STATUS l) 8 6 0) l)
  let s := s.forAll (upTo 8) (fun m s => s.when (s.bit Reg.LN_MAC_CFG 0 m) (fun s => s.macClaim m))
  let s := s.forAll (upTo 4) (fun j s => s.when (s.bit Reg.FAB_LINK_CFG 0 j) (fun s => s.fabClaim j))
  s.forAll (upTo 32) (fun l s => s.when (decide (s.laneOwner l = 0)) (fun s => s.laneFollow l))

/-! ### Boot (R383, R455, R571, R587, R618) -/

/-- Physical spires that the disabled-unit map disables. -/
def State.disabledSpires (s : State) : List Nat := (upTo 34).filter (fun p => Config.fuseDisabled.contains p ||
  s.flash.softDisabled.contains p)

/-- Logical spires are given to the enabled physical spires in rising order; those left over are spares (R571). -/
def State.assignSpires (s : State) : State :=
  let bad := s.disabledSpires
  let good := (upTo 34).filter (fun p => !bad.contains p)
  s.forAll (upTo 34) (fun p s =>
    let word : Nat := if bad.contains p then 0x20
      else
        match good.idxOf? p with
        | some k => if k < 32 then 0x80 + k else 0x40
        | none => 0x20
    s.wr Reg.SPR_ID (BitVec.ofNat 32 (256 * p + word)) p)

/-- PM_PLUG_CNT is loaded from flash. -/
def State.loadPlugCnt (s : State) : State := s.forAll (upTo 3) (fun k s => s.wr Reg.PM_PLUG_CNT (AMap.get s.flash.plugCnt 0 k) k)

/-- PM_PLUG_CNT `k` counts, in flash too. -/
def State.bumpPlug (s : State) (k : Nat) : State :=
  let v := BitVec.ofNat 32 (min ((AMap.get s.flash.plugCnt 0 k).toNat + 1) 0xFFFFFFFF)
  ({ s with flash := { s.flash with plugCnt := AMap.store s.flash.plugCnt 0 k v } }).wr Reg.PM_PLUG_CNT v k

/-- Boot begins: blocks leave reset, the memory initialiser runs, and the boot ROM starts. -/
def State.startBoot (s : State) : State :=
  ({ s with core := { s.core with cp := .booting, held := false, romDone := false } }).assignSpires.loadPlugCnt

/-- What a module reset loses (R480, R564, R618): every unit, the mailboxes, the staging buffer, the journal, F2_PAGE and
the last function 3 read; PM configuration, fuses, flash and the SDIO card state stay. -/
def State.resetModule (s : State) : State :=
  let h : HostSt := { ioEnable := s.host.ioEnable, intEnable := s.host.intEnable, cardUp := s.host.cardUp }
  let s' := s.blank (regsAfter .moduleReset s.regs)
  { s' with host := h
            pm := { s.pm with opTarget := none, entry := none, wakePending := false, waking := none, coolSince := none,
                              lastStep := none, hostBlocked := false, store := AMap.del s.pm.store 0 }
            core := { s.core with cp := .off, held := true, warmRestarts := s.core.warmRestarts, restartTimes := [],
                                  romDone := false, removed := false, removeLit := false } }

/-- The module has no power: all is lost but flash and fuses. -/
def State.powerLost (s : State) : State :=
  { regs := [], free := s.free, pending := s.pending, flash := s.flash, fuse := s.fuse }

end Sys2Proof.Machine
end

