-- ==== Sys2Proof/Machine/Sec.lean ====
section
/-!
DEFINITION. Secure boot, firmware update, key sets and attestation (spec/22_secure_boot_and_attestation.md).
-/
namespace Sys2Proof.Machine

open Sys2Proof

/-! ### Images (R585, R586, R595, R596) -/

/-- A field of an image. -/
def imgNat (d : List Byte) (off n : Nat) : Nat := natLE ((d.drop off).take n)
/-- Bytes of an image. -/
def imgBytes (d : List Byte) (off n : Nat) : List Byte := (d.drop off).take n
/-- Every byte of a part of an image is zero. -/
def imgZero (d : List Byte) (off n : Nat) : Bool := (imgBytes d off n).all (fun b => decide (b = 0))
/-- The bytes of a text. -/
def textBytes (t : String) : List Byte := t.toList.map (fun c => BitVec.ofNat 8 c.toNat)
/-- KEY_ID of a public key. -/
def keyId (key : List Byte) : List Byte := (Config.shake256 key).take 8

/-- The image fails the check of R586 with this number; 0 where it passes them all. -/
def State.fwCheck (s : State) (d : List Byte) : Nat :=
  let n := d.length
  let key := imgBytes d 128 1952
  let slot := imgNat d 14 1
  let flags := imgNat d 15 1
  let svn := imgNat d 16 4
  let revoke := BitVec.ofNat 4 (flags / 2)
  let digest := imgBytes d (n - 3392) 64
  if !(decide (5504 ≤ n) && decide (imgNat d 0 4 = 0x57465649) && decide (imgNat d 4 2 = 1) && decide (imgNat d 6 2 = 128)
      && decide (imgNat d 8 4 = n) && decide (n ≤ 8388608) && decide (flags < 32) && decide (svn ≤ 32)
      && imgZero d 28 100 && imgZero d 2080 32 && imgZero d (n - 19) 19) then 1
  else if 3 < slot ∨ s.fuse.rootRevoked.getLsbD slot ∨ (Config.shake256 key).take 32 ≠ Config.root slot then 2
  else if Config.shake256 (d.take (n - 3392)) ≠ digest then 3
  else if !Config.mldsaVerify key (textBytes "rosyapa-iv34-fwi") digest (imgBytes d (n - 3328) 3309) then 4
  else if svn < s.fuse.minSvn then 5
  else if revoke.getLsbD slot ∨ s.fuse.rootRevoked ||| revoke = 0xF then 6
  else 0

/-- SEQ of a key set image. -/
def keySetSeq (d : List Byte) : Nat := imgNat d 8 4
/-- KEY_COUNT of a key set image. -/
def keyCount (d : List Byte) : Nat := imgNat d 6 1
/-- Public key `i` of a key set image. -/
def keySetKey (d : List Byte) (i : Nat) : List Byte := imgBytes d (2016 + 1952 * i) 1952
/-- KEY_IDs of a key set image. -/
def keySetIds (d : List Byte) : List (List Byte) := (upTo (keyCount d)).map (fun i => keyId (keySetKey d i))

/-- The first item of R596 that a key set image fails, counted from 1; 0 where it is accepted. -/
def State.keySetCheck (s : State) (d : List Byte) : Nat :=
  let n := keyCount d
  let body := 2016 + 1952 * n
  let owner := imgBytes d 64 1952
  let digest := imgBytes d body 64
  if !(decide (imgNat d 0 4 = 0x534B5649) && decide (imgNat d 4 2 = 1) && decide (n ≤ 8) && decide (imgNat d 7 1 < 2)
      && imgZero d 12 52 && decide (d.length = body + 64 + 3309)) then 1
  else if Config.shake256 (d.take body) ≠ digest ∨
      !Config.mldsaVerify owner (textBytes "rosyapa-iv34-kst") digest (imgBytes d (body + 64) 3309) then 2
  else if (s.fuse.owner.map (fun o => decide (o ≠ (Config.shake256 owner).take 32))).getD false then 3
  else if (s.flash.keySet.map (fun k => decide (keySetSeq d ≤ keySetSeq k))).getD false then 4
  else 0

/-! ### Registers of the SEC block -/

/-- SEC_STATUS shows the fuses and the policy; SEC_KEYSET shows the set in force. -/
def State.syncSec (s : State) : State :=
  let policy := (s.flash.keySet.map (fun k => imgNat k 7 1)).getD 0
  let s := (s.setF Reg.SEC_STATUS 18 6 s.fuse.minSvn).setF Reg.SEC_STATUS 8 4 s.fuse.rootRevoked.toNat
  let s := (s.setF Reg.SEC_STATUS 3 1 policy).setBit Reg.SEC_STATUS 2 s.fuse.owner.isSome
  s.wr Reg.SEC_KEYSET (BitVec.ofNat 32 ((s.flash.keySet.map (fun k => keySetSeq k % 2 ^ 28 * 16 + keyCount k)).getD 0))

/-- Words of a certificate. -/
def State.certWords (s : State) (r : RegRow) (c : List Byte) : State :=
  s.forAll (upTo 1338) (fun w s => s.wr r (BitVec.ofNat 32 (imgNat c (4 * w) 4)) w)

/-! ### Boot (R587, R588) -/

/-- Seed of the device key. -/
def deviceSeed : List Byte := (Config.shake256 (Config.uds ++ textBytes "IV34-DEVICE")).take 32
/-- Seed of the alias key of a firmware digest and its SVN. -/
def aliasSeed (fw : List Byte) (svn : Nat) : List Byte := (Config.shake256 (Config.uds ++ fw ++ bytesLE 4 svn)).take 32

/-- The alias certificate (R593). -/
def aliasCertificate (fw : List Byte) (svn : Nat) : List Byte :=
  let body := bytesLE 4 0x54435649 ++ bytesLE 2 1 ++ bytesLE 2 2 ++ bytesLE 4 svn ++ bytesLE 4 0
    ++ fitBytes 1952 (Config.mldsaPublic (aliasSeed fw svn)) ++ fitBytes 8 (keyId (Config.mldsaPublic deviceSeed))
    ++ fitBytes 64 fw
  body ++ fitBytes 3312 (Config.mldsaSign deviceSeed (textBytes "rosyapa-iv34-crt") (Config.shake256 body))

/-- Steps 2 to 5 of R587 for a verified image. -/
def State.secStart (s : State) (d : List Byte) : State :=
  let svn := imgNat d 16 4
  let commit := decide (imgNat d 15 1 % 2 = 1)
  let fw := Config.shake256 d
  let fuse := { s.fuse with minSvn := if commit then max s.fuse.minSvn svn else s.fuse.minSvn
                            rootRevoked := s.fuse.rootRevoked ||| BitVec.ofNat 4 (imgNat d 15 1 / 2) }
  let cert := aliasCertificate fw svn
  let s := { s with fuse := fuse, sec := { fwDigest := fw, running := some d, aliasCert := cert } }
  let s := s.syncSec.setF Reg.SEC_STATUS 12 6 svn
  let s := (s.setBit Reg.SEC_STATUS 0 false).setBit Reg.SEC_STATUS 1 true
  let s := (s.setF Reg.SEC_STATUS 24 8 0).setBit Reg.SEC_STATUS 4 false
  let s := s.wr64 Reg.SEC_DEVICE_ID_LO Reg.SEC_DEVICE_ID_HI (BitVec.ofNat 64 (natLE (keyId (Config.mldsaPublic deviceSeed))))
  (s.certWords Reg.SEC_CERT_DEV (fitBytes 5352 s.flash.deviceCert)).certWords Reg.SEC_CERT_ALIAS (fitBytes 5352 cert)

/-- A refused image or key set (R586, R596). -/
def State.secRefused (s : State) (check : Nat) : State :=
  ((s.setF Reg.SEC_STATUS 24 8 check).raise Reg.SEC_EVENT 0).bump Reg.SEC_CNT 0

/-- Recovery (R588): the number of the failed check, 0 where flash holds no image. -/
def State.enterRecovery (s : State) (check : Nat) : State :=
  let s := (s.secRefused check).syncSec
  let s := (s.setBit Reg.SEC_STATUS 0 true).setF Reg.SYS_FW_VERSION 0 16 0
  { s with core := { s.core with cp := .recovery, romDone := false }, host := { s.host with ioReady := 2 } }

/-- The boot ROM (R587, R588). -/
def State.secBoot (s : State) : State :=
  match s.flash.firmware with
  | some d =>
    if s.fwCheck d = 0 then
      let s := s.secStart d
      { s with core := { s.core with romDone := true } }
    else s.enterRecovery (s.fwCheck d)
  | none => s.enterRecovery 1

/-- POWER_ON_RESET (R587, R588): the boot ROM runs, after POR, a module reset or on wake from S3. -/
def execPowerOnReset (s : State) : Out :=
  .next (if s.live ∧ s.core.cp = .booting ∧ !s.core.romDone then s.secBoot else s)

/-! ### FW_UPDATE (R463, R589, R595 to R597) -/

/-- The staging buffer is filled. -/
def Staging.full (g : Staging) : Bool := decide (g.size ≤ g.data.length)

/-- The staging buffer is consumed. -/
def State.takeStaging (s : State) : State :=
  ({ s with host := { s.host with staging := none }, memory := { s.memory with stagingPages := [] } }).syncFree

/-- A firmware image is verified and written (R589); in recovery the ROM boots it (R588). -/
def State.fwInstall (s : State) (m : Nat) (d : List Byte) : State :=
  let k := s.fwCheck d
  if k ≠ 0 then (s.secRefused k).answer m S_FW_IMAGE [] k
  else
    let s := { s with flash := { s.flash with firmware := some d } }
    let s := ((s.setF Reg.SEC_STATUS 24 8 0).raise Reg.SEC_EVENT 1).bump Reg.SEC_CNT 1
    let s := s.setBit Reg.SEC_STATUS 4 true
    let again := decide (s.core.cp = .recovery)
    let s := s.answer m S_OK [] (imgNat d 12 2)
    if again then
      { s with core := { s.core with cp := .booting, romDone := false }, host := { s.host with ioReady := 0 } }
    else s

/-- A key set image is checked and comes into force (R596, R597). -/
def State.keySetInstall (s : State) (m : Nat) (d : List Byte) : State :=
  let k := s.keySetCheck d
  if k ≠ 0 then (s.secRefused (16 + k)).answer m S_FW_IMAGE [] (16 + k)
  else
    let gone := ((s.flash.keySet.map keySetIds).getD []).filter (fun i => !(keySetIds d).contains i)
    let owner := some (s.fuse.owner.getD ((Config.shake256 (imgBytes d 64 1952)).take 32))
    let s := { s with flash := { s.flash with keySet := some d, revoked := s.flash.revoked ++ gone }
                      fuse := { s.fuse with owner := owner } }
    let s := (((s.setF Reg.SEC_STATUS 24 8 0).raise Reg.SEC_EVENT 2).bump Reg.SEC_CNT 2).syncSec
    s.answer m S_OK

/-- FW_UPDATE (R463, R589 to R597). -/
def execFwUpdate (m : Fin 16) (s : State) : Out :=
  .next (s.command m 0x40 (some 0) true (fun s =>
    match s.host.staging with
    | some g =>
      if !g.full then s.answer m S_LOAD_INCOMPLETE
      else if imgNat g.data 0 4 = 0x534B5649 then s.takeStaging.keySetInstall m g.data
      else s.takeStaging.fwInstall m g.data
    | none => s.answer m S_LOAD_INCOMPLETE))

/-! ### ATTEST (R594) -/

/-- Bytes 0 to 767 of the report. -/
def State.attestBody (s : State) (nonce : List Byte) : List Byte :=
  let fuses := s.fuse.minSvn + s.fuse.rootRevoked.toNat * 256 + s.fuse.owner.isSome.toNat * 4096
    + (s.bit Reg.SEC_STATUS 3).toNat * 8192
  let jobs := s.job.jobs.flatMap (fun p => fitBytes 8 p.2.img.digest)
  let disabled := (s.disabledSpires.map (fun p => 2 ^ p)).sum
  fitBytes 256 (bytesLE 4 0x54415649 ++ bytesLE 2 1 ++ bytesLE 2 4080 ++ fitBytes 32 nonce
    ++ bytesLE 8 (s.rd64 Reg.SEC_DEVICE_ID_LO Reg.SEC_DEVICE_ID_HI).toNat ++ bytesLE 2 (s.f Reg.SYS_FW_VERSION 0 16)
    ++ bytesLE 1 0xB0 ++ bytesLE 1 s.power ++ bytesLE 4 (s.f Reg.SEC_STATUS 12 6) ++ bytesLE 8 s.now.toNat
    ++ fitBytes 64 s.sec.fwDigest ++ fitBytes 64 ((s.flash.keySet.map Config.shake256).getD []) ++ bytesLE 8 disabled
    ++ bytesLE 4 fuses)
  ++ fitBytes 512 jobs

/-- The report: signed by the alias key. -/
def State.attestReport (s : State) (nonce : List Byte) : List Byte :=
  let body := s.attestBody nonce
  let seed := aliasSeed s.sec.fwDigest (s.f Reg.SEC_STATUS 12 6)
  body ++ fitBytes 3312 (fitBytes 3309 (Config.mldsaSign seed (textBytes "rosyapa-iv34-att") (Config.shake256 body)))

/-- ATTEST (R594). -/
def execAttest (m : Fin 16) (s : State) : Out :=
  .next (s.command m 0x41 (some 32) true (fun s =>
    (s.bump Reg.SEC_CNT 3).answer m S_OK (s.attestReport (s.argBytes m 0 32))))

end Sys2Proof.Machine
end

