-- ==== Sys2Proof/Machine/Image.lean ====
section
/-!
DEFINITION. Job images as bytes: the header, the section table and the tables of the sections (R255 to R268, R279).
-/
namespace Sys2Proof.Machine

open Sys2Proof

/-! ### Header and section table (R256, R257) -/

/-- SECTION_COUNT of an image. -/
def imgSections (d : List Byte) : Nat := imgNat d 16 2
/-- Bytes of the header and the section table. -/
def imgFront (d : List Byte) : Nat := 128 + 32 * imgSections d
/-- FLAGS.SIGNED. -/
def imgSigned (d : List Byte) : Bool := decide (imgNat d 18 2 % 2 = 1)
/-- FLAGS.SPLIT. -/
def imgSplit (d : List Byte) : Bool := decide (imgNat d 18 2 / 4 % 2 = 1)
/-- MODULES. -/
def imgModules (d : List Byte) : Nat := imgNat d 22 1
/-- SPIRES. -/
def imgSpires (d : List Byte) : Nat := imgNat d 23 1
/-- JOB_ID. -/
def imgJobId (d : List Byte) : Nat := imgNat d 64 8

/-- Entry `i` of the section table. -/
def imgSect (d : List Byte) (i : Nat) : SectD :=
  let o := 128 + 32 * i
  { typ := imgNat d o 2, flags := imgNat d (o + 2) 2, count := imgNat d (o + 4) 4, off := imgNat d (o + 8) 8,
    bytes := imgNat d (o + 16) 8, resv := imgNat d (o + 24) 8 }

/-- The section table. -/
def imgSects (d : List Byte) : List SectD := (upTo (imgSections d)).map (imgSect d)

/-- The section of a type; an empty one where the image has none. -/
def sectOf (l : List SectD) (typ : Nat) : SectD :=
  (l.find? (fun x => decide (x.typ = typ))).getD { typ := typ, flags := 0, count := 0, off := 0, bytes := 0, resv := 0 }

/-- The entries of a section, each of `size` bytes. -/
def entriesIn (d : List Byte) (x : SectD) (size : Nat) : List (List Byte) :=
  (upTo x.count).map (fun i => imgBytes d (x.off + size * i) size)

/-- DIGEST as the SIGNATURE section holds it; that of the whole image where there is none (R258). -/
def imgDigest (d : List Byte) : List Byte :=
  if imgSigned d then imgBytes d ((sectOf (imgSects d) 15).off + 8) 64 else Config.shake256 d

/-! ### Descriptors (R260 to R263) -/

/-- A tensor descriptor. -/
def tensorAt (b : List Byte) : TensorD :=
  let f := imgNat b 0 1
  { fmt := f % 16, layout := f / 16 % 4, c := imgNat b 4 4, w := imgNat b 8 2, h := imgNat b 10 2, qparam := imgNat b 12 4,
    resv := f / 64 + imgNat b 1 3 + imgNat b 16 16 }

/-- A layer descriptor. -/
def layerAt (b : List Byte) : LayerD :=
  { kh := imgNat b 0 1, kw := imgNat b 1 1, sy := imgNat b 2 1, sx := imgNat b 3 1, dily := imgNat b 4 1,
    dilx := imgNat b 5 1, padLoY := imgNat b 6 2, padHiY := imgNat b 8 2, padLoX := imgNat b 10 2,
    padHiX := imgNat b 12 2, modes := imgNat b 14 1, engine := imgNat b 15 1, padCode := imgNat b 16 2,
    cin := imgNat b 20 4, cout := imgNat b 24 4, g := imgNat b 28 4, ksel := imgNat b 32 1, heads := imgNat b 33 1,
    t := imgNat b 34 2, d := imgNat b 36 2, nodeStream := imgNat b 38 2, p0 := BitVec.ofNat 32 (imgNat b 40 4),
    p1 := BitVec.ofNat 32 (imgNat b 44 4), qparamW := imgNat b 48 4, biasMult := imgNat b 52 4,
    gammaBeta := imgNat b 56 4, resv := imgNat b 18 2 + imgNat b 60 4 }

/-- A stream descriptor. -/
def streamAt (b : List Byte) : StreamD :=
  let t := imgNat b 20 1
  { base := imgNat b 0 8, rowBytes := imgNat b 8 4, rowStride := imgNat b 12 4, tensor := imgNat b 16 2,
    scale := imgNat b 18 2, tag0 := t % 16, kind := imgNat b 21 1, ringLog2 := imgNat b 22 1, input := imgNat b 23 1,
    resv := t / 16 + imgNat b 24 8 }

/-- An INPUTS entry. -/
def inputAt (b : List Byte) : InputD :=
  { input := imgNat b 0 1, source := imgNat b 1 1, tensor := imgNat b 2 2, lineTermRows := imgNat b 4 2,
    windowRows := imgNat b 6 2, resv := imgNat b 8 8 }

/-! ### Tile programs (R266, R268) -/

/-- An instruction of 16 bytes: its OP, its fields, and bit 108. -/
def instrAt (b : List Byte) : Nat × TileInstr × Bool :=
  let w := BitVec.ofNat 128 (natLE (b.take 16))
  (fld w 120 8,
   { rnd := w.extractLsb' 118 2, qrnd := w.getLsbD 117, sat := w.getLsbD 116, stat := w.extractLsb' 114 2,
     act := w.extractLsb' 110 4, last := w.getLsbD 109, layer := w.extractLsb' 96 12, srcA := w.extractLsb' 80 16,
     srcB := w.extractLsb' 64 16, dst := w.extractLsb' 48 16, arg0 := w.extractLsb' 32 16, arg1 := w.extractLsb' 16 16,
     cgrp := w.extractLsb' 7 9, rows := w.extractLsb' 0 7 },
   w.getLsbD 108)

/-- A tile record with the instructions that follow it. -/
def tileAt (b : List Byte) : TileD :=
  { id := imgNat b 0 4, rank := imgNat b 4 1, engine := imgNat b 5 1, flags := imgNat b 6 1, resv := imgNat b 7 1,
    trigger := imgNat b 10 2, tokens := imgNat b 12 4,
    prog := (upTo (imgNat b 8 2)).map (fun i => instrAt (imgBytes b (16 + 16 * i) 16)) }

/-- `n` tile records, and the bytes that follow them. -/
def tilesAt : Nat → List Byte → List TileD × List Byte
  | 0, l => ([], l)
  | n + 1, l =>
    let r := tilesAt n (l.drop (16 + 16 * imgNat l 8 2))
    (tileAt l :: r.1, r.2)

/-! ### Split plans (R184, R279, R280) -/

/-- `n` reductions, and the bytes that follow them. -/
def reductionsAt : Nat → List Byte → List ReductD × List Byte
  | 0, l => ([], l)
  | n + 1, l =>
    let k := imgNat l 2 2
    let steps := (upTo k).map (fun i => (imgNat l (8 + 4 * i) 1, imgNat l (9 + 4 * i) 1, imgNat l (10 + 4 * i) 1, imgNat l (11 + 4 * i) 1))
    let r := reductionsAt n (l.drop (8 + 4 * k))
    ({ stream := imgNat l 0 2, steps := steps } :: r.1, r.2)

/-- One level of the tree over ranks: its steps and the ranks that go on. -/
def pairUp (level : Nat) : List Nat → List (Nat × Nat × Nat × Nat) × List Nat
  | a :: b :: t => ((level, a, b, a) :: (pairUp level t).1, a :: (pairUp level t).2)
  | l => ([], l)

/-- The steps of the tree from a level on; `fuel` bounds the levels. -/
def treeSteps : Nat → Nat → List Nat → List (Nat × Nat × Nat × Nat)
  | 0, _, _ => []
  | fuel + 1, level, l =>
    if l.length ≤ 1 then [] else (pairUp level l).1 ++ treeSteps fuel (level + 1) (pairUp level l).2

/-- The steps of a reduction over ranks 0 to `m - 1`, levels counted from 0. -/
def splitTree (m : Nat) : List (Nat × Nat × Nat × Nat) := treeSteps m 0 (upTo m)

/-- The reductions of an image. -/
def imgReductions (d : List Byte) : List ReductD × List Byte :=
  let b := imgBytes d (sectOf (imgSects d) 10).off (sectOf (imgSects d) 10).bytes
  reductionsAt (imgNat b 2 2) (b.drop 8)

/-! ### The image as a whole -/

/-- The tile records of an image. -/
def imgTiles (d : List Byte) : List TileD × List Byte :=
  let x := sectOf (imgSects d) 4
  tilesAt x.count (imgBytes d x.off x.bytes)

/-- The tables of an image. -/
def parseImage (d : List Byte) : JobImg :=
  let l := imgSects d
  { imageBytes := imgNat d 8 8, flags := imgNat d 18 2, minFw := imgNat d 20 2, modules := imgModules d,
    spires := imgSpires d, slots := imgNat d 24 2, markFailsafe := imgNat d 26 2, tileCount := imgNat d 28 4,
    crit := imgNat d 32 8, compute := (upTo 4).map (fun i => imgNat d (40 + 4 * i) 4), dramBytes := imgNat d 56 8,
    jobId := BitVec.ofNat 64 (imgJobId d), sections := l,
    tensors := (entriesIn d (sectOf l 1) 32).map tensorAt, layers := (entriesIn d (sectOf l 2) 64).map layerAt,
    streams := (entriesIn d (sectOf l 3) 32).map streamAt, tiles := (imgTiles d).1,
    qparams := (entriesIn d (sectOf l 6) 16).map QParam.parse,
    biasMult := (entriesIn d (sectOf l 7) 8).map (fun b => (BitVec.ofNat 32 (imgNat b 0 4), BitVec.ofNat 32 (imgNat b 4 4))),
    inputs := (entriesIn d (sectOf l 8) 16).map inputAt,
    classMap := (imgBytes d (sectOf l 9).off (sectOf l 9).count).map BitVec.toNat,
    reductions := (imgReductions d).1, digest := imgDigest d }

end Sys2Proof.Machine
end

