-- ==== Sys2Proof/Machine/ImageChecks.lean ====
section
/-!
DEFINITION. Validation of a job image, steps 1 to 13 of R283: each step is a function that answers the first failure.
-/
namespace Sys2Proof.Machine

open Sys2Proof

/-- A refusal of an image: status, step, section TYPE and entry index, none where the spec names none. -/
structure LoadErr where
  status : Nat
  step : Option Nat := none
  sect : Option Nat := none
  entry : Option Nat := none
  deriving DecidableEq, Repr

/-- A check of one step. -/
def chk (ok : Bool) (e : LoadErr) : Option LoadErr := if ok then none else some e

/-- The first entry of a section's table whose check gives a status. -/
def chkEach {α : Type} (step sect : Nat) (l : List α) (f : α → Option Nat) : Option LoadErr :=
  l.zipIdx.findSome? (fun p => (f p.1).map (fun st => { status := st, step := some step, sect := some sect, entry := some p.2 }))

/-- The first failure of a list of checks. -/
def firstErr : List (Option LoadErr) → Option LoadErr
  | [] => none
  | some e :: _ => some e
  | none :: t => firstErr t

/-- A status where a condition does not hold. -/
def need (ok : Bool) (status : Nat) : Option Nat := if ok then none else some status

/-- The first status of a list. -/
def firstSt : List (Option Nat) → Option Nat
  | [] => none
  | some e :: _ => some e
  | none :: t => firstSt t

/-! ### Step 1: header, section bounds and alignment (R255, R257) -/

/-- Entry size of a section type; 0 for raw sections, PROGRAM and SPLIT. -/
def entrySize (typ : Nat) : Nat :=
  match typ with
  | 1 => 32 | 2 => 64 | 3 => 32 | 6 => 16 | 7 => 8 | 8 => 16 | 9 => 1 | _ => 0

/-- The header is that of an image of the bytes given. -/
def imgHeaderOk (d : List Byte) : Bool :=
  decide (128 ≤ d.length) && decide (imgNat d 0 4 = 0x314A5649) && decide (imgNat d 6 2 = 128)
    && decide (imgNat d 8 8 = d.length) && decide (d.length ≤ 2 ^ 33) && decide (1 ≤ imgSections d)
    && decide (imgSections d ≤ 64) && decide (imgFront d ≤ d.length)

/-- Occurrences that a section type may have. -/
def maxSections (typ : Nat) : Nat := if typ = 5 ∨ typ = 11 then 32 else if (1 ≤ typ ∧ typ ≤ 11) ∨ typ = 15 then 1 else 0

/-- One entry of the section table. -/
def sectOk (d : List Byte) (l : List SectD) (x : SectD) : Bool :=
  decide (x.off % 64 = 0) && decide (imgFront d ≤ x.off) && decide (x.off + x.bytes ≤ d.length)
    && decide ((l.filter (fun y => decide (y.typ = x.typ))).length ≤ maxSections x.typ)
    && (decide (entrySize x.typ = 0) || decide (x.count * entrySize x.typ = x.bytes))
    && (decide (x.typ ≠ 15) || (decide (x.bytes = 3392) && l.all (fun y => decide (y.off ≤ x.off))))

/-- Two sections have no byte in common. -/
def apart (x y : SectD) : Bool := decide (x.off + x.bytes ≤ y.off) || decide (y.off + y.bytes ≤ x.off)

/-- No two sections of a table overlap. -/
def sectsApart : List SectD → Bool
  | [] => true
  | x :: t => t.all (fun y => apart x y) && sectsApart t

/-- The bytes outside the header, the section table and the sections are zero. -/
def gapsZero (d : List Byte) (l : List SectD) : Bool :=
  d.zipIdx.all (fun p => decide (p.1 = 0) || decide (p.2 < imgFront d) ||
    l.any (fun x => decide (x.off ≤ p.2) && decide (p.2 < x.off + x.bytes)))

/-- Section types that an image must have. -/
def requiredSects (d : List Byte) : List Nat :=
  [1, 2, 3, 4, 8, 9] ++ (if imgSplit d then [10] else []) ++ (if imgSigned d then [15] else [])

/-- Step 1. -/
def check1 (d : List Byte) : Option LoadErr :=
  let l := imgSects d
  let bad : LoadErr := { status := S_IMAGE_FORMAT, step := some 1 }
  if !imgHeaderOk d then some bad
  else
    firstErr
      [ (l.find? (fun x => !sectOk d l x)).map (fun x => { bad with sect := some x.typ }),
        chk (sectsApart l) bad,
        ((requiredSects d).find? (fun t => !l.any (fun x => decide (x.typ = t)))).map (fun t => { bad with sect := some t }),
        chk (gapsZero d l) bad ]

/-! ### Steps 2 to 6 -/

/-- Step 2: FORMAT_VERSION and MIN_FW. -/
def State.check2 (s : State) (d : List Byte) : Option LoadErr :=
  chk (decide (imgNat d 4 2 = 1) && decide (imgNat d 20 2 ≤ s.f Reg.SYS_FW_VERSION 0 16)) { status := S_IMAGE_VERSION, step := some 2 }

/-- The key of the job key set with a KEY_ID, unless it has been revoked (R259, R597). -/
def State.jobKey (s : State) (id : List Byte) : Option (List Byte) :=
  match s.flash.keySet with
  | some k =>
    if s.flash.revoked.contains id then none
    else ((upTo (keyCount k)).map (fun i => keySetKey k i)).find? (fun key => decide (keyId key = id))
  | none => none

/-- Step 3: digest, key and signature (R258, R259, R597). -/
def State.check3 (s : State) (d : List Byte) : Option LoadErr :=
  let x := sectOf (imgSects d) 15
  let bad (st : Nat) : LoadErr := { status := st, step := some 3, sect := some 15 }
  if imgSigned d then
    let digest := imgBytes d (x.off + 8) 64
    if Config.shake256 (d.take x.off) ≠ digest then some (bad S_IMAGE_DIGEST)
    else
      match s.jobKey (imgBytes d x.off 8) with
      | some key =>
        chk (Config.mldsaVerify key (textBytes "rosyapa-iv34-job") digest (imgBytes d (x.off + 72) 3309)) (bad S_IMAGE_SIGNATURE)
      | none => some (bad S_IMAGE_SIGNATURE)
  else chk (!s.bit Reg.SEC_STATUS 3) (bad S_IMAGE_UNSIGNED)

/-- Step 4: SPIRES (R162). -/
def State.check4 (s : State) (d : List Byte) : Option LoadErr :=
  chk (decide (imgSpires d = s.spireCount)) { status := S_SPIRES_UNAVAILABLE, step := some 4 }

/-- The last confirmation that a node has sent of a split job: KIND and content. -/
def State.confirmOf (s : State) (jobId node : Nat) : Option (Nat × List Byte) :=
  (AMap.look s.fab.confirms (16 * jobId + node)).map (fun l => (messageKind l, splitBody l))

/-- Nodes of the other ranks. -/
def State.otherRanks (s : State) (modules : Nat) : List Nat := (upTo modules).filter (fun n => decide (n ≠ s.nodeId))

/-- Step 5: MODULES, the split plan, the routes, and what other ranks have confirmed (R280, R281, R504). -/
def State.check5 (s : State) (d : List Byte) : Option LoadErr :=
  let m := imgModules d
  let x := sectOf (imgSects d) 10
  let bad : LoadErr := { status := S_SPLIT_MISMATCH, step := some 5, sect := some 10 }
  if imgSplit d then
    let mine := splitConfirm (imgDigest d) m (imgSpires d) (imgJobId d)
    let differs (n : Nat) : Bool := match s.confirmOf (imgJobId d) n with
      | some (0, l) => decide (l ≠ mine)
      | _ => false
    firstErr
      [ chk (decide (1 ≤ m) && decide (m ≤ 16) && decide (imgNat d x.off 1 = m)) bad,
        ((imgReductions d).1.zipIdx.find? (fun p => decide (p.1.steps ≠ splitTree m))).map (fun p => { bad with entry := some p.2 }),
        chk (decide (s.nodeId < m) && (s.otherRanks m).all (fun n => (s.route n).isSome)) bad,
        chk (!(s.otherRanks m).any differs) bad ]
  else chk (decide (m = 1)) bad

/-! ### What a layer and an instruction use (R261, R268 to R270) -/

/-- The control class. -/
def opControl (o : Nat) : Bool := decide (o ≤ 8)
/-- The DMA class. -/
def opDma (o : Nat) : Bool := decide (0x10 ≤ o) && decide (o ≤ 0x15)
/-- The matrix class. -/
def opMatrix (o : Nat) : Bool := decide (0x20 ≤ o) && decide (o ≤ 0x26)
/-- The post class. -/
def opPost (o : Nat) : Bool := decide (0x30 ≤ o) && decide (o ≤ 0x3F)
/-- An OP of R270. -/
def opKnown (o : Nat) : Bool := opControl o || opDma o || opMatrix o || opPost o
/-- OPs that a spire runs. -/
def opOnSpire (o : Nat) : Bool := decide (o ≠ 8)
/-- OPs that a moon engine runs. -/
def opOnMoon (o : Nat) : Bool := !([2, 3, 4, 5, 6, 0x13, 0x24, 0x25, 0x26, 0x39, 0x3D].contains o)
/-- Convolutions and matrix multiplication: a reduction in slices that tiles may divide. -/
def opConv (o : Nat) : Bool := decide (o = 0x20 ∨ o = 0x21 ∨ o = 0x22)
/-- Operators with a sliding window. -/
def opWindow (o : Nat) : Bool := opConv o || decide (o = 0x23 ∨ o = 0x38)
/-- The attention operators. -/
def opAttn (o : Nat) : Bool := decide (o = 0x24 ∨ o = 0x25)

/-- The instructions that name layer `n`, with their OPs. -/
def JobImg.layerOps (g : JobImg) (n : Nat) : List (Nat × TileInstr) :=
  g.tiles.flatMap (fun t => (t.prog.filter (fun p => (opMatrix p.1 || opPost p.1) && decide (p.2.1.layer.toNat = n))).map
    (fun p => (p.1, p.2.1)))

/-- Fields of a layer that its operators do not use are zero (R261). A layer that no instruction names has no operator. -/
def layerUnused (os : List (Nat × TileInstr)) (l : LayerD) : Bool :=
  let any (f : Nat → Bool) : Bool := os.any (fun p => f p.1)
  let is (n : Nat) : Bool := any (fun o => decide (o = n))
  let act (n : Nat) : Bool := os.any (fun p => decide (p.2.act.toNat = n))
  let win := any opWindow
  let zero (used : Bool) (vs : List Nat) : Bool := used || vs.all (fun v => decide (v = 0))
  decide (os = []) ||
    (zero (win || any opAttn) [l.kh, l.kw]
      && zero win [l.sy, l.sx, l.dily, l.dilx, l.padLoY, l.padHiY, l.padLoX, l.padHiX, l.padY, l.padX]
      && zero (is 0x23) [l.countPad.toNat] && zero (is 0x26) [l.root.toNat] && zero (is 0x39) [l.nkind]
      && zero (win && (decide (l.padY = 1) || decide (l.padX = 1))) [l.padCode] && zero (win || is 0x39) [l.g]
      && zero (is 0x26 || is 0x3C || is 0x3D) [l.ksel] && zero (any opAttn) [l.heads, l.t]
      && zero (any opAttn || is 0x26) [l.d]
      && (any opMatrix || is 0x3E || decide (l.nodeStream = 0 ∨ l.nodeStream = 0xFFFF))
      && zero (is 0x39 || act 3 || act 4) [l.p0.toNat] && zero (act 4) [l.p1.toNat]
      && zero (is 0x20 || is 0x21) [l.qparamW] && zero (any opMatrix || is 0x3E) [l.biasMult] && zero (is 0x39) [l.gammaBeta])

/-- The instruction names a layer. -/
def usesLayer (o : Nat) : Bool := opMatrix o || opPost o
/-- SRC_A is used. -/
def usesA (o : Nat) : Bool :=
  opMatrix o || opPost o || [1, 5, 7, 8, 0x10, 0x11, 0x12, 0x13, 0x14].contains o
/-- SRC_B is used. -/
def usesB (o : Nat) : Bool := [0x20, 0x21, 0x22, 0x24, 0x25, 0x26, 0x32, 0x33, 0x34, 0x35, 0x36, 0x3D].contains o
/-- ROWS is used. -/
def usesRows (o : Nat) : Bool := opMatrix o || opPost o || [1, 0x11, 0x14, 0x15].contains o
/-- ARG0, or KS_COUNT, is used. -/
def usesArg0 (o : Nat) : Bool := opMatrix o || [5, 0x10, 0x13, 0x37].contains o
/-- ARG1, or KS_FIRST, is used. -/
def usesArg1 (o : Nat) : Bool := opMatrix o || [2, 3, 4, 5, 6, 0x13].contains o
/-- ACT is used. -/
def usesAct (o : Nat) : Bool := opMatrix o || decide (o = 0x31 ∨ o = 0x3E)

/-- A matrix instruction whose slices end before K (R269). -/
def JobImg.isPartial (g : JobImg) (o : Nat) (i : TileInstr) : Bool :=
  let l := g.layer i.layer.toNat
  opConv o && decide (sliceEnd l i.arg1.toNat i.arg0.toNat < l.slices)

/-- DST is used. -/
def JobImg.usesDst (g : JobImg) (o : Nat) (i : TileInstr) : Bool :=
  (opMatrix o && !g.isPartial o i) || opPost o || [6, 0x12, 0x14, 0x15].contains o

/-- Fields that an instruction does not use are zero (R268, R269). -/
def JobImg.instrUnused (g : JobImg) (o : Nat) (i : TileInstr) : Bool :=
  let zero (used : Bool) (v : Nat) : Bool := used || decide (v = 0)
  let comp := usesLayer o
  let out := comp && !g.isPartial o i
  zero comp i.rnd.toNat && zero out i.qrnd.toNat && zero out i.sat.toNat && zero out i.stat.toNat
    && zero (usesAct o && out) i.act.toNat && zero comp i.layer.toNat && zero (usesA o) i.srcA.toNat
    && zero (usesB o) i.srcB.toNat && zero (g.usesDst o i) i.dst.toNat && zero (usesArg0 o) i.arg0.toNat
    && zero (usesArg1 o) i.arg1.toNat && zero comp i.cgrp.toNat && zero (usesRows o) i.rows.toNat

/-! ### Step 7: indices, reserved fields (R256, R260 to R263, R266) -/

/-- An index that is none, or within a table. -/
def idxOrNone (none_ n v : Nat) : Bool := decide (v = none_) || decide (v < n)

/-- `n` entries of a table from index `v`; where the table is empty, index 0. -/
def runIn (count v n : Nat) : Bool := if count = 0 then decide (v = 0) else decide (v + n ≤ count)

/-- The header and the section table. -/
def header7 (d : List Byte) : Bool :=
  imgZero d 76 52 && decide (imgNat d 18 2 < 8) && decide (1 ≤ imgNat d 24 2) && decide (imgNat d 24 2 ≤ 64)
    && decide (1 ≤ imgSpires d) && decide (imgSpires d ≤ 32)

/-- A tensor descriptor (R260). -/
def JobImg.tensor7 (g : JobImg) (t : TensorD) : Bool :=
  decide (t.resv = 0) && decide (t.fmt ≠ 15) && idxOrNone 0xFFFFFFFF g.qparams.length t.qparam
    && (decide (4 < t.fmt) || decide (t.qparam = 0xFFFFFFFF) || decide ((g.qparam t.qparam).typ = t.fmt))

/-- Elements of the BIAS_MULT table that a layer takes from BIAS_MULT on: one for each output channel, or one for each place
of an attention mask. -/
def biasRun (os : List (Nat × TileInstr)) (l : LayerD) : Nat :=
  if os.any (fun p => opAttn p.1) then l.heads * l.t * l.t else l.cout

/-- A layer descriptor (R261). -/
def JobImg.layer7 (g : JobImg) (n : Nat) (l : LayerD) : Bool :=
  let os := g.layerOps n
  let weights := os.filter (fun p => decide (p.1 = 0x20 ∨ p.1 = 0x21))
  decide (l.resv = 0) && decide (l.nkind ≠ 3) && decide (l.engine ≤ 1) && layerUnused os l
    && (!os.any (fun p => opMatrix p.1 || decide (p.1 = 0x3E)) || (idxOrNone 0xFFFF g.streams.length l.nodeStream
        && runIn g.biasMult.length l.biasMult (biasRun os l)))
    && weights.all (fun p => decide (4 < (g.tensorOf p.2.srcB.toNat).fmt) || decide (l.qparamW + l.cout ≤ g.qparams.length))
    && os.all (fun p => decide (p.1 ≠ 0x39) || decide (l.gammaBeta + (g.tensorOf p.2.srcA.toNat).c ≤ g.biasMult.length))

/-- BASE of a stream lies in a section of its kind (R262). -/
def JobImg.baseOk (g : JobImg) (t : StreamD) : Bool :=
  let inSect (typ : Nat) : Bool := g.sections.any (fun x => decide (x.typ = typ) && decide (x.off ≤ t.base) && decide (t.base < x.off + x.bytes))
  if t.kind = 0 then inSect 5 else if t.kind = 1 then decide (t.base < g.imageBytes) else if t.kind = 2 then inSect 11 else true

/-- A stream descriptor (R262). -/
def JobImg.stream7 (g : JobImg) (t : StreamD) : Bool :=
  let mx := fmtMx ((g.tensors.drop t.tensor).headD {}).fmt && decide (t.tensor ≠ 0xFFFF)
  decide (t.resv = 0) && decide (t.kind ≤ 5) && decide (t.rowStride % 64 = 0)
    && (if t.kind = 1 ∨ t.kind = 4 then decide (t.tensor = 0xFFFF) else decide (t.tensor < g.tensors.length))
    && (if mx then decide (t.scale < g.streams.length) && decide ((g.stream t.scale).kind = 1) else decide (t.scale = 0xFFFF))
    && (if t.kind = 3 ∨ t.kind = 5 then decide (4 ≤ t.ringLog2) && decide (t.ringLog2 ≤ 12) else decide (t.ringLog2 = 0))
    && (if t.kind = 5 then g.inputs.any (fun i => decide (i.input = t.input)) else decide (t.input = 0))
    && g.baseOk t

/-- An INPUTS entry (R263). -/
def JobImg.input7 (g : JobImg) (i : InputD) : Bool :=
  decide (i.input ≤ 15) && decide (i.source ≤ 1) && decide (i.tensor < g.tensors.length) && decide (i.resv = 0)
    && decide ((g.inputs.filter (fun j => decide (j.input = i.input))).length = 1)

/-- A tile record (R266). -/
def JobImg.tile7 (g : JobImg) (n : Nat) (t : TileD) : Bool :=
  decide (t.id = n) && decide (t.rank < g.modules) && decide (t.engine / 32 % 4 = 0)
    && (if t.moon then decide (t.engine % 32 ≤ 7) else decide (t.engine % 32 < g.spires))
    && decide (t.flags ≤ 1) && decide (t.resv = 0) && decide (1 ≤ t.prog.length) && decide (t.prog.length ≤ 256)
    && decide (t.trigger < g.streams.length)

/-- Bytes of the tile records. -/
def tileBytes (l : List TileD) : Nat := (l.map (fun t => 16 + 16 * t.prog.length)).sum
/-- Bytes of a split plan. -/
def splitBytes (l : List ReductD) : Nat := 8 + (l.map (fun r => 8 + 4 * r.steps.length)).sum

/-- A split plan (R279): its reserved fields and its node streams. -/
def JobImg.split7 (g : JobImg) (d : List Byte) : Bool :=
  let x := sectOf g.sections 10
  !imgSplit d || (decide (splitBytes g.reductions = x.bytes) && imgZero d (x.off + 1) 1 && imgZero d (x.off + 4) 4
    && g.reductions.all (fun r => decide (r.stream < g.streams.length)))

/-- Step 7. -/
def check7 (g : JobImg) (d : List Byte) : Option LoadErr :=
  let bad (typ : Nat) : LoadErr := { status := S_IMAGE_FORMAT, step := some 7, sect := some typ }
  let st (ok : Bool) : Option Nat := need ok S_IMAGE_FORMAT
  firstErr
    [ chk (header7 d) { status := S_IMAGE_FORMAT, step := some 7 },
      (g.sections.find? (fun x => decide (x.flags ≠ 0 ∨ x.resv ≠ 0))).map (fun x => bad x.typ),
      chkEach 7 1 g.tensors (fun t => st (g.tensor7 t)),
      chkEach 7 2 g.layers.zipIdx (fun p => st (g.layer7 p.2 p.1)),
      chkEach 7 3 g.streams (fun t => st (g.stream7 t)),
      chkEach 7 8 g.inputs (fun i => st (g.input7 i)),
      chk (decide (g.tiles.length = g.tileCount) && decide (tileBytes g.tiles = (sectOf g.sections 4).bytes)) (bad 4),
      chkEach 7 4 g.tiles.zipIdx (fun p => st (g.tile7 p.2 p.1)),
      chk (g.split7 d) (bad 10),
      chk (!imgSigned d || imgZero d ((sectOf g.sections 15).off + 3381) 11) (bad 15) ]

/-! ### Step 8: parameter records (R200) -/

/-- Step 8. -/
def check8 (g : JobImg) : Option LoadErr := chkEach 8 6 g.qparams (fun q => need q.valid S_QPARAM_INVALID)

/-! ### Step 9: layer shapes and limits (R227, R229, R230, R249, R253) -/

/-- A number within bounds. -/
def within (lo hi v : Nat) : Bool := decide (lo ≤ v) && decide (v ≤ hi)

/-- REFLECT padding on an axis is at most in − 1 (R229). -/
def reflectOk (mode inp lo hi : Nat) : Bool := decide (mode ≠ 3) || (decide (lo + 1 ≤ inp) && decide (hi + 1 ≤ inp))

/-- Operators with a sliding window. -/
def windowShape (l : LayerD) (a : TensorD) : Option Nat :=
  firstSt
    [ need (within 1 15 l.kh && within 1 15 l.kw) S_FILTER_TOO_LARGE,
      need (within 1 64 l.dily && within 1 64 l.dilx && within 1 16 l.sy && within 1 16 l.sx) S_OP_LIMIT,
      need ([l.padLoY, l.padHiY, l.padLoX, l.padHiX].all (fun p => decide (p ≤ 1023))) S_OP_LIMIT,
      need (reflectOk l.padY a.h l.padLoY l.padHiY && reflectOk l.padX a.w l.padLoX l.padHiX) S_PAD_RANGE,
      need (!fmtMx a.fmt || (decide (l.padY = 0) && decide (l.padX = 0))) S_OP_LIMIT,
      need (decide (0 < outSize a.h l.kh l.sy l.padLoY l.padHiY l.dily) && decide (0 < outSize a.w l.kw l.sx l.padLoX l.padHiX l.dilx))
        S_SHAPE_EMPTY,
      need (within 1 65536 l.cin && within 1 65536 l.cout && decide (0 < l.g) && decide (l.cin % l.g = 0) && decide (l.cout % l.g = 0))
        S_OP_LIMIT,
      need (decide (l.k ≤ 2097152)) S_OP_LIMIT ]

/-- Attention. -/
def attnShape (l : LayerD) : Bool :=
  within 1 1024 l.t && [32, 64, 96, 128].contains l.d && within 1 32 l.heads && decide (l.kh ≤ 64)

/-- A distance layer: query and bank in one format of R249, no zero point, D, N, k and the segment within bounds. -/
def JobImg.distShape (g : JobImg) (l : LayerD) (i : TileInstr) : Bool :=
  let a := g.tensorOf i.srcA.toNat
  let b := g.tensorOf i.srcB.toNat
  let n := b.w * b.h
  let noZero (t : TensorD) : Bool := decide (t.fmt ≠ 1) || decide ((g.qparam t.qparam).z = 0)
  decide (a.fmt = b.fmt) && [1, 3, 4, 5].contains a.fmt && noZero a && noZero b && within 32 2048 l.d && decide (l.d % 32 = 0)
    && decide (n ≤ 16777216) && within 1 16 l.ksel && decide (n * ((g.stream i.srcB.toNat).rowStride + 4) ≤ 768 * 2 ^ 20)

/-- Values that a normalisation set holds. -/
def normCount (l : LayerD) (a : TensorD) : Nat := if l.nkind = 2 then a.w * a.h else if l.nkind = 1 then a.c / max 1 l.g else a.c

/-- The shape of a layer as one instruction uses it. -/
def JobImg.shape (g : JobImg) (l : LayerD) (o : Nat) (i : TileInstr) : Option Nat :=
  let a := g.tensorOf i.srcA.toNat
  if opWindow o then windowShape l a
  else if opAttn o then need (attnShape l) S_OP_LIMIT
  else if o = 0x26 then need (g.distShape l i) S_OP_LIMIT
  else if o = 0x39 then
    need (within 1 (if l.nkind = 2 then 16777216 else 65536) (normCount l a) && (decide (l.nkind ≠ 1) || decide (0 < l.g))) S_OP_LIMIT
  else if o = 0x3B ∨ o = 0x3A then need (within 1 65536 a.c) S_OP_LIMIT
  else if o = 0x3C then need (within 1 65536 a.c && within 1 64 l.ksel) S_OP_LIMIT
  else none

/-- Step 9. -/
def check9 (g : JobImg) : Option LoadErr :=
  firstErr
    [ chkEach 9 1 g.tensors (fun t => need (within 1 16384 t.w && within 1 65535 t.h && within 1 65536 t.c) S_OP_LIMIT),
      chkEach 9 2 g.layers.zipIdx (fun p => (g.layerOps p.2).findSome? (fun q => g.shape p.1 q.1 q.2)) ]

/-! ### Step 10: instructions and engines (R169, R268 to R271, R304) -/

/-- Layers that a moon engine takes (R169, R233). -/
def JobImg.moonOk (g : JobImg) (o : Nat) (i : TileInstr) : Bool :=
  let l := g.layer i.layer.toNat
  let a := g.tensorOf i.srcA.toNat
  let b := g.tensorOf i.srcB.toNat
  !(opMatrix o || opPost o) || (decide (a.layout ≠ 2) && (!opMatrix o || ((decide (l.cin ≤ 16) || decide (l.cout ≤ 16))
    && !fmtThree a.fmt && (!usesB o || !fmtThree b.fmt))))

/-- Arguments within their ranges (R270). -/
def JobImg.argsOk (g : JobImg) (o : Nat) (i : TileInstr) : Bool :=
  (decide (o ≠ 2 ∧ o ≠ 3) || decide (i.arg1.toNat ≤ 255)) && (decide (o ≠ 4) || decide (i.arg1.toNat ≤ 63))
    && (decide (o ≠ 5) || decide (i.arg0.toNat < g.modules)) && (decide (o ≠ 0x37) || decide (i.arg0 = 2 ∨ i.arg0 = 4))
    && (!usesRows o || decide (i.rows ≠ 0)) && decide (i.stat.toNat ≠ 3)

/-- Streams and layers that an instruction names exist. -/
def JobImg.namesOk (g : JobImg) (o : Nat) (i : TileInstr) : Bool :=
  let ok (used : Bool) (n v : Nat) : Bool := !used || decide (v < n)
  let k := g.streams.length
  ok (usesLayer o) g.layers.length i.layer.toNat && ok (usesA o) k i.srcA.toNat && ok (usesB o) k i.srcB.toNat
    && ok (g.usesDst o i) k i.dst.toNat && ok (g.isPartial o i || (opConv o && decide (i.arg1 ≠ 0))) k (g.layer i.layer.toNat).nodeStream

/-- One instruction of a tile. -/
def JobImg.instrStatus (g : JobImg) (t : TileD) (p : Nat × TileInstr × Bool) : Option Nat :=
  let o := p.1
  let i := p.2.1
  firstSt
    [ need (opKnown o) S_INSTR_INVALID,
      need (if t.moon then opOnMoon o else opOnSpire o) S_OP_LIMIT,
      need (!p.2.2 && g.instrUnused o i && g.argsOk o i && g.namesOk o i) S_INSTR_INVALID,
      need (decide (i.act.toNat < 14)) S_OP_LIMIT,
      need (!t.moon || g.moonOk o i) S_OP_LIMIT ]

/-- The order of instructions within a tile (R268, R271): END on the last alone, REMOTE_WAIT first, acquisitions before all
else, releases last. -/
def TileD.ordered (t : TileD) : Bool :=
  let l := t.prog.map (fun p => p.1)
  let rest := (l.drop (if l.head? = some 6 then 1 else 0)).dropWhile (fun o => decide (o = 2))
  let body := rest.takeWhile (fun o => decide (o ≠ 3))
  t.prog.zipIdx.all (fun p => p.1.2.1.last == decide (p.2 + 1 = t.prog.length))
    && !(body ++ rest.drop body.length).any (fun o => decide (o = 6 ∨ o = 2)) && (rest.drop body.length).all (fun o => decide (o = 3))

/-- Semaphores that a tile releases. -/
def TileD.frees (t : TileD) : List Nat := (t.prog.filter (fun p => decide (p.1 = 3))).map (fun p => p.2.1.arg1.toNat)
/-- Semaphores that a tile acquires. -/
def TileD.takes (t : TileD) : List Nat := (t.prog.filter (fun p => decide (p.1 = 2))).map (fun p => p.2.1.arg1.toNat)

/-- The semaphores that the tiles of a step hold, tile after tile (R271, R304): the first tile that breaks a rule. -/
def semWalk : List Nat → List (TileD × Nat) → Option Nat
  | _, [] => none
  | held, (t, n) :: rest =>
    let has := held ++ t.takes
    if t.takes.all (fun x => held.all (fun y => decide (y < x))) && t.frees.all (fun x => has.contains x) then
      semWalk (has.filter (fun x => !t.frees.contains x)) rest
    else some n

/-- Tiles of one step: those of a rank with one trigger, in order. -/
def JobImg.stepTiles (g : JobImg) (rank trigger : Nat) : List (TileD × Nat) :=
  g.tiles.zipIdx.filter (fun p => decide (p.1.rank = rank) && decide (p.1.trigger = trigger))

/-- Every rank and trigger of the program. -/
def JobImg.stepKeys (g : JobImg) : List (Nat × Nat) := (g.tiles.map (fun t => (t.rank, t.trigger))).eraseDups

/-- The matrix instructions that share one output: layer, channel group, sources (R269), with tile, first slice, end. -/
def JobImg.sliceRuns (g : JobImg) : List ((Nat × Nat × Nat × Nat) × Nat × Nat × Nat) :=
  g.tiles.zipIdx.flatMap (fun t => (t.1.prog.filter (fun p => opConv p.1)).map (fun p =>
    let i := p.2.1
    ((i.layer.toNat, i.cgrp.toNat, i.srcA.toNat, i.srcB.toNat), t.2, i.arg1.toNat,
      sliceEnd (g.layer i.layer.toNat) i.arg1.toNat i.arg0.toNat)))

/-- Slices covered in ascending order without gap or overlap: the tile at which they are not. -/
def coverWalk (total : Nat) : Nat → Nat → List (Nat × Nat × Nat) → Option Nat
  | at_, tile, [] => if at_ = total then none else some tile
  | at_, _, (t, a, b) :: rest => if a = at_ ∧ a < b then coverWalk total b t rest else some t

/-- The first tile at which the slices of some output are not covered. -/
def JobImg.uncovered (g : JobImg) : Option Nat :=
  ((g.sliceRuns.map (fun r => r.1)).eraseDups).findSome? (fun k =>
    coverWalk (g.layer k.1).slices 0 0 ((g.sliceRuns.filter (fun r => decide (r.1 = k))).map (fun r => r.2)))

/-- Step 10. -/
def check10 (g : JobImg) : Option LoadErr :=
  let bad (n : Nat) : LoadErr := { status := S_INSTR_INVALID, step := some 10, sect := some 4, entry := some n }
  firstErr
    [ chkEach 10 4 g.tiles (fun t => (t.prog.findSome? (fun p => g.instrStatus t p)).orElse (fun _ => need t.ordered S_INSTR_INVALID)),
      (g.stepKeys.findSome? (fun k => semWalk [] (g.stepTiles k.1 k.2))).map bad,
      g.uncovered.map bad ]

/-! ### Step 11: tokens and hazards (R167, R168, R178, R234, R267, R272) -/

/-- 1/F of a layout (R234). -/
def layoutCost (layout c : Nat) (depthwise : Bool) : Nat :=
  if layout = 0 then (if depthwise then 2 else if c % 32 = 0 then 1 else 2)
  else if layout = 3 then (if depthwise then 1 else 4) else 1

/-- Slices of 32 that one token takes from a reduction: eight at double rate, four otherwise (R164). -/
def slicesPerToken (fa fb : Nat) : Nat := if fmtDouble fa && fmtDouble fb then 8 else 4
/-- Passes of the rate class (R175). -/
def ratePasses (fa fb : Nat) : Nat := if fmtThree fa || fmtThree fb then 3 else 1

/-- Tokens of `n` output vectors of up to 128 channels, each with a reduction of `sl` slices (R168, R234). -/
def reduceTokens (moon depthwise : Bool) (n sl chans fa fb cost : Nat) : Nat :=
  if moon then n * sl * ceilDiv chans 32
  else if depthwise then ceilDiv (n * sl * ratePasses fa fb * cost) (slicesPerToken fa fb)
  else n * ceilDiv sl (slicesPerToken fa fb) * ratePasses fa fb * cost

/-- Channels of a channel group of 128. -/
def groupChans (cgrp cout : Nat) : Nat := min 128 (cout - 128 * cgrp)

/-- Bank entries that a tile stages. -/
def TileD.bankEntries (t : TileD) : Nat := ((t.prog.filter (fun p => decide (p.1 = 0x13))).map (fun p => p.2.1.arg0.toNat)).sum

/-- Tokens of a matrix instruction at `slots` slots. -/
def JobImg.matrixTokens (g : JobImg) (t : TileD) (o : Nat) (i : TileInstr) (slots : Nat) : Nat :=
  let l := g.layer i.layer.toNat
  let a := g.tensorOf i.srcA.toNat
  let b := g.tensorOf i.srcB.toNat
  let rows := slots * i.rows.toNat
  let sl := sliceEnd l i.arg1.toNat i.arg0.toNat - i.arg1.toNat
  let ch := groupChans i.cgrp.toNat l.cout
  let outW := (outSize a.w l.kw l.sx l.padLoX l.padHiX l.dilx).toNat
  if o = 0x21 then reduceTokens t.moon true (rows * outW) sl ch a.fmt b.fmt (layoutCost a.layout a.c true)
  else if o = 0x23 then
    reduceTokens t.moon true (rows * outW) (ceilDiv (l.kh * l.kw) 32) ch a.fmt 5 (layoutCost a.layout a.c true)
  else if o = 0x24 then reduceTokens false false (rows * a.w) (ceilDiv l.d 32) 128 a.fmt b.fmt (layoutCost a.layout a.c false)
  else if o = 0x25 then reduceTokens false false (rows * a.w) (ceilDiv l.t 32) 128 5 b.fmt (layoutCost a.layout a.c false)
  else if o = 0x26 then rows * a.w * ceilDiv (ceilDiv l.d 32) (slicesPerToken a.fmt b.fmt) * ceilDiv t.bankEntries 128
  else reduceTokens t.moon false (rows * outW) sl ch a.fmt b.fmt (layoutCost a.layout a.c false)

/-- Tokens of a post instruction: one output vector of 128 elements per token and pass (R167, R244). -/
def JobImg.postTokens (g : JobImg) (o : Nat) (i : TileInstr) (slots : Nat) : Nat :=
  let passes := if o = 0x3A then 3 else if o = 0x39 then Config.normPasses else 1
  slots * i.rows.toNat * (g.tensorOf i.dst.toNat).w * passes

/-- The token count of a tile (R267). -/
def JobImg.tileTokens (g : JobImg) (t : TileD) : Nat :=
  (t.prog.map (fun p =>
    if opMatrix p.1 then g.matrixTokens t p.1 p.2.1 g.slots else if opPost p.1 then g.postTokens p.1 p.2.1 g.slots else 0)).sum

/-- Streams that a tile reads. -/
def JobImg.tileReads (g : JobImg) (t : TileD) : List Nat :=
  t.prog.flatMap (fun p =>
    let i := p.2.1
    (if usesA p.1 then [i.srcA.toNat] else []) ++ (if usesB p.1 then [i.srcB.toNat] else [])
      ++ (if opConv p.1 ∧ i.arg1 ≠ 0 then [(g.layer i.layer.toNat).nodeStream] else []))

/-- Streams that a tile writes. -/
def JobImg.tileWrites (g : JobImg) (t : TileD) : List Nat :=
  t.prog.flatMap (fun p =>
    let i := p.2.1
    if g.usesDst p.1 i then [i.dst.toNat] else if g.isPartial p.1 i then [(g.layer i.layer.toNat).nodeStream] else [])

/-- Tile `n` writes a stream that it reads, or that another tile of its step reads or writes (R272). -/
def JobImg.hazard (g : JobImg) (t : TileD) (n : Nat) : Bool :=
  let others := ((g.stepTiles t.rank t.trigger).filter (fun p => decide (p.2 ≠ n))).flatMap (fun p => g.tileReads p.1 ++ g.tileWrites p.1)
  (g.tileWrites t).any (fun x => (g.tileReads t).contains x || others.contains x)

/-- Step 11. -/
def check11 (g : JobImg) : Option LoadErr :=
  firstErr
    [ chkEach 11 4 g.tiles (fun t => firstSt
        [need (decide (g.tileTokens t ≤ 24000)) S_TILE_TOO_LONG, need (decide (g.tileTokens t = t.tokens)) S_IMAGE_FORMAT]),
      chkEach 11 4 g.tiles.zipIdx (fun p => need (!g.hazard p.1 p.2) S_TILE_HAZARD) ]

/-! ### Step 12: tile SRAM (R161, R224) -/

/-- Rows of SRC_A that an instruction's rolling window keeps (R224, R240, R247). -/
def JobImg.winRows (g : JobImg) (o : Nat) (i : TileInstr) : Nat :=
  let l := g.layer i.layer.toNat
  if opWindow o then l.kh * l.dily + (if l.padY = 3 then l.padLoY else 0)
  else if opAttn o then l.kh
  else if o = 0x39 ∧ l.nkind = 2 then (g.tensorOf i.srcA.toNat).h
  else 1

/-- Rolling windows of a unit on a rank: layer, stream and bytes for one slot. -/
def JobImg.windows (g : JobImg) (rank unit : Nat) : List (Nat × Nat × Nat) :=
  ((g.tiles.filter (fun t => decide (t.rank = rank) && decide (t.unit = unit))).flatMap (fun t =>
    (t.prog.filter (fun p => opMatrix p.1 || opPost p.1)).map (fun p =>
      (p.2.1.layer.toNat, p.2.1.srcA.toNat, g.winRows p.1 p.2.1 * (g.stream p.2.1.srcA.toNat).rowBytes)))).eraseDups

/-- Bytes that a tile stages for one slot. -/
def JobImg.stagedBytes (g : JobImg) (t : TileD) : Nat :=
  (t.prog.map (fun p =>
    let i := p.2.1
    let n := if g.usesDst p.1 i then some i.dst.toNat else if g.isPartial p.1 i then some (g.layer i.layer.toNat).nodeStream else none
    (n.map (fun n => i.rows.toNat * (g.stream n).rowBytes)).getD 0)).sum

/-- The tile SRAM footprint F of a unit on a rank: the windows and the largest staged output, for SLOTS slots. -/
def JobImg.footprint (g : JobImg) (rank unit : Nat) : Nat :=
  let mine := g.tiles.filter (fun t => decide (t.rank = rank) && decide (t.unit = unit))
  g.slots * (((g.windows rank unit).map (fun w => w.2.2)).sum + (mine.map (fun t => g.stagedBytes t)).foldl max 0)

/-- Step 12. -/
def check12 (g : JobImg) : Option LoadErr :=
  chkEach 12 4 g.tiles (fun t => need (t.moon || decide (g.footprint t.rank t.unit ≤ 6 * 2 ^ 20)) S_SRAM_BUDGET)

/-! ### Step 13: compute terms (R276) -/

/-- Step 13. -/
def check13 (g : JobImg) : Option LoadErr :=
  let c (n : Nat) : Nat := g.compute.getD n 0
  chk ((upTo 4).all (fun n => decide (g.crit * 100000 ≤ c n * floorRate n)) && (upTo 3).all (fun n => decide (c n ≤ c (n + 1))))
    { status := S_TERM_INCONSISTENT, step := some 13 }

/-! ### Step 6: DRAM (R286) -/

/-- Units of a rank. -/
def JobImg.rankUnits (g : JobImg) (rank : Nat) : List Nat :=
  ((g.tiles.filter (fun t => decide (t.rank = rank))).map (fun t => t.unit)).eraseDups

/-- Bytes of the save area of a unit (R301). -/
def JobImg.saveSize (g : JobImg) (rank unit : Nat) : Nat := 64 + 64 * 64 + g.footprint rank unit

/-- Pages of DRAM_BYTES. -/
def JobImg.dramPages (g : JobImg) : Nat := ceilDiv g.dramBytes 65536

/-- Pages that a job takes beside its image: DRAM_BYTES and the save areas. -/
def JobImg.pagesNeeded (g : JobImg) (rank : Nat) : Nat :=
  g.dramPages + ((g.rankUnits rank).map (fun u => ceilDiv (g.saveSize rank u) 65536)).sum

/-- This module's rank in a job (R504). -/
def State.rankIn (s : State) (g : JobImg) : Nat := if g.flags / 4 % 2 = 1 then s.nodeId else 0

/-- Steps 1 to 13 in order, for the bytes of an image whose pages are allocated already. -/
def State.validate (s : State) (d : List Byte) : Option LoadErr :=
  match check1 d with
  | some e => some e
  | none =>
    let g := parseImage d
    let mem := chk ((s.allocPages (g.pagesNeeded (s.rankIn g))).isSome) { status := S_MEM_BUDGET, step := some 6 }
    firstErr [s.check2 d, s.check3 d, s.check4 d, s.check5 d, mem, check7 g d, check8 g, check9 g, check10 g, check11 g, check12 g,
      check13 g]

end Sys2Proof.Machine
end

