-- ==== Sys2Proof/Machine/Mem.lean ====
section
/-!
DEFINITION. The commands of the memory towers and of the translation units (spec/13_memory_and_translation.md,
spec/14_data_integrity.md).
-/
namespace Sys2Proof.Machine

open Sys2Proof

/-! ### Initialisation, refresh, merge buffers -/

/-- MEMORY_INIT_DONE (R383): every sector holds zeros with valid check bytes. -/
def execMemoryInitDone (s : State) : Out :=
  .next (if s.on .MEM ∧ s.bit Reg.MEM_STATUS 0 then
    let s := { s with mem := [] }
    let s := { s with memory := { s.memory with errs := [], merge := [] } }
    ((s.setBit Reg.MEM_STATUS 0 false).setBit Reg.MEM_STATUS 1 true).raise Reg.MEM_EVENT 0
  else s)

/-- Entries of a merge buffer that have stood for 256 ns. -/
def State.mergeDue (s : State) (v : Nat) : List MergeEnt := (s.mergeOf v).filter (fun e => decide (256 ≤ s.since e.at_))

/-- MERGE_TIMEOUT (R390, R392). -/
def execMergeTimeout (v : Fin 32) (s : State) : Out :=
  .next (if s.on .MEM then (s.mergeDue v).foldl (fun t e => t.retireMerge e) s else s)

/-- REFRESH_RATE_CHANGE (R387): the DRAM temperature of a tower is `degC`. -/
def execRefreshRateChange (tower : Fin 4) (degC : Int) (s : State) : Out :=
  .next (if s.on .MEM then
    let hot := decide (85 < degC)
    let t := s.wr Reg.MEM_TOWER_TEMP (BitVec.ofNat 32 (BitVec.ofInt 8 degC).toNat) tower
    if hot = s.bit Reg.MEM_STATUS (8 + tower) then t else (t.setBit Reg.MEM_STATUS (8 + tower) hot).raise Reg.MEM_EVENT 1
  else s)

/-! ### Patrol, rewrite, injection (R419 to R421, R430) -/

/-- Errors that both reads meet stand in the sector. -/
def State.hardError (s : State) (sector : Nat) (m : BitVec 36) : State :=
  if m = 0 then s
  else s.setErrs (AMap.put s.memory.errs sector { syms := s.badSyms sector ||| m, injected := s.badInjected sector })

/-- PATROL_READ (R419): the next sector is read, with the bad symbols of both reads and the corrections of the inner code
that the die reports (R409). -/
def execPatrolRead (inner : Nat) (first second : BitVec 36) (s : State) : Out :=
  .next (if s.on .MEM ∧ s.bit Reg.MEM_SCRUB_CFG 0 ∧ s.core.cp ≠ .halted then
    let pa := (s.rd64 Reg.MEM_PATROL_PTR_LO Reg.MEM_PATROL_PTR_HI).toNat
    let sector := pa / 64
    let t := (s.settleSector sector).hardError sector (first &&& second)
    let t := (t.bumpBy inner Reg.MEM_ECC_CNT (vaultOf sector) 0).countBytes 1 (vaultOf sector) 64
    let t := (t.readSector sector 2 first second).1
    t.wr64 Reg.MEM_PATROL_PTR_LO Reg.MEM_PATROL_PTR_HI (BitVec.ofNat 64 ((pa + 64) % 2 ^ 35))
  else s)

/-- The sector named in MEM_SCRUB_ADDR. -/
def State.scrubSector (s : State) : Nat := (s.rd64 Reg.MEM_SCRUB_ADDR_LO Reg.MEM_SCRUB_ADDR_HI).toNat % 2 ^ 35 / 64

/-- The record of a rewrite (R572 cause 2). -/
def rowRecord (sector symbol cls : Nat) (inj : Bool) : FaultRec :=
  { status := S_OK, block := 12, cause := 2, unit := vaultOf sector, cls := 0, injected := inj,
    action := if cls = 3 then 9 else 1, address := sector / 128 * 8192, detail := bytesLE 1 symbol ++ bytesLE 1 cls }

/-- The result of a rewrite: class and symbol (R421). -/
def State.scrubResult (s : State) (cls symbol : Nat) : State :=
  s.wr Reg.MEM_SCRUB_RESULT (BitVec.ofNat 32 (cls * 256 + symbol))

/-- A rewrite of a sector (R420, R421): bad symbols of the first and of the third read beside those stored. -/
def State.rewriteSector (s : State) (sector : Nat) (first third : BitVec 36) : State :=
  let s := s.settleSector sector
  let v := vaultOf sector
  let b1 := s.badSyms sector ||| first
  let inj := s.badInjected sector
  if popCount b1 = 0 then (s.bump Reg.MEM_ECC_CNT v 6).scrubResult 1 0x3F
  else if popCount b1 = 1 then
    let s := ((s.corrected sector (lowSymbol b1) 1).sectorStored sector).hardError sector third
    let b3 := s.badSyms sector
    if b3 = 0 then
      (((s.bump Reg.MEM_ECC_CNT v 4).noteTransient v 2).faultRetried (rowRecord sector 0x3F 2 inj)
        (s.retryClass v 2)).scrubResult 2 0x3F
    else
      let s := s.faultRetried (rowRecord sector (lowSymbol b3) 3 inj) 2
      (if inj then s else s.rowRepair (sector / 128)).scrubResult 3 (lowSymbol b3)
  else ((s.hardError sector first).readSector sector 1 first first).1.scrubResult 3 0x3F

/-- REWRITE (R420). -/
def execRewrite (w : Writer) (first third : BitVec 36) (s : State) : Out :=
  .next (s.gate w Reg.MEM_SCRUB_CMD 0 0 0 (fun s => s.rewriteSector s.scrubSector first third))

/-- A write of MEM_INJECT with ARM: the next write to the target sector is corrupted (R430). -/
def State.injectArm (s : State) : State :=
  let lanes := s.f Reg.MEM_INJECT_LANES_CHK 0 4 * 2 ^ 32 + (s.rd Reg.MEM_INJECT_LANES).toNat
  { s with memory := { s.memory with inject := some (s.scrubSector, BitVec.ofNat 36 lanes) } }

/-- INJECT_ARM (R430). -/
def execInjectArm (w : Writer) (s : State) : Out := .next (s.gate w Reg.MEM_INJECT 0 0 0 (fun s => s.injectArm))

/-! ### Translation (R400 to R405) -/

/-- The suspended transfer of engine `e` goes on (R400): the record is written again as classified, and a tile that was not
in commit replays from its first instruction. -/
def State.resumeXfer (s : State) (e : Nat) (x : XltSusp) : State :=
  let r := xltRecord e x.handle x.stream x.tile x.va x.offset x.level x.write (if x.kind = 1 then .load else .migrating)
  let s := (s.faultWrite { r with cls := s.retryClass e 5 } x.seq).noteTransient e 5
  let s := { s with memory := { s.memory with
    susp := AMap.del s.memory.susp e
    resumed := AMap.put s.memory.resumed e (x.va / 2 ^ 16) } }
  let s := s.bump Reg.XLT_CNT 4
  let g := s.engine e
  match g.tile with
  | some t =>
    if t.ended then s.setEngine e { g with tile := some { t with susp := false } }
    else
      let prog := match s.jobOf t.handle with
        | some j => ((j.img.tiles.drop t.tile).headD {}).prog
        | none => []
      ((s.engCnt e 1 1).clientCnt t.handle 7).setEngine e
        { g with tile := some { handle := t.handle, tile := t.tile, slots := t.slots, startAt := t.startAt, todo := prog } }
  | none => s

/-- A write of XLT_RESUME (R401, R402): firmware has made the page valid, or cannot. -/
def State.xltResume (s : State) (e : Nat) (fail : Bool) : State :=
  match AMap.look s.memory.susp e with
  | some x =>
    if fail then
      let r := xltRecord e x.handle x.stream x.tile x.va x.offset x.level x.write .bad
      let s := s.faultWrite r x.seq
      ((s.bump Reg.XLT_CNT 3).raise Reg.XLT_EVENT 1).faultJob x.handle S_XLT_FAULT
    else if x.kind = 1 then
      let page := match s.jobOf x.handle with
        | some j => (j.pages.drop (x.va / 65536)).headD 0
        | none => 0
      (s.mapPage x.handle (x.va / 65536) page 0 true).resumeXfer e x
    else s.bump Reg.XLT_CNT 5
  | none => s.bump Reg.XLT_CNT 5

/-- XLT_RESUME (R402). -/
def execXltResume (w : Writer) (engine : Fin 64) (s : State) : Out :=
  .next (s.gate w Reg.XLT_RESUME 0 0 0 (fun s => s.xltResume engine false))

/-- XLT_RESUME with FAIL (R402). -/
def execXltResumeFail (w : Writer) (engine : Fin 64) (s : State) : Out :=
  .next (s.gate w Reg.XLT_RESUME 0 0 0 (fun s => s.xltResume engine true))

/-- Cached translations of a job over a range of pages are removed from every unit (R405). -/
def State.dropTlb (s : State) (h first n : Nat) : State :=
  { s with memory := { s.memory with tlb := s.memory.tlb.map (fun p => (p.1, p.2.filter (fun q =>
      decide (q.1 ≠ h ∨ q.2 < first ∨ first + n ≤ q.2)))) } }

/-- A write of XLT_INVAL (R405): translations of a range of pages of a handle are dropped; PAGES 0 is treated as 1. -/
def State.xltInval (s : State) (h pages : Nat) : State :=
  let va := (s.rd64 Reg.XLT_INVAL_VA_LO Reg.XLT_INVAL_VA_HI).toNat % 2 ^ 40
  (s.dropTlb h (va / 65536) (max 1 pages)).bump Reg.XLT_CNT 6

/-- A write of XLT_INVAL with ALL (R405). -/
def State.xltInvalAll (s : State) : State := ({ s with memory := { s.memory with tlb := [] } }).bump Reg.XLT_CNT 6

/-- XLT_INVAL (R405). -/
def execXltInval (w : Writer) (handle : Fin 1024) (pages : Fin 65536) (s : State) : Out :=
  .next (s.gate w Reg.XLT_INVAL 0 0 0 (fun s => s.xltInval handle pages))

/-- XLT_INVAL with ALL (R405). -/
def execXltInvalAll (w : Writer) (s : State) : Out := .next (s.gate w Reg.XLT_INVAL 0 0 0 (fun s => s.xltInvalAll))

/-! ### Page migration (R403, R404) -/

/-- Physical address of the entry of a page: level 2 for 2 MiB, level 3 for 64 KiB; none where an upper table is not
valid. -/
def State.entryAddr (s : State) (h va : Nat) (big : Bool) : Option Nat :=
  let lo := s.rd Reg.XLT_ROOT_LO h
  let root := fld (s.rd Reg.XLT_ROOT_HI h) 0 3 * 2 ^ 32 + fld lo 13 19 * 2 ^ 13
  let e1 := natLE (s.peek (root + va / 2 ^ 30 % 1024 * 8) 8)
  let a2 := e1 % 2 ^ 35 / 2 ^ 8 * 2 ^ 8 + va / 2 ^ 21 % 512 * 8
  let e2 := natLE (s.peek a2 8)
  if !lo.getLsbD 0 ∨ e1 % 2 = 0 then none
  else if big then some a2
  else if e2 % 2 = 0 ∨ e2 / 32 % 2 = 1 then none
  else some (e2 % 2 ^ 35 / 2 ^ 8 * 2 ^ 8 + va / 2 ^ 16 % 32 * 8)

/-- Bytes of a page. -/
def pageBytes (big : Bool) : Nat := if big then 2 ^ 21 else 2 ^ 16

/-- An entry written by the migration engine: 8 bytes through the merge buffer, retired at once. -/
def State.putEntry (s : State) (a v : Nat) : State := (s.writePhys 2048 2 a (bytesLE 8 v)).settleSector (a / 64)

/-- The start of a migration (R403 steps 1 and 2). -/
def State.migStart (s : State) (h : Nat) (big : Bool) : State :=
  let va := (s.rd64 Reg.XLT_MIG_VA_LO Reg.XLT_MIG_VA_HI).toNat % 2 ^ 40 / pageBytes big * pageBytes big
  let dst := (s.rd64 Reg.XLT_MIG_DST_LO Reg.XLT_MIG_DST_HI).toNat % 2 ^ 35 / pageBytes big * pageBytes big
  if s.bit Reg.XLT_STATUS 1 then s
  else
    match s.entryAddr h va big with
    | some a =>
      let e := natLE (s.peek a 8)
      let s := (s.putEntry a (e / 16 * 16 + 8)).dropTlb h (va / 65536) (pageBytes big / 65536)
      let s := { s with memory := { s.memory with mig := some (h, va * 2 + big.toNat, dst) } }
      s.setBit Reg.XLT_STATUS 1 true
    | none => s

/-- MIGRATION_START (R403). -/
def execMigrationStart (w : Writer) (handle : Fin 1024) (big : Bool) (s : State) : Out :=
  .next (s.gate w Reg.XLT_MIG_CTRL 0 0 0 (fun s => s.migStart handle big))

/-- A page copied from `src` to `dst`; its sectors are written in full at the destination. -/
def State.copyPage (s : State) (src dst n : Nat) : State :=
  let cells := s.mem.filter (fun c => decide (src ≤ c.1 ∧ c.1 < src + n))
  let s := { s with mem := s.mem.filter (fun c => !decide (dst ≤ c.1 ∧ c.1 < dst + n)) }
  let s := s.forAll cells (fun c s => s.poke (dst + (c.1 - src)) c.2)
  s.setErrs (s.memory.errs.filter (fun e => !decide (dst / 64 ≤ e.1 ∧ e.1 < (dst + n) / 64)))

/-- Physical pages of a job after a migration. -/
def movePages (l : List Nat) (first n dst : Nat) : List Nat :=
  l.zipIdx.map (fun p => if first ≤ p.2 ∧ p.2 < first + n then dst + (p.2 - first) else p.1)

/-- The end of a migration (R403 steps 4 to 7). -/
def State.migDone (s : State) : State :=
  match s.memory.mig with
  | some (h, vb, dst) =>
    let big := decide (vb % 2 = 1)
    let va := vb / 2
    let n := pageBytes big
    match s.entryAddr h va big with
    | some a =>
      let e := natLE (s.peek a 8)
      let src := e % 2 ^ 35 / 2 ^ 8 * 2 ^ 8
      let due := (upTo 32).flatMap (fun v => (s.mergeOf v).filter (fun x => decide (src / 64 ≤ x.sector ∧ x.sector < (src + n) / 64)))
      let s := due.foldl (fun t x => t.retireMerge x) s
      let s := s.copyPage src dst n
      let s := s.putEntry a (e / 2 ^ 48 * 2 ^ 48 + dst + e / 16 % 4 * 16 + 1)
      let s := s.updJob h (fun j => { j with pages := movePages j.pages (va / 65536) (n / 65536) (dst / 65536) })
      let s := { s with memory := { s.memory with mig := none } }
      let s := ((s.setBit Reg.XLT_STATUS 1 false).raise Reg.XLT_EVENT 2).bump Reg.XLT_CNT 7
      s.memory.susp.foldl (fun t p =>
        if p.2.kind = 2 ∧ p.2.handle = h ∧ va ≤ p.2.va ∧ p.2.va < va + n then t.resumeXfer p.1 p.2 else t) s
    | none => s
  | none => s

/-- MIGRATION_DONE (R403). -/
def execMigrationDone (s : State) : Out := .next (if s.on .XLT then s.migDone else s)

end Sys2Proof.Machine
end

