-- ==== Sys2Proof/Machine/RunOps.lean ====
section
/-!
DEFINITION. Runs of jobs as the scheduler sees them (R287, R288, R312 to R315, R396, R397), budgets of slots and shares (R285),
and the control messages of split jobs (R281).
-/
namespace Sys2Proof.Machine

open Sys2Proof

/-! ### Budgets and checks on shared spires (R285, R308) -/

/-- The sum of a figure over the jobs on a unit. -/
def State.sumOn (s : State) (u : Nat) (f : Job → Nat) : Nat :=
  ((s.job.jobs.filter (fun p => p.2.units.contains u)).map (fun p => f p.2)).sum

/-- On every spire of a job the figure adds up to no more than a limit. -/
def State.spireBudget (s : State) (j : Job) (f : Job → Nat) (limit : Nat) : Bool :=
  j.units.all (fun u => decide (32 ≤ u) || decide (s.sumOn u f ≤ limit))

/-- The refusal of R285 that a job meets, if any. -/
def State.budgets (s : State) (j : Job) : Option Nat :=
  if !s.spireBudget j (fun x => x.img.slots) 64 then some S_SLOT_BUDGET
  else if !s.spireBudget j (fun x => x.share) 1024 then some S_SHARE_BUDGET else none

/-- Jobs that share a spire with job `h`, itself included. -/
def State.around (s : State) (h : Nat) : List Nat :=
  match s.jobOf h with
  | some j =>
    (s.job.jobs.filter (fun p => decide (p.1 = h) || p.2.units.any (fun u => decide (u < 32) && j.units.contains u))).map
      (fun p => p.1)
  | none => []

/-- Every job on the spires of job `h` meets the check (R308). -/
def State.aroundOk (s : State) (h : Nat) : Bool := (s.around h).all (fun k => s.jobOk k s.effOp 1)

/-! ### Start, stop, pause, resume, abort (R287, R288) -/

/-- Firmware maps the pages of a job for a run (R396, R397): all of them, or those of its header and section table; cached
translations of the job are removed first (R405). -/
def State.mapRun (s : State) (h : Nat) (j : Job) (lazy : Bool) : State :=
  let s := s.dropTlb h 0 (2 ^ 24)
  let valid := if lazy then 1 else j.pages.length
  let s := s.mapJob h j.pages valid
  let s := s.forAll (j.pages.zipIdx.filter (fun (p : Nat × Nat) => decide (p.1 = noPage))) (fun p s => s.mapPage h p.2 0 0 false)
  s.forAll j.set2Pages.zipIdx (fun p s => s.mapPage h (j.pages.length + p.2) p.1 0 true)

/-- A new run of a job. -/
def State.startRun (s : State) (h : Nat) (lazy : Bool) : State :=
  match s.jobOf h with
  | some j =>
    let n := s.job.runs + 1
    let s := ({ s with job := { s.job with runs := n } }).clearCtxs h
    let s := s.setJob h { j with st := .running, run := n, parts := 0, verdicts := 0, dropped := 0, slots := [], waited := [],
                                 lazy := lazy }
    ((s.mapRun h j lazy).syncJobs).noteElig
  | none => s

/-- No part joins any more; the run ends once its slots are FREE. -/
def State.stopRun (s : State) (h : Nat) (j : Job) : State :=
  match j.st with
  | .running => ((s.setJob h { j with st := .draining }).syncJobs.tryComplete h).noteElig
  | .pausing | .paused => s.setJob h { j with before := .draining }
  | _ => s

/-- Each context of a job saves at its next boundary (R312); a tile suspended on a translation fault is abandoned at once
(R401). -/
def State.pauseRun (s : State) (h : Nat) (j : Job) : State :=
  let s := s.setJob h { j with st := .pausing, before := j.st }
  let s := s.forAll (upTo 42) (fun e s =>
    let s := if ((s.engine e).tile.map (fun t => t.handle)) = some h then s.yieldSuspended e else s
    if (s.engine e).resident = some h then s.pauseAt e else s)
  (s.syncJobs.checkPaused h).noteElig

/-- The remembered state comes back (R312). -/
def State.resumeRun (s : State) (h : Nat) (j : Job) : State :=
  ((s.setJob h { j with st := j.before }).syncJobs.tryComplete h).noteElig

/-- A swap that waits for a boundary is made on engines that the abort has emptied. -/
def State.pendingSwaps (s : State) : State :=
  s.forAll (upTo 34) (fun e s =>
    let x := s.engine e
    if x.swapPending ∧ x.tile.isNone ∧ x.switch.isNone ∧ x.resident.isNone then s.swapAt e else s)

/-- The abort wins (R315). -/
def State.abortRun (s : State) (h : Nat) : State := ((s.endRun h .aborted S_ABORTED).pendingSwaps).noteElig

/-- The page tables, contexts, rows and pages of a job are given up (R287). -/
def State.unloadJob (s : State) (h : Nat) (j : Job) : State :=
  let s := (s.leaveEngines h).unmapJob h
  let s := s.forAll j.binds (fun b s => s.releaseRows b.2.pipe b.2.out (ringUser h b.1) (fun _ => true))
  let s := ({ s with job := { s.job with jobs := AMap.del s.job.jobs h } }).dropTlb h 0 (2 ^ 24)
  (s.syncFree.syncJobs).noteElig

/-! ### Split jobs (R281) -/

/-- The job is split over modules. -/
def Job.split (j : Job) : Bool := decide (j.img.flags / 4 % 2 = 1)

/-- What this module confirms of a split job: DIGEST, MODULES, SPIRES, JOB_ID. -/
def Job.confirm (j : Job) : List Byte := splitConfirm j.img.digest j.img.modules j.img.spires j.img.jobId.toNat

/-- A control message goes to every other rank. -/
def State.splitSend (s : State) (modules kind : Nat) (body : List Byte) : State :=
  s.forAll ((upTo modules).filter (fun n => decide (n ≠ s.nodeId)))
    (fun n s => s.fabSend 2 n (messageHeader 0 0 0 kind 0 body.length ++ body))

/-- A control message about a split job goes to every other rank. -/
def State.splitTell (s : State) (j : Job) (kind : Nat) : State := if j.split then s.splitSend j.img.modules kind j.confirm else s

/-- What the other ranks have confirmed of a job: all the same, not all yet, or something that differs. -/
inductive Agree where
  | same | missing | differs
  deriving DecidableEq, Repr

/-- The answer of one rank. -/
def State.agreeWith (s : State) (j : Job) (n : Nat) : Agree :=
  match AMap.look s.fab.confirms (16 * j.img.jobId.toNat + n) with
  | some l => if messageKind l ≠ 0 then .missing else if splitBody l = j.confirm then .same else .differs
  | none => .missing

/-- The answers of all other ranks together. -/
def State.agreed (s : State) (j : Job) : Agree :=
  if !j.split then .same
  else
    let l := ((upTo j.img.modules).filter (fun n => decide (n ≠ s.nodeId))).map (fun n => s.agreeWith j n)
    if l.contains .differs then .differs else if l.contains .missing then .missing else .same

/-- A start or an abort that another rank sends: the job of the same content starts where it can, or its run ends. -/
def State.splitTake (s : State) (l : List Byte) : State :=
  match s.job.jobs.find? (fun p => p.2.split && decide (p.2.confirm = splitBody l)) with
  | some (h, j) =>
    if messageKind l = 2 then
      if !j.st.inRun ∧ s.agreed j = .same ∧ s.aroundOk h then s.startRun h false else s
    else if messageKind l = 3 then (if j.st.inRun then s.abortRun h else s)
    else s
  | none => s

/-- The control messages that have arrived are served (R281, R503). -/
def State.splitServe (s : State) : State :=
  let l := s.fab.inbox.filter (fun m => decide (m.1 = 2))
  if l = [] then s
  else
    let s := { s with fab := { s.fab with inbox := s.fab.inbox.filter (fun m => decide (m.1 ≠ 2)) } }
    s.forAll l (fun m s => s.splitTake m.2.2)

end Sys2Proof.Machine
end

