-- ==== Sys2Proof/Machine/Load.lean ====
section
/-!
DEFINITION. The load commands (spec/16_host_link_and_mailboxes.md, R462, R463, R474; spec/09_tile_programs_and_jobs.md, R277 to
R286; spec/10_scheduling_and_preemption.md, R309).
-/
namespace Sys2Proof.Machine

open Sys2Proof

/-! ### LOAD_BEGIN (R462) -/

/-- A staging buffer of `n` bytes is opened in place of any that has not been consumed. -/
def State.openStaging (s : State) (m n : Nat) : State :=
  let freed := { s with host := { s.host with staging := none }, memory := { s.memory with stagingPages := [] } }
  match freed.allocPages (ceilDiv n 65536) with
  | some l =>
    let s := { freed with host := { freed.host with staging := some { size := n, data := [] } }
                          memory := { freed.memory with stagingPages := l } }
    ((s.wr64 Reg.F1_BULK_COUNT_LO Reg.F1_BULK_COUNT_HI 0).syncFree).answer m S_OK
  | none => s.answer m S_MEM_BUDGET

/-- LOAD_BEGIN (R462, R473). -/
def execLoadBegin (m : Fin 16) (s : State) : Out :=
  .next (s.command m 0x20 (some 8) true (fun s => s.fields m (decide (s.arg m 0 8 ≤ 2 ^ 33)) (fun s => s.openStaging m (s.arg m 0 8))))

/-! ### LOAD_JOB (R282 to R286) -/

/-- A refused load: DETAIL0 holds the step and the section TYPE, DETAIL1 the entry index (R473); what the spec names none of is
open. -/
def State.loadRefused (s : State) (m : Nat) (e : LoadErr) : State :=
  let a := s.draw
  let b := a.2.draw
  let d0 := e.step.getD (a.1.toNat % 256) % 256 + e.sect.getD (a.1.toNat / 65536) % 65536 * 65536
  b.2.answer m e.status [] d0 (e.entry.getD b.1.toNat)

/-- Bytes of the buffer of a stream: a ring for each slot. -/
def bufferBytes (slots : Nat) (d : StreamD) : Nat := slots * d.ringRows * d.rowStride

/-- The buffers of KIND 3 and 4 take their places behind one another (R262). -/
def placeBuffers (slots : Nat) : Nat → List StreamD → List StreamD
  | _, [] => []
  | at_, d :: t =>
    if d.kind = 3 ∨ d.kind = 4 then { d with base := at_ } :: placeBuffers slots (at_ + bufferBytes slots d) t
    else d :: placeBuffers slots at_ t

/-- Pages shared out to the save areas of units. -/
def giveSaves (size : Nat → Nat) : List Nat → List Nat → AMap (List Nat)
  | [], _ => []
  | u :: t, l => AMap.put (giveSaves size t (l.drop (ceilDiv (size u) 65536))) u (l.take (ceilDiv (size u) 65536))

/-- The job of a valid image: its parameters from the command in mailbox `m`, the pages of the staging buffer and those
given. -/
def State.newJob (s : State) (m : Nat) (d : List Byte) (more : List Nat) : Job :=
  let g := parseImage d
  let g := { g with streams := placeBuffers g.slots 0 g.streams }
  let rank := s.rankIn g
  let us := g.rankUnits rank
  { img := g, prio := s.arg m 0 1, client := s.arg m 2 2, complQ := s.arg m 4 2, share := s.arg m 6 2, op := s.effOp,
    rank := rank, pages := s.memory.stagingPages ++ more.take g.dramPages,
    saves := giveSaves (g.saveSize rank) us (more.drop g.dramPages),
    foot := us.foldl (fun f u => AMap.store f 0 u (g.footprint rank u)) [] }

/-- The lowest free handle, 1 to 1,023. -/
def State.freeHandle (s : State) : Nat := ((upTo 1024).find? (fun h => decide (h ≠ 0) && (s.jobOf h).isNone)).getD 1

/-- The state with job `j` accepted under handle `h` (R282, R463): the staging buffer is its image. -/
def State.withNewJob (s : State) (h : Nat) (j : Job) (d : List Byte) : State :=
  let s := (s.takeStaging.setJob h j).syncFree
  s.fwWrite j.pages (d.length / 65536 + 2) 0 d

/-- A split image is refused: the other ranks hear of it (R281). -/
def State.splitRefused (s : State) (d : List Byte) : State :=
  if imgSplit d then s.splitSend (imgModules d) 1 (splitConfirm (imgDigest d) (imgModules d) (imgSpires d) (imgJobId d)) else s

/-- Validation of the staged image (R283), the budgets of R285, step 14, and the new job's reply. -/
def State.loadImage (s : State) (m : Nat) (d : List Byte) : State :=
  let no (e : LoadErr) : State :=
    let t := s.takeStaging
    (if 5 ≤ e.step.getD 5 then t.splitRefused d else t).loadRefused m e
  match s.validate d with
  | some e => no e
  | none =>
    let g := parseImage d
    let j := s.newJob m d ((s.allocPages (g.pagesNeeded (s.rankIn g))).getD [])
    let h := s.freeHandle
    let t := s.withNewJob h j d
    match t.budgets j with
    | some st => no { status := st }
    | none =>
      if !t.aroundOk h then no { status := S_DEADLINE_INFEASIBLE, step := some 14 }
      else (((t.splitTell j 0).syncJobs).noteElig).answer m S_OK (bytesLE 2 h)

/-- The completion queue is an enabled RECORD queue that the host consumes. -/
def State.complQOk (s : State) (q : Nat) : Bool := decide (q < 16384) && s.qOn q && !s.qPacket q && decide (s.qCons q = 2)

/-- LOAD_JOB (R283, R463, R473, R474). -/
def execLoadJob (m : Fin 16) (s : State) : Out :=
  .next (s.command m 0x21 (some 16) true (fun s =>
    let ok := decide (s.arg m 0 1 ≤ 15) && decide (s.arg m 1 1 = 0) && decide (s.arg m 2 2 ≤ 63) && within 1 1024 (s.arg m 6 2)
      && decide (s.arg m 8 8 = 0)
    s.fields m ok (fun s =>
      match s.host.staging with
      | some g =>
        if !g.full then s.loadRefused m { status := S_LOAD_INCOMPLETE }
        else if 64 ≤ s.job.jobs.length then s.loadRefused m { status := S_JOB_LIMIT }
        else if !s.complQOk (s.arg m 4 2) then s.loadRefused m { status := S_QUEUE_ACCESS }
        else s.loadImage m g.data
      | none => s.loadRefused m { status := S_LOAD_INCOMPLETE })))

/-! ### LOAD_WEIGHT_SET (R309) -/

/-- Bytes of a job's address space as firmware reads them, page by page; a page that has been given back reads as zeros. None
where a sector is uncorrectable. -/
def State.fwRead (s : State) (pages : List Nat) : Nat → Nat → Nat → State × Option (List Byte)
  | 0, _, _ => (s, some [])
  | fuel + 1, va, n =>
    if n = 0 then (s, some [])
    else
      let off := va % 65536
      let k := min n (65536 - off)
      let p := (pages.drop (va / 65536)).headD noPage
      let r := if p = noPage then (s, some (List.replicate k 0)) else s.readPhys 1026 (p * 65536 + off) k
      match r with
      | (s1, some l) =>
        match s1.fwRead pages fuel (va + k) (n - k) with
        | (s2, some t) => (s2, some (l ++ t))
        | r => r
      | r => r

/-- The image of a weight set differs from the loaded image outside its WEIGHTS, QPARAMS, BIAS_MULT and SIGNATURE sections
(R309). -/
def setDiffers (old new_ : List Byte) : Bool :=
  let own := (imgSects new_).filter (fun x => [5, 6, 7, 15].contains x.typ)
  decide (old.length ≠ new_.length) || (old.zip new_).zipIdx.any (fun p => decide (p.1.1 ≠ p.1.2) &&
    (decide (p.2 < imgFront new_) || !own.any (fun x => decide (x.off ≤ p.2) && decide (p.2 < x.off + x.bytes))))

/-- The second set of a job, in the pages of the staging buffer. -/
def State.acceptSet (s : State) (m h : Nat) (j : Job) (d : List Byte) : State :=
  let pages := s.memory.stagingPages
  let j' := { j with set2 := some (parseImage d), set2Pages := pages, nextSet := 1 - j.nextSet }
  let s := (s.takeStaging.setJob h j').syncFree
  let s := s.fwWrite pages (d.length / 65536 + 2) 0 d
  let s := if (s.rd Reg.XLT_ROOT_LO h).getLsbD 0 then
      s.forAll pages.zipIdx (fun p s => s.mapPage h (j.pages.length + p.2) p.1 0 true)
    else s
  s.answer m S_OK (bytesLE 1 j.nextSet)

/-- The staged image as a second weight set (R259, R309, R597). -/
def State.loadSet (s : State) (m h : Nat) (j : Job) (d : List Byte) : State :=
  match s.fwRead j.pages (j.img.imageBytes / 65536 + 2) 0 j.img.imageBytes with
  | (s1, some old) =>
    if setDiffers old d then s1.takeStaging.answer m S_WEIGHT_SET_MISMATCH
    else
      match s1.check3 d with
      | some e => s1.takeStaging.answer m e.status
      | none => s1.acceptSet m h j d
  | (s1, none) => s1.takeStaging.answer m S_UNCORRECTABLE

/-- LOAD_WEIGHT_SET (R309, R463). -/
def execLoadWeightSet (m : Fin 16) (s : State) : Out :=
  .next (s.command m 0x22 (some 4) true (fun s =>
    s.fields m (decide (s.arg m 2 2 = 0)) (fun s =>
      s.withJob m (fun h j s =>
        match s.host.staging with
        | some g =>
          if !g.full then s.answer m S_LOAD_INCOMPLETE
          else if j.set2.isSome then s.answer m S_BUSY
          else s.loadSet m h j g.data
        | none => s.answer m S_LOAD_INCOMPLETE))))

end Sys2Proof.Machine
end

