-- ==== Sys2Proof/Machine/JobCmds.lean ====
section
/-!
DEFINITION. The commands on loaded jobs (spec/16_host_link_and_mailboxes.md, R473; spec/10_scheduling_and_preemption.md, R284 to
R288, R308 to R315; spec/07_quantisation.md, R219 to R221; spec/08_operators.md, R248).
-/
namespace Sys2Proof.Machine

open Sys2Proof

/-! ### BIND_INPUT (R263, R277) -/

/-- An input of a job bound to an output unit for the line lanes of a mask. -/
def State.bindInput (s : State) (h : Nat) (j : Job) (input : Nat) (b : Binding) : State :=
  let s := match AMap.look j.binds input with
    | some old => if old.pipe = b.pipe ∧ old.out = b.out then s else s.releaseRows old.pipe old.out (ringUser h input) (fun _ => true)
    | none => s
  s.setJob h { j with binds := AMap.put j.binds input b }

/-- BIND_INPUT (R277, R473). -/
def execBindInput (m : Fin 16) (s : State) : Out :=
  .next (s.command m 0x23 (some 12) true (fun s =>
    let input := s.arg m 2 1
    let b : Binding := { pipe := s.arg m 3 1, out := s.arg m 4 1, lanes := BitVec.ofNat 32 (s.arg m 8 4) }
    s.fields m (decide (input ≤ 15) && decide (b.pipe ≤ 7) && decide (b.out ≤ 3) && decide (s.arg m 5 3 = 0)) (fun s =>
      s.withJob m (fun h j s =>
        if !j.img.inputs.any (fun i => decide (i.input = input)) then s.answer m S_BAD_FIELD
        else
          let t := s.bindInput h j input b
          if t.jobOk h t.effOp 1 ∧ s.keepsJobs t then t.noteElig.answer m S_OK else s.answer m S_DEADLINE_INFEASIBLE))))

/-! ### START to UNLOAD (R287, R288) -/

/-- A command on the job of its first field, with 4 bytes of payload of which the last two are reserved. -/
def State.jobCommand (s : State) (m op : Nat) (f : Nat → Job → State → State) : State :=
  s.command m op (some 4) true (fun s => s.fields m (decide (s.arg m 2 2 = 0)) (fun s => s.withJob m f))

/-- START of a job (R281, R287, R308): its checks, then the new run. -/
def State.startJob (s : State) (m h : Nat) (j : Job) (lazy : Bool) : State :=
  if s.power ≠ 0 then s.answer m S_POWER_STATE
  else if j.st.inRun then s.answer m S_JOB_STATE
  else
    match s.agreed j with
    | .differs => s.answer m S_SPLIT_MISMATCH
    | .missing => s.answer m S_JOB_STATE
    | .same =>
      if !s.aroundOk h then s.answer m S_DEADLINE_INFEASIBLE
      else
        let s := (s.startRun h lazy).splitTell j 2
        s.answer m S_OK (bytesLE 4 s.job.runs)

/-- START (R287, R396). -/
def execStart (m : Fin 16) (s : State) : Out :=
  .next (s.command m 0x24 (some 4) (!decide (s.arg m 2 1 % 2 = 1)) (fun s =>
    s.fields m (decide (s.arg m 2 2 = 0)) (fun s => s.withJob m (fun h j s => s.startJob m h j false))))

/-- The job serves an enabled line lane. -/
def State.onEnabledLane (s : State) (j : Job) : Bool := j.lanes.any (fun l => s.bit Reg.WT_LANE_CFG 0 l)

/-- START with LAZY (R397). -/
def execStartLazy (m : Fin 16) (s : State) : Out :=
  .next (s.command m 0x24 (some 4) (decide (s.arg m 2 1 % 2 = 1)) (fun s =>
    s.fields m (decide (s.arg m 2 2 = 1)) (fun s =>
      s.withJob m (fun h j s => if s.onEnabledLane j then s.answer m S_JOB_STATE else s.startJob m h j true))))

/-- STOP (R287, R288). -/
def execStop (m : Fin 16) (s : State) : Out :=
  .next (s.jobCommand m 0x25 (fun h j s => if j.st.inRun then (s.stopRun h j).answer m S_OK else s.answer m S_JOB_STATE))

/-- PAUSE (R288, R312). -/
def execPause (m : Fin 16) (s : State) : Out :=
  .next (s.jobCommand m 0x26 (fun h j s =>
    if j.st.active then (s.pauseRun h j).answer m S_OK
    else s.answer m (if j.st.inRun then S_OK else S_JOB_STATE)))

/-- RESUME (R288, R312, R553). -/
def execResume (m : Fin 16) (s : State) : Out :=
  .next (s.jobCommand m 0x27 (fun h j s =>
    if s.power ≠ 0 then s.answer m S_POWER_STATE
    else if j.st = .paused then (s.resumeRun h j).answer m S_OK
    else s.answer m (if j.st.active then S_OK else S_JOB_STATE)))

/-- ABORT (R314, R315): after the completion record it comes too late. -/
def execAbort (m : Fin 16) (s : State) : Out :=
  .next (s.jobCommand m 0x28 (fun h j s =>
    if j.st.inRun then ((s.abortRun h).splitTell j 3).answer m S_OK
    else s.answer m (if j.st = .loaded then S_JOB_STATE else S_ALREADY_COMPLETE)))

/-- UNLOAD (R287). -/
def execUnload (m : Fin 16) (s : State) : Out :=
  .next (s.jobCommand m 0x29 (fun h j s => if j.st.inRun then s.answer m S_JOB_STATE else (s.unloadJob h j).answer m S_OK))

/-! ### SET_PRIORITY (R284, R285, R308) -/

/-- SET_PRIORITY (R284). -/
def execSetPriority (m : Fin 16) (s : State) : Out :=
  .next (s.command m 0x2A (some 8) true (fun s =>
    let prio := s.arg m 2 1
    let client := s.arg m 4 2
    let share := s.arg m 6 2
    s.fields m (decide (prio ≤ 15) && decide (s.arg m 3 1 = 0) && decide (client ≤ 63) && within 1 1024 share) (fun s =>
      s.withJob m (fun h j s =>
        let j' := { j with prio := prio, client := client, share := share }
        let t := s.setJob h j'
        match t.budgets j' with
        | some st => s.answer m st
        | none => if t.aroundOk h then (t.syncJobs.noteElig).answer m S_OK else s.answer m S_DEADLINE_INFEASIBLE))))

/-! ### SWITCH_WEIGHTS (R310, R311) -/

/-- Lanes of a mask. -/
def maskLanes (w : Nat) : List Nat := (upTo 32).filter (fun l => w.testBit l)

/-- The switch positions of a SWITCH_WEIGHTS: one for each bit of the mask, lowest lane first. -/
def State.switchArgs (s : State) (m : Nat) : AMap DWord :=
  (maskLanes (s.arg m 4 4)).zipIdx.map (fun p => (p.1, BitVec.ofNat 64 (s.arg m (8 + 8 * p.2) 8)))

/-- A switch position that has been passed applies from the next comet (R310). -/
def State.switchFrom (s : State) (lane : Nat) (x : DWord) : DWord :=
  match (s.det lane).high with
  | some hw => if posDiff x hw ≤ 0 then posWord (hw.toInt + 1) else x
  | none => x

/-- Steps 3 and 8 of R283 over the second set, then the switch positions (R310). -/
def State.switchSet (s : State) (m h : Nat) (j : Job) (g : JobImg) (at_ : AMap DWord) : State :=
  match s.fwRead j.set2Pages (g.imageBytes / 65536 + 2) 0 g.imageBytes with
  | (s1, some d) =>
    match firstErr [s1.check3 d, check8 g] with
    | some e => s1.answer m e.status
    | none =>
      let s1 := s1.setJob h { j with switch := at_.map (fun p => (p.1, s1.switchFrom p.1 p.2)) }
      (s1.freeOldSet h).noteElig.answer m S_OK
  | (s1, none) => s1.answer m S_UNCORRECTABLE

/-- SWITCH_WEIGHTS (R310, R311). -/
def execSwitchWeights (m : Fin 16) (s : State) : Out :=
  .next (s.command m 0x2B none true (fun s =>
    let lanes := maskLanes (s.arg m 4 4)
    if s.cmdLen m ≠ 8 + 8 * lanes.length then s.answer m S_BAD_LENGTH
    else s.fields m (decide (s.arg m 2 1 ≤ 1) && decide (s.arg m 3 1 = 0)) (fun s =>
      s.withJob m (fun h j s =>
        match j.set2 with
        | some g =>
          if s.arg m 2 1 ≠ 1 - j.nextSet ∨ lanes ≠ j.lanes then s.answer m S_BAD_FIELD
          else if j.switch ≠ [] then s.answer m S_BUSY
          else if !s.jobOk h s.effOp 2 then s.answer m S_DEADLINE_INFEASIBLE
          else s.switchSet m h j g (s.switchArgs m)
        | none => s.answer m S_BAD_FIELD))))

/-! ### CALIBRATE (R219 to R221) -/

/-- A range of a job's address space lies in pages that it holds. -/
def Job.holds (j : Job) (va n : Nat) : Bool :=
  decide (va + n ≤ j.pages.length * 65536) &&
    (upTo (ceilDiv (va % 65536 + n) 65536)).all (fun i => decide ((j.pages.drop (va / 65536 + i)).headD noPage ≠ noPage))

/-- Records calibrated one after another; the number of entries with status S_OK, none where a record cannot be read. -/
def State.calibrateAll (s : State) (j : Job) (typ : Nat) (sym : Bool) : Nat → Nat → Nat → State × Option Nat
  | 0, _, _ => (s, some 0)
  | n + 1, src, dst =>
    match s.fwRead j.pages 3 src 64 with
    | (s1, some b) =>
      let e := calibrateEntry typ sym (StatRec.parse b)
      match (s1.fwWrite j.pages 3 dst e).calibrateAll j typ sym n (src + 64) (dst + 32) with
      | (s2, some k) => (s2, some (k + if natLE ((e.drop 28).take 2) = S_OK then 1 else 0))
      | r => r
    | (s1, none) => (s1, none)

/-- CALIBRATE (R219 to R221, R473). -/
def execCalibrate (m : Fin 16) (s : State) : Out :=
  .next (s.command m 0x2C (some 24) true (fun s =>
    let n := s.arg m 4 4
    let src := s.arg m 8 8
    let dst := s.arg m 16 8
    s.fields m (decide (s.arg m 2 1 ≤ 4) && decide (s.arg m 3 1 ≤ 1)) (fun s =>
      s.withJob m (fun _ j s =>
        if src % 64 ≠ 0 ∨ !j.holds src (64 * n) ∨ !j.holds dst (32 * n) then s.answer m S_BAD_FIELD
        else
          match s.calibrateAll j (s.arg m 2 1) (decide (s.arg m 3 1 = 1)) n src dst with
          | (s1, some k) => s1.answer m S_OK (bytesLE 4 k)
          | (s1, none) => s1.answer m S_UNCORRECTABLE))))

/-! ### BANK_PREPARE (R248) -/

/-- The squared norm of an entry of a bank. -/
def bankNorm (fmt d : Nat) (b : List Byte) : Word :=
  (dotElems .rne ((List.range d).map (fun k => (({ fmt := fmt, code := codeAt fmt b k } : Elem), ({ fmt := fmt, code := codeAt fmt b k } : Elem))))).1

/-- The norms of `n` entries, from entry `i` on, written behind the entries; false where an entry cannot be read. -/
def State.bankNorms (s : State) (j : Job) (stream d : Nat) : Nat → Nat → State × Bool
  | 0, _ => (s, true)
  | n + 1, i =>
    let x := j.img.stream stream
    let ten := j.img.tensorOf stream
    match s.fwRead j.pages (x.rowStride / 65536 + 2) (x.base + i * x.rowStride) x.rowStride with
    | (s1, some b) =>
      (s1.fwWrite j.pages 3 (x.base + ten.w * ten.h * x.rowStride + 4 * i) (bytesLE 4 (bankNorm ten.fmt d b).toNat)).bankNorms
        j stream d n (i + 1)
    | (s1, none) => (s1, false)

/-- Banks of a layer's distance instructions on this module. -/
def Job.banksOf (j : Job) (layer : Nat) : List Nat :=
  ((j.ownTiles.flatMap (fun t => (t.1.prog.filter (fun p => decide (p.1 = 0x26) && decide (p.2.1.layer.toNat = layer))).map
    (fun p => p.2.1.srcB.toNat)))).eraseDups

/-- Every bank of a list. -/
def State.prepareBanks (s : State) (j : Job) (d : Nat) : List Nat → State × Bool
  | [] => (s, true)
  | b :: t =>
    let ten := j.img.tensorOf b
    match s.bankNorms j b d (ten.w * ten.h) 0 with
    | (s1, true) => s1.prepareBanks j d t
    | r => r

/-- BANK_PREPARE (R248, R473). -/
def execBankPrepare (m : Fin 16) (s : State) : Out :=
  .next (s.command m 0x2D (some 4) true (fun s =>
    s.withJob m (fun _ j s =>
      let n := s.arg m 2 2
      let l := j.banksOf n
      if l = [] then s.answer m S_BAD_FIELD
      else
        match s.prepareBanks j (j.img.layer n).d l with
        | (s1, true) => s1.answer m S_OK
        | (s1, false) => s1.answer m S_UNCORRECTABLE)))

end Sys2Proof.Machine
end

