-- ==== Sys2Proof/Machine/WtOps.lean ====
section
/-!
DEFINITION. The operations of the watchtower (spec/11_comets_verdicts_ejection.md): detection, comet records, verdicts,
commit, and the ejections of local and remote groups. Each acts at the start of a 5 ns cycle of domain 16.
-/
namespace Sys2Proof.Machine

open Sys2Proof

/-- A cycle of domain 16 starts now and the watchtower is on (R323, R519). -/
def State.wtCycleNow (s : State) : Bool := s.on .WT && decide (s.raw.toNat % 5 = 0)

/-- Detection runs on line lane `l` (R337). -/
def State.laneOn (s : State) (l : Nat) : Bool := s.on .WT && s.bit Reg.WT_CTRL 0 && s.bit Reg.WT_LANE_CFG 0 l
/-- SRC of a lane: 0 INPUT, 1 WINDOW, 2 IMAGE. -/
def State.laneSrc (s : State) (l : Nat) : Nat := s.f Reg.WT_LANE_CFG 4 2 l
/-- The encoder channel of a lane. -/
def State.laneEnc (s : State) (l : Nat) : Nat := s.f Reg.WT_LANE_CFG 8 2 l
/-- The measured position of a lane's channel. -/
def State.lanePos (s : State) (l : Nat) : DWord := (s.enc (s.laneEnc l)).pos
/-- DET_OFFSET of a lane. -/
def State.detOffset (s : State) (l : Nat) : Int := (s.rd Reg.WT_DET_OFFSET l).toInt
/-- A position moved by a signed distance. -/
def posAdd (p : DWord) (d : Int) : DWord := posWord (p.toInt + d)
/-- Position `p` is at or past position `x`. -/
def reached (p x : DWord) : Bool := decide (0 ≤ posDiff p x)
/-- The condition of R327 holds now on a lane: position unknown, or reverse. -/
def State.laneSpoilt (s : State) (l : Nat) : Bool :=
  s.bit Reg.ENC_STATUS 0 (s.laneEnc l) || s.bit Reg.ENC_STATUS 3 (s.laneEnc l)

/-- IN_FLIGHT follows the table. -/
def State.wtCount (s : State) : State := s.setF Reg.WT_STATUS 0 17 s.wt.comets.length

/-- The lowest free entry of the table. -/
def lowestFree : Nat → AMap Comet → Nat
  | n, [] => n
  | n, (k, _) :: t => if k = n then lowestFree (n + 1) t else n

/-- A class lies in the eject mask of a lane (R335). -/
def State.inEjectMask (s : State) (l : Nat) (cls : Byte) : Bool :=
  s.bit Reg.WT_EJECT_MASK (cls.toNat % 32) l (cls.toNat / 32)

/-! ### Detection (R324 to R328, R647) -/

/-- A comet is created on lane `l` with its leading edge (R324, R337). -/
def State.createComet (s : State) (l : Nat) (lead : DWord) (tainted : Bool) : State :=
  let i := lowestFree 0 s.wt.comets
  let n := s.laneEnc l
  let seq := match AMap.look s.wt.seqs i with
    | some q => q + 1
    | none => 0
  let c : Comet :=
    { seq := seq, st := .opened, lane := l, src := s.laneSrc l, enc := n,
      flags := if s.bit Reg.ENC_STATUS 4 n then 64 else 0, lead := lead,
      commitOfs := s.rd Reg.WT_COMMIT_LEAD l, ejectOfs := s.rd Reg.WT_EJECT_OFS l, ejectExt := s.rd Reg.WT_EJECT_EXT l,
      winPre := s.rd Reg.WT_WIN_PRE l, winPost := s.rd Reg.WT_WIN_POST l, group := s.f Reg.WT_LANE_CFG 20 4 l,
      tCreate := s.now }
  let s := (s.setComet i c).setDet l { s.det l with comet := some i, done := true, high := some lead, tainted := tainted }
  (({ s with wt := { s.wt with seqs := AMap.put s.wt.seqs i seq } }).bump Reg.WT_CNT 0).wtCount.cometStored i

/-- LEAD lies at or below the high-water mark of the lane. -/
def State.belowMark (s : State) (l : Nat) (lead : DWord) : Bool :=
  match (s.det l).high with
  | some h => decide (posDiff lead h ≤ 0)
  | none => false

/-- A detection reaches its creation point: a comet, or a suppressed detection (R327), or a full table (R328). -/
def State.detect (s : State) (l : Nat) (lead : DWord) (tainted : Bool) : State :=
  if tainted || s.laneSpoilt l || s.belowMark l lead then
    (s.setDet l { s.det l with done := true }).bump Reg.WT_CNT 2
  else if 65536 ≤ s.wt.comets.length then
    ((s.setDet l { s.det l with done := true }).raise Reg.WT_EVENT 2).bump Reg.WT_CNT 3
  else s.createComet l lead tainted

/-- TRAIL of a comet is set: an OPEN comet is CLOSED, with its EJECT_LEN (R330, R339). -/
def State.closeComet (s : State) (i : Nat) (trail : DWord) (flags : Word) : State :=
  match s.comet i with
  | some c =>
    if c.trailIn then s else
    s.setComet i { c with trail := trail, trailIn := true, flags := c.flags ||| flags,
                          ejectLen := BitVec.ofInt 32 (posDiff trail c.lead + c.ejectExt.toNat),
                          st := if c.st = .opened then .closed else c.st }
  | none => s

/-- The detection under way on lane `l` closes its comet. -/
def State.closeDet (s : State) (l : Nat) (trail : DWord) (flags : Word) : State :=
  match (s.det l).comet with
  | some i => s.closeComet i trail flags
  | none => s

/-- The detector of lane `l` is idle again; the high-water mark and the cycle position stay. -/
def State.detIdle (s : State) (l : Nat) : State :=
  s.setDet l { high := (s.det l).high, lastPos := (s.det l).lastPos }

/-- An INPUT lane whose part has run MIN_LEN past its leading edge (R324). -/
def State.inputCreate (s : State) (l : Nat) : State :=
  let d := s.det l
  match d.lead with
  | some lead =>
    if !d.done && reached (s.lanePos l) (posAdd lead (s.detOffset l + (s.rd Reg.WT_MIN_LEN l).toNat)) then
      s.detect l lead d.tainted else s
  | none => s

/-- The grid points of a WINDOW lane passed since the last cycle, each a detection (R647). -/
def State.windowPoints (s : State) (l : Nat) (first : Int) : Nat → State
  | 0 => s
  | n + 1 =>
    let s := s.windowPoints l first n
    let g := posWord (first + n * (s.rd Reg.WT_GRID_PITCH l).toNat)
    let s := s.setDet l { s.det l with comet := none }
    let s := s.detect l g false
    s.closeDet l (posAdd g (s.rd Reg.WT_MAX_LEN l).toNat) 0

/-- One cycle of a WINDOW lane: the grid points in the step from the last position, a point stood on at the first cycle
included. -/
def State.windowCycle (s : State) (l : Nat) : State :=
  let p := s.lanePos l
  let pitch := (s.rd Reg.WT_GRID_PITCH l).toNat
  let phase := (s.rd Reg.WT_GRID_PHASE l).toNat
  let last : Int := ((s.det l).lastPos.map (fun q => q.toInt)).getD (p.toInt - 1)
  let g0 := gridBelow pitch phase last
  let g1 := gridBelow pitch phase (last + posDiff p (posWord last))
  let n := if pitch = 0 then 0 else ((g1 - g0) / pitch).toNat
  let s := s.windowPoints l (g0 + pitch) n
  s.setDet l { s.det l with lastPos := some p, comet := none, done := false }

/-- The creation point of a detection on lane `l` is judged in this cycle. -/
def State.laneCreate (s : State) (l : Nat) : State :=
  if !s.laneOn l then s
  else if s.laneSrc l = 0 then s.inputCreate l
  else if s.laneSrc l = 1 then s.windowCycle l
  else s

/-- A part that has run MAX_LEN without its trailing edge (R326), `p` in the reference frame. -/
def State.runOver (s : State) (l : Nat) (p : DWord) : State :=
  let d := s.det l
  match d.lead with
  | some lead =>
    let t := posAdd lead (s.rd Reg.WT_MAX_LEN l).toNat
    if !d.forced && reached p t then
      let s := s.closeDet l t 512
      s.setDet l { s.det l with forced := true, done := true, trail := some t }
    else s
  | none => s

/-- The part under the detector of a lane has its comet: it is followed to its trailing edge even when detection has been
turned off (R337). -/
def State.laneOpenPart (s : State) (l : Nat) : Bool := s.on .WT && (s.det l).comet.isSome

/-- The OVERLENGTH rule in this cycle: of an INPUT lane, and of an IMAGE lane that was turned off with a comet whose end has
not come, which sees no more rows. -/
def State.laneOverlength (s : State) (l : Nat) : State :=
  if (s.laneOn l ∨ s.laneOpenPart l) ∧ s.laneSrc l = 0 then s.runOver l (posAdd (s.lanePos l) (-(s.detOffset l)))
  else if !s.laneOn l ∧ s.laneOpenPart l ∧ s.laneSrc l = 2 then s.runOver l (s.lanePos l)
  else s

/-- An accepted edge of the input of an INPUT lane: `leading` is the edge chosen by EDGE (R324). -/
def State.inputEdge (s : State) (l : Nat) (leading : Bool) : State :=
  let lead := posAdd (s.lanePos l) (-(s.detOffset l))
  if leading then
    s.setDet l { s.det l with lead := some lead, trail := none, tainted := s.laneSpoilt l, comet := none,
                              done := false, forced := false }
  else
    let s := s.inputCreate l
    let d := s.det l
    let s := match d.lead with
      | some first =>
        if d.comet.isSome then s.closeDet l lead 0
        else if !d.done && decide (posDiff lead first < (s.rd Reg.WT_MIN_LEN l).toNat) then s.bump Reg.WT_CNT 1
        else s
      | none => s
    s.detIdle l

/-- The level after INVERT of input `n` has changed: every INPUT lane of the input sees its edge (R324). -/
def State.inputLanes (s : State) (n : Nat) (level : Bool) : State :=
  s.forAll (upTo 32) (fun l s =>
    let leading := level != s.bit Reg.WT_LANE_CFG 17 l
    if (s.laneOn l ∨ (!leading ∧ s.laneOpenPart l)) ∧ s.laneSrc l = 0 ∧ s.f Reg.WT_LANE_CFG 12 5 l = n then
      s.inputEdge l leading else s)

/-- The detector of a lane whose detection has been turned on or off: idle, but for a part that has its comet (R337). -/
def State.laneSwitched (s : State) (l : Nat) : State :=
  if (s.det l).comet.isSome then s else s.setDet l { high := (s.det l).high }

/-- The row is occupied (R325): `pix` holds the first component of each pixel. -/
def State.rowOccupied (s : State) (l : Nat) (pix : List Nat) : Bool :=
  let x0 := s.f Reg.WT_IMG_BAND 0 16 l
  let x1 := s.f Reg.WT_IMG_BAND 16 16 l
  let th := s.f Reg.WT_IMG_CFG 16 16 l
  let below := s.bit Reg.WT_IMG_CFG 15 l
  let n := (((pix.take x1).drop x0).filter (fun v => if below then decide (v < th) else decide (th < v))).length
  decide (s.f Reg.WT_IMG_MINPIX 0 16 l ≤ n)

/-- An occupied row at aligned position `p` (R324). -/
def State.rowOn (s : State) (l : Nat) (p : DWord) : State :=
  let d := s.det l
  let s := match d.lead with
    | some _ => s.setDet l { d with gap := 0 }
    | none => s.setDet l { d with lead := some p, tainted := s.laneSpoilt l, gap := 0 }
  let d := s.det l
  match d.lead with
  | some lead =>
    if !d.done && decide (((s.rd Reg.WT_MIN_LEN l).toNat : Int) ≤ posDiff p lead) then s.detect l lead d.tainted else s
  | none => s

/-- An unoccupied row at aligned position `p`; the GAP-th in a row ends the part (R324, R326). -/
def State.rowOff (s : State) (l : Nat) (p : DWord) : State :=
  let d := s.det l
  let from_ := if d.gap = 0 then p else d.gapPos
  let s := s.setDet l { d with gap := d.gap + 1, gapPos := from_ }
  if d.lead.isSome ∧ max 1 (s.f Reg.WT_IMG_CFG 8 4 l) ≤ d.gap + 1 then
    let s := if d.comet.isSome then s.closeDet l from_ 0
      else if d.done then s else s.bump Reg.WT_CNT 1
    s.detIdle l
  else s

/-- A row of the output unit of an IMAGE lane (R324 to R326); a row with NO_POSITION is only counted. -/
def State.imageRow (s : State) (l : Nat) (pos : Option DWord) (pix : List Nat) : State :=
  match pos with
  | none => s.bump Reg.WT_CNT 15
  | some p =>
    let s := if s.rowOccupied l pix then s.rowOn l p else s.rowOff l p
    s.runOver l p

/-! ### Speed and actions (R340 to R342) -/

/-- The speed v_wt in sc per `den` ns, with the reference point of R340. -/
structure WtSpeed where
  num : Int
  den : Nat
  pRef : DWord
  tRef : DWord
  deriving DecidableEq, Repr

/-- The position of 16 microseconds ago, the oldest one held where the samples go back less far. -/
def posBefore (now : DWord) (here : DWord) : List (DWord × DWord) → DWord
  | [] => here
  | (t, p) :: l => if 16000 ≤ (now - t).toNat ∨ l = [] then p else posBefore now here l

/-- v_wt of channel `n` (R340). -/
def State.wtSpeed (s : State) (n : Nat) : WtSpeed :=
  let c := s.enc n
  if s.f Reg.ENC_CFG 0 2 n = 1 then
    match c.lastEdge, c.edgeGap with
    | some t, some g =>
      if 1000000 ≤ s.since t ∨ g.1 = 0 then { num := 0, den := 1, pRef := c.pos, tRef := t }
      else { num := if 0 ≤ g.2 then 4096 else -4096, den := g.1, pRef := c.pos, tRef := t }
    | _, _ => { num := 0, den := 1, pRef := c.pos, tRef := s.raw }
  else { num := posDiff c.pos (posBefore s.raw c.pos c.recent), den := 16000, pRef := c.pos, tRef := s.raw }

/-- A raw count rounded up to a multiple of 8 ns (R342). -/
def roundUp8 (t : DWord) : DWord := BitVec.ofNat 64 (ceilDiv t.toNat 8 * 8)

/-- When R341 places the action with target `x` and lead `lead` ns: the raw count at which it takes effect and whether the
position has reached the target already; none for NEVER. -/
def State.actTime (s : State) (n : Nat) (x : DWord) (lead : Nat) : Option (DWord × Bool) :=
  let p := (s.enc n).pos
  if reached p x then some (roundUp8 s.raw, true)
  else
    let v := s.wtSpeed n
    if v.num ≤ 0 then none
    else
      let ahead : Int := posDiff x v.pRef * v.den - v.num * ((s.since v.tRef : Int) + lead)
      some (roundUp8 (s.raw + BitVec.ofInt 64 (max 0 (-((-ahead).fdiv v.num)))), false)

/-- The action acts in this cycle: its time lies before the next one (R341). -/
def State.actDue (s : State) (n : Nat) (x : DWord) (lead : Nat) : Bool :=
  reached (s.enc n).pos x ||
    (let v := s.wtSpeed n
     decide (0 < v.num) &&
       decide (posDiff x v.pRef * v.den < v.num * (5 + (s.since v.tRef : Int) + lead)))

/-- The start position of an ejection (R339). -/
def Comet.startPos (c : Comet) : DWord := posAdd c.lead c.ejectOfs.toNat
/-- The end position of an ejection (R339). -/
def Comet.endPos (c : Comet) : DWord := posAdd c.startPos c.ejectLen.toNat
/-- The commit position (R335). -/
def Comet.commitPos (c : Comet) : DWord := posAdd c.lead c.commitOfs.toNat
/-- A set of flags of R331. -/
def Comet.flag (c : Comet) (n : Nat) : Bool := c.flags.getLsbD n
/-- A comet with a flag set. -/
def Comet.mark (c : Comet) (n : Nat) : Comet := { c with flags := putBit c.flags n true }
/-- The measured position on a comet's channel. -/
def State.cometPos (s : State) (c : Comet) : DWord := (s.enc c.enc).pos
/-- The group of a comet is a remote bank. -/
def State.grpRemote (s : State) (g : Nat) : Bool := s.bit Reg.WT_GRP_CFG 0 g
/-- LEAD_ON and LEAD_OFF in ns. -/
def State.leadOn (s : State) (g : Nat) : Nat := (s.rd Reg.WT_GRP_LEAD_ON g).toNat
def State.leadOff (s : State) (g : Nat) : Nat := (s.rd Reg.WT_GRP_LEAD_OFF g).toNat
/-- SEND_AHEAD in ns. -/
def State.sendAhead (s : State) (g : Nat) : Nat := (s.rd Reg.WT_GRP_SEND_AHEAD g).toNat * 1000
/-- MAX_PULSE and MIN_PULSE in ns. -/
def State.maxPulse (s : State) (g : Nat) : Nat := max 1 (s.f Reg.WT_GRP_PULSE 16 16 g) * 1000000
def State.minPulse (s : State) (g : Nat) : Nat := s.f Reg.WT_GRP_PULSE 0 16 g * 1000

/-! ### Local ejections (R343, R344, R348, R365, R373) -/

/-- An output of the group's mask is off by a fault. -/
def State.grpFaulted (s : State) (g : Nat) : Bool :=
  (upTo 32).any (fun n => s.groupHas g n && (s.dout (s.leader n)).faulted)
/-- An output of the group's mask is energised. -/
def State.grpEnergised (s : State) (g : Nat) : Bool := (upTo 32).any (fun n => s.groupHas g n && s.bit Reg.FIO_DO_STATE n)
/-- An output of the group's mask is driven. -/
def State.grpDriven (s : State) (g : Nat) : Bool := (upTo 32).any (fun n => s.groupHas g n && (s.dout n).on)

/-- The ejection of a comet becomes visible (R348). -/
def State.seen (s : State) (c : Comet) : Comet := { c with onAt := some s.raw, pOn := s.cometPos c, tOn := s.now }

/-- The lead was lost: LATE_FIRE (R341, R349). -/
def State.lateFire (s : State) (i : Nat) : State :=
  match s.comet i with
  | some c => ((s.setComet i (c.mark 15)).raise Reg.WT_EVENT 5).bump Reg.WT_CNT 12
  | none => s

/-- Energised time in ns up to a raw count, saturating. -/
def pulseTo (c : Comet) (t : DWord) : Word :=
  match c.onAt with
  | some o => if c.pulseFixed then c.pulseNs else BitVec.ofNat 32 (min 0xFFFFFFFF (t - o).toNat)
  | none => c.pulseNs

/-- The outputs of comet `i` are released at raw count `t`; they go off unless another comet holds them (R344). -/
def State.ejRelease (s : State) (i : Nat) (t : DWord) : State :=
  match s.comet i with
  | some c =>
    (s.setComet i { c with phase := .ended, ejActive := false, endPending := false, pOff := s.cometPos c, tOff := s.timeAt t,
                           pulseNs := pulseTo c t, placedAt := t }).syncOuts
  | none => s

/-- The outputs of a local group are driven for comet `i` from raw count `t` (R342, R344, R373); an ejection on an output
that is energised already is visible at once. -/
def State.ejHold (s : State) (i : Nat) (t : DWord) : State :=
  match s.comet i with
  | some c =>
    let c := { c with phase := .holding, ejActive := true, placedAt := t }
    let c := if c.st = .committed then c.mark 10 else c
    let c := if s.grpFaulted c.group then c.mark 20 else c
    let c := if s.grpEnergised c.group then s.seen c else c
    (s.setComet i c).syncOuts
  | none => s

/-- The end action of a local ejection: the release waits for MIN_PULSE from the energised feedback, unless no output can
energise any more (R343). -/
def State.ejEndLocal (s : State) (i : Nat) (t : DWord) : State :=
  match s.comet i with
  | some c =>
    let hold := match c.onAt with
      | some o => decide (s.since o < s.minPulse c.group)
      | none => s.grpDriven c.group && decide (0 < s.minPulse c.group)
    if hold then s.setComet i { c with endPending := true } else s.ejRelease i t
  | none => s

/-- MIN_PULSE has run out for a pending release, or no output of the group is driven any more. -/
def State.ejMinPulse (s : State) (i : Nat) : State :=
  match s.comet i with
  | some c =>
    if c.phase = .holding ∧ c.endPending then
      match c.onAt with
      | some o => if s.minPulse c.group ≤ s.since o then s.ejRelease i s.raw else s
      | none => if s.grpDriven c.group then s else s.ejRelease i s.raw
    else s
  | none => s

/-- MAX_PULSE after energising, the outputs are cut (R343). -/
def State.ejCap (s : State) (i : Nat) : State :=
  match s.comet i with
  | some c =>
    match c.onAt with
    | some o =>
      if c.phase = .holding ∧ s.maxPulse c.group ≤ s.since o then
        (((s.setComet i (c.mark 16)).raise Reg.WT_EVENT 6).bump Reg.WT_CNT 13).ejRelease i s.raw
      else s
    | none => s
  | none => s

/-! ### Remote banks (R350 to R354) -/

/-- A datagram to a valve bank (R351). -/
def bankDatagram (typ i : Nat) (c : Comet) (seq : Word) (valves tOn tOff : DWord) : List Byte :=
  bytesLE 1 1 ++ bytesLE 1 typ ++ bytesLE 2 0 ++ bytesLE 4 (c.seq.toNat * 65536 + i) ++ bytesLE 4 seq.toNat
    ++ bytesLE 8 valves.toNat ++ bytesLE 8 tOn.toNat ++ bytesLE 8 tOff.toNat ++ bytesLE 4 0

/-- A command goes to the bank of the comet's group: the next command number, an outstanding entry, a class-1 frame. -/
def State.bankSend (s : State) (typ i : Nat) (c : Comet) (tOn tOff : DWord) : State :=
  let g := s.group c.group
  let cmd : BankCmd := { typ := typ, comet := i, cometSeq := c.seq, seq := g.seq, tOn := tOn, tOff := tOff, attempts := 1,
                         sentAt := s.raw }
  let s := s.setGroup c.group { g with seq := g.seq + 1, outstanding := g.outstanding ++ [cmd] }
  s.macSend (s.f Reg.WT_GRP_CFG 1 3 c.group)
    { cls := 1, tag := .bank c.group typ i c.seq g.seq,
      data := bankDatagram typ i c g.seq (s.rd64 Reg.WT_GRP_VALVES_LO Reg.WT_GRP_VALVES_HI c.group) tOn tOff }

/-- A command of comet `i` is without acknowledgement. -/
def State.bankBusy (s : State) (i : Nat) (c : Comet) : Bool :=
  (s.group c.group).outstanding.any (fun k => decide (k.comet = i) && decide (k.cometSeq = c.seq))

/-- A command of the comet goes unacknowledged for good: REMOTE_NOACK, and the ejection counts as carried out (R350,
R353). -/
def State.noAck (s : State) (i : Nat) : State :=
  match s.comet i with
  | some c =>
    ((s.setComet i { c.mark 19 with ejActive := false, phase := .ended }).raise Reg.WT_EVENT 4).bump Reg.WT_CNT 11
  | none => s

/-- T_ON of a prediction: the start with lead LEAD_ON (R352). -/
def State.predictOn (s : State) (c : Comet) : Option DWord :=
  (s.actTime c.enc c.startPos (s.leadOn c.group)).map (fun a => s.timeAt a.1)

/-- T_OFF of a prediction: the end with lead LEAD_OFF; MAX_PULSE after T_ON while the line stands or the end is unknown
(R352). -/
def State.predictOff (s : State) (c : Comet) (tOn : DWord) : DWord :=
  match c.trailIn && decide (0 < (s.wtSpeed c.enc).num), s.actTime c.enc c.endPos (s.leadOff c.group) with
  | true, some a => s.timeAt a.1
  | _, _ => tOn + BitVec.ofNat 64 (s.maxPulse c.group)

/-- EJECT for comet `i`; a bank whose Ethernet address is not held gets nothing (R350, R352). -/
def State.ejSend (s : State) (i : Nat) : State :=
  match s.comet i with
  | some c =>
    let c := (if c.st = .committed then c.mark 10 else c).mark 17
    if s.bit Reg.WT_GRP_CFG 4 c.group then
      let on := (s.predictOn c).getD s.now
      let off := s.predictOff c on
      let c := { c with phase := .sent, ejActive := true, sentOn := on, sentOff := off }
      (s.setComet i c).bankSend 1 i c on off
    else (s.setComet i c).noAck i
  | none => s

/-- The distance of two times in ns. -/
def timeGap (a b : DWord) : Nat := ((a - b).toInt).natAbs

/-- RETIME of a sent ejection (R352): before T_ON when a prediction has moved beyond RETIME_TOL; when the end has been
passed before T_OFF, with T_OFF now. -/
def State.ejRetime (s : State) (i : Nat) : State :=
  match s.comet i with
  | some c =>
    if c.phase ≠ .sent then s
    else if c.trailIn && reached (s.cometPos c) c.endPos then
      let s := if 0 < (c.sentOff - s.now).toInt then
          let c := { c with sentOff := s.now, pOff := s.cometPos c, tOff := s.now }
          (s.setComet i c).bankSend 2 i c c.sentOn c.sentOff
        else s
      match s.comet i with
      | some c => s.setComet i { c with phase := .ended, ejActive := s.bankBusy i c }
      | none => s
    else if 0 < (c.sentOn - s.now).toInt then
      let on := (s.predictOn c).getD c.sentOn
      let off := s.predictOff c on
      let tol := s.f Reg.WT_GRP_CFG 16 16 c.group
      if tol < timeGap on c.sentOn ∨ tol < timeGap off c.sentOff then
        let c := { c with sentOn := on, sentOff := off }
        (s.setComet i c).bankSend 2 i c on off
      else s
    else s
  | none => s

/-- The EJECT of a comet has not left the MAC yet: it is withdrawn, and nothing is sent (R354). -/
def State.ejWithdraw (s : State) (i : Nat) (c : Comet) : State :=
  let m := s.f Reg.WT_GRP_CFG 1 3 c.group
  let mine (f : TxFrame) : Bool := match f.tag with
    | .bank _ _ k q _ => decide (k = i) && decide (q = c.seq)
    | _ => false
  let s := s.setMac m { s.mac m with txq := (s.mac m).txq.filter (fun f => !mine f) }
  let g := s.group c.group
  s.setGroup c.group { g with outstanding := g.outstanding.filter (fun k =>
    !(decide (k.comet = i) && decide (k.cometSeq = c.seq))) }

/-! ### Decisions (R335, R347, R349) -/

/-- An ejection that has been decided starts at raw count `t` (R341, R352). -/
def State.ejStart (s : State) (i : Nat) (t : DWord) (late : Bool) : State :=
  match s.comet i with
  | some c =>
    let s := s.when late (fun s => s.lateFire i)
    if s.grpRemote c.group then s.ejSend i else s.ejHold i t
  | none => s

/-- A retraction of the ejection of comet `i` (R349, R354). -/
def State.ejRetract (s : State) (i : Nat) : State :=
  match s.comet i with
  | some c =>
    let visible := c.onAt.isSome
    let c := c.mark 13
    let c := if visible then c.mark 14 else c
    let s := (s.setComet i c)
    let s := if visible then (s.raise Reg.WT_EVENT 3).bump Reg.WT_CNT 9 else s.bump Reg.WT_CNT 8
    let s := match c.phase, visible with
      | .holding, true => s.ejRelease i s.raw
      | .holding, false => (s.setComet i { c with phase := .withheld, ejActive := false, endPending := false }).syncOuts
      | .sent, true =>
        let c := { c with pOff := s.cometPos c, tOff := s.now, phase := .ended, ejActive := true }
        (s.setComet i c).bankSend 3 i c c.sentOn c.sentOff
      | .sent, false => (s.setComet i { c with phase := .withheld, ejActive := false }).ejWithdraw i c
      | _, _ => s
    match s.comet i with
    | some c => s.setComet i { c with phase := .withheld }
    | none => s
  | none => s

/-- A decision `eject` reached after the start was decided: DISAGREE where it differs from the course in force, with the
outcome of R349. -/
def State.recourse (s : State) (i : Nat) (eject : Bool) : State :=
  match s.comet i with
  | some c =>
    match c.course with
    | none => s
    | some was =>
      if was = eject then s
      else
        let s := s.setComet i { c.mark 12 with course := some eject }
        if was then
          if c.phase = .holding ∨ c.phase = .sent then s.ejRetract i else s
        else if c.trailIn && reached (s.cometPos c) c.endPos then s
        else s.ejStart i (roundUp8 s.raw) true
  | none => s

/-- The start action of comet `i` has fallen due: the decision of R347, and the start if it is to eject. -/
def State.ejDecide (s : State) (i : Nat) (t : DWord) (late : Bool) : State :=
  match s.comet i with
  | some c =>
    if c.st = .committed then
      if c.eject then s.ejStart i t late else s.setComet i { c with phase := .withheld }
    else if c.specPassed then s
    else if !s.bit Reg.WT_LANE_CFG 19 c.lane then s.setComet i { c with specPassed := true }
    else if c.flag 0 then
      let e := s.inEjectMask c.lane c.verdict
      let s := s.setComet i { c with course := some e, phase := .withheld }
      if e then s.ejStart i t late else s
    else
      let e := c.flag 1 && s.inEjectMask c.lane c.prov
      let s := (s.setComet i { c.mark 11 with course := some e, phase := .withheld }).bump Reg.WT_CNT 7
      if e then s.ejStart i t late else s
  | none => s

/-- The lead of the start action: LEAD_ON, and SEND_AHEAD for a remote group (R341, R352). -/
def State.startLead (s : State) (g : Nat) : Nat := s.leadOn g + if s.grpRemote g then s.sendAhead g else 0

/-- The start action of comet `i` is evaluated in this cycle (R341). -/
def State.ejStartEval (s : State) (i : Nat) : State :=
  match s.comet i with
  | some c =>
    let lead := s.startLead c.group
    if c.phase = .idle ∧ c.st ≠ .retired ∧ s.actDue c.enc c.startPos lead then
      match s.actTime c.enc c.startPos lead with
      | some (t, lost) => s.ejDecide i t (lost && decide (0 < lead))
      | none => s
    else s
  | none => s

/-- The end action of the local ejection of comet `i` is evaluated in this cycle (R341, R343). -/
def State.ejEndEval (s : State) (i : Nat) : State :=
  match s.comet i with
  | some c =>
    if c.phase = .holding ∧ !c.endPending ∧ c.trailIn ∧ s.actDue c.enc c.endPos (s.leadOff c.group) then
      match s.actTime c.enc c.endPos (s.leadOff c.group) with
      | some (t, _) => s.ejEndLocal i t
      | none => s
    else s
  | none => s

/-- The commit fixes class and STATUS by the first row of R335 that applies. -/
def State.commitRow (s : State) (c : Comet) : Comet :=
  let fs := BitVec.ofNat 8 (s.f Reg.WT_LANE_CFG 24 8 c.lane)
  if c.flag 6 || s.bit Reg.ENC_STATUS 4 c.enc then
    { (c.mark 6).mark 2 with verdict := fs, status := S_ENC_FAULT }
  else if c.flag 4 || c.flag 5 then { c.mark 2 with verdict := fs, status := S_FAILSAFE_REQUEST }
  else if c.flag 0 then { c with status := S_OK }
  else { c.mark 2 with verdict := fs, status := S_LATE_VERDICT }

/-- The commit of comet `i` (R293, R335). -/
def State.commitComet (s : State) (i : Nat) : State :=
  match s.comet i with
  | some c =>
    let c := s.commitRow c
    let e := s.inEjectMask c.lane c.verdict
    let c := { c with st := .committed, pCommit := s.cometPos c, tCommit := s.now, eject := e }
    let c := if c.joined then c else c.mark 8
    let c := if e && (decide (c.phase = .holding) || decide (c.phase = .sent) || decide (c.phase = .ended)) then c.mark 10
      else c
    let s := s.setComet i c
    let s := s.when (!c.joined) (fun s => s.slotMissed c)
    let s := s.when (decide (c.status = S_LATE_VERDICT)) (fun s => s.raise Reg.WT_EVENT 0)
    let s := s.when (c.flag 2) (fun s => (s.raise Reg.WT_EVENT 1).bump Reg.WT_CNT 6)
    s.recourse i e
  | none => s

/-- The commit position of comet `i` is judged in this cycle (R335). -/
def State.commitEval (s : State) (i : Nat) : State :=
  match s.comet i with
  | some c => if (c.st = .opened ∨ c.st = .closed) ∧ reached (s.cometPos c) c.commitPos then s.commitComet i else s
  | none => s

/-! ### Verdict tokens (R333, R334, R336) -/

/-- A final verdict for comet `i`: KIND 1 a class, 2 a fail-safe request by marks, 3 an index beyond CLASSMAP. -/
def State.finalVerdict (s : State) (i kind : Nat) (cls : Byte) (job : Nat) : State :=
  match s.comet i with
  | some c =>
    if c.flag 0 then s.bump Reg.WT_CNT 14
    else
      let c := { c.mark 0 with job := job, pVerdict := s.cometPos c, tVerdict := s.now }
      let c := if kind = 2 then c.mark 4 else if kind = 3 then c.mark 5 else c
      if c.st = .committed then (s.setComet i (c.mark 3)).bump Reg.WT_CNT 5
      else
        let v := if kind = 1 then cls else BitVec.ofNat 8 (s.f Reg.WT_LANE_CFG 24 8 c.lane)
        ((s.setComet i { c with verdict := v }).bump Reg.WT_CNT 4).recourse i (s.inEjectMask c.lane v)
  | none => s

/-- A verdict token (R434) is judged against the table. -/
def State.takeToken (s : State) (data : List Byte) : State :=
  let i := natLE (data.take 2)
  let q := BitVec.ofNat 16 (natLE ((data.drop 2).take 2))
  let kind := natLE ((data.drop 4).take 1)
  let cls := BitVec.ofNat 8 (natLE ((data.drop 5).take 1))
  match s.comet i with
  | some c =>
    if c.seq ≠ q ∨ c.st = .retired then s.bump Reg.WT_CNT 15
    else if kind = 4 then
      if c.flag 1 then s else s.setComet i { c.mark 1 with prov := cls }
    else s.finalVerdict i kind cls (natLE ((data.drop 6).take 2))
  | none => s.bump Reg.WT_CNT 15

/-- The watchtower takes the token at the head of queue 20. -/
def State.takeHead (s : State) : State :=
  match (s.queue 20).head with
  | some it => ((s.ringRead 20 it).qRelease 20 it.entries).takeToken (s.ringData 20 it)
  | none => s

/-- The watchtower takes every token that is visible. -/
def State.takeTokens (s : State) : Nat → State
  | 0 => s
  | n + 1 => (s.takeHead).takeTokens n

/-! ### Retirement and export (R329, R346) -/

/-- The CTRL word (R330). -/
def Comet.ctrl (c : Comet) : Nat :=
  let st := match c.st with
    | .opened => 1
    | .closed => 2
    | .committed => 3
    | .retired => 4
  c.prov.toNat * 2 ^ 24 + c.verdict.toNat * 2 ^ 16 + st * 2 ^ 12 + c.ejActive.toNat * 2 ^ 11 + c.eject.toNat * 2 ^ 10
    + c.enc * 2 ^ 8 + c.src * 2 ^ 6 + c.lane

/-- The 128-byte record of comet `i` (R329). -/
def Comet.bytes (c : Comet) (i : Nat) : List Byte :=
  bytesLE 4 (c.seq.toNat * 65536 + i) ++ bytesLE 4 c.ctrl ++ bytesLE 4 c.flags.toNat ++ bytesLE 4 c.marks.toNat
    ++ bytesLE 8 c.lead.toNat ++ bytesLE 8 c.trail.toNat ++ bytesLE 4 c.commitOfs.toNat ++ bytesLE 4 c.ejectOfs.toNat
    ++ bytesLE 4 c.ejectLen.toNat ++ bytesLE 2 c.job ++ bytesLE 1 c.group ++ bytesLE 1 0 ++ bytesLE 8 c.tCreate.toNat
    ++ bytesLE 8 c.pVerdict.toNat ++ bytesLE 8 c.tVerdict.toNat ++ bytesLE 8 c.pCommit.toNat ++ bytesLE 8 c.tCommit.toNat
    ++ bytesLE 8 c.pOn.toNat ++ bytesLE 8 c.tOn.toNat ++ bytesLE 8 c.pOff.toNat ++ bytesLE 8 c.tOff.toNat
    ++ bytesLE 4 c.pulseNs.toNat ++ bytesLE 2 c.status ++ bytesLE 2 0

/-- The conditions of retirement (R346). -/
def State.mayRetire (s : State) (c : Comet) : Bool :=
  decide (c.st = .committed) && c.trailIn && reached (s.cometPos c) c.endPos && !c.ejActive

/-- Comet `i` retires if the conditions hold in this cycle. -/
def State.retireEval (s : State) (i : Nat) : State :=
  match s.comet i with
  | some c => if s.mayRetire c then s.setComet i { c with st := .retired } else s
  | none => s

/-- The record of a retired comet goes to the export queue and its entry is freed; a full queue raises EXPORT_STALL. -/
def State.exportEval (s : State) (i : Nat) : State :=
  match s.comet i with
  | some c =>
    if c.st = .retired ∧ s.bit Reg.WT_CTRL 1 then
      if s.qRoom 18 4 then
        let s := s.qAppend 18 4 (s.cometData i (c.bytes i))
        ({ s with wt := { s.wt with comets := AMap.del s.wt.comets i } }).wtCount.cometRead i
      else s.raise Reg.WT_EVENT 7
    else s
  | none => s

/-- The entries of the table that are not FREE. -/
def State.cometIdx (s : State) : List Nat := s.wt.comets.map (fun p => p.1)

end Sys2Proof.Machine
end

