-- ==== Sys2Proof/Machine/Eject.lean ====
section
/-!
DEFINITION. The watchtower's commands on ejections (spec/11_comets_verdicts_ejection.md, R339 to R354), and the output
feedback that makes a local ejection visible.
-/
namespace Sys2Proof.Machine

open Sys2Proof

/-- The group of comet `i` is a remote bank. -/
def State.cometRemote (s : State) (i : Nat) : Bool :=
  match s.comet i with
  | some c => s.grpRemote c.group
  | none => false

/-- EJECTION_START (R341, R347): the start action of a comet with a local group. -/
def execEjectionStart (comet : Fin 65536) (s : State) : Out :=
  .next (if s.wtCycleNow ∧ !s.cometRemote comet then s.ejStartEval comet else s)

/-- EJECTION_END (R343): the end action of a local ejection. -/
def execEjectionEnd (comet : Fin 65536) (s : State) : Out := .next (if s.wtCycleNow then s.ejEndEval comet else s)

/-- MIN_PULSE_END (R343). -/
def execMinPulseEnd (comet : Fin 65536) (s : State) : Out := .next (if s.on .WT then s.ejMinPulse comet else s)

/-- PULSE_CAP (R343). -/
def execPulseCap (comet : Fin 65536) (s : State) : Out := .next (if s.on .WT then s.ejCap comet else s)

/-- The comets that hold output `n` and are not visible yet become visible (R348). -/
def seenOn (s : State) (n : Nat) (p : Nat × Comet) : Nat × Comet :=
  if p.2.phase = .holding ∧ p.2.onAt = none ∧ s.groupHas p.2.group n then (p.1, s.seen p.2) else p

/-- The feedback of output `n` has crossed 12 V rising (R348, R363). -/
def State.outOn (s : State) (n : Nat) : State :=
  let t := { s with wt := { s.wt with comets := s.wt.comets.map (seenOn s n) } }
  t.setBit Reg.FIO_DO_STATE n true

/-- OUTPUT_ENERGISED (R348, R363). -/
def execOutputEnergised (n : Fin 32) (s : State) : Out := .next (if s.on .FIO ∧ !s.fieldGone then s.outOn n else s)

/-- OUTPUT_DEENERGISED (R363). -/
def execOutputDeenergised (n : Fin 32) (s : State) : Out :=
  .next (if s.on .FIO then s.setBit Reg.FIO_DO_STATE n false else s)

/-- EJECT_SEND (R352): the send of a comet with a remote group, and the RETIME of one already sent. -/
def execEjectSend (comet : Fin 65536) (s : State) : Out :=
  .next (if s.wtCycleNow ∧ s.cometRemote comet then (s.ejStartEval comet).ejRetime comet else s)

/-- EJ_ACTIVE of a comet whose ejection is over follows its outstanding commands. -/
def State.bankSettle (s : State) (i : Nat) : State :=
  match s.comet i with
  | some c => if c.phase = .ended ∨ c.phase = .withheld then s.setComet i { c with ejActive := s.bankBusy i c } else s
  | none => s

/-- The comet of a command, if its entry has not been reused. -/
def State.cmdComet (s : State) (k : BankCmd) : Option Comet :=
  match s.comet k.comet with
  | some c => if c.seq = k.cometSeq then some c else none
  | none => none

/-- An acknowledgement matches command `k` of group `g`: it is no longer outstanding; a CANCEL answered EXECUTED or TOO_LATE
sets REMOTE_EXECUTED (R354). -/
def State.bankAck (s : State) (g : Nat) (k : BankCmd) (status : Nat) : State :=
  let x := s.group g
  let s := s.setGroup g { x with outstanding := x.outstanding.filter (fun c => decide (c.seq ≠ k.seq)) }
  match s.cmdComet k with
  | some c =>
    let s := if k.typ = 3 ∧ (status = 2 ∨ status = 3) then
        ((s.setComet k.comet (c.mark 18)).raise Reg.WT_EVENT 4).bump Reg.WT_CNT 10
      else s
    s.bankSettle k.comet
  | none => s

/-- The command that an acknowledgement datagram answers (R351). -/
def State.ackMatch (s : State) (g : Nat) (d : List Byte) : Option BankCmd :=
  if d.length = 40 ∧ natLE (d.take 1) = 1 ∧ natLE ((d.drop 1).take 1) = 0x81 then
    (s.group g).outstanding.find? (fun k => decide (k.seq.toNat = natLE ((d.drop 8).take 4)) &&
      decide (k.cometSeq.toNat * 65536 + k.comet = natLE ((d.drop 4).take 4)))
  else none

/-- REMOTE_ACK (R351, R354). -/
def execRemoteAck (group : Fin 16) (dgram : List Byte) (s : State) : Out :=
  .next (if s.on .WT then
    match s.ackMatch group dgram with
    | some k => s.bankAck group k (natLE ((dgram.drop 2).take 2))
    | none => s
  else s)

/-- Command `k` of group `g` goes out again (R353). -/
def State.bankResend (s : State) (g : Nat) (k : BankCmd) : State :=
  let x := s.group g
  let s := s.setGroup g { x with outstanding := x.outstanding.map (fun c =>
    if c.seq = k.seq then { c with attempts := c.attempts + 1, sentAt := s.raw } else c) }
  match s.cmdComet k with
  | some c =>
    s.macSend (s.f Reg.WT_GRP_CFG 1 3 g)
      { cls := 1, tag := .bank g k.typ k.comet k.cometSeq k.seq,
        data := bankDatagram k.typ k.comet c k.seq (s.rd64 Reg.WT_GRP_VALVES_LO Reg.WT_GRP_VALVES_HI g) k.tOn k.tOff }
  | none => s

/-- The third attempt of command `k` has gone unanswered (R353). -/
def State.bankGiveUp (s : State) (g : Nat) (k : BankCmd) : State :=
  let x := s.group g
  let s := s.setGroup g { x with outstanding := x.outstanding.filter (fun c => decide (c.seq ≠ k.seq)) }
  match s.cmdComet k with
  | some _ => s.noAck k.comet
  | none => s

/-- ACK_TIMEOUT (R353): a command without acknowledgement for ACK_TIMEOUT. -/
def execAckTimeout (group : Fin 16) (seq : Word) (s : State) : Out :=
  let g := group.val
  .next (match (s.group g).outstanding.find? (fun k => decide (k.seq = seq)) with
    | some k =>
      if s.on .WT ∧ s.f Reg.WT_GRP_BANK_PORT 16 16 g * 1000 ≤ s.since k.sentAt then
        if k.attempts < 3 then s.bankResend g k else s.bankGiveUp g k
      else s
    | none => s)

/-- ARP_REFRESH (R350): the CP asks for the bank's Ethernet address; a reply is held from then on. -/
def execArpRefresh (group : Fin 16) (reply : Option (BitVec 48)) (s : State) : Out :=
  let g := group.val
  .next (if s.on .WT ∧ s.core.cp = .running ∧ s.grpRemote g then
    let s := s.macSend (s.f Reg.WT_GRP_CFG 1 3 g) { cls := 3, tag := .cp, data := [] }
    match reply with
    | some a => (s.wr64 Reg.WT_GRP_BANK_MAC_LO Reg.WT_GRP_BANK_MAC_HI (a.setWidth 64) g).setBit Reg.WT_GRP_CFG 4 true g
    | none => s
  else s)

end Sys2Proof.Machine
end

