-- ==== Sys2Proof/Machine/Lanes.lean ====
section
/-!
DEFINITION. The commands on serial lanes, Ethernet MACs and Kalinamo links (spec/17_serial_lanes_and_fabric.md).
-/
namespace Sys2Proof.Machine

open Sys2Proof

/-! ### Links of an owner (R489, R491, R496) -/

/-- The link of MAC `m` goes down: the frames in flight are lost, and the cameras and streams on it lose their link
(R491, R95, R146). -/
def State.macDown (s : State) (m : Nat) : State :=
  if !s.bit Reg.LN_MAC_CFG 31 m then s
  else
    let s := (s.setBit Reg.LN_MAC_CFG 31 false m).bump Reg.LN_MAC_CNT m 8
    let s := s.setMac m { s.mac m with txq := [], lastDest := none }
    let s := s.forAll (upTo 8) (fun n s =>
      s.when (s.camEnabled n && s.camGev n && decide (s.camMac n = m)) (fun s => s.camDown n))
    s.forAll (upTo 32) (fun n s => s.when (s.decOn n && decide (s.decMac n = m)) (fun s => s.decLinkLost n))

/-- A link reset of the owner of a lane (R491): every lane of the owner goes through DEEP and comes back. -/
def State.ownerReset (s : State) (l : Nat) : State :=
  let id := s.laneOwnerId l
  match s.laneOwner l with
  | 1 => ((s.camDown id).forAll (s.camLanes id) (fun x s => s.laneCycle x)).camLanesUp id
  | 2 => (s.macDown id).forAll (s.macLanes id) (fun x s => s.laneCycle x)
  | 3 => s.fabLinkReset id
  | _ => s

/-- A write of LN_LINK_RESET: one link reset for each owner that it names. -/
def State.linkResetWrite (s : State) (w : Writer) (v : Word) : State :=
  s.gate w Reg.LN_LINK_RESET 0 0 0 (fun s =>
    let first (l : Nat) : Bool := !(upTo l).any (fun x => v.getLsbD x && decide (s.laneOwner x = s.laneOwner l) &&
      decide (s.laneOwnerId x = s.laneOwnerId l))
    s.forAll ((upTo 32).filter (fun l => v.getLsbD l && first l)) (fun l s => s.ownerReset l))

/-- LINK_RESET (R491). -/
def execLinkReset (w : Writer) (v : Word) (s : State) : Out := .next (s.linkResetWrite w v)

/-! ### Training, lock and activity (R487 to R490) -/

/-- The record of a lane's link that went down (R572 cause 8). -/
def laneDownRecord (l cls : Nat) : FaultRec :=
  { block := 14, cause := 8, unit := l, cls := cls, action := 1, detail := bytesLE 1 l ++ bytesLE 1 0 }

/-- A lost lane's record is written again once its link reset has succeeded or failed (R569). -/
def State.laneClassify (s : State) (l : Nat) (ok : Bool) : State :=
  match (s.lane l).downSeq with
  | some q =>
    let s := s.setLane l { s.lane l with downSeq := none }
    if ok then (s.faultWrite (laneDownRecord l (s.retryClass l 8)) q).noteTransient l 8
    else s.faultWrite (laneDownRecord l 2) q
  | none => s

/-- The lane's cage holds a plugged module that may not run, so that its lanes never lock (R606). -/
def State.cageHeld (s : State) (l : Nat) : Bool :=
  decide (l < 16) && (s.bit Reg.LN_CAGE_STATUS 10 (l / 4) || s.bit Reg.LN_CAGE_STATUS 8 (l / 4))

/-- TRAINING_DONE (R487, R485, R503, R504): the lane becomes ACTIVE; a TRAINED Ethernet lane takes the precoding that its
partner asked for, and a Kalinamo lane reports the peer's node. -/
def execTrainingDone (l : Fin 32) (peer : Fin 16) (precode : BitVec 2) (s : State) : Out :=
  let n := l.val
  .next (match (s.lane n).training with
    | some _ =>
      if s.on .LN ∧ !s.cageHeld n then
        let w := setFld (putBit (putBit (putBit (s.rd Reg.LN_LANE_STATUS n) 3 true) 4 false) 2 false) 6 2 0
        let s := (s.wr Reg.LN_LANE_STATUS w n).setLane n { s.lane n with training := none }
        let s := s.when (decide (s.laneOwner n = 2)) (fun s => s.setF Reg.LN_LANE_CFG 4 2 precode.toNat n)
        s.when (decide (s.laneOwner n = 3)) (fun s => s.linkTrained (s.laneOwnerId n) peer)
      else s
    | none => s)

/-- TRAIN_TIMEOUT (R487): 500 ms without completion set TRAIN_FAIL, and training starts again. -/
def execTrainTimeout (l : Fin 32) (s : State) : Out :=
  let n := l.val
  .next (match (s.lane n).training with
    | some t =>
      if s.on .LN ∧ 500000000 ≤ s.since t then
        let s := ((s.setBit Reg.LN_LANE_STATUS 4 true n).raise Reg.LN_EVENT 4).bump Reg.LN_LANE_CNT n 5
        (s.setLane n { s.lane n with training := some s.raw }).laneClassify n false
      else s
    | none => s)

/-- LANE_UP (R488): the CDR of an ACTIVE lane gains lock. -/
def execLaneUp (l : Fin 32) (s : State) : Out :=
  let n := l.val
  .next (if s.on .LN ∧ s.laneState n = 0 ∧ !s.laneLock n ∧ !s.cageHeld n then
    let s := s.setF Reg.LN_LANE_STATUS 0 2 3 n
    let s := s.when (decide (s.laneOwner n ≠ 0)) (fun s => s.raise Reg.LN_EVENT 0)
    let s := s.when (decide (s.laneOwner n = 1)) (fun s => s.camLanesUp (s.laneOwnerId n))
    s.laneClassify n true
  else s)

/-- A lane loses lock for `heldNs` (R508, R567, R569). A camera port or a MAC takes it as the loss of its link and makes a
link reset; a Kalinamo lane has failed after 1 µs. -/
def State.lockLost (s : State) (n heldNs : Nat) : State :=
  if s.on .LN ∧ s.laneLock n then
    let s := (s.setF Reg.LN_LANE_STATUS 0 2 0 n).bump Reg.LN_LANE_CNT n 4
    let s := s.when (decide (s.laneOwner n ≠ 0)) (fun s => s.raise Reg.LN_EVENT 1)
    if s.laneOwner n = 1 ∨ s.laneOwner n = 2 then
      let seq := s.fault.seq
      let s := s.faultNew (laneDownRecord n 0)
      (s.setLane n { s.lane n with downSeq := some seq }).ownerReset n
    else if s.laneOwner n = 3 ∧ 1000 ≤ heldNs then s.failLane (s.laneOwnerId n) (n % 4) 1
    else s
  else s

/-- LANE_LOCK_LOSS (R508, R567, R569). -/
def execLaneLockLoss (l : Fin 32) (heldNs : Nat) (s : State) : Out := .next (s.lockLost l heldNs)

/-- LANE_ACTIVITY (R490, R558, R560): a lane in DEEP sees more than 80 mV for 10 µs; a lane enabled for it, without
PATTERN, wakes the module from S2 and S3. -/
def execLaneActivity (l : Fin 32) (millivolts heldNs : Nat) (s : State) : Out :=
  let n := l.val
  .next (if 80 < millivolts ∧ 10000 ≤ heldNs ∧ (!s.on .LN ∨ s.laneState n = 2) then
    let s := s.when (s.on .LN) (fun s => (s.setF Reg.LN_LANE_STATUS 1 2 3 n).raise Reg.LN_EVENT 2)
    s.when (s.bit Reg.PM_WAKE_LANES n && !s.bit Reg.PM_WAKE_PATTERN n) (fun s => s.wakeFire 2 [2, 3])
  else s)

/-! ### PRBS (R492 to R494) -/

/-- A pattern code is one that a lane at RATE may use: the PAM4 patterns at PAM4 rates only, 9 to 15 never (R492). -/
def patternOk (rate p : Nat) : Bool := decide (p ≤ 5) || (decide (p ≤ 8) && decide (2 ≤ rate))

/-- A write of LN_PRBS_CFG (R492, R494): the enables are zero on an owned lane, and INJ_ONE flips the next bit of a running
generator. -/
def State.prbsWrite (s : State) (w : Writer) (l : Nat) (v : Word) : State :=
  s.gate w Reg.LN_PRBS_CFG l 0 0 (fun s =>
    let rate := s.f Reg.LN_LANE_CFG 0 2 l
    if !(patternOk rate (fld v 8 4) && patternOk rate (fld v 12 4)) then
      s.refuse S_INVALID_CONFIG (Reg.LN_PRBS_CFG.at l 0 0)
    else
      let v' := v &&& 0xFFF03
      let v' := if s.laneOwner l = 0 then v' else setFld v' 0 2 0
      let s := s.wr Reg.LN_PRBS_CFG v' l
      let s := s.when (!v'.getLsbD 1) (fun s => s.setBit Reg.LN_LANE_STATUS 5 false l)
      let s := s.when (!v'.getLsbD 0 || decide (fld v' 16 4 = 0)) (fun s => s.setLane l { s.lane l with genBits := 0 })
      s.when (v.getLsbD 20 && v'.getLsbD 0) (fun s => s.setLane l { s.lane l with flips := (s.lane l).flips + 1 }))

/-- PRBS_INJ_ONE (R494). -/
def execPrbsInjOne (w : Writer) (l : Fin 32) (v : Word) (s : State) : Out := .next (s.prbsWrite w l v)

/-- The checker of a lane runs. -/
def State.checkerOn (s : State) (l : Nat) : Bool := s.on .LN && s.bit Reg.LN_PRBS_CFG 1 l

/-- PRBS_CHECKER_LOCK (R493): 64 consecutive error-free bits. -/
def execPrbsCheckerLock (l : Fin 32) (goodBits : Nat) (s : State) : Out :=
  .next (if s.checkerOn l ∧ 64 ≤ goodBits then s.setBit Reg.LN_LANE_STATUS 5 true l else s)

/-- PRBS_CHECKER_RESYNC (R493): 16 errors within 64 bits. -/
def execPrbsCheckerResync (l : Fin 32) (errors bits : Nat) (s : State) : Out :=
  .next (if s.checkerOn l ∧ s.bit Reg.LN_LANE_STATUS 5 l ∧ 16 ≤ errors ∧ bits ≤ 64 then
    (s.setBit Reg.LN_LANE_STATUS 5 false l).bump Reg.LN_LANE_CNT l 1 else s)

/-- PRBS_BIT_ERROR (R493): an error seen by a locked checker. -/
def execPrbsBitError (l : Fin 32) (s : State) : Out :=
  .next (if s.checkerOn l ∧ s.bit Reg.LN_LANE_STATUS 5 l then
    (s.bump Reg.LN_LANE_CNT l 0).raise Reg.LN_EVENT 3 else s)

/-- PRBS_RATE_INJECTION (R494): the generator sends `bits` bits, one of every 2^(n + 10) flipped. -/
def execPrbsRateInjection (l : Fin 32) (bits : Nat) (s : State) : Out :=
  let n := s.f Reg.LN_PRBS_CFG 16 4 l
  .next (if s.on .LN ∧ s.bit Reg.LN_PRBS_CFG 0 l ∧ n ≠ 0 then
    let x := s.lane l
    let total := x.genBits + bits
    s.setLane l { x with flips := x.flips + total / 2 ^ (n + 10), genBits := total % 2 ^ (n + 10) }
  else s)

/-! ### Ethernet (R495 to R498) -/

/-- The consumer of a UDP frame from a configured camera, decoder or valve bank source (R496). -/
def State.udpDest (s : State) (m : Nat) (f : EthFrame) : Option FrameDest :=
  let src := f.ipSrc.toNat
  let port := f.portSrc.toNat
  let cam := (upTo 8).find? (fun n => s.camEnabled n && s.camGev n && decide (s.camMac n = m) &&
    decide ((s.rd Reg.CAM_GEV_SRC n).toNat = src) && decide (s.f Reg.CAM_GEV_CFG 0 16 n = port))
  let dec := (upTo 32).find? (fun n => s.decOn n && decide (s.decMac n = m) &&
    decide ((s.rd Reg.DEC_SRC_ADDR n).toNat = src) && decide (s.f Reg.DEC_SRC_PORT 0 16 n = port))
  let bank := (upTo 16).find? (fun g => s.on .WT && s.grpRemote g && decide (s.f Reg.WT_GRP_CFG 1 3 g = m) &&
    decide ((s.rd Reg.WT_GRP_BANK_ADDR g).toNat = src) && decide (s.f Reg.WT_GRP_BANK_PORT 0 16 g = port))
  match cam, dec, bank with
  | some n, _, _ => some (.camera n)
  | none, some n, _ => some (.decoder n)
  | none, none, some g => some (.bank g)
  | none, none, none => none

/-- The first row of R496 that a frame matches. -/
def State.frameDest (s : State) (m : Nat) (f : EthFrame) : Option FrameDest :=
  let ip := decide (f.etherType = 0x0800)
  match (if ip && f.udp then s.udpDest m f else none) with
  | some d => some d
  | none =>
    if f.etherType = 0x88F7 ∨ (ip ∧ f.udp ∧ (f.portDst = 319 ∨ f.portDst = 320)) then some .timeBase
    else if f.toCp ∨ (ip ∧ f.ipDst = s.rd Reg.LN_MAC_IPV4 m) then some .cp
    else none

/-- A frame for the CP: at most 2,000 in a second, the excess dropped and counted; the running CP answers ARP and ICMP
echo (R496, R497). -/
def State.frameToCp (s : State) (m : Nat) (f : EthFrame) : State :=
  let x := s.mac m
  let x := if 1000000000 ≤ s.since x.cpFrom then { x with cpFrom := s.raw, cpCount := 0 } else x
  if 2000 ≤ x.cpCount then (s.setMac m x).bump Reg.LN_MAC_CNT m 6
  else
    let s := s.setMac m { x with cpCount := x.cpCount + 1, lastDest := some .cp }
    s.when (f.asks && decide (s.core.cp = .running)) (fun s => s.macSend m { cls := 3, tag := .cp, data := [] })

/-- ETH_FRAME_RECEIVE (R496, R497). -/
def execEthFrameReceive (m : Fin 8) (f : EthFrame) (s : State) : Out :=
  let n := m.val
  .next (if s.macUp n then
    let s := s.bump Reg.LN_MAC_CNT n 0
    if !f.fcsOk then s.bump Reg.LN_MAC_CNT n 2
    else if f.len < 64 ∨ 9216 < f.len then s.bump Reg.LN_MAC_CNT n 3
    else if f.pause then s.bump Reg.LN_MAC_CNT n 4
    else if f.etherType = 0x86DD then s.bump Reg.LN_MAC_CNT n 5
    else
      match s.frameDest n f with
      | some .cp => s.frameToCp n f
      | some d => s.setMac n { s.mac n with lastDest := some d }
      | none => s.bump Reg.LN_MAC_CNT n 5
  else s)

/-- A frame that may leave: a command to a bank whose Ethernet address is not held stays (R350). -/
def State.maySend (s : State) (f : TxFrame) : Bool :=
  match f.tag with
  | .bank g _ _ _ _ => s.bit Reg.WT_GRP_CFG 4 g
  | _ => true

/-- The first frame of the highest class that may leave, with the frames left (R498). -/
def takeFrame (ok : TxFrame → Bool) (q : List TxFrame) : Option (TxFrame × List TxFrame) :=
  let pick (c : Nat) : Option TxFrame := q.find? (fun f => ok f && decide (f.cls = c))
  match pick 1, pick 2, pick 3 with
  | some f, _, _ => some (f, q.erase f)
  | none, some f, _ => some (f, q.erase f)
  | none, none, some f => some (f, q.erase f)
  | none, none, none => none

/-- A command to a valve bank leaves the MAC: its ACK_TIMEOUT starts, and an EJECT becomes visible, with the time of its
transmit stamp (R348, R353). -/
def State.bankLeft (s : State) (m g typ i : Nat) (cseq : BitVec 16) (seq : Word) : State :=
  let x := s.group g
  let s := s.setGroup g { x with outstanding := x.outstanding.map (fun k =>
    if k.seq = seq then { k with sentAt := s.raw } else k) }
  match s.comet i with
  | some c =>
    if typ = 1 ∧ c.seq = cseq ∧ c.onAt = none then s.setComet i { s.seen c with tOn := s.txStamp m } else s
  | none => s

/-- ETH_FRAME_TRANSMIT (R498, R348, R528). -/
def execEthFrameTransmit (m : Fin 8) (s : State) : Out :=
  let n := m.val
  .next (if s.macUp n then
    match takeFrame s.maySend (s.mac n).txq with
    | some (f, rest) =>
      let s := (s.setMac n { s.mac n with txq := rest }).bump Reg.LN_MAC_CNT n 1
      match f.tag with
      | .bank g typ i cseq seq => s.bankLeft n g typ i cseq seq
      | .ptp k => s.ptpSent n k
      | _ => s
    | none => s
  else s)

/-- An ARP request of the CP for the bank of a remote group (R350). -/
def State.bankArp (s : State) (g : Nat) : State :=
  s.macSend (s.f Reg.WT_GRP_CFG 1 3 g) { cls := 3, tag := .cp, data := [] }

/-- MAC_LINK_UP (R497, R350): every lane of the MAC is ACTIVE and locked, and trained where it trains. The CP sends a
gratuitous ARP, and asks for the banks of the groups that send here. -/
def execMacLinkUp (m : Fin 8) (s : State) : Out :=
  let n := m.val
  let ready := (s.macLanes n).all (fun l => decide (s.laneState l = 0) && s.laneLock l &&
    (!s.bit Reg.LN_LANE_CFG 3 l || s.bit Reg.LN_LANE_STATUS 3 l))
  .next (if s.macEnabled n ∧ !s.macUp n ∧ ready then
    let s := s.setBit Reg.LN_MAC_CFG 31 true n
    let s := s.macSend n { cls := 3, tag := .cp, data := [] }
    s.forAll (upTo 16) (fun g s =>
      s.when (s.on .WT && s.grpRemote g && decide (s.f Reg.WT_GRP_CFG 1 3 g = n)) (fun s => s.bankArp g))
  else s)

/-! ### Kalinamo (R501 to R511) -/

/-- FLIT_RECEIVE (R281, R501, R503, R505). -/
def execFlitReceive (j : Fin 4) (f : Flit) (crcOk : Bool) (s : State) : Out :=
  .next (if s.linkUp j then (s.flitIn j f crcOk).splitServe else s)

/-- RETRY_TIMEOUT (R501). -/
def execRetryTimeout (j : Fin 4) (s : State) : Out :=
  .next (if s.linkUp j ∧ (s.link j).replay ≠ [] ∧
      max 1 (s.f Reg.FAB_LINK_CFG 16 8 j) * 100 ≤ s.since (s.link j).progressAt then s.replayLink j else s)

/-- ACK_INTERVAL (R501). -/
def execAckInterval (j : Fin 4) (s : State) : Out :=
  .next (if s.linkUp j ∧ 1000 ≤ s.since (s.link j).ackAt then s.controlOut j else s)

/-- LINK_RETRAIN_TIMEOUT (R502). -/
def execLinkRetrainTimeout (j : Fin 4) (s : State) : Out := .next (if s.on .FAB then s.retrainLate j else s)

/-- LANE_FAIL (R508): a millisecond of lane `k` of link `j`, with the time its lock was lost, its uncorrectable codewords
and its corrected symbols. -/
def execLaneFail (j k : Fin 4) (lostNs unc corr : Nat) (s : State) : Out :=
  let l := 16 + 4 * j.val + k.val
  .next (if s.linkUp j then
    let s := (s.bumpBy corr Reg.LN_LANE_CNT l 2).bumpBy unc Reg.LN_LANE_CNT l 3
    if 1000 ≤ lostNs then s.failLane j k 1
    else if max 1 (s.f Reg.FAB_LINK_CFG 24 8 j) < unc then s.failLane j k 2
    else if 2 ^ 20 < corr then s.failLane j k 3
    else s
  else s)

/-- SWAP_REQ_RECEIVE (R509, R511): the peer has judged lane `k` failed; of two requests the lower lane wins. -/
def execSwapReqReceive (j k : Fin 4) (s : State) : Out :=
  .next (if s.linkUp j ∧ (s.dataLanes j).contains k.val ∧ s.spareFree j then
    match (s.link j).swap with
    | some x => if x % 4 < k.val then s else (s.controlOut j).swapDone j k 0
    | none => (s.controlOut j).swapDone j k 0
  else s)

/-- SWAP_ACK_RECEIVE (R509). -/
def execSwapAckReceive (j : Fin 4) (s : State) : Out :=
  .next (match (s.link j).swap with
    | some x => if s.linkUp j then s.swapDone j (x % 4) (x / 4) else s
    | none => s)

/-- A write of FAB_INJECT. -/
def State.injectWrite (s : State) (w : Writer) (j : Nat) (n : Byte) : State :=
  s.gate w Reg.FAB_INJECT j 0 0 (fun s => s.setLink j { s.link j with inject := n.toNat })

/-- FAB_INJECT (R511). -/
def execFabInject (w : Writer) (j : Fin 4) (n : Byte) (s : State) : Out := .next (s.injectWrite w j n)

end Sys2Proof.Machine
end

