-- ==== Sys2Proof/Machine/Power.lean ====
section
/-!
DEFINITION. Operating points, throttling, power states and wake (spec/20_power_states_and_retention.md).
-/
namespace Sys2Proof.Machine

open Sys2Proof

/-! ### Operating points and throttling (R545 to R549) -/

/-- Supply of an operating point in mV (R545). -/
def opMillivolts (op : Nat) : Nat := if op = 0 then 900 else if op = 1 then 800 else if op = 2 then 700 else 620

/-- Requested operating point. -/
def State.opRequested (s : State) : Nat := s.f Reg.PM_OP_STATUS 0 2
/-- Throttle cap. -/
def State.opCap (s : State) : Nat := s.f Reg.PM_OP_STATUS 2 2
/-- Effective operating point, as PM_OP_STATUS shows it. -/
def State.opEffective (s : State) : Nat := s.f Reg.PM_OP_STATUS 4 2

/-- EFFECTIVE is the lower of request and cap; THROTTLED and the supply follow (R548). -/
def State.syncOp (s : State) : State :=
  let e := max s.opRequested s.opCap
  let s := (s.setF Reg.PM_OP_STATUS 4 2 e).setBit Reg.PM_OP_STATUS 8 (decide (s.opRequested < s.opCap))
  (s.setF Reg.PM_OP_STATUS 16 16 (opMillivolts e)).syncLoads

/-- The hottest core sensor reads `degC`: PM_TJ follows; crossing 105 °C raises HOT, and below 95 °C a thermal trip no
longer holds wake sources off (R548, R549). -/
def State.measure (s : State) (degC : Int) : State :=
  let old := sfld (s.rd Reg.PM_TJ) 0 8
  let peak := max degC (sfld (s.rd Reg.PM_TJ) 8 8)
  let byte (x : Int) : Nat := (BitVec.ofInt 8 (clampS 8 x)).toNat
  let s := s.wr Reg.PM_TJ (BitVec.ofNat 32 (byte peak * 256 + byte degC))
  let s := s.when (decide (old < 105) && decide (105 ≤ degC)) (fun s => s.raise Reg.PM_EVENT 3)
  if degC < 95 then { s with pm := { s.pm with tripHold := false } } else s

/-- THROTTLE_C, clamped (R548). -/
def State.throttleC (s : State) : Int := clampI 100 115 (s.f Reg.PM_THERMAL_CFG 0 8)

/-- `n` ns have run since the last throttle step. -/
def State.stepDue (s : State) (n : Nat) : Bool :=
  match s.pm.lastStep with
  | some t => decide (n ≤ s.since t)
  | none => true

/-- THROTTLE_STEP_DOWN (R548): at `degC` °C the cap steps one point lower every 10 ms. -/
def execThrottleStepDown (degC : Int) (s : State) : Out :=
  .next (if s.core.alive then
    let s := s.measure degC
    if s.live ∧ s.power ≠ 3 ∧ s.throttleC ≤ degC ∧ s.stepDue 10000000 ∧ s.opCap < 3 then
      let s := (s.setF Reg.PM_OP_STATUS 2 2 (s.opCap + 1)).syncOp
      { ((s.raise Reg.PM_EVENT 1).bump Reg.PM_CNT 0) with pm := { s.pm with lastStep := some s.raw, coolSince := none } }
    else s
  else s)

/-- THROTTLE_STEP_UP (R548): at `degC` °C, below THROTTLE_C - 5 for 100 ms, the cap steps one point higher every 100 ms. -/
def execThrottleStepUp (degC : Int) (s : State) : Out :=
  .next (if s.core.alive then
    let s := s.measure degC
    if s.throttleC - 5 ≤ degC then { s with pm := { s.pm with coolSince := none } }
    else
      match s.pm.coolSince with
      | none => { s with pm := { s.pm with coolSince := some s.raw } }
      | some t =>
        if s.live ∧ s.power ≠ 3 ∧ 100000000 ≤ s.since t ∧ s.stepDue 100000000 ∧ 0 < s.opCap then
          let was := s.bit Reg.PM_OP_STATUS 8
          let s := (s.setF Reg.PM_OP_STATUS 2 2 (s.opCap - 1)).syncOp
          let s := s.when (was && !s.bit Reg.PM_OP_STATUS 8) (fun s => s.raise Reg.PM_EVENT 2)
          { s with pm := { s.pm with lastStep := some s.raw } }
        else s
  else s)

/-- TEMPERATURE_HOT (R549). -/
def execTemperatureHot (degC : Int) (s : State) : Out := .next (if s.core.alive then s.measure degC else s)

/-- An accepted change of the operating point starts (R546, R547): the reply waits for its end. -/
def State.startOp (s : State) (m op : Nat) : State :=
  let s := (s.setF Reg.PM_OP_STATUS 0 2 op).setBit Reg.PM_OP_STATUS 9 true
  { (s.setMb m 2) with pm := { s.pm with opTarget := some (op, m) } }

/-- OP_CHANGE_DONE (R547). -/
def execOpChangeDone (s : State) : Out :=
  .next (match s.pm.opTarget with
    | some (_, m) =>
      if s.live ∧ s.power ≠ 3 then
        let s := ({ s with pm := { s.pm with opTarget := none } }).syncOp
        let s := ((s.setBit Reg.PM_OP_STATUS 9 false).raise Reg.PM_EVENT 0).bump Reg.PM_CNT 1
        s.answer m S_OK
      else s
    | none => s)

/-! ### Entry (R550 to R555, R561) -/

/-- The number of the first entry condition of R552 that fails, of those numbered up to `last` that `need` names. -/
def State.entryFails (s : State) (need : List Nat) : Option Nat :=
  let busy := s.job.jobs.any (fun p => decide (p.2.st = .running ∨ p.2.st = .draining ∨ p.2.st = .pausing))
  let bad : Nat → Bool := fun k =>
    if k = 1 then busy
    else if k = 2 then s.bit Reg.WT_CTRL 0 || decide (s.f Reg.WT_STATUS 0 17 ≠ 0)
    else if k = 3 then s.memory.mig.isSome
    else s.pm.opTarget.isSome
  need.find? bad

/-- The conditions of R552 for a target state. -/
def entryNeeds (target : Nat) : List Nat := if target = 1 then [1, 4] else [1, 2, 3, 4]

/-- Every unit that loses its power in S2 is empty; lanes are in DEEP (R489, R550, R555, R564). -/
def State.unitsOff (s : State) : State :=
  let s := s.forAll (upTo 32) (fun v s => (s.mergeOf v).foldl (fun t e => t.retireMerge e) s)
  let s := s.forAll (upTo 8) (fun m s => s.setBit Reg.LN_MAC_CFG 31 false m)
  let s := s.forAll (upTo 32) (fun l s => s.laneTo l 2)
  let outs := s.fio.outs.map (fun p => (p.1, { p.2 with pulse := none }))
  { s with cams := [], ispOuts := [], ispCtxs := [], ispPipes := [], dec := {}, lanes := [], macs := []
           fab := { confirms := s.fab.confirms }
           wt := { seqs := s.wt.seqs }
           fio := { s.fio with outs := outs }
           memory := { s.memory with tlb := [] }
           job := { s.job with engines := [] } }

/-- S3: every domain but the always-on one is off (R550, R555, R564). -/
def State.intoS3 (s : State) : State :=
  let s' := (s.outputsOff).blank (regsAfter .s3 s.regs)
  let s' := { s' with
    core := { s.core with cp := .off, romDone := false, restartTimes := [] }
    host := {}
    fio := { forcedOff := true }
    pm := { s.pm with opTarget := none, entry := none, waking := none, wakeReply := none } }
  (s'.setF Reg.PM_STATE 0 3 3).bump Reg.PM_CNT 4

/-- A wake that came during an entry is served after it (R565). -/
def State.pendingWake (s : State) : State :=
  if s.pm.wakePending then
    ({ s with pm := { s.pm with wakePending := false, waking := some s.power } }).setBit Reg.PM_STATE 2 true
  else s

/-- POWER_ENTRY_DONE (R555): the sequencer ends the entry. -/
def execPowerEntryDone (s : State) : Out :=
  .next (match s.pm.entry with
    | some (t, mb) =>
      if s.live then
        let s := { s with pm := { s.pm with entry := none } }
        let reply : State → State := fun s => match mb with
          | some m => s.answer m S_OK
          | none => s
        let s := s.setBit Reg.PM_STATE 2 false
        if t = 1 then (reply ((s.setF Reg.PM_STATE 0 2 1).bump Reg.PM_CNT 2)).pendingWake
        else if t = 2 then
          (reply (((s.saveStore 2).unitsOff.setF Reg.PM_STATE 0 2 2).bump Reg.PM_CNT 3)).pendingWake
        else (reply (s.saveStore 3)).intoS3.pendingWake
      else s
    | none => s)

/-- An accepted SET_POWER_STATE to a deeper state starts (R551, R555): outputs take their SAFE states, or are off. -/
def State.startEntry (s : State) (m target : Nat) : State :=
  let s := { (s.setMb m 2) with pm := { s.pm with entry := some (target, some m) } }
  let s := s.setBit Reg.PM_STATE 2 true
  if target = 2 then ({ s with fio := { s.fio with safe := true } }).syncOuts
  else if target = 3 then s.outputsOff
  else s

/-- A SET_POWER_STATE that ends at once; LAST_STATUS holds its status. -/
def State.powerAnswer (s : State) (m status d0 : Nat) : State :=
  (s.setF Reg.PM_STATE 16 16 status).answer m status [] d0

/-- SET_POWER_STATE (R551, R552, R565). -/
def execSetPowerState (m : Fin 16) (s : State) : Out :=
  .next (if s.pm.waking.isSome then s
    else s.command m 5 (some 4) true (fun s =>
      let t := s.arg m 0 1
      s.fields m (decide (t ≤ 3) && decide (s.arg m 1 3 = 0)) (fun s =>
        let cur := s.power
        if t = cur then s.powerAnswer m S_OK 0
        else if t = 0 then
          let s := (s.setF Reg.PM_STATE 16 16 S_OK).setMb m 2
          ({ s with pm := { s.pm with wakeReply := some m.val } }).wakeFire 5 [1, 2]
        else if t < cur then s.powerAnswer m S_POWER_STATE 0
        else
          match s.entryFails (entryNeeds t) with
          | some k => s.powerAnswer m S_POWER_STATE k
          | none => (s.setF Reg.PM_STATE 16 16 S_OK).startEntry m t)))

/-- THERMAL_TRIP (R549): a core sensor at 125 °C or a tower at 100 °C. -/
def execThermalTrip (core tower : Int) (s : State) : Out :=
  .next (if s.core.alive ∧ !s.core.quiesced then
    let s := s.measure core
    if (125 ≤ core ∨ 100 ≤ tower) ∧ s.live ∧ s.power ≠ 3 then
      let s := (s.saveStore 3).intoS3
      let s := { s with pm := { s.pm with tripHold := decide (95 ≤ core), wakePending := false } }
      (s.raise Reg.PM_EVENT 6).bump Reg.PM_CNT 6
    else s
  else s)

/-! ### Wake (R556 to R560) -/

/-- WAKE_BUS_FRAME (R559): a frame to this module's address, or to all. -/
def execWakeBusFrame (addr : BitVec 7) (cmd : Byte) (s : State) : Out :=
  let mine := decide (addr.toNat = s.f Reg.PM_WAKE_ADDR 0 7) && decide (addr ≠ 0x7F) && decide (addr ≠ 0)
  .next (if s.core.alive ∧ !s.core.quiesced ∧ (mine ∨ addr = 0) then
    let ack := decide (cmd = 1) || (decide (cmd = 2) && decide (s.power = 0))
    let s := { s with pm := { s.pm with busAnswer := if mine then some ack else none } }
    if cmd = 1 ∧ s.bit Reg.PM_WAKE_CFG 0 then s.wakeFire 0 [1, 2, 3] else s
  else s)

/-- A burst or a gap of the wake pattern has a length within its limits (R560). -/
def patternTime (ns : Nat) : Bool := decide (100000 ≤ ns) && decide (ns ≤ 1000000)

/-- Three bursts with two gaps between them, all within 5 ms; each pair is a burst and the gap after it. -/
def patternSeen : List (Nat × Nat) → Bool
  | a :: b :: c :: t =>
    (patternTime a.1 && patternTime a.2 && patternTime b.1 && patternTime b.2 && patternTime c.1 &&
      decide (a.1 + a.2 + b.1 + b.2 + c.1 ≤ 5000000)) || patternSeen (b :: c :: t)
  | _ => false

/-- WAKE_PATTERN (R560): the bursts and gaps that a lane in DEEP sees. -/
def execWakePattern (lane : Fin 32) (bursts : List (Nat × Nat)) (s : State) : Out :=
  .next (if s.bit Reg.PM_WAKE_LANES lane ∧ s.bit Reg.PM_WAKE_PATTERN lane ∧ patternSeen bursts then
    s.wakeFire 2 [2, 3] else s)

/-- SDIO_START_BIT_WAKE (R558). -/
def execSdioStartBitWake (s : State) : Out := .next (if s.bit Reg.PM_WAKE_CFG 1 then s.wakeFire 1 [3] else s)

/-- QM_STATUS and QM_POOL_FREE follow the enabled queues. -/
def State.syncQueues (s : State) : State :=
  let on := (s.regs.filter (fun p => decide (0x1900000 ≤ p.1) && decide (p.1 < 0x1980000) && decide (p.1 % 32 = 0) &&
    p.2.getLsbD 31)).map (fun p => p.2)
  (s.wr Reg.QM_STATUS (BitVec.ofNat 32 on.length)).wr Reg.QM_POOL_FREE
    (BitVec.ofNat 32 (131072 - (on.map ringKib).sum))

/-- The exit to S0 ends: WAKE counted, the reply of a SET_POWER_STATE 0. -/
def State.awake (s : State) : State :=
  let s := ((s.setF Reg.PM_STATE 0 3 0).bump Reg.PM_CNT 5)
  let mb := s.pm.wakeReply
  let s := { s with pm := { s.pm with waking := none, wakeReply := none } }
  match mb with
  | some m => s.answer m S_OK
  | none => s

/-- Wake from S2 (R556, R563). -/
def State.wakeS2 (s : State) (ok : Bool) : State :=
  let good := s.storeGood ok
  let kept (m : AMap Word) : AMap Word := m.filter (fun p => ((blockAt p.1).map Block.onInS2).getD true)
  let s := { s with regs := regsAfter .s2 s.regs, pairLatch := kept s.pairLatch, pairPend := kept s.pairPend }
  let s := s.setF Reg.PM_STATE 0 2 0
  let s := if good then s.restoreWords (fun b => decide (b = .WT ∨ b = .QM ∨ b = .LN ∨ b = .FAB)) else s.storeBad
  s.syncQueues.claimLanes.syncJobs.outputsFree

/-- Wake from S3 (R534, R556, R557, R563): a boot as after POR, which does not wait for I/O Enable. -/
def State.wakeS3 (s : State) (ok : Bool) : State :=
  let good := s.storeGood ok
  let s' := s.blank (regsAfter .s3 s.regs)
  let s := { s' with pm := { s.pm with hostBlocked := true } }
  let s := (s.setF Reg.PM_STATE 0 2 0).startBoot
  let s := if good then s.restoreWords (fun _ => true) else s.storeBad
  let s := s.when (s.bit Reg.TIME_PTP_CFG 0) (fun s => s.setF Reg.TIME_STATUS 4 3 1)
  s.syncQueues.claimLanes.outputsFree

/-- WAKE_DONE (R550, R556, R563); `storeOk` says whether the SEC-DED check of the store passes. -/
def execWakeDone (storeOk : Bool) (s : State) : Out :=
  .next (match s.pm.waking with
    | some p =>
      if p = 1 then ({ s with regs := regsAfter .s1 s.regs }).awake
      else if p = 2 then (s.wakeS2 storeOk).awake
      else (s.wakeS3 storeOk).awake
    | none => s)

end Sys2Proof.Machine
end

