-- ==== Sys2Proof/Machine/Commands.lean ====
section
/-!
DEFINITION. The commands on the module itself: operating point, camera control, queues, spare swap and soft maps
(spec/16_host_link_and_mailboxes.md, R473, R475; R317, R426, R449, R546).
-/
namespace Sys2Proof.Machine

open Sys2Proof

/-! ### SET_OPERATING_POINT (R17, R26, R125, R140, R308, R546) -/

/-- The first check that an operating point fails. -/
def State.opRefused (s : State) (op : Nat) : Option Nat :=
  firstSt
    [ need (s.jobsOk op) S_DEADLINE_INFEASIBLE, need (s.ingressOk op && s.pipesOk op) S_INGRESS_BUDGET,
      need (s.decOk op) S_DECODE_BUDGET ]

/-- SET_OPERATING_POINT (R546): the reply follows at the end of the change. -/
def execSetOperatingPoint (m : Fin 16) (s : State) : Out :=
  .next (s.command m 4 (some 4) true (fun s =>
    let op := s.arg m 0 1
    s.fields m (decide (op ≤ 3) && decide (s.arg m 1 3 = 0)) (fun s =>
      match s.opRefused op with
      | some st => s.answer m st
      | none => (s.checkedAt op).startOp m op)))

/-! ### CAM_CONTROL (R475) -/

/-- The packet in flight of a transfer is sent: by the control channel of the port, or as a GVCP frame. -/
def State.camSend (s : State) (x : CamXfer) (retries : Nat) : State :=
  let s := { s with host := { s.host with camXfer := some { x with retries := retries, sentAt := s.raw } } }
  if s.camUp x.port ∧ s.camGev x.port then s.macSend (s.camMac x.port) { cls := 2, tag := .gvcp x.port, data := [] } else s

/-- A transfer begins; one of no bytes is over at once. -/
def State.camBegin (s : State) (m : Nat) (write : Bool) (data : List Byte) : State :=
  let n := s.arg m 8 4
  if n = 0 then s.answer m S_OK
  else
    (s.setMb m 2).camSend
      { mailbox := m, port := s.arg m 0 1, write := write, addr := s.arg m 4 4, left := n, wdata := data, rdata := [], retries := 0,
        sentAt := s.raw } 0

/-- Fields that reads and writes share. -/
def State.camFields (s : State) (m : Nat) : Bool :=
  decide (s.arg m 0 1 ≤ 7) && decide (s.arg m 1 1 ≤ 1) && decide (s.arg m 2 2 = 0) && decide (s.arg m 8 4 ≤ 4064)

/-- CAM_CONTROL read (R475). -/
def execCamControlRead (m : Fin 16) (s : State) : Out :=
  .next (s.command m 8 (some 12) (!decide (s.arg m 1 1 = 1)) (fun s => s.fields m (s.camFields m) (fun s => s.camBegin m false [])))

/-- CAM_CONTROL write (R475). -/
def execCamControlWrite (m : Fin 16) (s : State) : Out :=
  .next (s.command m 8 none (decide (s.arg m 1 1 = 1)) (fun s =>
    s.fields m (s.camFields m) (fun s =>
      if s.cmdLen m ≠ 12 + s.arg m 8 4 then s.answer m S_BAD_LENGTH
      else s.camBegin m true (s.argBytes m 12 (s.arg m 8 4)))))

/-- The transfer after an acknowledgement of `data`: the bytes read, or those that the camera has taken. -/
def CamXfer.acked (x : CamXfer) (data : List Byte) : CamXfer :=
  let k := min x.left data.length
  { x with addr := x.addr + k, left := x.left - k, wdata := if x.write then x.wdata.drop k else [],
           rdata := if x.write then [] else x.rdata ++ data.take k }

/-- CONTROL_ACKNOWLEDGE (R475): the next packet follows, or the reply. An answer that acknowledges nothing leaves the packet
in flight to its time limit. -/
def execControlAcknowledge (port : Fin 8) (ok : Bool) (data : List Byte) (s : State) : Out :=
  .next (match s.host.camXfer with
    | some x =>
      if x.port ≠ port ∨ !ok ∨ data = [] ∨ s.core.cp ≠ .running then s
      else
        let y := x.acked data
        if y.left = 0 then ({ s with host := { s.host with camXfer := none } }).answer y.mailbox S_OK y.rdata
        else s.camSend y 0
    | none => s)

/-- CAMERA_TIMEOUT (R475): 200 ms without an acknowledgement; after three retries the transfer stops. -/
def execCameraTimeout (s : State) : Out :=
  .next (match s.host.camXfer with
    | some x =>
      if s.core.cp ≠ .running ∨ s.since x.sentAt < 200000000 then s
      else if x.retries < 3 then s.camSend x (x.retries + 1)
      else ({ s with host := { s.host with camXfer := none } }).answer x.mailbox S_CAMERA_TIMEOUT
    | none => s)

/-! ### QUEUE_CREATE, QUEUE_DESTROY (R435, R449) -/

/-- QUEUE_CREATE (R449): a bad Q-id, an enabled queue or a field out of range, then the pool. -/
def execQueueCreate (m : Fin 16) (s : State) : Out :=
  .next (s.command m 0x10 (some 12) true (fun s =>
    let q := s.arg m 0 2
    let b (i : Nat) : Nat := s.arg m i 1
    let water := s.arg m 8 4
    let w := queueWord (b 2) (b 3) (b 4) (b 5) (b 6) (b 7) water
    if q < 256 ∨ 16384 ≤ q ∨ s.bit Reg.QM_Q_CFG 31 q ∨ 1 < b 2 ∨ 1 < b 3 ∨ 3 < b 4 ∨ b 5 < 4 ∨ 16 < b 5 ∨ 3 < b 6 ∨ 1 < b 7 ∨
        2 ^ 17 ≤ water then s.answer m S_INVALID_CONFIG
    else if (s.rd Reg.QM_POOL_FREE).toNat < ringKib w then s.answer m S_QUEUE_BUDGET
    else (s.makeQueue q w).answer m S_OK))

/-- A producer holds credits or reservations, a job names the queue, or a register does (R449). -/
def State.queueInUse (s : State) (q : Nat) : Bool :=
  let x := s.queue q
  decide (x.granted ≠ 0) || x.items.any (fun i => !i.published) || s.job.jobs.any (fun p => decide (p.2.complQ = q))
    || decide (s.f Reg.DEC_REPORT_Q 0 14 = q)

/-- QUEUE_DESTROY (R449). -/
def execQueueDestroy (m : Fin 16) (s : State) : Out :=
  .next (s.command m 0x11 (some 4) true (fun s =>
    let q := s.arg m 0 2
    s.fields m (decide (s.arg m 2 2 = 0)) (fun s =>
      if q < 256 ∨ 16384 ≤ q ∨ !s.bit Reg.QM_Q_CFG 31 q then s.answer m S_INVALID_CONFIG
      else if s.queueInUse q then s.answer m S_BUSY
      else (s.dropQueue q).answer m S_OK)))

/-! ### SPARE_SWAP, CLEAR_SOFT_MAP (R317, R426) -/

/-- SPARE_SWAP (R317): at the next tile boundary of the spire; the reply names the spire that presents it then. -/
def execSpareSwap (m : Fin 16) (s : State) : Out :=
  .next (s.command m 0x30 (some 4) true (fun s =>
    let u := s.arg m 0 1
    s.fields m (decide (u ≤ 31) && decide (s.arg m 1 3 = 0)) (fun s =>
      match s.spireOf u with
      | some e =>
        let s := s.setMb m 2
        (({ s with host := { s.host with swapWait := some (m, u, e) } }).swapAt e).swapAnswer
      | none => s.answer m S_SPIRES_UNAVAILABLE)))

/-- CLEAR_SOFT_MAP (R426). -/
def execClearSoftMap (m : Fin 16) (s : State) : Out :=
  .next (s.command m 0x31 (some 4) true (fun s =>
    s.fields m (decide (s.arg m 0 4 = 0x5A5A0002)) (fun s =>
      (({ s with flash := { s.flash with softMap := [], softDisabled := [] } }).syncSpare).answer m S_OK)))

end Sys2Proof.Machine
end

