-- ==== Sys2Proof/Machine/Fio.lean ====
section
/-!
DEFINITION. Field inputs and outputs (spec/12_field_io.md): the commands of the field supply, the inputs and the outputs.
-/
namespace Sys2Proof.Machine

open Sys2Proof

/-! ### Inputs (R367 to R370) -/

/-- A new level of input `n` is accepted: the captures, FIO_DI_STATE, the detection of INPUT lanes, the snapshot trigger
and the wake source (R324, R369, R558, R577). -/
def State.diAccept (s : State) (n : Nat) (level : Bool) : State :=
  let shown := level != s.bit Reg.FIO_DI_CFG 1 n
  let x : DiSt := { level := level, capTime := s.now, capPos := (s.enc (s.f Reg.FIO_DI_CFG 5 2 n)).pos }
  let s := (s.setDin n x).setBit Reg.FIO_DI_STATE n shown
  let s := s.inputLanes n shown
  let s := s.when (decide (s.f Reg.SNAP_TRIG_DI 0 4 = n) && decide (s.bit Reg.SNAP_TRIG_DI 4 = !shown)) (fun s => s.snapFire 2)
  s.when (s.bit Reg.PM_WAKE_CFG (16 + n)) (fun s => s.wakeFire 3 [2])

/-- DI_EDGE (R368, R369): the level at input `n` has held for `held` filter clocks. Without a field supply an input reads
off. -/
def execDiEdge (n : Fin 16) (level : Bool) (held : Nat) (s : State) : Out :=
  .next (if s.on .FIO ∧ s.f Reg.FIO_DI_CFG 16 16 n + 1 ≤ held ∧ level ≠ (s.din n).level ∧ !(level && s.fieldGone) then
    s.diAccept n level else s)

/-- DI_OPEN (R370): the input current has stayed below 0.2 mA for 10 ms. -/
def execDiOpen (n : Fin 16) (microamps heldNs : Nat) (s : State) : Out :=
  .next (if s.on .FIO ∧ s.bit Reg.FIO_DI_CFG 2 n ∧ microamps < 200 ∧ 10000000 ≤ heldNs
      ∧ !s.bit Reg.FIO_DI_STATE (16 + n) then
    ((s.setBit Reg.FIO_DI_STATE (16 + n) true).raise Reg.FIO_EVENT 3).bump Reg.FIO_CNT 5
  else s)

/-- DI_OPEN_CLEAR (R370): the input current is above 0.5 mA again. -/
def execDiOpenClear (n : Fin 16) (microamps : Nat) (s : State) : Out :=
  .next (if s.on .FIO ∧ 500 < microamps then s.setBit Reg.FIO_DI_STATE (16 + n) false else s)

/-! ### The field supply (R358) -/

/-- The state that a supply voltage in units of 100 mV calls for: 0 ABSENT, 1 UNDER, 2 GOOD, 3 OVER. -/
def supplyClass (dv : Nat) : Nat := if dv < 90 then 0 else if dv < 170 then 1 else if dv ≤ 330 then 2 else 3

/-- A pending release of a local ejection goes through once no output of its group is driven (R343). -/
def State.releasePending (s : State) : State := s.forAll s.cometIdx (fun i s => s.ejMinPulse i)

/-- The field supply takes a new state: leaving GOOD is raised and counted, the outputs follow, and ABSENT takes the
inputs and the encoder receivers with it (R61, R358, R649). -/
def State.supplyState (s : State) (new : Nat) : State :=
  let old := s.f Reg.FIO_SUPPLY 16 2
  if new = old then s
  else
    let s := s.setF Reg.FIO_SUPPLY 16 2 new
    let s := s.when (decide (old = 2)) (fun s => (s.raise Reg.FIO_EVENT 0).bump Reg.FIO_CNT 0)
    let s := s.when (decide (new = 0)) (fun s =>
      (s.forAll (upTo 16) (fun n s => if (s.din n).level then s.diAccept n false else s)).encFieldLost)
    let s := s.when (decide (old = 0)) (fun s => s.encFieldBack)
    s.syncOuts.releasePending

/-- FIELD_SUPPLY_CHANGE (R358): the supply has been at `decivolts` for `heldNs`; UNDER and OVER need 50 microseconds. -/
def execFieldSupplyChange (decivolts heldNs : Nat) (s : State) : Out :=
  let new := supplyClass decivolts
  .next (if s.on .FIO then
    let s := s.setF Reg.FIO_SUPPLY 0 9 (min decivolts 511)
    if (new = 1 ∨ new = 3) ∧ heldNs < 50000 then s else s.supplyState new
  else s)

/-! ### Outputs (R359 to R374) -/

/-- The level that a bit of FIO_DO_SET takes: the bit of an output that HOST does not own keeps its stored value. -/
def State.hostBit (s : State) (v : Word) (n : Nat) : Bool :=
  if s.doOwner n = 0 then v.getLsbD n else s.bit Reg.FIO_DO_SET n

/-- A write of FIO_DO_SET (R359, R557): foreign bits that would change are counted, one by one. -/
def State.doSetWrite (s : State) (v : Word) : State :=
  let foreign := ((upTo 32).filter (fun n =>
    decide (s.doOwner n ≠ 0) && decide (v.getLsbD n ≠ s.bit Reg.FIO_DO_SET n))).length
  let new := (upTo 32).foldl (fun (w : Word) n => if s.hostBit v n then w ||| BitVec.ofNat 32 (2 ^ n) else w) 0
  let s := (s.wr Reg.FIO_DO_SET new).bumpBy foreign Reg.FIO_CNT 6
  ({ s with pm := { s.pm with hostBlocked := false } }).syncOuts

/-- FIO_DO_SET_WRITE (R359, R374). -/
def execFioDoSetWrite (w : Writer) (v : Word) (s : State) : Out :=
  .next (s.gate w Reg.FIO_DO_SET 0 0 0 (fun s => s.doSetWrite v))

/-- PULSE_NS of the local ejections that hold output `n` stops at a fault of it (R373). -/
def fixPulse (s : State) (n : Nat) (p : Nat × Comet) : Nat × Comet :=
  if p.2.phase = .holding ∧ p.2.onAt.isSome ∧ s.groupHas p.2.group n then
    (p.1, { p.2 with pulseNs := pulseTo p.2 s.raw, pulseFixed := true }) else p

/-- Output `n` has faulted (R360, R371 to R373): its whole gang goes off, and the leader reports it in status bit `b`. -/
def State.outFault (s : State) (n b cnt : Nat) : State :=
  let l := s.leader n
  let held := s.wtHolds l
  let t := { s with wt := { s.wt with comets := s.wt.comets.map (fixPulse s l) } }
  let t := ((t.setBit Reg.FIO_DO_STATUS b true l).raise Reg.FIO_EVENT 1).bump Reg.FIO_CNT cnt
  let t := t.when held (fun t => t.bump Reg.FIO_CNT 7)
  (t.setDout l { t.dout l with faulted := true, faultAt := t.raw }).syncOuts.releasePending

/-- OVERLOAD (R371): the current limit has held for 100 microseconds. -/
def execOverload (n : Fin 32) (heldNs : Nat) (s : State) : Out :=
  .next (if s.on .FIO ∧ (s.dout n).on ∧ 100000 ≤ heldNs then s.outFault n 1 1 else s)

/-- OVERTEMP (R371): the switch junction is above 150 °C. -/
def execOvertemp (n : Fin 32) (degC : Int) (s : State) : Out :=
  .next (if s.on .FIO ∧ 150 < degC ∧ !s.bit Reg.FIO_DO_STATUS 2 (s.leader n) then s.outFault n 2 2 else s)

/-- A live warning is set on the leader (R371). -/
def State.outWarn (s : State) (n b cnt : Nat) : State :=
  let l := s.leader n
  if s.bit Reg.FIO_DO_STATUS b l then s
  else ((s.setBit Reg.FIO_DO_STATUS b true l).raise Reg.FIO_EVENT 2).bump Reg.FIO_CNT cnt

/-- OPEN_ON (R371): below 3 mA for 1 ms while energised. -/
def execOpenOn (n : Fin 32) (microamps heldNs : Nat) (s : State) : Out :=
  .next (if s.on .FIO ∧ s.bit Reg.FIO_DO_STATE n ∧ microamps < 3000 ∧ 1000000 ≤ heldNs then s.outWarn n 3 3 else s)

/-- OPEN_OFF (R371): above 3 V for 1 ms while off, with OPEN_EN. -/
def execOpenOff (n : Fin 32) (millivolts heldNs : Nat) (s : State) : Out :=
  .next (if s.on .FIO ∧ s.bit Reg.FIO_DO_CFG 5 (s.leader n) ∧ !(s.dout n).on ∧ 3000 < millivolts ∧ 1000000 ≤ heldNs then
    s.outWarn n 4 3 else s)

/-- STUCK_ON (R371): above 12 V for 5 ms while commanded off. -/
def execStuckOn (n : Fin 32) (millivolts heldNs : Nat) (s : State) : Out :=
  .next (if s.on .FIO ∧ !s.doCommanded n ∧ 12000 < millivolts ∧ 5000000 ≤ heldNs then s.outWarn n 5 4 else s)

/-- The status bit of a warning. -/
def warnBit : OutWarn → Nat
  | .openOn => 3
  | .openOff => 4
  | .stuckOn => 5

/-- OUTPUT_WARN_CLEAR (R372): the condition of a warning has ended. -/
def execOutputWarnClear (n : Fin 32) (flag : OutWarn) (s : State) : Out :=
  .next (if s.on .FIO then s.setBit Reg.FIO_DO_STATUS (warnBit flag) false (s.leader n) else s)

/-- The fault of the gang of output `n` is cleared, and the output follows its owner again. -/
def State.outRecover (s : State) (n : Nat) : State :=
  let l := s.leader n
  let s := (s.setBit Reg.FIO_DO_STATUS 1 false l).setBit Reg.FIO_DO_STATUS 2 false l
  (s.setDout l { s.dout l with faulted := false }).syncOuts

/-- OUTPUT_RESTART (R372): with RESTART set, below 130 °C and at least 10 ms after the fault. -/
def execOutputRestart (n : Fin 32) (degC : Int) (s : State) : Out :=
  let l := s.leader n
  .next (if s.on .FIO ∧ s.bit Reg.FIO_DO_CFG 4 l ∧ (s.dout l).faulted ∧ degC < 130 ∧ 10000000 ≤ s.since (s.dout l).faultAt then
    s.outRecover n else s)

/-- A write of FIO_DO_CLEAR (R372, R374); bit `n` of `hot` says that switch `n` has not cooled below 130 °C or that its
fault is still there. -/
def State.doClear (s : State) (v hot : Word) : State :=
  s.forAll (upTo 32) (fun n s =>
    if v.getLsbD n ∧ s.leader n = n ∧ (s.dout n).faulted ∧ !s.bit Reg.FIO_DO_CFG 4 n
        ∧ (s.gang n).all (fun m => !hot.getLsbD m) then s.outRecover n else s)

/-- FIO_DO_CLEAR (R372, R374). -/
def execFioDoClear (w : Writer) (v hot : Word) (s : State) : Out :=
  .next (s.gate w Reg.FIO_DO_CLEAR 0 0 0 (fun s => s.doClear v hot))

end Sys2Proof.Machine
end

