-- ==== Sys2Proof/Machine/RegChecks.lean ====
section
/-!
DEFINITION. The checks that a register write passes before it takes effect (R12, R16, R26, R67 to R88, R131, R140 to R152,
R308, R337, R345, R359 to R361, R482, R495, R503, R641, R643, R647).
-/
namespace Sys2Proof.Machine

open Sys2Proof

/-- The first status of a list of checks whose condition fails. -/
def firstFail : List (Bool × Nat) → Option Nat
  | [] => none
  | (ok, st) :: t => if ok then firstFail t else some st

/-- The fields of a mask differ between two words. -/
def differ (a b : Word) (mask : Nat) : Bool := decide ((a ^^^ b) &&& BitVec.ofNat 32 mask ≠ 0)

/-! ### Reserved values (R641) -/

/-- No field of a word written to a register holds a reserved value. The shadow registers of the image pipeline are checked
at APPLY, and LN_PRBS_CFG at its own write. -/
def reservedOk (a : Nat) (v : Word) : Bool :=
  if a = Reg.CAM_PORT_CFG.addr then decide (fld v 8 2 ≠ 3)
  else if a = Reg.WT_LANE_CFG.addr then decide (fld v 4 2 ≠ 3)
  else if a = Reg.FIO_GANG.addr then (upTo 8).all (fun q => decide (fld v (2 * q) 2 ≠ 3))
  else if a = Reg.FIO_DO_CFG.addr then decide (fld v 0 2 ≠ 3)
  else if a = Reg.LN_LANE_CFG.addr then decide (fld v 8 2 ≠ 3)
  else if a = Reg.LN_MAC_CFG.addr then decide (fld v 6 3 < 6)
  else if a = Reg.TIME_PTP_CFG.addr then decide (fld v 1 2 ≠ 3)
  else if a = Reg.SNAP_MATCH_CFG.addr then decide (fld v 2 2 ≠ 3)
  else true

/-! ### Camera ports (R67 to R88, R643) -/

/-- PITCH and PHASE of port `n` suit the mode of its channel (R78). -/
def State.gridOk (s : State) (n : Nat) : Bool :=
  let pitch := (s.rd Reg.CAM_TRIG_PITCH n).toNat
  let low := if s.f Reg.ENC_CFG 0 2 (s.camEnc n) = 1 then 4096 else 256
  decide (low ≤ pitch) && decide ((s.rd Reg.CAM_TRIG_PHASE n).toNat < pitch)

/-- ALIGN suits the protocol, AREA and SOURCE (R88). -/
def State.alignOk (s : State) (n : Nat) : Bool :=
  !(decide (s.camAlign n = 2) && !(s.camGev n && s.camArea n)) && !(decide (s.camAlign n = 1) && decide (s.camSource n = 0))

/-- A line-scan rate lies within 256 kHz (R70). -/
def State.lineRateOk (s : State) (n : Nat) : Bool := s.camArea n || decide ((s.rd Reg.CAM_MAX_RATE n).toNat ≤ 256000000)

/-- A port that uses a field output names one that CAMERA owns (R359). -/
def State.trigOutOk (s : State) (n : Nat) : Bool :=
  decide (s.camSource n ≠ 2) || decide (s.doOwner (s.f Reg.CAM_TRIG_CFG 8 5 n) = 2)

/-- Pipelines with an enabled context that reads port `n`. -/
def State.portPipes (s : State) (n : Nat) : List Nat := ((s.readersOf 0 n).map (fun x => x / 4)).eraseDups

/-- The checks of R643 on an enabled port, in the state that the write would leave. -/
def State.camCheck (t : State) (n : Nat) : Option Nat :=
  if !t.camEnabled n then none
  else firstFail
    [ (t.lineRateOk n, S_INVALID_CONFIG), (t.alignOk n, S_INVALID_CONFIG), (t.gridOk n, S_INVALID_CONFIG),
      (!t.lanesTaken 1 n (t.camLanes n), S_LANE_CONFLICT), (t.payloadOk n, S_LANE_BUDGET),
      (t.ingressOk t.effOp, S_INGRESS_BUDGET),
      ((t.portPipes n).all (fun p => decide (t.pipeLoad p t.effOp ≤ 1)), S_INGRESS_BUDGET) ]

/-- A format of R74. -/
def fmtOk (w : Word) : Bool :=
  let pattern := fld w 20 4
  let depth := fld w 18 2
  let packed := w.getLsbD 17
  let width := fld w 0 15
  decide (1 ≤ width) && decide (width ≤ 16384) &&
    (if pattern = 0 then (decide (depth = 0 ∨ depth = 3) && !packed) || decide (depth = 1 ∨ depth = 2)
     else if pattern ≤ 4 then (decide (depth = 0) && !packed) || decide (depth = 1 ∨ depth = 2)
     else if pattern ≤ 6 then decide (depth = 0) && !packed
     else false)

/-- A write of CAM_PORT_CFG (R78, R82, R88, R641, R643). -/
def State.portCfgCheck (s t : State) (n : Nat) : Option Nat :=
  let old := s.rd Reg.CAM_PORT_CFG n
  let new := t.rd Reg.CAM_PORT_CFG n
  let off := old.getLsbD 0 && !new.getLsbD 0
  if old.getLsbD 0 ∧ new.getLsbD 0 ∧ differ old new 0x1FFE then some S_BUSY
  else if !reservedOk Reg.CAM_PORT_CFG.addr new then some S_INVALID_CONFIG
  else if !off ∧ !t.gridOk n then some S_INVALID_CONFIG
  else
    match t.camCheck n with
    | some st => some st
    | none => if s.keepsJobs t then none else some S_DEADLINE_INFEASIBLE

/-- The own check of a register of port `n` (R70, R74, R78, R359). -/
def State.camOwnCheck (t : State) (a n : Nat) : Bool :=
  if a = Reg.CAM_FMT.addr then fmtOk (t.rd Reg.CAM_FMT n)
  else if a = Reg.CAM_TRIG_PITCH.addr ∨ a = Reg.CAM_TRIG_PHASE.addr then t.gridOk n
  else if a = Reg.CAM_MAX_RATE.addr then t.lineRateOk n
  else if a = Reg.CAM_TRIG_CFG.addr then t.trigOutOk n
  else true

/-- Registers that enter the checks of R643. -/
def camShared : List Nat := [Reg.CAM_FMT.addr, Reg.CAM_FRAME_CFG.addr, Reg.CAM_MAX_RATE.addr, Reg.CAM_TRIG_CFG.addr]
/-- Registers that enter the check of R16 (R86, R127). -/
def camTimed : List Nat := camShared ++ [Reg.CAM_TRIG_PITCH.addr, Reg.CAM_TRIG_PHASE.addr, Reg.CAM_OFFSET_LO.addr]

/-- The check of a register of port `n` other than CAM_PORT_CFG. -/
def State.camRegCheck (s t : State) (a n : Nat) : Option Nat :=
  if !t.camOwnCheck a n then some S_INVALID_CONFIG
  else
    match (if camShared.contains a then t.camCheck n else none) with
    | some st => some st
    | none => if camTimed.contains a ∧ !s.keepsJobs t then some S_DEADLINE_INFEASIBLE else none

/-! ### Pipelines and decoders (R99, R125, R131, R140 to R142, R152) -/

/-- The check of a pipeline register that takes effect at its write. -/
def State.ispRegCheck (s t : State) (a p o : Nat) : Option Nat :=
  if a = Reg.ISP_PIPE_CTRL.addr then
    firstFail
      [ (t.portsFeed, S_INVALID_CONFIG), (decide (t.pipeLoad p t.effOp ≤ 1), S_INGRESS_BUDGET),
        (s.keepsJobs t, S_DEADLINE_INFEASIBLE) ]
  else if a = Reg.ISP_OUT_CFG.addr then
    let old := s.rd Reg.ISP_OUT_CFG p o
    let new := t.rd Reg.ISP_OUT_CFG p o
    if differ old new 7 ∧ (s.ctxOn p (fld old 1 2) ∨ s.ctxOn p (fld new 1 2)) then some S_BUSY else none
  else none

/-- The checks on stream `n` as it is enabled, in the state that the write would leave (R26, R140, R142). -/
def State.decCheck (s t : State) (n : Nat) : Option Nat :=
  if !t.decOn n then none
  else firstFail
    [ (decide ((t.decUsers false).length ≤ 16), S_INVALID_CONFIG), (t.decOk t.effOp, S_DECODE_BUDGET),
      (t.ingressOk t.effOp, S_INGRESS_BUDGET), (t.pipesOk t.effOp, S_INGRESS_BUDGET),
      (s.keepsJobs t, S_DEADLINE_INFEASIBLE) ]

/-- Fields of DEC_STREAM_CFG that do not change while EN is set (R141): all but MODE, SUBST and EN. -/
def decFrozen : Nat := 0x38000FC2

/-- The other registers of a stream that do not change while EN is set (R141). -/
def decLocked : List Nat :=
  [Reg.DEC_STREAM_MAX.addr, Reg.DEC_STREAM_RATE.addr, Reg.DEC_STREAM_FILL.addr, Reg.DEC_STREAM_BATCH.addr]

/-- BUDGET of stream `n` is long enough, the stream counted whether it is enabled or not (R140). -/
def State.budgetOk (t : State) (n : Nat) : Bool :=
  let pix (m : Nat) : Nat := t.decW m * t.decH m
  let users := (upTo 32).filter (fun m => decide (m = n) ||
    (t.decOn m && t.decHevc m && decide (t.decCore m = t.decCore n)))
  let sum : Nat := if t.decHevc n then (users.map pix).sum else pix n
  decide ((sum : ℚ) / decRate t.effOp ≤ (t.rd Reg.DEC_STREAM_BUDGET n).toNat * 1000)

/-- The check of a decoder register. -/
def State.decRegCheck (s t : State) (r : RegRow) (n : Nat) : Option Nat :=
  if r.addr = Reg.DEC_REPORT_Q.addr then
    let q := t.f Reg.DEC_REPORT_Q 0 14
    if q = 0 ∨ (256 ≤ q ∧ s.qOn q) then none else some S_INVALID_CONFIG
  else if r.addr = Reg.DEC_STREAM_CFG.addr then
    let old := s.rd Reg.DEC_STREAM_CFG n
    if old.getLsbD 0 then (if differ old (t.rd Reg.DEC_STREAM_CFG n) decFrozen then some S_BUSY else none)
    else s.decCheck t n
  else if decLocked.contains r.addr then
    (if s.decOn n ∧ s.rd r n ≠ t.rd r n then some S_BUSY else none)
  else if r.addr = Reg.DEC_STREAM_BUDGET.addr then
    firstFail [(t.budgetOk n, S_DECODE_BUDGET), (s.keepsJobs t, S_DEADLINE_INFEASIBLE)]
  else none

/-! ### Watchtower (R16, R337, R345, R347, R360, R361, R647) -/

/-- D of R345 in sc, times 10^9: EJECT_OFS less the run of the leads at full speed. -/
def State.decisionDist (s : State) (l : Nat) : Int :=
  let g := s.f Reg.WT_LANE_CFG 20 4 l
  let ahead : Nat := if s.bit Reg.WT_GRP_CFG 0 g then (s.rd Reg.WT_GRP_SEND_AHEAD g).toNat * 1000 else 0
  ((s.rd Reg.WT_EJECT_OFS l).toNat : Int) * 1000000000
    - (s.rd Reg.WT_MAX_SPEED l).toNat * ((s.rd Reg.WT_GRP_LEAD_ON g).toNat + ahead) * 16384

/-- The condition of R345 for an enabled lane. -/
def State.laneEjectOk (s : State) (l : Nat) : Bool :=
  let lead := (s.rd Reg.WT_COMMIT_LEAD l).toNat
  !s.bit Reg.WT_LANE_CFG 0 l ||
    (if s.bit Reg.WT_LANE_CFG 19 l then
      decide (lead < (s.rd Reg.WT_EJECT_OFS l).toNat + (s.rd Reg.WT_MIN_LEN l).toNat + (s.rd Reg.WT_EJECT_EXT l).toNat)
    else decide ((lead : Int) * 1000000000 ≤ s.decisionDist l))

/-- The condition of R647 for an enabled WINDOW lane. -/
def State.laneGridOk (s : State) (l : Nat) : Bool :=
  !(s.bit Reg.WT_LANE_CFG 0 l && decide (s.f Reg.WT_LANE_CFG 4 2 l = 1)) ||
    (decide (256 ≤ (s.rd Reg.WT_GRID_PITCH l).toNat) &&
      decide ((s.rd Reg.WT_GRID_PHASE l).toNat < (s.rd Reg.WT_GRID_PITCH l).toNat))

/-- Lane `l` holds comets. -/
def State.laneHolds (s : State) (l : Nat) : Bool := s.wt.comets.any (fun p => decide (p.2.lane = l))

/-- Registers of a lane that R345 names. -/
def laneEjectRegs : List Nat := [Reg.WT_LANE_CFG.addr, Reg.WT_COMMIT_LEAD.addr, Reg.WT_EJECT_OFS.addr, Reg.WT_MIN_LEN.addr,
  Reg.WT_EJECT_EXT.addr, Reg.WT_MAX_SPEED.addr]
/-- Registers of a group that R345 names. -/
def groupEjectRegs : List Nat := [Reg.WT_GRP_CFG.addr, Reg.WT_GRP_LEAD_ON.addr, Reg.WT_GRP_SEND_AHEAD.addr]
/-- Registers of a lane that enter the check of R16. -/
def laneTimed : List Nat := [Reg.WT_COMMIT_LEAD.addr, Reg.WT_MAX_LEN.addr, Reg.WT_MAX_SPEED.addr]

/-- The outputs that one of two masks names. -/
def maskOuts (a b : Word) : List Nat := (upTo 32).filter (fun n => a.getLsbD n || b.getLsbD n)

/-- A mask holds every member of a gang or none (R360). -/
def State.maskWhole (s : State) (m : Word) : Bool :=
  (upTo 32).all (fun n => (s.gang n).all (fun x => m.getLsbD x == m.getLsbD n))

/-- The check of a group's output mask. -/
def State.grpDoCheck (s t : State) (g : Nat) : Option Nat :=
  let old := s.rd Reg.WT_GRP_DO g
  let new := t.rd Reg.WT_GRP_DO g
  if old ≠ new ∧ (maskOuts old new).any (fun n => s.doInUse n) then some S_BUSY
  else if !s.maskWhole new then some S_INVALID_CONFIG
  else if (maskOuts new 0).any (fun n => decide (s.doOwner n ≠ 1)) then some S_INVALID_CONFIG
  else none

/-- The check of a register of lane or group `i`. -/
def State.wtRegCheck (s t : State) (a i : Nat) : Option Nat :=
  if a = Reg.WT_LANE_CFG.addr ∧ differ (s.rd Reg.WT_LANE_CFG i) (t.rd Reg.WT_LANE_CFG i) 0x330 ∧ s.laneHolds i then
    some S_BUSY
  else if laneEjectRegs.contains a ∧ !t.laneEjectOk i then some S_INVALID_CONFIG
  else if (a = Reg.WT_LANE_CFG.addr ∨ a = Reg.WT_GRID_PITCH.addr ∨ a = Reg.WT_GRID_PHASE.addr) ∧ !t.laneGridOk i then
    some S_INVALID_CONFIG
  else if groupEjectRegs.contains a ∧
      !((upTo 32).filter (fun l => decide (t.f Reg.WT_LANE_CFG 20 4 l = i))).all (fun l => t.laneEjectOk l) then
    some S_INVALID_CONFIG
  else if a = Reg.WT_GRP_DO.addr then s.grpDoCheck t i
  else if laneTimed.contains a ∧ !t.laneJobsOk i then some S_DEADLINE_INFEASIBLE
  else none

/-! ### Field outputs (R359 to R361) -/

/-- The check of FIO_GANG: quads whose mode changes are at rest, and no mask holds only part of a gang. -/
def State.gangCheck (s t : State) : Option Nat :=
  let changed := (upTo 32).filter (fun n => decide (s.gangMode n ≠ t.gangMode n))
  if changed.any (fun n => s.doInUse n) then some S_BUSY
  else if !(upTo 16).all (fun g => t.maskWhole (t.rd Reg.WT_GRP_DO g)) then some S_INVALID_CONFIG
  else none

/-- The check of a register of the field side. -/
def State.fioRegCheck (s t : State) (a n : Nat) : Option Nat :=
  if a = Reg.FIO_GANG.addr then s.gangCheck t
  else if a = Reg.FIO_DO_CFG.addr ∧ s.f Reg.FIO_DO_CFG 0 2 n ≠ t.f Reg.FIO_DO_CFG 0 2 n ∧ s.doInUse n then some S_BUSY
  else none

/-! ### Lanes, MACs and links (R482, R495, R503) -/

/-- The FEC codes that a MAC mode allows (R495). -/
def macFecs (mode : Nat) : List Nat :=
  match mode with
  | 0 => [0, 1]
  | 1 => [0, 1, 2]
  | 2 => [3]
  | 3 => [0, 2]
  | _ => [3]

/-- FEC and FIRST_LANE suit the mode of a MAC (R495). -/
def macFieldsOk (w : Word) : Bool :=
  (macFecs (fld w 6 3)).contains (fld w 4 2) && decide (fld w 11 5 % macLaneCount (fld w 6 3) = 0)

/-- The check of LN_MAC_CFG: the fields, the lanes, and the payload of the cameras that share the MAC. -/
def State.macCheck (t : State) (m : Nat) : Option Nat :=
  let w := t.rd Reg.LN_MAC_CFG m
  firstFail
    [ (macFieldsOk w, S_INVALID_CONFIG), (!w.getLsbD 0 || !t.lanesTaken 2 m (macCfgLanes w), S_LANE_CONFLICT),
      ((upTo 8).all (fun n => !(t.camEnabled n && t.camGev n && decide (t.camMac n = m)) || t.payloadOk n), S_LANE_BUDGET) ]

/-- Every VC has at least 16 flits, counted in units of 4, and all together at most 1,024 (R503). -/
def creditOk (w : Word) : Bool :=
  (upTo 4).all (fun k => decide (4 ≤ fld w (8 * k) 8)) && decide (((upTo 4).map (fun k => fld w (8 * k) 8)).sum ≤ 256)

/-- The check of a register of the lanes or the fabric. -/
def State.lnRegCheck (s t : State) (a i : Nat) : Option Nat :=
  if a = Reg.LN_LANE_CFG.addr ∧ s.laneOwner i ≠ 0 ∧ differ (s.rd Reg.LN_LANE_CFG i) (t.rd Reg.LN_LANE_CFG i) 0x3B then
    some S_BUSY
  else if a = Reg.LN_MAC_CFG.addr then t.macCheck i
  else if a = Reg.FAB_LINK_CFG.addr ∧ t.bit Reg.FAB_LINK_CFG 0 i ∧ t.lanesTaken 3 i (fabLanes i) then some S_LANE_CONFLICT
  else if a = Reg.FAB_VC_CREDIT.addr ∧ !creditOk (t.rd Reg.FAB_VC_CREDIT i) then some S_INVALID_CONFIG
  else none

/-! ### All registers -/

/-- The status with which the write that turns `s` into `t` at element `i`, `j` of register `r` is refused, if it is. -/
def State.regCheck (s t : State) (r : RegRow) (i j k : Nat) : Option Nat :=
  if !reservedOk r.addr (t.rd r i j k) then some S_INVALID_CONFIG
  else
    match blockAt r.addr with
    | some .CAM => s.camRegCheck t r.addr i
    | some .ISP => s.ispRegCheck t r.addr i j
    | some .DEC => s.decRegCheck t r i
    | some .WT => s.wtRegCheck t r.addr i
    | some .FIO => s.fioRegCheck t r.addr i
    | some .LN => s.lnRegCheck t r.addr i
    | some .FAB => s.lnRegCheck t r.addr i
    | some .QM => if r.addr = Reg.QM_SCHED_CFG.addr ∧ !t.jobsOk t.effOp then some S_DEADLINE_INFEASIBLE else none
    | _ => none

/-- Writes of these registers by the host are decided by firmware (R12): those that the check of R16 or of R125 binds. -/
def firmwareChecked : List Nat :=
  [ Reg.CAM_OFFSET_LO.addr, Reg.ISP_PIPE_CTRL.addr, Reg.DEC_STREAM_BUDGET.addr, Reg.WT_COMMIT_LEAD.addr,
    Reg.WT_MAX_LEN.addr, Reg.WT_MAX_SPEED.addr ]

end Sys2Proof.Machine
end

