-- ==== Sys2Proof/Machine/Snap.lean ====
section
/-!
DEFINITION. Snapshots, the state summary, CP restarts and the 48 V inputs (R23, R476, R477, R575 to R581).
-/
namespace Sys2Proof.Machine

open Sys2Proof

/-! ### Triggers (R577, R578, R581) -/

/-- SNAPIN_EDGE (R577): a rising edge held for `heldNs` ns. -/
def execSnapinEdge (heldNs : Nat) (s : State) : Out := .next (if 20 ≤ heldNs then s.snapFire 4 else s)

/-- SNAP_MATCH (R577): the position of the channel in SNAP_MATCH_CFG has moved from `before` to where it is. -/
def execSnapMatch (before : DWord) (s : State) : Out :=
  let n := s.f Reg.SNAP_MATCH_CFG 0 2
  let dir := s.f Reg.SNAP_MATCH_CFG 2 2
  let m := s.rd64 Reg.SNAP_MATCH_LO Reg.SNAP_MATCH_HI
  let a := posDiff before m
  let b := posDiff (s.enc n).pos m
  let fwd := decide (a < 0) && decide (0 ≤ b) && decide (dir = 0 ∨ dir = 2) && !s.snap.fwdOff
  let rev := decide (0 < a) && decide (b ≤ 0) && decide (dir = 1 ∨ dir = 2) && !s.snap.revOff
  .next (if s.on .SNAP ∧ s.on .ENC ∧ s.bit Reg.SNAP_CFG 0 ∧ (fwd ∨ rev) then
    let s := s.snapFire 1
    { s with snap := { s.snap with fwdOff := s.snap.fwdOff || fwd, revOff := s.snap.revOff || rev } }
  else s)

/-- FIRE (R577): a write of SNAP_CTRL.FIRE. -/
def execFire (w : Writer) (s : State) : Out := .next (s.gate w Reg.SNAP_CTRL 0 0 0 (fun s => s.snapFire 0))

/-- A HELD snapshot is armed again (R578). -/
def State.snapArm (s : State) : State :=
  if s.f Reg.SNAP_STATUS 0 2 = 2 then (s.setF Reg.SNAP_STATUS 0 2 0).setBit Reg.SNAP_STATUS 3 false else s

/-- ARM (R578). -/
def execArm (w : Writer) (s : State) : Out := .next (s.gate w Reg.SNAP_CTRL 0 0 0 (fun s => s.snapArm))

/-- SNAPSHOT_LATCH_DONE (R578, R579). -/
def execSnapshotLatchDone (s : State) : Out :=
  .next (if s.on .SNAP ∧ s.f Reg.SNAP_STATUS 0 2 = 1 then
    let s := (s.setBit Reg.SNAP_STATUS 2 true).raise Reg.SNAP_EVENT 0
    s.setF Reg.SNAP_STATUS 0 2 (if s.bit Reg.SNAP_CFG 4 then 2 else 0)
  else s)

/-- SNAPOUT_PULSE_END (R578). -/
def execSnapoutPulseEnd (s : State) : Out := .next { s with snap := { s.snap with snapOut := false } }

/-- SNAPSHOT (R460, R473, R577). -/
def execSnapshot (m : Fin 16) (s : State) : Out :=
  .next (s.command m 7 (some 0) true (fun s =>
    let s := s.snapFire 0
    s.answer m S_OK (bytesLE 4 (s.rd Reg.SNAP_NUMBER).toNat)))

/-! ### The state summary (R476, R477) -/

/-- The job descriptor (R282). -/
def State.jobDescr (s : State) (h : Nat) (j : Job) : List Byte :=
  bytesLE 2 h ++ bytesLE 1 j.st.code ++ bytesLE 1 j.prio ++ bytesLE 2 j.client ++ bytesLE 2 j.complQ
  ++ bytesLE 8 j.img.jobId.toNat ++ bytesLE 8 0 ++ bytesLE 8 (s.lInForce j) ++ bytesLE 4 (j.img.compute.getD s.effOp 0) ++ bytesLE 1 j.rank
  ++ bytesLE 1 j.op ++ bytesLE 2 j.lastStatus ++ fitBytes 8 j.img.digest ++ List.replicate 16 0

/-- State of a block in the summary: 0 OFF, 1 ACTIVE, 2 RESETTING, 3 FAULTED, 4 LOW_POWER. -/
def State.blockState (s : State) (b : Block) : Nat :=
  let anyBit (k : Nat) : Bool := match b with
    | .SPR => (upTo 34).any (fun p => s.bit Reg.SPR_STATUS k p)
    | .MOON => (upTo 8).any (fun p => s.bit Reg.MOON_STATUS k p)
    | _ => false
  if !s.on b then 0 else if anyBit 2 then 2 else if anyBit 3 then 3 else if s.power ≠ 0 then 4 else 1

/-- Events set in the EVENT registers of a block. -/
def State.blockEvents (s : State) (b : Nat) : Word :=
  (eventRegs.filter (fun e => decide (e.1 = b))).foldl
    (fun w e => (upTo e.2.2.2).foldl (fun w i => w ||| s.rd e.2.1 i) w) 0

/-- A latched snapshot word. -/
def State.snapWord (s : State) (b w : Nat) : Nat := (s.rd Reg.SNAP_BLK b w).toNat

/-- Bytes of latched snapshot words. -/
def State.snapBytes (s : State) (b from_ n : Nat) : List Byte := (upTo n).flatMap (fun i => bytesLE 4 (s.snapWord b (from_ + i)))

/-- Bit map of the disabled physical spires. -/
def State.disabledMap (s : State) : Nat := (s.disabledSpires.map (fun p => 2 ^ p)).sum

/-- Enabled queues, lowest first. -/
def State.enabledQueues (s : State) : List Nat :=
  (s.regs.filter (fun p => decide (0x1900000 ≤ p.1) && decide (p.1 < 0x1980000) && decide (p.1 % 32 = 0) &&
    p.2.getLsbD 31)).map (fun p => (p.1 - 0x1900000) / 32)

/-- Bytes 0 to 255. -/
def State.summaryHeader (s : State) : List Byte :=
  let flags := s.initDone.toNat + 2 * (decide (858 < s.enabledQueues.length)).toNat + 4 * (s.f Reg.PM_HOTPLUG 0 1)
  fitBytes 256 (bytesLE 4 0x53535649 ++ bytesLE 2 12240 ++ bytesLE 2 1 ++ bytesLE 4 s.host.generation.toNat
    ++ bytesLE 2 (s.f Reg.SYS_FW_VERSION 0 16) ++ bytesLE 1 0xB0 ++ bytesLE 1 s.power
    ++ bytesLE 1 (s.f Reg.PM_OP_STATUS 4 2) ++ bytesLE 1 ((upTo 34).filter (fun p => s.bit Reg.SPR_ID 7 p)).length
    ++ bytesLE 2 flags ++ bytesLE 4 s.core.warmRestarts ++ bytesLE 8 (s.rd64 Reg.SNAP_TIME_LO Reg.SNAP_TIME_HI).toNat
    ++ bytesLE 8 s.disabledMap ++ fitBytes 8 ((s.sec.running.getD []).drop 20))

/-- Bytes 256 to 543. -/
def State.summaryBlocks (s : State) : List Byte :=
  allBlocks.flatMap (fun b => bytesLE 1 b.num ++ bytesLE 1 (s.blockState b) ++ bytesLE 2 0
    ++ bytesLE 4 (s.blockEvents b.num).toNat ++ bytesLE 4 (AMap.get s.fault.perBlock 0 b.num) ++ bytesLE 4 0)

/-- Bytes 544 to 1,055. -/
def State.summaryComets (s : State) : List Byte :=
  let count (st : CometState) : Nat := (s.wt.comets.filter (fun p => decide (p.2.st = st))).length
  let free := 65536 - s.wt.comets.length
  let comets := if s.initDone then [free, count .opened, count .closed, count .committed, count .retired] else []
  fitBytes 512 (fitBytes 20 (comets.flatMap (fun n => bytesLE 4 n)) ++ s.snapBytes 4 2 16 ++ s.snapBytes 1 3 3)

/-- Bytes 1,056 to 1,183. -/
def State.summaryPositions (s : State) : List Byte :=
  (upTo 4).flatMap (fun n => fitBytes 32 (s.snapBytes 3 (5 * n) 3 ++ s.snapBytes 3 (5 * n + 4) 1
    ++ bytesLE 8 (s.rd64 Reg.SNAP_TIME_LO Reg.SNAP_TIME_HI).toNat))

/-- Bytes 1,184 to 5,279. -/
def State.summaryJobs (s : State) : List Byte :=
  fitBytes 4096 (if s.initDone then s.job.jobs.flatMap (fun p => s.jobDescr p.1 p.2) else [])

/-- Bytes 5,280 to 5,375. -/
def State.summarySpires (s : State) : List Byte :=
  let logical (p : Nat) : Nat := if s.bit Reg.SPR_ID 7 p then s.f Reg.SPR_ID 0 5 p else 0xFF
  fitBytes 96 ((upTo 34).flatMap (fun p => bytesLE 1 (logical p)) ++ (upTo 34).flatMap (fun p => bytesLE 1 (s.snapWord 9 (2 * p) % 16)))

/-- Bytes 5,376 to 12,239. -/
def State.summaryQueues (s : State) : List Byte :=
  let head (q : Nat) : Nat := match (s.queue q).items with
    | i :: _ => i.first
    | [] => (s.queue q).tail
  fitBytes 6864 (if s.initDone then
    (s.enabledQueues.take 858).flatMap (fun q => bytesLE 2 q ++ bytesLE 2 (head q) ++ bytesLE 4 (s.queue q).fill) else [])

/-- The 12,240 bytes of the summary. -/
def State.summaryBytes (s : State) : List Byte :=
  s.summaryHeader ++ s.summaryBlocks ++ s.summaryComets ++ s.summaryPositions ++ s.summaryJobs ++ s.summarySpires ++ s.summaryQueues

/-- The slice of the summary that PART `p` names. -/
def summaryPart (l : List Byte) (p : Nat) : List Byte := (l.drop (4080 * p)).take 4080

/-- STATE_SUMMARY with PART 0 (R476). -/
def execStateSummary (m : Fin 16) (s : State) : Out :=
  .next (s.command m 2 (some 4) (decide (s.arg m 0 1 = 0)) (fun s =>
    s.fields m (decide (s.arg m 1 3 = 0)) (fun s =>
      let s := s.snapFire 0
      let s := { s with host := { s.host with generation := s.host.generation + 1 } }
      let sum := s.summaryBytes
      let s := { s with host := { s.host with summary := some sum } }
      s.answer m S_OK (summaryPart sum 0) 12240 s.host.generation.toNat)))

/-- STATE_SUMMARY with PART 1 or 2 (R476). -/
def execStateSummaryPart (m : Fin 16) (s : State) : Out :=
  .next (s.command m 2 (some 4) (decide (s.arg m 0 1 ≠ 0)) (fun s =>
    s.fields m (decide (s.arg m 0 1 ≤ 2) && decide (s.arg m 1 3 = 0)) (fun s =>
      match s.host.summary with
      | some sum => s.answer m S_OK (summaryPart sum (s.arg m 0 1)) 12240 s.host.generation.toNat
      | none => s.answer m S_NOT_VALID)))

/-! ### CP restarts (R575) -/

/-- The record of a CP restart. -/
def restartFault (reason : Nat) (pc : DWord) (cls : Nat) : FaultRec :=
  { block := 0, cause := 11, unit := 0, cls := cls, action := 6, address := pc.toNat, detail := bytesLE 1 reason }

/-- WATCHDOG_TIMEOUT (R23, R575): the watchdog (reason 1) or an uncorrectable read of CP memory or firmware data (2, 3)
restarts a running CP. The third restart within 60 s halts it. -/
def execWatchdogTimeout (reason : Fin 4) (pc : DWord) (s : State) : Out :=
  .next (if s.live ∧ s.power ≠ 3 ∧ s.core.cp = .running ∧ reason.val ≠ 0 then
    let recent := s.core.restartTimes.filter (fun t => decide (s.since t ≤ 60000000000))
    let s := s.bump Reg.SNAP_CNT 7
    let s := { s with core := { s.core with warmRestarts := s.core.warmRestarts + 1, restartTimes := s.raw :: recent } }
    if 2 ≤ recent.length then
      let s := (s.faultNew (restartFault reason pc 2)).raise Reg.SNAP_EVENT 4
      let core := { s.core with cp := .halted }
      { s with core := core, host := { s.host with ioReady := 0 } }
    else
      let seq := s.fault.seq
      let s := s.faultNew (restartFault reason pc 0)
      { s with core := { s.core with cp := .restarting, restartRec := some (seq, reason.val, pc) } }
  else s)

/-- The record of the restart that ends is classified (R569, R573). -/
def State.restartEnds (s : State) : State :=
  match s.core.restartRec with
  | some (seq, reason, pc) =>
    let cls := s.retryClass 0 11
    let s := (s.noteTransient 0 11).faultWrite (restartFault reason pc cls) seq
    { s with core := { s.core with restartRec := none } }
  | none => s

/-! ### The 48 V inputs (R576) -/

/-- State of an input at a voltage held for a time: 0 ABSENT, 1 UNDER, 2 GOOD, 3 OVER; none while UNDER and OVER have not
lasted 1 ms. -/
def inputState (decivolts heldNs : Nat) : Option Nat :=
  if decivolts < 200 then some 0
  else if decivolts < 340 then (if 1000000 ≤ heldNs then some 1 else none)
  else if decivolts ≤ 620 then some 2
  else if 1000000 ≤ heldNs then some 3 else none

/-- POWER_INPUT_CHANGE (R576): input A (false) or B (true) stands at a voltage. Leaving GOOD raises SUPPLY with a record. -/
def execPowerInputChange (b : Bool) (decivolts : Nat) (heldNs : Nat) (s : State) : Out :=
  .next (if s.core.alive ∧ !s.core.quiesced then
    let old := s.f Reg.SNAP_SUPPLY (28 + 2 * b.toNat) 2
    let s := s.setF Reg.SNAP_SUPPLY (12 * b.toNat) 12 (min decivolts 4095)
    match inputState decivolts heldNs with
    | some st =>
      let s := s.setF Reg.SNAP_SUPPLY (28 + 2 * b.toNat) 2 st
      s.when (decide (old = 2 ∧ st ≠ 2) && s.on .SNAP) (fun s =>
        (s.raise Reg.SNAP_EVENT 3).faultNew
          { block := 1, cause := 12, unit := b.toNat, cls := 3, detail := bytesLE 1 b.toNat ++ bytesLE 1 st })
    | none => s
  else s)

end Sys2Proof.Machine
end

