-- ==== Sys2Proof/Machine/Wt.lean ====
section
/-!
DEFINITION. The watchtower's commands on parts and verdicts (spec/11_comets_verdicts_ejection.md, R322 to R346).
-/
namespace Sys2Proof.Machine

open Sys2Proof

/-- Step 2 of a cycle for comet `i`: its commit position. Step 3: its start, its commands, its end, its pulse limits. -/
def State.cometActs (s : State) (i : Nat) : State :=
  ((((s.ejStartEval i).ejRetime i).ejEndEval i).ejMinPulse i).ejCap i

/-- One cycle of domain 16 (R323): tokens, then positions, then actions; then retirement and export. -/
def State.wtCycle (s : State) : State :=
  let s := s.takeTokens (s.queue 20).items.length
  let s := s.forAll (upTo 32) (fun l s => (s.laneCreate l).laneOverlength l)
  let s := s.forAll s.cometIdx (fun i s => s.commitEval i)
  let s := s.forAll s.cometIdx (fun i s => s.cometActs i)
  let s := s.forAll s.cometIdx (fun i s => s.retireEval i)
  s.forAll s.cometIdx (fun i s => s.exportEval i)

/-- WT_CYCLE (R323). -/
def execWtCycle (s : State) : Out := .next (if s.wtCycleNow then s.wtCycle else s)

/-- COMET_CREATE (R324, R327, R328, R647): the creation point of a detection on a lane. -/
def execCometCreate (lane : Fin 32) (s : State) : Out := .next (if s.wtCycleNow then s.laneCreate lane else s)

/-- OVERLENGTH (R326). -/
def execOverlength (lane : Fin 32) (s : State) : Out := .next (if s.wtCycleNow then s.laneOverlength lane else s)

/-- The first component of each pixel of a row of an output unit (R325): COLOUR gives the components of a pixel. -/
def firstComponents (colour : Nat) (pix : List Nat) : List Nat :=
  let n := if colour = 1 then 3 else if colour = 2 then 4 else 1
  (List.range (ceilDiv pix.length n)).map (fun i => pix.getD (n * i) 0)

/-- IMAGE_ROW_OBSERVED (R324 to R326): the lane takes the oldest row of its output unit that it has not yet seen, and
releases it. -/
def execImageRowObserved (lane : Fin 32) (s : State) : Out :=
  .next (if s.laneOn lane ∧ s.laneSrc lane = 2 then
    let p := s.f Reg.WT_IMG_CFG 0 3 lane
    let o := s.f Reg.WT_IMG_CFG 3 2 lane
    match s.ringRows p o (65536 + lane) with
    | r :: _ =>
      let s := s.imageRow lane (if r.marks.getLsbD 7 then none else some r.aligned)
        (firstComponents (s.f Reg.ISP_OUT_CFG 8 2 p o) r.pix)
      s.releaseRows p o (65536 + lane) (fun x => decide (x.seq = r.seq))
    | [] => s
  else s)

/-- The token at the head of queue 20 has the KIND of a provisional class. -/
def State.headProvisional (s : State) : Bool :=
  match (s.queue 20).head with
  | some it => decide (natLE (((s.ringData 20 it).drop 4).take 1) = 4)
  | none => false

/-- VERDICT_TOKEN_ARRIVAL (R333, R336): the final verdict at the head of queue 20. -/
def execVerdictTokenArrival (s : State) : Out :=
  .next (if s.wtCycleNow ∧ !s.headProvisional then s.takeHead else s)

/-- PROVISIONAL_TOKEN_ARRIVAL (R334): the provisional verdict at the head of queue 20. -/
def execProvisionalTokenArrival (s : State) : Out :=
  .next (if s.wtCycleNow ∧ s.headProvisional then s.takeHead else s)

/-- COMMIT (R335, R293). -/
def execCommit (comet : Fin 65536) (s : State) : Out := .next (if s.wtCycleNow then s.commitEval comet else s)

/-- RETIRE (R346). -/
def execRetire (comet : Fin 65536) (s : State) : Out := .next (if s.wtCycleNow then s.retireEval comet else s)

/-- EXPORT_RECORD (R346). -/
def execExportRecord (comet : Fin 65536) (s : State) : Out := .next (if s.on .WT then s.exportEval comet else s)

end Sys2Proof.Machine
end

