-- ==== Sys2Proof/Machine/RegOps.lean ====
section
/-!
DEFINITION. What a register write does once it is accepted, register pairs, and reads that change state (R5 to R12, R641).
-/
namespace Sys2Proof.Machine

open Sys2Proof

/-! ### Words and pairs (R6 to R8) -/

/-- The word that a write of `v` leaves in a register that held `old`: RW bits take the value, W1C bits clear, W1S bits set,
all others stay (R7, R8). -/
def mergeWord (r : RegRow) (old v : Word) : Word :=
  (v &&& r.rw) ||| (old &&& r.w1c &&& ~~~v) ||| ((old ||| v) &&& r.w1s) ||| (old &&& ~~~(r.rw ||| r.w1c ||| r.w1s))

/-- The register pairs, low word first (R4 to R6). -/
def pairRegs : List (RegRow × RegRow) :=
  [ (Reg.ENC_INDEX_POS_LO, Reg.ENC_INDEX_POS_HI), (Reg.ENC_PRESET_LO, Reg.ENC_PRESET_HI), (Reg.ENC_POS_LO, Reg.ENC_POS_HI),
    (Reg.CAM_OFFSET_LO, Reg.CAM_OFFSET_HI), (Reg.CAM_BUF_BASE_LO, Reg.CAM_BUF_BASE_HI),
    (Reg.ISP_TNR_BASE_LO, Reg.ISP_TNR_BASE_HI), (Reg.ISP_FF_BASE_LO, Reg.ISP_FF_BASE_HI),
    (Reg.ISP_MESH_BASE_LO, Reg.ISP_MESH_BASE_HI), (Reg.ISP_OUT_BASE_LO, Reg.ISP_OUT_BASE_HI),
    (Reg.DEC_OUT_BASE_LO, Reg.DEC_OUT_BASE_HI), (Reg.DEC_OFFSET_LO, Reg.DEC_OFFSET_HI),
    (Reg.QM_CLIENT_TIME_LO, Reg.QM_CLIENT_TIME_HI), (Reg.QM_CLIENT_WAIT_LO, Reg.QM_CLIENT_WAIT_HI) ]
  ++ [ (Reg.WT_TABLE_BASE_LO, Reg.WT_TABLE_BASE_HI), (Reg.WT_GRP_VALVES_LO, Reg.WT_GRP_VALVES_HI),
    (Reg.WT_GRP_BANK_MAC_LO, Reg.WT_GRP_BANK_MAC_HI), (Reg.XLT_INVAL_VA_LO, Reg.XLT_INVAL_VA_HI),
    (Reg.XLT_MIG_VA_LO, Reg.XLT_MIG_VA_HI), (Reg.XLT_MIG_DST_LO, Reg.XLT_MIG_DST_HI), (Reg.XLT_ROOT_LO, Reg.XLT_ROOT_HI),
    (Reg.MEM_SCRUB_ADDR_LO, Reg.MEM_SCRUB_ADDR_HI), (Reg.MEM_PATROL_PTR_LO, Reg.MEM_PATROL_PTR_HI),
    (Reg.QM_Q_BASE_LO, Reg.QM_Q_BASE_HI), (Reg.QM_Q_MIRROR_LO, Reg.QM_Q_MIRROR_HI),
    (Reg.F1_BULK_COUNT_LO, Reg.F1_BULK_COUNT_HI), (Reg.LN_MAC_ADDR_LO, Reg.LN_MAC_ADDR_HI),
    (Reg.TIME_NOW_LO, Reg.TIME_NOW_HI), (Reg.TIME_RAW_LO, Reg.TIME_RAW_HI), (Reg.TIME_OFFSET_LO, Reg.TIME_OFFSET_HI),
    (Reg.TIME_ANCHOR_LO, Reg.TIME_ANCHOR_HI), (Reg.SNAP_MATCH_LO, Reg.SNAP_MATCH_HI), (Reg.SNAP_TIME_LO, Reg.SNAP_TIME_HI),
    (Reg.SEC_DEVICE_ID_LO, Reg.SEC_DEVICE_ID_HI) ]

/-- The high word of a pair whose low word is the register given. -/
def highOf (r : RegRow) : Option RegRow := (pairRegs.find? (fun p => decide (p.1.addr = r.addr))).map (fun p => p.2)
/-- The low word of a pair whose high word is the register given. -/
def lowOf (r : RegRow) : Option RegRow := (pairRegs.find? (fun p => decide (p.2.addr = r.addr))).map (fun p => p.1)

/-- `s` with the value written stored in the register, and with the high half given in the register's pair. -/
def State.candidate (s : State) (r : RegRow) (i j k : Nat) (v : Word) (hi : Option Word) : State :=
  let t := s.wr r (mergeWord r (s.rd r i j k) v) i j k
  match highOf r, hi with
  | some h, some x => t.wr h (mergeWord h (s.rd h i j k) x) i j k
  | _, _ => t

/-! ### Effects of an accepted write -/

/-- Contexts of pipeline `p` have been enabled or disabled: a new one starts afresh, one that is off holds no line and no
sample (R99, R103). -/
def State.pipeSwitched (s : State) (p : Nat) (was : Word) : State :=
  s.forAll (upTo 4) (fun c s =>
    let now := s.bit Reg.ISP_PIPE_CTRL c p
    if now == was.getLsbD c then s
    else
      let x := s.ispCtx p c
      let s := s.setIspCtx p c { x with fresh := true, prevBad := false, past := [], lastBlock := none }
      if now then s
      else
        let num := 4 * p + c
        let s := s.forAll (upTo 8) (fun n s =>
          (s.updCam n (fun c => { c with slots := c.slots.map (fun l =>
            { l with readers := l.readers.filter (fun r => decide (r ≠ num)) }) })).camRelease n)
        s.forAll (upTo 32) (fun n s =>
          let d := s.stream n
          let ring := d.ring.map (fun y => { y with readers := y.readers.filter (fun r => decide (r ≠ num)) })
          s.setStream n { d with ring := ring.filter (fun y => decide (y.readers ≠ [])) }))

/-- Lanes whose detection the write has turned on or off start anew (R322, R337). -/
def State.lanesSwitched (s old : State) : State :=
  s.forAll (upTo 32) (fun l s => if s.laneOn l == old.laneOn l then s else s.laneSwitched l)

/-- LN_MAC_CFG of MAC `m` has been written: the link goes down, its old lanes are freed and the new ones claimed (R482,
R489, R495). -/
def State.macSwitched (s : State) (m : Nat) (was : Word) : State :=
  let lanes := macCfgLanes was
  let s := s.macDown m
  let s := s.when (was.getLsbD 0) (fun s => s.forAll lanes (fun l s => s.laneFree l))
  s.when (s.bit Reg.LN_MAC_CFG 0 m) (fun s => s.macClaim m)

/-- FAB_LINK_CFG of link `j` has been written: on, off, or with another rate or spare. -/
def State.fabSwitched (s : State) (j : Nat) (was : Word) : State :=
  let now := s.rd Reg.FAB_LINK_CFG j
  if now.getLsbD 0 ∧ !was.getLsbD 0 then s.fabClaim j
  else if !now.getLsbD 0 ∧ was.getLsbD 0 then s.fabFree j
  else if now.getLsbD 0 ∧ differ now was 0x302 then
    (s.forAll (fabLanes j) (fun l s => s.setF Reg.LN_LANE_CFG 0 2 (if now.getLsbD 1 then 3 else 2) l)).fabLinkReset j
  else s

/-- LN_LANE_CFG of lane `l` has been written (R489). -/
def State.laneCfgWritten (s : State) (l : Nat) : State :=
  let o := s.laneOwner l
  let s := s.when (decide (o = 2) && decide (s.f Reg.LN_LANE_CFG 8 2 l ≠ 0)) (fun s => s.macDown (s.laneOwnerId l))
  if o = 0 ∨ o = 2 then s.laneFollow l else s

/-- QM_Q_CFG of queue `q` has been written by firmware: created, destroyed, or changed. -/
def State.queueCfgWritten (s : State) (q : Nat) (was : Word) : State :=
  let now := s.rd Reg.QM_Q_CFG q
  if now.getLsbD 31 ∧ !was.getLsbD 31 then s.makeQueue q now
  else if !now.getLsbD 31 ∧ was.getLsbD 31 then (s.wr Reg.QM_Q_CFG was q).dropQueue q
  else s.putQueue q (s.queue q)

/-- The effect of an accepted write on what follows the register: `s` after it, `old` before. -/
def State.regEffect (s old : State) (r : RegRow) (i j : Nat) : State :=
  let a := r.addr
  let was := old.rd r i j
  if a = Reg.CAM_TRIG_PITCH.addr ∨ a = Reg.CAM_TRIG_PHASE.addr then s.when (s.camEnabled i) (fun s => s.camGrid i)
  else if a = Reg.CAM_BUF_BASE_LO.addr then s.camOcc i
  else if a = Reg.ISP_PIPE_CTRL.addr then s.pipeSwitched i was
  else if a = Reg.DEC_STREAM_CFG.addr then s.when (was.getLsbD 0 && !s.bit Reg.DEC_STREAM_CFG 0 i) (fun s => s.decDisable i)
  else if a = Reg.WT_CTRL.addr then s.lanesSwitched old
  else if a = Reg.WT_LANE_CFG.addr then
    s.when (differ was (s.rd Reg.WT_LANE_CFG i) 0x331) (fun s => s.laneSwitched i)
  else if a = Reg.WT_GRP_CFG.addr ∨ a = Reg.WT_GRP_BANK_ADDR.addr then
    (s.when (s.bit Reg.WT_GRP_CFG 0 i) (fun s => s.bankArp i)).syncOuts
  else if a = Reg.WT_GRP_DO.addr ∨ a = Reg.FIO_GANG.addr ∨ a = Reg.FIO_DO_CFG.addr then s.syncOuts
  else if a = Reg.FIO_DI_CFG.addr then s.setBit Reg.FIO_DI_STATE i ((s.din i).level != s.bit Reg.FIO_DI_CFG 1 i)
  else if a = Reg.LN_LANE_CFG.addr then s.laneCfgWritten i
  else if a = Reg.LN_MAC_CFG.addr then s.macSwitched i was
  else if a = Reg.FAB_LINK_CFG.addr then s.fabSwitched i was
  else if a = Reg.TIME_PTP_CFG.addr then (s.wr Reg.TIME_PTP_CFG was).ptpCfgWrite (s.rd Reg.TIME_PTP_CFG)
  else if a = Reg.SNAP_CFG.addr ∨ a = Reg.SNAP_MATCH_CFG.addr ∨ a = Reg.SNAP_MATCH_LO.addr then
    { s with snap := { s.snap with fwdOff := false, revOff := false } }
  else if a = Reg.QM_Q_CFG.addr then s.queueCfgWritten i was
  else s

/-- Registers whose accepted writes have passed the check of R16. -/
def jobTimed : List Nat :=
  camTimed ++ laneTimed ++ [Reg.ISP_PIPE_CTRL.addr, Reg.DEC_STREAM_CFG.addr, Reg.DEC_STREAM_BUDGET.addr, Reg.QM_SCHED_CFG.addr]

/-- An accepted write takes effect; load registers and the jobs' last check follow. -/
def State.regAccept (s : State) (r : RegRow) (i j k : Nat) (v : Word) (hi : Option Word) : State :=
  let t := (s.candidate r i j k v hi).regEffect s r i j
  if jobTimed.contains r.addr then t.syncLoads.checkedAt t.effOp else t

/-- A write is decided: accepted, or refused with a status (R12). -/
def State.regDecide (s : State) (r : RegRow) (i j k : Nat) (v : Word) (hi : Option Word) : State :=
  match s.regCheck (s.candidate r i j k v hi) r i j k with
  | some st => s.refuse st (r.at i j k)
  | none => s.regAccept r i j k v hi

/-- A write to a register that has no command behind it: the high word of a pair is held pending, a write that firmware
checks waits for it, and every other one is decided at once (R6, R12). -/
def State.plainWrite (s : State) (w : Writer) (r : RegRow) (i j k : Nat) (v : Word) : State :=
  s.gate w r i j k (fun s =>
    match lowOf r with
    | some lo => if r.rw = 0 then s else { s with pairPend := AMap.put s.pairPend (lo.at i j k) v }
    | none =>
      let a := r.at i j k
      let hi := AMap.look s.pairPend a
      let clear (s : State) : State := { s with pairPend := AMap.del s.pairPend a }
      if w = .host ∧ firmwareChecked.contains r.addr then
        let s := clear s
        { s with host := { s.host with decideQ := s.host.decideQ ++ [(a, v, hi)] } }
      else
        match s.regCheck (s.candidate r i j k v hi) r i j k with
        | some st => s.refuse st a
        | none => clear (s.regAccept r i j k v hi))

/-- A write of TIME_OFFSET_HI, which a host may not make while PTP is enabled (R6, R525). -/
def State.offsetHighWrite (s : State) (w : Writer) (v : Word) : State :=
  s.gate w Reg.TIME_OFFSET_HI 0 0 0 (fun s => s.timeHost w Reg.TIME_OFFSET_HI.addr (fun s =>
    { s with pairPend := AMap.put s.pairPend Reg.TIME_OFFSET_LO.addr v }))

/-! ### CAM_PORT_CFG (R82, R643) -/

/-- An accepted write of CAM_PORT_CFG: a port that is turned off closes under its old fields (R82, R95). -/
def State.portCfgAccept (s : State) (n : Nat) (v : Word) : State :=
  let was := s.camEnabled n
  let lanes := s.camLanes n
  let new := mergeWord Reg.CAM_PORT_CFG (s.rd Reg.CAM_PORT_CFG n) v
  let s := if was && !new.getLsbD 0 then (s.setBit Reg.CAM_PORT_CFG 0 false n).camDisable n lanes else s
  let s := s.wr Reg.CAM_PORT_CFG new n
  let s := if !was && new.getLsbD 0 then s.camEnable n else s
  s.syncLoads.checkedAt s.effOp

/-- A write of CAM_PORT_CFG. -/
def State.portCfgWrite (s : State) (w : Writer) (n : Nat) (v : Word) : State :=
  s.gate w Reg.CAM_PORT_CFG n 0 0 (fun s =>
    match s.portCfgCheck (s.candidate Reg.CAM_PORT_CFG n 0 0 v none) n with
    | some st => s.refuse st (Reg.CAM_PORT_CFG.at n 0 0)
    | none => s.portCfgAccept n v)

/-! ### Registers of the SDIO functions (R458, R464 to R472, R639) -/

/-- A write of F1_DOORBELL (R24, R458): the mailbox is POSTED and a record goes into queue 0. -/
def State.ringBell (s : State) (m : Nat) : State :=
  if !s.fnReady 1 then s
  else if s.mbState m = 1 ∨ s.mbState m = 2 then s.bump Reg.F1_CNT 2
  else
    let s := (s.setMb m 1)
    let s := { s with host := { s.host with bells := s.host.bells ++ [m] } }
    s.qOffer 0 0 (bytesLE 8 m ++ bytesLE 8 s.now.toNat)

/-- A write to a register of an SDIO function. -/
def State.fnWrite (s : State) (r : RegRow) (i j k : Nat) (v : Word) : State :=
  if r.addr = Reg.F1_DOORBELL.addr then s.ringBell (fld v 0 4)
  else if s.fnReady (r.addr / 0x10000000) then s.wr r (mergeWord r (s.rd r i j k) v) i j k
  else s

/-! ### Writes by address -/

/-- A write of ENC_CMD: PRESET, then FAULT_CLEAR. -/
def State.encCmd (s : State) (n : Nat) (v : Word) : State :=
  (s.when (v.getLsbD 0) (fun s => s.encPreset n)).when (v.getLsbD 1) (fun s => s.encFaultClear n)

/-- A write of SNAP_CTRL: ARM, then FIRE. -/
def State.snapCmd (s : State) (v : Word) : State :=
  (s.when (v.getLsbD 1) (fun s => s.snapArm)).when (v.getLsbD 0) (fun s => s.snapFire 0)

/-- A write of a command register of the memory towers or of translation. A read of DRAM that it starts meets no error in
transfer. -/
def State.memCmd (s : State) (a : Nat) (v : Word) : State :=
  if a = Reg.XLT_RESUME.addr then s.xltResume (fld v 0 6) (v.getLsbD 31)
  else if a = Reg.XLT_INVAL.addr then (if v.getLsbD 31 then s.xltInvalAll else s.xltInval (fld v 16 10) (fld v 0 16))
  else if a = Reg.XLT_MIG_CTRL.addr then s.when (v.getLsbD 31) (fun s => s.migStart (fld v 16 10) (v.getLsbD 0))
  else if a = Reg.MEM_SCRUB_CMD.addr then s.when (v.getLsbD 0) (fun s => s.rewriteSector s.scrubSector 0 0)
  else s.when (v.getLsbD 31) (fun s => s.injectArm)

/-- Command registers of the memory towers and of translation. -/
def memCmds : List Nat := [Reg.XLT_RESUME.addr, Reg.XLT_INVAL.addr, Reg.XLT_MIG_CTRL.addr, Reg.MEM_SCRUB_CMD.addr,
  Reg.MEM_INJECT.addr]

/-- A write to element `i`, `j`, `k` of register `r` of the device register space. -/
def State.writeElem (s : State) (w : Writer) (r : RegRow) (i j k : Nat) (v : Word) : State :=
  let a := r.addr
  if a = Reg.ENC_CFG.addr then s.gate w r i j k (fun s => s.encCfgWrite i v)
  else if a = Reg.ENC_CMD.addr then s.gate w r i j k (fun s => s.encCmd i v)
  else if a = Reg.CAM_PORT_CFG.addr then s.portCfgWrite w i v
  else if a = Reg.ISP_CTX_APPLY.addr then s.gate w r i j k (fun s => s.when (v.getLsbD 0) (fun s => s.applyWrite i j))
  else if a = Reg.SPR_CTRL.addr then s.gate w r i j k (fun s => s.when (v.getLsbD 0) (fun s => s.engineReset i))
  else if a = Reg.MOON_CTRL.addr then s.gate w r i j k (fun s => s.when (v.getLsbD 0) (fun s => s.engineReset (34 + i)))
  else if a = Reg.QM_CLIENT_CLEAR.addr then s.clientClearWrite w v
  else if a = Reg.QM_POP.addr then s.popWrite w (fld v 0 14)
  else if a = Reg.FIO_DO_SET.addr then s.gate w r i j k (fun s => s.doSetWrite v)
  else if a = Reg.FIO_DO_CLEAR.addr then s.gate w r i j k (fun s => s.doClear v 0)
  else if a = Reg.LN_LINK_RESET.addr then s.linkResetWrite w v
  else if a = Reg.LN_PRBS_CFG.addr then s.prbsWrite w i v
  else if a = Reg.FAB_INJECT.addr then s.injectWrite w i (v.setWidth 8)
  else if a = Reg.TIME_RATE.addr then s.writeTimeRate w v
  else if a = Reg.TIME_OFFSET_LO.addr then s.writeTimeOffset w v
  else if a = Reg.TIME_OFFSET_HI.addr then s.offsetHighWrite w v
  else if a = Reg.TIME_ADJ.addr then s.writeTimeAdj w v
  else if a = Reg.SNAP_CTRL.addr then s.gate w r i j k (fun s => s.snapCmd v)
  else if memCmds.contains a then s.gate w r i j k (fun s => s.memCmd a v)
  else s.plainWrite w r i j k v

/-- The host link or firmware reaches the device register space at all. -/
def State.reachable (s : State) (w : Writer) : Bool :=
  s.live && decide (s.power ≠ 3) && (decide (w = .firmware) || s.fnReady 2)

/-- A write of `v` to an address, whatever stands there (R11, R12, R464). -/
def State.writeAt (s : State) (w : Writer) (a : Nat) (v : Word) : State :=
  match findReg a with
  | some (r, i, j, k) => if 0x10000000 ≤ a then s.fnWrite r i j k v else s.writeElem w r i j k v
  | none => if a < 2 ^ 26 ∧ s.reachable w then s.unmapped else s

/-! ### Reads by address (R5, R7, R11, R554) -/

/-- What a read of element `i`, `j`, `k` of a register returns: the latch of a pair on its high word (R5), zero for write-only
bits. -/
def State.readValue (s : State) (r : RegRow) (i j k : Nat) : Word :=
  match lowOf r with
  | some lo => (AMap.look s.pairLatch (lo.at i j k)).getD (s.view r i j k)
  | none => s.view r i j k

/-- What a read of a register changes: the low word of a pair latches the high half (R5), RC bits clear (R7). -/
def State.readElem (s : State) (r : RegRow) (i j k : Nat) : State :=
  let s := match highOf r with
    | some h => { s with pairLatch := AMap.put s.pairLatch (r.at i j k) (s.view h i j k) }
    | none => s
  if r.rc = 0 then s else s.wr r (s.rd r i j k &&& ~~~r.rc) i j k

/-- A read at an address: the word returned and the state after it. A block without power has no registers (R554). -/
def State.readAt (s : State) (a : Nat) : Word × State :=
  if !s.live ∨ s.power = 3 then (0, s)
  else
    match findReg a with
    | some (r, i, j, k) =>
      if 0x10000000 ≤ a ∨ ((blockAt a).map (fun b => s.on b)).getD false then (s.readValue r i j k, s.readElem r i j k)
      else (0, s.unmapped)
    | none => (0, if a < 2 ^ 26 then s.unmapped else s)

end Sys2Proof.Machine
end

