-- ==== Sys2Proof/Machine/Host.lean ====
section
/-!
DEFINITION. The host link (spec/16_host_link_and_mailboxes.md, R456 to R472): doorbells, mailboxes, the bulk port, byte accesses
through the aperture, the verdict export, and resets of the SDIO interface.
-/
namespace Sys2Proof.Machine

open Sys2Proof

/-- DOORBELL (R24, R458). -/
def execDoorbell (m : Fin 16) (s : State) : Out := .next (s.ringBell m)

/-- MAILBOX_WRITE (R457, R458): a POSTED or BUSY mailbox ignores the write and counts it. -/
def execMailboxWrite (m : Fin 16) (offset : Fin 4096) (data : List Byte) (s : State) : Out :=
  .next (if !s.fnReady 1 then s
  else if s.mbState m = 1 ∨ s.mbState m = 2 then s.bump Reg.F1_CNT 1
  else s.putMail m offset data)

/-- Bytes of a block that passed its CRC are appended to the staging buffer; those beyond its end, and all of them where no
buffer is open, are discarded and counted (R462). -/
def State.bulkAppend (s : State) (data : List Byte) : State :=
  match s.host.staging with
  | some st =>
    let kept := data.take (st.size - st.data.length)
    let all := st.data ++ kept
    let s := { s with host := { s.host with staging := some { st with data := all } } }
    (s.wr64 Reg.F1_BULK_COUNT_LO Reg.F1_BULK_COUNT_HI (BitVec.ofNat 64 all.length)).bumpBy (data.length - kept.length)
      Reg.F1_CNT 3
  | none => s.bumpBy data.length Reg.F1_CNT 3

/-- BULK_WRITE (R462): one block at the bulk port. -/
def execBulkWrite (data : List Byte) (crcOk : Bool) (s : State) : Out :=
  .next (if s.fnReady 1 ∧ crcOk then s.bulkAppend data else s)

/-- Byte `k` of a word replaced. -/
def putByte (w : Word) (k : Nat) (b : Byte) : Word := setFld w (8 * k) 8 b.toNat

/-- APERTURE_BYTE_ACCESS (R464, R465): a CMD52 access to the aperture goes through the assembly latch. -/
def execApertureByteAccess (offset : Fin 65536) (write : Bool) (v : Byte) (s : State) : Out :=
  let k := offset.val % 4
  let addr := s.f Reg.F2_PAGE 0 10 * 65536 + (offset.val - k)
  .next (if !s.fnReady 2 then s
  else if write then
    let w := putByte s.host.latch k v
    let s := { s with host := { s.host with latch := w } }
    if k = 3 then s.writeAt .host addr w else s
  else if k = 0 then
    let x := s.readAt addr
    { x.2 with host := { x.2.host with latch := x.1 } }
  else s)

/-! ### Verdict export (R471, R472) -/

/-- Records of queue 18 that a function 3 read finds (R554). -/
def State.exportHead (s : State) : List QItem := if s.on .QM then dropPads (s.queue 18).visible else []

/-- EXPORT_READ (R471, R472): a read of `bytes` bytes. The records of a reread come first; a record is released with its last
byte; past the last record empty ones are returned, which change nothing. -/
def State.exportRead (s : State) (bytes : Nat) : State :=
  let n := bytes / 128
  let again := (if s.bit Reg.F3_CTRL 0 then s.host.lastRead else []) ++ s.host.rereadRest
  let items := s.exportHead.take (n - again.length)
  let new := items.map (fun i => s.ringData 18 i)
  let s := s.setBit Reg.F3_CTRL 0 false
  let s := { s with host := { s.host with lastRead := again.take n ++ new, rereadRest := again.drop n } }
  if new = [] then s else ((s.ringReads 18 items).qRelease 18 new.length).flushQueues

/-- EXPORT_READ (R471, R472, R554). -/
def execExportRead (bytes : Nat) (s : State) : Out := .next (if s.fnReady 3 then s.exportRead bytes else s)

/-- REREAD (R472): a write of F3_CTRL.REREAD. -/
def execReread (s : State) : Out := .next (if s.fnReady 3 then s.setBit Reg.F3_CTRL 0 true else s)

/-! ### The SDIO interface (R456) -/

/-- SDIO_RESET (R456): CMD0, or a write of RES in the CCCR. Both reset the interface only: the card state, I/O Enable, Int
Enable and the assembly latch. -/
def execSdioReset (_res : Bool) (s : State) : Out :=
  .next (if s.live ∧ s.power ≠ 3 then
    { s with host := { s.host with cardUp := false, ioEnable := 0, intEnable := 0, latch := 0 } }
  else s)

end Sys2Proof.Machine
end

