-- ==== Sys2Proof/Machine/Plug.lean ====
section
/-!
DEFINITION. Insertion, boot, reset, removal and the front cages (spec/23_module_connectors_and_hot_plug.md; R23, R455, R461).
-/
namespace Sys2Proof.Machine

open Sys2Proof

/-! ### Insertion and boot (R454, R455, R612, R613, R617) -/

/-- SEATED (R612, R613 step 5, R619): both presence pins low for `heldNs` ns. The always-on domain starts as after POR. -/
def execSeated (heldNs : Nat) (s : State) : Out :=
  .next (if 10000000 ≤ heldNs ∧ (!s.core.alive ∨ s.core.quiesced) then
    let s' := { s.powerLost with core := { alive := true, mrst := s.core.mrst } }
    s'.wr Reg.PM_HOTPLUG (if s.core.mrst then 15 else 7)
  else s)

/-- IO_ENABLE (R455, R618): I/O Enable of function 1 releases the module from its held reset, once MRST_N is high. -/
def execIoEnable (fn : Fin 4) (s : State) : Out :=
  .next (if s.core.alive ∧ !s.core.quiesced ∧ !s.core.removed ∧ s.power ≠ 3 then
    let s := { s with host := { s.host with ioEnable := s.host.ioEnable ||| BitVec.ofNat 4 (2 ^ fn.val), cardUp := true } }
    if fn.val = 1 then
      let s := { s with core := { s.core with enabledOnce := true } }
      if s.core.held ∧ !s.core.mrst ∧ s.core.cp = .off then s.startBoot else s
    else s
  else s)

/-- CD_DISABLE (R454). -/
def execCdDisable (s : State) : Out :=
  .next (if s.core.alive ∧ !s.core.quiesced ∧ s.power ≠ 3 then { s with host := { s.host with cdDisable := true } } else s)

/-- Registers that firmware sets at boot: the enables of the blocks it serves (R469), the MAC addresses, the place of the
comet table (R331), its release (R589). -/
def State.firmwareSetup (s : State) : State :=
  let on (r : RegRow) (s : State) : State := s.wr r r.rw
  let s := on Reg.SEC_IRQ_EN (on Reg.XLT_IRQ_EN (on Reg.MEM_ECC_IRQ_EN (on Reg.MEM_IRQ_EN s)))
  let s := s.forAll (upTo 8) (fun m s => s.when (decide (s.rd64 Reg.LN_MAC_ADDR_LO Reg.LN_MAC_ADDR_HI m = 0)) (fun s =>
    s.wr64 Reg.LN_MAC_ADDR_LO Reg.LN_MAC_ADDR_HI (Config.macAddr m) m))
  let s := s.wr64 Reg.WT_TABLE_BASE_LO Reg.WT_TABLE_BASE_HI Config.cometTableBase
  s.setF Reg.SYS_FW_VERSION 0 16 (imgNat (s.sec.running.getD []) 12 2)

/-- The removal marker is read and written (R617). -/
def State.bootMarker (s : State) : State :=
  let s := s.when s.core.cold (fun s => (s.bumpPlug 0).when (!s.flash.orderly) (fun s => s.bumpPlug 1))
  { s with flash := { s.flash with orderly := false }, core := { s.core with cold := false } }

/-- FIRMWARE_READY (R432, R455, R617): firmware has booted. -/
def execFirmwareReady (s : State) : Out :=
  .next (if s.live ∧ s.power ≠ 3 ∧ s.core.cp = .booting ∧ s.core.romDone then
    let s := s.firmwareSetup.makeFixedQueues.bootMarker.syncFree.syncSpare
    let core := { s.core with cp := .running }
    ({ s with core := core, host := { s.host with ioReady := 14 } }).raise Reg.F1_EVENT 16
  else s)

/-! ### Resets (R473, R564, R618) -/

/-- MRST (R618): MRST_N low for `heldNs` ns. Whether a pulse between 1 µs and 10 µs resets is open. -/
def execMrst (heldNs : Nat) (s : State) : Out :=
  let d := s.draw
  let open_ := decide (1000 ≤ heldNs) && decide (heldNs < 10000)
  let s := if open_ then d.2 else s
  .next (if 10000 ≤ heldNs ∨ (open_ ∧ d.1.getLsbD 0) then
    let seated := s.core.alive && !s.core.quiesced
    let s := if seated then s.resetModule.setBit Reg.PM_HOTPLUG 3 true else s
    { s with core := { s.core with mrst := true } }
  else s)

/-- MRST_RELEASE (R618, R619): MRST_N rises. -/
def execMrstRelease (s : State) : Out :=
  .next (if s.core.mrst then
    let s := { s with core := { s.core with mrst := false } }
    let s := s.setBit Reg.PM_HOTPLUG 3 false
    if s.core.alive ∧ !s.core.quiesced ∧ s.core.enabledOnce ∧ s.core.held ∧ s.core.cp = .off then s.startBoot else s
  else s)

/-- MODULE_RESET (R473): the reply, then the reset, which does not wait for I/O Enable. -/
def execModuleReset (m : Fin 16) (s : State) : Out :=
  .next (s.command m 3 (some 4) true (fun s =>
    s.fields m (decide (s.arg m 0 4 = 0x5A5A0001)) (fun s => (s.answer m S_OK).resetModule.startBoot)))

/-! ### Removal and loss of power (R576, R614, R615) -/

/-- ORDERLY_REMOVE (R614). The mailbox keeps the reply. -/
def execOrderlyRemove (m : Fin 16) (s : State) : Out :=
  .next (s.command m 6 (some 0) true (fun s =>
    match s.entryFails [1, 2, 3] with
    | some k => s.answer m S_POWER_STATE [] k
    | none =>
      let s := s.outputsOff
      let s := ({ s with flash := { s.flash with orderly := true } }).bumpPlug 2
      let s := s.answer m S_OK
      let mail := s.regs.filter (fun p => decide (0x10000000 ≤ p.1))
      let s' := s.blank ((regsAfter .s3 s.regs).filter (fun p => decide (p.1 < 0x10000000)) ++ mail)
      { s' with core := { s.core with removed := true, removeLit := true, cp := .off }
                fio := { forcedOff := true } }))

/-- EMERGENCY_QUIESCE (R612, R615): a presence pin high for `heldNs` ns. -/
def execEmergencyQuiesce (pin : Fin 2) (heldNs : Nat) (s : State) : Out :=
  .next (if s.core.alive ∧ !s.core.quiesced ∧ 2000 ≤ heldNs then
    let pins := putBit (putBit (s.rd Reg.PM_HOTPLUG) 0 false) (1 + pin.val) false
    let s' := { s.powerLost with core := { alive := true, quiesced := true, mrst := s.core.mrst }, fio := { forcedOff := true } }
    s'.wr Reg.PM_HOTPLUG pins
  else s)

/-- BUS_UNDERVOLTAGE (R576): the 48 V bus is below 34 V. -/
def execBusUndervoltage (decivolts : Nat) (s : State) : Out :=
  .next (if decivolts < 340 then { s.powerLost with core := { mrst := s.core.mrst } } else s)

/-! ### Warm restart of the CP (R23, R24, R461, R575, R590) -/

/-- Mailboxes whose command is BUSY with a transition of the power manager or a swap that waits for its boundary, which the
restart does not disturb. -/
def State.pmWaits (s : State) (m : Nat) : Bool :=
  decide ((s.pm.opTarget.map (fun p => p.2)) = some m) || decide (s.pm.wakeReply = some m) ||
    decide ((s.pm.entry.bind (fun p => p.2)) = some m) || decide ((s.host.swapWait.map (fun p => p.1)) = some m)

/-- BUSY commands are answered from the journal, or served again from their start (R461). -/
def State.busyAgain (s : State) : State :=
  s.forAll (upTo 16) (fun m s =>
    match AMap.look s.host.journal m with
    | some b => (s.mailReply m b).bump Reg.F1_CNT 4
    | none => if s.mbState m = 2 ∧ !s.pmWaits m then s.setMb m 1 else s)

/-- WARM_RESTART_DONE (R23, R461, R575, R590); `copiesLost` says that both copies of the running release are unreadable, so
that the new image boots. -/
def execWarmRestartDone (copiesLost : Bool) (s : State) : Out :=
  .next (if s.live ∧ s.power ≠ 3 ∧ s.core.cp = .restarting then
    let s := s.restartEnds
    if copiesLost then
      let s := s.secBoot
      if s.core.cp = .recovery then s
      else
        let s := (s.setBit Reg.SEC_STATUS 5 true).setF Reg.SYS_FW_VERSION 0 16 (imgNat (s.sec.running.getD []) 12 2)
        let s := { s with core := { s.core with cp := .running }, host := { s.host with camXfer := none } }
        (s.raise Reg.F1_EVENT 16).busyAgain
    else
      let s := { s with core := { s.core with cp := .running }, host := { s.host with camXfer := none } }
      (s.raise Reg.F1_EVENT 16).busyAgain
  else s)

/-! ### Front cages (R605 to R607) -/

/-- The lanes of a cage lose lock. -/
def State.cageDark (s : State) (k : Nat) : State := s.forAll (upTo 4) (fun i s => s.lockLost (4 * k + i) 1000000)

/-- CAGE_INSERT (R606, R607): a plugged module of power class `cls`, 0 where it declares none. -/
def execCageInsert (k : Fin 4) (cls : Fin 16) (s : State) : Out :=
  let n := k.val
  .next (if s.core.alive ∧ !s.core.quiesced ∧ !s.bit Reg.LN_CAGE_STATUS 0 n then
    let c := min cls.val 8
    let limit := decide (4 < c)
    let s := s.wr Reg.LN_CAGE_STATUS (BitVec.ofNat 32 (1 + 16 * c + (if limit then 1536 else 0))) n
    if s.on .LN then (s.raise Reg.LN_CAGE_EVENT n).when limit (fun s => s.raise Reg.LN_CAGE_EVENT (8 + n)) else s
  else s)

/-- CAGE_REMOVE (R607). -/
def execCageRemove (k : Fin 4) (s : State) : Out :=
  let n := k.val
  .next (if s.core.alive ∧ !s.core.quiesced ∧ s.bit Reg.LN_CAGE_STATUS 0 n then
    let s := s.wr Reg.LN_CAGE_STATUS 0 n
    if s.on .LN then (s.raise Reg.LN_CAGE_EVENT (4 + n)).cageDark n else s
  else s)

/-- CAGE_POWER_FAULT (R606): the cage at its current limit for `heldNs` ns. -/
def execCagePowerFault (k : Fin 4) (heldNs : Nat) (s : State) : Out :=
  let n := k.val
  .next (if s.on .LN ∧ s.bit Reg.LN_CAGE_STATUS 0 n ∧ !s.bit Reg.LN_CAGE_STATUS 8 n ∧ 1000000 ≤ heldNs then
    ((s.setBit Reg.LN_CAGE_STATUS 8 true n).raise Reg.LN_CAGE_EVENT (8 + n)).cageDark n
  else s)

/-- CAGE_INTERRUPT (R605). -/
def execCageInterrupt (k : Fin 4) (s : State) : Out :=
  let n := k.val
  .next (if s.on .LN ∧ s.bit Reg.LN_CAGE_STATUS 0 n then
    (s.setBit Reg.LN_CAGE_STATUS 1 true n).raise Reg.LN_CAGE_EVENT (12 + n)
  else s)

end Sys2Proof.Machine
end

