-- ==== Sys2Proof/Machine/RegWrite.lean ====
section
/-!
DEFINITION. The commands on registers that have no chapter of their own: plain writes, writes that firmware decides, register
pairs, RC reads, unmapped accesses, and the writes of CAM_PORT_CFG and of the trigger grid.
-/
namespace Sys2Proof.Machine

open Sys2Proof

/-- REGISTER_WRITE (R7, R8, R11, R12, R466, R467, R641): a write of `v` to the register at an address. -/
def execRegisterWrite (w : Writer) (addr : Nat) (v : Word) (s : State) : Out := .next (s.writeAt w addr v)

/-- CHECKED_WRITE_DECIDED (R12): firmware decides the oldest write that waits. -/
def execCheckedWriteDecided (s : State) : Out :=
  .next (match s.host.decideQ with
    | (a, v, hi) :: t =>
      if s.live ∧ s.core.cp = .running then
        let s := { s with host := { s.host with decideQ := t } }
        match findReg a with
        | some (r, i, j, k) => if ((blockAt a).map (fun b => s.on b)).getD false then s.regDecide r i j k v hi else s
        | none => s
      else s
    | [] => s)

/-- PAIR_HI_WRITE (R6): the high word of a register pair waits for the write of the low one. -/
def execPairHiWrite (w : Writer) (addr : Nat) (v : Word) (s : State) : Out :=
  .next (match findReg addr with
    | some (r, i, j, k) =>
      if addr < 2 ^ 26 ∧ (lowOf r).isSome then s.writeElem w r i j k v else s
    | none => s)

/-- PAIR_LO_READ (R5): a read of the low word of a pair latches the high half. -/
def execPairLoRead (addr : Nat) (s : State) : Out :=
  .next (match findReg addr with
    | some (r, _, _, _) => if (highOf r).isSome then (s.readAt addr).2 else s
    | none => s)

/-- RC_READ (R7): a read of a register with RC bits clears them. -/
def execRcRead (addr : Nat) (s : State) : Out :=
  .next (match findReg addr with
    | some (r, _, _, _) => if r.rc = 0 then s else (s.readAt addr).2
    | none => s)

/-- No register answers at an address of the device register space: none stands there, or its block has no power (R11,
R554). -/
def State.noRegister (s : State) (a : Nat) : Bool :=
  decide (a < 2 ^ 26) &&
    ((findReg a).isNone || !((blockAt a).map (fun b => s.on b)).getD false)

/-- UNMAPPED_ACCESS (R11, R554): an access to an address that belongs to no register; a write is ignored, a read returns
zero. -/
def execUnmappedAccess (addr : Nat) (write : Bool) (s : State) : Out :=
  .next (if s.live ∧ s.power ≠ 3 ∧ s.noRegister addr then (if write then s.unmapped else (s.readAt addr).2) else s)

/-- CAM_PORT_CFG_WRITE (R26, R67, R70, R78, R82, R88, R643). -/
def execCamPortCfgWrite (w : Writer) (n : Fin 8) (v : Word) (s : State) : Out := .next (s.portCfgWrite w n v)

/-- TRIG_GRID_WRITE (R78, R81): a write of PITCH, or with `phase` of PHASE. -/
def execTrigGridWrite (w : Writer) (n : Fin 8) (phase : Bool) (v : Word) (s : State) : Out :=
  .next (s.plainWrite w (if phase then Reg.CAM_TRIG_PHASE else Reg.CAM_TRIG_PITCH) n 0 0 v)

end Sys2Proof.Machine
end

