-- ==== Sys2Proof/Machine/Tile.lean ====
section
/-!
DEFINITION. The tile instructions (R268 to R271): control, DMA, matrix and post classes, one meaning for each OP. Each runs
the instruction that its engine has in turn.
-/
namespace Sys2Proof.Machine

open Sys2Proof

/-! ### Control -/

/-- NOP of the tile instruction set (R270). -/
def execTileNop (e : Fin 42) (s : State) : Out := .next (s.onTurn e 0x00 (fun t _ s => s.putTile e t.pass))

/-- The rows of the tile's step are present on a stream for every slot. -/
def State.stepRowsIn (s : State) (t : TileRun) (n rows : Nat) : Bool :=
  match s.jobOf t.handle with
  | some j => t.slots.all (fun k => decide (min (j.img.heightOf n) (((j.slot k).step t.tile + 1) * rows) ≤ s.rowsIn t.handle j k n))
  | none => false

/-- WAIT_ROWS (R270): the instruction holds until the rows are present. -/
def execWaitRows (e : Fin 42) (s : State) : Out :=
  .next (s.onTurn e 0x01 (fun t i s => if s.stepRowsIn t i.srcA.toNat i.rows.toNat then s.putTile e t.pass else s))

/-- Semaphores that the SEM_ACQUIRE instructions of a tile name (R304). -/
def TileD.acquires (t : TileD) : List Nat := (t.prog.filter (fun p => decide (p.1 = 2))).map (fun p => p.2.1.arg1.toNat % 256)

/-- A saved context of the holder of a semaphore inherits the waiter's priority, along chains of holders (R305). -/
def State.inheritPrio (s : State) (prio : Nat) : Nat → List Nat → State
  | 0, _ => s
  | fuel + 1, sems =>
    let holders := (sems.filterMap (fun n => AMap.look s.job.sems n)).eraseDups
    holders.foldl (fun t h =>
      let cs := t.job.ctxs.filter (fun p => decide (p.1 / 64 = h) && p.2.saved)
      let base := ((t.jobOf h).map (fun j => j.prio)).getD 0
      let t := t.forAll cs (fun p t =>
        if max base p.2.inherit < prio then t.setCtx h (p.1 % 64) { p.2 with inherit := prio } else t)
      t.inheritPrio prio fuel (cs.flatMap (fun p => p.2.semWait))) s

/-- Each reversal is counted for the waiter's client and for the holders' (R305). -/
def State.countReversal (s : State) (h : Nat) (sems : List Nat) : State :=
  let hs := (sems.filterMap (fun n => AMap.look s.job.sems n)).eraseDups
  let saved := hs.filter (fun k => s.job.ctxs.any (fun p => decide (p.1 / 64 = k) && p.2.saved))
  if saved = [] then s else (saved.foldl (fun t k => t.clientCnt k 3) (s.clientCnt h 3)).raise Reg.QM_SCHED_EVENT 1

/-- SEM_ACQUIRE (R304, R305): the semaphores of a tile are taken all at once; a tile that cannot take them all does not
start, and its context waits. -/
def State.semAcquire (s : State) (e : Nat) (t : TileRun) (i : TileInstr) : State :=
  if t.sems.contains (i.arg1.toNat % 256) then s.putTile e t.pass
  else
    let want := ((s.imgOf t).tile t.tile).acquires
    if want.all (fun n => (AMap.look s.job.sems n).isNone) then
      let sems := want.foldl (fun m n => AMap.put m n t.handle) s.job.sems
      let s := { s with job := { s.job with sems := sems } }
      s.putTile e { t.pass with sems := want }
    else
      let c := s.tileCtx t
      let s := s.setTileCtx t { c with semWait := want, nextTile := some t.tile, eligAt := none }
      let s := (s.inheritPrio (s.effPrio t.handle (s.tileUnit t)) 64 want).countReversal t.handle want
      (s.putEngine e { s.engine e with tile := none }).syncJobs

/-- SEM_ACQUIRE (R304). -/
def execSemAcquire (e : Fin 42) (s : State) : Out := .next (s.onTurn e 0x02 (fun t i s => s.semAcquire e t i))

/-- SEM_RELEASE (R271, R273): released at the commit. -/
def execSemRelease (e : Fin 42) (s : State) : Out :=
  .next (s.onTurn e 0x03 (fun t i s => s.putTile e { t.pass with releases := t.releases ++ [i.arg1.toNat % 256] }))

/-- Tiles of a job that name a barrier. -/
def JobImg.barrierTiles (g : JobImg) (b : Nat) : List Nat :=
  (g.tiles.zipIdx.filter (fun p => p.1.prog.any (fun q => decide (q.1 = 4 ∧ q.2.1.arg1.toNat = b)))).map (fun p => p.2)

/-- Every tile of a job that stands at a barrier passes it. -/
def State.passBarrier (s : State) (h b : Nat) : State :=
  s.forAll (upTo 42) (fun e s =>
    match (s.engine e).tile with
    | some t =>
      match t.todo with
      | (4, i, _) :: _ => if t.handle = h ∧ i.arg1.toNat = b then s.putTile e t.pass else s
      | _ => s
    | none => s)

/-- BARRIER (R270): the last tile of the step to arrive lets all of them pass. -/
def State.barrier (s : State) (t : TileRun) (i : TileInstr) : State :=
  let b := i.arg1.toNat
  let key := 64 * t.handle + b % 64
  let arr := AMap.get s.job.barriers [] key
  let arr := if arr.contains t.tile then arr else arr ++ [t.tile]
  let need := (s.imgOf t).barrierTiles b
  if need.all (fun k => arr.contains k) then
    let s := s.passBarrier t.handle b
    { s with job := { s.job with barriers := AMap.del s.job.barriers key } }
  else { s with job := { s.job with barriers := AMap.put s.job.barriers key arr } }

/-- BARRIER (R270). -/
def execBarrier (e : Fin 42) (s : State) : Out := .next (s.onTurn e 0x04 (fun t i s => s.barrier t i))

/-- REMOTE_SEND (R273): sent at the commit. -/
def execRemoteSend (e : Fin 42) (s : State) : Out :=
  .next (s.onTurn e 0x05 (fun t i s =>
    s.putTile e { t.pass with sends := t.sends ++ [(i.srcA.toNat, i.arg0.toNat, i.arg1.toNat)] }))

/-- REMOTE_WAIT (R302): a tag whose reply has landed lets the tile proceed; else the context waits at the boundary. -/
def State.remoteWait (s : State) (e : Nat) (t : TileRun) (i : TileInstr) : State :=
  let c := s.tileCtx t
  let want := (i.arg1.toNat, i.dst.toNat)
  if c.remote = some want ∧ c.remoteDone then
    let s := s.setTileCtx t { c with remote := none, remoteDone := false }
    let k := s.instrKey t
    s.putTile e { t.pass with progress := t.progress ++ t.slots.map (fun n => (n, k, (s.imgOf t).heightOf i.dst.toNat)) }
  else
    let s := s.setTileCtx t { c with remote := some want, remoteDone := false, nextTile := some t.tile, eligAt := none }
    s.putEngine e { s.engine e with tile := none }

/-- REMOTE_WAIT (R302). -/
def execRemoteWait (e : Fin 42) (s : State) : Out := .next (s.onTurn e 0x06 (fun t i s => s.remoteWait e t i))

/-- The verdict of a slot from its argmax index (R265): by the marks, beyond the map, or a class. -/
def verdictOf (g : JobImg) (x : Slot) (index : Nat) : Nat × Nat :=
  if fld x.marks 0 16 &&& g.markFailsafe ≠ 0 then (2, 0)
  else match (g.classMap.drop index).head? with
    | some c => (1, c)
    | none => (3, 0)

/-- The argmax index of a slot: the first entry of row 0 of a stream (R242). -/
def rowIndex (r : List Byte × List Word) : Nat := natLE (r.1.take 2)

/-- Argmax indices of the tile's slots, read one after another. -/
def State.readIndices (s : State) (e : Nat) (t : TileRun) (n : Nat) : List Nat → State × Option (List (Nat × Nat))
  | [] => (s, some [])
  | k :: rest =>
    let go (s : State) (r : List Byte × List Word) : State × Option (List (Nat × Nat)) :=
      let q := s.readIndices e t n rest
      (q.1, q.2.map (fun l => (k, rowIndex r) :: l))
    match (s.tileCtx t).win n k with
    | r :: _ => go s r
    | [] =>
      match s.readRow e t n k 0 none with
      | (s1, .ok r) => go s1 r
      | (s1, .error f) => (s1.dmaFail e t n false f, none)

/-- VERDICT and PROVISIONAL (R265, R270): delivered at the commit. -/
def State.verdictStep (s : State) (e : Nat) (t : TileRun) (i : TileInstr) (prov : Bool) : State :=
  match s.readIndices e t i.srcA.toNat t.slots with
  | (s1, none) => s1
  | (s1, some l) =>
    let g := s1.imgOf t
    let vs : List VerdictOut := l.filterMap (fun p =>
      let v := verdictOf g (s1.slotOf t.handle p.1) p.2
      if !prov then some { slot := p.1, kind := v.1, cls := v.2, index := p.2 }
      else if v.1 = 1 then some { slot := p.1, kind := 4, cls := v.2, index := p.2 } else none)
    s1.putTile e { t.pass with verdicts := t.verdicts ++ vs }

/-- VERDICT (R265). -/
def execVerdict (e : Fin 42) (s : State) : Out := .next (s.onTurn e 0x07 (fun t i s => s.verdictStep e t i false))
/-- PROVISIONAL (R265). -/
def execProvisional (e : Fin 42) (s : State) : Out := .next (s.onTurn e 0x08 (fun t i s => s.verdictStep e t i true))

/-! ### DMA -/

/-- The idle half with a stream staged (R165). -/
def Ctx.stage (c : Ctx) (w : StagedW) : Ctx := { c with idle := w :: c.idle.filter (fun x => decide (x.stream ≠ w.stream)) }

/-- Scale entries of `n` blocks of a weight stream (R207). -/
def State.readScales (s : State) (e : Nat) (t : TileRun) (n cnt : Nat) : State × Except Dma (List Word) :=
  if ((s.imgOf t).stream n).scale = 0xFFFF then (s, .ok [])
  else
    match s.dmaRead e t.handle none (sectorsOf (2 * cnt)) (s.scaleVa t n 0) (2 * cnt) 0 with
    | (s1, .done m) => (s1, .ok ((upTo cnt).map (fun i => BitVec.ofNat 32 (natLE ((m.drop (2 * i)).take 2)))))
    | (s1, r) => (s1, .error r)

/-- LOAD_WEIGHTS (R165, R202): blocks of 64 bytes from the start of the stream into the idle half. -/
def State.loadWeights (s : State) (e : Nat) (t : TileRun) (i : TileInstr) (up : Option ReadUpset) : State :=
  let n := i.srcA.toNat
  let bytes := i.arg0.toNat * 64
  let g := s.imgOf t
  match s.dmaRead e t.handle up (sectorsOf bytes) (s.streamVa t n) bytes 0 with
  | (s1, .done l) =>
    match s1.readScales e t n (bytes * 8 / max 1 (32 * fmtBits (g.tensorOf n).fmt)) with
    | (s2, .ok sc) => (s2.setTileCtx t ((s2.tileCtx t).stage { stream := t.stagedAs n, bytes := l, scales := sc })).putTile e t.pass
    | (s2, .error f) => s2.dmaFail e t n false f
  | (s1, f) => s1.dmaFail e t n false f

/-- An instruction that reads SRAM and DRAM. -/
def State.dmaInstr (s : State) (e op : Nat) (sram : SramRead) (f : TileRun → TileInstr → State → State) : State :=
  s.compute e op sram false f

/-- LOAD_WEIGHTS (R165, R202). -/
def execLoadWeights (e : Fin 42) (sram : SramRead) (upset : Option ReadUpset) (s : State) : Out :=
  .next (s.dmaInstr e 0x10 sram (fun t i s => s.loadWeights e t i upset))

/-- LOAD_ACT (R224): the rows of the step into the rolling windows. -/
def State.loadAct (s : State) (e : Nat) (t : TileRun) (i : TileInstr) (up : Option ReadUpset) : State :=
  match s.loadRows e t i.srcA.toNat up (s.rowsToLoad t i.srcA.toNat i.rows.toNat) with
  | (s1, true) => s1.putTile e t.pass
  | (s1, false) => s1

/-- LOAD_ACT (R224). -/
def execLoadAct (e : Fin 42) (sram : SramRead) (upset : Option ReadUpset) (s : State) : Out :=
  .next (s.dmaInstr e 0x11 sram (fun t i s => s.loadAct e t i upset))

/-- A row moved from one tensor to another, element by element, with layout conversion (R233). -/
def copyRow (src : Src) (dst : TensorD) (r : Nat) : List (Nat × List Byte) × List (Nat × Nat) :=
  let els := (List.range dst.w).flatMap (fun x => (List.range dst.c).map (fun ch => (x, ch)))
  let runs := packRow dst.fmt (els.map (fun p => (dst.place p.1 p.2, src.code r p.1 p.2)))
  let sc := if fmtMx dst.fmt then
      (els.map (fun p => (dst.place p.1 p.2 / 32, src.scaleX r p.1 p.2))).foldl
        (fun (m : List (Nat × Nat)) b => if m.any (fun y => decide (y.1 = b.1)) then m else m ++ [b]) []
    else []
  (runs, sc)

/-- Rows present in the windows copied to the DST stream: STORE and COPY. -/
def State.copyRows (s : State) (e : Nat) (t : TileRun) (i : TileInstr) : State :=
  let g := s.imgOf t
  let n := i.dst.toNat
  let ten := g.tensorOf n
  let r := t.slots.foldl (fun (a : TileRun) k =>
    let src := s.srcOf t i.srcA.toNat k
    let from_ := s.doneRows t k
    let rows := (upTo (min src.rows.length ten.h - from_)).map (fun j => from_ + j)
    let a := rows.foldl (fun (a : TileRun) row =>
      let c := copyRow src ten row
      s.stageScales (s.stageRuns a n k row c.1) n k row c.2) a
    { a with progress := a.progress ++ [(k, s.instrKey t, from_ + rows.length)] }) t
  s.putTile e r.pass

/-- STORE (R273): output rows staged for a buffer. -/
def execStore (e : Fin 42) (s : State) : Out := .next (s.onTurn e 0x12 (fun t i s => s.copyRows e t i))

/-- LOAD_BANK (R248): ARG0 entries from entry ARG1 × 65,536, with their norms, into the idle half. -/
def State.loadBank (s : State) (e : Nat) (t : TileRun) (i : TileInstr) (up : Option ReadUpset) : State :=
  let n := i.srcA.toNat
  let g := s.imgOf t
  let d := g.stream n
  let first := i.arg1.toNat * 65536
  let cnt := i.arg0.toNat
  let total := (g.tensorOf n).w * (g.tensorOf n).h
  let bytes := cnt * d.rowStride
  match s.dmaRead e t.handle up (sectorsOf bytes) (s.streamVa t n + first * d.rowStride) bytes 0 with
  | (s1, .done l) =>
    match s1.dmaRead e t.handle none (sectorsOf (4 * cnt)) (s1.streamVa t n + total * d.rowStride + 4 * first) (4 * cnt) 0 with
    | (s2, .done m) =>
      let norms := (upTo cnt).map (fun k => BitVec.ofNat 32 (natLE ((m.drop (4 * k)).take 4)))
      (s2.setTileCtx t ((s2.tileCtx t).stage { stream := t.stagedAs n, bytes := l, entry := first, norms := norms })).putTile e t.pass
    | (s2, f) => s2.dmaFail e t n false f
  | (s1, f) => s1.dmaFail e t n false f

/-- LOAD_BANK (R248). -/
def execLoadBank (e : Fin 42) (sram : SramRead) (upset : Option ReadUpset) (s : State) : Out :=
  .next (s.dmaInstr e 0x13 sram (fun t i s => s.loadBank e t i upset))

/-- The sample header of a slot after `n` rows of its window (R291, R332). -/
def State.sampleHeader (s : State) (x : Slot) (input n total : Nat) (w : List (OutRow × Bool)) : Slot :=
  let taken := w.take n
  let real := (taken.filter (fun r => r.2)).map (fun r => r.1)
  let marks := (taken.map (fun r => r.1.marks)).foldl (fun a b => a ||| b) x.marks
  let short := taken.any (fun r => !r.2) || decide (taken.length < n)
  let long := match s.comet x.comet, w.getLast? with
    | some c, some r => decide (c.seq = x.cseq) && !x.padding && c.trailIn && decide (n = total)
        && decide (w.length = total) && decide (posDiff r.1.aligned (posWord c.windowTo) < 0)
    | _, _ => false
  let marks := putBit (if short then putBit marks 3 true else marks) 4 (long || marks.getLsbD 4)
  match real with
  | r :: _ =>
    { x with st := if x.st = .free then .joined else x.st, firstPos := r.aligned, time := r.time, marks := marks,
             rowsValid := real.length, input := input, lineSeq := r.seq }
  | [] => { x with st := if x.st = .free then .joined else x.st, marks := marks, rowsValid := 0, input := input }

/-- GATHER for one slot (R290 to R292, R332): rows of the part window from the input ring to the DST stream. -/
def State.gatherSlot (s : State) (t : TileRun) (i : TileInstr) (k : Nat) : State × TileRun :=
  match s.jobOf t.handle with
  | some j =>
    let x := j.slot k
    let input := (j.img.stream i.srcA.toNat).input
    let total := (j.img.input input).windowRows
    let w := s.windowOf t.handle j x input
    let ten := j.img.tensorOf i.dst.toNat
    let goal := min total (min (s.windowRowsIn t.handle j x input) ((x.step t.tile + 1) * i.rows.toNat))
    let from_ := s.doneRows t k
    let rowBytes (r : Nat) : List Byte := match (w.drop r).head? with
      | some (o, true) => ringBytes ten o.pix
      | _ => packCodes ten.fmt (List.replicate ten.rowElems (Config.windowFill t.handle input))
    let r := ((upTo (goal - from_)).map (fun n => from_ + n)).foldl
      (fun (a : TileRun) row => s.stageRuns a i.dst.toNat k row [(0, rowBytes row)]) t
    let y := s.sampleHeader x input goal total w
    let s := s.setSlot t.handle k y
    let s := match s.comet x.comet with
      | some c => if c.seq = x.cseq ∧ !x.padding then s.setComet x.comet { c with marks := c.marks ||| y.marks } else s
      | none => s
    (s, { r with progress := r.progress ++ [(k, s.instrKey t, max from_ goal)],
                 gathers := if goal = total then r.gathers ++ [(k, input)] else r.gathers })
  | none => (s, t)

/-- GATHER (R290 to R292). -/
def State.gather (s : State) (e : Nat) (t : TileRun) (i : TileInstr) : State :=
  let r := t.slots.foldl (fun (a : State × TileRun) k => a.1.gatherSlot a.2 i k) (s, t)
  r.1.putTile e r.2.pass

/-- GATHER (R290 to R292). -/
def execGather (e : Fin 42) (s : State) : Out := .next (s.onTurn e 0x14 (fun t i s => s.gather e t i))

/-- ZERO (R270): zero codes in the rows of the step. -/
def State.zeroRows (s : State) (e : Nat) (t : TileRun) (i : TileInstr) : State :=
  let g := s.imgOf t
  let ten := g.tensorOf i.dst.toNat
  let r := t.slots.foldl (fun (a : TileRun) k =>
    let from_ := s.doneRows t k
    let goal := min ten.h (((s.slotOf t.handle k).step t.tile + 1) * i.rows.toNat)
    let rows := (upTo (goal - from_)).map (fun n => from_ + n)
    let a := rows.foldl (fun (a : TileRun) row =>
      s.stageRuns a i.dst.toNat k row [(0, packCodes ten.fmt (List.replicate ten.rowElems 0))]) a
    { a with progress := a.progress ++ [(k, s.instrKey t, max from_ goal)] }) t
  s.putTile e r.pass

/-- ZERO (R270). -/
def execZero (e : Fin 42) (s : State) : Out := .next (s.onTurn e 0x15 (fun t i s => s.zeroRows e t i))

/-! ### Matrix class -/

/-- The tree or node stack of one output from its slice results (R184, R185, R269): the stack where the slices do not reach
the end of K, else the root. `entry` is the node stack so far. -/
def reduceOut (mode : Rnd) (j0 : Nat) (entry : List Byte) (sl : Counted (List Word)) : Counted (List Node) :=
  sl.andThen (fun l => pushAll mode l (stackOf j0 entry))

/-- The slices of an output, given the output row, position and channel and the range of slices. -/
abbrev SliceFn := Nat → Nat → Nat → Nat → Nat → Counted (List Word)

/-- A row of a matrix instruction over a channel group (R269): values of the DST tensor, or node outs. -/
def matrixRow (i : TileInstr) (l : LayerD) (bm : List (Word × Word)) (w : Nat) (nodes : List Byte) (f : SliceFn) (r : Nat) :
    Counted RowOut :=
  let mode := Rnd.of i.rnd
  let j0 := i.arg1.toNat
  let j1 := sliceEnd l j0 i.arg0.toNat
  let els := (List.range w).flatMap (fun x => (chGroup i.cgrp.toNat l.cout).map (fun co => (x, co)))
  let outs := els.map (fun p =>
    let o := (p.1 * l.cout + p.2) * 64
    (p, o, reduceOut mode j0 ((nodes.drop o).take 64) (f r p.1 p.2 j0 j1)))
  if j1 = l.slices then
    let vs := countAll (outs.map (fun q =>
      let v := (q.2.2.andThen (foldStack mode)).andThen (finish mode l i.act.toNat (biasOf bm l.biasMult q.1.2))
      ((q.1.1, q.1.2, v.1), v.2)))
    (.vals vs.1, vs.2)
  else (.raw (outs.map (fun q => (q.2.1, stackBytes q.2.2.1))), Cnt.total (outs.map (fun q => q.2.2.2)))

/-- Output width of a layer (R227). -/
def LayerD.outW (l : LayerD) (w : Nat) : Nat := (outSize w l.kw l.sx l.padLoX l.padHiX l.dilx).toNat
/-- Output height of a layer. -/
def LayerD.outH (l : LayerD) (h : Nat) : Nat := (outSize h l.kh l.sy l.padLoY l.padHiY l.dily).toNat

/-- Rows of the node stream that an instruction needs in its windows before it can go on (R185). -/
def State.nodesToLoad (s : State) (t : TileRun) (n upto_ : Nat) : List (Nat × Nat) :=
  t.slots.flatMap (fun k =>
    let have_ := ((s.tileCtx t).win n k).length
    (upTo (upto_ - have_)).map (fun r => (k, have_ + r)))

/-- A convolution (R223 to R232, R269): rows that can be computed, over the slices and the channel group of the
instruction. `f` gives the slices of an output for a slot. -/
def State.matrix (s : State) (e : Nat) (t : TileRun) (i : TileInstr) (ready : Nat → Nat → Bool) (f : Nat → SliceFn) :
    State :=
  let g := s.imgOf t
  let l := g.layer i.layer.toNat
  let a := g.tensorOf i.srcA.toNat
  let h := l.outH a.h
  let w := l.outW a.w
  let ns := l.nodeStream
  let top := (t.slots.map (fun k => s.doneRows t k + (readyRows (ready k) (s.doneRows t k) h).length)).foldl max 0
  let need := if i.arg1 = 0 then [] else s.nodesToLoad t ns top
  match s.loadRows e t ns none need with
  | (s1, false) => s1
  | (s1, true) =>
    let j := if sliceEnd l i.arg1.toNat i.arg0.toNat = l.slices then i else { i with dst := BitVec.ofNat 16 ns }
    s1.computeRows e t j h ready (fun k r =>
      matrixRow i l g.biasMult w ((((s1.tileCtx t).win ns k).drop r).headD ([], [])).1 (f k) r)

/-- CONV and CONV_DW: activations of SRC_A against the staged weights of SRC_B (R223, R232). -/
def State.convStep (s : State) (e : Nat) (t : TileRun) (i : TileInstr) : State :=
  let l := (s.imgOf t).layer i.layer.toNat
  let w := s.wtsOf t l i.srcB.toNat
  s.matrix e t i
    (fun k r => let v := s.srcOf t i.srcA.toNat k; rowReady l v.t.h v.rows.length r)
    (fun k r x co j0 j1 => convSlices (Rnd.of i.rnd) l (s.srcOf t i.srcA.toNat k) w r x co j0 j1)

/-- CONV (R223). -/
def execConv (e : Fin 42) (sram : SramRead) (s : State) : Out :=
  .next (s.compute e 0x20 sram true (fun t i s => s.convStep e t i))

/-- CONV_DW (R232): a depthwise convolution reduces over its taps alone. -/
def execConvDw (e : Fin 42) (sram : SramRead) (s : State) : Out :=
  .next (s.compute e 0x21 sram true (fun t i s => s.convStep e t i))

/-- MATMUL (R270): a 1 × 1 convolution whose weights are the positions of SRC_B. -/
def State.matmulStep (s : State) (e : Nat) (t : TileRun) (i : TileInstr) : State :=
  let l := (s.imgOf t).layer i.layer.toNat
  s.matrix e t i
    (fun k r =>
      let v := s.srcOf t i.srcA.toNat k
      let b := s.srcOf t i.srcB.toNat k
      rowReady l v.t.h v.rows.length r && decide (b.t.h ≤ b.rows.length))
    (fun k r x co j0 j1 =>
      let v := s.srcOf t i.srcA.toNat k
      let b := s.srcOf t i.srcB.toNat k
      let br := co / max 1 b.t.w
      let bx := co % max 1 b.t.w
      countAll (((upTo (j1 - j0)).map (fun n => j0 + n)).map (fun j =>
        sliceOf (Rnd.of i.rnd) (fun k => convElem l v r x co k) (fun k => { fmt := b.t.fmt, code := b.code br bx k })
          (fun j => b.scaleX br bx (32 * j)) v.za b.za l.k j)))

/-- MATMUL (R270). -/
def execMatmul (e : Fin 42) (sram : SramRead) (s : State) : Out :=
  .next (s.compute e 0x22 sram true (fun t i s => s.matmulStep e t i))

/-- Values of a row over a channel group. -/
def groupVals (i : TileInstr) (w c : Nat) (f : Nat → Nat → Counted Word) : Counted RowOut :=
  let r := countAll ((List.range w).flatMap (fun x => (chGroup i.cgrp.toNat c).map (fun ch =>
    let v := f x ch
    ((x, ch, v.1), v.2))))
  (.vals r.1, r.2)

/-- AVGPOOL (R236), with MULT and the activation function (R204, R269). -/
def State.avgStep (s : State) (e : Nat) (t : TileRun) (i : TileInstr) : State :=
  let g := s.imgOf t
  let l := g.layer i.layer.toNat
  let a := g.tensorOf i.srcA.toNat
  s.computeRows e t i (l.outH a.h)
    (fun k r => let v := s.srcOf t i.srcA.toNat k; rowReady l v.t.h v.rows.length r)
    (fun k r => groupVals i (l.outW a.w) a.c (fun x ch =>
      let m := (biasOf g.biasMult l.biasMult ch).getD (0, 0x3F800000)
      ((avgOne (Rnd.of i.rnd) l (s.srcOf t i.srcA.toNat k) r x ch).andThen (fun v => fMul (Rnd.of i.rnd) v m.2)).andThen
        (fun v => (actFn i.act.toNat l.p0 l.p1 v, {}))))

/-- AVGPOOL (R236). -/
def execAvgpool (e : Fin 42) (sram : SramRead) (s : State) : Out :=
  .next (s.compute e 0x23 sram true (fun t i s => s.avgStep e t i))

/-- ATTN_SCORE (R245 steps 1 to 3): rows of a window once its last row has arrived (R247). -/
def State.attnScore (s : State) (e : Nat) (t : TileRun) (i : TileInstr) : State :=
  let g := s.imgOf t
  let l := g.layer i.layer.toNat
  let a := g.tensorOf i.srcA.toNat
  s.computeRows e t i a.h
    (fun k r =>
      let n := min (s.srcOf t i.srcA.toNat k).rows.length (s.srcOf t i.srcB.toNat k).rows.length
      decide ((r / max 1 l.kh + 1) * l.kh ≤ n))
    (fun k r =>
      let all := countAll ((List.range a.w).flatMap (fun x => (List.range l.heads).map (fun hd =>
        let p := attnRow (Rnd.of i.rnd) l (s.srcOf t i.srcA.toNat k) (s.srcOf t i.srcB.toNat k) g.biasMult r x hd
        (p.1.zipIdx.map (fun q => (x, hd * l.t + q.2, q.1)), p.2))))
      (.vals (all.1.flatten.filter (fun v => decide (v.2.1 / 128 = i.cgrp.toNat))), all.2))

/-- ATTN_SCORE (R245, R246). -/
def execAttnScore (e : Fin 42) (sram : SramRead) (s : State) : Out :=
  .next (s.compute e 0x24 sram true (fun t i s => s.attnScore e t i))

/-- ATTN_VALUE (R245 step 4). -/
def State.attnValue (s : State) (e : Nat) (t : TileRun) (i : TileInstr) : State :=
  let g := s.imgOf t
  let l := g.layer i.layer.toNat
  let a := g.tensorOf i.srcA.toNat
  s.computeRows e t i a.h
    (fun k r =>
      let n := min (s.srcOf t i.srcA.toNat k).rows.length (s.srcOf t i.srcB.toNat k).rows.length
      decide ((r / max 1 l.kh + 1) * l.kh ≤ n))
    (fun k r => groupVals i a.w (l.heads * l.d) (fun x ch =>
      attnOut (Rnd.of i.rnd) l (s.srcOf t i.srcA.toNat k) (s.srcOf t i.srcB.toNat k) r x ch))

/-- ATTN_VALUE (R245). -/
def execAttnValue (e : Fin 42) (sram : SramRead) (s : State) : Out :=
  .next (s.compute e 0x25 sram true (fun t i s => s.attnValue e t i))

/-- The bank index of the first entry of a bank stream: the entries of the bank streams before it (R248, R251). -/
def JobImg.bankFrom (g : JobImg) (n : Nat) : Nat :=
  ((g.streams.take n).filter (fun d => decide (d.kind = 2))).foldl (fun a d =>
    let t := (g.tensors.drop d.tensor).headD {}
    a + t.w * t.h) 0

/-- The distances of one query to the staged entries of a bank (R250). -/
def distRow (l : LayerD) (q : Src) (bankFmt stride base : Nat) (w : StagedW) (mult : Word) (r x : Nat) :
    Counted (List Ranked) :=
  let xs : List Elem := (List.range l.d).map (fun k => { fmt := q.t.fmt, code := q.code r x k })
  let nx := dotElems .rne (xs.map (fun a => (a, a)))
  let ds := countAll (w.norms.zipIdx.map (fun nb =>
    let es : List Elem := (List.range l.d).map (fun k =>
      { fmt := bankFmt, code := codeAt bankFmt (w.bytes.drop (nb.2 * stride)) k })
    let d := (dotElems .rne (xs.zip es)).andThen (fun d => distValue nx.1 d nb.1 mult l.root)
    ((d.1, base + w.entry + nb.2), d.2)))
  let r := nearestK l.ksel ds.1
  (r.1, Cnt.total [nx.2, ds.2, r.2])

/-- DIST (R250, R251): for each query the nearest of the staged entries. -/
def State.distStep (s : State) (e : Nat) (t : TileRun) (i : TileInstr) : State :=
  let g := s.imgOf t
  let l := g.layer i.layer.toNat
  let a := g.tensorOf i.srcA.toNat
  let n := i.srcB.toNat
  let w := ((s.tileCtx t).active.find? (fun w => decide (w.stream = t.stagedAs n))).getD { stream := n, bytes := [] }
  let mult := (((g.biasMult.drop l.biasMult).head?).getD (0, 0x3F800000)).2
  s.computeRows e t i a.h
    (fun k r => decide (r < (s.srcOf t i.srcA.toNat k).rows.length))
    (fun k r =>
      let all := countAll ((List.range a.w).map (fun x =>
        let p := distRow l (s.srcOf t i.srcA.toNat k) (g.tensorOf n).fmt (g.stream n).rowStride (g.bankFrom n) w mult r x
        ((x * 8 * l.ksel, pairBytes p.1), p.2)))
      (.raw all.1, all.2))

/-- DIST (R250). -/
def execDist (e : Fin 42) (sram : SramRead) (s : State) : Out :=
  .next (s.compute e 0x26 sram true (fun t i s => s.distStep e t i))

/-! ### Post class -/

/-- A post instruction on rows of SRC_A, one output row for each input row. -/
def State.postRows (s : State) (e : Nat) (t : TileRun) (i : TileInstr) (f : Src → Nat → Counted RowOut) : State :=
  let a := (s.imgOf t).tensorOf i.srcA.toNat
  s.computeRows e t i a.h (fun k r => decide (r < (s.srcOf t i.srcA.toNat k).rows.length))
    (fun k r => f (s.srcOf t i.srcA.toNat k) r)

/-- REQUANT (R212 to R217). -/
def execRequant (e : Fin 42) (sram : SramRead) (s : State) : Out :=
  .next (s.compute e 0x30 sram false (fun t i s =>
    s.postRows e t i (fun v r => groupVals i v.t.w v.t.c (fun x ch => (v.val r x ch, {})))))

/-- ACTIVATE (R238, R239). -/
def execActivate (e : Fin 42) (sram : SramRead) (s : State) : Out :=
  .next (s.compute e 0x31 sram false (fun t i s =>
    let l := (s.imgOf t).layer i.layer.toNat
    s.postRows e t i (fun v r => groupVals i v.t.w v.t.c (fun x ch => (actFn i.act.toNat l.p0 l.p1 (v.val r x ch), {})))))

/-- The second operand of an element-wise operation: of the same shape, one value per channel, or one in all (R237). -/
def Src.second (b : Src) (r x ch : Nat) : Word :=
  if b.t.w = 1 ∧ b.t.h = 1 then b.val 0 0 (if b.t.c = 1 then 0 else ch) else b.val r x ch

/-- An element-wise operation (R237). -/
def State.eltStep (s : State) (e : Nat) (t : TileRun) (i : TileInstr) (op : EltOp) : State :=
  let a := (s.imgOf t).tensorOf i.srcA.toNat
  s.computeRows e t i a.h
    (fun k r =>
      let b := s.srcOf t i.srcB.toNat k
      decide (r < (s.srcOf t i.srcA.toNat k).rows.length) && decide ((if b.t.h = 1 ∧ b.t.w = 1 then 0 else r) < b.rows.length))
    (fun k r => groupVals i a.w a.c (fun x ch =>
      eltFn op (Rnd.of i.rnd) ((s.srcOf t i.srcA.toNat k).val r x ch) ((s.srcOf t i.srcB.toNat k).second r x ch)))

/-- ADD (R237). -/
def execAdd (e : Fin 42) (sram : SramRead) (s : State) : Out :=
  .next (s.compute e 0x32 sram false (fun t i s => s.eltStep e t i .add))
/-- SUB (R237). -/
def execSub (e : Fin 42) (sram : SramRead) (s : State) : Out :=
  .next (s.compute e 0x33 sram false (fun t i s => s.eltStep e t i .sub))
/-- MUL (R237). -/
def execMul (e : Fin 42) (sram : SramRead) (s : State) : Out :=
  .next (s.compute e 0x34 sram false (fun t i s => s.eltStep e t i .mul))
/-- MAX (R237). -/
def execMax (e : Fin 42) (sram : SramRead) (s : State) : Out :=
  .next (s.compute e 0x35 sram false (fun t i s => s.eltStep e t i .max))
/-- MIN (R237). -/
def execMin (e : Fin 42) (sram : SramRead) (s : State) : Out :=
  .next (s.compute e 0x36 sram false (fun t i s => s.eltStep e t i .min))

/-- NEAREST_UP (R237): each value repeated ARG0 times on each axis. -/
def State.nearestUp (s : State) (e : Nat) (t : TileRun) (i : TileInstr) : State :=
  let a := (s.imgOf t).tensorOf i.srcA.toNat
  let f := max 1 i.arg0.toNat
  s.computeRows e t i (a.h * f) (fun k r => decide (r / f < (s.srcOf t i.srcA.toNat k).rows.length))
    (fun k r => groupVals i (a.w * f) a.c (fun x ch => ((s.srcOf t i.srcA.toNat k).val (r / f) (x / f) ch, {})))

/-- NEAREST_UP (R237). -/
def execNearestUp (e : Fin 42) (sram : SramRead) (s : State) : Out :=
  .next (s.compute e 0x37 sram false (fun t i s => s.nearestUp e t i))

/-- MAXPOOL (R235). -/
def State.maxpoolStep (s : State) (e : Nat) (t : TileRun) (i : TileInstr) : State :=
  let g := s.imgOf t
  let l := g.layer i.layer.toNat
  let a := g.tensorOf i.srcA.toNat
  s.computeRows e t i (l.outH a.h)
    (fun k r => let v := s.srcOf t i.srcA.toNat k; rowReady { l with modes := 0 } v.t.h v.rows.length r)
    (fun k r => groupVals i (l.outW a.w) a.c (fun x ch => (maxOne l (s.srcOf t i.srcA.toNat k) r x ch, {})))

/-- MAXPOOL (R235). -/
def execMaxpool (e : Fin 42) (sram : SramRead) (s : State) : Out :=
  .next (s.compute e 0x38 sram false (fun t i s => s.maxpoolStep e t i))

/-- NORM (R240): KIND WINDOW waits for the window's last row. -/
def State.normStep (s : State) (e : Nat) (t : TileRun) (i : TileInstr) : State :=
  let g := s.imgOf t
  let l := g.layer i.layer.toNat
  let a := g.tensorOf i.srcA.toNat
  s.computeRows e t i a.h
    (fun k r => decide ((if l.nkind = 2 then a.h else r + 1) ≤ (s.srcOf t i.srcA.toNat k).rows.length))
    (fun k r =>
      let v := normRow (Rnd.of i.rnd) l (s.srcOf t i.srcA.toNat k) g.biasMult r
      (.vals (v.1.filter (fun x => decide (x.2.1 / 128 = i.cgrp.toNat))), v.2))

/-- NORM (R240). -/
def execNorm (e : Fin 42) (sram : SramRead) (s : State) : Out :=
  .next (s.compute e 0x39 sram false (fun t i s => s.normStep e t i))

/-- The channel vector of a position. -/
def Src.vec (v : Src) (r x : Nat) : List Word := (List.range v.t.c).map (fun ch => v.val r x ch)

/-- SOFTMAX over the channels of each position (R244). -/
def execSoftmax (e : Fin 42) (sram : SramRead) (s : State) : Out :=
  .next (s.compute e 0x3A sram false (fun t i s =>
    s.postRows e t i (fun v r =>
      let all := countAll ((List.range v.t.w).map (fun x =>
        let y := softmax (Rnd.of i.rnd) (v.vec r x)
        (y.1.zipIdx.map (fun q => (x, q.2, q.1)), y.2)))
      (.vals (all.1.flatten.filter (fun y => decide (y.2.1 / 128 = i.cgrp.toNat))), all.2))))

/-- ARGMAX over the channels of each position (R242): UINT16 index, then FP32 value. -/
def execArgmax (e : Fin 42) (sram : SramRead) (s : State) : Out :=
  .next (s.compute e 0x3B sram false (fun t i s =>
    s.postRows e t i (fun v r =>
      (.raw ((List.range v.t.w).map (fun x =>
        let a := argMax (v.vec r x)
        (6 * x, bytesLE 2 a.2 ++ bytesLE 4 a.1.toNat))), {}))))

/-- TOPK over the channels of each position (R243). -/
def execTopk (e : Fin 42) (sram : SramRead) (s : State) : Out :=
  .next (s.compute e 0x3C sram false (fun t i s =>
    let l := (s.imgOf t).layer i.layer.toNat
    s.postRows e t i (fun v r =>
      let all := countAll ((List.range v.t.w).map (fun x =>
        let p := topK l.ksel (v.vec r x)
        ((x * 8 * l.ksel, pairBytes p.1), p.2)))
      (.raw all.1, all.2))))

/-- MERGE_LIST (R252): partial lists of SRC_A and SRC_B, position by position. -/
def State.mergeStep (s : State) (e : Nat) (t : TileRun) (i : TileInstr) : State :=
  let g := s.imgOf t
  let l := g.layer i.layer.toNat
  let a := g.tensorOf i.srcA.toNat
  s.computeRows e t i a.h
    (fun k r => decide (r < (s.srcOf t i.srcA.toNat k).rows.length) && decide (r < (s.srcOf t i.srcB.toNat k).rows.length))
    (fun k r =>
      let all := countAll ((List.range a.w).map (fun x =>
        let o := x * 8 * l.ksel
        let p := mergeLists l.ksel (pairsOf l.ksel (((s.srcOf t i.srcA.toNat k).row r).1.drop o))
          (pairsOf l.ksel (((s.srcOf t i.srcB.toNat k).row r).1.drop o))
        ((o, pairBytes p.1), p.2)))
      (.raw all.1, all.2))

/-- MERGE_LIST (R252). -/
def execMergeList (e : Fin 42) (sram : SramRead) (s : State) : Out :=
  .next (s.compute e 0x3D sram false (fun t i s => s.mergeStep e t i))

/-- The root of a node entry: of the slices of a layer, or of the partials of the modules where the stream belongs to a
reduction of the split plan (R185, R187, R280). -/
def foldEntry (mode : Rnd) (g : JobImg) (n slices : Nat) (entry : List Byte) : Counted Word :=
  if g.reductions.any (fun r => decide (r.stream = n)) then
    treeSum mode ((List.range g.modules).map (fun k => BitVec.ofNat 32 (natLE ((entry.drop (4 * k)).take 4))))
  else foldStack mode (stackOf slices entry)

/-- FOLD (R184, R185, R187): the node stacks of SRC_A folded, with bias, MULT and activation function. -/
def State.foldStep (s : State) (e : Nat) (t : TileRun) (i : TileInstr) : State :=
  let g := s.imgOf t
  let l := g.layer i.layer.toNat
  let n := i.srcA.toNat
  let d := g.tensorOf i.dst.toNat
  let mode := Rnd.of i.rnd
  let goal (k : Nat) : Nat := match s.jobOf t.handle with
    | some j => s.rowsIn t.handle j k n
    | none => 0
  let need := t.slots.flatMap (fun k =>
    let have_ := ((s.tileCtx t).win n k).length
    (upTo (min d.h (goal k) - have_)).map (fun r => (k, have_ + r)))
  match s.loadRows e t n none need with
  | (s1, false) => s1
  | (s1, true) =>
    s1.computeRows e t i d.h (fun k r => decide (r < ((s1.tileCtx t).win n k).length))
      (fun k r =>
        let row := ((((s1.tileCtx t).win n k).drop r).headD ([], [])).1
        groupVals i d.w l.cout (fun x co =>
          (foldEntry mode g n l.slices ((row.drop ((x * l.cout + co) * 64)).take 64)).andThen
            (finish mode l i.act.toNat (biasOf g.biasMult l.biasMult co))))

/-- FOLD (R184, R185, R187). -/
def execFold (e : Fin 42) (sram : SramRead) (s : State) : Out :=
  .next (s.compute e 0x3E sram false (fun t i s => s.foldStep e t i))

/-- COPY (R233): layout conversion. -/
def execCopy (e : Fin 42) (sram : SramRead) (s : State) : Out :=
  .next (s.compute e 0x3F sram false (fun t i s => s.copyRows e t i))

end Sys2Proof.Machine
end

