-- ==== Sys2Proof/Machine/Dispatch.lean ====
section
/-!
DEFINITION. The dispatcher: each command of the module to its meaning.
-/
namespace Sys2Proof.Machine

open Sys2Proof

/-- The effect of a command on everything but the queue. -/
def exec (i : Instr) (s : State) : Host.Outcome State Fault Refusal :=
  match i with
  | .registerWrite w addr v => Sys2Proof.Machine.execRegisterWrite w addr v s
  | .checkedWriteDecided => Sys2Proof.Machine.execCheckedWriteDecided s
  | .pairHiWrite w addr v => Sys2Proof.Machine.execPairHiWrite w addr v s
  | .pairLoRead addr => Sys2Proof.Machine.execPairLoRead addr s
  | .rcRead addr => Sys2Proof.Machine.execRcRead addr s
  | .unmappedAccess addr write => Sys2Proof.Machine.execUnmappedAccess addr write s
  | .encCfgWrite w ch v => Sys2Proof.Machine.execEncCfgWrite w ch v s
  | .encEdgeAccept ch a b held => Sys2Proof.Machine.execEncEdgeAccept ch a b held s
  | .faultWindowEnd ch => Sys2Proof.Machine.execFaultWindowEnd ch s
  | .analogueSample ch sin cos => Sys2Proof.Machine.execAnalogueSample ch sin cos s
  | .amplitudeFault ch => Sys2Proof.Machine.execAmplitudeFault ch s
  | .amplitudeRecover ch => Sys2Proof.Machine.execAmplitudeRecover ch s
  | .observerUpdate ch => Sys2Proof.Machine.execObserverUpdate ch s
  | .standstillIn ch => Sys2Proof.Machine.execStandstillIn ch s
  | .settled ch => Sys2Proof.Machine.execSettled ch s
  | .indexEvent ch held sinHigh cosHigh => Sys2Proof.Machine.execIndexEvent ch held sinHigh cosHigh s
  | .preset w ch => Sys2Proof.Machine.execPreset w ch s
  | .faultClear w ch => Sys2Proof.Machine.execFaultClear w ch s
  | .openPairFault ch pair heldNs => Sys2Proof.Machine.execOpenPairFault ch pair heldNs s
  | .openPairRecover ch pair a b => Sys2Proof.Machine.execOpenPairRecover ch pair a b s
  | .encSupplyFault ch millivolts heldNs => Sys2Proof.Machine.execEncSupplyFault ch millivolts heldNs s
  | .encSupplyRetry ch => Sys2Proof.Machine.execEncSupplyRetry ch s
  | .encSupplyRecover ch millivolts heldNs => Sys2Proof.Machine.execEncSupplyRecover ch millivolts heldNs s
  | .camPortCfgWrite w n v => Sys2Proof.Machine.execCamPortCfgWrite w n v s
  | .trigGridWrite w n phase v => Sys2Proof.Machine.execTrigGridWrite w n phase v s
  | .gridPointReached n => Sys2Proof.Machine.execGridPointReached n s
  | .delayedTrigger n => Sys2Proof.Machine.execDelayedTrigger n s
  | .triggerPulseEnd n => Sys2Proof.Machine.execTriggerPulseEnd n s
  | .triggerAck n => Sys2Proof.Machine.execTriggerAck n s
  | .camLinkUp n => Sys2Proof.Machine.execCamLinkUp n s
  | .discoveryDone n ids same => Sys2Proof.Machine.execDiscoveryDone n ids same s
  | .camLinkDown n => Sys2Proof.Machine.execCamLinkDown n s
  | .heartbeatTimeout n => Sys2Proof.Machine.execHeartbeatTimeout n s
  | .heartbeatPacket n => Sys2Proof.Machine.execHeartbeatPacket n s
  | .gevHeartbeat n => Sys2Proof.Machine.execGevHeartbeat n s
  | .streamBlockHeader n fmt width exposure => Sys2Proof.Machine.execStreamBlockHeader n fmt width exposure s
  | .streamPacket n p => Sys2Proof.Machine.execStreamPacket n p s
  | .lineArrival n index => Sys2Proof.Machine.execLineArrival n index s
  | .blockEnd n => Sys2Proof.Machine.execBlockEnd n s
  | .cxpEventPacket n body => Sys2Proof.Machine.execCxpEventPacket n body s
  | .stripeStart p => Sys2Proof.Machine.execStripeStart p s
  | .stripeDone p => Sys2Proof.Machine.execStripeDone p s
  | .apply w p c => Sys2Proof.Machine.execApply w p c s
  | .applyBoundary p c => Sys2Proof.Machine.execApplyBoundary p c s
  | .applied p c => Sys2Proof.Machine.execApplied p c s
  | .ispEngineReset p => Sys2Proof.Machine.execIspEngineReset p s
  | .rtpPacket n info => Sys2Proof.Machine.execRtpPacket n info s
  | .sampleWritten n => Sys2Proof.Machine.execSampleWritten n s
  | .decodeBudgetExpiry n => Sys2Proof.Machine.execDecodeBudgetExpiry n s
  | .batchTimeout n => Sys2Proof.Machine.execBatchTimeout n s
  | .reportPlaced n => Sys2Proof.Machine.execReportPlaced n s
  | .decEngineReset => Sys2Proof.Machine.execDecEngineReset s
  | .tileStart e => Sys2Proof.Machine.execTileStart e s
  | .preemptionRequest e => Sys2Proof.Machine.execPreemptionRequest e s
  | .tileCommit e => Sys2Proof.Machine.execTileCommit e s
  | .contextSaveDone e sram => Sys2Proof.Machine.execContextSaveDone e sram s
  | .contextRestoreDone e upset => Sys2Proof.Machine.execContextRestoreDone e upset s
  | .sprEngineReset w e => Sys2Proof.Machine.execSprEngineReset w e s
  | .moonEngineReset w m => Sys2Proof.Machine.execMoonEngineReset w m s
  | .engineResetDone e => Sys2Proof.Machine.execEngineResetDone e s
  | .hangTimeout e => Sys2Proof.Machine.execHangTimeout e s
  | .lastingFaultSwap e => Sys2Proof.Machine.execLastingFaultSwap e s
  | .moonAdoption m => Sys2Proof.Machine.execMoonAdoption m s
  | .remoteReplyLand h u => Sys2Proof.Machine.execRemoteReplyLand h u s
  | .accountingWindow => Sys2Proof.Machine.execAccountingWindow s
  | .partJoin h => Sys2Proof.Machine.execPartJoin h s
  | .tileNop e => Sys2Proof.Machine.execTileNop e s
  | .waitRows e => Sys2Proof.Machine.execWaitRows e s
  | .semAcquire e => Sys2Proof.Machine.execSemAcquire e s
  | .semRelease e => Sys2Proof.Machine.execSemRelease e s
  | .barrier e => Sys2Proof.Machine.execBarrier e s
  | .remoteSend e => Sys2Proof.Machine.execRemoteSend e s
  | .remoteWait e => Sys2Proof.Machine.execRemoteWait e s
  | .verdict e => Sys2Proof.Machine.execVerdict e s
  | .provisional e => Sys2Proof.Machine.execProvisional e s
  | .loadWeights e sram upset => Sys2Proof.Machine.execLoadWeights e sram upset s
  | .loadAct e sram upset => Sys2Proof.Machine.execLoadAct e sram upset s
  | .store e => Sys2Proof.Machine.execStore e s
  | .loadBank e sram upset => Sys2Proof.Machine.execLoadBank e sram upset s
  | .gather e => Sys2Proof.Machine.execGather e s
  | .zero e => Sys2Proof.Machine.execZero e s
  | .conv e sram => Sys2Proof.Machine.execConv e sram s
  | .convDw e sram => Sys2Proof.Machine.execConvDw e sram s
  | .matmul e sram => Sys2Proof.Machine.execMatmul e sram s
  | .avgpool e sram => Sys2Proof.Machine.execAvgpool e sram s
  | .attnScore e sram => Sys2Proof.Machine.execAttnScore e sram s
  | .attnValue e sram => Sys2Proof.Machine.execAttnValue e sram s
  | .dist e sram => Sys2Proof.Machine.execDist e sram s
  | .requant e sram => Sys2Proof.Machine.execRequant e sram s
  | .activate e sram => Sys2Proof.Machine.execActivate e sram s
  | .add e sram => Sys2Proof.Machine.execAdd e sram s
  | .sub e sram => Sys2Proof.Machine.execSub e sram s
  | .mul e sram => Sys2Proof.Machine.execMul e sram s
  | .max e sram => Sys2Proof.Machine.execMax e sram s
  | .min e sram => Sys2Proof.Machine.execMin e sram s
  | .nearestUp e sram => Sys2Proof.Machine.execNearestUp e sram s
  | .maxpool e sram => Sys2Proof.Machine.execMaxpool e sram s
  | .norm e sram => Sys2Proof.Machine.execNorm e sram s
  | .softmax e sram => Sys2Proof.Machine.execSoftmax e sram s
  | .argmax e sram => Sys2Proof.Machine.execArgmax e sram s
  | .topk e sram => Sys2Proof.Machine.execTopk e sram s
  | .mergeList e sram => Sys2Proof.Machine.execMergeList e sram s
  | .fold e sram => Sys2Proof.Machine.execFold e sram s
  | .copy e sram => Sys2Proof.Machine.execCopy e sram s
  | .wtCycle => Sys2Proof.Machine.execWtCycle s
  | .cometCreate lane => Sys2Proof.Machine.execCometCreate lane s
  | .overlength lane => Sys2Proof.Machine.execOverlength lane s
  | .imageRowObserved lane => Sys2Proof.Machine.execImageRowObserved lane s
  | .verdictTokenArrival => Sys2Proof.Machine.execVerdictTokenArrival s
  | .provisionalTokenArrival => Sys2Proof.Machine.execProvisionalTokenArrival s
  | .commit comet => Sys2Proof.Machine.execCommit comet s
  | .ejectionStart comet => Sys2Proof.Machine.execEjectionStart comet s
  | .ejectionEnd comet => Sys2Proof.Machine.execEjectionEnd comet s
  | .minPulseEnd comet => Sys2Proof.Machine.execMinPulseEnd comet s
  | .pulseCap comet => Sys2Proof.Machine.execPulseCap comet s
  | .outputEnergised n => Sys2Proof.Machine.execOutputEnergised n s
  | .retire comet => Sys2Proof.Machine.execRetire comet s
  | .exportRecord comet => Sys2Proof.Machine.execExportRecord comet s
  | .ejectSend comet => Sys2Proof.Machine.execEjectSend comet s
  | .remoteAck group dgram => Sys2Proof.Machine.execRemoteAck group dgram s
  | .ackTimeout group seq => Sys2Proof.Machine.execAckTimeout group seq s
  | .arpRefresh group reply => Sys2Proof.Machine.execArpRefresh group reply s
  | .fieldSupplyChange decivolts heldNs => Sys2Proof.Machine.execFieldSupplyChange decivolts heldNs s
  | .diEdge n level held => Sys2Proof.Machine.execDiEdge n level held s
  | .diOpen n microamps heldNs => Sys2Proof.Machine.execDiOpen n microamps heldNs s
  | .diOpenClear n microamps => Sys2Proof.Machine.execDiOpenClear n microamps s
  | .fioDoSetWrite w v => Sys2Proof.Machine.execFioDoSetWrite w v s
  | .overload n heldNs => Sys2Proof.Machine.execOverload n heldNs s
  | .overtemp n degC => Sys2Proof.Machine.execOvertemp n degC s
  | .openOn n microamps heldNs => Sys2Proof.Machine.execOpenOn n microamps heldNs s
  | .openOff n millivolts heldNs => Sys2Proof.Machine.execOpenOff n millivolts heldNs s
  | .stuckOn n millivolts heldNs => Sys2Proof.Machine.execStuckOn n millivolts heldNs s
  | .outputRestart n degC => Sys2Proof.Machine.execOutputRestart n degC s
  | .fioDoClear w v hot => Sys2Proof.Machine.execFioDoClear w v hot s
  | .memoryInitDone => Sys2Proof.Machine.execMemoryInitDone s
  | .mergeTimeout v => Sys2Proof.Machine.execMergeTimeout v s
  | .patrolRead inner first second => Sys2Proof.Machine.execPatrolRead inner first second s
  | .rewrite w first third => Sys2Proof.Machine.execRewrite w first third s
  | .injectArm w => Sys2Proof.Machine.execInjectArm w s
  | .refreshRateChange tower degC => Sys2Proof.Machine.execRefreshRateChange tower degC s
  | .xltResume w engine => Sys2Proof.Machine.execXltResume w engine s
  | .xltResumeFail w engine => Sys2Proof.Machine.execXltResumeFail w engine s
  | .xltInval w handle pages => Sys2Proof.Machine.execXltInval w handle pages s
  | .xltInvalAll w => Sys2Proof.Machine.execXltInvalAll w s
  | .migrationStart w handle big => Sys2Proof.Machine.execMigrationStart w handle big s
  | .migrationDone => Sys2Proof.Machine.execMigrationDone s
  | .creditRequest q producer n => Sys2Proof.Machine.execCreditRequest q producer n s
  | .creditGrant q => Sys2Proof.Machine.execCreditGrant q s
  | .packetReserve q producer len => Sys2Proof.Machine.execPacketReserve q producer len s
  | .backFill q producer seq kind body => Sys2Proof.Machine.execBackFill q producer seq kind body s
  | .recordPublish q producer data => Sys2Proof.Machine.execRecordPublish q producer data s
  | .abandonedPad q producer seq => Sys2Proof.Machine.execAbandonedPad q producer seq s
  | .entryRelease q n => Sys2Proof.Machine.execEntryRelease q n s
  | .cpClaim q n => Sys2Proof.Machine.execCpClaim q n s
  | .pop w q => Sys2Proof.Machine.execPop w q s
  | .clientClear w client => Sys2Proof.Machine.execClientClear w client s
  | .clientClearAll w => Sys2Proof.Machine.execClientClearAll w s
  | .doorbell m => Sys2Proof.Machine.execDoorbell m s
  | .mailboxWrite m offset data => Sys2Proof.Machine.execMailboxWrite m offset data s
  | .bulkWrite data crcOk => Sys2Proof.Machine.execBulkWrite data crcOk s
  | .apertureByteAccess offset write v => Sys2Proof.Machine.execApertureByteAccess offset write v s
  | .exportRead bytes => Sys2Proof.Machine.execExportRead bytes s
  | .reread => Sys2Proof.Machine.execReread s
  | .sdioReset res => Sys2Proof.Machine.execSdioReset res s
  | .ioEnable fn => Sys2Proof.Machine.execIoEnable fn s
  | .cdDisable => Sys2Proof.Machine.execCdDisable s
  | .firmwareReady => Sys2Proof.Machine.execFirmwareReady s
  | .nop m => Sys2Proof.Machine.execNop m s
  | .stateSummary m => Sys2Proof.Machine.execStateSummary m s
  | .stateSummaryPart m => Sys2Proof.Machine.execStateSummaryPart m s
  | .moduleReset m => Sys2Proof.Machine.execModuleReset m s
  | .setOperatingPoint m => Sys2Proof.Machine.execSetOperatingPoint m s
  | .setPowerState m => Sys2Proof.Machine.execSetPowerState m s
  | .orderlyRemove m => Sys2Proof.Machine.execOrderlyRemove m s
  | .snapshot m => Sys2Proof.Machine.execSnapshot m s
  | .camControlRead m => Sys2Proof.Machine.execCamControlRead m s
  | .camControlWrite m => Sys2Proof.Machine.execCamControlWrite m s
  | .queueCreate m => Sys2Proof.Machine.execQueueCreate m s
  | .queueDestroy m => Sys2Proof.Machine.execQueueDestroy m s
  | .loadBegin m => Sys2Proof.Machine.execLoadBegin m s
  | .loadJob m => Sys2Proof.Machine.execLoadJob m s
  | .loadWeightSet m => Sys2Proof.Machine.execLoadWeightSet m s
  | .bindInput m => Sys2Proof.Machine.execBindInput m s
  | .start m => Sys2Proof.Machine.execStart m s
  | .startLazy m => Sys2Proof.Machine.execStartLazy m s
  | .stop m => Sys2Proof.Machine.execStop m s
  | .pause m => Sys2Proof.Machine.execPause m s
  | .resume m => Sys2Proof.Machine.execResume m s
  | .abort m => Sys2Proof.Machine.execAbort m s
  | .unload m => Sys2Proof.Machine.execUnload m s
  | .setPriority m => Sys2Proof.Machine.execSetPriority m s
  | .switchWeights m => Sys2Proof.Machine.execSwitchWeights m s
  | .calibrate m => Sys2Proof.Machine.execCalibrate m s
  | .bankPrepare m => Sys2Proof.Machine.execBankPrepare m s
  | .spareSwap m => Sys2Proof.Machine.execSpareSwap m s
  | .clearSoftMap m => Sys2Proof.Machine.execClearSoftMap m s
  | .fwUpdate m => Sys2Proof.Machine.execFwUpdate m s
  | .attest m => Sys2Proof.Machine.execAttest m s
  | .watchdogTimeout reason pc => Sys2Proof.Machine.execWatchdogTimeout reason pc s
  | .warmRestartDone copiesLost => Sys2Proof.Machine.execWarmRestartDone copiesLost s
  | .trainingDone l peer precode => Sys2Proof.Machine.execTrainingDone l peer precode s
  | .trainTimeout l => Sys2Proof.Machine.execTrainTimeout l s
  | .laneLockLoss l heldNs => Sys2Proof.Machine.execLaneLockLoss l heldNs s
  | .laneActivity l millivolts heldNs => Sys2Proof.Machine.execLaneActivity l millivolts heldNs s
  | .linkReset w v => Sys2Proof.Machine.execLinkReset w v s
  | .prbsInjOne w l v => Sys2Proof.Machine.execPrbsInjOne w l v s
  | .ethFrameReceive m f => Sys2Proof.Machine.execEthFrameReceive m f s
  | .ethFrameTransmit m => Sys2Proof.Machine.execEthFrameTransmit m s
  | .macLinkUp m => Sys2Proof.Machine.execMacLinkUp m s
  | .flitReceive j f crcOk => Sys2Proof.Machine.execFlitReceive j f crcOk s
  | .retryTimeout j => Sys2Proof.Machine.execRetryTimeout j s
  | .ackInterval j => Sys2Proof.Machine.execAckInterval j s
  | .linkRetrainTimeout j => Sys2Proof.Machine.execLinkRetrainTimeout j s
  | .laneFail j k lostNs unc corr => Sys2Proof.Machine.execLaneFail j k lostNs unc corr s
  | .swapReqReceive j k => Sys2Proof.Machine.execSwapReqReceive j k s
  | .swapAckReceive j => Sys2Proof.Machine.execSwapAckReceive j s
  | .fabInject w j n => Sys2Proof.Machine.execFabInject w j n s
  | .cageInsert k cls => Sys2Proof.Machine.execCageInsert k cls s
  | .cageRemove k => Sys2Proof.Machine.execCageRemove k s
  | .cagePowerFault k heldNs => Sys2Proof.Machine.execCagePowerFault k heldNs s
  | .timeRateWrite w v => Sys2Proof.Machine.execTimeRateWrite w v s
  | .timeOffsetApply w lo => Sys2Proof.Machine.execTimeOffsetApply w lo s
  | .timeAdj w v => Sys2Proof.Machine.execTimeAdj w v s
  | .ptpReceive mac msg => Sys2Proof.Machine.execPtpReceive mac msg s
  | .ptpSyncSend => Sys2Proof.Machine.execPtpSyncSend s
  | .ptpAnnounceSend => Sys2Proof.Machine.execPtpAnnounceSend s
  | .ptpDelayReqSend => Sys2Proof.Machine.execPtpDelayReqSend s
  | .announceTimeout => Sys2Proof.Machine.execAnnounceTimeout s
  | .historyEntry => Sys2Proof.Machine.execHistoryEntry s
  | .opChangeDone => Sys2Proof.Machine.execOpChangeDone s
  | .throttleStepDown degC => Sys2Proof.Machine.execThrottleStepDown degC s
  | .throttleStepUp degC => Sys2Proof.Machine.execThrottleStepUp degC s
  | .temperatureHot degC => Sys2Proof.Machine.execTemperatureHot degC s
  | .thermalTrip core tower => Sys2Proof.Machine.execThermalTrip core tower s
  | .powerEntryDone => Sys2Proof.Machine.execPowerEntryDone s
  | .wakeBusFrame addr cmd => Sys2Proof.Machine.execWakeBusFrame addr cmd s
  | .wakePattern lane bursts => Sys2Proof.Machine.execWakePattern lane bursts s
  | .sdioStartBitWake => Sys2Proof.Machine.execSdioStartBitWake s
  | .wakeDone storeOk => Sys2Proof.Machine.execWakeDone storeOk s
  | .powerInputChange b decivolts heldNs => Sys2Proof.Machine.execPowerInputChange b decivolts heldNs s
  | .busUndervoltage decivolts => Sys2Proof.Machine.execBusUndervoltage decivolts s
  | .powerOnReset => Sys2Proof.Machine.execPowerOnReset s
  | .mrst heldNs => Sys2Proof.Machine.execMrst heldNs s
  | .seated heldNs => Sys2Proof.Machine.execSeated heldNs s
  | .emergencyQuiesce pin heldNs => Sys2Proof.Machine.execEmergencyQuiesce pin heldNs s
  | .snapinEdge heldNs => Sys2Proof.Machine.execSnapinEdge heldNs s
  | .snapMatch before => Sys2Proof.Machine.execSnapMatch before s
  | .fire w => Sys2Proof.Machine.execFire w s
  | .arm w => Sys2Proof.Machine.execArm w s
  | .snapshotLatchDone => Sys2Proof.Machine.execSnapshotLatchDone s
  | .outputDeenergised n => Sys2Proof.Machine.execOutputDeenergised n s
  | .outputWarnClear n flag => Sys2Proof.Machine.execOutputWarnClear n flag s
  | .mrstRelease => Sys2Proof.Machine.execMrstRelease s
  | .snapoutPulseEnd => Sys2Proof.Machine.execSnapoutPulseEnd s
  | .laneUp l => Sys2Proof.Machine.execLaneUp l s
  | .prbsCheckerLock l goodBits => Sys2Proof.Machine.execPrbsCheckerLock l goodBits s
  | .prbsCheckerResync l errors bits => Sys2Proof.Machine.execPrbsCheckerResync l errors bits s
  | .prbsBitError l => Sys2Proof.Machine.execPrbsBitError l s
  | .prbsRateInjection l bits => Sys2Proof.Machine.execPrbsRateInjection l bits s
  | .cageInterrupt k => Sys2Proof.Machine.execCageInterrupt k s
  | .controlAcknowledge port ok data => Sys2Proof.Machine.execControlAcknowledge port ok data s
  | .cameraTimeout => Sys2Proof.Machine.execCameraTimeout s

end Sys2Proof.Machine
end

