-- ==== Sys2Proof/Safety.lean ====
section
/-!
DEFINITION. The terms in which claims speak of a run: what a command leaves alone, when a register write passes the gates,
what a served command has left in its mailbox, and the invariants of the state. No command ends a run, so that a safe run is
any run.
-/
namespace Sys2Proof.Machine

open Sys2Proof

/-! ### Frames -/

/-- Every register outside a list of addresses holds the word that it held. -/
def RegsKept (s t : State) (l : List Nat) : Prop := ∀ a, a ∉ l → AMap.look t.regs a = AMap.look s.regs a

/-- Every byte of DRAM reads as it did. -/
def MemKept (s t : State) : Prop := ∀ a, t.byte a = s.byte a

/-- Registers that follow the fill of queue `q` (R435, R448). -/
def queueRegs (q : Nat) : List Nat :=
  [Reg.QM_Q_FILL.at q 0 0, Reg.QM_Q_CREDIT.at q 0 0, Reg.QM_Q_SEQ.at q 0 0, Reg.F3_LEVEL.addr, Reg.QM_PEND.at (q / 32) 0 0,
   Reg.QM_EVENT.addr]

/-- Registers that the arithmetic of an instruction on engine `e` counts in (R180 to R183, R212 to R217, R254). -/
def engineRegs (e : Nat) : List Nat :=
  if isSpire e then
    [Reg.SPR_EVENT.at e 0 0, Reg.SPR_QEVENT.at e 0 0, Reg.SPR_CNT.at e 2 0, Reg.SPR_CNT.at e 3 0, Reg.SPR_CNT.at e 4 0,
     Reg.SPR_QCNT.at e 0 0, Reg.SPR_QCNT.at e 1 0, Reg.SPR_QCNT.at e 2 0, Reg.SPR_OPCNT.at e 0 0, Reg.SPR_OPCNT.at e 1 0,
     Reg.SPR_OPCNT.at e 2 0, Reg.SPR_OPCNT.at e 3 0]
  else
    let m := e - 34
    [Reg.MOON_EVENT.at m 0 0, Reg.MOON_QEVENT.at m 0 0, Reg.MOON_CNT.at m 2 0, Reg.MOON_CNT.at m 3 0,
     Reg.MOON_CNT.at m 4 0, Reg.MOON_QCNT.at m 0 0, Reg.MOON_QCNT.at m 1 0, Reg.MOON_QCNT.at m 2 0,
     Reg.MOON_OPCNT.at m 1 0, Reg.MOON_OPCNT.at m 2 0]

/-- Registers that a reply writes (R458): the mailbox's state, its event and the count of replies, and those of queue 0. -/
def replyRegs : List Nat := Reg.F1_MB_STATE.addr :: Reg.F1_EVENT.addr :: Reg.F1_CNT.addr :: queueRegs 0

/-- Engine `e` has passed the instruction that its tile `r` had in turn: the tile goes on as `r'`, ended where the instruction
carries END; memory, jobs, queues and encoders stand, and registers but those of the engine's own arithmetic. -/
def Passed (s t : State) (e : Nat) (r r' : TileRun) : Prop :=
  (t.engine e).tile = some r' ∧ r'.handle = r.handle ∧ r'.tile = r.tile ∧ r'.slots = r.slots ∧ r'.startAt = r.startAt ∧
    r'.todo = r.todo.tail ∧ r'.ended = ((r.todo.head?.map (fun p => p.2.1.last)).getD false) ∧
    RegsKept s t (engineRegs e) ∧ t.job.jobs = s.job.jobs ∧ t.queues = s.queues ∧ t.encs = s.encs ∧ t.wt = s.wt ∧
    MemKept s t

/-! ### Register writes -/

/-- A write by `w` to element `i`, `j`, `k` of register `r` passes the gates of R384, R455, R466, R467 and R554. -/
def State.takes (s : State) (w : Writer) (r : RegRow) (i j k : Nat) : Bool :=
  match blockAt (r.at i j k) with
  | none => false
  | some b =>
    s.on b && (decide (w ≠ .host) ||
      (s.fnReady 2 && (!b.needsInit || s.initDone) && hostMayWrite (r.at i j k) &&
        !(decide (s.core.cp = .restarting) && r.isConfig)))

/-- The status of the last refusal and its address (R12). -/
def State.refusedWith (s : State) (status addr : Nat) : Prop :=
  (s.rd Reg.SYS_REFUSED_STATUS).toNat = status ∧ (s.rd Reg.SYS_REFUSED_ADDR).toNat = addr

/-! ### Mailbox commands -/

/-- Mailbox `m` holds a command of opcode `op` that a running CP serves next, with the LENGTH given, the reserved bytes of
its header zero, and the power state one that serves the opcode. -/
def State.serves (s : State) (m op : Nat) (len : Nat → Bool) : Bool :=
  s.canServe m && decide (s.core.cp = .running) && decide (s.cmdOp m = op) && knownOps.contains op && len (s.cmdLen m) &&
    decide (natLE (s.mailBytes m 8 8) = 0) && (!decide (s.power = 2) || opInS2 op)

/-- The command in mailbox `m` has been answered with a status: the mailbox is DONE and its reply begins with it. -/
def State.replied (t : State) (m status : Nat) : Prop := t.mbState m = 3 ∧ natLE (t.mailBytes m 0 2) = status

end Sys2Proof.Machine
end

