-- ==== Sys2Proof/Certificates/Slice0/Obligations.lean ====
section
/-!
DEFINITION. The statements for the provers. Each says that a command answers a next state, what that state holds, and, by
`RegsKept`, `MemKept` and the fields it names, what the command leaves alone.
-/
open Sys2Proof Sys2Proof.Machine

/-! ### Encoder (spec/02_position_feedback.md) -/

/-- An accepted edge of a DIGITAL channel moves the position one edge, 4,096 sc, forward where A leads B and INVERT is clear
(R33, R38, R40); a change of both levels moves nothing and is counted as an illegal transition (R42). -/
def Obligations.EncoderEdgeStepsPosition : Prop :=
  ∀ (s : State) (n : Fin 4) (a b : Bool) (held : Nat), s.on .ENC = true → s.encMode n = 1 → s.encPairsDead n = false →
    max 1 (s.f Reg.ENC_FILT_CFG 0 6 n) ≤ held →
    ((a ≠ (s.enc n).lvlA ∧ b = (s.enc n).lvlB ∨ a = (s.enc n).lvlA ∧ b ≠ (s.enc n).lvlB) →
      ∃ t, exec (.encEdgeAccept n a b held) s = .next t ∧
        (t.enc n).pos = posWord ((s.enc n).pos.toInt +
          (if (if a ≠ (s.enc n).lvlA then a != b else a == b) = s.bit Reg.ENC_CFG 2 n then -4096 else 4096)) ∧
        (t.enc n).lvlA = a ∧ (t.enc n).lvlB = b ∧ (∀ m, m ≠ n.val → t.enc m = s.enc m) ∧ MemKept s t ∧
        RegsKept s t [Reg.ENC_STATUS.at n 0 0, Reg.ENC_EVENT.at n 0 0, Reg.ENC_CNT.at n 1 0, Reg.ENC_CNT.at n 6 0]) ∧
    (a ≠ (s.enc n).lvlA ∧ b ≠ (s.enc n).lvlB →
      ∃ t, exec (.encEdgeAccept n a b held) s = .next t ∧ (t.enc n).pos = (s.enc n).pos ∧
        (t.enc n).lvlA = a ∧ (t.enc n).lvlB = b ∧
        (t.rd Reg.ENC_CNT n 0).toNat = min ((s.rd Reg.ENC_CNT n 0).toNat + 1) 0xFFFFFFFF)

/-- A write of ENC_CFG that passes the gates and the checks is stored, keeps the position, and sets POSITION_UNKNOWN where
MODE or INVERT changes (R34); a change of MODE or INVERT with a comet on the channel is refused with S_BUSY and changes
nothing (R35). -/
def Obligations.EncoderConfigurationWrite : Prop :=
  ∀ (s : State) (w : Writer) (n : Fin 4) (v : Word), s.takes w Reg.ENC_CFG n 0 0 = true →
    (s.encCfgCheck n v = none →
      ∃ t, exec (.encCfgWrite w n v) s = .next t ∧ t.rd Reg.ENC_CFG n = v &&& 0x3F ∧ (t.enc n).pos = (s.enc n).pos ∧
        (fld (s.rd Reg.ENC_CFG n) 0 3 ≠ fld v 0 3 → t.bit Reg.ENC_STATUS 0 n = true) ∧
        RegsKept s t [Reg.ENC_CFG.at n 0 0, Reg.ENC_STATUS.at n 0 0] ∧ MemKept s t) ∧
    (fld (s.rd Reg.ENC_CFG n) 0 3 ≠ fld v 0 3 → s.cometsOn n = true →
      ∃ t, exec (.encCfgWrite w n v) s = .next t ∧ t.refusedWith S_BUSY (Reg.ENC_CFG.at n 0 0) ∧
        t.rd Reg.ENC_CFG n = s.rd Reg.ENC_CFG n ∧ t.encs = s.encs)

/-- PRESET loads the preset position where the position is unknown or no comet is on the channel, and is else turned away
with its event (R58, R59); an index event with POSITION_UNKNOWN loads the index position (R56); both clear
POSITION_UNKNOWN. FAULT_CLEAR clears ENC_FAULT once its causes are gone (R63). -/
def Obligations.EncoderPositionLoads : Prop :=
  (∀ (s : State) (w : Writer) (n : Fin 4), s.takes w Reg.ENC_CMD n 0 0 = true →
    s.bit Reg.ENC_STATUS 0 n = true ∨ s.cometsOn n = false →
    ∃ t, exec (.preset w n) s = .next t ∧
      (t.enc n).pos = posWord (s.rd64 Reg.ENC_PRESET_LO Reg.ENC_PRESET_HI n).toInt ∧
      t.bit Reg.ENC_STATUS 0 n = false ∧ t.bit Reg.ENC_EVENT 6 n = true ∧
      RegsKept s t [Reg.ENC_STATUS.at n 0 0, Reg.ENC_EVENT.at n 0 0] ∧ MemKept s t) ∧
  (∀ (s : State) (w : Writer) (n : Fin 4), s.takes w Reg.ENC_CMD n 0 0 = true →
    s.bit Reg.ENC_STATUS 0 n = false → s.cometsOn n = true →
    ∃ t, exec (.preset w n) s = .next t ∧ t.encs = s.encs ∧ t.bit Reg.ENC_EVENT 7 n = true ∧
      RegsKept s t [Reg.ENC_EVENT.at n 0 0] ∧ MemKept s t) ∧
  (∀ (s : State) (n : Fin 4) (held : Nat) (sinHigh cosHigh : Bool), s.on .ENC = true → s.encMode n ≠ 0 →
    s.bit Reg.ENC_STATUS 7 n = false → s.fieldAbsent = false → s.bit Reg.ENC_STATUS 0 n = true →
    (s.bit Reg.ENC_CFG 4 n = true ∨ max 1 (s.f Reg.ENC_FILT_CFG 0 6 n) ≤ held) →
    s.indexQualified n sinHigh cosHigh = true →
    ∃ t, exec (.indexEvent n held sinHigh cosHigh) s = .next t ∧
      (t.enc n).pos = posWord (s.rd64 Reg.ENC_INDEX_POS_LO Reg.ENC_INDEX_POS_HI n).toInt ∧
      t.bit Reg.ENC_STATUS 0 n = false ∧ t.bit Reg.ENC_EVENT 1 n = true ∧ (t.enc n).capPos = (s.enc n).pos) ∧
  (∀ (s : State) (w : Writer) (n : Fin 4), s.takes w Reg.ENC_CMD n 0 0 = true → s.encClearable n = true →
    ∃ t, exec (.faultClear w n) s = .next t ∧ t.bit Reg.ENC_STATUS 4 n = false ∧ t.bit Reg.ENC_STATUS 10 n = false ∧
      t.bit Reg.ENC_STATUS 11 n = false ∧ (t.enc n).pos = (s.enc n).pos ∧ (t.enc n).winCnt = 0 ∧
      RegsKept s t [Reg.ENC_STATUS.at n 0 0] ∧ MemKept s t)

/-- The fault window, the amplitude faults of an analogue channel, and the wiring and supply faults set and clear their status
bits, and a fault raises ENC_FAULT (R43, R45, R61, R62, R646, R649, R650). -/
def Obligations.EncoderFaultsSetAndClear : Prop :=
  ∀ (s : State) (n : Fin 4), s.on .ENC = true →
    (max 1 (s.f Reg.ENC_FAULT_CFG 0 16 n) * 1000 ≤ s.since (s.enc n).winStart →
      ∃ t, exec (.faultWindowEnd n) s = .next t ∧ (t.enc n).winCnt = 0 ∧ (t.enc n).winStart = s.raw ∧ t.regs = s.regs) ∧
    (16 ≤ (s.enc n).ampOut → s.bit Reg.ENC_STATUS 8 n = false →
      ∃ t, exec (.amplitudeFault n) s = .next t ∧ t.bit Reg.ENC_STATUS 8 n = true ∧ t.bit Reg.ENC_STATUS 4 n = true ∧
        t.encs = s.encs ∧ MemKept s t) ∧
    (16 ≤ (s.enc n).ampIn → s.bit Reg.ENC_STATUS 8 n = true →
      ∃ t, exec (.amplitudeRecover n) s = .next t ∧ t.bit Reg.ENC_STATUS 8 n = false ∧ (t.enc n).phase = none ∧
        RegsKept s t [Reg.ENC_STATUS.at n 0 0]) ∧
    (∀ (p : EncPair) (held : Nat), s.pairWatched n p = true → 1000 ≤ held →
      ∃ t, exec (.openPairFault n p held) s = .next t ∧ t.bit Reg.ENC_STATUS (encPairBit p) n = true ∧
        (p ≠ .z ∨ s.rd Reg.ENC_INDEX_NOM n ≠ 0 → t.bit Reg.ENC_STATUS 4 n = true) ∧ t.encs = s.encs) ∧
    (∀ (p : EncPair) (a b : Bool), s.bit Reg.ENC_STATUS (encPairBit p) n = true → s.fieldAbsent = false →
      ∃ t, exec (.openPairRecover n p a b) s = .next t ∧ t.bit Reg.ENC_STATUS (encPairBit p) n = false ∧
        (t.enc n).lvlA = a ∧ (t.enc n).lvlB = b ∧ (t.enc n).pos = (s.enc n).pos) ∧
    (∀ mv held : Nat, s.bit Reg.ENC_CFG 5 n = true → mv < 4500 → 100000 ≤ held →
      ∃ t, exec (.encSupplyFault n mv held) s = .next t ∧ t.bit Reg.ENC_STATUS 9 n = true ∧
        t.bit Reg.ENC_STATUS 4 n = true ∧ (t.enc n).supplyTries = 0) ∧
    (s.bit Reg.ENC_CFG 5 n = true → s.bit Reg.ENC_STATUS 9 n = true → 100000000 ≤ s.since (s.enc n).supplyAt →
      ∃ t, exec (.encSupplyRetry n) s = .next t ∧ (t.enc n).supplyTries = (s.enc n).supplyTries + 1 ∧
        (t.enc n).supplyAt = s.raw ∧ t.regs = s.regs) ∧
    (∀ mv held : Nat, s.bit Reg.ENC_STATUS 9 n = true → s.fieldAbsent = false → 4500 ≤ mv → 100000 ≤ held →
      ∃ t, exec (.encSupplyRecover n mv held) s = .next t ∧ t.bit Reg.ENC_STATUS 9 n = false ∧ t.encs = s.encs ∧
        RegsKept s t [Reg.ENC_STATUS.at n 0 0])

/-- Samples, observer updates and standstill (R45, R48 to R54): a sample outside the amplitude limits is counted; an
observer update moves the estimates and reports ENC_SPEED, zero in STANDSTILL; STANDSTILL begins after T_ss and ends
SETTLING; SETTLING ends with its time constants. Readings and choices of the model: notes/assumptions, entry 32. -/
def Obligations.EncoderMotionEstimates : Prop :=
  ∀ (s : State) (n : Fin 4), s.on .ENC = true →
    (∀ sin cos : Int, s.encMode n = 2 ∨ s.encMode n = 3 → s.fieldAbsent = false → s.bit Reg.ENC_STATUS 8 n = true →
      ∃ t, exec (.analogueSample n sin cos) s = .next t ∧
        (t.enc n).ampOut = (if 600000 ^ 2 ≤ 4 * (sin * sin + cos * cos) ∧ 4 * (sin * sin + cos * cos) ≤ 1300000 ^ 2 then 0
          else (s.enc n).ampOut + 1) ∧
        (t.enc n).pos = (s.enc n).pos ∧ t.regs = s.regs ∧ MemKept s t) ∧
    (s.encMode n ≠ 0 → (posDiff (s.enc n).pos (s.enc n).pRef).natAbs < 256 →
      (posDiff (s.enc n).pos (s.enc n).pTurn).natAbs < 256 →
      ∃ t, exec (.observerUpdate n) s = .next t ∧ (t.enc n).pos = (s.enc n).pos ∧
        (t.enc n).aHat = Config.obsAccel (clampN 10 10000 (s.f Reg.ENC_OBS_CFG 0 14 n))
          (BitVec.ofInt 64 ((s.enc n).pos.toInt * 2 ^ 18) - (s.enc n).pHat) ∧
        (s.bit Reg.ENC_STATUS 1 n = true → t.rd Reg.ENC_SPEED n = 0 ∧ t.rd Reg.ENC_ACCEL n = 0) ∧
        RegsKept s t [Reg.ENC_SPEED.at n 0 0, Reg.ENC_ACCEL.at n 0 0] ∧ MemKept s t) ∧
    (s.encMode n ≠ 0 → s.bit Reg.ENC_STATUS 1 n = false → (posDiff (s.enc n).pos (s.enc n).pRef).natAbs < 256 →
      clampN 1 1000 (s.f Reg.ENC_OBS_CFG 20 10 n) * 1000000 ≤ s.since (s.enc n).stillSince →
      ∃ t, exec (.standstillIn n) s = .next t ∧ t.bit Reg.ENC_STATUS 1 n = true ∧ t.bit Reg.ENC_STATUS 2 n = false ∧
        t.bit Reg.ENC_EVENT 3 n = true ∧ t.rd Reg.ENC_SPEED n = 0 ∧ t.rd Reg.ENC_ACCEL n = 0 ∧ t.encs = s.encs) ∧
    (s.bit Reg.ENC_STATUS 2 n = true →
      settleNs (max 1 (s.f Reg.ENC_OBS_CFG 16 4 n)) (clampN 10 10000 (s.f Reg.ENC_OBS_CFG 0 14 n)) ≤
        s.since (s.enc n).settleFrom →
      ∃ t, exec (.settled n) s = .next t ∧ t.bit Reg.ENC_STATUS 2 n = false ∧ t.bit Reg.ENC_EVENT 5 n = true ∧
        t.encs = s.encs ∧ RegsKept s t [Reg.ENC_STATUS.at n 0 0, Reg.ENC_EVENT.at n 0 0])

/-! ### Registers (R5 to R12) -/

/-- A register write changes bits by their access type (R7): the bits of ENC_IRQ_EN take the value written, and those of
ENC_EVENT clear where a one is written and stay elsewhere. No other register changes. -/
def Obligations.RegisterWritesFollowAccessTypes : Prop :=
  ∀ (s : State) (w : Writer) (n : Fin 4) (v : Word),
    (s.takes w Reg.ENC_IRQ_EN n 0 0 = true →
      ∃ t, exec (.registerWrite w (Reg.ENC_IRQ_EN.at n 0 0) v) s = .next t ∧
        (∀ b, t.bit Reg.ENC_IRQ_EN b n =
          if Reg.ENC_IRQ_EN.rw.getLsbD b then v.getLsbD b else s.bit Reg.ENC_IRQ_EN b n) ∧
        RegsKept s t [Reg.ENC_IRQ_EN.at n 0 0] ∧ MemKept s t) ∧
    (s.takes w Reg.ENC_EVENT n 0 0 = true →
      ∃ t, exec (.registerWrite w (Reg.ENC_EVENT.at n 0 0) v) s = .next t ∧
        (∀ b, t.bit Reg.ENC_EVENT b n =
          (s.bit Reg.ENC_EVENT b n && !(Reg.ENC_EVENT.w1c.getLsbD b && v.getLsbD b))) ∧
        RegsKept s t [Reg.ENC_EVENT.at n 0 0] ∧ MemKept s t)

/-- A write of the high word of a pair waits for the low word (R6); a read of a low word latches the high half (R5); a read
of a register with RC bits clears them and nothing else (R7); an access where no register stands is counted and raises its
event (R11). -/
def Obligations.PairsClearingReadsAndUnmappedAccesses : Prop :=
  (∀ (s : State) (w : Writer) (n : Fin 4) (v : Word), s.takes w Reg.ENC_PRESET_HI n 0 0 = true →
    ∃ t, exec (.pairHiWrite w (Reg.ENC_PRESET_HI.at n 0 0) v) s = .next t ∧
      AMap.look t.pairPend (Reg.ENC_PRESET_LO.at n 0 0) = some v ∧ t.regs = s.regs ∧ t.mem = s.mem) ∧
  (∀ (s : State) (addr i j k : Nat) (r h : RegRow), s.live = true → s.power ≠ 3 → findReg addr = some (r, i, j, k) →
    r.at i j k = addr → ((blockAt addr).map (fun b => s.on b)).getD false = true → highOf r = some h →
    ∃ t, exec (.pairLoRead addr) s = .next t ∧ AMap.look t.pairLatch addr = some (s.view h i j k) ∧
      RegsKept s t [addr] ∧ MemKept s t) ∧
  (∀ (s : State) (addr i j k : Nat) (r : RegRow), s.live = true → s.power ≠ 3 → findReg addr = some (r, i, j, k) →
    r.at i j k = addr → ((blockAt addr).map (fun b => s.on b)).getD false = true → r.rc ≠ 0 →
    ∃ t, exec (.rcRead addr) s = .next t ∧ t.rd r i j k = s.rd r i j k &&& ~~~r.rc ∧ RegsKept s t [addr] ∧ MemKept s t) ∧
  (∀ (s : State) (addr : Nat) (write : Bool), s.live = true → s.power ≠ 3 → s.noRegister addr = true →
    ∃ t, exec (.unmappedAccess addr write) s = .next t ∧
      (t.rd Reg.SYS_UNMAPPED_CNT).toNat = min ((s.rd Reg.SYS_UNMAPPED_CNT).toNat + 1) 0xFFFFFFFF ∧
      t.bit Reg.SYS_HOST_EVENT 1 = true ∧
      RegsKept s t [Reg.SYS_UNMAPPED_CNT.addr, Reg.SYS_HOST_EVENT.addr] ∧ MemKept s t)

/-- A write that passes its checks is stored and one that fails them is refused with its status and address (R12): the
oldest write that firmware decides, CAM_PORT_CFG (R82), and the trigger grid (R78, R81). Readings and choices of the
model: notes/assumptions, entries 11, 13 and 14. -/
def Obligations.CheckedWritesAreStoredOrRefused : Prop :=
  (∀ (s : State) (l : Fin 32) (v : Word) (rest : List (Nat × Word × Option Word)), s.live = true →
    s.core.cp = .running → s.on .WT = true → s.host.decideQ = (Reg.WT_MAX_LEN.at l 0 0, v, none) :: rest →
    (s.regCheck (s.candidate Reg.WT_MAX_LEN l 0 0 v none) Reg.WT_MAX_LEN l 0 0 = none →
      ∃ t, exec .checkedWriteDecided s = .next t ∧ t.host.decideQ = rest ∧ t.rd Reg.WT_MAX_LEN l = v) ∧
    (∀ st, s.regCheck (s.candidate Reg.WT_MAX_LEN l 0 0 v none) Reg.WT_MAX_LEN l 0 0 = some st → st < 2 ^ 32 →
      ∃ t, exec .checkedWriteDecided s = .next t ∧ t.host.decideQ = rest ∧
        t.rd Reg.WT_MAX_LEN l = s.rd Reg.WT_MAX_LEN l ∧ t.refusedWith st (Reg.WT_MAX_LEN.at l 0 0))) ∧
  (∀ (s : State) (w : Writer) (n : Fin 8) (v : Word), s.takes w Reg.CAM_PORT_CFG n 0 0 = true →
    (s.portCfgCheck (s.candidate Reg.CAM_PORT_CFG n 0 0 v none) n = none →
      ∃ t, exec (.camPortCfgWrite w n v) s = .next t ∧ t.rd Reg.CAM_PORT_CFG n =
        mergeWord Reg.CAM_PORT_CFG (s.rd Reg.CAM_PORT_CFG n) v) ∧
    (∀ st, s.portCfgCheck (s.candidate Reg.CAM_PORT_CFG n 0 0 v none) n = some st → st < 2 ^ 32 →
      ∃ t, exec (.camPortCfgWrite w n v) s = .next t ∧ t.rd Reg.CAM_PORT_CFG n = s.rd Reg.CAM_PORT_CFG n ∧
        t.refusedWith st (Reg.CAM_PORT_CFG.at n 0 0) ∧ t.cams = s.cams)) ∧
  (∀ (s : State) (w : Writer) (n : Fin 8) (v : Word), s.takes w Reg.CAM_TRIG_PITCH n 0 0 = true →
    s.regCheck (s.candidate Reg.CAM_TRIG_PITCH n 0 0 v none) Reg.CAM_TRIG_PITCH n 0 0 = none →
      ∃ t, exec (.trigGridWrite w n false v) s = .next t ∧ t.rd Reg.CAM_TRIG_PITCH n = v ∧ MemKept s t) ∧
  (∀ (s : State) (w : Writer) (n : Fin 8) (v : Word), s.takes w Reg.CAM_TRIG_PHASE n 0 0 = true →
    s.regCheck (s.candidate Reg.CAM_TRIG_PHASE n 0 0 v none) Reg.CAM_TRIG_PHASE n 0 0 = none →
      ∃ t, exec (.trigGridWrite w n true v) s = .next t ∧ t.rd Reg.CAM_TRIG_PHASE n = v ∧ MemKept s t)

/-! ### Watchtower (spec/11_comets_verdicts_ejection.md) -/

/-- Detection on a line lane (R324 to R328): an INPUT lane creates a comet at its creation point in the lowest free
entry, with the lead and the offsets of its lane; a part that has run MAX_LEN without its end is closed with
OVERLENGTH (R326); an unoccupied row with a position is counted towards GAP (R324). Readings and choices of the model:
notes/assumptions, entries 41 and 43. -/
def Obligations.DetectionCreatesAndClosesComets : Prop :=
  (∀ (s : State) (l : Fin 32) (lead : DWord), s.wtCycleNow = true → s.laneOn l = true → s.laneSrc l = 0 →
    (s.det l).lead = some lead → (s.det l).done = false → (s.det l).tainted = false → s.laneSpoilt l = false →
    s.belowMark l lead = false → s.wt.comets.length < 65536 →
    reached (s.lanePos l) (posAdd lead (s.detOffset l + (s.rd Reg.WT_MIN_LEN l).toNat)) = true →
    ∃ t c, exec (.cometCreate l) s = .next t ∧ t.comet (lowestFree 0 s.wt.comets) = some c ∧ c.st = .opened ∧
      c.lead = lead ∧ c.lane = l.val ∧ c.enc = s.laneEnc l ∧ c.commitOfs = s.rd Reg.WT_COMMIT_LEAD l ∧
      c.ejectOfs = s.rd Reg.WT_EJECT_OFS l ∧ c.tCreate = s.now ∧
      (∀ j, j ≠ lowestFree 0 s.wt.comets → t.comet j = s.comet j) ∧
      RegsKept s t [Reg.WT_CNT.at 0 0 0, Reg.WT_STATUS.addr] ∧ MemKept s t) ∧
  (∀ (s : State) (l : Fin 32) (lead : DWord) (i : Nat) (c : Comet), s.wtCycleNow = true → s.laneOn l = true →
    s.laneSrc l = 0 → (s.det l).lead = some lead → (s.det l).comet = some i → s.comet i = some c →
    c.trailIn = false → (s.det l).forced = false →
    reached (posAdd (s.lanePos l) (-(s.detOffset l))) (posAdd lead (s.rd Reg.WT_MAX_LEN l).toNat) = true →
    ∃ t c', exec (.overlength l) s = .next t ∧ t.comet i = some c' ∧ c'.trailIn = true ∧
      c'.trail = posAdd lead (s.rd Reg.WT_MAX_LEN l).toNat ∧ c'.flag 9 = true ∧
      (c.st = .opened → c'.st = .closed) ∧ (∀ j, j ≠ i → t.comet j = s.comet j) ∧ t.regs = s.regs ∧ MemKept s t) ∧
  (∀ (s : State) (l : Fin 32) (r : OutRow) (rest : List OutRow), s.laneOn l = true → s.laneSrc l = 2 →
    s.ringRows (s.f Reg.WT_IMG_CFG 0 3 l) (s.f Reg.WT_IMG_CFG 3 2 l) (65536 + l) = r :: rest →
    r.marks.getLsbD 7 = false → (s.det l).lead = none →
    s.rowOccupied l (firstComponents
      (s.f Reg.ISP_OUT_CFG 8 2 (s.f Reg.WT_IMG_CFG 0 3 l) (s.f Reg.WT_IMG_CFG 3 2 l)) r.pix) = false →
    ∃ t, exec (.imageRowObserved l) s = .next t ∧ (t.det l).gap = (s.det l).gap + 1 ∧ t.wt.comets = s.wt.comets ∧
      t.regs = s.regs ∧ MemKept s t)

/-- The class of R335 that a commit fixes, by the first row of its table that applies: the lane's FAILSAFE class on an
encoder fault, on a fail-safe request, or where no final verdict has come, else the verdict. -/
def commitClass (s : State) (c : Comet) : Byte :=
  if c.flag 6 = true ∨ s.bit Reg.ENC_STATUS 4 c.enc = true ∨ c.flag 4 = true ∨ c.flag 5 = true ∨ c.flag 0 = false then
    BitVec.ofNat 8 (s.f Reg.WT_LANE_CFG 24 8 c.lane)
  else c.verdict

/-- Verdicts and the commit (R333 to R335): the token at the head of queue 20 gives its comet the verdict of its
class, or a provisional class; a comet at its commit position is COMMITTED with the class of R335, and ejects where
the class lies in the lane's mask; a cycle commits a comet that is due. Readings and choices of the model:
notes/assumptions, entries 39, 41 and 227. -/
def Obligations.VerdictsAndCommit : Prop :=
  (∀ (s : State) (it : QItem) (c : Comet), s.wtCycleNow = true → (s.queue 20).head = some it →
    s.ringData 20 it = it.data → natLE ((it.data.drop 4).take 1) = 1 → s.comet (natLE (it.data.take 2)) = some c →
    c.seq = BitVec.ofNat 16 (natLE ((it.data.drop 2).take 2)) → c.st = .opened ∨ c.st = .closed → c.flag 0 = false →
    c.course = none →
    ∃ t c', exec .verdictTokenArrival s = .next t ∧ t.comet (natLE (it.data.take 2)) = some c' ∧ c'.flag 0 = true ∧
      c'.verdict = BitVec.ofNat 8 (natLE ((it.data.drop 5).take 1)) ∧ c'.pVerdict = s.cometPos c ∧ c'.st = c.st ∧
      MemKept s t) ∧
  (∀ (s : State) (it : QItem) (c : Comet), s.wtCycleNow = true → (s.queue 20).head = some it →
    s.ringData 20 it = it.data → natLE ((it.data.drop 4).take 1) = 4 → s.comet (natLE (it.data.take 2)) = some c →
    c.seq = BitVec.ofNat 16 (natLE ((it.data.drop 2).take 2)) → c.st ≠ .retired → c.flag 1 = false →
    ∃ t c', exec .provisionalTokenArrival s = .next t ∧ t.comet (natLE (it.data.take 2)) = some c' ∧ c'.flag 1 = true ∧
      c'.prov = BitVec.ofNat 8 (natLE ((it.data.drop 5).take 1)) ∧ c'.verdict = c.verdict ∧ c'.st = c.st ∧
      MemKept s t) ∧
  (∀ (s : State) (i : Fin 65536) (c : Comet), s.wtCycleNow = true → s.comet i = some c → c.st = .opened ∨ c.st = .closed →
    reached (s.cometPos c) (posAdd c.lead c.commitOfs.toNat) = true → c.course = none →
    ∃ t c', exec (.commit i) s = .next t ∧ t.comet i = some c' ∧ c'.st = .committed ∧ c'.pCommit = s.cometPos c ∧
      c'.tCommit = s.now ∧ c'.verdict = commitClass s c ∧ c'.eject = s.inEjectMask c.lane (commitClass s c) ∧
      (∀ j, j ≠ i.val → t.comet j = s.comet j) ∧ MemKept s t) ∧
  (∀ (s : State) (i : Nat) (c : Comet), s.wtCycleNow = true → (s.queue 20).items = [] → s.bit Reg.WT_CTRL 0 = false →
    (∀ l, (s.det l).comet = none) → s.wt.comets = [(i, c)] → c.st = .closed → c.phase = .withheld → c.course = none →
    reached (s.cometPos c) (posAdd c.lead c.commitOfs.toNat) = true → reached (s.cometPos c) c.endPos = false →
    ∃ t c', exec .wtCycle s = .next t ∧ t.comet i = some c' ∧ c'.st = .committed ∧ c'.pCommit = s.cometPos c ∧
      c'.verdict = commitClass s c ∧ MemKept s t)

/-- Local ejections (R341, R343, R348): a committed comet that ejects holds its outputs from its start position on;
its end position releases them once MIN_PULSE has run, a release that waited goes through then, and MAX_PULSE cuts
them; the feedback of an output makes the ejections that hold it visible. Readings and choices of the model:
notes/assumptions, entries 34, 36, 37, 41 and 46. -/
def Obligations.LocalEjectionsStartAndEnd : Prop :=
  ∀ (s : State) (i : Fin 65536) (c : Comet), s.comet i = some c →
    (s.wtCycleNow = true → s.bit Reg.WT_GRP_CFG 0 c.group = false → c.phase = .idle → c.st = .committed →
      c.eject = true → reached (s.cometPos c) c.startPos = true →
      ∃ t c', exec (.ejectionStart i) s = .next t ∧ t.comet i = some c' ∧ c'.phase = .holding ∧ c'.ejActive = true ∧
        c'.flag 10 = true ∧ (0 < s.leadOn c.group → c'.flag 15 = true) ∧ (∀ j, j ≠ i.val → t.comet j = s.comet j) ∧
        MemKept s t) ∧
    (∀ o, s.wtCycleNow = true → c.phase = .holding → c.endPending = false → c.trailIn = true →
      reached (s.cometPos c) c.endPos = true → c.onAt = some o → s.minPulse c.group ≤ s.since o →
      ∃ t c', exec (.ejectionEnd i) s = .next t ∧ t.comet i = some c' ∧ c'.phase = .ended ∧ c'.ejActive = false ∧
        c'.pOff = s.cometPos c ∧ (∀ j, j ≠ i.val → t.comet j = s.comet j) ∧ MemKept s t) ∧
    (∀ o, s.on .WT = true → c.phase = .holding → c.endPending = true → c.onAt = some o →
      s.minPulse c.group ≤ s.since o →
      ∃ t c', exec (.minPulseEnd i) s = .next t ∧ t.comet i = some c' ∧ c'.phase = .ended ∧ c'.ejActive = false ∧
        c'.tOff = s.now ∧ (∀ j, j ≠ i.val → t.comet j = s.comet j) ∧ MemKept s t) ∧
    (∀ o, s.on .WT = true → c.phase = .holding → c.onAt = some o → s.maxPulse c.group ≤ s.since o →
      ∃ t c', exec (.pulseCap i) s = .next t ∧ t.comet i = some c' ∧ c'.phase = .ended ∧ c'.ejActive = false ∧
        c'.flag 16 = true ∧ t.bit Reg.WT_EVENT 6 = true ∧ (∀ j, j ≠ i.val → t.comet j = s.comet j) ∧ MemKept s t) ∧
    (∀ n : Fin 32, s.on .FIO = true → s.fieldGone = false → c.phase = .holding → c.onAt = none →
      s.groupHas c.group n = true →
      ∃ t c', exec (.outputEnergised n) s = .next t ∧ t.bit Reg.FIO_DO_STATE n = true ∧ t.comet i = some c' ∧
        c'.onAt = some s.raw ∧ c'.tOn = s.now ∧ c'.pOn = s.cometPos c ∧
        RegsKept s t [Reg.FIO_DO_STATE.addr] ∧ MemKept s t)

/-- Retirement and export (R346): a committed comet whose end position is passed and whose ejection is over retires; a
retired one goes to queue 18 as its record and its entry is FREE. Readings and choices of the model:
notes/assumptions, entries 40, 226 and 227. -/
def Obligations.CometsRetireAndAreExported : Prop :=
  ∀ (s : State) (i : Fin 65536) (c : Comet), s.comet i = some c →
    (s.wtCycleNow = true → c.st = .committed → c.trailIn = true → reached (s.cometPos c) c.endPos = true →
      c.ejActive = false → exec (.retire i) s = .next (s.setComet i { c with st := .retired })) ∧
    (s.on .WT = true → c.st = .retired → s.bit Reg.WT_CTRL 1 = true → s.qRoom 18 4 = true → s.memory.errs = [] →
      ∃ t it, exec (.exportRecord i) s = .next t ∧ t.comet i = none ∧
        (t.queue 18).items = (s.queue 18).items ++ [it] ∧ it.published = true ∧
        it.data = fitBytes (s.qSize 18) (c.bytes i) ∧ (∀ j, j ≠ i.val → t.comet j = s.comet j) ∧ MemKept s t) ∧
    (s.on .WT = true → c.st = .retired → s.bit Reg.WT_CTRL 1 = true → s.qRoom 18 4 = false →
      ∃ t, exec (.exportRecord i) s = .next t ∧ t.comet i = some c ∧ t.bit Reg.WT_EVENT 7 = true ∧
        t.queues = s.queues)

/-- Remote banks (R350 to R354): a committed comet that ejects sends EJECT to its bank; an acknowledgement ends the
command that it answers; a command without one is sent again up to three attempts and then given up; an ARP reply is
held. Readings and choices of the model: notes/assumptions, entries 20 and 38. -/
def Obligations.RemoteBankCommands : Prop :=
  (∀ (s : State) (i : Fin 65536) (c : Comet), s.wtCycleNow = true → s.comet i = some c →
    s.bit Reg.WT_GRP_CFG 0 c.group = true → s.bit Reg.WT_GRP_CFG 4 c.group = true → c.phase = .idle →
    c.st = .committed → c.eject = true → reached (s.cometPos c) c.startPos = true →
    ∃ t c', exec (.ejectSend i) s = .next t ∧ t.comet i = some c' ∧ c'.flag 17 = true ∧
      (t.group c.group).outstanding ≠ [] ∧ (t.group c.group).seq ≠ (s.group c.group).seq ∧ MemKept s t) ∧
  (∀ (s : State) (g : Fin 16) (d : List Byte) (k : BankCmd), s.on .WT = true → s.ackMatch g d = some k →
    ∃ t, exec (.remoteAck g d) s = .next t ∧
      (t.group g).outstanding = (s.group g).outstanding.filter (fun c => decide (c.seq ≠ k.seq)) ∧ MemKept s t) ∧
  (∀ (s : State) (g : Fin 16) (seq : Word) (k : BankCmd), s.on .WT = true →
    (s.group g).outstanding.find? (fun k => decide (k.seq = seq)) = some k →
    s.f Reg.WT_GRP_BANK_PORT 16 16 g * 1000 ≤ s.since k.sentAt →
    ∃ t, exec (.ackTimeout g seq) s = .next t ∧
      (k.attempts < 3 → (t.group g).outstanding = (s.group g).outstanding.map (fun c =>
        if c.seq = k.seq then { c with attempts := c.attempts + 1, sentAt := s.raw } else c)) ∧
      (3 ≤ k.attempts → (t.group g).outstanding = (s.group g).outstanding.filter (fun c => decide (c.seq ≠ k.seq))) ∧
      MemKept s t) ∧
  (∀ (s : State) (g : Fin 16) (a : BitVec 48), s.on .WT = true → s.core.cp = .running →
    s.bit Reg.WT_GRP_CFG 0 g = true →
    ∃ t, exec (.arpRefresh g (some a)) s = .next t ∧ t.bit Reg.WT_GRP_CFG 4 g = true ∧
      t.rd64 Reg.WT_GRP_BANK_MAC_LO Reg.WT_GRP_BANK_MAC_HI g = a.setWidth 64 ∧
      RegsKept s t [Reg.WT_GRP_BANK_MAC_LO.at g 0 0, Reg.WT_GRP_BANK_MAC_HI.at g 0 0, Reg.WT_GRP_CFG.at g 0 0] ∧
      MemKept s t)

/-! ### Field inputs and outputs (spec/12_field_io.md) -/

/-- Inputs and the field supply (R358, R368 to R370): an accepted edge takes the level, shows it after INVERT, and
captures time and position; a wire-break is set after 10 ms and cleared with the current; the supply takes the state
of its voltage. Without a field supply an input is not seen to rise. Readings and choices of the model:
notes/assumptions, entry 55. -/
def Obligations.InputsAndFieldSupply : Prop :=
  ∀ s : State, s.on .FIO = true →
    (∀ (n : Fin 16) (level : Bool) (held : Nat), s.f Reg.FIO_DI_CFG 16 16 n + 1 ≤ held → level ≠ (s.din n).level →
      (level && s.fieldGone) = false →
      ∃ t, exec (.diEdge n level held) s = .next t ∧ (t.din n).level = level ∧ (t.din n).capTime = s.now ∧
        (t.din n).capPos = (s.enc (s.f Reg.FIO_DI_CFG 5 2 n)).pos ∧
        t.bit Reg.FIO_DI_STATE n = (level != s.bit Reg.FIO_DI_CFG 1 n) ∧ MemKept s t) ∧
    (∀ (n : Fin 16) (level : Bool) (held : Nat), (level && s.fieldGone) = true →
      exec (.diEdge n level held) s = .next s) ∧
    (∀ (n : Fin 16) (ua held : Nat), s.bit Reg.FIO_DI_CFG 2 n = true → ua < 200 → 10000000 ≤ held →
      s.bit Reg.FIO_DI_STATE (16 + n) = false →
      ∃ t, exec (.diOpen n ua held) s = .next t ∧ t.bit Reg.FIO_DI_STATE (16 + n) = true ∧ t.bit Reg.FIO_EVENT 3 = true ∧
        RegsKept s t [Reg.FIO_DI_STATE.addr, Reg.FIO_EVENT.addr, Reg.FIO_CNT.at 5 0 0] ∧ MemKept s t) ∧
    (∀ (n : Fin 16) (ua : Nat), 500 < ua →
      ∃ t, exec (.diOpenClear n ua) s = .next t ∧ t.bit Reg.FIO_DI_STATE (16 + n) = false ∧
        (∀ m, m ≠ 16 + n.val → t.bit Reg.FIO_DI_STATE m = s.bit Reg.FIO_DI_STATE m) ∧
        RegsKept s t [Reg.FIO_DI_STATE.addr] ∧ MemKept s t) ∧
    (∀ dv held : Nat, (supplyClass dv = 1 ∨ supplyClass dv = 3 → 50000 ≤ held) →
      ∃ t, exec (.fieldSupplyChange dv held) s = .next t ∧ t.f Reg.FIO_SUPPLY 16 2 = supplyClass dv ∧
        t.f Reg.FIO_SUPPLY 0 9 = min dv 511 ∧ MemKept s t)

/-- A write of FIO_DO_SET sets the bits of the outputs that HOST owns and leaves the others (R359); OUTPUT feedback
clears its bit (R363); a camera pulse ends (R359). Readings and choices of the model: notes/assumptions, entry 54. -/
def Obligations.OutputsAreSetAndReadBack : Prop :=
  (∀ (s : State) (w : Writer) (v : Word), s.takes w Reg.FIO_DO_SET 0 0 0 = true →
    ∃ t, exec (.fioDoSetWrite w v) s = .next t ∧
      (∀ n, n < 32 → t.bit Reg.FIO_DO_SET n = if s.doOwner n = 0 then v.getLsbD n else s.bit Reg.FIO_DO_SET n) ∧
      t.pm.hostBlocked = false ∧ MemKept s t) ∧
  (∀ (s : State) (n : Fin 32), s.on .FIO = true →
    ∃ t, exec (.outputDeenergised n) s = .next t ∧ t.bit Reg.FIO_DO_STATE n = false ∧
      (∀ m, m ≠ n.val → t.bit Reg.FIO_DO_STATE m = s.bit Reg.FIO_DO_STATE m) ∧
      RegsKept s t [Reg.FIO_DO_STATE.addr] ∧ t.fio = s.fio ∧ MemKept s t) ∧
  (∀ (s : State) (n : Fin 32) (p : DWord), s.on .FIO = true → (s.dout n).pulse = some p → (s.raw - p).toNat < 2 ^ 63 →
    ∃ t, exec (.triggerPulseEnd n) s = .next t ∧ (t.dout n).pulse = none ∧ (t.dout n).pulseEnd = some s.raw ∧ MemKept s t)

/-- Output faults switch the gang off and are reported on its leader, warnings are reported there and clear with their
condition, and a faulted output recovers by RESTART or by FIO_DO_CLEAR once it has cooled (R360, R371, R372). Readings
and choices of the model: notes/assumptions, entry 53. -/
def Obligations.OutputFaultsAndRecovery : Prop :=
  (∀ (s : State) (n : Fin 32), s.on .FIO = true →
    (∀ held, (s.dout n).on = true → 100000 ≤ held →
      ∃ t, exec (.overload n held) s = .next t ∧ (t.dout (s.leader n)).faulted = true ∧
        t.bit Reg.FIO_DO_STATUS 1 (s.leader n) = true ∧ MemKept s t) ∧
    (∀ degC : Int, 150 < degC → s.bit Reg.FIO_DO_STATUS 2 (s.leader n) = false →
      ∃ t, exec (.overtemp n degC) s = .next t ∧ (t.dout (s.leader n)).faulted = true ∧
        t.bit Reg.FIO_DO_STATUS 2 (s.leader n) = true ∧ MemKept s t) ∧
    (∀ ua held, s.bit Reg.FIO_DO_STATE n = true → ua < 3000 → 1000000 ≤ held →
      ∃ t, exec (.openOn n ua held) s = .next t ∧ t.bit Reg.FIO_DO_STATUS 3 (s.leader n) = true ∧ t.fio = s.fio ∧
        MemKept s t) ∧
    (∀ mv held, s.bit Reg.FIO_DO_CFG 5 (s.leader n) = true → (s.dout n).on = false → 3000 < mv → 1000000 ≤ held →
      ∃ t, exec (.openOff n mv held) s = .next t ∧ t.bit Reg.FIO_DO_STATUS 4 (s.leader n) = true ∧ t.fio = s.fio ∧
        MemKept s t) ∧
    (∀ mv held, s.doCommanded n = false → 12000 < mv → 5000000 ≤ held →
      ∃ t, exec (.stuckOn n mv held) s = .next t ∧ t.bit Reg.FIO_DO_STATUS 5 (s.leader n) = true ∧ t.fio = s.fio ∧
        MemKept s t) ∧
    (∀ flag : OutWarn,
      ∃ t, exec (.outputWarnClear n flag) s = .next t ∧ t.bit Reg.FIO_DO_STATUS (warnBit flag) (s.leader n) = false ∧
        RegsKept s t [Reg.FIO_DO_STATUS.at (s.leader n) 0 0] ∧ t.fio = s.fio ∧ MemKept s t) ∧
    (∀ degC : Int, s.bit Reg.FIO_DO_CFG 4 (s.leader n) = true → (s.dout (s.leader n)).faulted = true → degC < 130 →
      10000000 ≤ s.since (s.dout (s.leader n)).faultAt →
      ∃ t, exec (.outputRestart n degC) s = .next t ∧ (t.dout (s.leader n)).faulted = false ∧
        t.bit Reg.FIO_DO_STATUS 1 (s.leader n) = false ∧ t.bit Reg.FIO_DO_STATUS 2 (s.leader n) = false ∧ MemKept s t)) ∧
  (∀ (s : State) (w : Writer) (v hot : Word) (n : Fin 32), s.takes w Reg.FIO_DO_CLEAR 0 0 0 = true →
    v.getLsbD n = true → s.leader n = n → s.bit Reg.FIO_DO_CFG 4 n = false →
    (s.gang n).all (fun m => !hot.getLsbD m) = true →
    ∃ t, exec (.fioDoClear w v hot) s = .next t ∧ (t.dout n).faulted = false ∧ MemKept s t)

/-! ### Memory and translation (spec/13_memory_and_translation.md, spec/14_data_integrity.md) -/

/-- A read of a byte of DRAM after a write of bytes gives what was written inside the range, and what was there
outside it; a write keeps the canonical form of memory. Readings and choices of the model: notes/assumptions, entry 6. -/
def Obligations.MemoryReadsAfterWrites : Prop :=
  ∀ (s : State) (pa : Nat) (l : List Byte),
    (∀ i (h : i < l.length), (s.pokes pa l).byte (pa + i) = l[i]) ∧
    (∀ a, a < pa ∨ pa + l.length ≤ a → (s.pokes pa l).byte a = s.byte a) ∧
    (Memory.wf s.mem → Memory.wf (s.pokes pa l).mem)

/-- Initialisation and refresh (R383, R387): at the end of initialisation every byte of DRAM reads zero and INIT_DONE is
set; the temperature of a tower is shown, and above 85 degrees its refresh rate doubles. -/
def Obligations.MemoryInitialisationAndRefresh : Prop :=
  (∀ s : State, s.on .MEM = true → s.bit Reg.MEM_STATUS 0 = true →
    ∃ t, exec .memoryInitDone s = .next t ∧ (∀ a, t.byte a = 0) ∧ t.initDone = true ∧ t.bit Reg.MEM_STATUS 0 = false ∧
      t.bit Reg.MEM_EVENT 0 = true ∧ (∀ sector, t.badSyms sector = 0) ∧
      RegsKept s t [Reg.MEM_STATUS.addr, Reg.MEM_EVENT.addr]) ∧
  (∀ (s : State) (k : Fin 4) (degC : Int), s.on .MEM = true →
    ∃ t, exec (.refreshRateChange k degC) s = .next t ∧ t.bit Reg.MEM_STATUS (8 + k) = decide (85 < degC) ∧
      (t.rd Reg.MEM_TOWER_TEMP k).toNat = (BitVec.ofInt 8 degC).toNat ∧
      (decide (85 < degC) ≠ s.bit Reg.MEM_STATUS (8 + k) → t.bit Reg.MEM_EVENT 1 = true) ∧
      RegsKept s t [Reg.MEM_STATUS.addr, Reg.MEM_EVENT.addr, Reg.MEM_TOWER_TEMP.at k 0 0] ∧ MemKept s t)

/-- Data integrity (R390, R419, R421, R430): a full entry of a merge buffer that is due is written and leaves the
buffer; a patrol read moves the patrol pointer on by one sector; a rewrite of a sector without a bad symbol reports
class 1; an armed injection waits for a write of its sector. Readings and choices of the model: notes/assumptions,
entry 132. -/
def Obligations.MergePatrolRewriteInject : Prop :=
  (∀ (s : State) (v : Fin 32) (e : MergeEnt), s.on .MEM = true → s.mergeOf v = [e] → 256 ≤ s.since e.at_ →
    e.bytes.length = 64 → vaultOf e.sector = v.val → AMap.Sorted e.bytes →
    ∃ t, exec (.mergeTimeout v) s = .next t ∧ t.mergeOf v = [] ∧
      (∀ p ∈ e.bytes, t.byte (e.sector * 64 + p.1) = p.2) ∧
      (∀ a, (∀ p ∈ e.bytes, a ≠ e.sector * 64 + p.1) → t.byte a = s.byte a)) ∧
  (∀ (s : State) (inner : Nat) (first second : BitVec 36), s.on .MEM = true → s.bit Reg.MEM_SCRUB_CFG 0 = true →
    s.core.cp ≠ .halted →
    ∃ t, exec (.patrolRead inner first second) s = .next t ∧
      (t.rd64 Reg.MEM_PATROL_PTR_LO Reg.MEM_PATROL_PTR_HI).toNat =
        ((s.rd64 Reg.MEM_PATROL_PTR_LO Reg.MEM_PATROL_PTR_HI).toNat + 64) % 2 ^ 35) ∧
  (∀ (s : State) (w : Writer) (first third : BitVec 36), s.takes w Reg.MEM_SCRUB_CMD 0 0 0 = true →
    (s.mergeOf (vaultOf s.scrubSector)).find? (fun e => decide (e.sector = s.scrubSector)) = none →
    s.badSyms s.scrubSector ||| first = 0 →
    ∃ t, exec (.rewrite w first third) s = .next t ∧ t.rd Reg.MEM_SCRUB_RESULT = 0x13F ∧
      RegsKept s t [Reg.MEM_SCRUB_RESULT.addr, Reg.MEM_ECC_CNT.at (vaultOf s.scrubSector) 6 0] ∧ MemKept s t) ∧
  (∀ (s : State) (w : Writer), s.takes w Reg.MEM_INJECT 0 0 0 = true →
    ∃ t, exec (.injectArm w) s = .next t ∧
      t.memory.inject = some (s.scrubSector,
        BitVec.ofNat 36 (s.f Reg.MEM_INJECT_LANES_CHK 0 4 * 2 ^ 32 + (s.rd Reg.MEM_INJECT_LANES).toNat)) ∧
      t.regs = s.regs ∧ MemKept s t)

/-- Translation (R400 to R405): a resumed transfer is suspended no longer, and one that firmware fails raises its
event; an invalidation drops the cached translations of its range, or all of them; a migration marks its entry, is in
progress until it ends, and then is over. Readings and choices of the model: notes/assumptions, entries 125 and 126. -/
def Obligations.TranslationResumesInvalidatesMigrates : Prop :=
  (∀ (s : State) (w : Writer) (e : Fin 64) (x : XltSusp), s.takes w Reg.XLT_RESUME 0 0 0 = true →
    AMap.look s.memory.susp e = some x →
    (x.kind = 1 → ∃ t, exec (.xltResume w e) s = .next t ∧ AMap.look t.memory.susp e = none) ∧
    (∃ t, exec (.xltResumeFail w e) s = .next t ∧ t.bit Reg.XLT_EVENT 1 = true)) ∧
  (∀ (s : State) (w : Writer) (h : Fin 1024) (n : Fin 65536), s.takes w Reg.XLT_INVAL 0 0 0 = true →
    (∃ t, exec (.xltInval w h n) s = .next t ∧
      (∀ p ∈ t.memory.tlb, ∀ q ∈ p.2, q.1 = h.val →
        q.2 < (s.rd64 Reg.XLT_INVAL_VA_LO Reg.XLT_INVAL_VA_HI).toNat % 2 ^ 40 / 65536 ∨
        (s.rd64 Reg.XLT_INVAL_VA_LO Reg.XLT_INVAL_VA_HI).toNat % 2 ^ 40 / 65536 + max 1 n.val ≤ q.2) ∧
      RegsKept s t [Reg.XLT_CNT.at 6 0 0] ∧ MemKept s t) ∧
    (∃ t, exec (.xltInvalAll w) s = .next t ∧ t.memory.tlb = [] ∧ RegsKept s t [Reg.XLT_CNT.at 6 0 0] ∧ MemKept s t)) ∧
  (∀ (s : State) (w : Writer) (h : Fin 1024) (big : Bool) (a : Nat), s.takes w Reg.XLT_MIG_CTRL 0 0 0 = true →
    s.bit Reg.XLT_STATUS 1 = false →
    s.entryAddr h ((s.rd64 Reg.XLT_MIG_VA_LO Reg.XLT_MIG_VA_HI).toNat % 2 ^ 40 / pageBytes big * pageBytes big) big =
      some a →
    ∃ t, exec (.migrationStart w h big) s = .next t ∧ t.memory.mig.isSome = true ∧ t.bit Reg.XLT_STATUS 1 = true) ∧
  (∀ (s : State) (h vb dst a : Nat), s.on .XLT = true → s.memory.mig = some (h, vb, dst) → s.memory.susp = [] →
    s.entryAddr h (vb / 2) (decide (vb % 2 = 1)) = some a →
    ∃ t, exec .migrationDone s = .next t ∧ t.memory.mig = none ∧ t.bit Reg.XLT_STATUS 1 = false ∧
      t.bit Reg.XLT_EVENT 2 = true)

/-! ### Hardware queues (spec/15_hardware_queues.md) -/

/-- Producing (R438 to R444, R644): a request joins those that wait; the oldest is granted whole once the free entries
suffice; a reservation takes the entries that its length needs and a SEQ, and one of a bad length is discarded and
counted; a back-filled packet is published with its header, an abandoned one becomes a PAD; a record is written as one
whole entry, or dropped and counted by a full DROP queue. Readings and choices of the model: notes/assumptions,
entries 135 and 226. -/
def Obligations.QueueProducersReserveAndPublish : Prop :=
  ∀ (s : State) (q : Fin 16384) (p : Nat), s.qOn q = true →
    (∀ n : Nat, ∃ t, exec (.creditRequest q p n) s = .next t ∧
      (t.queue q).waiting = (s.queue q).waiting ++ [(p, n)] ∧ (t.queue q).items = (s.queue q).items ∧
      (∀ m, m ≠ q.val → t.queue m = s.queue m) ∧ RegsKept s t [Reg.QM_CNT.at 3 0 0] ∧ MemKept s t) ∧
    (∀ (n : Nat) (rest : List (Nat × Nat)), (s.queue q).waiting = (p, n) :: rest → n ≤ s.qFree q →
      ∃ t, exec (.creditGrant q) s = .next t ∧ (t.queue q).waiting = rest ∧
        (t.queue q).credit p = (s.queue q).credit p + n ∧ (t.queue q).items = (s.queue q).items ∧
        t.rd Reg.QM_Q_CREDIT q = BitVec.ofNat 32 (t.queue q).held ∧ RegsKept s t (queueRegs q) ∧ MemKept s t) ∧
    (∀ len : Nat, s.qPacket q = true → s.qLenOk q len = true → ceilDiv len (s.qSize q) ≤ s.qCap q - (s.queue q).tail →
      ceilDiv len (s.qSize q) ≤ (s.queue q).credit p →
      ∃ t, exec (.packetReserve q p len) s = .next t ∧
        (t.queue q).items = (s.queue q).items ++
          [{ first := (s.queue q).tail, entries := ceilDiv len (s.qSize q), producer := p, seq := (s.queue q).seq, len := len,
             data := [], published := false, pad := false, done := false }] ∧
        (t.queue q).seq = (s.queue q).seq + 1 ∧ (t.queue q).credit p = (s.queue q).credit p - ceilDiv len (s.qSize q) ∧
        RegsKept s t (queueRegs q) ∧ MemKept s t) ∧
    (∀ len : Nat, s.qPacket q = true → s.qLenOk q len = false →
      ∃ t, exec (.packetReserve q p len) s = .next t ∧ t.queues = s.queues ∧ t.bit Reg.QM_EVENT 1 = true ∧
        RegsKept s t [Reg.QM_CNT.at 2 0 0, Reg.QM_EVENT.addr] ∧ MemKept s t) ∧
    (∀ (seq : Word) (it : QItem), (s.queue q).reserved p seq = some it →
      (∀ (kind : Fin 128) (body : List Byte), kind.val ≠ 0 →
        ∃ t, exec (.backFill q p seq kind body) s = .next t ∧
          { it with published := true, data := packetHeader kind it.len seq ++ fitBytes (it.len - 8) body } ∈
            (t.queue q).items ∧
          (t.queue q).items.length = (s.queue q).items.length ∧
          RegsKept s t (Reg.QM_CNT.addr :: queueRegs q) ∧ MemKept s t) ∧
      (∃ t, exec (.abandonedPad q p seq) s = .next t ∧
          { it with published := true, pad := true, data := packetHeader 0 it.len seq } ∈ (t.queue q).items ∧
          (t.queue q).items.length = (s.queue q).items.length ∧
          RegsKept s t (Reg.QM_CNT.addr :: Reg.QM_CNT.at 4 0 0 :: queueRegs q) ∧ MemKept s t)) ∧
    (∀ data : List Byte, q.val ≠ 16 → s.qRoom q p = true →
      ∃ t, exec (.recordPublish q p data) s = .next t ∧
        (t.queue q).items = (s.queue q).items ++
          [{ first := (s.queue q).tail, entries := 1, producer := p, seq := 0, len := s.qSize q,
             data := fitBytes (s.qSize q) data, published := true, pad := false, done := false }] ∧
        RegsKept s t (Reg.QM_CNT.addr :: queueRegs q) ∧ MemKept s t) ∧
    (∀ data : List Byte, q.val ≠ 16 → s.qPacket q = false → s.qDrop q = true → s.qRoom q p = false →
      ∃ t, exec (.recordPublish q p data) s = .next t ∧ t.queues = s.queues ∧ t.bit Reg.QM_EVENT 1 = true ∧
        RegsKept s t [Reg.QM_CNT.at 2 0 0, Reg.QM_EVENT.addr] ∧ MemKept s t) ∧
    (∀ data : List Byte, q.val = 16 → (fitBytes 64 data)[2]? ≠ some 13 →
      s.qRoom 16 (natLE (((fitBytes 64 data).drop 2).take 1)) = true →
      ∃ t, exec (.recordPublish q p data) s = .next t ∧
        (t.queue 16).items.map (fun i => i.data) =
          (s.queue 16).items.map (fun i => i.data) ++ [fitBytes (s.qSize 16) (fitBytes 64 data)] ∧ MemKept s t)

/-- Consuming (R418, R436, R445 to R447): the CP claims up to 64 visible entries; a hardware consumer releases the
entry at the head; a pop copies the item at the head into QM_POP_BUF and releases it, answers NOT_VALID on an empty
queue, and ACCESS on a queue whose consumer is not the host. An item whose sector cannot be corrected in the first
copy of the ring is read from the second, and the first is written again and counted as a mirror repair. Readings and
choices of the model: notes/assumptions, entries 133, 134 and 226 to 229. -/
def Obligations.QueueConsumersClaimReleaseAndPop : Prop :=
  ∀ (s : State) (q : Fin 16384),
    (∀ n : Nat, s.qOn q = true → s.qCons q = 1 → s.core.cp = .running → s.memory.errs = [] →
      ∃ t, exec (.cpClaim q n) s = .next t ∧
        (t.queue q).claimed = (s.queue q).claimed + min (min n 64) ((s.queue q).fill - (s.queue q).claimed) ∧
        (t.queue q).items = (s.queue q).items ∧ t.regs = s.regs ∧ MemKept s t) ∧
    (∀ (i : QItem) (rest : List QItem), q.val ≠ 0 → s.qOn q = true → s.qCons q = 0 → (s.queue q).items = i :: rest →
      i.published = true → i.pad = false → (∀ j ∈ rest, j.pad = false) → (∀ j ∈ rest, 0 < j.entries) →
      ∃ t more, exec (.entryRelease q i.entries) s = .next t ∧ (t.queue q).items = rest ++ more ∧ MemKept s t) ∧
    (∀ w : Writer, s.takes w Reg.QM_POP 0 0 0 = true →
      (s.qOn q = false ∨ s.qCons q ≠ 2 →
        ∃ t, exec (.pop w q) s = .next t ∧ (t.rd Reg.QM_POP_STATUS).toNat = q.val * 65536 + S_QUEUE_ACCESS ∧
          t.bit Reg.QM_EVENT 2 = true ∧ t.queues = s.queues ∧
          RegsKept s t [Reg.QM_POP_STATUS.addr, Reg.QM_EVENT.addr] ∧ MemKept s t) ∧
      (s.qOn q = true → s.qCons q = 2 → (s.queue q).head = none →
        ∃ t, exec (.pop w q) s = .next t ∧ (t.rd Reg.QM_POP_STATUS).toNat = q.val * 65536 + S_NOT_VALID ∧
          t.queues = s.queues ∧ RegsKept s t [Reg.QM_POP_STATUS.addr] ∧ MemKept s t) ∧
      (∀ i : QItem, s.qOn q = true → s.qCons q = 2 → (s.queue q).head = some i → i.data.length ≤ 4096 →
        s.ringData q i = i.data →
        ∃ t, exec (.pop w q) s = .next t ∧
          (t.rd Reg.QM_POP_STATUS).toNat = 2 ^ 31 + q.val * 65536 + i.len % 65536 ∧
          (∀ k, 4 * k < i.data.length → (t.rd Reg.QM_POP_BUF k).toNat = natLE ((i.data.drop (4 * k)).take 4)) ∧
          MemKept s t) ∧
      (∀ (i : QItem) (a b : Nat), s.qOn q = true → s.qCons q = 2 → (s.queue q).head = some i →
        s.ringSectors (s.ringFirst q) q i.first i.entries = [a] → s.ringSectors (s.ringMirror q) q i.first i.entries = [b] →
        1 < popCount (s.badSyms a) → s.badSyms b = 0 → s.memory.inject = none →
        ∃ t, exec (.pop w q) s = .next t ∧ t.badSyms a = 0 ∧
          t.rd Reg.MEM_ECC_CNT (vaultOf a) 7 = (s.bump Reg.MEM_ECC_CNT (vaultOf a) 7).rd Reg.MEM_ECC_CNT (vaultOf a) 7 ∧
          MemKept s t))

/-- Accounting (R320): a clear returns the accounting registers of one client, or of all of them, to zero; no other register
changes. -/
def Obligations.ClientAccountsClear : Prop :=
  ∀ (s : State) (w : Writer), s.takes w Reg.QM_CLIENT_CLEAR 0 0 0 = true →
    (∀ c : Fin 64, ∃ t, exec (.clientClear w c) s = .next t ∧
      t.rd64 Reg.QM_CLIENT_TIME_LO Reg.QM_CLIENT_TIME_HI c = 0 ∧ t.rd64 Reg.QM_CLIENT_WAIT_LO Reg.QM_CLIENT_WAIT_HI c = 0 ∧
      t.rd Reg.QM_CLIENT_WAIT_MAX c = 0 ∧ (∀ k : Fin 8, t.rd Reg.QM_CLIENT_CNT c k = 0) ∧
      RegsKept s t ([Reg.QM_CLIENT_TIME_LO.at c 0 0, Reg.QM_CLIENT_TIME_HI.at c 0 0, Reg.QM_CLIENT_WAIT_LO.at c 0 0,
        Reg.QM_CLIENT_WAIT_HI.at c 0 0, Reg.QM_CLIENT_WAIT_MAX.at c 0 0] ++
        (List.range 8).map (fun k => Reg.QM_CLIENT_CNT.at c k 0)) ∧ MemKept s t) ∧
    (∃ t, exec (.clientClearAll w) s = .next t ∧ MemKept s t ∧
      ∀ c : Fin 64, t.rd64 Reg.QM_CLIENT_TIME_LO Reg.QM_CLIENT_TIME_HI c = 0 ∧
        t.rd64 Reg.QM_CLIENT_WAIT_LO Reg.QM_CLIENT_WAIT_HI c = 0 ∧ t.rd Reg.QM_CLIENT_WAIT_MAX c = 0 ∧
        ∀ k : Fin 8, t.rd Reg.QM_CLIENT_CNT c k = 0)

/-! ### Host link (spec/16_host_link_and_mailboxes.md) -/

/-- Doorbells, mailbox writes and bulk data (R457, R458, R462): a doorbell posts its mailbox and enters a record into
queue 0; at a mailbox that is POSTED or BUSY a doorbell or a write is counted and changes nothing else; a bulk block
that passed its CRC is appended to the staging buffer, one that did not changes nothing. Readings and choices of the
model: notes/assumptions, entries 28 and 137. -/
def Obligations.DoorbellsMailboxesAndBulk : Prop :=
  ∀ s : State, s.fnReady 1 = true →
    (∀ m : Fin 16, s.mbState m ≠ 1 → s.mbState m ≠ 2 → s.qRoom 0 0 = true →
      ∃ t, exec (.doorbell m) s = .next t ∧ t.mbState m = 1 ∧ (∀ k : Fin 16, k ≠ m → t.mbState k = s.mbState k) ∧
        t.host.bells = s.host.bells ++ [m.val] ∧
        (t.queue 0).items.map (fun i => i.data) = (s.queue 0).items.map (fun i => i.data) ++
          [fitBytes (s.qSize 0) (bytesLE 8 m ++ bytesLE 8 s.now.toNat)] ∧
        RegsKept s t (Reg.F1_MB_STATE.addr :: Reg.QM_CNT.addr :: queueRegs 0) ∧ MemKept s t) ∧
    (∀ m : Fin 16, s.mbState m = 1 ∨ s.mbState m = 2 →
      (∃ t, exec (.doorbell m) s = .next t ∧ t.host = s.host ∧ t.queues = s.queues ∧
        (t.rd Reg.F1_CNT 2).toNat = min ((s.rd Reg.F1_CNT 2).toNat + 1) 0xFFFFFFFF ∧
        RegsKept s t [Reg.F1_CNT.at 2 0 0] ∧ MemKept s t) ∧
      (∀ (offset : Fin 4096) (data : List Byte), ∃ t, exec (.mailboxWrite m offset data) s = .next t ∧ t.host = s.host ∧
        (t.rd Reg.F1_CNT 1).toNat = min ((s.rd Reg.F1_CNT 1).toNat + 1) 0xFFFFFFFF ∧
        RegsKept s t [Reg.F1_CNT.at 1 0 0] ∧ MemKept s t)) ∧
    (∀ (m : Fin 16) (offset : Fin 4096) (data : List Byte), s.mbState m ≠ 1 → s.mbState m ≠ 2 →
      offset.val + data.length ≤ 4096 →
      ∃ t, exec (.mailboxWrite m offset data) s = .next t ∧ t.mailBytes m offset data.length = data ∧
        (∀ k : Fin 16, k ≠ m → t.mailBytes k 0 4096 = s.mailBytes k 0 4096) ∧ t.regs = s.regs ∧ MemKept s t) ∧
    (∀ (data : List Byte) (st : Staging), s.host.staging = some st → st.data.length + data.length ≤ st.size →
      ∃ t, exec (.bulkWrite data true) s = .next t ∧ t.host.staging = some { st with data := st.data ++ data } ∧
        t.rd64 Reg.F1_BULK_COUNT_LO Reg.F1_BULK_COUNT_HI = BitVec.ofNat 64 (st.data.length + data.length) ∧
        RegsKept s t [Reg.F1_BULK_COUNT_LO.addr, Reg.F1_BULK_COUNT_HI.addr, Reg.F1_CNT.at 3 0 0] ∧ MemKept s t) ∧
    (∀ data : List Byte, exec (.bulkWrite data false) s = .next s)

/-- The aperture, the verdict export and the SDIO interface (R454 to R456, R464, R465, R471, R472): a byte write
enters the assembly latch and acts with byte 3; an export read returns the oldest records, a reread the same ones
again; a reset of the interface clears its state alone; I/O Enable of function 1 starts a boot that was held; a booted
firmware serves. Readings and choices of the model: notes/assumptions, entries 26, 27, 29 and 30. -/
def Obligations.ApertureExportAndInterface : Prop :=
  (∀ (s : State) (offset : Fin 65536) (v : Byte), s.fnReady 2 = true →
    (offset.val % 4 ≠ 3 → ∃ t, exec (.apertureByteAccess offset true v) s = .next t ∧
      fld t.host.latch (8 * (offset.val % 4)) 8 = v.toNat ∧ t.regs = s.regs ∧ MemKept s t) ∧
    (offset.val % 4 = 3 → exec (.apertureByteAccess offset true v) s =
      exec (.registerWrite .host (s.f Reg.F2_PAGE 0 10 * 65536 + (offset.val - 3)) (putByte s.host.latch 3 v))
        { s with host := { s.host with latch := putByte s.host.latch 3 v } }) ∧
    (offset.val % 4 = 0 → ∃ t, exec (.apertureByteAccess offset false v) s = .next t ∧
      t.host.latch = (s.readAt (s.f Reg.F2_PAGE 0 10 * 65536 + offset.val)).1 ∧ MemKept s t)) ∧
  (∀ s : State, s.fnReady 3 = true →
    (∃ t, exec .reread s = .next t ∧ t.bit Reg.F3_CTRL 0 = true ∧ t.host = s.host ∧
      RegsKept s t [Reg.F3_CTRL.addr] ∧ MemKept s t) ∧
    (∀ n : Nat, s.bit Reg.F3_CTRL 0 = false → s.host.rereadRest = [] → s.memory.errs = [] →
      ∃ t, exec (.exportRead (128 * n)) s = .next t ∧
        t.host.lastRead = (s.exportHead.take n).map (fun i => i.data) ∧ t.bit Reg.F3_CTRL 0 = false ∧ MemKept s t) ∧
    (s.bit Reg.F3_CTRL 0 = true → s.host.rereadRest = [] →
      ∃ t, exec (.exportRead (128 * s.host.lastRead.length)) s = .next t ∧ t.host.lastRead = s.host.lastRead ∧
        t.bit Reg.F3_CTRL 0 = false ∧ t.queues = s.queues ∧ RegsKept s t [Reg.F3_CTRL.addr] ∧ MemKept s t)) ∧
  (∀ (s : State) (res : Bool), s.live = true → s.power ≠ 3 →
    ∃ t, exec (.sdioReset res) s = .next t ∧ t.host.cardUp = false ∧ t.host.ioEnable = 0 ∧ t.host.mail = s.host.mail ∧
      t.host.bells = s.host.bells ∧ t.regs = s.regs ∧ t.core = s.core ∧ MemKept s t) ∧
  (∀ (s : State) (fn : Fin 4), s.core.alive = true → s.core.quiesced = false → s.core.removed = false → s.power ≠ 3 →
    ∃ t, exec (.ioEnable fn) s = .next t ∧ t.host.ioEnable.getLsbD fn = true ∧
      (fn.val ≠ 1 → t.core = s.core ∧ t.regs = s.regs) ∧
      (fn.val = 1 → s.core.held = true → s.core.mrst = false → s.core.cp = .off →
        t.core.cp = .booting ∧ t.core.held = false) ∧ MemKept s t) ∧
  (∀ s : State, s.core.alive = true → s.core.quiesced = false → s.power ≠ 3 →
    ∃ t, exec .cdDisable s = .next t ∧ t.host.cdDisable = true ∧ t.regs = s.regs ∧ MemKept s t) ∧
  (∀ s : State, s.live = true → s.power ≠ 3 → s.core.cp = .booting → s.core.romDone = true →
    ∃ t, exec .firmwareReady s = .next t ∧ t.core.cp = .running ∧ t.host.ioReady = 14 ∧ t.bit Reg.F1_EVENT 16 = true ∧
      t.flash.orderly = false ∧ MemKept s t)

/-! ### Snapshots and the 48 V inputs (spec/21_fault_handling_and_snapshots.md) -/

/-- Snapshot triggers (R577, R578): an armed unit takes a trigger from the host, from SNAPIN or from a position match, with the
next number and the source of the trigger, and LATCHES; a trigger while it latches is added to the sources and latches
nothing; the end of latching sets VALID and holds a one-shot snapshot, which ARM arms again. -/
def Obligations.SnapshotTriggers : Prop :=
  ∀ s : State, s.on .SNAP = true →
    (∀ w : Writer, s.takes w Reg.SNAP_CTRL 0 0 0 = true → s.f Reg.SNAP_STATUS 0 2 = 0 →
      ∃ t, exec (.fire w) s = .next t ∧ t.f Reg.SNAP_STATUS 0 2 = 1 ∧ t.rd Reg.SNAP_NUMBER = s.rd Reg.SNAP_NUMBER + 1 ∧
        t.rd Reg.SNAP_SOURCES = 1 ∧ t.rd64 Reg.SNAP_TIME_LO Reg.SNAP_TIME_HI = s.now ∧
        (s.on .ENC = true → t.rd Reg.SNAP_BLK 3 0 = loWord (s.enc 0).pos) ∧ t.encs = s.encs ∧ MemKept s t) ∧
    (∀ heldNs : Nat, 20 ≤ heldNs → s.bit Reg.SNAP_CFG 3 = true → s.f Reg.SNAP_STATUS 0 2 = 0 →
      ∃ t, exec (.snapinEdge heldNs) s = .next t ∧ t.f Reg.SNAP_STATUS 0 2 = 1 ∧
        t.rd Reg.SNAP_NUMBER = s.rd Reg.SNAP_NUMBER + 1 ∧ t.rd Reg.SNAP_SOURCES = 16 ∧ MemKept s t) ∧
    (∀ heldNs : Nat, 20 ≤ heldNs → s.bit Reg.SNAP_CFG 3 = true → s.f Reg.SNAP_STATUS 0 2 = 1 →
      ∃ t, exec (.snapinEdge heldNs) s = .next t ∧ t.rd Reg.SNAP_SOURCES = s.rd Reg.SNAP_SOURCES ||| 16 ∧
        RegsKept s t [Reg.SNAP_SOURCES.addr] ∧ MemKept s t) ∧
    (∀ before : DWord, s.on .ENC = true → s.bit Reg.SNAP_CFG 0 = true → s.f Reg.SNAP_MATCH_CFG 2 2 = 0 →
      s.snap.fwdOff = false → posDiff before (s.rd64 Reg.SNAP_MATCH_LO Reg.SNAP_MATCH_HI) < 0 →
      0 ≤ posDiff (s.enc (s.f Reg.SNAP_MATCH_CFG 0 2)).pos (s.rd64 Reg.SNAP_MATCH_LO Reg.SNAP_MATCH_HI) →
      s.f Reg.SNAP_STATUS 0 2 = 0 →
      ∃ t, exec (.snapMatch before) s = .next t ∧ t.f Reg.SNAP_STATUS 0 2 = 1 ∧ t.rd Reg.SNAP_SOURCES = 2 ∧
        t.snap.fwdOff = true ∧ MemKept s t) ∧
    (s.f Reg.SNAP_STATUS 0 2 = 1 →
      ∃ t, exec .snapshotLatchDone s = .next t ∧
        t.f Reg.SNAP_STATUS 0 2 = (if s.bit Reg.SNAP_CFG 4 then 2 else 0) ∧ t.bit Reg.SNAP_STATUS 2 = true ∧
        t.bit Reg.SNAP_EVENT 0 = true ∧ RegsKept s t [Reg.SNAP_STATUS.addr, Reg.SNAP_EVENT.addr] ∧ MemKept s t) ∧
    (∀ w : Writer, s.takes w Reg.SNAP_CTRL 0 0 0 = true → s.f Reg.SNAP_STATUS 0 2 = 2 →
      ∃ t, exec (.arm w) s = .next t ∧ t.f Reg.SNAP_STATUS 0 2 = 0 ∧ t.bit Reg.SNAP_STATUS 3 = false ∧
        RegsKept s t [Reg.SNAP_STATUS.addr] ∧ MemKept s t) ∧
    (∃ t, exec .snapoutPulseEnd s = .next t ∧ t.snap.snapOut = false ∧ t.regs = s.regs ∧ MemKept s t)

/-! ### Power states and retention (spec/20_power_states_and_retention.md) -/

/-- Operating points and temperature (R546 to R549): at the end of a change the effective point is the lower of
request and cap and the command is answered; a throttle step lowers the cap by one point, or raises it by one; a
thermal trip ends in S3 with the outputs off and DRAM lost. Readings and choices of the model: notes/assumptions,
entries 155, 156 and 184. -/
def Obligations.OperatingPointsAndThermal : Prop :=
  (∀ (s : State) (op : Nat) (m : Fin 16), s.pm.opTarget = some (op, m.val) → s.live = true → s.power ≠ 3 →
    s.core.cp = .running →
    ∃ t, exec .opChangeDone s = .next t ∧ t.pm.opTarget = none ∧ t.opEffective = max s.opRequested s.opCap ∧
      t.f Reg.PM_OP_STATUS 16 16 = opMillivolts (max s.opRequested s.opCap) ∧ t.bit Reg.PM_OP_STATUS 9 = false ∧
      t.bit Reg.PM_EVENT 0 = true ∧ t.replied m S_OK ∧ MemKept s t) ∧
  (∀ (s : State) (degC : Int), s.live = true → s.power ≠ 3 →
    (s.throttleC ≤ degC → s.stepDue 10000000 = true → s.opCap < 3 →
      ∃ t, exec (.throttleStepDown degC) s = .next t ∧ t.opCap = s.opCap + 1 ∧
        t.opEffective = max s.opRequested (s.opCap + 1) ∧ t.bit Reg.PM_EVENT 1 = true ∧ t.pm.lastStep = some s.raw ∧
        MemKept s t) ∧
    (∀ since : DWord, degC < s.throttleC - 5 → s.pm.coolSince = some since → 100000000 ≤ s.since since →
      s.stepDue 100000000 = true → 0 < s.opCap →
      ∃ t, exec (.throttleStepUp degC) s = .next t ∧ t.opCap = s.opCap - 1 ∧
        t.opEffective = max s.opRequested (s.opCap - 1) ∧ MemKept s t)) ∧
  (∀ (s : State) (degC : Int), s.core.alive = true → -128 ≤ degC → degC ≤ 127 →
    ∃ t, exec (.temperatureHot degC) s = .next t ∧ sfld (t.rd Reg.PM_TJ) 0 8 = degC ∧
      (sfld (s.rd Reg.PM_TJ) 0 8 < 105 → 105 ≤ degC → t.bit Reg.PM_EVENT 3 = true) ∧
      RegsKept s t [Reg.PM_TJ.addr, Reg.PM_EVENT.addr] ∧ MemKept s t) ∧
  (∀ (s : State) (core tower : Int), s.live = true → s.power ≠ 3 → 125 ≤ core ∨ 100 ≤ tower →
    ∃ t, exec (.thermalTrip core tower) s = .next t ∧ t.power = 3 ∧ t.bit Reg.PM_EVENT 6 = true ∧
      t.fio.forcedOff = true ∧ t.core.cp = .off ∧ t.pm.tripHold = decide (95 ≤ core) ∧ ∀ a, t.byte a = 0)

/-- Power states and wake (R551 to R566): the end of an entry stands in the state asked for and answers the command;
S2 leaves a retention store that passes its checks, S3 loses DRAM; a wake source starts the exit and records its
cause; the exit from S1 and S2 ends in S0, with words of a good store restored and a bad store reported; the exit from
S3 is a boot. Readings and choices of the model: notes/assumptions, entries 157, 158 and 159. -/
def Obligations.PowerStatesAndWake : Prop :=
  (∀ (s : State) (m : Fin 16), s.live = true → s.core.cp = .running → s.pm.wakePending = false →
    (s.pm.entry = some (1, some m.val) → ∃ t, exec .powerEntryDone s = .next t ∧ t.power = 1 ∧ t.pm.entry = none ∧
      t.bit Reg.PM_STATE 2 = false ∧ t.replied m S_OK ∧ t.encs = s.encs ∧ t.wt = s.wt ∧ MemKept s t) ∧
    (s.pm.entry = some (2, some m.val) → ∃ t, exec .powerEntryDone s = .next t ∧ t.power = 2 ∧ t.pm.entry = none ∧
      t.storeGood true = true ∧ t.replied m S_OK ∧ t.encs = s.encs ∧ t.wt.comets = []) ∧
    (s.pm.entry = some (3, some m.val) → ∃ t, exec .powerEntryDone s = .next t ∧ t.power = 3 ∧ t.pm.entry = none ∧
      t.storeGood true = true ∧ t.core.cp = .off ∧ t.fio.forcedOff = true ∧ t.flash = s.flash ∧ ∀ a, t.byte a = 0)) ∧
  (∀ s : State, s.core.alive = true → s.core.quiesced = false → s.core.removed = false → s.pm.tripHold = false →
    s.pm.entry = none → s.pm.waking = none →
    (∀ addr : BitVec 7, addr.toNat = s.f Reg.PM_WAKE_ADDR 0 7 → addr ≠ 0x7F → addr ≠ 0 → s.bit Reg.PM_WAKE_CFG 0 = true →
      1 ≤ s.power →
      ∃ t, exec (.wakeBusFrame addr 1) s = .next t ∧ t.pm.waking = some s.power ∧ t.pm.busAnswer = some true ∧
        t.bit Reg.PM_WAKE_CAUSE 0 = true ∧ t.bit Reg.PM_EVENT 4 = true ∧ t.bit Reg.PM_STATE 2 = true ∧
        RegsKept s t [Reg.PM_WAKE_CAUSE.addr, Reg.PM_EVENT.addr, Reg.PM_STATE.addr] ∧ MemKept s t) ∧
    (∀ (lane : Fin 32) (bursts : List (Nat × Nat)), s.bit Reg.PM_WAKE_LANES lane = true →
      s.bit Reg.PM_WAKE_PATTERN lane = true → patternSeen bursts = true → 2 ≤ s.power →
      ∃ t, exec (.wakePattern lane bursts) s = .next t ∧ t.pm.waking = some s.power ∧ t.bit Reg.PM_WAKE_CAUSE 2 = true ∧
        t.bit Reg.PM_EVENT 4 = true ∧
        RegsKept s t [Reg.PM_WAKE_CAUSE.addr, Reg.PM_EVENT.addr, Reg.PM_STATE.addr] ∧ MemKept s t) ∧
    (s.bit Reg.PM_WAKE_CFG 1 = true → s.power = 3 →
      ∃ t, exec .sdioStartBitWake s = .next t ∧ t.pm.waking = some 3 ∧ t.bit Reg.PM_WAKE_CAUSE 1 = true ∧
        t.bit Reg.PM_EVENT 4 = true ∧
        RegsKept s t [Reg.PM_WAKE_CAUSE.addr, Reg.PM_EVENT.addr, Reg.PM_STATE.addr] ∧ MemKept s t)) ∧
  (∀ (s : State) (ok : Bool), s.pm.wakeReply = none →
    (s.pm.waking = some 1 → ∃ t, exec (.wakeDone ok) s = .next t ∧ t.power = 0 ∧ t.pm.waking = none ∧ t.wt = s.wt ∧
      t.encs = s.encs ∧ MemKept s t) ∧
    (s.pm.waking = some 2 → ∃ t, exec (.wakeDone ok) s = .next t ∧ t.power = 0 ∧ t.pm.waking = none ∧
      (s.storeGood ok = true → t.rd Reg.WT_CTRL =
        (s.storeWord 52 &&& Reg.WT_CTRL.rw) ||| (Reg.WT_CTRL.reset &&& ~~~Reg.WT_CTRL.rw)) ∧
      (s.storeGood ok = false → t.bit Reg.PM_EVENT 5 = true) ∧ t.encs = s.encs ∧ MemKept s t) ∧
    (s.pm.waking = some 3 → ∃ t, exec (.wakeDone ok) s = .next t ∧ t.power = 0 ∧ t.core.cp = .booting ∧
      t.pm.hostBlocked = true ∧ t.flash = s.flash ∧ (s.storeGood ok = false → t.bit Reg.PM_EVENT 5 = true) ∧
      ∀ a, t.byte a = 0))

/-! ### Boot, reset, insertion and removal (R455, R575, R576, R587, R588, R612 to R619) -/

/-- The boot ROM boots an image that passes its checks and recovers where flash holds none or it fails (R587, R588);
seating starts the always-on domain (R613); MRST_N holds the module in reset, and its release starts a boot once the
module has been enabled (R618); an emergency quiesce and a loss of the bus lose DRAM (R576, R615). Readings and
choices of the model: notes/assumptions, entries 163, 173, 178 and 179. -/
def Obligations.BootResetInsertionAndRemoval : Prop :=
  (∀ s : State, s.live = true → s.core.cp = .booting → s.core.romDone = false →
    (s.flash.firmware = none → ∃ t, exec .powerOnReset s = .next t ∧ t.core.cp = .recovery ∧
      t.bit Reg.SEC_STATUS 0 = true ∧ t.bit Reg.SEC_EVENT 0 = true ∧ t.host.ioReady = 2 ∧ MemKept s t) ∧
    (∀ d, s.flash.firmware = some d → ∃ t, exec .powerOnReset s = .next t ∧ t.flash = s.flash ∧ MemKept s t ∧
      (s.fwCheck d = 0 → t.core.romDone = true ∧ t.sec.running = some d ∧ t.bit Reg.SEC_STATUS 1 = true) ∧
      (s.fwCheck d ≠ 0 → t.core.cp = .recovery ∧ t.f Reg.SEC_STATUS 24 8 = s.fwCheck d))) ∧
  (∀ (s : State) (heldNs : Nat), s.core.alive = false → s.core.mrst = false → 10000000 ≤ heldNs →
    ∃ t, exec (.seated heldNs) s = .next t ∧ t.core.alive = true ∧ t.core.held = true ∧ t.core.cp = .off ∧
      t.rd Reg.PM_HOTPLUG = 7 ∧ t.rd Reg.WT_CTRL = Reg.WT_CTRL.reset ∧ t.flash = s.flash ∧ ∀ a, t.byte a = 0) ∧
  (∀ (s : State) (heldNs : Nat), s.core.alive = true → s.core.quiesced = false → 10000 ≤ heldNs →
    ∃ t, exec (.mrst heldNs) s = .next t ∧ t.core.mrst = true ∧ t.core.held = true ∧ t.core.cp = .off ∧
      t.bit Reg.PM_HOTPLUG 3 = true ∧ t.host.cardUp = s.host.cardUp ∧ t.flash = s.flash ∧ ∀ a, t.byte a = 0) ∧
  (∀ s : State, s.core.mrst = true → s.core.alive = true → s.core.quiesced = false → s.core.enabledOnce = true →
    s.core.held = true → s.core.cp = .off →
    ∃ t, exec .mrstRelease s = .next t ∧ t.core.mrst = false ∧ t.core.held = false ∧ t.core.cp = .booting ∧ MemKept s t) ∧
  (∀ (s : State) (pin : Fin 2) (heldNs : Nat), s.core.alive = true → s.core.quiesced = false → 2000 ≤ heldNs →
    ∃ t, exec (.emergencyQuiesce pin heldNs) s = .next t ∧ t.core.quiesced = true ∧ t.fio.forcedOff = true ∧
      t.bit Reg.PM_HOTPLUG 0 = false ∧ t.bit Reg.PM_HOTPLUG (1 + pin) = false ∧ t.flash = s.flash ∧ ∀ a, t.byte a = 0) ∧
  (∀ (s : State) (decivolts : Nat), decivolts < 340 →
    ∃ t, exec (.busUndervoltage decivolts) s = .next t ∧ t.core.alive = false ∧ t.regs = [] ∧ t.flash = s.flash ∧
      t.fuse = s.fuse ∧ ∀ a, t.byte a = 0)

/-- CP restarts, supplies and cages (R23, R461, R575, R576, R605 to R607): a watchdog timeout restarts a running CP,
the third within 60 s halts it; after the restart it serves again and a command that was BUSY is POSTED again; a 48 V
input shows its voltage and state; a cage shows its module, its removal, its power fault and its interrupt. Readings
and choices of the model: notes/assumptions, entries 169, 170 and 180. -/
def Obligations.CpRestartsSuppliesAndCages : Prop :=
  (∀ (s : State) (reason : Fin 4) (pc : DWord), s.live = true → s.power ≠ 3 → s.core.cp = .running → reason.val ≠ 0 →
    ∃ t, exec (.watchdogTimeout reason pc) s = .next t ∧ t.core.warmRestarts = s.core.warmRestarts + 1 ∧
      ((s.core.restartTimes.filter (fun x => decide (s.since x ≤ 60000000000))).length < 2 → t.core.cp = .restarting) ∧
      (2 ≤ (s.core.restartTimes.filter (fun x => decide (s.since x ≤ 60000000000))).length →
        t.core.cp = .halted ∧ t.bit Reg.SNAP_EVENT 4 = true) ∧
      t.encs = s.encs ∧ t.wt = s.wt ∧ MemKept s t) ∧
  (∀ s : State, s.live = true → s.power ≠ 3 → s.core.cp = .restarting → s.core.restartRec = none →
    ∃ t, exec (.warmRestartDone false) s = .next t ∧ t.core.cp = .running ∧ t.bit Reg.F1_EVENT 16 = true ∧
      (∀ m : Fin 16, s.mbState m = 2 → s.pmWaits m = false → AMap.look s.host.journal m = none → t.mbState m = 1) ∧
      MemKept s t) ∧
  (∀ (s : State) (b : Bool) (decivolts heldNs st : Nat), s.core.alive = true → s.core.quiesced = false →
    inputState decivolts heldNs = some st →
    ∃ t, exec (.powerInputChange b decivolts heldNs) s = .next t ∧
      t.f Reg.SNAP_SUPPLY (12 * b.toNat) 12 = min decivolts 4095 ∧ t.f Reg.SNAP_SUPPLY (28 + 2 * b.toNat) 2 = st ∧
      (s.f Reg.SNAP_SUPPLY (28 + 2 * b.toNat) 2 = 2 → st ≠ 2 → s.on .SNAP = true → t.bit Reg.SNAP_EVENT 3 = true) ∧
      MemKept s t) ∧
  (∀ (s : State) (k : Fin 4), s.on .LN = true →
    (∀ cls : Fin 16, s.bit Reg.LN_CAGE_STATUS 0 k = false →
      ∃ t, exec (.cageInsert k cls) s = .next t ∧ t.bit Reg.LN_CAGE_STATUS 0 k = true ∧
        t.f Reg.LN_CAGE_STATUS 4 4 k = min cls.val 8 ∧ t.bit Reg.LN_CAGE_STATUS 9 k = decide (4 < min cls.val 8) ∧
        t.bit Reg.LN_CAGE_EVENT k = true ∧
        RegsKept s t [Reg.LN_CAGE_STATUS.at k 0 0, Reg.LN_CAGE_EVENT.addr] ∧ MemKept s t) ∧
    (s.bit Reg.LN_CAGE_STATUS 0 k = true →
      (∃ t, exec (.cageRemove k) s = .next t ∧ t.rd Reg.LN_CAGE_STATUS k = 0 ∧ t.bit Reg.LN_CAGE_EVENT (4 + k) = true ∧
        MemKept s t) ∧
      (∀ heldNs : Nat, 1000000 ≤ heldNs → s.bit Reg.LN_CAGE_STATUS 8 k = false →
        ∃ t, exec (.cagePowerFault k heldNs) s = .next t ∧ t.bit Reg.LN_CAGE_STATUS 8 k = true ∧
          t.bit Reg.LN_CAGE_EVENT (8 + k) = true ∧ MemKept s t) ∧
      (∃ t, exec (.cageInterrupt k) s = .next t ∧ t.bit Reg.LN_CAGE_STATUS 1 k = true ∧
        t.bit Reg.LN_CAGE_EVENT (12 + k) = true ∧
        RegsKept s t [Reg.LN_CAGE_STATUS.at k 0 0, Reg.LN_CAGE_EVENT.addr] ∧ MemKept s t)))

/-! ### Network time (spec/18_network_time.md) -/

/-- Writes of the time base (R6, R516, R517, R520, R525): a change of the rate leaves the time continuous; a write of
OFFSET sets the time to the pair written and makes it VALID; a step adds its signed value; both raise STEP; a host
write while PTP is enabled changes no time and is refused with S_BUSY. Readings and choices of the model:
notes/assumptions, entries 23 and 24. -/
def Obligations.TimeBaseWrites : Prop :=
  ∀ (s : State) (w : Writer) (v : Word),
    (s.takes w Reg.TIME_RATE 0 0 0 = true → w = .firmware ∨ s.bit Reg.TIME_PTP_CFG 0 = false →
      ∃ t, exec (.timeRateWrite w v) s = .next t ∧ t.rd Reg.TIME_RATE = v ∧ t.now = s.now ∧ t.raw = s.raw ∧
        t.rd64 Reg.TIME_OFFSET_LO Reg.TIME_OFFSET_HI = s.timeAt s.raw ∧ t.rd64 Reg.TIME_ANCHOR_LO Reg.TIME_ANCHOR_HI = s.raw ∧
        RegsKept s t [Reg.TIME_RATE.addr, Reg.TIME_OFFSET_LO.addr, Reg.TIME_OFFSET_HI.addr, Reg.TIME_ANCHOR_LO.addr,
          Reg.TIME_ANCHOR_HI.addr] ∧ MemKept s t) ∧
    (s.takes w Reg.TIME_OFFSET_LO 0 0 0 = true → w = .firmware ∨ s.bit Reg.TIME_PTP_CFG 0 = false →
      ∃ t, exec (.timeOffsetApply w v) s = .next t ∧
        t.now = joinWords ((AMap.look s.pairPend Reg.TIME_OFFSET_LO.addr).getD (s.rd Reg.TIME_OFFSET_HI)) v ∧
        t.bit Reg.TIME_STATUS 0 = true ∧ t.bit Reg.TIME_STATUS 1 = false ∧ t.bit Reg.TIME_EVENT 0 = true ∧
        AMap.look t.pairPend Reg.TIME_OFFSET_LO.addr = none ∧ MemKept s t) ∧
    (s.takes w Reg.TIME_ADJ 0 0 0 = true → w = .firmware ∨ s.bit Reg.TIME_PTP_CFG 0 = false →
      ∃ t, exec (.timeAdj w v) s = .next t ∧ t.now = s.now + BitVec.ofInt 64 v.toInt ∧ t.bit Reg.TIME_EVENT 0 = true ∧
        t.bit Reg.TIME_STATUS 1 = false ∧ MemKept s t) ∧
    (s.bit Reg.TIME_PTP_CFG 0 = true → ∀ (c : Instr) (r : RegRow),
      c = .timeRateWrite .host v ∧ r = Reg.TIME_RATE ∨ c = .timeOffsetApply .host v ∧ r = Reg.TIME_OFFSET_LO ∨
        c = .pairHiWrite .host Reg.TIME_OFFSET_HI.addr v ∧ r = Reg.TIME_OFFSET_HI ∨
        c = .timeAdj .host v ∧ r = Reg.TIME_ADJ →
      s.takes .host r 0 0 0 = true →
      ∃ t, exec c s = .next t ∧ t.now = s.now ∧ t.pairPend = s.pairPend ∧ t.f Reg.TIME_STATUS 16 16 = S_BUSY ∧
        t.bit Reg.TIME_EVENT 4 = true ∧ t.refusedWith S_BUSY r.addr ∧
        RegsKept s t [Reg.TIME_STATUS.addr, Reg.TIME_EVENT.addr, Reg.TIME_CNT.at 5 0 0, Reg.SYS_REFUSED_STATUS.addr,
          Reg.SYS_REFUSED_ADDR.addr, Reg.SYS_REFUSED_CNT.addr, Reg.SYS_HOST_EVENT.addr] ∧ MemKept s t)

/-- PTP and the position histories (R521 to R523, R531): a Sync is counted and its stamps are kept; a message that the
port does not take is dropped and counted; a MASTER queues Sync and Announce, a slave its delay request; a missing
Sync clears LOCKED; at every microsecond each enabled channel writes a history entry of its position. Readings and
choices of the model: notes/assumptions, entries 48 to 52. -/
def Obligations.PtpMessagesAndHistories : Prop :=
  (∀ (s : State) (mac : Fin 8) (msg : PtpMsg), s.on .TIME = true →
    (s.ptpAccepts mac msg = false →
      ∃ t, exec (.ptpReceive mac msg) s = .next t ∧
        (t.rd Reg.TIME_CNT 4).toNat = min ((s.rd Reg.TIME_CNT 4).toNat + 1) 0xFFFFFFFF ∧ t.time = s.time ∧
        RegsKept s t [Reg.TIME_CNT.at 4 0 0] ∧ MemKept s t) ∧
    (s.ptpAccepts mac msg = true → msg.kind = .sync → msg.twoStep = true → s.ptpState = 3 → s.core.cp = .running →
      ∃ t, exec (.ptpReceive mac msg) s = .next t ∧ t.time.t1 = msg.origin ∧ t.time.t2 = s.rxStamp mac ∧
        t.time.lastSync = some s.raw ∧ t.time.syncWaits = true ∧ t.now = s.now ∧
        RegsKept s t [Reg.TIME_CNT.at 1 0 0] ∧ MemKept s t)) ∧
  (∀ s : State, s.ptpOn = true →
    (s.ptpState = 4 → s.ptpDue 0 (logNs (clampI (-7) 4 (sfld (s.rd Reg.TIME_PTP_INTERVAL) 0 8))) = true →
      ∃ t, exec .ptpSyncSend s = .next t ∧
        (t.mac s.ptpMac).txq = (s.mac s.ptpMac).txq ++ [{ cls := 1, tag := .ptp .sync, data := [] }] ∧
        AMap.look t.time.lastSent 0 = some s.raw ∧ RegsKept s t [Reg.TIME_CNT.at 2 0 0] ∧ MemKept s t) ∧
    (s.ptpState = 4 → s.ptpDue 1 (logNs (sfld (s.rd Reg.TIME_PTP_INTERVAL) 8 8)) = true →
      ∃ t, exec .ptpAnnounceSend s = .next t ∧
        (t.mac s.ptpMac).txq = (s.mac s.ptpMac).txq ++ [{ cls := 1, tag := .ptp .announce, data := [] }] ∧
        t.regs = s.regs ∧ MemKept s t) ∧
    (s.ptpDue 2 (logNs (sfld (s.rd Reg.TIME_PTP_INTERVAL) 16 8)) = true → 1 ≤ s.ptpProfile ∨ s.ptpState = 3 →
      ∃ t, exec .ptpDelayReqSend s = .next t ∧
        (t.mac s.ptpMac).txq = (s.mac s.ptpMac).txq ++
          [{ cls := 1, tag := .ptp (if 1 ≤ s.ptpProfile then .pdelayReq else .delayReq), data := [] }] ∧
        t.regs = s.regs ∧ MemKept s t) ∧
    (∀ last : DWord, s.time.lastSync = some last →
      max 2 (s.f Reg.TIME_PTP_INTERVAL 24 8) * logNs (sfld (s.rd Reg.TIME_PTP_INTERVAL) 8 8) ≤ s.since last →
      ∃ t, exec .announceTimeout s = .next t ∧ t.bit Reg.TIME_STATUS 1 = false ∧ t.now = s.now ∧ MemKept s t)) ∧
  (∀ (s : State) (n : Fin 4), s.on .TIME = true → s.raw.toNat % 1000 = 0 → s.f Reg.ENC_CFG 0 2 n ≠ 0 →
    ∃ t, exec .historyEntry s = .next t ∧
      AMap.look (AMap.get t.time.hist [] n) (s.raw.toNat / 1000) =
        some { pos := (s.enc n).pos, unknown := s.bit Reg.ENC_STATUS 0 n, epoch := (s.enc n).epoch } ∧
      t.regs = s.regs ∧ MemKept s t)

/-! ### Mailbox commands (spec/16_host_link_and_mailboxes.md, R473 to R477) -/

/-- Commands that report (R458, R473, R474, R476, R577, R594): NOP, STATE_SUMMARY, SNAPSHOT and ATTEST answer S_OK
with their replies; a command of a wrong LENGTH is answered S_BAD_LENGTH, and one of an unknown opcode
S_UNKNOWN_COMMAND. Readings and choices of the model: notes/assumptions, entries 166 and 167. -/
def Obligations.ReportingCommandsReply : Prop :=
  ∀ (s : State) (m : Fin 16),
    (s.serves m 1 (fun n => decide (n = 0)) = true →
      ∃ t, exec (.nop m) s = .next t ∧ t.replied m S_OK ∧ t.bit Reg.F1_EVENT m = true ∧ t.encs = s.encs ∧ t.wt = s.wt ∧
        t.job = s.job ∧ RegsKept s t replyRegs ∧ MemKept s t) ∧
    (s.serves m 1 (fun n => decide (n ≠ 0)) = true →
      ∃ t, exec (.nop m) s = .next t ∧ t.replied m S_BAD_LENGTH ∧ RegsKept s t replyRegs ∧ MemKept s t) ∧
    (s.canServe m = true → s.core.cp = .running → knownOps.contains (s.cmdOp m) = false →
      ∃ t, exec (.nop m) s = .next t ∧ t.replied m S_UNKNOWN_COMMAND ∧ RegsKept s t replyRegs ∧ MemKept s t) ∧
    (s.serves m 2 (fun n => decide (n = 4)) = true → s.arg m 0 1 = 0 → s.arg m 1 3 = 0 →
      ∃ t, exec (.stateSummary m) s = .next t ∧ t.replied m S_OK ∧ t.host.generation = s.host.generation + 1 ∧
        t.host.summary.isSome = true ∧ natLE (t.mailBytes m 8 4) = 12240 ∧ natLE (t.mailBytes m 16 4) = 0x53535649 ∧
        t.encs = s.encs ∧ t.wt = s.wt ∧ MemKept s t) ∧
    (∀ sum, s.serves m 2 (fun n => decide (n = 4)) = true → s.arg m 0 1 = 1 ∨ s.arg m 0 1 = 2 → s.arg m 1 3 = 0 →
      s.host.summary = some sum →
      ∃ t, exec (.stateSummaryPart m) s = .next t ∧ t.replied m S_OK ∧
        t.mailBytes m 16 (summaryPart sum (s.arg m 0 1)).length = summaryPart sum (s.arg m 0 1) ∧
        t.host.generation = s.host.generation ∧ RegsKept s t replyRegs ∧ MemKept s t) ∧
    (s.serves m 7 (fun n => decide (n = 0)) = true → s.on .SNAP = true → s.f Reg.SNAP_STATUS 0 2 = 0 →
      ∃ t, exec (.snapshot m) s = .next t ∧ t.replied m S_OK ∧
        natLE (t.mailBytes m 16 4) = (s.rd Reg.SNAP_NUMBER + 1).toNat ∧ t.f Reg.SNAP_STATUS 0 2 = 1 ∧ MemKept s t) ∧
    (s.serves m 0x41 (fun n => decide (n = 32)) = true →
      ∃ t, exec (.attest m) s = .next t ∧ t.replied m S_OK ∧ natLE (t.mailBytes m 2 2) = 4080 ∧
        natLE (t.mailBytes m 16 4) = 0x54415649 ∧ t.mailBytes m 24 32 = s.argBytes m 0 32 ∧
        RegsKept s t (Reg.SEC_CNT.at 3 0 0 :: replyRegs) ∧ MemKept s t)

/-- Commands on the module itself (R317, R426, R473, R546, R551, R552, R614): an accepted operating point is requested
and waits for its change; a deeper power state that meets its conditions is entered, one that does not is refused with
the number of the condition; an orderly removal leaves the module removed with its mailbox readable; a module reset
boots again; a cleared soft map is empty; a spare swap waits for its boundary or is made at once. Readings and choices
of the model: notes/assumptions, entries 176, 177, 222 and 223. -/
def Obligations.ModuleCommandsTakeEffect : Prop :=
  ∀ (s : State) (m : Fin 16),
    (s.serves m 4 (fun n => decide (n = 4)) = true → s.arg m 0 1 ≤ 3 → s.arg m 1 3 = 0 → s.opRefused (s.arg m 0 1) = none →
      ∃ t, exec (.setOperatingPoint m) s = .next t ∧ t.mbState m = 2 ∧ t.opRequested = s.arg m 0 1 ∧
        t.pm.opTarget = some (s.arg m 0 1, m.val) ∧ t.bit Reg.PM_OP_STATUS 9 = true ∧
        RegsKept s t [Reg.PM_OP_STATUS.addr, Reg.F1_MB_STATE.addr] ∧ MemKept s t) ∧
    (s.serves m 5 (fun n => decide (n = 4)) = true → s.pm.waking = none → s.arg m 0 1 ≤ 3 → s.arg m 1 3 = 0 →
      (s.arg m 0 1 = s.power → ∃ t, exec (.setPowerState m) s = .next t ∧ t.replied m S_OK ∧
        RegsKept s t (Reg.PM_STATE.addr :: replyRegs) ∧ MemKept s t) ∧
      (s.power < s.arg m 0 1 → s.entryFails (entryNeeds (s.arg m 0 1)) = none →
        ∃ t, exec (.setPowerState m) s = .next t ∧ t.mbState m = 2 ∧ t.pm.entry = some (s.arg m 0 1, some m.val) ∧
          t.bit Reg.PM_STATE 2 = true ∧ t.power = s.power ∧ MemKept s t) ∧
      (∀ k, s.power < s.arg m 0 1 → s.entryFails (entryNeeds (s.arg m 0 1)) = some k →
        ∃ t, exec (.setPowerState m) s = .next t ∧ t.replied m S_POWER_STATE ∧ natLE (t.mailBytes m 8 4) = k ∧
          t.power = s.power ∧ RegsKept s t (Reg.PM_STATE.addr :: replyRegs) ∧ MemKept s t)) ∧
    (s.serves m 6 (fun n => decide (n = 0)) = true → s.entryFails [1, 2, 3] = none →
      ∃ t, exec (.orderlyRemove m) s = .next t ∧ t.core.removed = true ∧ t.core.removeLit = true ∧ t.flash.orderly = true ∧
        t.fio.forcedOff = true ∧ t.replied m S_OK ∧ ∀ a, t.byte a = 0) ∧
    (s.serves m 3 (fun n => decide (n = 4)) = true → s.arg m 0 4 = 0x5A5A0001 →
      ∃ t, exec (.moduleReset m) s = .next t ∧ t.core.cp = .booting ∧ t.core.held = false ∧ t.flash = s.flash ∧
        t.rd Reg.WT_CTRL = Reg.WT_CTRL.reset ∧ t.queues = [] ∧ ∀ a, t.byte a = 0) ∧
    (s.serves m 0x31 (fun n => decide (n = 4)) = true → s.arg m 0 4 = 0x5A5A0002 →
      ∃ t, exec (.clearSoftMap m) s = .next t ∧ t.flash.softMap = [] ∧ t.flash.softDisabled = [] ∧ t.replied m S_OK ∧
        RegsKept s t (Reg.MEM_SPARE_STATUS.addr :: replyRegs) ∧ MemKept s t) ∧
    (∀ e : Nat, s.serves m 0x30 (fun n => decide (n = 4)) = true → s.arg m 0 1 ≤ 31 → s.arg m 1 3 = 0 →
      s.spireOf (s.arg m 0 1) = some e → (s.engine e).switch = none →
      (∀ x, (s.engine e).tile = some x → x.susp = false →
        ∃ t, exec (.spareSwap m) s = .next t ∧ t.mbState m = 2 ∧ t.host.swapWait = some (m.val, s.arg m 0 1, e) ∧
          (t.engine e).swapPending = true ∧ RegsKept s t [Reg.F1_MB_STATE.addr] ∧ MemKept s t) ∧
      (∀ p, (s.engine e).tile = none → (s.engine e).resident = none → s.spareSpire = some p → p ≠ e →
        ∃ t, exec (.spareSwap m) s = .next t ∧ t.replied m S_OK ∧ t.f Reg.SPR_ID 0 8 p = 128 + s.arg m 0 1 ∧
          t.host.swapWait = none ∧ MemKept s t))

/-- Camera control and queues (R435, R449, R475): a transfer begins with its fields and the mailbox BUSY; an
acknowledgement of all bytes ends it with the bytes read; the fourth time limit ends it with S_CAMERA_TIMEOUT; a queue
is created enabled and empty, and destroyed with its contents; one in use is not destroyed. Readings and choices of
the model: notes/assumptions, entries 138, 139 and 221. -/
def Obligations.CameraControlAndQueueCommands : Prop :=
  (∀ (s : State) (m : Fin 16), s.camFields m = true →
    (s.serves m 8 (fun n => decide (n = 12)) = true → s.arg m 1 1 = 0 → 0 < s.arg m 8 4 →
      ∃ t, exec (.camControlRead m) s = .next t ∧ t.mbState m = 2 ∧
        t.host.camXfer = some
          { mailbox := m, port := s.arg m 0 1, write := false, addr := s.arg m 4 4, left := s.arg m 8 4,
            wdata := [], rdata := [], retries := 0, sentAt := s.raw } ∧
        RegsKept s t [Reg.F1_MB_STATE.addr] ∧ MemKept s t) ∧
    (s.serves m 8 (fun n => decide (n = 12 + s.arg m 8 4)) = true → s.arg m 1 1 = 1 → 0 < s.arg m 8 4 →
      ∃ t, exec (.camControlWrite m) s = .next t ∧ t.mbState m = 2 ∧
        t.host.camXfer = some
          { mailbox := m, port := s.arg m 0 1, write := true, addr := s.arg m 4 4, left := s.arg m 8 4,
            wdata := s.argBytes m 12 (s.arg m 8 4), rdata := [], retries := 0, sentAt := s.raw } ∧
        RegsKept s t [Reg.F1_MB_STATE.addr] ∧ MemKept s t)) ∧
  (∀ (s : State) (m : Fin 16) (x : CamXfer), s.host.camXfer = some x → x.mailbox = m.val → s.core.cp = .running →
    (∀ (port : Fin 8) (data : List Byte), x.port = port.val → data ≠ [] → x.write = false →
      (x.left ≤ data.length → x.rdata.length + x.left ≤ 4064 →
        ∃ t, exec (.controlAcknowledge port true data) s = .next t ∧ t.replied m S_OK ∧ t.host.camXfer = none ∧
          t.mailBytes m 16 (x.rdata.length + x.left) = x.rdata ++ data.take x.left ∧
          RegsKept s t replyRegs ∧ MemKept s t) ∧
      (data.length < x.left →
        ∃ t, exec (.controlAcknowledge port true data) s = .next t ∧
          t.host.camXfer = some
            { x with addr := x.addr + data.length, left := x.left - data.length, wdata := [],
                     rdata := x.rdata ++ data, retries := 0, sentAt := s.raw } ∧ t.regs = s.regs ∧ MemKept s t)) ∧
    (200000000 ≤ s.since x.sentAt → x.retries < 3 →
      ∃ t, exec .cameraTimeout s = .next t ∧
        t.host.camXfer = some { x with retries := x.retries + 1, sentAt := s.raw } ∧ t.regs = s.regs ∧ MemKept s t) ∧
    (200000000 ≤ s.since x.sentAt → 3 ≤ x.retries →
      ∃ t, exec .cameraTimeout s = .next t ∧ t.replied m S_CAMERA_TIMEOUT ∧ t.host.camXfer = none ∧
        RegsKept s t replyRegs ∧ MemKept s t)) ∧
  (∀ (s : State) (m : Fin 16) (q : Fin 16384), s.arg m 0 2 = q.val → 256 ≤ q.val →
    (s.serves m 0x10 (fun n => decide (n = 12)) = true → s.bit Reg.QM_Q_CFG 31 q = false → s.arg m 2 1 ≤ 1 →
      s.arg m 3 1 ≤ 1 → s.arg m 4 1 ≤ 3 → 4 ≤ s.arg m 5 1 → s.arg m 5 1 ≤ 16 → s.arg m 6 1 ≤ 3 → s.arg m 7 1 ≤ 1 →
      s.arg m 8 4 < 2 ^ 17 →
      let w := queueWord (s.arg m 2 1) (s.arg m 3 1) (s.arg m 4 1) (s.arg m 5 1) (s.arg m 6 1) (s.arg m 7 1) (s.arg m 8 4)
      (ringKib w ≤ (s.rd Reg.QM_POOL_FREE).toNat →
        ∃ t, exec (.queueCreate m) s = .next t ∧ t.replied m S_OK ∧ t.rd Reg.QM_Q_CFG q = w ||| 0x80000000 ∧
          t.queue q = {} ∧ t.rd Reg.QM_Q_FILL q = 0 ∧ MemKept s t ∧
          t.rd Reg.QM_POOL_FREE = s.rd Reg.QM_POOL_FREE - BitVec.ofNat 32 (ringKib w)) ∧
      ((s.rd Reg.QM_POOL_FREE).toNat < ringKib w →
        ∃ t, exec (.queueCreate m) s = .next t ∧ t.replied m S_QUEUE_BUDGET ∧ RegsKept s t replyRegs ∧ MemKept s t)) ∧
    (s.serves m 0x11 (fun n => decide (n = 4)) = true → s.arg m 2 2 = 0 → s.bit Reg.QM_Q_CFG 31 q = true →
      (s.queueInUse q = false →
        ∃ t, exec (.queueDestroy m) s = .next t ∧ t.replied m S_OK ∧ t.bit Reg.QM_Q_CFG 31 q = false ∧ t.queue q = {} ∧
          MemKept s t) ∧
      (s.queueInUse q = true →
        ∃ t, exec (.queueDestroy m) s = .next t ∧ t.replied m S_BUSY ∧ RegsKept s t replyRegs ∧ MemKept s t)))

/-- Loading (R309, R462, R463, R473, R589, R596): LOAD_BEGIN opens a staging buffer; LOAD_JOB and LOAD_WEIGHT_SET of
an image that passes its checks leave a loaded job, or its second weight set, and a reply; FW_UPDATE writes an image
that passes its checks and refuses one that does not; a buffer that is not full is S_LOAD_INCOMPLETE. Readings and
choices of the model: notes/assumptions, entries 175, 194, 217 and 224. -/
def Obligations.LoadCommandsTakeTheirImages : Prop :=
  ∀ (s : State) (m : Fin 16),
    (∀ l, s.serves m 0x20 (fun n => decide (n = 8)) = true → s.arg m 0 8 ≤ 2 ^ 33 → s.host.staging = none →
      s.memory.stagingPages = [] → s.allocPages (ceilDiv (s.arg m 0 8) 65536) = some l →
      ∃ t, exec (.loadBegin m) s = .next t ∧ t.replied m S_OK ∧
        t.host.staging = some { size := s.arg m 0 8, data := [] } ∧ t.memory.stagingPages = l ∧
        t.rd64 Reg.F1_BULK_COUNT_LO Reg.F1_BULK_COUNT_HI = 0 ∧ MemKept s t) ∧
    (∀ g : Staging, s.serves m 0x21 (fun n => decide (n = 16)) = true → s.arg m 0 1 ≤ 15 → s.arg m 1 1 = 0 →
      s.arg m 2 2 ≤ 63 → 1 ≤ s.arg m 6 2 → s.arg m 6 2 ≤ 1024 → s.arg m 8 8 = 0 → s.host.staging = some g → g.full = true →
      s.job.jobs.length < 64 → s.complQOk (s.arg m 4 2) = true → s.validate g.data = none →
      let j := s.newJob m g.data
        ((s.allocPages ((parseImage g.data).pagesNeeded (s.rankIn (parseImage g.data)))).getD [])
      let t' := s.withNewJob s.freeHandle j g.data
      t'.budgets j = none → t'.aroundOk s.freeHandle = true →
      ∃ t, exec (.loadJob m) s = .next t ∧ t.replied m S_OK ∧ t.jobOf s.freeHandle = some j ∧ t.host.staging = none ∧
        natLE (t.mailBytes m 16 2) = s.freeHandle) ∧
    (∀ (g : Staging) (j : Job) (s1 : State) (old : List Byte), s.serves m 0x22 (fun n => decide (n = 4)) = true →
      s.arg m 2 2 = 0 → s.jobOf (s.arg m 0 2) = some j → s.host.staging = some g → g.full = true → j.set2 = none →
      s.fwRead j.pages (j.img.imageBytes / 65536 + 2) 0 j.img.imageBytes = (s1, some old) →
      setDiffers old g.data = false → s1.check3 g.data = none →
      ∃ t, exec (.loadWeightSet m) s = .next t ∧ t.replied m S_OK ∧ t.host.staging = none ∧
        t.jobOf (s.arg m 0 2) = some
          { j with set2 := some (parseImage g.data), set2Pages := s1.memory.stagingPages, nextSet := 1 - j.nextSet }) ∧
    (s.serves m 0x40 (fun n => decide (n = 0)) = true →
      (s.host.staging = none → ∃ t, exec (.fwUpdate m) s = .next t ∧ t.replied m S_LOAD_INCOMPLETE ∧ t.flash = s.flash ∧
        RegsKept s t replyRegs ∧ MemKept s t) ∧
      (∀ g : Staging, s.host.staging = some g → g.full = true → imgNat g.data 0 4 ≠ 0x534B5649 →
        ∃ t, exec (.fwUpdate m) s = .next t ∧ t.host.staging = none ∧ MemKept s t ∧
          (s.fwCheck g.data = 0 → t.replied m S_OK ∧ t.flash = { s.flash with firmware := some g.data } ∧
            t.bit Reg.SEC_EVENT 1 = true ∧ t.bit Reg.SEC_STATUS 4 = true) ∧
          (s.fwCheck g.data ≠ 0 → t.replied m S_FW_IMAGE ∧ t.flash = s.flash ∧ natLE (t.mailBytes m 8 4) = s.fwCheck g.data ∧
            t.bit Reg.SEC_EVENT 0 = true)) ∧
      (∀ g : Staging, s.host.staging = some g → g.full = true → imgNat g.data 0 4 = 0x534B5649 →
        ∃ t, exec (.fwUpdate m) s = .next t ∧ t.host.staging = none ∧ MemKept s t ∧
          (s.keySetCheck g.data = 0 → t.replied m S_OK ∧ t.flash.keySet = some g.data ∧ t.fuse.owner.isSome = true ∧
            t.bit Reg.SEC_EVENT 2 = true) ∧
          (s.keySetCheck g.data ≠ 0 → t.replied m S_FW_IMAGE ∧ t.flash = s.flash ∧ t.fuse = s.fuse ∧
            natLE (t.mailBytes m 8 4) = 16 + s.keySetCheck g.data ∧ t.bit Reg.SEC_EVENT 0 = true)))

/-- Runs of a job (R284, R287, R288, R312 to R315, R396, R397): START runs a job whose image, run and checks allow it,
with a new run number and no slot; STOP, PAUSE, RESUME, ABORT and UNLOAD change the state of a run as the table of
R288 says; a START of a job in a run, or its UNLOAD, is S_JOB_STATE; a job that does not exist is S_HANDLE_INVALID.
Readings and choices of the model: notes/assumptions, entries 212, 213 and 215. -/
def Obligations.JobRunCommandsChangeStates : Prop :=
  ∀ (s : State) (m : Fin 16) (j : Job),
    (s.jobOf (s.arg m 0 2) = none → s.serves m 0x25 (fun n => decide (n = 4)) = true → s.arg m 2 2 = 0 →
      ∃ t, exec (.stop m) s = .next t ∧ t.replied m S_HANDLE_INVALID ∧ t.job = s.job ∧ RegsKept s t replyRegs ∧
        MemKept s t) ∧
    (s.jobOf (s.arg m 0 2) = some j →
      (s.serves m 0x24 (fun n => decide (n = 4)) = true → s.power = 0 → j.st.inRun = false → s.agreed j = .same →
        s.aroundOk (s.arg m 0 2) = true →
        (s.arg m 2 2 = 0 → ∃ t j', exec (.start m) s = .next t ∧ t.replied m S_OK ∧
          natLE (t.mailBytes m 16 4) = (s.job.runs + 1) % 2 ^ 32 ∧ t.jobOf (s.arg m 0 2) = some j' ∧ j'.st = .running ∧
          j'.run = s.job.runs + 1 ∧ j'.slots = [] ∧ j'.parts = 0 ∧ j'.lazy = false ∧ t.encs = s.encs ∧ t.wt = s.wt) ∧
        (s.arg m 2 2 = 1 → s.onEnabledLane j = false → ∃ t j', exec (.startLazy m) s = .next t ∧ t.replied m S_OK ∧
          t.jobOf (s.arg m 0 2) = some j' ∧ j'.st = .running ∧ j'.run = s.job.runs + 1 ∧ j'.slots = [] ∧ j'.lazy = true ∧
          t.encs = s.encs ∧ t.wt = s.wt)) ∧
      (s.serves m 0x24 (fun n => decide (n = 4)) = true → s.power = 0 → j.st.inRun = true → s.arg m 2 2 = 0 →
        ∃ t, exec (.start m) s = .next t ∧ t.replied m S_JOB_STATE ∧ t.job = s.job ∧ RegsKept s t replyRegs ∧
          MemKept s t) ∧
      (s.serves m 0x25 (fun n => decide (n = 4)) = true → s.arg m 2 2 = 0 → j.st = .running →
        ∃ t j', exec (.stop m) s = .next t ∧ t.replied m S_OK ∧ t.jobOf (s.arg m 0 2) = some j' ∧
          (j'.st = .draining ∨ j.used = 0 ∧ j'.st = .done) ∧ j'.run = j.run ∧ MemKept s t) ∧
      (s.serves m 0x26 (fun n => decide (n = 4)) = true → s.arg m 2 2 = 0 → j.st.active = true →
        ∃ t j', exec (.pause m) s = .next t ∧ t.replied m S_OK ∧ t.jobOf (s.arg m 0 2) = some j' ∧
          (j'.st = .pausing ∨ j'.st = .paused) ∧ j'.before = j.st ∧ j'.run = j.run) ∧
      (s.serves m 0x27 (fun n => decide (n = 4)) = true → s.arg m 2 2 = 0 → s.power = 0 → j.st = .paused →
        j.before = .running →
        ∃ t, exec (.resume m) s = .next t ∧ t.replied m S_OK ∧
          t.jobOf (s.arg m 0 2) = some { j with st := .running } ∧ MemKept s t) ∧
      (s.serves m 0x28 (fun n => decide (n = 4)) = true → s.arg m 2 2 = 0 → j.st.inRun = true →
        (∀ e, (s.engine e).swapPending = false) →
        ∃ t j', exec (.abort m) s = .next t ∧ t.replied m S_OK ∧ t.jobOf (s.arg m 0 2) = some j' ∧ j'.st = .aborted ∧
          j'.run = j.run ∧ t.encs = s.encs) ∧
      (s.serves m 0x29 (fun n => decide (n = 4)) = true → s.arg m 2 2 = 0 → j.st.inRun = false →
        ∃ t, exec (.unload m) s = .next t ∧ t.replied m S_OK ∧ t.jobOf (s.arg m 0 2) = none ∧
          (∀ h, h ≠ s.arg m 0 2 → (t.jobOf h).map (fun x => x.st) = (s.jobOf h).map (fun x => x.st)) ∧ t.encs = s.encs) ∧
      (s.serves m 0x29 (fun n => decide (n = 4)) = true → s.arg m 2 2 = 0 → j.st.inRun = true →
        ∃ t, exec (.unload m) s = .next t ∧ t.replied m S_JOB_STATE ∧ t.job = s.job ∧ RegsKept s t replyRegs ∧
          MemKept s t))

/-- Parameters and weights of a job (R219 to R221, R248, R263, R284, R310): BIND_INPUT records the binding,
SET_PRIORITY the priority, client and share, of a job that still meets its checks; SWITCH_WEIGHTS arms the switch
positions of the lanes of its mask; CALIBRATE counts the records it calibrated; BANK_PREPARE prepares the banks of a
layer. Readings and choices of the model: notes/assumptions, entries 214, 216, 218 and 219. -/
def Obligations.JobParameterCommandsTakeEffect : Prop :=
  ∀ (s : State) (m : Fin 16) (j : Job), s.jobOf (s.arg m 0 2) = some j →
    (s.serves m 0x23 (fun n => decide (n = 12)) = true → s.arg m 2 1 ≤ 15 → s.arg m 3 1 ≤ 7 → s.arg m 4 1 ≤ 3 →
      s.arg m 5 3 = 0 → j.img.inputs.any (fun i => decide (i.input = s.arg m 2 1)) = true →
      let b : Binding := { pipe := s.arg m 3 1, out := s.arg m 4 1, lanes := BitVec.ofNat 32 (s.arg m 8 4) }
      let t' := s.bindInput (s.arg m 0 2) j (s.arg m 2 1) b
      (t'.jobOk (s.arg m 0 2) t'.effOp 1 = true → s.keepsJobs t' = true →
        ∃ t, exec (.bindInput m) s = .next t ∧ t.replied m S_OK ∧
          t.jobOf (s.arg m 0 2) = some { j with binds := AMap.put j.binds (s.arg m 2 1) b } ∧ MemKept s t) ∧
      (t'.jobOk (s.arg m 0 2) t'.effOp 1 = false →
        ∃ t, exec (.bindInput m) s = .next t ∧ t.replied m S_DEADLINE_INFEASIBLE ∧ t.job = s.job ∧
          RegsKept s t replyRegs ∧ MemKept s t)) ∧
    (s.serves m 0x2A (fun n => decide (n = 8)) = true → s.arg m 2 1 ≤ 15 → s.arg m 3 1 = 0 → s.arg m 4 2 ≤ 63 →
      1 ≤ s.arg m 6 2 → s.arg m 6 2 ≤ 1024 →
      let j' : Job := { j with prio := s.arg m 2 1, client := s.arg m 4 2, share := s.arg m 6 2 }
      (s.setJob (s.arg m 0 2) j').budgets j' = none → (s.setJob (s.arg m 0 2) j').aroundOk (s.arg m 0 2) = true →
      ∃ t, exec (.setPriority m) s = .next t ∧ t.replied m S_OK ∧ t.jobOf (s.arg m 0 2) = some j' ∧ MemKept s t) ∧
    (∀ (g : JobImg) (s1 : State) (d : List Byte),
      s.serves m 0x2B (fun n => decide (n = 8 + 8 * (maskLanes (s.arg m 4 4)).length)) = true → s.arg m 3 1 = 0 →
      j.nextSet ≤ 1 → s.arg m 2 1 = 1 - j.nextSet → maskLanes (s.arg m 4 4) = j.lanes → j.set2 = some g → j.switch = [] →
      s.jobOk (s.arg m 0 2) s.effOp 2 = true →
      s.fwRead j.set2Pages (g.imageBytes / 65536 + 2) 0 g.imageBytes = (s1, some d) → s1.check3 d = none →
      check8 g = none →
      ∃ t j', exec (.switchWeights m) s = .next t ∧ t.replied m S_OK ∧ t.jobOf (s.arg m 0 2) = some j' ∧
        (j'.switch = (s.switchArgs m).map (fun p => (p.1, s1.switchFrom p.1 p.2)) ∨ j'.set2 = none ∧ j'.switch = []) ∧
        j'.st = j.st) ∧
    (∀ (s1 : State) (k : Nat), s.serves m 0x2C (fun n => decide (n = 24)) = true → s.arg m 2 1 ≤ 4 → s.arg m 3 1 ≤ 1 →
      s.arg m 8 8 % 64 = 0 → j.holds (s.arg m 8 8) (64 * s.arg m 4 4) = true →
      j.holds (s.arg m 16 8) (32 * s.arg m 4 4) = true →
      s.calibrateAll j (s.arg m 2 1) (decide (s.arg m 3 1 = 1)) (s.arg m 4 4) (s.arg m 8 8) (s.arg m 16 8) = (s1, some k) →
      ∃ t, exec (.calibrate m) s = .next t ∧ t.replied m S_OK ∧ natLE (t.mailBytes m 16 4) = k % 2 ^ 32 ∧ MemKept s1 t ∧
        t.encs = s1.encs) ∧
    (∀ s1 : State, s.serves m 0x2D (fun n => decide (n = 4)) = true → j.banksOf (s.arg m 2 2) ≠ [] →
      s.prepareBanks j (j.img.layer (s.arg m 2 2)).d (j.banksOf (s.arg m 2 2)) = (s1, true) →
      ∃ t, exec (.bankPrepare m) s = .next t ∧ t.replied m S_OK ∧ MemKept s1 t ∧ t.encs = s1.encs)

/-! ### Camera ports (spec/03_camera_ingress.md) -/

/-- Triggers (R75 to R77, R79, R84): a grid point reached on a ready port takes the next number, enters the FIFO and
issues its trigger at once where none waits; on a port that is not ready, or with a full FIFO, it is counted as
suppressed; a trigger that waited goes out late. Readings and choices of the model: notes/assumptions, entries 57, 59
and 64. -/
def Obligations.CameraTriggersFollowTheGrid : Prop :=
  ∀ (s : State) (n : Fin 8),
    (∀ g high, s.camEnabled n = true → s.camSource n ≠ 0 → s.camNext n = some (g, high) →
      (s.camReady n = true → (s.cam n).fifo.length < 4096 → (s.cam n).waits = [] → s.camFree n = true →
        (s.cam n).blockNo ≤ (s.cam n).nextNum / s.camPerBlock n →
        ∃ t, exec (.gridPointReached n) s = .next t ∧ (t.cam n).high = high ∧ (t.cam n).nextNum = (s.cam n).nextNum + 1 ∧
          { num := (s.cam n).nextNum, pos := g, issued := true, late := false,
            noPos := s.bit Reg.ENC_STATUS 0 (s.camEnc n) } ∈ (t.cam n).fifo ∧
          (t.cam n).lastTrig = some s.raw ∧ (s.camSource n = 1 → t.regs = s.regs) ∧ MemKept s t) ∧
      (s.camReady n = false →
        ∃ t, exec (.gridPointReached n) s = .next t ∧ (t.cam n).high = high ∧ (t.cam n).fifo = (s.cam n).fifo ∧
          (t.rd Reg.CAM_CNT n 10).toNat = min ((s.rd Reg.CAM_CNT n 10).toNat + 1) 0xFFFFFFFF ∧
          RegsKept s t [Reg.CAM_CNT.at n 10 0] ∧ MemKept s t) ∧
      (s.camReady n = true → 4096 ≤ (s.cam n).fifo.length →
        ∃ t, exec (.gridPointReached n) s = .next t ∧ (t.cam n).fifo = (s.cam n).fifo ∧ (t.cam n).skipped = true ∧
          t.bit Reg.CAM_EVENT 3 n = true ∧ RegsKept s t [Reg.CAM_CNT.at n 10 0, Reg.CAM_EVENT.at n 0 0] ∧ MemKept s t)) ∧
    (∀ w rest, (s.cam n).waits = w :: rest → s.camFree n = true →
      ∃ t, exec (.delayedTrigger n) s = .next t ∧ (t.cam n).lastTrig = some s.raw ∧
        (∀ x ∈ (t.cam n).fifo, x.num = w.num → x.issued = true ∧ x.late = true) ∧
        (t.rd Reg.CAM_CNT n 7).toNat = min ((s.rd Reg.CAM_CNT n 7).toNat + 1) 0xFFFFFFFF ∧ MemKept s t) ∧
    (s.camUp n = true → s.camGev n = false →
      ∃ t, exec (.triggerAck n) s = .next t ∧ (t.cam n).acks = (s.cam n).acks + 1 ∧ t.regs = s.regs ∧ MemKept s t)

/-- The link (R71, R73, R95): it comes up with LINK_UP alone and its event; discovery succeeds with the identifiers 0,
1, … of one device and fails with any other; a heartbeat packet is remembered; a lost carrier or a missing heartbeat
closes the open block, empties the trigger FIFO and raises LINK_DOWN; the CP's heartbeat joins the MAC's queue.
Readings and choices of the model: notes/assumptions, entries 57 and 65. -/
def Obligations.CameraLinkComesAndGoes : Prop :=
  ∀ (s : State) (n : Fin 8),
    (s.camEnabled n = true → s.camUp n = false → s.camCarrier n = true →
      s.camGev n = true ∨ (s.cam n).lastHeart.isSome = true →
      ∃ t, exec (.camLinkUp n) s = .next t ∧ t.f Reg.CAM_STATUS 0 3 n = 1 ∧ t.bit Reg.CAM_EVENT 0 n = true ∧
        (t.cam n).discovering = !s.camGev n ∧
        RegsKept s t [Reg.CAM_STATUS.at n 0 0, Reg.CAM_EVENT.at n 0 0] ∧ MemKept s t) ∧
    (∀ ids same, s.camUp n = true → (s.cam n).discovering = true →
      ∃ t, exec (.discoveryDone n ids same) s = .next t ∧ (t.cam n).discovering = false ∧
        (same = true → ids = List.range (s.camLanes n).length →
          t.bit Reg.CAM_STATUS 1 n = true ∧ t.bit Reg.CAM_EVENT 2 n = true) ∧
        (same = false ∨ ids ≠ List.range (s.camLanes n).length → t.bit Reg.CAM_STATUS 2 n = true) ∧
        RegsKept s t [Reg.CAM_STATUS.at n 0 0, Reg.CAM_EVENT.at n 0 0] ∧ MemKept s t) ∧
    (s.camUp n = true → s.camCarrier n = false →
      ∃ t, exec (.camLinkDown n) s = .next t ∧ t.f Reg.CAM_STATUS 0 3 n = 0 ∧ t.bit Reg.CAM_EVENT 1 n = true ∧
        (t.cam n).fifo = [] ∧ (t.cam n).block = none ∧ (t.cam n).nextNum = 0 ∧ MemKept s t) ∧
    (∀ last, s.camUp n = true → s.camGev n = false → (s.cam n).lastHeart = some last → 1000000000 ≤ s.since last →
      ∃ t, exec (.heartbeatTimeout n) s = .next t ∧ t.f Reg.CAM_STATUS 0 3 n = 0 ∧ t.bit Reg.CAM_EVENT 1 n = true ∧
        (t.cam n).fifo = [] ∧ (t.cam n).block = none ∧ MemKept s t) ∧
    (s.camEnabled n = true → s.camGev n = false → s.camCarrier n = true →
      ∃ t, exec (.heartbeatPacket n) s = .next t ∧ (t.cam n).lastHeart = some s.raw ∧ t.regs = s.regs ∧ MemKept s t) ∧
    (s.camUp n = true → s.camGev n = true → s.core.cp = .running →
      ∃ t, exec (.gevHeartbeat n) s = .next t ∧
        (t.mac (s.camMac n)).txq = (s.mac (s.camMac n)).txq ++ [{ cls := 2, tag := .gvcp n, data := [] }] ∧
        (t.cam n).beatSent = some s.raw ∧ t.regs = s.regs ∧ MemKept s t)

/-- Blocks and lines (R72, R83 to R85, R90, R93, R644): a header of the port's format opens the next block, one of
another format has it discarded and counted; a line takes a slot with the position of its trigger, or is dropped and
counted when none is free; pixels fill the line in progress, and a bad CRC marks the block; the end of a block closes
it; an event packet goes to queue 19 unchanged. Readings and choices of the model: notes/assumptions, entries 58, 60,
62 and 63. -/
def Obligations.CameraBlocksAndLines : Prop :=
  ∀ (s : State) (n : Fin 8),
    (s.camReady n = true →
      (∀ (fmt : BitVec 7) (width : Nat) (exposure : DWord), (s.cam n).block = none →
        (fmt.toNat = s.f Reg.CAM_FMT 17 7 n →
          ∃ t b, exec (.streamBlockHeader n fmt width exposure) s = .next t ∧ (t.cam n).block = some b ∧
            b.no = (s.cam n).blockNo ∧ b.width = width ∧ b.exposure = exposure ∧ b.seen = [] ∧ b.cur = none ∧
            (t.cam n).blockNo = (s.cam n).blockNo + 1 ∧ t.regs = s.regs ∧ MemKept s t) ∧
        (fmt.toNat ≠ s.f Reg.CAM_FMT 17 7 n →
          ∃ t, exec (.streamBlockHeader n fmt width exposure) s = .next t ∧ (t.cam n).block = none ∧
            (t.cam n).discard = true ∧ t.bit Reg.CAM_EVENT 5 n = true ∧
            RegsKept s t [Reg.CAM_CNT.at n 9 0, Reg.CAM_EVENT.at n 0 0] ∧ MemKept s t)) ∧
      (∀ b : CamBlock, (s.cam n).block = some b →
        (∀ (index : Nat) (tr : CamTrig), s.camGev n = false → b.cur = none → b.seen.length < s.blockLines n →
          s.camSource n ≠ 0 → s.camTrigOf n b b.seen.length = some tr →
          ((s.cam n).slots.length < s.camCap n → s.camAlign n = 1 →
            ∃ t, exec (.lineArrival n index) s = .next t ∧
              (∃ l, (t.cam n).slots = (s.cam n).slots ++ [l] ∧ l.block = b.id ∧ l.index = b.seen.length ∧
                l.aligned = posWord (tr.pos.toInt - s.camOffset n) ∧ l.trig = tr.pos ∧ l.time = s.now ∧ l.full = false) ∧
              RegsKept s t [Reg.CAM_CNT.at n 1 0, Reg.CAM_OCC.at n 0 0, Reg.CAM_STATUS.at n 0 0] ∧ MemKept s t) ∧
          (s.camCap n ≤ (s.cam n).slots.length →
            ∃ t, exec (.lineArrival n index) s = .next t ∧ (t.cam n).slots = (s.cam n).slots ∧
              t.bit Reg.CAM_EVENT 3 n = true ∧
              (t.rd Reg.CAM_CNT n 3).toNat = min ((s.rd Reg.CAM_CNT n 3).toNat + 1) 0xFFFFFFFF ∧
              RegsKept s t [Reg.CAM_CNT.at n 3 0, Reg.CAM_EVENT.at n 0 0] ∧ MemKept s t)) ∧
        (∀ (pix : List Nat) (i : Nat) (l : CamLine), b.cur = some i → (s.cam n).slots = [l] → l.block = b.id →
          l.index = i → l.full = false → l.got + pix.length < b.width * s.camComps n →
          (∃ t, exec (.streamPacket n (.cxp pix true)) s = .next t ∧
            (t.cam n).slots = [{ l with
              pix := placePix (camPlace (decide (s.camPattern n = 6)) b.width (s.camWidth n) (s.camComps n)) l.got pix l.pix,
              got := l.got + pix.length }] ∧ t.regs = s.regs ∧ MemKept s t) ∧
          (∃ t b', exec (.streamPacket n (.cxp pix false)) s = .next t ∧ (t.cam n).block = some b' ∧
            b'.marks.getLsbD 0 = true ∧ RegsKept s t [Reg.CAM_CNT.at n 2 0] ∧ MemKept s t)) ∧
        (∃ t, exec (.blockEnd n) s = .next t ∧ (t.cam n).block = none ∧ (t.cam n).discard = false ∧
          (∀ l ∈ (t.cam n).slots, l.block = b.id → l.full = true) ∧
          (t.rd Reg.CAM_CNT n 0).toNat = min ((s.rd Reg.CAM_CNT n 0).toNat + 1) 0xFFFFFFFF ∧ MemKept s t))) ∧
    (∀ body : List Byte, s.camUp n = true → s.qOn 19 = true → s.qPacket 19 = true → s.qDrop 19 = true →
      s.qLenOk 19 (8 + body.length) = true →
      ceilDiv (8 + body.length) (s.qSize 19) ≤ s.qCap 19 - (s.queue 19).tail →
      ceilDiv (8 + body.length) (s.qSize 19) ≤ s.qFree 19 →
      (s.queue 19).reserved (32 + n) (s.queue 19).seq = none →
      ∃ t it, exec (.cxpEventPacket n body) s = .next t ∧ it ∈ (t.queue 19).items ∧ it.published = true ∧
        it.len = 8 + body.length ∧ it.seq = (s.queue 19).seq ∧ it.data.drop 8 = body ∧
        RegsKept s t (Reg.QM_CNT.addr :: queueRegs 19) ∧ MemKept s t)

/-! ### Image pipelines (spec/04_image_pipeline.md) -/

/-- Units of work and configuration (R119, R123, R128, R131 to R133): the pipeline starts the work of the context that
comes next, and is idle again once its rows are written; an APPLY that passes its checks is pending until the
boundary, where the shadows come into force, and is refused with its status otherwise; an engine reset abandons the
work and marks the next rows. Readings and choices of the model: notes/assumptions, entries 66, 68, 79 and 80. -/
def Obligations.PipelinesRunAndApply : Prop :=
  ∀ (s : State) (p : Fin 8), s.on .ISP = true →
    (∀ (c : Fin 4) src own ahead frame, (s.ispPipe p).work = none → (∀ d, (s.ispCtx p d).waitBlock = false) →
      s.ispPick p = some c.val → s.nextWork p c = some (src, own, ahead, frame) →
      ∃ t w, exec (.stripeStart p) s = .next t ∧ (t.ispPipe p).work = some w ∧ w.ctx = c.val ∧ w.lines = own ∧
        w.frame = frame ∧ w.startAt = s.raw ∧ (t.ispPipe p).cur = c.val ∧ t.f Reg.ISP_PIPE_STATUS 0 2 p = c.val ∧
        t.bit Reg.ISP_PIPE_STATUS 2 p = false) ∧
    (∀ w s1, (s.ispPipe p).work = some w → s.putRows p (s.ispForce p w.ctx) w.rows = (s1, []) →
      ∃ t, exec (.stripeDone p) s = .next t ∧ (t.ispPipe p).work = none ∧ t.bit Reg.ISP_PIPE_STATUS 2 p = true ∧
        (t.rd Reg.ISP_CNT p 0).toNat = min ((s1.rd Reg.ISP_CNT p 0).toNat + 1) 0xFFFFFFFF ∧ MemKept s t) ∧
    (∀ w s1 r rest, (s.ispPipe p).work = some w → s.putRows p (s.ispForce p w.ctx) w.rows = (s1, r :: rest) →
      ∃ t, exec (.stripeDone p) s = .next t ∧ (t.ispPipe p).work = some { w with rows := r :: rest } ∧ MemKept s t) ∧
    (∀ (w : Writer) (c : Fin 4), s.takes w Reg.ISP_CTX_APPLY p c 0 = true →
      (s.applyCheck p c = none →
        ∃ t, exec (.apply w p c) s = .next t ∧ (t.ispCtx p c).pend = true ∧ t.bit Reg.ISP_CTX_STATUS 0 p c = true ∧
          t.f Reg.ISP_CTX_STATUS 16 16 p c = S_OK ∧ (t.ispCtx p c).force = (s.ispCtx p c).force ∧
          RegsKept s t [Reg.ISP_CTX_STATUS.at p c 0] ∧ MemKept s t) ∧
      (∀ st, s.applyCheck p c = some st → st < 65536 →
        ∃ t, exec (.apply w p c) s = .next t ∧ t.refusedWith st (Reg.ISP_CTX_APPLY.at p c 0) ∧
          t.f Reg.ISP_CTX_STATUS 16 16 p c = st ∧ t.bit Reg.ISP_EVENT (4 + c) p = true ∧ t.ispCtxs = s.ispCtxs ∧
          MemKept s t)) ∧
    (∀ c : Fin 4, (s.ispCtx p c).pend = true → s.atBoundary p c = true →
      ∃ t, exec (.applyBoundary p c) s = .next t ∧ (t.ispCtx p c).force = s.shadowWords p c ∧ (t.ispCtx p c).pend = false ∧
        (t.ispCtx p c).applying = true ∧ t.bit Reg.ISP_CTX_STATUS 0 p c = false ∧ MemKept s t) ∧
    (∀ c : Fin 4, (s.ispCtx p c).applying = true →
      ∃ t, exec (.applied p c) s = .next t ∧ (t.ispCtx p c).applying = false ∧ t.bit Reg.ISP_EVENT c p = true ∧
        RegsKept s t [Reg.ISP_EVENT.at p 0 0] ∧ MemKept s t) ∧
    (∃ t, exec (.ispEngineReset p) s = .next t ∧ (t.ispPipe p).work = none ∧
      (∀ c : Fin 4, (t.ispCtx p c).waitBlock = true ∧ (t.ispCtx p c).fresh = true ∧
        (t.ispCtx p c).force = (s.ispCtx p c).force) ∧
      (∀ o : Fin 4, (t.ispOut p o).gap = true ∧ (t.ispOut p o).rows = (s.ispOut p o).rows) ∧
      t.bit Reg.ISP_EVENT 9 p = true ∧ MemKept s t)

/-! ### Decoders (spec/05_decode_and_conditioning.md) -/

/-- Streams (R136, R145 to R159): the first packet of a picture begins it with its rows, and one that comes while the
sample before it waits is held; a sample with its data ends in the ring with the next number; an over-budget sample in
SERVICE mode is skipped and counted; a batch that is out of time closes; a report that waited is placed; an engine
reset abandons the pictures. Readings and choices of the model: notes/assumptions, entries 86 to 89. -/
def Obligations.DecoderStreamsMakeSamples : Prop :=
  ∀ (s : State) (n : Fin 32),
    (∀ i : RtpInfo, s.decOn n = true → s.macUp (s.decMac n) = true → i.first = true → (s.stream n).held = [] →
      ((s.stream n).pic = none → (s.stream n).reports = [] → (s.stream n).pads = 0 → i.spsOk = none →
        (s.stream n).spsBad = false → (s.stream n).waitIrap = false → i.width ≤ s.f Reg.DEC_STREAM_MAX 0 16 n →
        i.height ≤ s.f Reg.DEC_STREAM_MAX 16 16 n → i.marker = false → i.errRows = none →
        (∀ q, (s.stream n).lastRtp = some q → i.seq = q + 1) →
        ∃ t x, exec (.rtpPacket n i) s = .next t ∧ (t.stream n).pic = some x ∧ x.seq = (s.stream n).next ∧
          x.width = i.width ∧ x.height = i.height ∧ x.rows = i.rows.take i.height ∧ x.firstAt = s.raw ∧ x.ended = none ∧
          (t.stream n).lastRtp = some i.seq ∧ t.bit Reg.DEC_STREAM_STATUS 0 n = true ∧
          RegsKept s t [Reg.DEC_STREAM_STATUS.at n 0 0] ∧ MemKept s t) ∧
      (∀ x, (s.stream n).pic = some x → x.ended.isSome = true →
        ∃ t, exec (.rtpPacket n i) s = .next t ∧ (t.stream n).held = [(s.raw, i)] ∧ (t.stream n).pic = some x ∧
          t.regs = s.regs ∧ MemKept s t)) ∧
    (s.on .DEC = true →
      (∀ x, (s.stream n).pic = some x → (s.stream n).held = [] →
        (x.ended.isSome = true → s.overBudget x = false → (s.stream n).pads = 0 → s.decRoom n = true →
          s.readersOf 1 n ≠ [] →
          ∃ t y, exec (.sampleWritten n) s = .next t ∧ (t.stream n).ring = (s.stream n).ring ++ [y] ∧ y.rows = x.rows ∧
            y.width = x.width ∧ y.seq = (s.stream n).next ∧ y.time = x.time ∧ (t.stream n).pic = none ∧
            (t.stream n).next = (s.stream n).next + 1 ∧
            (t.rd Reg.DEC_STREAM_CNT n 0).toNat = min ((s.rd Reg.DEC_STREAM_CNT n 0).toNat + 1) 0xFFFFFFFF ∧ MemKept s t) ∧
        (x.mode = 0 → x.skipped = false → s.overBudget x = true →
          ∃ t, exec (.decodeBudgetExpiry n) s = .next t ∧
            (t.rd Reg.DEC_STREAM_CNT n 2).toNat = min ((s.rd Reg.DEC_STREAM_CNT n 2).toNat + 1) 0xFFFFFFFF ∧
            t.bit Reg.DEC_EVENT 1 = true ∧ MemKept s t)) ∧
      (∀ b, (s.stream n).batch = some b → s.f Reg.DEC_STREAM_BATCH 8 24 n * 1000 ≤ s.since b.2 →
        ∃ t, exec (.batchTimeout n) s = .next t ∧ (t.stream n).batch = none ∧
          (s.decRoom n = false → (t.stream n).pads = (s.stream n).pads + (s.batchSize n - b.1)) ∧
          (t.stream n).pic = (s.stream n).pic ∧ MemKept s t) ∧
      (∀ r rest, (s.stream n).reports = r :: rest → (s.stream n).held = [] → s.f Reg.DEC_REPORT_Q 0 14 ≠ 0 →
        s.qRoom (s.f Reg.DEC_REPORT_Q 0 14) (2048 + n) = true →
        ∃ t, exec (.reportPlaced n) s = .next t ∧ (t.stream n).reports = rest ∧
          (t.queue (s.f Reg.DEC_REPORT_Q 0 14)).items.length = (s.queue (s.f Reg.DEC_REPORT_Q 0 14)).items.length + 1 ∧
          MemKept s t) ∧
      (∃ t, exec .decEngineReset s = .next t ∧ t.bit Reg.DEC_EVENT 3 = true ∧ MemKept s t ∧
        (s.bit Reg.DEC_STREAM_CFG 0 n = true → (t.stream n).pic = none ∧ (t.stream n).held = [] ∧
          (t.stream n).waitIrap = s.decHevc n)))

/-! ### Scheduling (spec/10_scheduling_and_preemption.md) -/

/-- Tiles begin, yield and commit (R273, R289, R296 to R299, R304): at a boundary the engine, after its FINAL slots
have become FREE and a pausing context has begun its save, starts the next tile of the context that comes first, where
that context is resident, or the spire is empty and it has no save area; a context that must give way runs its tile to
the end; a commit whose staged writes have landed leaves the engine at a boundary, with every slot of the tile one
step on, and a verdict in queue 20. Readings and choices of the model: notes/assumptions, entries 113, 115 and 121. -/
def Obligations.EnginesStartAndCommitTiles : Prop :=
  ∀ (s : State) (e : Fin 42),
    (∀ (b : State) (h u : Nat) (j : Job) (x : TileD × Nat × List Nat × Bool), s.engFree e = true →
      b = ((s.forAll (s.boundaryJobs e) (fun h s => s.freeFinal h)).pauseAt e).noteElig → (b.engine e).switch = none →
      b.firstCtx (b.candidates e) = some (h, u) → b.jobOf h = some j → b.nextTile h j u = some x →
      (isSpire e = false ∨ (b.engine e).resident = some h ∨
        ((b.engine e).resident = none ∧ (b.ctx h u).saved = false)) →
      ∃ t r, exec (.tileStart e) s = .next t ∧ (t.engine e).tile = some r ∧ r.handle = h ∧ r.tile = x.2.1 ∧
        r.slots = x.2.2.1 ∧ r.newSet = x.2.2.2 ∧ r.todo = x.1.prog ∧ r.startAt = b.raw ∧ r.writes = [] ∧ r.ended = false ∧
        (t.engine e).resident = (if isSpire e then some h else none) ∧ MemKept b t ∧ t.encs = b.encs ∧ t.wt = b.wt) ∧
    (s.on .SPR = true → isSpire e = true → s.noteElig.preemptWanted e = true → (s.engine e).switch = none →
      (∀ r, (s.engine e).tile = some r → r.susp = false) →
      ∃ t, exec (.preemptionRequest e) s = .next t ∧ (t.engine e).preempt = true ∧ (t.engine e).tile = (s.engine e).tile ∧
        (t.engine e).resident = (s.engine e).resident ∧ t.job.jobs = s.job.jobs ∧ MemKept s t) ∧
    (∀ (r : TileRun) (s1 : State), (s.engine e).tile = some r → s.on (engBlock e) = true → r.susp = false →
      r.ended = true → (s.engine e).resetting = false → s.writeBack e r r.writes = (s1, none) → r.stats = [] →
      r.sends = [] → r.releases = [] → r.gathers = [] → (s1.engine e).swapPending = false → (s1.engine e).hung = none →
      r.slots.Nodup → (s1.jobOf r.handle).isSome = true →
      ∃ t, exec (.tileCommit e) s = .next t ∧ (t.engine e).tile = none ∧ MemKept s1 t ∧ t.encs = s1.encs ∧ t.wt = s1.wt ∧
        (∀ k, k ∈ r.slots → (t.slotOf r.handle k).step r.tile = (s1.slotOf r.handle k).step r.tile + 1) ∧
        (∀ v, r.verdicts = [v] → v.slot ∈ r.slots → (s1.slotOf r.handle v.slot).padding = false →
          s1.qRoom 20 (1024 + r.handle) = true →
          (t.queue 20).items.map (fun i => i.data) = (s1.queue 20).items.map (fun i => i.data) ++
            [fitBytes (s1.qSize 20) (verdictEntry (s1.slotOf r.handle v.slot) v r.handle)] ∧
          (v.kind ≠ 4 → (t.slotOf r.handle v.slot).st = .final)))

/-- Contexts leave and come back (R298, R300, R302, R303): the save of a pause ends with the spire empty and the
context in its save area; a restore whose reads are good makes the context resident. Readings and choices of the
model: notes/assumptions, entries 110, 111 and 118. -/
def Obligations.ContextsSaveAndRestore : Prop :=
  ∀ (s : State) (e : Fin 34) (h : Nat), s.on .SPR = true →
    ((s.engine e).switch = some (.saving 2) → (s.engine e).resident = some h → s.host.swapWait = none →
      ∃ t, exec (.contextSaveDone e .clean) s = .next t ∧ (t.engine e).resident = none ∧ (t.engine e).switch = none ∧
        (∀ u, u ∈ s.ctxUnits e h → u < 64 → (t.ctx h u).saved = true) ∧ t.encs = s.encs ∧ t.wt = s.wt) ∧
    (∀ (up : Option ReadUpset) (s1 : State), (s.engine e).switch = some (.restoring h) →
      (s.chargeSwitch e).readSave e h up = (s1, true) →
      ∃ t, exec (.contextRestoreDone e up) s = .next t ∧ (t.engine e).resident = some h ∧ (t.engine e).switch = none ∧
        (∀ u, u ∈ s1.ctxUnits e h → u < 64 → (t.ctx h u).saved = false) ∧ MemKept s1 t ∧ t.encs = s1.encs ∧ t.wt = s1.wt)

/-- Engines are reset, replaced and adopted (R171, R190, R191, R316, R317, R319, R570): a reset abandons the tile in
progress and its end is counted; the first hang of a tile resets its engine and the tile will run again; the logical
spire of a spire with a lasting fault moves to the spare at a boundary; a moon engine's work goes to its partner.
Readings and choices of the model: notes/assumptions, entries 120 and 122. -/
def Obligations.EnginesResetSwapAndAreAdopted : Prop :=
  ∀ s : State,
    (∀ (w : Writer) (e : Fin 34), s.takes w Reg.SPR_CTRL e 0 0 = true → (s.engine e).resetting = false →
      ∃ t, exec (.sprEngineReset w e) s = .next t ∧ (t.engine e).resetting = true ∧ (t.engine e).tile = none ∧
        t.encs = s.encs ∧ t.wt = s.wt ∧ MemKept s t) ∧
    (∀ (w : Writer) (m : Fin 8), s.takes w Reg.MOON_CTRL m 0 0 = true → (s.engine (34 + m)).resetting = false →
      ∃ t, exec (.moonEngineReset w m) s = .next t ∧ (t.engine (34 + m)).resetting = true ∧
        (t.engine (34 + m)).tile = none ∧ t.encs = s.encs ∧ t.wt = s.wt ∧ MemKept s t) ∧
    (∀ e : Fin 42, s.on (engBlock e) = true → (s.engine e).resetting = true → (s.engine e).switch = none →
      ∃ t, exec (.engineResetDone e) s = .next t ∧ (t.engine e).resetting = false ∧
        AMap.look t.memory.tlb e = none ∧
        (if isSpire e then t.bit Reg.SPR_EVENT 5 e = true else t.bit Reg.MOON_EVENT 5 (e - 34) = true) ∧
        t.job.jobs = s.job.jobs ∧ t.encs = s.encs ∧ t.wt = s.wt ∧ MemKept s t) ∧
    (∀ (e : Fin 42) (r : TileRun), (s.engine e).tile = some r → s.on (engBlock e) = true → (s.engine e).hung = none →
      (s.engine e).resetting = false → s.hangNs ((s.imgOf r).tile r.tile).tokens < s.since r.startAt →
      ∃ t, exec (.hangTimeout e) s = .next t ∧ (t.engine e).hung = some (r.handle, r.tile, s.fault.seq) ∧
        (t.engine e).resetting = true ∧ (t.engine e).tile = none ∧ t.fault.seq = s.fault.seq + 1 ∧ t.encs = s.encs ∧
        MemKept s t) ∧
    (∀ (e : Fin 34) (p : Nat), s.on .SPR = true → s.bit Reg.SPR_STATUS 3 e = true → s.bit Reg.SPR_ID 7 e = true →
      (s.engine e).tile = none → (s.engine e).switch = none → (s.engine e).resetting = false →
      (s.engine e).resident = none → s.spareSpire = some p →
      ∃ t, exec (.lastingFaultSwap e) s = .next t ∧ t.f Reg.SPR_ID 0 8 e = 32 ∧
        t.f Reg.SPR_ID 0 8 p = 128 + s.f Reg.SPR_ID 0 5 e ∧ t.bit Reg.QM_SCHED_EVENT 3 = true ∧ MemKept s t) ∧
    (∀ (m : Fin 8), s.on .MOON = true → s.bit Reg.MOON_STATUS 3 m = true → s.bit Reg.MOON_STATUS 3 (moonPartner m) = false →
      s.bit Reg.MOON_STATUS 4 (moonPartner m) = false → (s.engine (34 + moonPartner m)).tile = none →
      ∃ t, exec (.moonAdoption m) s = .next t ∧ t.bit Reg.MOON_STATUS 4 (moonPartner m) = true ∧
        t.bit Reg.MOON_EVENT 6 (moonPartner m) = true ∧ (t.engine (34 + m)).tile = none ∧
        t.rd Reg.MOON_CNT (moonPartner m) 7 =
          (if s.rd Reg.MOON_CNT (moonPartner m) 7 = 0xFFFFFFFF then 0xFFFFFFFF else s.rd Reg.MOON_CNT (moonPartner m) 7 + 1) ∧
        MemKept s t)

/-- Parts, windows and replies (R290, R292, R297, R302, R310, R500): the first part that waits and whose rows are
there takes the lowest FREE slot; at a new accounting window every context on a shared spire receives its share; a
reply that has landed in its stream is taken from the queue and lets its context go on. Readings and choices of the
model: notes/assumptions, entries 107, 117 and 123. -/
def Obligations.PartsWindowsAndReplies : Prop :=
  ∀ s : State,
    (∀ (h : Fin 1024) (j : Job) (p : Nat × Comet) (f : AMap Word) (k : Nat), s.on .QM = true → s.jobOf h = some j →
      j.st = .running → s.joinBoundary h j = true →
      (s.waiting j).findSome? (fun p => (s.partFirst h j p.2).map (fun f => (p, f))) = some (p, f) →
      j.freeSlot = some k → j.switch = [] → s.comet p.1 = some p.2 →
      ∃ t, exec (.partJoin h) s = .next t ∧
        t.jobOf h = some { j with
          slots := AMap.put j.slots k { taken := true, comet := p.1, cseq := p.2.seq, ringFirst := f }, parts := j.parts + 1 } ∧
        t.comet p.1 = some { p.2 with joined := true, job := h } ∧ (∀ n, n ≠ p.1 → t.comet n = s.comet n) ∧
        t.encs = s.encs ∧ MemKept s t) ∧
    (s.on .QM = true → s.now.toNat / s.windowNs ≠ s.job.window →
      ∃ t, exec .accountingWindow s = .next t ∧ t.job.window = s.now.toNat / s.windowNs ∧
        (∀ h u j, (h, u) ∈ s.allCtxs → u < 64 → s.jobOf h = some j → s.sharedUnit u = true →
          (t.ctx h u).budget = j.share * s.windowNs / 1024) ∧
        t.job.jobs = s.job.jobs ∧ t.encs = s.encs ∧ t.wt = s.wt ∧ MemKept s t) ∧
    (∀ (h : Fin 1024) (u : Fin 32) (m : Nat × Nat × List Byte) (s1 : State), s.on .FAB = true → s.replyFor h u = some m →
      s.landMessage h m.2.2 = (s1, true) →
      ∃ t, exec (.remoteReplyLand h u) s = .next t ∧ (t.ctx h u).remoteDone = true ∧
        t.fab.inbox = s1.fab.inbox.erase m ∧ MemKept s1 t ∧ t.encs = s1.encs ∧ t.wt = s1.wt)

/-! ### Tile instructions (spec/09_layers_and_tiling.md) -/

/-- Control instructions (R265, R270, R271, R273, R302, R304): NOP passes; WAIT_ROWS passes once the rows are there
and holds before; a tile takes all its semaphores at once or leaves the engine to wait for them; a released semaphore
is noted for the commit; the last tile at a barrier lets all pass; a send is noted for the commit; a reply that has
landed lets the tile go on, an outstanding one sends the context to wait; a verdict is by the marks, by the class map,
or none, and a provisional one only where it is a class. Readings and choices of the model: notes/assumptions, entries
106 and 117. -/
def Obligations.TileControlInstructionsAdvance : Prop :=
  ∀ (s : State) (e : Fin 42) (r : TileRun) (i : TileInstr),
    (s.turn e 0x00 = some (r, i) →
      ∃ t, exec (.tileNop e) s = .next t ∧ Passed s t e r r.pass ∧ t.regs = s.regs) ∧
    (s.turn e 0x01 = some (r, i) →
      (s.stepRowsIn r i.srcA.toNat i.rows.toNat = true →
        ∃ t, exec (.waitRows e) s = .next t ∧ Passed s t e r r.pass ∧ t.regs = s.regs) ∧
      (s.stepRowsIn r i.srcA.toNat i.rows.toNat = false → exec (.waitRows e) s = .next s)) ∧
    (s.turn e 0x02 = some (r, i) → r.sems.contains (i.arg1.toNat % 256) = false →
      (((s.imgOf r).tile r.tile).acquires.all (fun n => (AMap.look s.job.sems n).isNone) = true →
        ∃ t, exec (.semAcquire e) s = .next t ∧
          Passed s t e r { r.pass with sems := ((s.imgOf r).tile r.tile).acquires } ∧ t.regs = s.regs ∧
          (∀ n, n ∈ ((s.imgOf r).tile r.tile).acquires → AMap.look t.job.sems n = some r.handle) ∧
          (∀ n, n ∉ ((s.imgOf r).tile r.tile).acquires → AMap.look t.job.sems n = AMap.look s.job.sems n)) ∧
      (((s.imgOf r).tile r.tile).acquires.all (fun n => (AMap.look s.job.sems n).isNone) = false →
        (∀ p, p ∈ s.job.ctxs → p.2.saved = false) →
        ∃ t, exec (.semAcquire e) s = .next t ∧ (t.engine e).tile = none ∧
          (t.tileCtx r).semWait = ((s.imgOf r).tile r.tile).acquires ∧ (t.tileCtx r).nextTile = some r.tile ∧
          t.job.sems = s.job.sems ∧ t.job.jobs = s.job.jobs ∧ t.encs = s.encs ∧ MemKept s t)) ∧
    (s.turn e 0x03 = some (r, i) →
      ∃ t, exec (.semRelease e) s = .next t ∧
        Passed s t e r { r.pass with releases := r.releases ++ [i.arg1.toNat % 256] } ∧ t.regs = s.regs ∧
        t.job.sems = s.job.sems) ∧
    (s.turn e 0x04 = some (r, i) → r.tile ∉ AMap.get s.job.barriers [] (64 * r.handle + i.arg1.toNat % 64) →
      let arr := AMap.get s.job.barriers [] (64 * r.handle + i.arg1.toNat % 64) ++ [r.tile]
      (((s.imgOf r).barrierTiles i.arg1.toNat).all (fun k => arr.contains k) = true →
        ∃ t, exec (.barrier e) s = .next t ∧ Passed s t e r r.pass ∧ t.regs = s.regs ∧
          AMap.look t.job.barriers (64 * r.handle + i.arg1.toNat % 64) = none) ∧
      (((s.imgOf r).barrierTiles i.arg1.toNat).all (fun k => arr.contains k) = false →
        ∃ t, exec (.barrier e) s = .next t ∧ t.job.engines = s.job.engines ∧ t.regs = s.regs ∧ t.mem = s.mem ∧
          AMap.look t.job.barriers (64 * r.handle + i.arg1.toNat % 64) = some arr)) ∧
    (s.turn e 0x05 = some (r, i) →
      ∃ t, exec (.remoteSend e) s = .next t ∧
        Passed s t e r { r.pass with sends := r.sends ++ [(i.srcA.toNat, i.arg0.toNat, i.arg1.toNat)] } ∧
        t.regs = s.regs ∧ t.fab = s.fab) ∧
    (s.turn e 0x06 = some (r, i) →
      ((s.tileCtx r).remote = some (i.arg1.toNat, i.dst.toNat) → (s.tileCtx r).remoteDone = true →
        ∃ t r', exec (.remoteWait e) s = .next t ∧ Passed s t e r r' ∧ t.regs = s.regs ∧ (t.tileCtx r).remote = none ∧
          r'.progress = r.progress ++
            r.slots.map (fun n => (n, s.instrKey r, (s.imgOf r).heightOf i.dst.toNat))) ∧
      ((s.tileCtx r).remote = none →
        ∃ t, exec (.remoteWait e) s = .next t ∧ (t.engine e).tile = none ∧
          (t.tileCtx r).remote = some (i.arg1.toNat, i.dst.toNat) ∧ (t.tileCtx r).remoteDone = false ∧
          (t.tileCtx r).nextTile = some r.tile ∧ t.job.jobs = s.job.jobs ∧ t.encs = s.encs ∧ MemKept s t)) ∧
    (∀ (k n : Nat) (s1 : State), s.readIndices e r i.srcA.toNat r.slots = (s1, some [(k, n)]) →
      (s.turn e 0x07 = some (r, i) →
        ∃ t r', exec (.verdict e) s = .next t ∧ Passed s1 t e r r' ∧
          (fld (s1.slotOf r.handle k).marks 0 16 &&& (s1.imgOf r).markFailsafe ≠ 0 →
            r'.verdicts = r.verdicts ++ [{ slot := k, kind := 2, cls := 0, index := n }]) ∧
          (fld (s1.slotOf r.handle k).marks 0 16 &&& (s1.imgOf r).markFailsafe = 0 →
            (∀ c, (s1.imgOf r).classMap[n]? = some c →
              r'.verdicts = r.verdicts ++ [{ slot := k, kind := 1, cls := c, index := n }]) ∧
            ((s1.imgOf r).classMap[n]? = none →
              r'.verdicts = r.verdicts ++ [{ slot := k, kind := 3, cls := 0, index := n }]))) ∧
      (s.turn e 0x08 = some (r, i) →
        ∃ t r', exec (.provisional e) s = .next t ∧ Passed s1 t e r r' ∧
          (∀ c, fld (s1.slotOf r.handle k).marks 0 16 &&& (s1.imgOf r).markFailsafe = 0 →
            (s1.imgOf r).classMap[n]? = some c →
            r'.verdicts = r.verdicts ++ [{ slot := k, kind := 4, cls := c, index := n }]) ∧
          (fld (s1.slotOf r.handle k).marks 0 16 &&& (s1.imgOf r).markFailsafe ≠ 0 ∨
            (s1.imgOf r).classMap[n]? = none → r'.verdicts = r.verdicts)))

/-- Transfers of a tile (R165, R192, R202, R224, R233, R248, R270, R273, R291): a load whose reads end well stages
weights in the idle half, activations in the windows, or a bank with its norms; STORE and ZERO stage rows and GATHER
the window of a part with its sample header; nothing reaches memory before the commit. An uncorrectable read of tile
SRAM faults the job. Readings and choices of the model: notes/assumptions, entries 100, 101, 105 and 107. -/
def Obligations.TileTransfersStageTheirRows : Prop :=
  ∀ (s : State) (e : Fin 42) (r : TileRun) (i : TileInstr),
    (∀ (up : Option ReadUpset) (s1 s2 : State) (l : List Byte) (sc : List Word), s.turn e 0x10 = some (r, i) →
      s.dmaRead e r.handle up (sectorsOf (i.arg0.toNat * 64)) (s.streamVa r i.srcA.toNat) (i.arg0.toNat * 64) 0 =
        (s1, .done l) →
      s1.readScales e r i.srcA.toNat (i.arg0.toNat * 64 * 8 /
        max 1 (32 * fmtBits ((s.imgOf r).tensorOf i.srcA.toNat).fmt)) = (s2, .ok sc) →
      ∃ t, exec (.loadWeights e .clean up) s = .next t ∧ Passed s2 t e r r.pass ∧
        { stream := r.stagedAs i.srcA.toNat, bytes := l, scales := sc } ∈ (t.tileCtx r).idle ∧
        (t.tileCtx r).active = (s2.tileCtx r).active) ∧
    (∀ (up : Option ReadUpset) (s1 : State), s.turn e 0x11 = some (r, i) →
      s.loadRows e r i.srcA.toNat up (s.rowsToLoad r i.srcA.toNat i.rows.toNat) = (s1, true) →
      ∃ t, exec (.loadAct e .clean up) s = .next t ∧ Passed s1 t e r r.pass ∧ t.job.ctxs = s1.job.ctxs) ∧
    (∀ (up : Option ReadUpset) (s1 s2 : State) (l m : List Byte), s.turn e 0x13 = some (r, i) →
      let d := (s.imgOf r).stream i.srcA.toNat
      let ten := (s.imgOf r).tensorOf i.srcA.toNat
      s.dmaRead e r.handle up (sectorsOf (i.arg0.toNat * d.rowStride))
        (s.streamVa r i.srcA.toNat + i.arg1.toNat * 65536 * d.rowStride) (i.arg0.toNat * d.rowStride) 0 = (s1, .done l) →
      s1.dmaRead e r.handle none (sectorsOf (4 * i.arg0.toNat))
        (s1.streamVa r i.srcA.toNat + ten.w * ten.h * d.rowStride + 4 * (i.arg1.toNat * 65536)) (4 * i.arg0.toNat) 0 =
        (s2, .done m) →
      ∃ t, exec (.loadBank e .clean up) s = .next t ∧ Passed s2 t e r r.pass ∧
        { stream := r.stagedAs i.srcA.toNat, bytes := l, entry := i.arg1.toNat * 65536
          norms := (upTo i.arg0.toNat).map (fun k => BitVec.ofNat 32 (natLE ((m.drop (4 * k)).take 4))) } ∈
          (t.tileCtx r).idle) ∧
    (∀ k : Nat, s.turn e 0x12 = some (r, i) → r.slots = [k] →
      ∃ t r', exec (.store e) s = .next t ∧ Passed s t e r r' ∧ t.regs = s.regs ∧ r.writes <+: r'.writes ∧
        r'.progress = r.progress ++ [(k, s.instrKey r, max (s.doneRows r k)
          (min (s.srcOf r i.srcA.toNat k).rows.length ((s.imgOf r).tensorOf i.dst.toNat).h))]) ∧
    (∀ (k : Nat) (j : Job), s.turn e 0x14 = some (r, i) → r.slots = [k] → s.jobOf r.handle = some j →
      let input := (j.img.stream i.srcA.toNat).input
      let total := (j.img.input input).windowRows
      let w := s.windowOf r.handle j (j.slot k) input
      let goal := min total (min (s.windowRowsIn r.handle j (j.slot k) input) (((j.slot k).step r.tile + 1) * i.rows.toNat))
      ∃ t r', exec (.gather e) s = .next t ∧ (t.engine e).tile = some r' ∧ r'.todo = r.todo.tail ∧
        r.writes <+: r'.writes ∧ (t.slotOf r.handle k) = s.sampleHeader (j.slot k) input goal total w ∧
        (goal = total → r'.gathers = r.gathers ++ [(k, input)]) ∧ t.regs = s.regs ∧ t.encs = s.encs ∧ MemKept s t) ∧
    (∀ (k : Nat) (b : List Byte), s.turn e 0x15 = some (r, i) → r.slots = [k] → s.doneRows r k = 0 →
      (s.slotOf r.handle k).step r.tile = 0 → i.rows.toNat = 1 → ((s.imgOf r).tensorOf i.dst.toNat).h ≠ 0 →
      b = packCodes ((s.imgOf r).tensorOf i.dst.toNat).fmt
        (List.replicate ((s.imgOf r).tensorOf i.dst.toNat).rowElems 0) →
      ∃ t r', exec (.zero e) s = .next t ∧ Passed s t e r r' ∧ t.regs = s.regs ∧
        r'.progress = r.progress ++ [(k, s.instrKey r, 1)] ∧
        r'.writes = r.writes ++
          [{ stream := i.dst.toNat, slot := k, row := 0, va := s.rowVa r i.dst.toNat k 0, bytes := b }]) ∧
    (∀ (up : Option ReadUpset) (j : Job), s.turn e 0x11 = some (r, i) → s.jobOf r.handle = some j → j.st.inRun = true →
      ∃ t j', exec (.loadAct e .uncorrectable up) s = .next t ∧ t.jobOf r.handle = some j' ∧ j'.st = .faulted ∧
        j'.lastStatus = S_UNCORRECTABLE ∧ (t.engine e).tile = none ∧ t.encs = s.encs ∧ MemKept s t)

/-- Instructions that compute (R209, R223, R225, R235 to R252, R269): with clean reads of SRAM and matching tags each
computes the rows of a slot that its sources allow, stages them, notes how far it has come and passes; an instruction
on rows goes as far as the rows of its source; a mismatch of tags faults the job with S_SCALE_SEQ. Readings and
choices of the model: notes/assumptions, entries 95 to 98, 104 and 112. -/
def Obligations.TileInstructionsComputeReadyRows : Prop :=
  ∀ (s : State) (e : Fin 42) (r : TileRun) (i : TileInstr) (k : Nat), r.slots = [k] →
    (∀ p, p ∈ [(0x20, Instr.conv e .clean), (0x21, Instr.convDw e .clean), (0x22, Instr.matmul e .clean)] →
      s.turn e p.1 = some (r, i) → s.tagsOf r i = none → i.arg1 = 0 →
      ∃ t r' n, exec p.2 s = .next t ∧ Passed s t e r r' ∧ r.writes <+: r'.writes ∧ s.doneRows r k ≤ n ∧
        r'.progress = r.progress ++ [(k, s.instrKey r, n)]) ∧
    (∀ p, p ∈ [(0x23, Instr.avgpool e .clean), (0x24, Instr.attnScore e .clean), (0x25, Instr.attnValue e .clean),
        (0x26, Instr.dist e .clean)] →
      s.turn e p.1 = some (r, i) → s.tagsOf r i = none →
      ∃ t r' n, exec p.2 s = .next t ∧ Passed s t e r r' ∧ r.writes <+: r'.writes ∧ s.doneRows r k ≤ n ∧
        r'.progress = r.progress ++ [(k, s.instrKey r, n)]) ∧
    (∀ p, p ∈ [(0x32, Instr.add e .clean), (0x33, Instr.sub e .clean), (0x34, Instr.mul e .clean), (0x35, Instr.max e .clean),
        (0x36, Instr.min e .clean), (0x37, Instr.nearestUp e .clean), (0x38, Instr.maxpool e .clean),
        (0x39, Instr.norm e .clean), (0x3D, Instr.mergeList e .clean)] →
      s.turn e p.1 = some (r, i) →
      ∃ t r' n, exec p.2 s = .next t ∧ Passed s t e r r' ∧ r.writes <+: r'.writes ∧ s.doneRows r k ≤ n ∧
        r'.progress = r.progress ++ [(k, s.instrKey r, n)]) ∧
    (∀ p, p ∈ [(0x30, Instr.requant e .clean), (0x31, Instr.activate e .clean), (0x3A, Instr.softmax e .clean),
        (0x3B, Instr.argmax e .clean), (0x3C, Instr.topk e .clean)] →
      s.turn e p.1 = some (r, i) →
      ∃ t r', exec p.2 s = .next t ∧ Passed s t e r r' ∧ r.writes <+: r'.writes ∧
        r'.progress = r.progress ++ [(k, s.instrKey r, max (s.doneRows r k)
          (min (s.srcOf r i.srcA.toNat k).rows.length ((s.imgOf r).tensorOf i.srcA.toNat).h))]) ∧
    (s.turn e 0x3F = some (r, i) →
      ∃ t r', exec (.copy e .clean) s = .next t ∧ Passed s t e r r' ∧ t.regs = s.regs ∧ r.writes <+: r'.writes ∧
        r'.progress = r.progress ++ [(k, s.instrKey r, max (s.doneRows r k)
          (min (s.srcOf r i.srcA.toNat k).rows.length ((s.imgOf r).tensorOf i.dst.toNat).h))]) ∧
    (∀ j : Job, s.turn e 0x3E = some (r, i) → s.jobOf r.handle = some j →
      min ((s.imgOf r).tensorOf i.dst.toNat).h (s.rowsIn r.handle j k i.srcA.toNat) ≤
        ((s.tileCtx r).win i.srcA.toNat k).length →
      ∃ t r', exec (.fold e .clean) s = .next t ∧ Passed s t e r r' ∧ r.writes <+: r'.writes ∧
        r'.progress = r.progress ++ [(k, s.instrKey r, max (s.doneRows r k)
          (min ((s.tileCtx r).win i.srcA.toNat k).length ((s.imgOf r).tensorOf i.dst.toNat).h))]) ∧
    (∀ (f : TagFault) (j : Job), s.turn e 0x20 = some (r, i) → s.tagsOf r i = some f → s.jobOf r.handle = some j →
      j.st.inRun = true →
      ∃ t j', exec (.conv e .clean) s = .next t ∧ t.jobOf r.handle = some j' ∧ j'.st = .faulted ∧
        j'.lastStatus = S_SCALE_SEQ ∧ (t.engine e).tile = none ∧ t.encs = s.encs ∧ MemKept s t)

/-- What the element-wise instructions stage (R212, R237 to R239), shown on tensors of one element with an FP32
output: ADD, SUB and MUL give the rounded result, MAX and MIN the larger and smaller, ACTIVATE the function of its
ACT, REQUANT the value as it is, and to INT8 the code of R212. Readings and choices of the model: notes/assumptions,
entries 91 and 92. -/
def Obligations.ElementwiseValuesAreStaged : Prop :=
  ∀ (s : State) (e : Fin 42) (r : TileRun) (i : TileInstr) (k : Nat), r.slots = [k] → s.doneRows r k = 0 → i.cgrp = 0 →
    i.stat = 0 →
    let g := s.imgOf r
    let a := g.tensorOf i.srcA.toNat
    let d := g.tensorOf i.dst.toNat
    let va := (s.srcOf r i.srcA.toNat k).val 0 0 0
    let vb := (s.srcOf r i.srcB.toNat k).val 0 0 0
    let staged (r' : TileRun) (l : List Byte) : Prop :=
      r'.writes = r.writes ++
        [{ stream := i.dst.toNat, slot := k, row := 0, va := s.rowVa r i.dst.toNat k 0, bytes := l }]
    a.w = 1 → a.h = 1 → a.c = 1 → (s.srcOf r i.srcA.toNat k).rows.length = 1 →
    (d.fmt = 7 →
      ((g.tensorOf i.srcB.toNat).w = 1 → (g.tensorOf i.srcB.toNat).h = 1 → (g.tensorOf i.srcB.toNat).c = 1 →
        (s.srcOf r i.srcB.toNat k).rows.length = 1 →
        (s.turn e 0x32 = some (r, i) → ∃ t r', exec (.add e .clean) s = .next t ∧ Passed s t e r r' ∧
          staged r' (bytesLE 4 (fAdd (Rnd.of i.rnd) va vb).1.toNat)) ∧
        (s.turn e 0x33 = some (r, i) → ∃ t r', exec (.sub e .clean) s = .next t ∧ Passed s t e r r' ∧
          staged r' (bytesLE 4 (fSub (Rnd.of i.rnd) va vb).1.toNat)) ∧
        (s.turn e 0x34 = some (r, i) → ∃ t r', exec (.mul e .clean) s = .next t ∧ Passed s t e r r' ∧
          staged r' (bytesLE 4 (fMul (Rnd.of i.rnd) va vb).1.toNat)) ∧
        (s.turn e 0x35 = some (r, i) → ∃ t r', exec (.max e .clean) s = .next t ∧ Passed s t e r r' ∧
          staged r' (bytesLE 4 (fMax va vb).toNat)) ∧
        (s.turn e 0x36 = some (r, i) → ∃ t r', exec (.min e .clean) s = .next t ∧ Passed s t e r r' ∧
          staged r' (bytesLE 4 (fMin va vb).toNat))) ∧
      (s.turn e 0x31 = some (r, i) → ∃ t r', exec (.activate e .clean) s = .next t ∧ Passed s t e r r' ∧
        staged r' (bytesLE 4 (actFn i.act.toNat (g.layer i.layer.toNat).p0 (g.layer i.layer.toNat).p1 va).toNat)) ∧
      (s.turn e 0x30 = some (r, i) → ∃ t r', exec (.requant e .clean) s = .next t ∧ Passed s t e r r' ∧
        staged r' (bytesLE 4 va.toNat))) ∧
    (d.fmt = 1 → s.turn e 0x30 = some (r, i) → ∃ t r', exec (.requant e .clean) s = .next t ∧ Passed s t e r r' ∧
      staged r' [BitVec.ofNat 8 (requantInt 1 (g.qparam d.qparam) i.qrnd va).1])

/-! ### Lanes, MACs and links (spec/17_serial_lanes_and_fabric.md) -/

/-- Lanes train, lock and reset (R485, R487 to R491, R502, R504, R508, R567): a trained Ethernet lane is ACTIVE with
the precoding that its partner asked for; a Kalinamo lane reports the peer, and a wrong peer holds the link down; a
timeout starts training again; lock gained and lost raises its event, and the loss of a MAC's lane takes its link
down; activity wakes a DEEP lane; a link reset of a Kalinamo lane sends the link back to training with its replay
buffer as it was. Readings and choices of the model: notes/assumptions, entries 147, 153 and 154. -/
def Obligations.LanesTrainLockAndReset : Prop :=
  ∀ (s : State) (l : Fin 32), s.on .LN = true →
    (∀ (t0 : DWord) (peer : Fin 16) (precode : BitVec 2), (s.lane l).training = some t0 → s.cageHeld l = false →
      (s.laneOwner l = 2 →
        ∃ t, exec (.trainingDone l peer precode) s = .next t ∧ t.laneState l = 0 ∧ t.bit Reg.LN_LANE_STATUS 3 l = true ∧
          t.bit Reg.LN_LANE_STATUS 4 l = false ∧ (t.lane l).training = none ∧
          t.f Reg.LN_LANE_CFG 4 2 l = precode.toNat ∧
          RegsKept s t [Reg.LN_LANE_STATUS.at l 0 0, Reg.LN_LANE_CFG.at l 0 0] ∧ MemKept s t) ∧
      (∀ j : Fin 4, s.laneOwner l = 3 → s.laneOwnerId l = j.val → peer.val ≠ s.f Reg.FAB_LINK_CFG 12 4 j →
        ∃ t, exec (.trainingDone l peer precode) s = .next t ∧ t.laneState l = 0 ∧ t.linkState j = 0 ∧
          t.f Reg.FAB_LINK_STATUS 28 4 j = peer.val ∧ t.bit Reg.FAB_EVENT 5 = true ∧
          RegsKept s t [Reg.LN_LANE_STATUS.at l 0 0, Reg.FAB_LINK_STATUS.at j 0 0, Reg.FAB_EVENT.addr] ∧ MemKept s t) ∧
      (∀ j : Fin 4, s.laneOwner l = 3 → s.laneOwnerId l = j.val → peer.val = s.f Reg.FAB_LINK_CFG 12 4 j →
        (∀ k : Fin 4, 16 + 4 * j.val + k.val = l.val ∨ s.bit Reg.LN_LANE_STATUS 3 (16 + 4 * j.val + k.val) = true) →
        s.linkUp j = false → (s.link j).downSeq = none →
        ∃ t, exec (.trainingDone l peer precode) s = .next t ∧ t.linkState j = 2 ∧ t.bit Reg.FAB_EVENT 0 = true ∧
          (t.link j).retrain = none ∧ (t.link j).resync = true ∧ (t.link j).replay = (s.link j).replay ∧
          (t.link j).txSeq = (s.link j).txSeq ∧ MemKept s t)) ∧
    (∀ t0 : DWord, (s.lane l).training = some t0 → 500000000 ≤ s.since t0 → (s.lane l).downSeq = none →
      ∃ t, exec (.trainTimeout l) s = .next t ∧ t.bit Reg.LN_LANE_STATUS 4 l = true ∧ t.bit Reg.LN_EVENT 4 = true ∧
        (t.lane l).training = some s.raw ∧
        RegsKept s t [Reg.LN_LANE_STATUS.at l 0 0, Reg.LN_EVENT.addr, Reg.LN_LANE_CNT.at l 5 0] ∧ MemKept s t) ∧
    (s.laneState l = 0 → s.laneLock l = false → s.cageHeld l = false → s.laneOwner l ≠ 1 → (s.lane l).downSeq = none →
      ∃ t, exec (.laneUp l) s = .next t ∧ t.laneLock l = true ∧ (s.laneOwner l ≠ 0 → t.bit Reg.LN_EVENT 0 = true) ∧
        RegsKept s t [Reg.LN_LANE_STATUS.at l 0 0, Reg.LN_EVENT.addr] ∧ MemKept s t) ∧
    (∀ heldNs : Nat, s.laneLock l = true →
      (s.laneOwner l = 0 ∨ s.laneOwner l = 3 ∧ heldNs < 1000 →
        ∃ t, exec (.laneLockLoss l heldNs) s = .next t ∧ t.laneLock l = false ∧
          (t.rd Reg.LN_LANE_CNT l 4).toNat = min ((s.rd Reg.LN_LANE_CNT l 4).toNat + 1) 0xFFFFFFFF ∧
          (s.laneOwner l = 3 → t.bit Reg.LN_EVENT 1 = true) ∧
          RegsKept s t [Reg.LN_LANE_STATUS.at l 0 0, Reg.LN_EVENT.addr, Reg.LN_LANE_CNT.at l 4 0] ∧ MemKept s t) ∧
      (∀ m : Fin 8, s.laneOwner l = 2 → s.laneOwnerId l = m.val →
        ∃ t, exec (.laneLockLoss l heldNs) s = .next t ∧ t.laneLock l = false ∧ t.bit Reg.LN_MAC_CFG 31 m = false ∧
          (t.lane l).downSeq = some s.fault.seq ∧ t.bit Reg.LN_EVENT 1 = true ∧ MemKept s t)) ∧
    (∀ millivolts heldNs : Nat, 80 < millivolts → 10000 ≤ heldNs → s.laneState l = 2 → s.bit Reg.PM_WAKE_LANES l = false →
      ∃ t, exec (.laneActivity l millivolts heldNs) s = .next t ∧ t.bit Reg.LN_EVENT 2 = true ∧
        RegsKept s t [Reg.LN_LANE_STATUS.at l 0 0, Reg.LN_EVENT.addr] ∧ MemKept s t) ∧
    (∀ w : Writer, s.takes w Reg.LN_LINK_RESET 0 0 0 = true →
      (∀ j : Fin 4, s.laneOwner l = 3 → s.laneOwnerId l = j.val →
        ∃ t, exec (.linkReset w (BitVec.ofNat 32 (2 ^ l.val))) s = .next t ∧ t.linkState j = 4 ∧
          (∀ k : Fin 4, t.laneState (16 + 4 * j.val + k.val) = 2 ∧
            (t.lane (16 + 4 * j.val + k.val)).training = some s.raw) ∧
          (t.link j).replay = (s.link j).replay ∧ (t.link j).txSeq = (s.link j).txSeq ∧
          (t.link j).rxSeq = (s.link j).rxSeq ∧ MemKept s t) ∧
      (s.laneOwner l = 0 →
        ∃ t, exec (.linkReset w (BitVec.ofNat 32 (2 ^ l.val))) s = .next t ∧ t.regs = s.regs ∧ t.lanes = s.lanes ∧
          MemKept s t))

/-- PRBS and Ethernet (R492 to R498, R528): the enables and pattern of an unowned lane are stored, an error can be
injected, and a reserved pattern is refused; a checker locks, loses lock and counts; frames are received, classified
and counted, and sent in the order of their classes; a MAC's link comes up with its lanes. Readings and choices of the
model: notes/assumptions, entries 141 to 144 and 152. -/
def Obligations.PrbsAndEthernetFrames : Prop :=
  (∀ (s : State) (l : Fin 32), s.on .LN = true →
    (∀ (w : Writer) (v : Word), s.takes w Reg.LN_PRBS_CFG l 0 0 = true →
      (patternOk (s.f Reg.LN_LANE_CFG 0 2 l) (fld v 8 4) = true → patternOk (s.f Reg.LN_LANE_CFG 0 2 l) (fld v 12 4) = true →
        s.laneOwner l = 0 → v.getLsbD 0 = true → v.getLsbD 20 = true →
        ∃ t, exec (.prbsInjOne w l v) s = .next t ∧ t.rd Reg.LN_PRBS_CFG l = v &&& 0xFFF03 ∧
          (t.lane l).flips = (s.lane l).flips + 1 ∧
          RegsKept s t [Reg.LN_PRBS_CFG.at l 0 0, Reg.LN_LANE_STATUS.at l 0 0] ∧ MemKept s t) ∧
      (patternOk (s.f Reg.LN_LANE_CFG 0 2 l) (fld v 8 4) = false →
        ∃ t, exec (.prbsInjOne w l v) s = .next t ∧ t.refusedWith S_INVALID_CONFIG (Reg.LN_PRBS_CFG.at l 0 0) ∧
          t.rd Reg.LN_PRBS_CFG l = s.rd Reg.LN_PRBS_CFG l ∧ t.lanes = s.lanes ∧ MemKept s t)) ∧
    (s.bit Reg.LN_PRBS_CFG 1 l = true →
      (∀ n : Nat, 64 ≤ n →
        ∃ t, exec (.prbsCheckerLock l n) s = .next t ∧ t.bit Reg.LN_LANE_STATUS 5 l = true ∧
          RegsKept s t [Reg.LN_LANE_STATUS.at l 0 0] ∧ t.lanes = s.lanes ∧ MemKept s t) ∧
      (∀ errors bits : Nat, s.bit Reg.LN_LANE_STATUS 5 l = true → 16 ≤ errors → bits ≤ 64 →
        ∃ t, exec (.prbsCheckerResync l errors bits) s = .next t ∧ t.bit Reg.LN_LANE_STATUS 5 l = false ∧
          (t.rd Reg.LN_LANE_CNT l 1).toNat = min ((s.rd Reg.LN_LANE_CNT l 1).toNat + 1) 0xFFFFFFFF ∧
          RegsKept s t [Reg.LN_LANE_STATUS.at l 0 0, Reg.LN_LANE_CNT.at l 1 0] ∧ t.lanes = s.lanes ∧ MemKept s t) ∧
      (s.bit Reg.LN_LANE_STATUS 5 l = true →
        ∃ t, exec (.prbsBitError l) s = .next t ∧ t.bit Reg.LN_EVENT 3 = true ∧
          (t.rd Reg.LN_LANE_CNT l 0).toNat = min ((s.rd Reg.LN_LANE_CNT l 0).toNat + 1) 0xFFFFFFFF ∧
          RegsKept s t [Reg.LN_EVENT.addr, Reg.LN_LANE_CNT.at l 0 0] ∧ t.lanes = s.lanes ∧ MemKept s t)) ∧
    (∀ bits : Nat, s.bit Reg.LN_PRBS_CFG 0 l = true → s.f Reg.LN_PRBS_CFG 16 4 l ≠ 0 →
      ∃ t, exec (.prbsRateInjection l bits) s = .next t ∧
        (t.lane l).flips = (s.lane l).flips + ((s.lane l).genBits + bits) / 2 ^ (s.f Reg.LN_PRBS_CFG 16 4 l + 10) ∧
        (t.lane l).genBits = ((s.lane l).genBits + bits) % 2 ^ (s.f Reg.LN_PRBS_CFG 16 4 l + 10) ∧
        t.regs = s.regs ∧ MemKept s t)) ∧
  (∀ (s : State) (m : Fin 8),
    (∀ f : EthFrame, s.macUp m = true →
      (f.fcsOk = false → ∃ t, exec (.ethFrameReceive m f) s = .next t ∧ t.macs = s.macs ∧
        (t.rd Reg.LN_MAC_CNT m 2).toNat = min ((s.rd Reg.LN_MAC_CNT m 2).toNat + 1) 0xFFFFFFFF ∧
        RegsKept s t [Reg.LN_MAC_CNT.at m 0 0, Reg.LN_MAC_CNT.at m 2 0] ∧ MemKept s t) ∧
      (f.fcsOk = true → f.len < 64 ∨ 9216 < f.len → ∃ t, exec (.ethFrameReceive m f) s = .next t ∧ t.macs = s.macs ∧
        (t.rd Reg.LN_MAC_CNT m 3).toNat = min ((s.rd Reg.LN_MAC_CNT m 3).toNat + 1) 0xFFFFFFFF ∧
        RegsKept s t [Reg.LN_MAC_CNT.at m 0 0, Reg.LN_MAC_CNT.at m 3 0] ∧ MemKept s t) ∧
      (f.fcsOk = true → 64 ≤ f.len → f.len ≤ 9216 → f.pause = false → f.etherType ≠ 0x86DD →
        (∀ d, s.frameDest m f = some d → d ≠ .cp → ∃ t, exec (.ethFrameReceive m f) s = .next t ∧
          (t.mac m).lastDest = some d ∧ (t.mac m).txq = (s.mac m).txq ∧ RegsKept s t [Reg.LN_MAC_CNT.at m 0 0] ∧
          MemKept s t) ∧
        (s.frameDest m f = none → ∃ t, exec (.ethFrameReceive m f) s = .next t ∧ t.macs = s.macs ∧
          (t.rd Reg.LN_MAC_CNT m 5).toNat = min ((s.rd Reg.LN_MAC_CNT m 5).toNat + 1) 0xFFFFFFFF ∧
          RegsKept s t [Reg.LN_MAC_CNT.at m 0 0, Reg.LN_MAC_CNT.at m 5 0] ∧ MemKept s t))) ∧
    (∀ (f : TxFrame) (rest : List TxFrame), s.macUp m = true → takeFrame s.maySend (s.mac m).txq = some (f, rest) →
      f.tag = .cp →
      ∃ t, exec (.ethFrameTransmit m) s = .next t ∧ (t.mac m).txq = rest ∧ (∀ n, n ≠ m.val → t.mac n = s.mac n) ∧
        RegsKept s t [Reg.LN_MAC_CNT.at m 1 0] ∧ MemKept s t) ∧
    (s.macEnabled m = true → s.macUp m = false →
      (∀ l, l ∈ s.macLanes m → s.laneState l = 0 ∧ s.laneLock l = true ∧
        (s.bit Reg.LN_LANE_CFG 3 l = true → s.bit Reg.LN_LANE_STATUS 3 l = true)) →
      ∃ t, exec (.macLinkUp m) s = .next t ∧ t.bit Reg.LN_MAC_CFG 31 m = true ∧
        { cls := 3, tag := .cp, data := [] } ∈ (t.mac m).txq ∧ RegsKept s t [Reg.LN_MAC_CFG.at m 0 0] ∧ MemKept s t))

/-- Kalinamo links (R499 to R511): a flit of a bad CRC is counted and asked for again; an in-sequence flit of one
message for this node reaches its inbox, one out of sequence does not; the replay buffer is sent again after a timeout
and the ninth time resets the link; an acknowledgement goes out each interval; a link that does not retrain is DOWN; a
failed lane asks for a swap, or the link goes on with two lanes as DEGRADED; a swap puts the spare in use; FAB_INJECT
sets the count of errors to inject. Readings and choices of the model: notes/assumptions, entries 142, 145, 146 and
148. -/
def Obligations.KalinamoLinksRetryAndSwapLanes : Prop :=
  ∀ (s : State) (j : Fin 4),
    (∀ f : Flit, s.linkUp j = true → (∀ m, m ∈ s.fab.inbox → m.1 ≠ 2) → (s.link j).out = [] →
      ((s.link j).nakSent = false →
        ∃ t, exec (.flitReceive j f false) s = .next t ∧ (t.link j).nakSent = true ∧ (t.link j).rxSeq = (s.link j).rxSeq ∧
          t.fab.inbox = s.fab.inbox ∧
          (t.rd Reg.FAB_LINK_CNT j 2).toNat = min ((s.rd Reg.FAB_LINK_CNT j 2).toNat + 1) 0xFFFFFFFF ∧
          RegsKept s t [Reg.FAB_LINK_CNT.at j 0 0, Reg.FAB_LINK_CNT.at j 1 0, Reg.FAB_LINK_CNT.at j 2 0] ∧ MemKept s t) ∧
      (f.typ = 4 → f.nak = false → f.dest.toNat = s.nodeId → f.vc.toNat ≤ 1 → f.seq = (s.link j).rxSeq →
        ∃ t, exec (.flitReceive j f true) s = .next t ∧ (t.link j).rxSeq = (s.link j).rxSeq + 1 ∧
          t.fab.inbox = s.fab.inbox ++ [(f.vc.toNat, f.src.toNat, f.payload)] ∧
          (t.link j).replay = ackFlits f.ack (s.link j).replay ∧
          RegsKept s t [Reg.FAB_LINK_CNT.at j 0 0, Reg.FAB_LINK_CNT.at j 1 0] ∧ MemKept s t) ∧
      (1 ≤ f.typ.toNat → f.typ.toNat ≤ 4 → f.nak = false → f.seq ≠ (s.link j).rxSeq →
        ∃ t, exec (.flitReceive j f true) s = .next t ∧ (t.link j).rxSeq = (s.link j).rxSeq ∧
          (t.link j).nakSent = true ∧ t.fab.inbox = s.fab.inbox ∧ t.fab.partials = s.fab.partials ∧
          RegsKept s t [Reg.FAB_LINK_CNT.at j 0 0, Reg.FAB_LINK_CNT.at j 1 0] ∧ MemKept s t)) ∧
    (s.linkUp j = true → (s.link j).replay ≠ [] →
      max 1 (s.f Reg.FAB_LINK_CFG 16 8 j) * 100 ≤ s.since (s.link j).progressAt →
      ((s.link j).replays < 8 →
        ∃ t, exec (.retryTimeout j) s = .next t ∧ (t.link j).replays = (s.link j).replays + 1 ∧
          (t.link j).replay = (s.link j).replay ∧ t.bit Reg.FAB_EVENT 1 = true ∧
          (t.rd Reg.FAB_LINK_CNT j 3).toNat = min ((s.rd Reg.FAB_LINK_CNT j 3).toNat + 1) 0xFFFFFFFF ∧
          RegsKept s t [Reg.FAB_LINK_CNT.at j 0 0, Reg.FAB_LINK_CNT.at j 3 0, Reg.FAB_EVENT.addr] ∧ MemKept s t) ∧
      (8 ≤ (s.link j).replays →
        ∃ t, exec (.retryTimeout j) s = .next t ∧ t.linkState j = 4 ∧ (t.link j).downSeq = some s.fault.seq ∧
          (t.link j).replay = (s.link j).replay ∧ MemKept s t)) ∧
    (s.linkUp j = true → 1000 ≤ s.since (s.link j).ackAt →
      ∃ t, exec (.ackInterval j) s = .next t ∧ (t.link j).ackAt = s.raw ∧ (t.link j).rxCount = 0 ∧
        (t.link j).replay = (s.link j).replay ∧ RegsKept s t [Reg.FAB_LINK_CNT.at j 0 0] ∧ MemKept s t) ∧
    (∀ t0 : DWord, s.on .FAB = true → (s.link j).retrain = some t0 → 100000000 ≤ s.since t0 →
      ∃ t, exec (.linkRetrainTimeout j) s = .next t ∧ t.linkState j = 0 ∧ (t.link j).retrain = none ∧
        t.bit Reg.FAB_EVENT 2 = true ∧ MemKept s t) ∧
    (∀ (k : Fin 4) (lostNs unc corr : Nat), s.linkUp j = true → k.val ∈ s.dataLanes j → 1000 ≤ lostNs →
      (s.spareFree j = true → (s.link j).swap = none →
        ∃ t, exec (.laneFail j k lostNs unc corr) s = .next t ∧ (t.link j).swap = some (4 + k.val) ∧
          t.laneFailed j k = false ∧ t.linkState j = s.linkState j ∧ MemKept s t) ∧
      (s.spareFree j = false → (s.dataLanes j).length = 3 →
        ∃ t, exec (.laneFail j k lostNs unc corr) s = .next t ∧ t.linkState j = 3 ∧ t.laneFailed j k = true ∧
          (s.linkState j = 2 → t.bit Reg.FAB_EVENT 4 = true) ∧ MemKept s t)) ∧
    (∀ k : Fin 4, s.linkUp j = true → k.val ∈ s.dataLanes j → s.spareFree j = true → (s.link j).swap = none →
      ∃ t, exec (.swapReqReceive j k) s = .next t ∧ (t.link j).spareUsed = true ∧ t.laneFailed j k = true ∧
        t.bit Reg.FAB_EVENT 3 = true ∧ t.linkState j = s.linkState j ∧ MemKept s t) ∧
    (∀ x : Nat, s.linkUp j = true → (s.link j).swap = some x →
      ∃ t, exec (.swapAckReceive j) s = .next t ∧ (t.link j).swap = none ∧ (t.link j).spareUsed = true ∧
        t.laneFailed j (x % 4) = true ∧ t.bit Reg.FAB_EVENT 3 = true ∧ MemKept s t) ∧
    (∀ (w : Writer) (n : Byte), s.takes w Reg.FAB_INJECT j 0 0 = true →
      ∃ t, exec (.fabInject w j n) s = .next t ∧ (t.link j).inject = n.toNat ∧ (t.link j).replay = (s.link j).replay ∧
        t.regs = s.regs ∧ MemKept s t)

/-! ### The module as a whole -/

/-- A step takes the command at the front of the queue and runs it on the state with the queue's rest; on an empty queue the
raw counter counts one and nothing else changes (the model's choice, notes/assumptions/1.md). -/
def Obligations.StepRunsTheFrontCommand : Prop :=
  ∀ s : State,
    (∀ (c : Instr) (rest : List Instr), s.pending = c :: rest → step s = exec c { s with pending := rest }) ∧
    (s.pending = [] → step s = .next { s with raw := s.raw + 1 })

/-- Right after reset (R356, R385, R451, R513, R584, R638): registers hold their reset words, DRAM reads zero, and
there is no queue entry, no comet, no job and no waiting command. Readings and choices of the model:
notes/assumptions, entries 5 and 6. -/
def Obligations.ResetHoldsItsValues : Prop :=
  (∀ n : Fin 4, State.reset.rd Reg.ENC_FILT_CFG n = 0x604 ∧ State.reset.rd Reg.ENC_FAULT_CFG n = 0x001003E8 ∧
    State.reset.rd Reg.ENC_OBS_CFG n = 0x064400C8 ∧ State.reset.rd Reg.ENC_STATUS n = 1 ∧
    (State.reset.enc n).pos = 0) ∧
  (∀ n : Fin 8, State.reset.rd Reg.CAM_PORT_CFG n = 0 ∧ State.reset.rd Reg.CAM_FMT n = 0x4000 ∧
    State.reset.rd Reg.CAM_TRIG_PITCH n = 0x4000 ∧ State.reset.rd Reg.CAM_MAX_RATE n = 0x0F424000 ∧
    State.reset.rd Reg.ISP_PIPE_STATUS n = 4) ∧
  (∀ a, State.reset.byte a = 0) ∧ (∀ q, State.reset.queue q = {}) ∧ (∀ i, State.reset.comet i = none) ∧
  (∀ h, State.reset.jobOf h = none) ∧ State.reset.pending = [] ∧ State.reset.raw = 0 ∧ State.reset.fuse = {}

/-- The memory of the reset state has its canonical form. Readings and choices of the model: notes/assumptions, entry
6. -/
def Obligations.ResetMemoryIsCanonical : Prop := Memory.wf State.reset.mem

/-- Every step keeps the canonical form of memory: addresses rise strictly and no listed byte is zero, which is what
an unlisted byte reads as. Readings and choices of the model: notes/assumptions, entry 6. -/
def Obligations.EveryStepKeepsMemoryCanonical : Prop :=
  ∀ s t : State, Memory.wf s.mem → step s = .next t → Memory.wf t.mem

/-- Fuses are burnt and never restored (R584 to R588): over every step the lowest accepted SVN does not fall, a revoked root
stays revoked, and the digest of the owner's key, once there, stays what it is. -/
def Obligations.EveryStepKeepsBurntFuses : Prop :=
  ∀ s t : State, step s = .next t →
    s.fuse.minSvn ≤ t.fuse.minSvn ∧ (∀ i, s.fuse.rootRevoked.getLsbD i = true → t.fuse.rootRevoked.getLsbD i = true) ∧
    (∀ d, s.fuse.owner = some d → t.fuse.owner = some d)

/-- Every command has a next state, and leaves the queue of waiting commands as it finds it: a step shortens the queue
by its front command and by nothing else. Readings and choices of the model: notes/assumptions, entry 8. -/
def Obligations.EveryCommandCompletesAndLeavesTheQueue : Prop :=
  ∀ (c : Instr) (s : State), ∃ t, exec c s = .next t ∧ t.pending = s.pending
end

