-- ==== Sys2Proof/Laws/Assoc.lean ====
section
/-!
SUPPORT. Laws of sparse tables: a read after a write, and the canonical form under every operation.
-/
namespace Sys2Proof

variable {β : Type}

@[simp] theorem AMap.look_nil (a : Nat) : AMap.look ([] : AMap β) a = none := rfl

theorem AMap.look_put (m : AMap β) (a b : Nat) (v : β) :
    AMap.look (AMap.put m a v) b = if b = a then some v else AMap.look m b := by
  induction m with
  | nil => simp [AMap.put, AMap.look]
  | cons p t ih =>
    obtain ⟨k, w⟩ := p
    simp only [AMap.put]
    split
    · simp [AMap.look]
    · split
      · rename_i h
        subst h
        simp only [AMap.look]
        split <;> rfl
      · rename_i h1 h2
        simp only [AMap.look, ih]
        split
        · rename_i h3; subst h3; rw [if_neg (fun h => h2 h.symm)]
        · rfl

@[simp] theorem AMap.look_put_same (m : AMap β) (a : Nat) (v : β) : AMap.look (AMap.put m a v) a = some v := by
  simp [AMap.look_put]

theorem AMap.look_put_other (m : AMap β) {a b : Nat} (v : β) (h : b ≠ a) :
    AMap.look (AMap.put m a v) b = AMap.look m b := by simp [AMap.look_put, h]

theorem AMap.look_del (m : AMap β) (a b : Nat) :
    AMap.look (AMap.del m a) b = if b = a then none else AMap.look m b := by
  induction m with
  | nil => simp [AMap.del]
  | cons p t ih =>
    obtain ⟨k, w⟩ := p
    simp only [AMap.del, List.filter_cons] at ih ⊢
    by_cases hk : k = a
    · subst hk
      simp only [ne_eq, not_true_eq_false, decide_false, Bool.false_eq_true, if_false, ih, AMap.look]
      split <;> simp_all
    · simp only [ne_eq, hk, not_false_eq_true, decide_true, if_true, AMap.look, ih]
      split
      · rename_i h; subst h; simp [hk]
      · rfl

variable [DecidableEq β]

theorem AMap.get_store (m : AMap β) (d : β) (a b : Nat) (v : β) :
    AMap.get (AMap.store m d a v) d b = if b = a then v else AMap.get m d b := by
  unfold AMap.store AMap.get
  split
  · rename_i h; rw [AMap.look_del]; split <;> simp [h]
  · rw [AMap.look_put]; split <;> simp

@[simp] theorem AMap.get_store_same (m : AMap β) (d : β) (a : Nat) (v : β) :
    AMap.get (AMap.store m d a v) d a = v := by simp [AMap.get_store]

theorem AMap.get_store_other (m : AMap β) (d : β) {a b : Nat} (v : β) (h : b ≠ a) :
    AMap.get (AMap.store m d a v) d b = AMap.get m d b := by simp [AMap.get_store, h]

/-! ### The canonical form -/

omit [DecidableEq β] in
theorem AMap.mem_put {m : AMap β} {a : Nat} {v : β} {p : Nat × β} (h : p ∈ AMap.put m a v) :
    p = (a, v) ∨ p ∈ m := by
  induction m with
  | nil => simpa [AMap.put] using h
  | cons q t ih =>
    obtain ⟨k, w⟩ := q
    simp only [AMap.put] at h
    split at h
    · simpa using h
    · split at h
      · rcases List.mem_cons.1 h with h | h
        · exact .inl h
        · exact .inr (List.mem_cons_of_mem _ h)
      · rcases List.mem_cons.1 h with h | h
        · exact .inr (h ▸ List.mem_cons_self)
        · exact (ih h).imp id (List.mem_cons_of_mem _)

omit [DecidableEq β] in
theorem AMap.sorted_put {m : AMap β} (h : AMap.Sorted m) (a : Nat) (v : β) : AMap.Sorted (AMap.put m a v) := by
  induction m with
  | nil => simp [AMap.put]
  | cons q t ih =>
    obtain ⟨k, w⟩ := q
    have h' := List.pairwise_cons.1 h
    simp only [AMap.put]
    split
    · rename_i hlt
      refine List.pairwise_cons.2 ⟨fun p hp => ?_, h⟩
      rcases List.mem_cons.1 hp with rfl | hp
      · exact hlt
      · exact Nat.lt_trans hlt (h'.1 p hp)
    · split
      · rename_i hlt heq
        subst heq
        exact List.pairwise_cons.2 ⟨h'.1, h'.2⟩
      · rename_i h1 h2
        refine List.pairwise_cons.2 ⟨fun p hp => ?_, ih h'.2⟩
        rcases AMap.mem_put hp with rfl | hp
        · show k < a; omega
        · exact h'.1 p hp

omit [DecidableEq β] in
theorem AMap.sorted_filter {m : AMap β} (h : AMap.Sorted m) (f : Nat × β → Bool) : AMap.Sorted (m.filter f) :=
  List.Pairwise.filter f h

theorem AMap.canon_store {m : AMap β} {d : β} (h : AMap.Canon d m) (a : Nat) (v : β) :
    AMap.Canon d (AMap.store m d a v) := by
  unfold AMap.store
  split
  · exact ⟨AMap.sorted_filter h.1 _, fun p hp => h.2 p (List.mem_filter.1 hp).1⟩
  · rename_i hv
    refine ⟨AMap.sorted_put h.1 a v, fun p hp => ?_⟩
    rcases AMap.mem_put hp with rfl | hp
    · exact hv
    · exact h.2 p hp

omit [DecidableEq β] in
theorem AMap.canon_filter {m : AMap β} {d : β} (h : AMap.Canon d m) (f : Nat × β → Bool) : AMap.Canon d (m.filter f) :=
  ⟨AMap.sorted_filter h.1 f, fun p hp => h.2 p (List.mem_filter.1 hp).1⟩

omit [DecidableEq β] in
theorem AMap.canon_nil (d : β) : AMap.Canon d ([] : AMap β) := ⟨List.Pairwise.nil, fun _ h => nomatch h⟩

end Sys2Proof
end

