-- ==== Sys2Proof/Laws/Regs.lean ====
section
/-!
SUPPORT. Laws of bit fields and of the register file: what a read finds after a write.
-/
namespace Sys2Proof

/-! ### Fields -/

theorem fldMask_getLsbD (lo len i : Nat) (hi : i < 32) :
    (fldMask lo len).getLsbD i = (decide (lo ≤ i) && decide (i < lo + len)) := by
  simp only [fldMask, BitVec.getLsbD_ofNat, Nat.testBit_shiftLeft, Nat.testBit_two_pow_sub_one, hi, decide_true,
    Bool.true_and, ge_iff_le]
  by_cases h : lo ≤ i
  · simp [h, Nat.sub_lt_iff_lt_add h]; omega
  · simp [h]

theorem setFld_getLsbD (x : Word) (lo len v i : Nat) (hi : i < 32) :
    (setFld x lo len v).getLsbD i = if lo ≤ i ∧ i < lo + len then v.testBit (i - lo) else x.getLsbD i := by
  simp only [setFld, BitVec.getLsbD_or, BitVec.getLsbD_and, BitVec.getLsbD_not, fldMask_getLsbD _ _ _ hi, hi,
    BitVec.getLsbD_ofNat, Nat.testBit_shiftLeft, decide_true, Bool.true_and, ge_iff_le]
  by_cases h1 : lo ≤ i <;> by_cases h2 : i < lo + len <;> simp [h1, h2]

@[simp] theorem putBit_same (x : Word) (n : Nat) (b : Bool) (h : n < 32) : (putBit x n b).getLsbD n = b := by
  rw [putBit, setFld_getLsbD _ _ _ _ _ h]
  cases b <;> simp

theorem putBit_other (x : Word) (n m : Nat) (b : Bool) (h : m ≠ n) : (putBit x n b).getLsbD m = x.getLsbD m := by
  by_cases hm : m < 32
  · rw [putBit, setFld_getLsbD _ _ _ _ _ hm, if_neg (by omega)]
  · rw [BitVec.getLsbD_of_ge _ _ (by omega), BitVec.getLsbD_of_ge _ _ (by omega)]

theorem fld_testBit {w : Nat} (x : BitVec w) (lo len i : Nat) :
    (fld x lo len).testBit i = (decide (i < len) && x.getLsbD (lo + i)) := by
  simp [fld, Nat.testBit_mod_two_pow, Nat.testBit_shiftRight, BitVec.getLsbD]

@[simp] theorem fld_setFld_same (x : Word) (lo len v : Nat) (h : lo + len ≤ 32) : fld (setFld x lo len v) lo len = v % 2 ^ len := by
  apply Nat.eq_of_testBit_eq
  intro i
  rw [fld_testBit, Nat.testBit_mod_two_pow]
  by_cases hi : i < len
  · rw [setFld_getLsbD _ _ _ _ _ (by omega), if_pos (by omega)]; simp [hi]
  · simp [hi]

theorem fld_setFld_other (x : Word) (lo len v lo' len' : Nat) (h : lo' + len' ≤ lo ∨ lo + len ≤ lo') :
    fld (setFld x lo len v) lo' len' = fld x lo' len' := by
  apply Nat.eq_of_testBit_eq
  intro i
  rw [fld_testBit, fld_testBit]
  by_cases hi : i < len'
  · by_cases h2 : lo' + i < 32
    · rw [setFld_getLsbD _ _ _ _ _ h2, if_neg (by omega)]
    · rw [BitVec.getLsbD_of_ge _ _ (by omega), BitVec.getLsbD_of_ge _ _ (by omega)]
  · simp [hi]

theorem setFld_getLsbD_other (x : Word) (lo len v i : Nat) (h : i < lo ∨ lo + len ≤ i) :
    (setFld x lo len v).getLsbD i = x.getLsbD i := by
  by_cases hi : i < 32
  · rw [setFld_getLsbD _ _ _ _ _ hi, if_neg (by omega)]
  · rw [BitVec.getLsbD_of_ge _ _ (by omega), BitVec.getLsbD_of_ge _ _ (by omega)]

theorem fld_putBit_other (x : Word) (n lo len : Nat) (b : Bool) (h : n < lo ∨ lo + len ≤ n) :
    fld (putBit x n b) lo len = fld x lo len := fld_setFld_other _ _ _ _ _ _ (by omega)

namespace Machine

/-! ### The register file -/

@[simp] theorem State.rd_wr_same (s : State) (r : RegRow) (v : Word) (i j k : Nat) : (s.wr r v i j k).rd r i j k = v := by
  simp [State.rd, State.wr]

theorem State.rd_wr_other (s : State) (r r' : RegRow) (v : Word) (i j k i' j' k' : Nat)
    (h : r'.at i' j' k' ≠ r.at i j k) : (s.wr r v i j k).rd r' i' j' k' = s.rd r' i' j' k' := by
  simp only [State.rd, State.wr, AMap.get]
  congr 1
  unfold AMap.store
  split
  · rw [AMap.look_del, if_neg h]
  · rw [AMap.look_put, if_neg h]

/-- A register outside the one written keeps its word. -/
theorem State.look_wr_other (s : State) (r : RegRow) (v : Word) (i j k a : Nat) (h : a ≠ r.at i j k) :
    AMap.look (s.wr r v i j k).regs a = AMap.look s.regs a := by
  simp only [State.wr]
  unfold AMap.store
  split
  · rw [AMap.look_del, if_neg h]
  · rw [AMap.look_put, if_neg h]

@[simp] theorem State.bit_setBit_same (s : State) (r : RegRow) (n : Nat) (b : Bool) (i j k : Nat) (h : n < 32) :
    (s.setBit r n b i j k).bit r n i j k = b := by
  simp only [State.bit, State.setBit, State.rd_wr_same, putBit_same _ _ _ h]

theorem State.bit_setBit_bit (s : State) (r : RegRow) (n m : Nat) (b : Bool) (i j k : Nat) (h : m ≠ n) :
    (s.setBit r n b i j k).bit r m i j k = s.bit r m i j k := by
  simp [State.bit, State.setBit, putBit_other _ _ _ _ h]

theorem State.bit_wr_other (s : State) (r r' : RegRow) (v : Word) (n i j k i' j' k' : Nat)
    (h : r'.at i' j' k' ≠ r.at i j k) : (s.wr r v i j k).bit r' n i' j' k' = s.bit r' n i' j' k' := by
  simp [State.bit, State.rd_wr_other _ _ _ _ _ _ _ _ _ _ h]

theorem State.f_wr_other (s : State) (r r' : RegRow) (v : Word) (lo len i j k i' j' k' : Nat)
    (h : r'.at i' j' k' ≠ r.at i j k) : (s.wr r v i j k).f r' lo len i' j' k' = s.f r' lo len i' j' k' := by
  simp [State.f, State.rd_wr_other _ _ _ _ _ _ _ _ _ _ h]

@[simp] theorem State.f_setF_same (s : State) (r : RegRow) (lo len v i j k : Nat) (h : lo + len ≤ 32) :
    (s.setF r lo len v i j k).f r lo len i j k = v % 2 ^ len := by simp [State.f, State.setF, h]

/-! ### Counters, guards and folds -/

@[simp] theorem State.when_true (s : State) (f : State → State) : s.when true f = f s := rfl
@[simp] theorem State.when_false (s : State) (f : State → State) : s.when false f = s := rfl

/-- What every element of a fold keeps, the fold keeps. -/
theorem State.forAll_keeps {α β : Type} (p : State → β) (f : α → State → State) (h : ∀ a s, p (f a s) = p s) (s : State)
    (l : List α) : p (s.forAll l f) = p s := by
  unfold State.forAll
  induction l generalizing s with
  | nil => rfl
  | cons a t ih => rw [List.foldl_cons, ih, h]

/-- What both branches keep, the guard keeps. -/
theorem State.when_keeps {β : Type} (p : State → β) (s : State) (c : Bool) (f : State → State) (h : p (f s) = p s) :
    p (s.when c f) = p s := by
  cases c
  · rfl
  · exact h

end Machine
end Sys2Proof
end

