-- ==== Sys2Proof/Laws/State.lean ====
section
/-!
SUPPORT. The fields of the state after each named update: those that it does not touch stay, and a unit reads as it was
written. Every equation is by rfl or by the one law of sparse tables.
-/
namespace Sys2Proof.Machine

open Sys2Proof

/-! ### Fields that an update leaves alone -/

@[simp] theorem State.wr_fields (s : State) (r : RegRow) (v : Word) (i j k : Nat) :
    (s.wr r v i j k).pairLatch = s.pairLatch ∧ (s.wr r v i j k).pairPend = s.pairPend ∧
    (s.wr r v i j k).raw = s.raw ∧ (s.wr r v i j k).free = s.free ∧ (s.wr r v i j k).mem = s.mem ∧
    (s.wr r v i j k).core = s.core ∧ (s.wr r v i j k).host = s.host ∧ (s.wr r v i j k).pm = s.pm ∧
    (s.wr r v i j k).fault = s.fault ∧ (s.wr r v i j k).flash = s.flash ∧ (s.wr r v i j k).fuse = s.fuse ∧
    (s.wr r v i j k).sec = s.sec ∧ (s.wr r v i j k).snap = s.snap ∧ (s.wr r v i j k).encs = s.encs ∧
    (s.wr r v i j k).queues = s.queues ∧ (s.wr r v i j k).memory = s.memory ∧ (s.wr r v i j k).wt = s.wt ∧
    (s.wr r v i j k).fio = s.fio ∧ (s.wr r v i j k).time = s.time ∧ (s.wr r v i j k).cams = s.cams ∧
    (s.wr r v i j k).ispOuts = s.ispOuts ∧ (s.wr r v i j k).ispCtxs = s.ispCtxs ∧
    (s.wr r v i j k).ispPipes = s.ispPipes ∧ (s.wr r v i j k).dec = s.dec ∧ (s.wr r v i j k).job = s.job ∧
    (s.wr r v i j k).lanes = s.lanes ∧ (s.wr r v i j k).macs = s.macs ∧ (s.wr r v i j k).fab = s.fab ∧
    (s.wr r v i j k).pending = s.pending :=
  ⟨rfl, rfl, rfl, rfl, rfl, rfl, rfl, rfl, rfl, rfl, rfl, rfl, rfl, rfl, rfl, rfl, rfl, rfl, rfl, rfl, rfl, rfl, rfl, rfl, rfl, rfl, rfl, rfl, rfl⟩

@[simp] theorem State.setEnc_fields (s : State) (n : Nat) (c : EncCh) :
    (s.setEnc n c).regs = s.regs ∧ (s.setEnc n c).pairLatch = s.pairLatch ∧ (s.setEnc n c).pairPend = s.pairPend ∧
    (s.setEnc n c).raw = s.raw ∧ (s.setEnc n c).free = s.free ∧ (s.setEnc n c).mem = s.mem ∧
    (s.setEnc n c).core = s.core ∧ (s.setEnc n c).host = s.host ∧ (s.setEnc n c).pm = s.pm ∧
    (s.setEnc n c).fault = s.fault ∧ (s.setEnc n c).flash = s.flash ∧ (s.setEnc n c).fuse = s.fuse ∧
    (s.setEnc n c).sec = s.sec ∧ (s.setEnc n c).snap = s.snap ∧ (s.setEnc n c).queues = s.queues ∧
    (s.setEnc n c).memory = s.memory ∧ (s.setEnc n c).wt = s.wt ∧ (s.setEnc n c).fio = s.fio ∧
    (s.setEnc n c).time = s.time ∧ (s.setEnc n c).cams = s.cams ∧ (s.setEnc n c).ispOuts = s.ispOuts ∧
    (s.setEnc n c).ispCtxs = s.ispCtxs ∧ (s.setEnc n c).ispPipes = s.ispPipes ∧ (s.setEnc n c).dec = s.dec ∧
    (s.setEnc n c).job = s.job ∧ (s.setEnc n c).lanes = s.lanes ∧ (s.setEnc n c).macs = s.macs ∧
    (s.setEnc n c).fab = s.fab ∧ (s.setEnc n c).pending = s.pending :=
  ⟨rfl, rfl, rfl, rfl, rfl, rfl, rfl, rfl, rfl, rfl, rfl, rfl, rfl, rfl, rfl, rfl, rfl, rfl, rfl, rfl, rfl, rfl, rfl, rfl, rfl, rfl, rfl, rfl, rfl⟩

@[simp] theorem State.setQueue_fields (s : State) (q : Nat) (x : Queue) :
    (s.setQueue q x).regs = s.regs ∧ (s.setQueue q x).pairLatch = s.pairLatch ∧
    (s.setQueue q x).pairPend = s.pairPend ∧ (s.setQueue q x).raw = s.raw ∧ (s.setQueue q x).free = s.free ∧
    (s.setQueue q x).mem = s.mem ∧ (s.setQueue q x).core = s.core ∧ (s.setQueue q x).host = s.host ∧
    (s.setQueue q x).pm = s.pm ∧ (s.setQueue q x).fault = s.fault ∧ (s.setQueue q x).flash = s.flash ∧
    (s.setQueue q x).fuse = s.fuse ∧ (s.setQueue q x).sec = s.sec ∧ (s.setQueue q x).snap = s.snap ∧
    (s.setQueue q x).encs = s.encs ∧ (s.setQueue q x).memory = s.memory ∧ (s.setQueue q x).wt = s.wt ∧
    (s.setQueue q x).fio = s.fio ∧ (s.setQueue q x).time = s.time ∧ (s.setQueue q x).cams = s.cams ∧
    (s.setQueue q x).ispOuts = s.ispOuts ∧ (s.setQueue q x).ispCtxs = s.ispCtxs ∧
    (s.setQueue q x).ispPipes = s.ispPipes ∧ (s.setQueue q x).dec = s.dec ∧ (s.setQueue q x).job = s.job ∧
    (s.setQueue q x).lanes = s.lanes ∧ (s.setQueue q x).macs = s.macs ∧ (s.setQueue q x).fab = s.fab ∧
    (s.setQueue q x).pending = s.pending :=
  ⟨rfl, rfl, rfl, rfl, rfl, rfl, rfl, rfl, rfl, rfl, rfl, rfl, rfl, rfl, rfl, rfl, rfl, rfl, rfl, rfl, rfl, rfl, rfl, rfl, rfl, rfl, rfl, rfl, rfl⟩

@[simp] theorem State.setDout_fields (s : State) (n : Nat) (x : DoSt) :
    (s.setDout n x).regs = s.regs ∧ (s.setDout n x).pairLatch = s.pairLatch ∧ (s.setDout n x).pairPend = s.pairPend ∧
    (s.setDout n x).raw = s.raw ∧ (s.setDout n x).free = s.free ∧ (s.setDout n x).mem = s.mem ∧
    (s.setDout n x).core = s.core ∧ (s.setDout n x).host = s.host ∧ (s.setDout n x).pm = s.pm ∧
    (s.setDout n x).fault = s.fault ∧ (s.setDout n x).flash = s.flash ∧ (s.setDout n x).fuse = s.fuse ∧
    (s.setDout n x).sec = s.sec ∧ (s.setDout n x).snap = s.snap ∧ (s.setDout n x).encs = s.encs ∧
    (s.setDout n x).queues = s.queues ∧ (s.setDout n x).memory = s.memory ∧ (s.setDout n x).wt = s.wt ∧
    (s.setDout n x).time = s.time ∧ (s.setDout n x).cams = s.cams ∧ (s.setDout n x).ispOuts = s.ispOuts ∧
    (s.setDout n x).ispCtxs = s.ispCtxs ∧ (s.setDout n x).ispPipes = s.ispPipes ∧ (s.setDout n x).dec = s.dec ∧
    (s.setDout n x).job = s.job ∧ (s.setDout n x).lanes = s.lanes ∧ (s.setDout n x).macs = s.macs ∧
    (s.setDout n x).fab = s.fab ∧ (s.setDout n x).pending = s.pending :=
  ⟨rfl, rfl, rfl, rfl, rfl, rfl, rfl, rfl, rfl, rfl, rfl, rfl, rfl, rfl, rfl, rfl, rfl, rfl, rfl, rfl, rfl, rfl, rfl, rfl, rfl, rfl, rfl, rfl, rfl⟩

@[simp] theorem State.setDin_fields (s : State) (n : Nat) (x : DiSt) :
    (s.setDin n x).regs = s.regs ∧ (s.setDin n x).pairLatch = s.pairLatch ∧ (s.setDin n x).pairPend = s.pairPend ∧
    (s.setDin n x).raw = s.raw ∧ (s.setDin n x).free = s.free ∧ (s.setDin n x).mem = s.mem ∧
    (s.setDin n x).core = s.core ∧ (s.setDin n x).host = s.host ∧ (s.setDin n x).pm = s.pm ∧
    (s.setDin n x).fault = s.fault ∧ (s.setDin n x).flash = s.flash ∧ (s.setDin n x).fuse = s.fuse ∧
    (s.setDin n x).sec = s.sec ∧ (s.setDin n x).snap = s.snap ∧ (s.setDin n x).encs = s.encs ∧
    (s.setDin n x).queues = s.queues ∧ (s.setDin n x).memory = s.memory ∧ (s.setDin n x).wt = s.wt ∧
    (s.setDin n x).time = s.time ∧ (s.setDin n x).cams = s.cams ∧ (s.setDin n x).ispOuts = s.ispOuts ∧
    (s.setDin n x).ispCtxs = s.ispCtxs ∧ (s.setDin n x).ispPipes = s.ispPipes ∧ (s.setDin n x).dec = s.dec ∧
    (s.setDin n x).job = s.job ∧ (s.setDin n x).lanes = s.lanes ∧ (s.setDin n x).macs = s.macs ∧
    (s.setDin n x).fab = s.fab ∧ (s.setDin n x).pending = s.pending :=
  ⟨rfl, rfl, rfl, rfl, rfl, rfl, rfl, rfl, rfl, rfl, rfl, rfl, rfl, rfl, rfl, rfl, rfl, rfl, rfl, rfl, rfl, rfl, rfl, rfl, rfl, rfl, rfl, rfl, rfl⟩

@[simp] theorem State.setDet_fields (s : State) (l : Nat) (d : Detector) :
    (s.setDet l d).regs = s.regs ∧ (s.setDet l d).pairLatch = s.pairLatch ∧ (s.setDet l d).pairPend = s.pairPend ∧
    (s.setDet l d).raw = s.raw ∧ (s.setDet l d).free = s.free ∧ (s.setDet l d).mem = s.mem ∧
    (s.setDet l d).core = s.core ∧ (s.setDet l d).host = s.host ∧ (s.setDet l d).pm = s.pm ∧
    (s.setDet l d).fault = s.fault ∧ (s.setDet l d).flash = s.flash ∧ (s.setDet l d).fuse = s.fuse ∧
    (s.setDet l d).sec = s.sec ∧ (s.setDet l d).snap = s.snap ∧ (s.setDet l d).encs = s.encs ∧
    (s.setDet l d).queues = s.queues ∧ (s.setDet l d).memory = s.memory ∧ (s.setDet l d).fio = s.fio ∧
    (s.setDet l d).time = s.time ∧ (s.setDet l d).cams = s.cams ∧ (s.setDet l d).ispOuts = s.ispOuts ∧
    (s.setDet l d).ispCtxs = s.ispCtxs ∧ (s.setDet l d).ispPipes = s.ispPipes ∧ (s.setDet l d).dec = s.dec ∧
    (s.setDet l d).job = s.job ∧ (s.setDet l d).lanes = s.lanes ∧ (s.setDet l d).macs = s.macs ∧
    (s.setDet l d).fab = s.fab ∧ (s.setDet l d).pending = s.pending :=
  ⟨rfl, rfl, rfl, rfl, rfl, rfl, rfl, rfl, rfl, rfl, rfl, rfl, rfl, rfl, rfl, rfl, rfl, rfl, rfl, rfl, rfl, rfl, rfl, rfl, rfl, rfl, rfl, rfl, rfl⟩

@[simp] theorem State.setComet_fields (s : State) (i : Nat) (c : Comet) :
    (s.setComet i c).regs = s.regs ∧ (s.setComet i c).pairLatch = s.pairLatch ∧
    (s.setComet i c).pairPend = s.pairPend ∧ (s.setComet i c).raw = s.raw ∧ (s.setComet i c).free = s.free ∧
    (s.setComet i c).mem = s.mem ∧ (s.setComet i c).core = s.core ∧ (s.setComet i c).host = s.host ∧
    (s.setComet i c).pm = s.pm ∧ (s.setComet i c).fault = s.fault ∧ (s.setComet i c).flash = s.flash ∧
    (s.setComet i c).fuse = s.fuse ∧ (s.setComet i c).sec = s.sec ∧ (s.setComet i c).snap = s.snap ∧
    (s.setComet i c).encs = s.encs ∧ (s.setComet i c).queues = s.queues ∧ (s.setComet i c).memory = s.memory ∧
    (s.setComet i c).fio = s.fio ∧ (s.setComet i c).time = s.time ∧ (s.setComet i c).cams = s.cams ∧
    (s.setComet i c).ispOuts = s.ispOuts ∧ (s.setComet i c).ispCtxs = s.ispCtxs ∧
    (s.setComet i c).ispPipes = s.ispPipes ∧ (s.setComet i c).dec = s.dec ∧ (s.setComet i c).job = s.job ∧
    (s.setComet i c).lanes = s.lanes ∧ (s.setComet i c).macs = s.macs ∧ (s.setComet i c).fab = s.fab ∧
    (s.setComet i c).pending = s.pending :=
  ⟨rfl, rfl, rfl, rfl, rfl, rfl, rfl, rfl, rfl, rfl, rfl, rfl, rfl, rfl, rfl, rfl, rfl, rfl, rfl, rfl, rfl, rfl, rfl, rfl, rfl, rfl, rfl, rfl, rfl⟩

@[simp] theorem State.setGroup_fields (s : State) (g : Nat) (x : Group) :
    (s.setGroup g x).regs = s.regs ∧ (s.setGroup g x).pairLatch = s.pairLatch ∧
    (s.setGroup g x).pairPend = s.pairPend ∧ (s.setGroup g x).raw = s.raw ∧ (s.setGroup g x).free = s.free ∧
    (s.setGroup g x).mem = s.mem ∧ (s.setGroup g x).core = s.core ∧ (s.setGroup g x).host = s.host ∧
    (s.setGroup g x).pm = s.pm ∧ (s.setGroup g x).fault = s.fault ∧ (s.setGroup g x).flash = s.flash ∧
    (s.setGroup g x).fuse = s.fuse ∧ (s.setGroup g x).sec = s.sec ∧ (s.setGroup g x).snap = s.snap ∧
    (s.setGroup g x).encs = s.encs ∧ (s.setGroup g x).queues = s.queues ∧ (s.setGroup g x).memory = s.memory ∧
    (s.setGroup g x).fio = s.fio ∧ (s.setGroup g x).time = s.time ∧ (s.setGroup g x).cams = s.cams ∧
    (s.setGroup g x).ispOuts = s.ispOuts ∧ (s.setGroup g x).ispCtxs = s.ispCtxs ∧
    (s.setGroup g x).ispPipes = s.ispPipes ∧ (s.setGroup g x).dec = s.dec ∧ (s.setGroup g x).job = s.job ∧
    (s.setGroup g x).lanes = s.lanes ∧ (s.setGroup g x).macs = s.macs ∧ (s.setGroup g x).fab = s.fab ∧
    (s.setGroup g x).pending = s.pending :=
  ⟨rfl, rfl, rfl, rfl, rfl, rfl, rfl, rfl, rfl, rfl, rfl, rfl, rfl, rfl, rfl, rfl, rfl, rfl, rfl, rfl, rfl, rfl, rfl, rfl, rfl, rfl, rfl, rfl, rfl⟩

@[simp] theorem State.setCam_fields (s : State) (n : Nat) (c : CamPort) :
    (s.setCam n c).regs = s.regs ∧ (s.setCam n c).pairLatch = s.pairLatch ∧ (s.setCam n c).pairPend = s.pairPend ∧
    (s.setCam n c).raw = s.raw ∧ (s.setCam n c).free = s.free ∧ (s.setCam n c).mem = s.mem ∧
    (s.setCam n c).core = s.core ∧ (s.setCam n c).host = s.host ∧ (s.setCam n c).pm = s.pm ∧
    (s.setCam n c).fault = s.fault ∧ (s.setCam n c).flash = s.flash ∧ (s.setCam n c).fuse = s.fuse ∧
    (s.setCam n c).sec = s.sec ∧ (s.setCam n c).snap = s.snap ∧ (s.setCam n c).encs = s.encs ∧
    (s.setCam n c).queues = s.queues ∧ (s.setCam n c).memory = s.memory ∧ (s.setCam n c).wt = s.wt ∧
    (s.setCam n c).fio = s.fio ∧ (s.setCam n c).time = s.time ∧ (s.setCam n c).ispOuts = s.ispOuts ∧
    (s.setCam n c).ispCtxs = s.ispCtxs ∧ (s.setCam n c).ispPipes = s.ispPipes ∧ (s.setCam n c).dec = s.dec ∧
    (s.setCam n c).job = s.job ∧ (s.setCam n c).lanes = s.lanes ∧ (s.setCam n c).macs = s.macs ∧
    (s.setCam n c).fab = s.fab ∧ (s.setCam n c).pending = s.pending :=
  ⟨rfl, rfl, rfl, rfl, rfl, rfl, rfl, rfl, rfl, rfl, rfl, rfl, rfl, rfl, rfl, rfl, rfl, rfl, rfl, rfl, rfl, rfl, rfl, rfl, rfl, rfl, rfl, rfl, rfl⟩

@[simp] theorem State.setMac_fields (s : State) (m : Nat) (x : MacSt) :
    (s.setMac m x).regs = s.regs ∧ (s.setMac m x).pairLatch = s.pairLatch ∧ (s.setMac m x).pairPend = s.pairPend ∧
    (s.setMac m x).raw = s.raw ∧ (s.setMac m x).free = s.free ∧ (s.setMac m x).mem = s.mem ∧
    (s.setMac m x).core = s.core ∧ (s.setMac m x).host = s.host ∧ (s.setMac m x).pm = s.pm ∧
    (s.setMac m x).fault = s.fault ∧ (s.setMac m x).flash = s.flash ∧ (s.setMac m x).fuse = s.fuse ∧
    (s.setMac m x).sec = s.sec ∧ (s.setMac m x).snap = s.snap ∧ (s.setMac m x).encs = s.encs ∧
    (s.setMac m x).queues = s.queues ∧ (s.setMac m x).memory = s.memory ∧ (s.setMac m x).wt = s.wt ∧
    (s.setMac m x).fio = s.fio ∧ (s.setMac m x).time = s.time ∧ (s.setMac m x).cams = s.cams ∧
    (s.setMac m x).ispOuts = s.ispOuts ∧ (s.setMac m x).ispCtxs = s.ispCtxs ∧ (s.setMac m x).ispPipes = s.ispPipes ∧
    (s.setMac m x).dec = s.dec ∧ (s.setMac m x).job = s.job ∧ (s.setMac m x).lanes = s.lanes ∧
    (s.setMac m x).fab = s.fab ∧ (s.setMac m x).pending = s.pending :=
  ⟨rfl, rfl, rfl, rfl, rfl, rfl, rfl, rfl, rfl, rfl, rfl, rfl, rfl, rfl, rfl, rfl, rfl, rfl, rfl, rfl, rfl, rfl, rfl, rfl, rfl, rfl, rfl, rfl, rfl⟩

@[simp] theorem State.macSend_fields (s : State) (m : Nat) (f : TxFrame) :
    (s.macSend m f).regs = s.regs ∧ (s.macSend m f).pairLatch = s.pairLatch ∧ (s.macSend m f).pairPend = s.pairPend ∧
    (s.macSend m f).raw = s.raw ∧ (s.macSend m f).free = s.free ∧ (s.macSend m f).mem = s.mem ∧
    (s.macSend m f).core = s.core ∧ (s.macSend m f).host = s.host ∧ (s.macSend m f).pm = s.pm ∧
    (s.macSend m f).fault = s.fault ∧ (s.macSend m f).flash = s.flash ∧ (s.macSend m f).fuse = s.fuse ∧
    (s.macSend m f).sec = s.sec ∧ (s.macSend m f).snap = s.snap ∧ (s.macSend m f).encs = s.encs ∧
    (s.macSend m f).queues = s.queues ∧ (s.macSend m f).memory = s.memory ∧ (s.macSend m f).wt = s.wt ∧
    (s.macSend m f).fio = s.fio ∧ (s.macSend m f).time = s.time ∧ (s.macSend m f).cams = s.cams ∧
    (s.macSend m f).ispOuts = s.ispOuts ∧ (s.macSend m f).ispCtxs = s.ispCtxs ∧
    (s.macSend m f).ispPipes = s.ispPipes ∧ (s.macSend m f).dec = s.dec ∧ (s.macSend m f).job = s.job ∧
    (s.macSend m f).lanes = s.lanes ∧ (s.macSend m f).fab = s.fab ∧ (s.macSend m f).pending = s.pending :=
  ⟨rfl, rfl, rfl, rfl, rfl, rfl, rfl, rfl, rfl, rfl, rfl, rfl, rfl, rfl, rfl, rfl, rfl, rfl, rfl, rfl, rfl, rfl, rfl, rfl, rfl, rfl, rfl, rfl, rfl⟩

@[simp] theorem State.setLane_fields (s : State) (l : Nat) (x : LaneSt) :
    (s.setLane l x).regs = s.regs ∧ (s.setLane l x).pairLatch = s.pairLatch ∧ (s.setLane l x).pairPend = s.pairPend ∧
    (s.setLane l x).raw = s.raw ∧ (s.setLane l x).free = s.free ∧ (s.setLane l x).mem = s.mem ∧
    (s.setLane l x).core = s.core ∧ (s.setLane l x).host = s.host ∧ (s.setLane l x).pm = s.pm ∧
    (s.setLane l x).fault = s.fault ∧ (s.setLane l x).flash = s.flash ∧ (s.setLane l x).fuse = s.fuse ∧
    (s.setLane l x).sec = s.sec ∧ (s.setLane l x).snap = s.snap ∧ (s.setLane l x).encs = s.encs ∧
    (s.setLane l x).queues = s.queues ∧ (s.setLane l x).memory = s.memory ∧ (s.setLane l x).wt = s.wt ∧
    (s.setLane l x).fio = s.fio ∧ (s.setLane l x).time = s.time ∧ (s.setLane l x).cams = s.cams ∧
    (s.setLane l x).ispOuts = s.ispOuts ∧ (s.setLane l x).ispCtxs = s.ispCtxs ∧
    (s.setLane l x).ispPipes = s.ispPipes ∧ (s.setLane l x).dec = s.dec ∧ (s.setLane l x).job = s.job ∧
    (s.setLane l x).macs = s.macs ∧ (s.setLane l x).fab = s.fab ∧ (s.setLane l x).pending = s.pending :=
  ⟨rfl, rfl, rfl, rfl, rfl, rfl, rfl, rfl, rfl, rfl, rfl, rfl, rfl, rfl, rfl, rfl, rfl, rfl, rfl, rfl, rfl, rfl, rfl, rfl, rfl, rfl, rfl, rfl, rfl⟩

@[simp] theorem State.setLink_fields (s : State) (j : Nat) (x : LinkSt) :
    (s.setLink j x).regs = s.regs ∧ (s.setLink j x).pairLatch = s.pairLatch ∧ (s.setLink j x).pairPend = s.pairPend ∧
    (s.setLink j x).raw = s.raw ∧ (s.setLink j x).free = s.free ∧ (s.setLink j x).mem = s.mem ∧
    (s.setLink j x).core = s.core ∧ (s.setLink j x).host = s.host ∧ (s.setLink j x).pm = s.pm ∧
    (s.setLink j x).fault = s.fault ∧ (s.setLink j x).flash = s.flash ∧ (s.setLink j x).fuse = s.fuse ∧
    (s.setLink j x).sec = s.sec ∧ (s.setLink j x).snap = s.snap ∧ (s.setLink j x).encs = s.encs ∧
    (s.setLink j x).queues = s.queues ∧ (s.setLink j x).memory = s.memory ∧ (s.setLink j x).wt = s.wt ∧
    (s.setLink j x).fio = s.fio ∧ (s.setLink j x).time = s.time ∧ (s.setLink j x).cams = s.cams ∧
    (s.setLink j x).ispOuts = s.ispOuts ∧ (s.setLink j x).ispCtxs = s.ispCtxs ∧
    (s.setLink j x).ispPipes = s.ispPipes ∧ (s.setLink j x).dec = s.dec ∧ (s.setLink j x).job = s.job ∧
    (s.setLink j x).lanes = s.lanes ∧ (s.setLink j x).macs = s.macs ∧ (s.setLink j x).pending = s.pending :=
  ⟨rfl, rfl, rfl, rfl, rfl, rfl, rfl, rfl, rfl, rfl, rfl, rfl, rfl, rfl, rfl, rfl, rfl, rfl, rfl, rfl, rfl, rfl, rfl, rfl, rfl, rfl, rfl, rfl, rfl⟩

@[simp] theorem State.setJob_fields (s : State) (h : Nat) (j : Job) :
    (s.setJob h j).regs = s.regs ∧ (s.setJob h j).pairLatch = s.pairLatch ∧ (s.setJob h j).pairPend = s.pairPend ∧
    (s.setJob h j).raw = s.raw ∧ (s.setJob h j).free = s.free ∧ (s.setJob h j).mem = s.mem ∧
    (s.setJob h j).core = s.core ∧ (s.setJob h j).host = s.host ∧ (s.setJob h j).pm = s.pm ∧
    (s.setJob h j).fault = s.fault ∧ (s.setJob h j).flash = s.flash ∧ (s.setJob h j).fuse = s.fuse ∧
    (s.setJob h j).sec = s.sec ∧ (s.setJob h j).snap = s.snap ∧ (s.setJob h j).encs = s.encs ∧
    (s.setJob h j).queues = s.queues ∧ (s.setJob h j).memory = s.memory ∧ (s.setJob h j).wt = s.wt ∧
    (s.setJob h j).fio = s.fio ∧ (s.setJob h j).time = s.time ∧ (s.setJob h j).cams = s.cams ∧
    (s.setJob h j).ispOuts = s.ispOuts ∧ (s.setJob h j).ispCtxs = s.ispCtxs ∧ (s.setJob h j).ispPipes = s.ispPipes ∧
    (s.setJob h j).dec = s.dec ∧ (s.setJob h j).lanes = s.lanes ∧ (s.setJob h j).macs = s.macs ∧
    (s.setJob h j).fab = s.fab ∧ (s.setJob h j).pending = s.pending :=
  ⟨rfl, rfl, rfl, rfl, rfl, rfl, rfl, rfl, rfl, rfl, rfl, rfl, rfl, rfl, rfl, rfl, rfl, rfl, rfl, rfl, rfl, rfl, rfl, rfl, rfl, rfl, rfl, rfl, rfl⟩

@[simp] theorem State.setCtx_fields (s : State) (h u : Nat) (c : Ctx) :
    (s.setCtx h u c).regs = s.regs ∧ (s.setCtx h u c).pairLatch = s.pairLatch ∧
    (s.setCtx h u c).pairPend = s.pairPend ∧ (s.setCtx h u c).raw = s.raw ∧ (s.setCtx h u c).free = s.free ∧
    (s.setCtx h u c).mem = s.mem ∧ (s.setCtx h u c).core = s.core ∧ (s.setCtx h u c).host = s.host ∧
    (s.setCtx h u c).pm = s.pm ∧ (s.setCtx h u c).fault = s.fault ∧ (s.setCtx h u c).flash = s.flash ∧
    (s.setCtx h u c).fuse = s.fuse ∧ (s.setCtx h u c).sec = s.sec ∧ (s.setCtx h u c).snap = s.snap ∧
    (s.setCtx h u c).encs = s.encs ∧ (s.setCtx h u c).queues = s.queues ∧ (s.setCtx h u c).memory = s.memory ∧
    (s.setCtx h u c).wt = s.wt ∧ (s.setCtx h u c).fio = s.fio ∧ (s.setCtx h u c).time = s.time ∧
    (s.setCtx h u c).cams = s.cams ∧ (s.setCtx h u c).ispOuts = s.ispOuts ∧ (s.setCtx h u c).ispCtxs = s.ispCtxs ∧
    (s.setCtx h u c).ispPipes = s.ispPipes ∧ (s.setCtx h u c).dec = s.dec ∧ (s.setCtx h u c).lanes = s.lanes ∧
    (s.setCtx h u c).macs = s.macs ∧ (s.setCtx h u c).fab = s.fab ∧ (s.setCtx h u c).pending = s.pending :=
  ⟨rfl, rfl, rfl, rfl, rfl, rfl, rfl, rfl, rfl, rfl, rfl, rfl, rfl, rfl, rfl, rfl, rfl, rfl, rfl, rfl, rfl, rfl, rfl, rfl, rfl, rfl, rfl, rfl, rfl⟩

@[simp] theorem State.setEngine_fields (s : State) (e : Nat) (x : Engine) :
    (s.setEngine e x).regs = s.regs ∧ (s.setEngine e x).pairLatch = s.pairLatch ∧
    (s.setEngine e x).pairPend = s.pairPend ∧ (s.setEngine e x).raw = s.raw ∧ (s.setEngine e x).free = s.free ∧
    (s.setEngine e x).mem = s.mem ∧ (s.setEngine e x).core = s.core ∧ (s.setEngine e x).host = s.host ∧
    (s.setEngine e x).pm = s.pm ∧ (s.setEngine e x).fault = s.fault ∧ (s.setEngine e x).flash = s.flash ∧
    (s.setEngine e x).fuse = s.fuse ∧ (s.setEngine e x).sec = s.sec ∧ (s.setEngine e x).snap = s.snap ∧
    (s.setEngine e x).encs = s.encs ∧ (s.setEngine e x).queues = s.queues ∧ (s.setEngine e x).memory = s.memory ∧
    (s.setEngine e x).wt = s.wt ∧ (s.setEngine e x).fio = s.fio ∧ (s.setEngine e x).time = s.time ∧
    (s.setEngine e x).cams = s.cams ∧ (s.setEngine e x).ispOuts = s.ispOuts ∧ (s.setEngine e x).ispCtxs = s.ispCtxs ∧
    (s.setEngine e x).ispPipes = s.ispPipes ∧ (s.setEngine e x).dec = s.dec ∧ (s.setEngine e x).lanes = s.lanes ∧
    (s.setEngine e x).macs = s.macs ∧ (s.setEngine e x).fab = s.fab ∧ (s.setEngine e x).pending = s.pending :=
  ⟨rfl, rfl, rfl, rfl, rfl, rfl, rfl, rfl, rfl, rfl, rfl, rfl, rfl, rfl, rfl, rfl, rfl, rfl, rfl, rfl, rfl, rfl, rfl, rfl, rfl, rfl, rfl, rfl, rfl⟩

@[simp] theorem State.setIspOut_fields (s : State) (p o : Nat) (x : IspOut) :
    (s.setIspOut p o x).regs = s.regs ∧ (s.setIspOut p o x).pairLatch = s.pairLatch ∧
    (s.setIspOut p o x).pairPend = s.pairPend ∧ (s.setIspOut p o x).raw = s.raw ∧ (s.setIspOut p o x).free = s.free ∧
    (s.setIspOut p o x).mem = s.mem ∧ (s.setIspOut p o x).core = s.core ∧ (s.setIspOut p o x).host = s.host ∧
    (s.setIspOut p o x).pm = s.pm ∧ (s.setIspOut p o x).fault = s.fault ∧ (s.setIspOut p o x).flash = s.flash ∧
    (s.setIspOut p o x).fuse = s.fuse ∧ (s.setIspOut p o x).sec = s.sec ∧ (s.setIspOut p o x).snap = s.snap ∧
    (s.setIspOut p o x).encs = s.encs ∧ (s.setIspOut p o x).queues = s.queues ∧
    (s.setIspOut p o x).memory = s.memory ∧ (s.setIspOut p o x).wt = s.wt ∧ (s.setIspOut p o x).fio = s.fio ∧
    (s.setIspOut p o x).time = s.time ∧ (s.setIspOut p o x).cams = s.cams ∧ (s.setIspOut p o x).ispCtxs = s.ispCtxs ∧
    (s.setIspOut p o x).ispPipes = s.ispPipes ∧ (s.setIspOut p o x).dec = s.dec ∧ (s.setIspOut p o x).job = s.job ∧
    (s.setIspOut p o x).lanes = s.lanes ∧ (s.setIspOut p o x).macs = s.macs ∧ (s.setIspOut p o x).fab = s.fab ∧
    (s.setIspOut p o x).pending = s.pending :=
  ⟨rfl, rfl, rfl, rfl, rfl, rfl, rfl, rfl, rfl, rfl, rfl, rfl, rfl, rfl, rfl, rfl, rfl, rfl, rfl, rfl, rfl, rfl, rfl, rfl, rfl, rfl, rfl, rfl, rfl⟩

@[simp] theorem State.setIspCtx_fields (s : State) (p c : Nat) (x : IspCtx) :
    (s.setIspCtx p c x).regs = s.regs ∧ (s.setIspCtx p c x).pairLatch = s.pairLatch ∧
    (s.setIspCtx p c x).pairPend = s.pairPend ∧ (s.setIspCtx p c x).raw = s.raw ∧ (s.setIspCtx p c x).free = s.free ∧
    (s.setIspCtx p c x).mem = s.mem ∧ (s.setIspCtx p c x).core = s.core ∧ (s.setIspCtx p c x).host = s.host ∧
    (s.setIspCtx p c x).pm = s.pm ∧ (s.setIspCtx p c x).fault = s.fault ∧ (s.setIspCtx p c x).flash = s.flash ∧
    (s.setIspCtx p c x).fuse = s.fuse ∧ (s.setIspCtx p c x).sec = s.sec ∧ (s.setIspCtx p c x).snap = s.snap ∧
    (s.setIspCtx p c x).encs = s.encs ∧ (s.setIspCtx p c x).queues = s.queues ∧
    (s.setIspCtx p c x).memory = s.memory ∧ (s.setIspCtx p c x).wt = s.wt ∧ (s.setIspCtx p c x).fio = s.fio ∧
    (s.setIspCtx p c x).time = s.time ∧ (s.setIspCtx p c x).cams = s.cams ∧ (s.setIspCtx p c x).ispOuts = s.ispOuts ∧
    (s.setIspCtx p c x).ispPipes = s.ispPipes ∧ (s.setIspCtx p c x).dec = s.dec ∧ (s.setIspCtx p c x).job = s.job ∧
    (s.setIspCtx p c x).lanes = s.lanes ∧ (s.setIspCtx p c x).macs = s.macs ∧ (s.setIspCtx p c x).fab = s.fab ∧
    (s.setIspCtx p c x).pending = s.pending :=
  ⟨rfl, rfl, rfl, rfl, rfl, rfl, rfl, rfl, rfl, rfl, rfl, rfl, rfl, rfl, rfl, rfl, rfl, rfl, rfl, rfl, rfl, rfl, rfl, rfl, rfl, rfl, rfl, rfl, rfl⟩

@[simp] theorem State.setIspPipe_fields (s : State) (p : Nat) (x : IspPipe) :
    (s.setIspPipe p x).regs = s.regs ∧ (s.setIspPipe p x).pairLatch = s.pairLatch ∧
    (s.setIspPipe p x).pairPend = s.pairPend ∧ (s.setIspPipe p x).raw = s.raw ∧ (s.setIspPipe p x).free = s.free ∧
    (s.setIspPipe p x).mem = s.mem ∧ (s.setIspPipe p x).core = s.core ∧ (s.setIspPipe p x).host = s.host ∧
    (s.setIspPipe p x).pm = s.pm ∧ (s.setIspPipe p x).fault = s.fault ∧ (s.setIspPipe p x).flash = s.flash ∧
    (s.setIspPipe p x).fuse = s.fuse ∧ (s.setIspPipe p x).sec = s.sec ∧ (s.setIspPipe p x).snap = s.snap ∧
    (s.setIspPipe p x).encs = s.encs ∧ (s.setIspPipe p x).queues = s.queues ∧ (s.setIspPipe p x).memory = s.memory ∧
    (s.setIspPipe p x).wt = s.wt ∧ (s.setIspPipe p x).fio = s.fio ∧ (s.setIspPipe p x).time = s.time ∧
    (s.setIspPipe p x).cams = s.cams ∧ (s.setIspPipe p x).ispOuts = s.ispOuts ∧
    (s.setIspPipe p x).ispCtxs = s.ispCtxs ∧ (s.setIspPipe p x).dec = s.dec ∧ (s.setIspPipe p x).job = s.job ∧
    (s.setIspPipe p x).lanes = s.lanes ∧ (s.setIspPipe p x).macs = s.macs ∧ (s.setIspPipe p x).fab = s.fab ∧
    (s.setIspPipe p x).pending = s.pending :=
  ⟨rfl, rfl, rfl, rfl, rfl, rfl, rfl, rfl, rfl, rfl, rfl, rfl, rfl, rfl, rfl, rfl, rfl, rfl, rfl, rfl, rfl, rfl, rfl, rfl, rfl, rfl, rfl, rfl, rfl⟩

@[simp] theorem State.setStream_fields (s : State) (n : Nat) (x : DecStream) :
    (s.setStream n x).regs = s.regs ∧ (s.setStream n x).pairLatch = s.pairLatch ∧
    (s.setStream n x).pairPend = s.pairPend ∧ (s.setStream n x).raw = s.raw ∧ (s.setStream n x).free = s.free ∧
    (s.setStream n x).mem = s.mem ∧ (s.setStream n x).core = s.core ∧ (s.setStream n x).host = s.host ∧
    (s.setStream n x).pm = s.pm ∧ (s.setStream n x).fault = s.fault ∧ (s.setStream n x).flash = s.flash ∧
    (s.setStream n x).fuse = s.fuse ∧ (s.setStream n x).sec = s.sec ∧ (s.setStream n x).snap = s.snap ∧
    (s.setStream n x).encs = s.encs ∧ (s.setStream n x).queues = s.queues ∧ (s.setStream n x).memory = s.memory ∧
    (s.setStream n x).wt = s.wt ∧ (s.setStream n x).fio = s.fio ∧ (s.setStream n x).time = s.time ∧
    (s.setStream n x).cams = s.cams ∧ (s.setStream n x).ispOuts = s.ispOuts ∧ (s.setStream n x).ispCtxs = s.ispCtxs ∧
    (s.setStream n x).ispPipes = s.ispPipes ∧ (s.setStream n x).job = s.job ∧ (s.setStream n x).lanes = s.lanes ∧
    (s.setStream n x).macs = s.macs ∧ (s.setStream n x).fab = s.fab ∧ (s.setStream n x).pending = s.pending :=
  ⟨rfl, rfl, rfl, rfl, rfl, rfl, rfl, rfl, rfl, rfl, rfl, rfl, rfl, rfl, rfl, rfl, rfl, rfl, rfl, rfl, rfl, rfl, rfl, rfl, rfl, rfl, rfl, rfl, rfl⟩

@[simp] theorem State.poke_fields (s : State) (pa : Nat) (b : Byte) :
    (s.poke pa b).regs = s.regs ∧ (s.poke pa b).pairLatch = s.pairLatch ∧ (s.poke pa b).pairPend = s.pairPend ∧
    (s.poke pa b).raw = s.raw ∧ (s.poke pa b).free = s.free ∧ (s.poke pa b).core = s.core ∧
    (s.poke pa b).host = s.host ∧ (s.poke pa b).pm = s.pm ∧ (s.poke pa b).fault = s.fault ∧
    (s.poke pa b).flash = s.flash ∧ (s.poke pa b).fuse = s.fuse ∧ (s.poke pa b).sec = s.sec ∧
    (s.poke pa b).snap = s.snap ∧ (s.poke pa b).encs = s.encs ∧ (s.poke pa b).queues = s.queues ∧
    (s.poke pa b).memory = s.memory ∧ (s.poke pa b).wt = s.wt ∧ (s.poke pa b).fio = s.fio ∧
    (s.poke pa b).time = s.time ∧ (s.poke pa b).cams = s.cams ∧ (s.poke pa b).ispOuts = s.ispOuts ∧
    (s.poke pa b).ispCtxs = s.ispCtxs ∧ (s.poke pa b).ispPipes = s.ispPipes ∧ (s.poke pa b).dec = s.dec ∧
    (s.poke pa b).job = s.job ∧ (s.poke pa b).lanes = s.lanes ∧ (s.poke pa b).macs = s.macs ∧
    (s.poke pa b).fab = s.fab ∧ (s.poke pa b).pending = s.pending :=
  ⟨rfl, rfl, rfl, rfl, rfl, rfl, rfl, rfl, rfl, rfl, rfl, rfl, rfl, rfl, rfl, rfl, rfl, rfl, rfl, rfl, rfl, rfl, rfl, rfl, rfl, rfl, rfl, rfl, rfl⟩

/-! ### Registers after an update of a unit -/

@[simp] theorem State.rd_setEnc (s : State) (n : Nat) (c : EncCh) (r' : RegRow) (i' j' k' : Nat) :
    (s.setEnc n c).rd r' i' j' k' = s.rd r' i' j' k' := rfl
@[simp] theorem State.rd_setQueue (s : State) (q : Nat) (x : Queue) (r' : RegRow) (i' j' k' : Nat) :
    (s.setQueue q x).rd r' i' j' k' = s.rd r' i' j' k' := rfl
@[simp] theorem State.rd_setDout (s : State) (n : Nat) (x : DoSt) (r' : RegRow) (i' j' k' : Nat) :
    (s.setDout n x).rd r' i' j' k' = s.rd r' i' j' k' := rfl
@[simp] theorem State.rd_setDin (s : State) (n : Nat) (x : DiSt) (r' : RegRow) (i' j' k' : Nat) :
    (s.setDin n x).rd r' i' j' k' = s.rd r' i' j' k' := rfl
@[simp] theorem State.rd_setDet (s : State) (l : Nat) (d : Detector) (r' : RegRow) (i' j' k' : Nat) :
    (s.setDet l d).rd r' i' j' k' = s.rd r' i' j' k' := rfl
@[simp] theorem State.rd_setComet (s : State) (i : Nat) (c : Comet) (r' : RegRow) (i' j' k' : Nat) :
    (s.setComet i c).rd r' i' j' k' = s.rd r' i' j' k' := rfl
@[simp] theorem State.rd_setGroup (s : State) (g : Nat) (x : Group) (r' : RegRow) (i' j' k' : Nat) :
    (s.setGroup g x).rd r' i' j' k' = s.rd r' i' j' k' := rfl
@[simp] theorem State.rd_setCam (s : State) (n : Nat) (c : CamPort) (r' : RegRow) (i' j' k' : Nat) :
    (s.setCam n c).rd r' i' j' k' = s.rd r' i' j' k' := rfl
@[simp] theorem State.rd_setMac (s : State) (m : Nat) (x : MacSt) (r' : RegRow) (i' j' k' : Nat) :
    (s.setMac m x).rd r' i' j' k' = s.rd r' i' j' k' := rfl
@[simp] theorem State.rd_macSend (s : State) (m : Nat) (f : TxFrame) (r' : RegRow) (i' j' k' : Nat) :
    (s.macSend m f).rd r' i' j' k' = s.rd r' i' j' k' := rfl
@[simp] theorem State.rd_setLane (s : State) (l : Nat) (x : LaneSt) (r' : RegRow) (i' j' k' : Nat) :
    (s.setLane l x).rd r' i' j' k' = s.rd r' i' j' k' := rfl
@[simp] theorem State.rd_setLink (s : State) (j : Nat) (x : LinkSt) (r' : RegRow) (i' j' k' : Nat) :
    (s.setLink j x).rd r' i' j' k' = s.rd r' i' j' k' := rfl
@[simp] theorem State.rd_setJob (s : State) (h : Nat) (j : Job) (r' : RegRow) (i' j' k' : Nat) :
    (s.setJob h j).rd r' i' j' k' = s.rd r' i' j' k' := rfl
@[simp] theorem State.rd_setCtx (s : State) (h u : Nat) (c : Ctx) (r' : RegRow) (i' j' k' : Nat) :
    (s.setCtx h u c).rd r' i' j' k' = s.rd r' i' j' k' := rfl
@[simp] theorem State.rd_setEngine (s : State) (e : Nat) (x : Engine) (r' : RegRow) (i' j' k' : Nat) :
    (s.setEngine e x).rd r' i' j' k' = s.rd r' i' j' k' := rfl
@[simp] theorem State.rd_setIspOut (s : State) (p o : Nat) (x : IspOut) (r' : RegRow) (i' j' k' : Nat) :
    (s.setIspOut p o x).rd r' i' j' k' = s.rd r' i' j' k' := rfl
@[simp] theorem State.rd_setIspCtx (s : State) (p c : Nat) (x : IspCtx) (r' : RegRow) (i' j' k' : Nat) :
    (s.setIspCtx p c x).rd r' i' j' k' = s.rd r' i' j' k' := rfl
@[simp] theorem State.rd_setIspPipe (s : State) (p : Nat) (x : IspPipe) (r' : RegRow) (i' j' k' : Nat) :
    (s.setIspPipe p x).rd r' i' j' k' = s.rd r' i' j' k' := rfl
@[simp] theorem State.rd_setStream (s : State) (n : Nat) (x : DecStream) (r' : RegRow) (i' j' k' : Nat) :
    (s.setStream n x).rd r' i' j' k' = s.rd r' i' j' k' := rfl
@[simp] theorem State.rd_poke (s : State) (pa : Nat) (b : Byte) (r' : RegRow) (i' j' k' : Nat) :
    (s.poke pa b).rd r' i' j' k' = s.rd r' i' j' k' := rfl

/-! ### A unit after its update -/

@[simp] theorem State.enc_setEnc (s : State) (n m : Nat) (c : EncCh) :
    (s.setEnc n c).enc m = if m = n then c else s.enc m := AMap.get_store _ _ _ _ _
@[simp] theorem State.queue_setQueue (s : State) (q m : Nat) (x : Queue) :
    (s.setQueue q x).queue m = if m = q then x else s.queue m := AMap.get_store _ _ _ _ _
@[simp] theorem State.dout_setDout (s : State) (n m : Nat) (x : DoSt) :
    (s.setDout n x).dout m = if m = n then x else s.dout m := AMap.get_store _ _ _ _ _
@[simp] theorem State.din_setDin (s : State) (n m : Nat) (x : DiSt) :
    (s.setDin n x).din m = if m = n then x else s.din m := AMap.get_store _ _ _ _ _
@[simp] theorem State.det_setDet (s : State) (l m : Nat) (d : Detector) :
    (s.setDet l d).det m = if m = l then d else s.det m := AMap.get_store _ _ _ _ _
@[simp] theorem State.group_setGroup (s : State) (g m : Nat) (x : Group) :
    (s.setGroup g x).group m = if m = g then x else s.group m := AMap.get_store _ _ _ _ _
@[simp] theorem State.cam_setCam (s : State) (n m : Nat) (c : CamPort) :
    (s.setCam n c).cam m = if m = n then c else s.cam m := AMap.get_store _ _ _ _ _
@[simp] theorem State.mac_setMac (s : State) (n m : Nat) (x : MacSt) :
    (s.setMac n x).mac m = if m = n then x else s.mac m := AMap.get_store _ _ _ _ _
@[simp] theorem State.lane_setLane (s : State) (l m : Nat) (x : LaneSt) :
    (s.setLane l x).lane m = if m = l then x else s.lane m := AMap.get_store _ _ _ _ _
@[simp] theorem State.link_setLink (s : State) (j m : Nat) (x : LinkSt) :
    (s.setLink j x).link m = if m = j then x else s.link m := AMap.get_store _ _ _ _ _
@[simp] theorem State.engine_setEngine (s : State) (e m : Nat) (x : Engine) :
    (s.setEngine e x).engine m = if m = e then x else s.engine m := AMap.get_store _ _ _ _ _
@[simp] theorem State.ispPipe_setIspPipe (s : State) (p m : Nat) (x : IspPipe) :
    (s.setIspPipe p x).ispPipe m = if m = p then x else s.ispPipe m := AMap.get_store _ _ _ _ _
@[simp] theorem State.stream_setStream (s : State) (n m : Nat) (x : DecStream) :
    (s.setStream n x).stream m = if m = n then x else s.stream m := AMap.get_store _ _ _ _ _
@[simp] theorem State.comet_setComet (s : State) (i m : Nat) (c : Comet) :
    (s.setComet i c).comet m = if m = i then some c else s.comet m := AMap.look_put _ _ _ _
@[simp] theorem State.jobOf_setJob (s : State) (h m : Nat) (j : Job) :
    (s.setJob h j).jobOf m = if m = h then some j else s.jobOf m := AMap.look_put _ _ _ _
@[simp] theorem State.ispCtx_setIspCtx_same (s : State) (p c : Nat) (x : IspCtx) :
    (s.setIspCtx p c x).ispCtx p c = x := AMap.get_store_same _ _ _ _
@[simp] theorem State.ispOut_setIspOut_same (s : State) (p o : Nat) (x : IspOut) :
    (s.setIspOut p o x).ispOut p o = x := AMap.get_store_same _ _ _ _
@[simp] theorem State.ctx_setCtx_same (s : State) (h u : Nat) (c : Ctx) :
    (s.setCtx h u c).ctx h u = c := AMap.get_store_same _ _ _ _
@[simp] theorem State.byte_poke (s : State) (pa a : Nat) (b : Byte) :
    (s.poke pa b).byte a = if a = pa then b else s.byte a := AMap.get_store _ _ _ _ _

/-! ### Units after a write of a register -/

@[simp] theorem State.enc_wr (s : State) (r : RegRow) (v : Word) (i j k n : Nat) :
    (s.wr r v i j k).enc n = s.enc n := rfl
@[simp] theorem State.queue_wr (s : State) (r : RegRow) (v : Word) (i j k n : Nat) :
    (s.wr r v i j k).queue n = s.queue n := rfl
@[simp] theorem State.dout_wr (s : State) (r : RegRow) (v : Word) (i j k n : Nat) :
    (s.wr r v i j k).dout n = s.dout n := rfl
@[simp] theorem State.din_wr (s : State) (r : RegRow) (v : Word) (i j k n : Nat) :
    (s.wr r v i j k).din n = s.din n := rfl
@[simp] theorem State.det_wr (s : State) (r : RegRow) (v : Word) (i j k n : Nat) :
    (s.wr r v i j k).det n = s.det n := rfl
@[simp] theorem State.comet_wr (s : State) (r : RegRow) (v : Word) (i j k n : Nat) :
    (s.wr r v i j k).comet n = s.comet n := rfl
@[simp] theorem State.group_wr (s : State) (r : RegRow) (v : Word) (i j k n : Nat) :
    (s.wr r v i j k).group n = s.group n := rfl
@[simp] theorem State.cam_wr (s : State) (r : RegRow) (v : Word) (i j k n : Nat) :
    (s.wr r v i j k).cam n = s.cam n := rfl
@[simp] theorem State.mac_wr (s : State) (r : RegRow) (v : Word) (i j k n : Nat) :
    (s.wr r v i j k).mac n = s.mac n := rfl
@[simp] theorem State.lane_wr (s : State) (r : RegRow) (v : Word) (i j k n : Nat) :
    (s.wr r v i j k).lane n = s.lane n := rfl
@[simp] theorem State.link_wr (s : State) (r : RegRow) (v : Word) (i j k n : Nat) :
    (s.wr r v i j k).link n = s.link n := rfl
@[simp] theorem State.jobOf_wr (s : State) (r : RegRow) (v : Word) (i j k n : Nat) :
    (s.wr r v i j k).jobOf n = s.jobOf n := rfl
@[simp] theorem State.engine_wr (s : State) (r : RegRow) (v : Word) (i j k n : Nat) :
    (s.wr r v i j k).engine n = s.engine n := rfl
@[simp] theorem State.ispPipe_wr (s : State) (r : RegRow) (v : Word) (i j k n : Nat) :
    (s.wr r v i j k).ispPipe n = s.ispPipe n := rfl
@[simp] theorem State.stream_wr (s : State) (r : RegRow) (v : Word) (i j k n : Nat) :
    (s.wr r v i j k).stream n = s.stream n := rfl
@[simp] theorem State.byte_wr (s : State) (r : RegRow) (v : Word) (i j k n : Nat) :
    (s.wr r v i j k).byte n = s.byte n := rfl
@[simp] theorem State.ispCtx_wr (s : State) (r : RegRow) (v : Word) (i j k n m : Nat) :
    (s.wr r v i j k).ispCtx n m = s.ispCtx n m := rfl
@[simp] theorem State.ispOut_wr (s : State) (r : RegRow) (v : Word) (i j k n m : Nat) :
    (s.wr r v i j k).ispOut n m = s.ispOut n m := rfl
@[simp] theorem State.ctx_wr (s : State) (r : RegRow) (v : Word) (i j k n m : Nat) :
    (s.wr r v i j k).ctx n m = s.ctx n m := rfl

end Sys2Proof.Machine
end

