-- ==== Sys2Proof/Laws/Mem.lean ====
section
/-!
SUPPORT. Laws of the memory operations: every store of bytes keeps the canonical form, a byte reads as it was stored last,
and a run of bytes reads back whole.
-/
namespace Sys2Proof.Machine

open Sys2Proof

/-! ### The canonical form -/

theorem poke_wf {s : State} (h : Memory.wf s.mem) (a : Nat) (v : Byte) : Memory.wf (s.poke a v).mem :=
  AMap.canon_store h a v

theorem pokes_wf {s : State} (h : Memory.wf s.mem) (a : Nat) (l : List Byte) : Memory.wf (s.pokes a l).mem := by
  induction l generalizing s a with
  | nil => exact h
  | cons b t ih => exact ih (poke_wf h a b) (a + 1)

theorem forAll_poke_wf {α : Type} {s : State} (h : Memory.wf s.mem) (l : List α) (a : α → Nat) (v : α → Byte) :
    Memory.wf (s.forAll l (fun x t => t.poke (a x) (v x))).mem := by
  unfold State.forAll
  induction l generalizing s with
  | nil => exact h
  | cons x t ih => exact ih (poke_wf h _ _)

theorem mergeBytes_wf {s : State} (h : Memory.wf s.mem) (e : MergeEnt) : Memory.wf (s.mergeBytes e).mem :=
  forAll_poke_wf h _ _ _

@[simp] theorem setErrs_mem (s : State) (m : AMap SectorErr) : (s.setErrs m).mem = s.mem := rfl

@[simp] theorem sectorStored_mem (s : State) (x : Nat) : (s.sectorStored x).mem = s.mem := by
  unfold State.sectorStored
  repeat' split
  all_goals rfl

theorem copyPage_wf {s : State} (h : Memory.wf s.mem) (src dst n : Nat) : Memory.wf (s.copyPage src dst n).mem := by
  unfold State.copyPage
  extract_lets cells s1 s2
  have h1 : Memory.wf s1.mem := AMap.canon_filter h _
  exact forAll_poke_wf h1 cells (fun c => dst + (c.1 - src)) (fun c => c.2)

/-! ### Bytes after a store -/

theorem byte_poke (s : State) (a b : Nat) (v : Byte) : (s.poke a v).byte b = if b = a then v else s.byte b :=
  AMap.get_store s.mem 0 a b v

/-- A byte outside a run of stores keeps its value. -/
theorem byte_pokes_outside (s : State) (a b : Nat) (l : List Byte) (h : b < a ∨ a + l.length ≤ b) :
    (s.pokes a l).byte b = s.byte b := by
  induction l generalizing s a with
  | nil => rfl
  | cons x t ih =>
    rw [List.length_cons] at h
    show ((s.poke a x).pokes (a + 1) t).byte b = _
    rw [ih _ _ (by omega), byte_poke, if_neg (by omega)]

/-- A byte inside a run of stores reads as it was stored. -/
theorem byte_pokes_inside (s : State) (a i : Nat) (l : List Byte) (h : i < l.length) :
    (s.pokes a l).byte (a + i) = l[i] := by
  induction l generalizing s a i with
  | nil => cases h
  | cons x t ih =>
    show ((s.poke a x).pokes (a + 1) t).byte (a + i) = _
    cases i with
    | zero => rw [byte_pokes_outside _ _ _ _ (.inl (by omega)), byte_poke, if_pos (by omega)]; rfl
    | succ n =>
      rw [show a + (n + 1) = a + 1 + n by omega, ih _ _ _ (by simpa using h)]
      rfl

/-- A run of bytes reads back whole. -/
theorem peek_pokes (s : State) (a : Nat) (l : List Byte) : (s.pokes a l).peek a l.length = l := by
  apply List.ext_getElem
  · simp [State.peek, upTo]
  · intro i h1 h2
    simp only [State.peek, upTo, List.getElem_map, List.getElem_range]
    exact byte_pokes_inside s a i l h2

/-- A run of bytes beside a run of stores keeps its values. -/
theorem peek_pokes_outside (s : State) (a b n : Nat) (l : List Byte) (h : b + n ≤ a ∨ a + l.length ≤ b) :
    (s.pokes a l).peek b n = s.peek b n := by
  apply List.ext_getElem
  · simp [State.peek, upTo]
  · intro i h1 h2
    have hn : i < n := by simpa [State.peek, upTo] using h2
    simp only [State.peek, upTo, List.getElem_map, List.getElem_range]
    exact byte_pokes_outside s a _ l (by omega)

/-- A store of bytes changes nothing but memory. -/
theorem pokes_keeps {β : Type} (p : State → β) (hp : ∀ s a v, p (State.poke s a v) = p s) (s : State) (a : Nat)
    (l : List Byte) : p (s.pokes a l) = p s := by
  induction l generalizing s a with
  | nil => rfl
  | cons b t ih => exact (ih (s.poke a b) (a + 1)).trans (hp s a b)

end Sys2Proof.Machine
end

