-- ==== Sys2Proof/Laws/Lawful.lean ====
section
/-!
SUPPORT. What every operation leaves as it must be: the queue of waiting commands, the canonical form of memory, and the fuses
that are burnt. The files LawfulUnits to LawfulAccess prove it of each operation and of each command, in the order of the model's
files.
-/
namespace Sys2Proof.Machine

open Sys2Proof

/-- `t` comes from `s` by operations that leave the queue of commands, keep memory canonical and restore no fuse. -/
def Lawful (s t : State) : Prop :=
  t.pending = s.pending ∧ (Memory.wf s.mem → Memory.wf t.mem) ∧ s.fuse.minSvn ≤ t.fuse.minSvn ∧
    (∀ i, s.fuse.rootRevoked.getLsbD i = true → t.fuse.rootRevoked.getLsbD i = true) ∧
    (∀ d, s.fuse.owner = some d → t.fuse.owner = some d)

/-! ### States -/

theorem lawful_refl (s : State) : Lawful s s := ⟨rfl, id, Nat.le_refl _, fun _ => id, fun _ => id⟩

theorem lawful_of {s t u : State} (h : Lawful s t) (hp : u.pending = t.pending) (hm : u.mem = t.mem)
    (hf : u.fuse = t.fuse) : Lawful s u := by
  obtain ⟨a, b, c⟩ := h
  exact ⟨hp.trans a, fun x => hm ▸ b x, hf ▸ c⟩

/-- A record update that keeps queue, memory and fuses is lawful where the state before it is. -/
theorem lawful_mk {s0 t : State} (a1 a2 a3 a4 a5 a7 a8 a9 a10 a11 a13 a14 a15 a16 a17 a18 a19 a20 a21 a22 a23 a24 a25 a26
    a27 a28 a29) :
    Lawful s0 (State.mk a1 a2 a3 a4 a5 t.mem a7 a8 a9 a10 a11 t.fuse a13 a14 a15 a16 a17 a18 a19 a20 a21 a22 a23 a24 a25
      a26 a27 a28 a29 t.pending) ↔ Lawful s0 t := Iff.rfl

/-! ### Branches, pairs and folds -/

theorem ite_lawful {s0 a b : State} {c : Prop} [Decidable c] (ha : Lawful s0 a) (hb : Lawful s0 b) :
    Lawful s0 (if c then a else b) := by
  split <;> assumption

theorem iteP_lawful {β : Type} {s0 : State} {a b : State × β} {c : Prop} [Decidable c] (ha : Lawful s0 a.1)
    (hb : Lawful s0 b.1) : Lawful s0 (if c then a else b).1 := by
  split <;> assumption

theorem fst_lawful {β : Type} {s0 t : State} {b : β} {p : State × β} (e : p = (t, b)) (h : Lawful s0 p.1) :
    Lawful s0 t := by
  rw [e] at h
  exact h

theorem snd_lawful {β : Type} {s0 t : State} {b : β} {p : β × State} (e : p = (b, t)) (h : Lawful s0 p.2) :
    Lawful s0 t := by
  rw [e] at h
  exact h

theorem foldl_lawful {α : Type} {s0 : State} {f : State → α → State} (hf : ∀ t a, Lawful s0 t → Lawful s0 (f t a))
    {l : List α} {s : State} (h : Lawful s0 s) : Lawful s0 (l.foldl f s) := by
  induction l generalizing s with
  | nil => exact h
  | cons a t ih => exact ih (hf _ _ h)

theorem foldl_fst_lawful {α β : Type} {s0 : State} {f : State × β → α → State × β}
    (hf : ∀ a x, Lawful s0 a.1 → Lawful s0 (f a x).1) {l : List α} {s : State × β} (h : Lawful s0 s.1) :
    Lawful s0 (l.foldl f s).1 := by
  induction l generalizing s with
  | nil => exact h
  | cons a t ih => exact ih (hf _ _ h)

theorem foldl_snd_lawful {α β : Type} {s0 : State} {f : β × State → α → β × State}
    (hf : ∀ a x, Lawful s0 a.2 → Lawful s0 (f a x).2) {l : List α} {s : β × State} (h : Lawful s0 s.2) :
    Lawful s0 (l.foldl f s).2 := by
  induction l generalizing s with
  | nil => exact h
  | cons a t ih => exact ih (hf _ _ h)

/-! ### The register file, memory, guards -/

theorem State.wr_lawful {s0 s : State} (h : Lawful s0 s) (r : RegRow) (v : Word) (i j k : Nat) :
    Lawful s0 (s.wr r v i j k) := lawful_of h rfl rfl rfl

theorem State.poke_lawful {s0 s : State} (h : Lawful s0 s) (a : Nat) (v : Byte) : Lawful s0 (s.poke a v) :=
  ⟨h.1, fun w => poke_wf (h.2.1 w) a v, h.2.2⟩

theorem State.when_lawful {s0 s : State} (h : Lawful s0 s) {c : Bool} {f : State → State}
    (hf : ∀ t, Lawful s0 t → Lawful s0 (f t)) : Lawful s0 (s.when c f) := ite_lawful (hf _ h) h

theorem State.forAll_lawful {α : Type} {s0 s : State} (h : Lawful s0 s) {l : List α} {f : α → State → State}
    (hf : ∀ a t, Lawful s0 t → Lawful s0 (f a t)) : Lawful s0 (s.forAll l f) := foldl_lawful (fun t a => hf a t) h

end Sys2Proof.Machine
end

