-- ==== Sys2Proof/Laws/LawfulUnits.lean ====
section
/-!
SUPPORT. Operations are lawful (they leave the queue of commands, keep the canonical form of memory and restore no fuse):
the shared operations, queues, faults, encoders, the fabric, lanes, time and cameras.
-/
namespace Sys2Proof.Machine

open Sys2Proof

/-! ### Sys2Proof/Machine/Ops.lean -/

theorem State.wr64_lawful {s0 s : State} (h0 : Lawful s0 s) (lo : RegRow) (hi : RegRow) (v : DWord) (i : Nat) (j : Nat)
    : Lawful s0 (State.wr64 s lo hi v i j) := by
  unfold State.wr64
  repeat (first | with_reducible (first | assumption | apply State.wr_lawful))

theorem State.setF_lawful {s0 s : State} (h0 : Lawful s0 s) (r : RegRow) (lo : Nat) (len : Nat) (v : Nat) (i : Nat)
    (j : Nat) (k : Nat) : Lawful s0 (State.setF s r lo len v i j k) := by
  unfold State.setF
  repeat (first | with_reducible (first | assumption | apply State.wr_lawful))

theorem State.setBit_lawful {s0 s : State} (h0 : Lawful s0 s) (r : RegRow) (n : Nat) (b : Bool) (i : Nat) (j : Nat)
    (k : Nat) : Lawful s0 (State.setBit s r n b i j k) := by
  unfold State.setBit
  repeat (first | with_reducible (first | assumption | apply State.wr_lawful))

theorem State.raise_lawful {s0 s : State} (h0 : Lawful s0 s) (r : RegRow) (n : Nat) (i : Nat) (j : Nat)
    : Lawful s0 (State.raise s r n i j) := by
  unfold State.raise
  repeat (first | with_reducible (first | assumption | apply State.setBit_lawful))

theorem State.bumpBy_lawful {s0 s : State} (h0 : Lawful s0 s) (n : Nat) (r : RegRow) (i : Nat) (j : Nat)
    : Lawful s0 (State.bumpBy s n r i j) := by
  unfold State.bumpBy
  repeat (first | with_reducible (first | assumption | apply State.wr_lawful))

theorem State.bump_lawful {s0 s : State} (h0 : Lawful s0 s) (r : RegRow) (i : Nat) (j : Nat)
    : Lawful s0 (State.bump s r i j) := by
  unfold State.bump
  repeat (first | with_reducible (first | assumption | apply State.bumpBy_lawful))

theorem State.lastStatus_lawful {s0 s : State} (h0 : Lawful s0 s) (status : Nat) (addr : Nat)
    : Lawful s0 (State.lastStatus s status addr) := by
  unfold State.lastStatus
  repeat (first | with_reducible (first | assumption | apply State.setF_lawful) | split)

theorem State.refuse_lawful {s0 s : State} (h0 : Lawful s0 s) (status : Nat) (addr : Nat)
    : Lawful s0 (State.refuse s status addr) := by
  unfold State.refuse
  repeat (first
    | with_reducible (first
      | assumption | apply State.lastStatus_lawful | apply State.wr_lawful | apply State.bump_lawful
      | apply State.raise_lawful))

theorem State.unmapped_lawful {s0 s : State} (h0 : Lawful s0 s) : Lawful s0 (State.unmapped s) := by
  unfold State.unmapped
  repeat (first | with_reducible (first | assumption | apply State.bump_lawful | apply State.raise_lawful))

theorem State.violation_lawful {s0 s : State} (h0 : Lawful s0 s) : Lawful s0 (State.violation s) := by
  unfold State.violation
  repeat (first | with_reducible (first | assumption | apply State.bump_lawful | apply State.raise_lawful))

theorem State.draw_lawful {s0 s : State} (h0 : Lawful s0 s) : Lawful s0 (State.draw s).2 := by
  unfold State.draw
  repeat (first | with_reducible assumption | simp only [lawful_mk])

theorem State.setEnc_lawful {s0 s : State} (h0 : Lawful s0 s) (n : Nat) (c : EncCh) : Lawful s0 (State.setEnc s n c) := by
  unfold State.setEnc
  repeat (first | with_reducible assumption | simp only [lawful_mk])

theorem State.setQueue_lawful {s0 s : State} (h0 : Lawful s0 s) (q : Nat) (x : Queue)
    : Lawful s0 (State.setQueue s q x) := by
  unfold State.setQueue
  repeat (first | with_reducible assumption | simp only [lawful_mk])

theorem State.setDout_lawful {s0 s : State} (h0 : Lawful s0 s) (n : Nat) (x : DoSt) : Lawful s0 (State.setDout s n x) := by
  unfold State.setDout
  repeat (first | with_reducible assumption | simp only [lawful_mk])

theorem State.setDin_lawful {s0 s : State} (h0 : Lawful s0 s) (n : Nat) (x : DiSt) : Lawful s0 (State.setDin s n x) := by
  unfold State.setDin
  repeat (first | with_reducible assumption | simp only [lawful_mk])

theorem State.setDet_lawful {s0 s : State} (h0 : Lawful s0 s) (l : Nat) (d : Detector)
    : Lawful s0 (State.setDet s l d) := by
  unfold State.setDet
  repeat (first | with_reducible assumption | simp only [lawful_mk])

theorem State.setComet_lawful {s0 s : State} (h0 : Lawful s0 s) (i : Nat) (c : Comet)
    : Lawful s0 (State.setComet s i c) := by
  unfold State.setComet
  repeat (first | with_reducible assumption | simp only [lawful_mk])

theorem State.setGroup_lawful {s0 s : State} (h0 : Lawful s0 s) (g : Nat) (x : Group)
    : Lawful s0 (State.setGroup s g x) := by
  unfold State.setGroup
  repeat (first | with_reducible assumption | simp only [lawful_mk])

theorem State.setCam_lawful {s0 s : State} (h0 : Lawful s0 s) (n : Nat) (c : CamPort) : Lawful s0 (State.setCam s n c) := by
  unfold State.setCam
  repeat (first | with_reducible assumption | simp only [lawful_mk])

theorem State.setMac_lawful {s0 s : State} (h0 : Lawful s0 s) (m : Nat) (x : MacSt) : Lawful s0 (State.setMac s m x) := by
  unfold State.setMac
  repeat (first | with_reducible assumption | simp only [lawful_mk])

theorem State.macSend_lawful {s0 s : State} (h0 : Lawful s0 s) (m : Nat) (f : TxFrame)
    : Lawful s0 (State.macSend s m f) := by
  unfold State.macSend
  repeat (first | with_reducible (first | assumption | apply State.setMac_lawful))

theorem State.setLane_lawful {s0 s : State} (h0 : Lawful s0 s) (l : Nat) (x : LaneSt)
    : Lawful s0 (State.setLane s l x) := by
  unfold State.setLane
  repeat (first | with_reducible assumption | simp only [lawful_mk])

theorem State.setLink_lawful {s0 s : State} (h0 : Lawful s0 s) (j : Nat) (x : LinkSt)
    : Lawful s0 (State.setLink s j x) := by
  unfold State.setLink
  repeat (first | with_reducible assumption | simp only [lawful_mk])

theorem State.setJob_lawful {s0 s : State} (h0 : Lawful s0 s) (h : Nat) (j : Job) : Lawful s0 (State.setJob s h j) := by
  unfold State.setJob
  repeat (first | with_reducible assumption | simp only [lawful_mk])

theorem State.updJob_lawful {s0 s : State} (h0 : Lawful s0 s) (h : Nat) (f : Job → Job)
    : Lawful s0 (State.updJob s h f) := by
  unfold State.updJob
  repeat (first | with_reducible (first | assumption | apply State.setJob_lawful) | split)

theorem State.setCtx_lawful {s0 s : State} (h0 : Lawful s0 s) (h : Nat) (u : Nat) (c : Ctx)
    : Lawful s0 (State.setCtx s h u c) := by
  unfold State.setCtx
  repeat (first | with_reducible assumption | simp only [lawful_mk])

theorem State.setEngine_lawful {s0 s : State} (h0 : Lawful s0 s) (e : Nat) (x : Engine)
    : Lawful s0 (State.setEngine s e x) := by
  unfold State.setEngine
  repeat (first | with_reducible assumption | simp only [lawful_mk])

theorem State.setIspOut_lawful {s0 s : State} (h0 : Lawful s0 s) (p : Nat) (o : Nat) (x : IspOut)
    : Lawful s0 (State.setIspOut s p o x) := by
  unfold State.setIspOut
  repeat (first | with_reducible assumption | simp only [lawful_mk])

theorem State.setIspCtx_lawful {s0 s : State} (h0 : Lawful s0 s) (p : Nat) (c : Nat) (x : IspCtx)
    : Lawful s0 (State.setIspCtx s p c x) := by
  unfold State.setIspCtx
  repeat (first | with_reducible assumption | simp only [lawful_mk])

theorem State.setIspPipe_lawful {s0 s : State} (h0 : Lawful s0 s) (p : Nat) (x : IspPipe)
    : Lawful s0 (State.setIspPipe s p x) := by
  unfold State.setIspPipe
  repeat (first | with_reducible assumption | simp only [lawful_mk])

theorem State.setStream_lawful {s0 s : State} (h0 : Lawful s0 s) (n : Nat) (x : DecStream)
    : Lawful s0 (State.setStream s n x) := by
  unfold State.setStream
  repeat (first | with_reducible assumption | simp only [lawful_mk])


/-! ### Sys2Proof/Machine/QueueOps.lean -/

theorem State.putQueue_lawful {s0 s : State} (h0 : Lawful s0 s) (q : Nat) (x : Queue)
    : Lawful s0 (State.putQueue s q x) := by
  unfold State.putQueue
  repeat (first
    | with_reducible assumption | intro _
    | with_reducible (first
      | apply State.setQueue_lawful | apply State.wr_lawful | apply State.when_lawful | apply State.setBit_lawful
      | apply State.raise_lawful))

theorem State.qDropped_lawful {s0 s : State} (h0 : Lawful s0 s) : Lawful s0 (State.qDropped s) := by
  unfold State.qDropped
  repeat (first | with_reducible (first | assumption | apply State.bump_lawful | apply State.raise_lawful))

theorem State.setErrs_lawful {s0 s : State} (h0 : Lawful s0 s) (m : AMap SectorErr) : Lawful s0 (State.setErrs s m) := by
  unfold State.setErrs
  repeat (first
    | with_reducible assumption | intro _ | extract_lets | with_reducible apply ite_lawful | split
    | simp only [lawful_mk] | dsimp only | apply_assumption)

theorem State.sectorStored_lawful {s0 s : State} (h0 : Lawful s0 s) (sector : Nat)
    : Lawful s0 (State.sectorStored s sector) := by
  unfold State.sectorStored
  repeat (first
    | with_reducible assumption | intro _ | extract_lets
    | with_reducible (first
      | apply ite_lawful | apply State.setErrs_lawful)
    | split | simp only [lawful_mk] | dsimp only | apply_assumption)

theorem State.ringStored_lawful {s0 s : State} (h0 : Lawful s0 s) (q : Nat) (first : Nat) (n : Nat)
    : Lawful s0 (State.ringStored s q first n) := by
  unfold State.ringStored
  repeat (first
    | with_reducible assumption | intro _ | extract_lets
    | with_reducible (first
      | apply ite_lawful | apply State.forAll_lawful | apply State.sectorStored_lawful)
    | split | simp only [lawful_mk] | dsimp only | apply_assumption)

theorem State.qAppend_lawful {s0 s : State} (h0 : Lawful s0 s) (q : Nat) (p : Nat) (data : List Byte)
    : Lawful s0 (State.qAppend s q p data) := by
  unfold State.qAppend
  repeat (first
    | with_reducible assumption | intro _ | extract_lets
    | with_reducible (first
      | apply ite_lawful | apply State.putQueue_lawful | apply State.ringStored_lawful | apply State.bump_lawful)
    | split | simp only [lawful_mk] | dsimp only | apply_assumption)

theorem State.qOffer_lawful {s0 s : State} (h0 : Lawful s0 s) (q : Nat) (p : Nat) (data : List Byte)
    : Lawful s0 (State.qOffer s q p data) := by
  unfold State.qOffer
  repeat (first
    | with_reducible (first
      | assumption | apply ite_lawful | apply State.qAppend_lawful | apply State.qDropped_lawful))

theorem State.qReserve_lawful {s0 s : State} (h0 : Lawful s0 s) (q : Nat) (p : Nat) (len : Nat)
    : Lawful s0 (State.qReserve s q p len) := by
  unfold State.qReserve
  repeat (first
    | with_reducible assumption | intro _ | extract_lets
    | with_reducible (first
      | apply ite_lawful | apply State.qDropped_lawful | apply State.putQueue_lawful | apply State.when_lawful
      | apply State.ringStored_lawful | apply State.bump_lawful | apply State.bumpBy_lawful)
    | split | simp only [lawful_mk] | dsimp only | apply_assumption)

theorem State.qBackFill_lawful {s0 s : State} (h0 : Lawful s0 s) (q : Nat) (p : Nat) (seq : Word) (kind : Nat)
    (body : List Byte) : Lawful s0 (State.qBackFill s q p seq kind body) := by
  unfold State.qBackFill
  repeat (first
    | with_reducible assumption | intro _ | extract_lets
    | with_reducible (first
      | apply ite_lawful | apply State.putQueue_lawful | apply State.ringStored_lawful | apply State.bumpBy_lawful)
    | split | simp only [lawful_mk] | dsimp only | apply_assumption)

theorem State.qAbandon_lawful {s0 s : State} (h0 : Lawful s0 s) (q : Nat) (p : Nat) (seq : Word)
    : Lawful s0 (State.qAbandon s q p seq) := by
  unfold State.qAbandon
  repeat (first
    | with_reducible assumption | intro _ | extract_lets
    | with_reducible (first
      | apply ite_lawful | apply State.putQueue_lawful | apply State.ringStored_lawful | apply State.bump_lawful
      | apply State.bumpBy_lawful)
    | split | simp only [lawful_mk] | dsimp only | apply_assumption)

theorem State.qRelease_lawful {s0 s : State} (h0 : Lawful s0 s) (q : Nat) (n : Nat) : Lawful s0 (State.qRelease s q n) := by
  unfold State.qRelease
  repeat (first | with_reducible (first | assumption | apply State.putQueue_lawful))


/-! ### Sys2Proof/Machine/FaultOps.lean -/

theorem latchBlock_lawful {s0 s : State} (h0 : Lawful s0 s) (src : State) (b : Block) : Lawful s0 (latchBlock src b s) :=
  State.forAll_lawful h0 (fun _ _ h => State.wr_lawful h _ _ _ _ _)

theorem State.snapLatch_lawful {s0 s : State} (h0 : Lawful s0 s) (srcBits : Nat) (overwrite : Bool)
    : Lawful s0 (State.snapLatch s srcBits overwrite) := by
  unfold State.snapLatch
  repeat (first
    | with_reducible assumption | intro _
    | with_reducible (first
      | apply State.forAll_lawful | apply latchBlock_lawful | apply State.wr_lawful | apply State.wr64_lawful
      | apply State.setF_lawful | apply State.setBit_lawful | apply State.when_lawful | apply State.bump_lawful
      | apply foldl_lawful)
    | simp only [lawful_mk])

theorem State.snapFire_lawful {s0 s : State} (h0 : Lawful s0 s) (src : Nat) : Lawful s0 (State.snapFire s src) := by
  unfold State.snapFire
  repeat (first
    | with_reducible (first
      | assumption | apply ite_lawful | apply State.wr_lawful | apply State.snapLatch_lawful | apply State.raise_lawful
      | apply State.bump_lawful))

theorem State.snapRearm_lawful {s0 s : State} (h0 : Lawful s0 s) (n : Nat) : Lawful s0 (State.snapRearm s n) := by
  unfold State.snapRearm
  repeat (first | with_reducible (first | assumption | apply ite_lawful) | simp only [lawful_mk])

theorem State.faultPublish_lawful {s0 s : State} (h0 : Lawful s0 s) (block : Nat) (data : List Byte)
    : Lawful s0 (State.faultPublish s block data) := by
  unfold State.faultPublish
  repeat (first
    | with_reducible (first
      | assumption | apply ite_lawful | apply State.qAppend_lawful | apply State.bump_lawful)
    | simp only [lawful_mk])

theorem State.faultWrite_lawful {s0 s : State} (h0 : Lawful s0 s) (r : FaultRec) (seq : Word)
    : Lawful s0 (State.faultWrite s r seq) := by
  unfold State.faultWrite
  repeat (first
    | with_reducible assumption | intro _
    | with_reducible (first
      | apply State.when_lawful | apply State.snapFire_lawful | apply State.bump_lawful | apply State.raise_lawful
      | apply State.faultPublish_lawful))

theorem State.faultNew_lawful {s0 s : State} (h0 : Lawful s0 s) (r : FaultRec) : Lawful s0 (State.faultNew s r) := by
  unfold State.faultNew
  repeat (first
    | with_reducible (first
      | apply State.bump_lawful | apply State.faultWrite_lawful)
    | apply_assumption)

theorem State.noteTransient_lawful {s0 s : State} (h0 : Lawful s0 s) (unit : Nat) (cause : Nat)
    : Lawful s0 (State.noteTransient s unit cause) := by
  unfold State.noteTransient
  repeat (first | with_reducible assumption | simp only [lawful_mk])

theorem State.faultRetried_lawful {s0 s : State} (h0 : Lawful s0 s) (r : FaultRec) (cls : Nat)
    : Lawful s0 (State.faultRetried s r cls) := by
  unfold State.faultRetried
  repeat (first
    | with_reducible (first
      | assumption | apply State.faultNew_lawful | apply State.faultWrite_lawful))

theorem State.flushHeld_lawful {s0 s : State} (h0 : Lawful s0 s) : Lawful s0 (State.flushHeld s) := by
  unfold State.flushHeld
  repeat (first
    | with_reducible assumption | intro _
    | with_reducible (first
      | apply ite_lawful | apply State.qAppend_lawful | apply foldl_lawful)
    | simp only [lawful_mk])


/-! ### Sys2Proof/Machine/Gate.lean -/

theorem State.gate_lawful {s0 s : State} (h0 : Lawful s0 s) (w : Writer) (r : RegRow) (i : Nat) (j : Nat) (k : Nat)
    {f : State → State} (h_f : ∀  t, Lawful s0 t → Lawful s0 (f  t)) : Lawful s0 (State.gate s w r i j k f) := by
  unfold State.gate
  repeat (first
    | extract_lets
    | with_reducible (first
      | apply State.unmapped_lawful | apply State.violation_lawful | apply State.refuse_lawful)
    | split | apply_assumption)


/-! ### Sys2Proof/Machine/PmOps.lean -/

theorem State.wakeFire_lawful {s0 s : State} (h0 : Lawful s0 s) (src : Nat) (states : List Nat)
    : Lawful s0 (State.wakeFire s src states) := by
  unfold State.wakeFire
  repeat (first
    | with_reducible (first
      | assumption | apply ite_lawful | apply State.setBit_lawful | apply State.raise_lawful)
    | simp only [lawful_mk])


/-! ### Sys2Proof/Machine/Enc.lean -/

theorem State.encFault_lawful {s0 s : State} (h0 : Lawful s0 s) (n : Nat) : Lawful s0 (State.encFault s n) := by
  unfold State.encFault
  repeat (first
    | with_reducible (first
      | apply ite_lawful | apply State.setBit_lawful | apply State.raise_lawful | apply State.bump_lawful)
    | apply_assumption)

theorem State.windowFault_lawful {s0 s : State} (h0 : Lawful s0 s) (n : Nat) : Lawful s0 (State.windowFault s n) := by
  unfold State.windowFault
  repeat (first
    | with_reducible assumption | intro _
    | with_reducible (first
      | apply State.setEnc_lawful | apply State.when_lawful | apply State.encFault_lawful))

theorem State.crossCheck_lawful {s0 s : State} (h0 : Lawful s0 s) (n : Nat) : Lawful s0 (State.crossCheck s n) := by
  unfold State.crossCheck
  repeat (first
    | with_reducible (first
      | assumption | apply ite_lawful | apply State.setBit_lawful | apply State.encFault_lawful))

theorem State.laneLoaded_lawful {s0 s : State} (h0 : Lawful s0 s) (n : Nat) (l : Nat)
    : Lawful s0 (State.laneLoaded s n l) := by
  unfold State.laneLoaded
  repeat (first | with_reducible (first | assumption | apply ite_lawful | apply State.setDet_lawful))

theorem State.camGrid_lawful {s0 s : State} (h0 : Lawful s0 s) (p : Nat) : Lawful s0 (State.camGrid s p) := by
  unfold State.camGrid
  repeat (first | with_reducible (first | assumption | apply State.setCam_lawful))

theorem State.camLoaded_lawful {s0 s : State} (h0 : Lawful s0 s) (n : Nat) (p : Nat)
    : Lawful s0 (State.camLoaded s n p) := by
  unfold State.camLoaded
  repeat (first | with_reducible (first | assumption | apply ite_lawful | apply State.camGrid_lawful))

theorem State.loadPos_lawful {s0 s : State} (h0 : Lawful s0 s) (n : Nat) (p : DWord) : Lawful s0 (State.loadPos s n p) := by
  unfold State.loadPos
  repeat (first
    | with_reducible assumption | intro _
    | with_reducible (first
      | apply State.setEnc_lawful | apply State.snapRearm_lawful | apply State.setBit_lawful | apply State.when_lawful
      | apply State.raise_lawful | apply State.forAll_lawful | apply State.laneLoaded_lawful | apply State.camLoaded_lawful))

theorem State.encCfgApply_lawful {s0 s : State} (h0 : Lawful s0 s) (n : Nat) (v : Word)
    : Lawful s0 (State.encCfgApply s n v) := by
  unfold State.encCfgApply
  repeat (first
    | with_reducible assumption | intro _
    | with_reducible (first
      | apply ite_lawful | apply State.wr_lawful | apply State.when_lawful | apply State.setEnc_lawful
      | apply State.setBit_lawful | apply State.forAll_lawful | apply State.setDet_lawful))

theorem State.encCfgWrite_lawful {s0 s : State} (h0 : Lawful s0 s) (n : Nat) (v : Word)
    : Lawful s0 (State.encCfgWrite s n v) := by
  unfold State.encCfgWrite
  repeat (first
    | with_reducible (first
      | assumption | apply State.refuse_lawful | apply State.encCfgApply_lawful)
    | split)

theorem execEncCfgWrite_lawful {s0 s : State} (h0 : Lawful s0 s) (w : Writer) (ch : Fin 4) (v : Word)
    : ∃ t, execEncCfgWrite w ch v s = .next t ∧ Lawful s0 t := by
  unfold execEncCfgWrite
  refine ⟨_, rfl, ?_⟩
  repeat (first
    | with_reducible assumption | intro _
    | with_reducible (first
      | apply State.gate_lawful | apply State.encCfgWrite_lawful))

theorem State.encInterval_lawful {s0 s : State} (h0 : Lawful s0 s) (n : Nat) : Lawful s0 (State.encInterval s n) := by
  unfold State.encInterval
  repeat (first
    | with_reducible assumption | extract_lets
    | with_reducible (first
      | apply State.bump_lawful | apply State.windowFault_lawful)
    | split)

theorem State.encAccept_lawful {s0 s : State} (h0 : Lawful s0 s) (n : Nat) (a : Bool) (b : Bool)
    : Lawful s0 (State.encAccept s n a b) := by
  unfold State.encAccept
  repeat (first
    | with_reducible assumption | intro _
    | with_reducible (first
      | apply ite_lawful | apply State.encInterval_lawful | apply State.setEnc_lawful | apply State.bump_lawful
      | apply State.windowFault_lawful | apply State.when_lawful | apply State.crossCheck_lawful
      | apply State.snapRearm_lawful))

theorem execEncEdgeAccept_lawful {s0 s : State} (h0 : Lawful s0 s) (ch : Fin 4) (a : Bool) (b : Bool) (held : Nat)
    : ∃ t, execEncEdgeAccept ch a b held s = .next t ∧ Lawful s0 t := by
  unfold execEncEdgeAccept
  refine ⟨_, rfl, ?_⟩
  repeat (first | with_reducible (first | assumption | apply ite_lawful | apply State.encAccept_lawful))

theorem execFaultWindowEnd_lawful {s0 s : State} (h0 : Lawful s0 s) (ch : Fin 4)
    : ∃ t, execFaultWindowEnd ch s = .next t ∧ Lawful s0 t := by
  unfold execFaultWindowEnd
  refine ⟨_, rfl, ?_⟩
  repeat (first | with_reducible (first | assumption | apply ite_lawful | apply State.setEnc_lawful))

theorem State.phaseMove_lawful {s0 s : State} (h0 : Lawful s0 s) (n : Nat) (ph : BitVec 14)
    : Lawful s0 (State.phaseMove s n ph) := by
  unfold State.phaseMove
  repeat (first
    | with_reducible assumption | intro _ | extract_lets
    | with_reducible (first
      | apply State.setEnc_lawful | apply State.snapRearm_lawful | apply State.when_lawful | apply State.bump_lawful
      | apply State.windowFault_lawful)
    | split)

theorem execAnalogueSample_lawful {s0 s : State} (h0 : Lawful s0 s) (ch : Fin 4) (sin : Int) (cos : Int)
    : ∃ t, execAnalogueSample ch sin cos s = .next t ∧ Lawful s0 t := by
  unfold execAnalogueSample
  refine ⟨_, rfl, ?_⟩
  repeat (first
    | with_reducible (first
      | assumption | apply ite_lawful | apply State.setEnc_lawful | apply State.phaseMove_lawful))

theorem execAmplitudeFault_lawful {s0 s : State} (h0 : Lawful s0 s) (ch : Fin 4)
    : ∃ t, execAmplitudeFault ch s = .next t ∧ Lawful s0 t := by
  unfold execAmplitudeFault
  refine ⟨_, rfl, ?_⟩
  repeat (first
    | with_reducible (first
      | assumption | apply ite_lawful | apply State.setBit_lawful | apply State.encFault_lawful))

theorem execAmplitudeRecover_lawful {s0 s : State} (h0 : Lawful s0 s) (ch : Fin 4)
    : ∃ t, execAmplitudeRecover ch s = .next t ∧ Lawful s0 t := by
  unfold execAmplitudeRecover
  refine ⟨_, rfl, ?_⟩
  repeat (first
    | with_reducible (first
      | assumption | apply ite_lawful | apply State.setBit_lawful | apply State.setEnc_lawful))

theorem State.encReport_lawful {s0 s : State} (h0 : Lawful s0 s) (n : Nat) : Lawful s0 (State.encReport s n) := by
  unfold State.encReport
  repeat (first | with_reducible (first | assumption | apply State.wr_lawful))

theorem State.encMovement_lawful {s0 s : State} (h0 : Lawful s0 s) (n : Nat) : Lawful s0 (State.encMovement s n) := by
  unfold State.encMovement
  repeat (first
    | with_reducible assumption | intro _
    | with_reducible (first
      | apply ite_lawful | apply State.setEnc_lawful | apply State.setBit_lawful | apply State.raise_lawful
      | apply State.when_lawful | apply State.wakeFire_lawful))

theorem State.taintLanes_lawful {s0 s : State} (h0 : Lawful s0 s) (n : Nat) : Lawful s0 (State.taintLanes s n) := by
  unfold State.taintLanes
  repeat (first
    | with_reducible assumption | intro _
    | with_reducible (first
      | apply ite_lawful | apply State.forAll_lawful | apply State.setDet_lawful))

theorem State.encReversal_lawful {s0 s : State} (h0 : Lawful s0 s) (n : Nat) : Lawful s0 (State.encReversal s n) := by
  unfold State.encReversal
  repeat (first
    | with_reducible (first
      | assumption | apply ite_lawful | apply State.setEnc_lawful | apply State.setBit_lawful | apply State.raise_lawful
      | apply State.bump_lawful | apply State.taintLanes_lawful))

theorem execObserverUpdate_lawful {s0 s : State} (h0 : Lawful s0 s) (ch : Fin 4)
    : ∃ t, execObserverUpdate ch s = .next t ∧ Lawful s0 t := by
  unfold execObserverUpdate
  refine ⟨_, rfl, ?_⟩
  repeat (first
    | with_reducible (first
      | assumption | apply ite_lawful | apply State.setEnc_lawful | apply State.encMovement_lawful
      | apply State.encReversal_lawful | apply State.encReport_lawful))

theorem execStandstillIn_lawful {s0 s : State} (h0 : Lawful s0 s) (ch : Fin 4)
    : ∃ t, execStandstillIn ch s = .next t ∧ Lawful s0 t := by
  unfold execStandstillIn
  refine ⟨_, rfl, ?_⟩
  repeat (first
    | with_reducible (first
      | assumption | apply ite_lawful | apply State.setBit_lawful | apply State.raise_lawful | apply State.encReport_lawful))

theorem execSettled_lawful {s0 s : State} (h0 : Lawful s0 s) (ch : Fin 4)
    : ∃ t, execSettled ch s = .next t ∧ Lawful s0 t := by
  unfold execSettled
  refine ⟨_, rfl, ?_⟩
  repeat (first
    | with_reducible (first
      | assumption | apply ite_lawful | apply State.setBit_lawful | apply State.raise_lawful))

theorem State.lineCheck_lawful {s0 s : State} (h0 : Lawful s0 s) (n : Nat) (p1 : DWord)
    : Lawful s0 (State.lineCheck s n p1) := by
  unfold State.lineCheck
  repeat (first
    | with_reducible (first
      | assumption | apply ite_lawful | apply State.wr_lawful | apply State.setBit_lawful | apply State.bump_lawful
      | apply State.encFault_lawful))

theorem State.indexEvent_lawful {s0 s : State} (h0 : Lawful s0 s) (n : Nat) : Lawful s0 (State.indexEvent s n) := by
  unfold State.indexEvent
  repeat (first
    | with_reducible assumption
    | (extract_lets +onlyGivenNames x; refine (fun (_ : Lawful s0 x) => ?_) ?_; (on_goal 1 => clear_value x); (on_goal 2 => subst x))
    | extract_lets +onlyGivenNames x
    | with_reducible (first
      | apply State.setEnc_lawful | apply State.raise_lawful | apply State.loadPos_lawful | apply State.lineCheck_lawful)
    | split)

theorem execIndexEvent_lawful {s0 s : State} (h0 : Lawful s0 s) (ch : Fin 4) (held : Nat) (sinHigh : Bool)
    (cosHigh : Bool) : ∃ t, execIndexEvent ch held sinHigh cosHigh s = .next t ∧ Lawful s0 t := by
  unfold execIndexEvent
  refine ⟨_, rfl, ?_⟩
  repeat (first | with_reducible (first | assumption | apply ite_lawful | apply State.indexEvent_lawful))

theorem State.encPreset_lawful {s0 s : State} (h0 : Lawful s0 s) (n : Nat) : Lawful s0 (State.encPreset s n) := by
  unfold State.encPreset
  repeat (first
    | with_reducible (first
      | assumption | apply ite_lawful | apply State.loadPos_lawful | apply State.raise_lawful))

theorem execPreset_lawful {s0 s : State} (h0 : Lawful s0 s) (w : Writer) (ch : Fin 4)
    : ∃ t, execPreset w ch s = .next t ∧ Lawful s0 t := by
  unfold execPreset
  refine ⟨_, rfl, ?_⟩
  repeat (first
    | with_reducible assumption | intro _
    | with_reducible (first
      | apply State.gate_lawful | apply State.encPreset_lawful))

theorem State.encFaultClear_lawful {s0 s : State} (h0 : Lawful s0 s) (n : Nat) : Lawful s0 (State.encFaultClear s n) := by
  unfold State.encFaultClear
  repeat (first
    | with_reducible (first
      | assumption | apply ite_lawful | apply State.setEnc_lawful | apply State.setBit_lawful))

theorem execFaultClear_lawful {s0 s : State} (h0 : Lawful s0 s) (w : Writer) (ch : Fin 4)
    : ∃ t, execFaultClear w ch s = .next t ∧ Lawful s0 t := by
  unfold execFaultClear
  refine ⟨_, rfl, ?_⟩
  repeat (first
    | with_reducible assumption | intro _
    | with_reducible (first
      | apply State.gate_lawful | apply State.encFaultClear_lawful))

theorem execOpenPairFault_lawful {s0 s : State} (h0 : Lawful s0 s) (ch : Fin 4) (pair : EncPair) (heldNs : Nat)
    : ∃ t, execOpenPairFault ch pair heldNs s = .next t ∧ Lawful s0 t := by
  unfold execOpenPairFault
  refine ⟨_, rfl, ?_⟩
  repeat (first
    | with_reducible assumption | intro _
    | with_reducible (first
      | apply ite_lawful | apply State.setBit_lawful | apply State.when_lawful | apply State.encFault_lawful))

theorem execOpenPairRecover_lawful {s0 s : State} (h0 : Lawful s0 s) (ch : Fin 4) (pair : EncPair) (a : Bool) (b : Bool)
    : ∃ t, execOpenPairRecover ch pair a b s = .next t ∧ Lawful s0 t := by
  unfold execOpenPairRecover
  refine ⟨_, rfl, ?_⟩
  repeat (first
    | with_reducible (first
      | assumption | apply ite_lawful | apply State.setBit_lawful | apply State.setEnc_lawful))

theorem execEncSupplyFault_lawful {s0 s : State} (h0 : Lawful s0 s) (ch : Fin 4) (millivolts : Nat) (heldNs : Nat)
    : ∃ t, execEncSupplyFault ch millivolts heldNs s = .next t ∧ Lawful s0 t := by
  unfold execEncSupplyFault
  refine ⟨_, rfl, ?_⟩
  repeat (first
    | with_reducible (first
      | assumption | apply ite_lawful | apply State.setEnc_lawful | apply State.setBit_lawful | apply State.encFault_lawful))

theorem execEncSupplyRetry_lawful {s0 s : State} (h0 : Lawful s0 s) (ch : Fin 4)
    : ∃ t, execEncSupplyRetry ch s = .next t ∧ Lawful s0 t := by
  unfold execEncSupplyRetry
  refine ⟨_, rfl, ?_⟩
  repeat (first | with_reducible (first | assumption | apply ite_lawful | apply State.setEnc_lawful))

theorem execEncSupplyRecover_lawful {s0 s : State} (h0 : Lawful s0 s) (ch : Fin 4) (millivolts : Nat) (heldNs : Nat)
    : ∃ t, execEncSupplyRecover ch millivolts heldNs s = .next t ∧ Lawful s0 t := by
  unfold execEncSupplyRecover
  refine ⟨_, rfl, ?_⟩
  repeat (first | with_reducible (first | assumption | apply ite_lawful | apply State.setBit_lawful))

theorem State.encFieldLost_lawful {s0 s : State} (h0 : Lawful s0 s) : Lawful s0 (State.encFieldLost s) := by
  unfold State.encFieldLost
  repeat (first
    | with_reducible assumption | intro _
    | with_reducible (first
      | apply State.forAll_lawful | apply State.setBit_lawful | apply State.setEnc_lawful | apply State.encFault_lawful))

theorem State.encFieldBack_lawful {s0 s : State} (h0 : Lawful s0 s) : Lawful s0 (State.encFieldBack s) := by
  unfold State.encFieldBack
  repeat (first
    | with_reducible assumption | intro _
    | with_reducible (first
      | apply State.forAll_lawful | apply State.when_lawful | apply State.setBit_lawful))


/-! ### Sys2Proof/Machine/FioOps.lean -/

theorem State.syncOut_lawful {s0 s : State} (h0 : Lawful s0 s) (n : Nat) : Lawful s0 (State.syncOut s n) := by
  unfold State.syncOut
  repeat (first | with_reducible (first | assumption | apply State.setBit_lawful | apply State.setDout_lawful))

theorem State.syncOuts_lawful {s0 s : State} (h0 : Lawful s0 s) : Lawful s0 (State.syncOuts s) := by
  unfold State.syncOuts
  repeat (first
    | with_reducible assumption | intro _
    | with_reducible (first
      | apply State.forAll_lawful | apply State.syncOut_lawful))

theorem State.outputsOff_lawful {s0 s : State} (h0 : Lawful s0 s) : Lawful s0 (State.outputsOff s) := by
  unfold State.outputsOff
  repeat (first | with_reducible (first | assumption | apply State.syncOuts_lawful) | simp only [lawful_mk])


/-! ### Sys2Proof/Machine/FabOps.lean -/

theorem State.setLinkState_lawful {s0 s : State} (h0 : Lawful s0 s) (j : Nat) (n : Nat)
    : Lawful s0 (State.setLinkState s j n) := by
  unfold State.setLinkState
  repeat (first | with_reducible (first | assumption | apply State.setF_lawful))

theorem State.syncLink_lawful {s0 s : State} (h0 : Lawful s0 s) (j : Nat) : Lawful s0 (State.syncLink s j) := by
  unfold State.syncLink
  repeat (first | with_reducible (first | assumption | apply State.setF_lawful))

theorem State.flitOut_lawful {s0 s : State} (h0 : Lawful s0 s) (j : Nat) (sequenced : Bool)
    : Lawful s0 (State.flitOut s j sequenced) := by
  unfold State.flitOut
  repeat (first | with_reducible (first | assumption | apply State.setLink_lawful | apply State.bump_lawful))

theorem State.controlOut_lawful {s0 s : State} (h0 : Lawful s0 s) (j : Nat) : Lawful s0 (State.controlOut s j) := by
  unfold State.controlOut
  repeat (first | with_reducible (first | assumption | apply State.flitOut_lawful))

theorem State.pumpLink_lawful {s0 s : State} (h0 : Lawful s0 s) (j : Nat) (x0 : Nat)
    : Lawful s0 (State.pumpLink s j x0) := by
  induction x0 generalizing s <;> unfold State.pumpLink <;> repeat (first
    | with_reducible (first
      | apply ite_lawful | apply State.setLink_lawful | apply State.flitOut_lawful | apply_assumption)
    | split)

theorem State.pump_lawful {s0 s : State} (h0 : Lawful s0 s) (j : Nat) : Lawful s0 (State.pump s j) := by
  unfold State.pump
  repeat (first | with_reducible (first | assumption | apply ite_lawful | apply State.pumpLink_lawful))

theorem State.queueFlits_lawful {s0 s : State} (h0 : Lawful s0 s) (j : Nat) (l : List Flit)
    : Lawful s0 (State.queueFlits s j l) := by
  unfold State.queueFlits
  repeat (first | with_reducible (first | assumption | apply State.setLink_lawful | apply State.pump_lawful))

theorem State.arrive_lawful {s0 s : State} (h0 : Lawful s0 s) (vc : Nat) (src : Nat) (l : List Byte)
    : Lawful s0 (State.arrive s vc src l) := by
  unfold State.arrive
  repeat (first | with_reducible (first | assumption | apply ite_lawful) | simp only [lawful_mk])

theorem State.fabSend_lawful {s0 s : State} (h0 : Lawful s0 s) (vc : Nat) (dest : Nat) (l : List Byte)
    : Lawful s0 (State.fabSend s vc dest l) := by
  unfold State.fabSend
  repeat (first
    | with_reducible (first
      | assumption | apply State.arrive_lawful | apply State.queueFlits_lawful | apply State.raise_lawful)
    | split)

theorem State.fabLinkReset_lawful {s0 s : State} (h0 : Lawful s0 s) (j : Nat) : Lawful s0 (State.fabLinkReset s j) := by
  unfold State.fabLinkReset
  repeat (first
    | with_reducible assumption | intro _
    | with_reducible (first
      | apply State.setLink_lawful | apply State.forAll_lawful | apply State.wr_lawful | apply State.setLane_lawful
      | apply State.setF_lawful | apply State.setLinkState_lawful | apply State.syncLink_lawful | apply State.bump_lawful))

theorem State.replayLink_lawful {s0 s : State} (h0 : Lawful s0 s) (j : Nat) : Lawful s0 (State.replayLink s j) := by
  unfold State.replayLink
  repeat (first
    | with_reducible (first
      | assumption | apply ite_lawful | apply State.faultNew_lawful | apply State.setLink_lawful
      | apply State.fabLinkReset_lawful | apply State.bumpBy_lawful | apply State.bump_lawful | apply State.raise_lawful))

theorem State.flitAck_lawful {s0 s : State} (h0 : Lawful s0 s) (j : Nat) (f : Flit) : Lawful s0 (State.flitAck s j f) := by
  unfold State.flitAck
  repeat (first | with_reducible (first | assumption | apply State.setLink_lawful))

theorem State.sendNak_lawful {s0 s : State} (h0 : Lawful s0 s) (j : Nat) : Lawful s0 (State.sendNak s j) := by
  unfold State.sendNak
  repeat (first
    | with_reducible (first
      | assumption | apply ite_lawful | apply State.setLink_lawful | apply State.controlOut_lawful))

theorem State.takePart_lawful {s0 s : State} (h0 : Lawful s0 s) (f : Flit) : Lawful s0 (State.takePart s f) := by
  unfold State.takePart
  repeat (first | with_reducible (first | apply ite_lawful | apply State.arrive_lawful) | apply_assumption)

theorem State.forward_lawful {s0 s : State} (h0 : Lawful s0 s) (j : Nat) (f : Flit) : Lawful s0 (State.forward s j f) := by
  unfold State.forward
  repeat (first
    | with_reducible (first
      | assumption | apply State.bump_lawful | apply State.queueFlits_lawful | apply State.raise_lawful)
    | split)

theorem State.acceptFlit_lawful {s0 s : State} (h0 : Lawful s0 s) (j : Nat) (f : Flit)
    : Lawful s0 (State.acceptFlit s j f) := by
  unfold State.acceptFlit
  repeat (first
    | with_reducible (first
      | assumption | apply ite_lawful | apply State.setLink_lawful | apply State.takePart_lawful
      | apply State.forward_lawful | apply State.controlOut_lawful))

theorem State.linkControl_lawful {s0 s : State} (h0 : Lawful s0 s) (j : Nat) (f : Flit)
    : Lawful s0 (State.linkControl s j f) := by
  unfold State.linkControl
  repeat (first
    | with_reducible (first
      | assumption | apply ite_lawful | apply State.setLink_lawful | apply State.bumpBy_lawful | apply State.pump_lawful
      | apply foldl_lawful))

theorem State.flitIn_lawful {s0 s : State} (h0 : Lawful s0 s) (j : Nat) (f : Flit) (crcOk : Bool)
    : Lawful s0 (State.flitIn s j f crcOk) := by
  unfold State.flitIn
  repeat (first
    | with_reducible (first
      | assumption | apply ite_lawful | apply State.bump_lawful | apply State.sendNak_lawful | apply State.flitAck_lawful
      | apply State.linkControl_lawful | apply State.acceptFlit_lawful | apply State.replayLink_lawful
      | apply State.pump_lawful))

theorem State.lanesLeft_lawful {s0 s : State} (h0 : Lawful s0 s) (j : Nat) : Lawful s0 (State.lanesLeft s j) := by
  unfold State.lanesLeft
  repeat (first
    | with_reducible (first
      | assumption | apply ite_lawful | apply State.setLinkState_lawful | apply State.syncLink_lawful
      | apply State.raise_lawful | apply State.setLink_lawful))

theorem State.swapDone_lawful {s0 s : State} (h0 : Lawful s0 s) (j : Nat) (k : Nat) (crit : Nat)
    : Lawful s0 (State.swapDone s j k crit) := by
  unfold State.swapDone
  repeat (first
    | with_reducible (first
      | assumption | apply State.setBit_lawful | apply State.setLink_lawful | apply State.bump_lawful
      | apply State.raise_lawful | apply State.syncLink_lawful | apply State.faultNew_lawful))

theorem State.failLane_lawful {s0 s : State} (h0 : Lawful s0 s) (j : Nat) (k : Nat) (crit : Nat)
    : Lawful s0 (State.failLane s j k crit) := by
  unfold State.failLane
  repeat (first
    | with_reducible (first
      | assumption | apply ite_lawful | apply State.setLink_lawful | apply State.controlOut_lawful
      | apply State.setBit_lawful | apply State.faultNew_lawful | apply State.lanesLeft_lawful))

theorem State.linkTrained_lawful {s0 s : State} (h0 : Lawful s0 s) (j : Nat) (peer : Nat)
    : Lawful s0 (State.linkTrained s j peer) := by
  unfold State.linkTrained
  repeat (first
    | with_reducible assumption
    | (extract_lets +onlyGivenNames x; refine (fun (_ : Lawful s0 x) => ?_) ?_; (on_goal 1 => clear_value x); (on_goal 2 => subst x))
    | with_reducible (first
      | apply State.setF_lawful | apply State.setLinkState_lawful | apply State.syncLink_lawful | apply State.raise_lawful
      | apply State.faultWrite_lawful | apply State.noteTransient_lawful | apply State.setLink_lawful
      | apply State.controlOut_lawful)
    | split)

theorem State.retrainLate_lawful {s0 s : State} (h0 : Lawful s0 s) (j : Nat) : Lawful s0 (State.retrainLate s j) := by
  unfold State.retrainLate
  repeat (first
    | with_reducible assumption
    | (extract_lets +onlyGivenNames x; refine (fun (_ : Lawful s0 x) => ?_) ?_; (on_goal 1 => clear_value x); (on_goal 2 => subst x))
    | extract_lets +onlyGivenNames x
    | with_reducible (first
      | apply State.faultWrite_lawful | apply State.faultNew_lawful | apply State.setLink_lawful
      | apply State.setLinkState_lawful | apply State.raise_lawful)
    | split)


/-! ### Sys2Proof/Machine/LaneOps.lean -/

theorem State.laneTo_lawful {s0 s : State} (h0 : Lawful s0 s) (l : Nat) (st : Nat) : Lawful s0 (State.laneTo s l st) := by
  unfold State.laneTo
  repeat (first
    | with_reducible (first
      | assumption | apply ite_lawful | apply State.setLane_lawful | apply State.wr_lawful))

theorem State.laneFollow_lawful {s0 s : State} (h0 : Lawful s0 s) (l : Nat) : Lawful s0 (State.laneFollow s l) := by
  unfold State.laneFollow
  repeat (first | with_reducible (first | assumption | apply State.laneTo_lawful))

theorem State.laneClaim_lawful {s0 s : State} (h0 : Lawful s0 s) (owner : Nat) (id : Nat) (rate : Nat) (l : Nat)
    : Lawful s0 (State.laneClaim s owner id rate l) := by
  unfold State.laneClaim
  repeat (first
    | with_reducible assumption | intro _
    | with_reducible (first
      | apply State.wr_lawful | apply State.setF_lawful | apply State.when_lawful))

theorem State.laneFree_lawful {s0 s : State} (h0 : Lawful s0 s) (l : Nat) : Lawful s0 (State.laneFree s l) := by
  unfold State.laneFree
  repeat (first | with_reducible (first | assumption | apply State.wr_lawful | apply State.laneFollow_lawful))

theorem State.laneCycle_lawful {s0 s : State} (h0 : Lawful s0 s) (l : Nat) : Lawful s0 (State.laneCycle s l) := by
  unfold State.laneCycle
  repeat (first | with_reducible (first | assumption | apply State.laneTo_lawful))


/-! ### Sys2Proof/Machine/Time.lean -/

theorem State.setBase_lawful {s0 s : State} (h0 : Lawful s0 s) (offset : DWord) (anchor : DWord)
    : Lawful s0 (State.setBase s offset anchor) := by
  unfold State.setBase
  repeat (first | with_reducible (first | assumption | apply State.wr64_lawful))

theorem State.timeUnlock_lawful {s0 s : State} (h0 : Lawful s0 s) : Lawful s0 (State.timeUnlock s) := by
  unfold State.timeUnlock
  repeat (first
    | with_reducible (first
      | apply ite_lawful | apply State.setBit_lawful | apply State.raise_lawful | apply State.bump_lawful)
    | apply_assumption)

theorem State.timeStepped_lawful {s0 s : State} (h0 : Lawful s0 s) : Lawful s0 (State.timeStepped s) := by
  unfold State.timeStepped
  repeat (first
    | with_reducible (first
      | assumption | apply State.raise_lawful | apply State.bump_lawful | apply State.timeUnlock_lawful))

theorem State.timeAdjust_lawful {s0 s : State} (h0 : Lawful s0 s) (d : Int) : Lawful s0 (State.timeAdjust s d) := by
  unfold State.timeAdjust
  repeat (first | with_reducible (first | assumption | apply State.wr64_lawful | apply State.timeStepped_lawful))

theorem State.timeSet_lawful {s0 s : State} (h0 : Lawful s0 s) (offset : DWord) : Lawful s0 (State.timeSet s offset) := by
  unfold State.timeSet
  repeat (first
    | with_reducible (first
      | assumption | apply State.setBase_lawful | apply State.setBit_lawful | apply State.timeStepped_lawful))

theorem State.timeRate_lawful {s0 s : State} (h0 : Lawful s0 s) (rate : Word) : Lawful s0 (State.timeRate s rate) := by
  unfold State.timeRate
  repeat (first | with_reducible (first | assumption | apply State.setBase_lawful | apply State.wr_lawful))

theorem State.timeHost_lawful {s0 s : State} (h0 : Lawful s0 s) (w : Writer) (addr : Nat) {f : State → State}
    (h_f : ∀  t, Lawful s0 t → Lawful s0 (f  t)) : Lawful s0 (State.timeHost s w addr f) := by
  unfold State.timeHost
  repeat (first
    | with_reducible (first
      | apply ite_lawful | apply State.setF_lawful | apply State.raise_lawful | apply State.bump_lawful
      | apply State.refuse_lawful)
    | apply_assumption)

theorem State.writeTimeRate_lawful {s0 s : State} (h0 : Lawful s0 s) (w : Writer) (v : Word)
    : Lawful s0 (State.writeTimeRate s w v) := by
  unfold State.writeTimeRate
  repeat (first
    | with_reducible assumption | intro _
    | with_reducible (first
      | apply State.gate_lawful | apply State.timeHost_lawful | apply State.timeRate_lawful))

theorem State.writeTimeOffset_lawful {s0 s : State} (h0 : Lawful s0 s) (w : Writer) (lo : Word)
    : Lawful s0 (State.writeTimeOffset s w lo) := by
  unfold State.writeTimeOffset
  repeat (first
    | with_reducible assumption | intro _
    | with_reducible (first
      | apply State.gate_lawful | apply State.timeHost_lawful | apply State.timeSet_lawful)
    | simp only [lawful_mk])

theorem State.writeTimeAdj_lawful {s0 s : State} (h0 : Lawful s0 s) (w : Writer) (v : Word)
    : Lawful s0 (State.writeTimeAdj s w v) := by
  unfold State.writeTimeAdj
  repeat (first
    | with_reducible assumption | intro _
    | with_reducible (first
      | apply State.gate_lawful | apply State.timeHost_lawful | apply State.timeAdjust_lawful))

theorem execTimeRateWrite_lawful {s0 s : State} (h0 : Lawful s0 s) (w : Writer) (v : Word)
    : ∃ t, execTimeRateWrite w v s = .next t ∧ Lawful s0 t := by
  unfold execTimeRateWrite
  refine ⟨_, rfl, ?_⟩
  repeat (first | with_reducible (first | assumption | apply State.writeTimeRate_lawful))

theorem execTimeOffsetApply_lawful {s0 s : State} (h0 : Lawful s0 s) (w : Writer) (lo : Word)
    : ∃ t, execTimeOffsetApply w lo s = .next t ∧ Lawful s0 t := by
  unfold execTimeOffsetApply
  refine ⟨_, rfl, ?_⟩
  repeat (first | with_reducible (first | assumption | apply State.writeTimeOffset_lawful))

theorem execTimeAdj_lawful {s0 s : State} (h0 : Lawful s0 s) (w : Writer) (v : Word)
    : ∃ t, execTimeAdj w v s = .next t ∧ Lawful s0 t := by
  unfold execTimeAdj
  refine ⟨_, rfl, ?_⟩
  repeat (first | with_reducible (first | assumption | apply State.writeTimeAdj_lawful))

theorem State.ptpQueue_lawful {s0 s : State} (h0 : Lawful s0 s) (k : PtpKind) : Lawful s0 (State.ptpQueue s k) := by
  unfold State.ptpQueue
  repeat (first | with_reducible (first | assumption | apply State.macSend_lawful))

theorem State.ptpSend_lawful {s0 s : State} (h0 : Lawful s0 s) (slot : Nat) (k : PtpKind)
    : Lawful s0 (State.ptpSend s slot k) := by
  unfold State.ptpSend
  repeat (first | with_reducible (first | assumption | apply State.ptpQueue_lawful) | simp only [lawful_mk])

theorem State.ptpSent_lawful {s0 s : State} (h0 : Lawful s0 s) (m : Nat) (k : PtpKind)
    : Lawful s0 (State.ptpSent s m k) := by
  unfold State.ptpSent
  repeat (first
    | intro _
    | with_reducible (first
      | apply ite_lawful | apply State.when_lawful | apply State.ptpQueue_lawful)
    | apply_assumption)

theorem State.servoLock_lawful {s0 s : State} (h0 : Lawful s0 s) (within : Bool)
    : Lawful s0 (State.servoLock s within) := by
  unfold State.servoLock
  repeat (first
    | with_reducible (first
      | apply ite_lawful | apply State.setBit_lawful | apply State.raise_lawful | apply State.timeUnlock_lawful)
    | apply_assumption)

theorem State.servo_lawful {s0 s : State} (h0 : Lawful s0 s) (ofs : Int) : Lawful s0 (State.servo s ofs) := by
  unfold State.servo
  repeat (first
    | with_reducible (first
      | assumption | apply ite_lawful | apply State.wr_lawful | apply State.timeAdjust_lawful | apply State.timeRate_lawful
      | apply State.servoLock_lawful))

theorem State.ptpSync_lawful {s0 s : State} (h0 : Lawful s0 s) (m : PtpMsg) (stamp : DWord)
    : Lawful s0 (State.ptpSync s m stamp) := by
  unfold State.ptpSync
  repeat (first
    | with_reducible (first
      | apply ite_lawful | apply State.bump_lawful | apply State.servo_lawful)
    | apply_assumption)

theorem State.ptpFollowUp_lawful {s0 s : State} (h0 : Lawful s0 s) (m : PtpMsg) : Lawful s0 (State.ptpFollowUp s m) := by
  unfold State.ptpFollowUp
  repeat (first | with_reducible (first | apply ite_lawful | apply State.servo_lawful) | apply_assumption)

theorem State.ptpDelay_lawful {s0 s : State} (h0 : Lawful s0 s) (t1 : DWord) (t2 : DWord) (t3 : DWord) (t4 : DWord)
    (correction : Int) : Lawful s0 (State.ptpDelay s t1 t2 t3 t4 correction) := by
  unfold State.ptpDelay
  repeat (first | with_reducible (first | assumption | apply ite_lawful | apply State.wr_lawful))

theorem State.ptpAnnounce_lawful {s0 s : State} (h0 : Lawful s0 s) (m : PtpMsg) : Lawful s0 (State.ptpAnnounce s m) := by
  unfold State.ptpAnnounce
  repeat (first
    | with_reducible assumption | intro _
    | with_reducible (first
      | apply ite_lawful | apply State.setF_lawful | apply State.setBit_lawful | apply State.when_lawful
      | apply State.raise_lawful))

theorem State.ptpTake_lawful {s0 s : State} (h0 : Lawful s0 s) (mac : Nat) (m : PtpMsg)
    : Lawful s0 (State.ptpTake s mac m) := by
  unfold State.ptpTake
  repeat (first
    | intro _
    | with_reducible (first
      | apply State.ptpSync_lawful | apply State.ptpFollowUp_lawful | apply State.when_lawful | apply State.ptpQueue_lawful
      | apply State.ptpDelay_lawful | apply State.ptpAnnounce_lawful)
    | split | apply_assumption)

theorem execPtpReceive_lawful {s0 s : State} (h0 : Lawful s0 s) (mac : Fin 8) (msg : PtpMsg)
    : ∃ t, execPtpReceive mac msg s = .next t ∧ Lawful s0 t := by
  unfold execPtpReceive
  refine ⟨_, rfl, ?_⟩
  repeat (first
    | with_reducible (first
      | assumption | apply ite_lawful | apply State.ptpTake_lawful | apply State.bump_lawful))

theorem execPtpSyncSend_lawful {s0 s : State} (h0 : Lawful s0 s) : ∃ t, execPtpSyncSend s = .next t ∧ Lawful s0 t := by
  unfold execPtpSyncSend
  refine ⟨_, rfl, ?_⟩
  repeat (first
    | with_reducible (first
      | assumption | apply ite_lawful | apply State.ptpSend_lawful | apply State.bump_lawful))

theorem execPtpAnnounceSend_lawful {s0 s : State} (h0 : Lawful s0 s)
    : ∃ t, execPtpAnnounceSend s = .next t ∧ Lawful s0 t := by
  unfold execPtpAnnounceSend
  refine ⟨_, rfl, ?_⟩
  repeat (first | with_reducible (first | assumption | apply ite_lawful | apply State.ptpSend_lawful))

theorem execPtpDelayReqSend_lawful {s0 s : State} (h0 : Lawful s0 s)
    : ∃ t, execPtpDelayReqSend s = .next t ∧ Lawful s0 t := by
  unfold execPtpDelayReqSend
  refine ⟨_, rfl, ?_⟩
  repeat (first | with_reducible (first | assumption | apply ite_lawful | apply State.ptpSend_lawful))

theorem execAnnounceTimeout_lawful {s0 s : State} (h0 : Lawful s0 s)
    : ∃ t, execAnnounceTimeout s = .next t ∧ Lawful s0 t := by
  unfold execAnnounceTimeout
  refine ⟨_, rfl, ?_⟩
  repeat (first | with_reducible (first | assumption | apply State.timeUnlock_lawful) | split)

theorem State.ptpCfgWrite_lawful {s0 s : State} (h0 : Lawful s0 s) (v : Word) : Lawful s0 (State.ptpCfgWrite s v) := by
  unfold State.ptpCfgWrite
  repeat (first
    | with_reducible (first
      | assumption | apply ite_lawful | apply State.wr_lawful | apply State.setF_lawful | apply State.timeUnlock_lawful)
    | simp only [lawful_mk])

theorem State.histWrite_lawful {s0 s : State} (h0 : Lawful s0 s) (n : Nat) : Lawful s0 (State.histWrite s n) := by
  unfold State.histWrite
  repeat (first | with_reducible (first | assumption | apply ite_lawful) | simp only [lawful_mk])

theorem execHistoryEntry_lawful {s0 s : State} (h0 : Lawful s0 s) : ∃ t, execHistoryEntry s = .next t ∧ Lawful s0 t := by
  unfold execHistoryEntry
  refine ⟨_, rfl, ?_⟩
  repeat (first
    | with_reducible assumption | intro _
    | with_reducible (first
      | apply ite_lawful | apply State.forAll_lawful | apply State.histWrite_lawful))


/-! ### Sys2Proof/Machine/CamOps.lean -/

theorem State.updCam_lawful {s0 s : State} (h0 : Lawful s0 s) (n : Nat) (f : CamPort → CamPort)
    : Lawful s0 (State.updCam s n f) := by
  unfold State.updCam
  repeat (first | with_reducible (first | assumption | apply State.setCam_lawful))

theorem State.camCnt_lawful {s0 s : State} (h0 : Lawful s0 s) (n : Nat) (k : Nat) : Lawful s0 (State.camCnt s n k) := by
  unfold State.camCnt
  repeat (first | with_reducible (first | assumption | apply State.bump_lawful))

theorem State.camOcc_lawful {s0 s : State} (h0 : Lawful s0 s) (n : Nat) : Lawful s0 (State.camOcc s n) := by
  unfold State.camOcc
  repeat (first | with_reducible (first | assumption | apply State.wr_lawful | apply State.setBit_lawful))

theorem State.camRelease_lawful {s0 s : State} (h0 : Lawful s0 s) (n : Nat) : Lawful s0 (State.camRelease s n) := by
  unfold State.camRelease
  repeat (first | with_reducible (first | assumption | apply State.updCam_lawful | apply State.camOcc_lawful))

theorem State.camAligned_lawful {s0 s : State} (h0 : Lawful s0 s) (n : Nat) (b : CamBlock) (t : Option CamTrig) :
    Lawful s0 (State.camAligned s n b t).2.2.2 := by
  have h1 : Lawful s0 s.draw.2.draw.2 := State.draw_lawful (State.draw_lawful h0)
  have h2 : Lawful s0 (if t.isSome then s else s.draw.2.draw.2) := ite_lawful h0 h1
  unfold State.camAligned
  extract_lets off m
  show Lawful s0 (Prod.snd (Prod.snd (Prod.snd (if _ then _ else _))))
  split
  · exact h2
  · split
    · exact h2
    · exact h1

theorem State.camPair_lawful {s0 s : State} (h0 : Lawful s0 s) (n : Nat) (t : Option CamTrig)
    : Lawful s0 (State.camPair s n t) := by
  unfold State.camPair
  repeat (first | with_reducible (first | assumption | apply State.updCam_lawful) | split)

theorem State.camAdmit_lawful {s0 s : State} (h0 : Lawful s0 s) (n : Nat) (i : Nat) (b : CamBlock) (t : Option CamTrig)
    (fillLine : Bool) : Lawful s0 (State.camAdmit s n i b t fillLine) := by
  unfold State.camAdmit
  repeat (first
    | with_reducible (first
      | assumption | apply ite_lawful | apply State.camPair_lawful | apply State.camCnt_lawful | apply State.raise_lawful
      | apply State.updCam_lawful | apply State.camAligned_lawful | apply State.camRelease_lawful
      | apply State.camOcc_lawful))

theorem State.camDiscard_lawful {s0 s : State} (h0 : Lawful s0 s) (n : Nat) : Lawful s0 (State.camDiscard s n) := by
  unfold State.camDiscard
  repeat (first | with_reducible (first | assumption | apply State.camCnt_lawful | apply State.updCam_lawful))

theorem State.camLineDone_lawful {s0 s : State} (h0 : Lawful s0 s) (n : Nat) : Lawful s0 (State.camLineDone s n) := by
  unfold State.camLineDone
  repeat (first
    | with_reducible assumption | intro _
    | with_reducible (first
      | apply State.updCam_lawful | apply State.when_lawful | apply State.camCnt_lawful | apply State.camRelease_lawful)
    | split)

theorem State.camLine_lawful {s0 s : State} (h0 : Lawful s0 s) (n : Nat) (i : Nat) : Lawful s0 (State.camLine s n i) := by
  unfold State.camLine
  repeat (first
    | with_reducible assumption | extract_lets
    | with_reducible (first
      | apply State.camLineDone_lawful | apply State.updCam_lawful | apply State.camDiscard_lawful
      | apply State.camAdmit_lawful)
    | split)

theorem State.camWrite_lawful {s0 s : State} (h0 : Lawful s0 s) (n : Nat) (i : Nat) (k : Option Nat) (pix : List Nat)
    : Lawful s0 (State.camWrite s n i k pix) := by
  unfold State.camWrite
  repeat (first
    | with_reducible assumption | extract_lets
    | with_reducible (first
      | apply State.updCam_lawful | apply State.camLineDone_lawful | apply State.camRelease_lawful)
    | split)

theorem State.camLeave_lawful {s0 s : State} (h0 : Lawful s0 s) (n : Nat) (no : Nat)
    : Lawful s0 (State.camLeave s n no) := by
  unfold State.camLeave
  repeat (first | with_reducible (first | assumption | apply State.updCam_lawful))

theorem State.camFill_lawful {s0 s : State} (h0 : Lawful s0 s) (n : Nat) : Lawful s0 (State.camFill s n) := by
  unfold State.camFill
  repeat (first
    | with_reducible assumption | intro _
    | with_reducible (first
      | apply State.forAll_lawful | apply State.camAdmit_lawful)
    | split)

theorem State.camClose_lawful {s0 s : State} (h0 : Lawful s0 s) (n : Nat) (marks : Nat)
    : Lawful s0 (State.camClose s n marks) := by
  unfold State.camClose
  repeat (first
    | with_reducible assumption | intro _ | extract_lets
    | with_reducible (first
      | apply State.camLineDone_lawful | apply State.updCam_lawful | apply State.when_lawful | apply State.camFill_lawful
      | apply State.camLeave_lawful | apply State.camRelease_lawful | apply State.camCnt_lawful | apply State.raise_lawful)
    | split)

theorem State.camOpen_lawful {s0 s : State} (h0 : Lawful s0 s) (n : Nat) (fmt : BitVec 7) (width : Nat) (exposure : DWord)
    : Lawful s0 (State.camOpen s n fmt width exposure) := by
  unfold State.camOpen
  repeat (first
    | with_reducible (first
      | assumption | apply ite_lawful | apply State.camClose_lawful | apply State.updCam_lawful
      | apply State.camLeave_lawful | apply State.camCnt_lawful | apply State.raise_lawful))

theorem State.camDown_lawful {s0 s : State} (h0 : Lawful s0 s) (n : Nat) : Lawful s0 (State.camDown s n) := by
  unfold State.camDown
  repeat (first
    | with_reducible assumption | intro _
    | with_reducible (first
      | apply State.camClose_lawful | apply State.updCam_lawful | apply State.setF_lawful | apply State.when_lawful
      | apply State.raise_lawful))

theorem State.camLanesUp_lawful {s0 s : State} (h0 : Lawful s0 s) (n : Nat) : Lawful s0 (State.camLanesUp s n) := by
  unfold State.camLanesUp
  repeat (first | with_reducible (first | assumption | apply State.setF_lawful))

theorem State.camIssue_lawful {s0 s : State} (h0 : Lawful s0 s) (n : Nat) (num : Nat) (late : Bool)
    : Lawful s0 (State.camIssue s n num late) := by
  unfold State.camIssue
  repeat (first
    | with_reducible assumption | intro _
    | with_reducible (first
      | apply ite_lawful | apply State.updCam_lawful | apply State.when_lawful | apply State.camCnt_lawful
      | apply State.setDout_lawful | apply State.syncOuts_lawful | apply State.macSend_lawful))

theorem State.camReach_lawful {s0 s : State} (h0 : Lawful s0 s) (n : Nat) : Lawful s0 (State.camReach s n) := by
  unfold State.camReach
  repeat (first
    | with_reducible assumption | intro _ | extract_lets
    | with_reducible (first
      | apply State.updCam_lawful | apply State.camCnt_lawful | apply State.raise_lawful | apply State.setCam_lawful
      | apply State.when_lawful | apply State.camIssue_lawful)
    | split)

theorem State.camDelayed_lawful {s0 s : State} (h0 : Lawful s0 s) (n : Nat) : Lawful s0 (State.camDelayed s n) := by
  unfold State.camDelayed
  repeat (first | with_reducible (first | assumption | apply State.camIssue_lawful) | split)

theorem State.camEnable_lawful {s0 s : State} (h0 : Lawful s0 s) (n : Nat) : Lawful s0 (State.camEnable s n) := by
  unfold State.camEnable
  repeat (first
    | with_reducible assumption | intro _
    | with_reducible (first
      | apply State.setCam_lawful | apply State.forAll_lawful | apply State.laneClaim_lawful | apply State.laneTo_lawful
      | apply State.camGrid_lawful | apply State.camLanesUp_lawful))

theorem State.camDisable_lawful {s0 s : State} (h0 : Lawful s0 s) (n : Nat) (lanes : List Nat)
    : Lawful s0 (State.camDisable s n lanes) := by
  unfold State.camDisable
  repeat (first
    | with_reducible assumption | intro _
    | with_reducible (first
      | apply State.camDown_lawful | apply State.forAll_lawful | apply State.laneTo_lawful | apply State.laneFree_lawful
      | apply State.setF_lawful))

end Sys2Proof.Machine
end

