-- ==== Sys2Proof/Laws/LawfulJobs.lean ====
section
/-!
SUPPORT. Operations are lawful (they leave the queue of commands, keep the canonical form of memory and restore no fuse):
jobs, memory, the pipelines, the decoder, scheduling and the end of tiles.
-/
namespace Sys2Proof.Machine

open Sys2Proof

/-! ### Sys2Proof/Machine/JobOps.lean -/

theorem State.engCnt_lawful {s0 s : State} (h0 : Lawful s0 s) (e : Nat) (k : Nat) (n : Nat)
    : Lawful s0 (State.engCnt s e k n) := by
  unfold State.engCnt
  repeat (first | with_reducible (first | assumption | apply ite_lawful | apply State.bumpBy_lawful))

theorem State.engQCnt_lawful {s0 s : State} (h0 : Lawful s0 s) (e : Nat) (k : Nat) (n : Nat)
    : Lawful s0 (State.engQCnt s e k n) := by
  unfold State.engQCnt
  repeat (first | with_reducible (first | assumption | apply ite_lawful | apply State.bumpBy_lawful))

theorem State.engOpCnt_lawful {s0 s : State} (h0 : Lawful s0 s) (e : Nat) (k : Nat) (n : Nat)
    : Lawful s0 (State.engOpCnt s e k n) := by
  unfold State.engOpCnt
  repeat (first | with_reducible (first | assumption | apply ite_lawful | apply State.bumpBy_lawful))

theorem State.engEvent_lawful {s0 s : State} (h0 : Lawful s0 s) (e : Nat) (b : Nat) : Lawful s0 (State.engEvent s e b) := by
  unfold State.engEvent
  repeat (first | with_reducible (first | assumption | apply ite_lawful | apply State.raise_lawful))

theorem State.engQEvent_lawful {s0 s : State} (h0 : Lawful s0 s) (e : Nat) (b : Nat)
    : Lawful s0 (State.engQEvent s e b) := by
  unfold State.engQEvent
  repeat (first | with_reducible (first | assumption | apply ite_lawful | apply State.raise_lawful))

theorem State.engCounts_lawful {s0 s : State} (h0 : Lawful s0 s) (e : Nat) (c : Cnt)
    : Lawful s0 (State.engCounts s e c) := by
  unfold State.engCounts
  repeat (first
    | with_reducible assumption | intro _
    | with_reducible (first
      | apply State.engCnt_lawful | apply State.when_lawful | apply State.engEvent_lawful | apply State.engQCnt_lawful
      | apply State.engQEvent_lawful | apply State.engOpCnt_lawful))

theorem State.syncEngine_lawful {s0 s : State} (h0 : Lawful s0 s) (e : Nat) : Lawful s0 (State.syncEngine s e) := by
  unfold State.syncEngine
  repeat (first | with_reducible (first | assumption | apply ite_lawful | apply State.wr_lawful))

theorem State.syncSched_lawful {s0 s : State} (h0 : Lawful s0 s) : Lawful s0 (State.syncSched s) := by
  unfold State.syncSched
  repeat (first | with_reducible (first | assumption | apply State.wr_lawful))

theorem State.syncJobs_lawful {s0 s : State} (h0 : Lawful s0 s) : Lawful s0 (State.syncJobs s) := by
  unfold State.syncJobs
  repeat (first
    | with_reducible assumption | intro _
    | with_reducible (first
      | apply State.forAll_lawful | apply State.syncEngine_lawful | apply State.syncSched_lawful))

theorem State.putEngine_lawful {s0 s : State} (h0 : Lawful s0 s) (e : Nat) (x : Engine)
    : Lawful s0 (State.putEngine s e x) := by
  unfold State.putEngine
  repeat (first
    | with_reducible (first
      | assumption | apply State.setEngine_lawful | apply State.syncEngine_lawful | apply State.syncSched_lawful))

theorem State.addPair_lawful {s0 s : State} (h0 : Lawful s0 s) (lo : RegRow) (hi : RegRow) (i : Nat) (n : Nat)
    : Lawful s0 (State.addPair s lo hi i n) := by
  unfold State.addPair
  repeat (first | with_reducible (first | assumption | apply State.wr64_lawful))

theorem State.charge_lawful {s0 s : State} (h0 : Lawful s0 s) (h : Nat) (u : Nat) (n : Nat)
    : Lawful s0 (State.charge s h u n) := by
  unfold State.charge
  repeat (first
    | with_reducible (first
      | assumption | apply State.setCtx_lawful | apply State.addPair_lawful)
    | split)

theorem State.waited_lawful {s0 s : State} (h0 : Lawful s0 s) (h : Nat) (u : Nat) : Lawful s0 (State.waited s h u) := by
  unfold State.waited
  repeat (first
    | with_reducible assumption | extract_lets
    | with_reducible (first
      | apply State.addPair_lawful | apply State.wr_lawful | apply State.setCtx_lawful)
    | split)

theorem State.clientCnt_lawful {s0 s : State} (h0 : Lawful s0 s) (h : Nat) (k : Nat)
    : Lawful s0 (State.clientCnt s h k) := by
  unfold State.clientCnt
  repeat (first | with_reducible (first | assumption | apply State.bump_lawful) | split)

theorem State.releaseRows_lawful {s0 s : State} (h0 : Lawful s0 s) (pipe : Nat) (out : Nat) (user : Nat)
    (p : OutRow → Bool) : Lawful s0 (State.releaseRows s pipe out user p) := by
  unfold State.releaseRows
  repeat (first | with_reducible (first | assumption | apply State.setIspOut_lawful))

theorem State.releaseInput_lawful {s0 s : State} (h0 : Lawful s0 s) (h : Nat) (i : InputD) (b : Binding) (c : Comet)
    : Lawful s0 (State.releaseInput s h i b c) := by
  unfold State.releaseInput
  repeat (first | with_reducible (first | assumption | apply State.releaseRows_lawful))

theorem State.releaseWindow_lawful {s0 s : State} (h0 : Lawful s0 s) (h : Nat) (j : Job) (c : Comet)
    : Lawful s0 (State.releaseWindow s h j c) := by
  unfold State.releaseWindow
  repeat (first
    | with_reducible assumption | intro _
    | with_reducible (first
      | apply State.forAll_lawful | apply State.releaseInput_lawful)
    | split)

theorem State.slotMissed_lawful {s0 s : State} (h0 : Lawful s0 s) (c : Comet) : Lawful s0 (State.slotMissed s c) := by
  unfold State.slotMissed
  repeat (first
    | with_reducible assumption | intro _
    | with_reducible (first
      | apply ite_lawful | apply State.forAll_lawful | apply State.releaseWindow_lawful | apply State.bump_lawful
      | apply State.raise_lawful))

theorem State.markDropped_lawful {s0 s : State} (h0 : Lawful s0 s) (x : Slot) : Lawful s0 (State.markDropped s x) := by
  unfold State.markDropped
  repeat (first | with_reducible (first | assumption | apply State.setComet_lawful) | split)

theorem State.dropSlots_lawful {s0 s : State} (h0 : Lawful s0 s) (h : Nat) : Lawful s0 (State.dropSlots s h) := by
  unfold State.dropSlots
  repeat (first
    | with_reducible assumption | intro _
    | with_reducible (first
      | apply State.forAll_lawful | apply State.markDropped_lawful | apply State.setJob_lawful)
    | split)

theorem State.returnTileCredits_lawful {s0 s : State} (h0 : Lawful s0 s) (t : TileRun)
    : Lawful s0 (State.returnTileCredits s t) := by
  unfold State.returnTileCredits
  repeat (first | with_reducible (first | assumption | apply State.putQueue_lawful) | split)

theorem State.abandonTile_lawful {s0 s : State} (h0 : Lawful s0 s) (e : Nat) : Lawful s0 (State.abandonTile s e) := by
  unfold State.abandonTile
  repeat (first
    | with_reducible assumption | intro _
    | (extract_lets +onlyGivenNames x; refine (fun (_ : Lawful s0 x) => ?_) ?_; (on_goal 1 => clear_value x); (on_goal 2 => subst x))
    | with_reducible (first
      | apply State.when_lawful | apply State.bump_lawful | apply State.setCtx_lawful | apply State.returnTileCredits_lawful
      | apply State.engCnt_lawful | apply State.putEngine_lawful)
    | split | simp only [lawful_mk])

theorem State.clearCtxs_lawful {s0 s : State} (h0 : Lawful s0 s) (h : Nat) : Lawful s0 (State.clearCtxs s h) := by
  unfold State.clearCtxs
  repeat (first | with_reducible assumption | simp only [lawful_mk])

theorem State.returnCredits_lawful {s0 s : State} (h0 : Lawful s0 s) (h : Nat) : Lawful s0 (State.returnCredits s h) := by
  unfold State.returnCredits
  repeat (first | with_reducible assumption | simp only [lawful_mk])

theorem State.leaveEngines_lawful {s0 s : State} (h0 : Lawful s0 s) (h : Nat) : Lawful s0 (State.leaveEngines s h) := by
  unfold State.leaveEngines
  repeat (first
    | with_reducible assumption | intro _
    | with_reducible (first
      | apply ite_lawful | apply State.forAll_lawful | apply State.when_lawful | apply State.abandonTile_lawful
      | apply State.setEngine_lawful | apply State.clearCtxs_lawful | apply State.returnCredits_lawful
      | apply State.syncJobs_lawful))

theorem State.putCompletion_lawful {s0 s : State} (h0 : Lawful s0 s) (h : Nat) (j : Job) (status : Nat)
    : Lawful s0 (State.putCompletion s h j status) := by
  unfold State.putCompletion
  repeat (first
    | with_reducible (first
      | assumption | apply ite_lawful | apply State.qOffer_lawful)
    | simp only [lawful_mk])

theorem State.flushRecords_lawful {s0 s : State} (h0 : Lawful s0 s) : Lawful s0 (State.flushRecords s) := by
  unfold State.flushRecords
  repeat (first
    | with_reducible assumption | intro _
    | with_reducible (first
      | apply ite_lawful | apply State.qOffer_lawful | apply foldl_lawful)
    | simp only [lawful_mk])

theorem State.endRun_lawful {s0 s : State} (h0 : Lawful s0 s) (h : Nat) (st : JobState) (status : Nat)
    : Lawful s0 (State.endRun s h st status) := by
  unfold State.endRun
  repeat (first
    | with_reducible assumption | extract_lets
    | with_reducible (first
      | apply State.leaveEngines_lawful | apply State.dropSlots_lawful | apply State.putCompletion_lawful
      | apply State.setJob_lawful | apply State.lastStatus_lawful | apply State.syncJobs_lawful)
    | split)

theorem State.faultJob_lawful {s0 s : State} (h0 : Lawful s0 s) (h : Nat) (status : Nat)
    : Lawful s0 (State.faultJob s h status) := by
  unfold State.faultJob
  repeat (first | with_reducible (first | assumption | apply State.endRun_lawful) | split)

theorem State.tryComplete_lawful {s0 s : State} (h0 : Lawful s0 s) (h : Nat) : Lawful s0 (State.tryComplete s h) := by
  unfold State.tryComplete
  repeat (first
    | with_reducible (first
      | assumption | apply State.putCompletion_lawful | apply State.leaveEngines_lawful | apply State.updJob_lawful
      | apply State.syncJobs_lawful)
    | split)

theorem State.flushQueues_lawful {s0 s : State} (h0 : Lawful s0 s) : Lawful s0 (State.flushQueues s) := by
  unfold State.flushQueues
  repeat (first
    | with_reducible assumption | intro _
    | with_reducible (first
      | apply State.tryComplete_lawful | apply State.flushRecords_lawful | apply State.flushHeld_lawful | apply foldl_lawful))


/-! ### Sys2Proof/Machine/MemOps.lean -/

theorem State.pokes_lawful {s0 s : State} (h0 : Lawful s0 s) (a : Nat) (l : List Byte) : Lawful s0 (State.pokes s a l) := by
  induction l generalizing s a with
  | nil => exact h0
  | cons b t ih => exact ih (State.poke_lawful h0 a b) (a + 1)

theorem State.corrected_lawful {s0 s : State} (h0 : Lawful s0 s) (sector : Nat) (symbol : Nat) (src : Nat)
    : Lawful s0 (State.corrected s sector symbol src) := by
  unfold State.corrected
  repeat (first
    | with_reducible (first
      | apply ite_lawful | apply State.bump_lawful | apply State.qAppend_lawful | apply State.raise_lawful)
    | apply_assumption)

theorem State.syncSpare_lawful {s0 s : State} (h0 : Lawful s0 s) : Lawful s0 (State.syncSpare s) := by
  unfold State.syncSpare
  repeat (first | with_reducible (first | assumption | apply State.wr_lawful))

theorem State.syncFree_lawful {s0 s : State} (h0 : Lawful s0 s) : Lawful s0 (State.syncFree s) := by
  unfold State.syncFree
  repeat (first | with_reducible (first | assumption | apply State.wr_lawful))

theorem State.rowRepair_lawful {s0 s : State} (h0 : Lawful s0 s) (row : Nat) : Lawful s0 (State.rowRepair s row) := by
  unfold State.rowRepair
  repeat (first
    | with_reducible (first
      | apply ite_lawful | apply State.bump_lawful | apply State.raise_lawful | apply State.syncSpare_lawful
      | apply State.syncFree_lawful)
    | apply_assumption)

theorem State.readSector_lawful {s0 s : State} (h0 : Lawful s0 s) (sector : Nat) (src : Nat) (first : BitVec 36)
    (second : BitVec 36) : Lawful s0 (State.readSector s sector src first second).1 := by
  unfold State.readSector
  repeat (first
    | with_reducible assumption | extract_lets
    | with_reducible (first
      | apply State.corrected_lawful | apply State.bump_lawful | apply State.raise_lawful | apply State.faultRetried_lawful
      | apply State.rowRepair_lawful)
    | split)

theorem State.setMerge_lawful {s0 s : State} (h0 : Lawful s0 s) (v : Nat) (l : List MergeEnt)
    : Lawful s0 (State.setMerge s v l) := by
  unfold State.setMerge
  repeat (first | with_reducible apply State.wr_lawful | apply_assumption)

theorem State.mergeBytes_lawful {s0 s : State} (h0 : Lawful s0 s) (e : MergeEnt) : Lawful s0 (State.mergeBytes s e) := by
  unfold State.mergeBytes
  repeat (first
    | with_reducible assumption | intro _
    | with_reducible (first
      | apply State.forAll_lawful | apply State.poke_lawful))

theorem State.faultSources_lawful {s0 s : State} (h0 : Lawful s0 s) (l : List Nat)
    : Lawful s0 (State.faultSources s l) := by
  unfold State.faultSources
  repeat (first
    | with_reducible assumption | intro _
    | with_reducible (first
      | apply State.forAll_lawful | apply State.faultJob_lawful))

theorem State.retireMerge_lawful {s0 s : State} (h0 : Lawful s0 s) (e : MergeEnt) : Lawful s0 (State.retireMerge s e) := by
  unfold State.retireMerge
  repeat (first
    | with_reducible (first
      | assumption | apply ite_lawful | apply State.setMerge_lawful | apply State.mergeBytes_lawful
      | apply State.sectorStored_lawful | apply State.bump_lawful | apply State.readSector_lawful | apply State.raise_lawful
      | apply State.faultSources_lawful))

theorem State.settleSector_lawful {s0 s : State} (h0 : Lawful s0 s) (sector : Nat)
    : Lawful s0 (State.settleSector s sector) := by
  unfold State.settleSector
  repeat (first
    | with_reducible (first
      | assumption | apply State.retireMerge_lawful | apply State.bump_lawful)
    | split)

theorem State.countBytes_lawful {s0 s : State} (h0 : Lawful s0 s) (k : Nat) (v : Nat) (n : Nat)
    : Lawful s0 (State.countBytes s k v n) := by
  unfold State.countBytes
  repeat (first | with_reducible (first | apply ite_lawful | apply State.bumpBy_lawful) | apply_assumption)

theorem State.fetchSector_lawful {s0 s : State} (h0 : Lawful s0 s) (sector : Nat) (port : Nat) (first : BitVec 36)
    (second : BitVec 36) : Lawful s0 (State.fetchSector s sector port first second).1 := by
  unfold State.fetchSector
  repeat (first
    | with_reducible (first
      | assumption | apply State.settleSector_lawful | apply State.countBytes_lawful | apply State.readSector_lawful))

theorem State.writeSector_lawful {s0 s : State} (h0 : Lawful s0 s) (sector : Nat) (off : Nat) (src : Nat) (l : List Byte)
    : Lawful s0 (State.writeSector s sector off src l) := by
  unfold State.writeSector
  repeat (first
    | with_reducible (first
      | assumption | apply ite_lawful | apply State.countBytes_lawful | apply State.setMerge_lawful
      | apply State.pokes_lawful | apply State.sectorStored_lawful | apply State.retireMerge_lawful
      | apply State.bump_lawful | apply State.raise_lawful | apply foldl_lawful)
    | split)

theorem State.writePhys_lawful {s0 s : State} (h0 : Lawful s0 s) (src : Nat) (x0 : Nat) (x1 : Nat) (x2 : List Byte)
    : Lawful s0 (State.writePhys s src x0 x1 x2) := by
  induction x0 generalizing s x1 x2 <;> unfold State.writePhys <;> repeat (first | with_reducible (first | apply State.writeSector_lawful | apply_assumption) | split)

theorem State.readPhys_lawful {s0 s : State} (h0 : Lawful s0 s) (fuel pa n : Nat) : Lawful s0 (State.readPhys s fuel pa n).1 := by
  induction fuel generalizing s pa n with
  | zero => exact h0
  | succ fuel ih =>
    rw [State.readPhys]
    extract_lets off k r t
    have hr : Lawful s0 r.1 := State.fetchSector_lawful h0 _ _ _ _
    split
    · exact h0
    · split
      · exact ih hr _ _
      · exact hr

theorem State.readEntry_lawful {s0 s : State} (h0 : Lawful s0 s) (pa : Nat) : Lawful s0 (State.readEntry s pa).1 := by
  unfold State.readEntry
  repeat (first | with_reducible (first | assumption | apply State.fetchSector_lawful))

theorem State.walk_lawful {s0 s : State} (h0 : Lawful s0 s) (h : Nat) (va : Nat) (write : Bool)
    : Lawful s0 (State.walk s h va write).1 := by
  unfold State.walk
  repeat (first
    | with_reducible assumption | extract_lets | with_reducible apply State.readEntry_lawful
    | refine fst_lawful (by assumption) ?_ | split)

theorem State.translate_lawful {s0 s : State} (h0 : Lawful s0 s) (e : Nat) (h : Nat) (va : Nat) (write : Bool)
    : Lawful s0 (State.translate s e h va write).1 := by
  unfold State.translate
  repeat (first
    | with_reducible (first
      | assumption | apply State.walk_lawful | apply State.bump_lawful)
    | split | simp only [lawful_mk])

theorem State.dmaRead_lawful {s0 s : State} (h0 : Lawful s0 s) (e h : Nat) (up : Option ReadUpset) (fuel va n x : Nat) :
    Lawful s0 (State.dmaRead s e h up fuel va n x).1 := by
  induction fuel generalizing s va n x with
  | zero => exact h0
  | succ fuel ih =>
    unfold State.dmaRead
    refine iteP_lawful h0 ?_
    extract_lets off k hit
    split
    · exact fst_lawful (by assumption) (State.translate_lawful h0 _ _ _ _)
    · rename_i s1 pa e1
      have h1 : Lawful s0 s1 := fst_lawful e1 (State.translate_lawful h0 _ _ _ _)
      split
      · exact fst_lawful (by assumption) (State.fetchSector_lawful h1 _ _ _ _)
      · rename_i s2 e2
        have h2 : Lawful s0 s2 := fst_lawful e2 (State.fetchSector_lawful h1 _ _ _ _)
        split
        · exact fst_lawful (by assumption) (ih h2 _ _ _)
        · exact ih h2 _ _ _

theorem State.dmaWrite_lawful {s0 s : State} (h0 : Lawful s0 s) (e h : Nat) (fuel va : Nat) (l : List Byte) (x : Nat) :
    Lawful s0 (State.dmaWrite s e h fuel va l x).1 := by
  induction fuel generalizing s va l x with
  | zero => exact h0
  | succ fuel ih =>
    unfold State.dmaWrite
    split
    · exact h0
    · extract_lets off k
      split
      · exact fst_lawful (by assumption) (State.translate_lawful h0 _ _ _ _)
      · exact ih (State.writeSector_lawful (fst_lawful (by assumption) (State.translate_lawful h0 _ _ _ _)) _ _ _ _) _ _ _

theorem State.suspend_lawful {s0 s : State} (h0 : Lawful s0 s) (e : Nat) (x : XltSusp)
    : Lawful s0 (State.suspend s e x) := by
  unfold State.suspend
  repeat (first | with_reducible assumption | simp only [lawful_mk])

theorem State.xltFault_lawful {s0 s : State} (h0 : Lawful s0 s) (e h stream tile va offset level : Nat) (write : Bool)
    (c0 : XCause) : Lawful s0 (State.xltFault s e h stream tile va offset level write c0) := by
  unfold State.xltFault
  extract_lets c seq s1 su
  have h1 : Lawful s0 s1 := State.faultNew_lawful h0 _
  cases c
  case load => exact State.raise_lawful (State.bump_lawful (State.suspend_lawful h1 _ _) _ _ _) _ _ _ _
  case migrating => exact State.raise_lawful (State.bump_lawful (State.suspend_lawful h1 _ _) _ _ _) _ _ _ _
  case tableUe => exact State.faultJob_lawful (State.raise_lawful h1 _ _ _ _) _ _
  all_goals exact State.faultJob_lawful (State.raise_lawful (State.bump_lawful h1 _ _ _) _ _ _ _) _ _

theorem State.mapPage_lawful {s0 s : State} (h0 : Lawful s0 s) (h : Nat) (i : Nat) (page : Nat) (kind : Nat) (v : Bool)
    : Lawful s0 (State.mapPage s h i page kind v) := by
  unfold State.mapPage
  repeat (first | with_reducible (first | assumption | apply State.writePhys_lawful))

theorem State.mapJob_lawful {s0 s : State} (h0 : Lawful s0 s) (h : Nat) (pages : List Nat) (valid : Nat)
    : Lawful s0 (State.mapJob s h pages valid) := by
  unfold State.mapJob
  repeat (first
    | with_reducible assumption | intro _
    | with_reducible (first
      | apply State.forAll_lawful | apply State.mapPage_lawful | apply State.wr_lawful))

theorem State.unmapJob_lawful {s0 s : State} (h0 : Lawful s0 s) (h : Nat) : Lawful s0 (State.unmapJob s h) := by
  unfold State.unmapJob
  repeat (first | with_reducible (first | assumption | apply State.wr_lawful))

theorem State.fwWrite_lawful {s0 s : State} (h0 : Lawful s0 s) (pages : List Nat) (x0 : Nat) (x1 : Nat) (x2 : List Byte)
    : Lawful s0 (State.fwWrite s pages x0 x1 x2) := by
  induction x0 generalizing s x1 x2 <;> unfold State.fwWrite <;> repeat (first | with_reducible (first | apply State.writePhys_lawful | apply_assumption) | split)


/-! ### Sys2Proof/Machine/IspOps.lean -/

theorem State.consumeLines_lawful {s0 s : State} (h0 : Lawful s0 s) (n : Nat) (x : Nat) (l : List (Nat × Nat))
    : Lawful s0 (State.consumeLines s n x l) := by
  unfold State.consumeLines
  repeat (first | with_reducible (first | assumption | apply State.updCam_lawful | apply State.camRelease_lawful))

theorem State.consumeSample_lawful {s0 s : State} (h0 : Lawful s0 s) (n : Nat) (x : Nat) (seq : Word)
    : Lawful s0 (State.consumeSample s n x seq) := by
  unfold State.consumeSample
  repeat (first | with_reducible (first | assumption | apply State.setStream_lawful))

theorem State.readTable_lawful {s0 s : State} (h0 : Lawful s0 s) (x0 : Nat) (x1 : Nat) (x2 : Nat)
    : Lawful s0 (State.readTable s x0 x1 x2).1 := by
  induction x0 generalizing s x1 x2 <;> unfold State.readTable <;> repeat (first | with_reducible (first | apply State.fetchSector_lawful | apply_assumption) | split)

theorem State.table_lawful {s0 s : State} (h0 : Lawful s0 s) (pa : Nat) (n : Nat) : Lawful s0 (State.table s pa n).1 := by
  unfold State.table
  repeat (first | with_reducible (first | assumption | apply State.readTable_lawful))

theorem State.ispTable_lawful {s0 s : State} (h0 : Lawful s0 s) (p : Nat) (c : Nat) (pa : Nat) (n : Nat)
    : Lawful s0 (State.ispTable s p c pa n).1 := by
  unfold State.ispTable
  repeat (first
    | with_reducible assumption | extract_lets
    | with_reducible (first
      | apply State.table_lawful | apply State.faultNew_lawful | apply State.bump_lawful | apply State.raise_lawful)
    | split)

theorem State.ispTables_lawful {s0 s : State} (h0 : Lawful s0 s) (p : Nat) (c : Nat) (f : IspCfg) (src : PixSrc) (h : Nat)
    : Lawful s0 (State.ispTables s p c f src h).1 := by
  unfold State.ispTables
  repeat (first
    | with_reducible assumption
    | (extract_lets +onlyGivenNames x; refine (fun (_ : Lawful s0 x.1) => ?_) ?_; (on_goal 1 => clear_value x); (on_goal 2 => subst x))
    | extract_lets +onlyGivenNames x | with_reducible apply State.ispTable_lawful | split)

theorem State.outUnit_lawful {s0 s : State} (h0 : Lawful s0 s) (p : Nat) (c : Nat) (o : Nat) (f : IspCfg) (src : PixSrc)
    (bad : Bool) (rows : List (PixRow × SrcLine)) : Lawful s0 (State.outUnit s p c o f src bad rows).2 := by
  unfold State.outUnit
  repeat (first | with_reducible (first | assumption | apply State.setIspOut_lawful))

theorem State.tnrFrame_lawful {s0 s : State} (h0 : Lawful s0 s) (p : Nat) (c : Nat) (f : IspCfg) (rows : List PixRow)
    : Lawful s0 (State.tnrFrame s p c f rows).2 := by
  unfold State.tnrFrame
  repeat (first
    | with_reducible assumption | intro _
    | with_reducible (first
      | apply State.table_lawful | apply State.writePhys_lawful | apply State.setIspCtx_lawful | apply State.when_lawful
      | apply State.bump_lawful | apply foldl_lawful)
    | split)

theorem State.startWork_lawful {s0 s : State} (h0 : Lawful s0 s) (p c : Nat) (src : PixSrc) (past own ahead : List SrcLine)
    (frame : Option Word) : Lawful s0 (State.startWork s p c src past own ahead frame) := by
  unfold State.startWork
  extract_lets f t s1 row tn s2 window block st cnt s3 made s4 x keep s5 pp s6
  have h1 : Lawful s0 s1 := State.ispTables_lawful h0 _ _ _ _ _
  have h2 : Lawful s0 s2 := by
    show Lawful s0 (Prod.snd (ite _ _ _))
    split
    · exact State.tnrFrame_lawful h1 _ _ _ _
    · exact h1
  have h3 : Lawful s0 s3 := State.bumpBy_lawful (State.bumpBy_lawful h2 _ _ _ _) _ _ _ _
  have h4 : Lawful s0 s4 := by
    refine foldl_snd_lawful (fun a o ha => ?_) h3
    exact State.outUnit_lawful ha _ _ _ _ _ _ _
  have h6 : Lawful s0 s6 := State.setIspPipe_lawful (State.setIspCtx_lawful h4 _ _ _) _ _
  exact State.setBit_lawful (State.setF_lawful h6 _ _ _ _ _ _ _) _ _ _ _ _ _

theorem State.makeRoom_lawful {s0 s : State} (h0 : Lawful s0 s) (p : Nat) (o : Nat) : Lawful s0 (State.makeRoom s p o) := by
  unfold State.makeRoom
  repeat (first | with_reducible (first | assumption | apply State.setIspOut_lawful) | split)

theorem State.putRow_lawful {s0 s : State} (h0 : Lawful s0 s) (p : Nat) (o : Nat) (w : Word) (r : OutRow)
    : Lawful s0 (State.putRow s p o w r) := by
  unfold State.putRow
  repeat (first
    | with_reducible (first
      | assumption | apply ite_lawful | apply State.makeRoom_lawful | apply State.setIspOut_lawful | apply State.bump_lawful))

theorem State.putRows_lawful {s0 s : State} (h0 : Lawful s0 s) (p : Nat) (f : IspCfg) (x0 : List (Nat × OutRow))
    : Lawful s0 (State.putRows s p f x0).1 := by
  induction x0 generalizing s <;> unfold State.putRows <;> repeat (first | with_reducible (first | apply State.putRow_lawful | apply_assumption) | split)


/-! ### Sys2Proof/Machine/TileOps.lean -/

theorem State.setSlot_lawful {s0 s : State} (h0 : Lawful s0 s) (h : Nat) (n : Nat) (x : Slot)
    : Lawful s0 (State.setSlot s h n x) := by
  unfold State.setSlot
  repeat (first | with_reducible (first | assumption | apply State.updJob_lawful))

theorem State.lastingUnit_lawful {s0 s : State} (h0 : Lawful s0 s) (e : Nat) : Lawful s0 (State.lastingUnit s e) := by
  unfold State.lastingUnit
  repeat (first
    | with_reducible (first
      | assumption | apply ite_lawful | apply State.setBit_lawful)
    | simp only [lawful_mk])

theorem State.sramRead_lawful {s0 s : State} (h0 : Lawful s0 s) (e : Nat) (t : TileRun) (r : SramRead)
    : Lawful s0 (State.sramRead s e t r).1 := by
  unfold State.sramRead
  repeat (first
    | with_reducible assumption | extract_lets
    | with_reducible (first
      | apply State.corrected_lawful | apply State.engCnt_lawful | apply State.engEvent_lawful
      | apply State.faultRetried_lawful | apply State.lastingUnit_lawful | apply State.noteTransient_lawful
      | apply State.faultNew_lawful | apply State.faultJob_lawful)
    | split)

theorem State.putTile_lawful {s0 s : State} (h0 : Lawful s0 s) (e : Nat) (t : TileRun)
    : Lawful s0 (State.putTile s e t) := by
  unfold State.putTile
  repeat (first | with_reducible (first | assumption | apply State.setEngine_lawful))

theorem State.onTurn_lawful {s0 s : State} (h0 : Lawful s0 s) (e : Nat) (op : Nat)
    {f : TileRun → TileInstr → State → State} (h_f : ∀ a0 a1 t, Lawful s0 t → Lawful s0 (f a0 a1 t))
    : Lawful s0 (State.onTurn s e op f) := by
  unfold State.onTurn
  repeat (first | split | apply_assumption)

theorem State.dmaFail_lawful {s0 s : State} (h0 : Lawful s0 s) (e : Nat) (t : TileRun) (stream : Nat) (write : Bool)
    (d : Dma) : Lawful s0 (State.dmaFail s e t stream write d) := by
  unfold State.dmaFail
  repeat (first
    | with_reducible assumption | extract_lets
    | with_reducible (first
      | apply State.xltFault_lawful | apply State.putTile_lawful | apply State.faultJob_lawful)
    | split)

theorem State.readRow_lawful {s0 s : State} (h0 : Lawful s0 s) (e : Nat) (t : TileRun) (n : Nat) (slot : Nat) (row : Nat)
    (up : Option ReadUpset) : Lawful s0 (State.readRow s e t n slot row up).1 := by
  unfold State.readRow
  repeat (first
    | with_reducible assumption | extract_lets +onlyGivenNames x | with_reducible apply State.dmaRead_lawful
    | refine fst_lawful (by assumption) ?_ | split)

theorem State.setTileCtx_lawful {s0 s : State} (h0 : Lawful s0 s) (t : TileRun) (c : Ctx)
    : Lawful s0 (State.setTileCtx s t c) := by
  unfold State.setTileCtx
  repeat (first | with_reducible (first | assumption | apply State.setCtx_lawful))

theorem State.loadRows_lawful {s0 s : State} (h0 : Lawful s0 s) (e : Nat) (t : TileRun) (n : Nat) (up : Option ReadUpset)
    (l : List (Nat × Nat)) : Lawful s0 (State.loadRows s e t n up l).1 := by
  induction l generalizing s up with
  | nil => unfold State.loadRows; exact h0
  | cons p rest ih =>
    obtain ⟨slot, row⟩ := p
    unfold State.loadRows
    extract_lets d
    split
    · split
      · exact ih (State.setTileCtx_lawful h0 _ _) _
      · exact h0
    · split
      · exact ih (State.setTileCtx_lawful (fst_lawful (by assumption) (State.readRow_lawful h0 _ _ _ _ _ _)) _ _) _
      · exact State.dmaFail_lawful (fst_lawful (by assumption) (State.readRow_lawful h0 _ _ _ _ _ _)) _ _ _ _ _

theorem State.scaleSeq_lawful {s0 s : State} (h0 : Lawful s0 s) (e : Nat) (t : TileRun) (stream : Nat) (f : TagFault)
    : Lawful s0 (State.scaleSeq s e t stream f) := by
  unfold State.scaleSeq
  repeat (first
    | with_reducible (first
      | assumption | apply State.engQCnt_lawful | apply State.engQEvent_lawful | apply State.faultNew_lawful
      | apply State.faultJob_lawful))

theorem State.computeRows_lawful {s0 s : State} (h0 : Lawful s0 s) (e : Nat) (t : TileRun) (i : TileInstr) (outH : Nat)
    (ready : Nat → Nat → Bool) (mk : Nat → Nat → Counted RowOut)
    : Lawful s0 (State.computeRows s e t i outH ready mk) := by
  unfold State.computeRows
  repeat (first
    | with_reducible (first
      | assumption | apply State.putTile_lawful | apply State.engCounts_lawful | apply foldl_lawful))

theorem State.compute_lawful {s0 s : State} (h0 : Lawful s0 s) (e op : Nat) (sram : SramRead) (tags : Bool)
    {f : TileRun → TileInstr → State → State} (h_f : ∀ a0 a1 t, Lawful s0 t → Lawful s0 (f a0 a1 t)) :
    Lawful s0 (State.compute s e op sram tags f) := by
  refine State.onTurn_lawful h0 e op (fun t i s hs => ?_)
  split
  · exact fst_lawful (by assumption) (State.sramRead_lawful hs _ _ _)
  · have h1 := fst_lawful (by assumption) (State.sramRead_lawful hs _ _ _)
    split
    · exact State.scaleSeq_lawful h1 _ _ _ _
    · exact h_f _ _ _ h1


/-! ### Sys2Proof/Machine/Sched.lean -/

theorem State.noteElig_lawful {s0 s : State} (h0 : Lawful s0 s) : Lawful s0 (State.noteElig s) := by
  unfold State.noteElig
  repeat (first
    | with_reducible assumption | intro _
    | with_reducible (first
      | apply ite_lawful | apply State.forAll_lawful | apply State.when_lawful | apply State.clientCnt_lawful
      | apply State.setCtx_lawful))

theorem State.chargeTime_lawful {s0 s : State} (h0 : Lawful s0 s) (h : Nat) (u : Nat) (n : Nat)
    : Lawful s0 (State.chargeTime s h u n) := by
  unfold State.chargeTime
  repeat (first
    | with_reducible assumption | intro _
    | with_reducible (first
      | apply State.charge_lawful | apply State.when_lawful | apply State.setCtx_lawful))

theorem State.freeSlot_lawful {s0 s : State} (h0 : Lawful s0 s) (h : Nat) (k : Nat) : Lawful s0 (State.freeSlot s h k) := by
  unfold State.freeSlot
  repeat (first
    | with_reducible assumption | intro _
    | with_reducible (first
      | apply State.forAll_lawful | apply State.setCtx_lawful | apply State.updJob_lawful)
    | split)

theorem State.freeOldSet_lawful {s0 s : State} (h0 : Lawful s0 s) (h : Nat) : Lawful s0 (State.freeOldSet s h) := by
  unfold State.freeOldSet
  repeat (first
    | with_reducible assumption | intro _
    | with_reducible (first
      | apply State.forAll_lawful | apply State.mapPage_lawful | apply State.setJob_lawful | apply State.setCtx_lawful
      | apply State.syncFree_lawful)
    | split)

theorem State.freeFinal_lawful {s0 s : State} (h0 : Lawful s0 s) (h : Nat) : Lawful s0 (State.freeFinal s h) := by
  unfold State.freeFinal
  repeat (first
    | with_reducible assumption | intro _
    | with_reducible (first
      | apply State.forAll_lawful | apply State.freeSlot_lawful | apply State.freeOldSet_lawful
      | apply State.tryComplete_lawful)
    | split)

theorem State.writePages_lawful {s0 s : State} (h0 : Lawful s0 s) (src : Nat) (x0 : List Nat) (x1 : List Byte)
    : Lawful s0 (State.writePages s src x0 x1) := by
  induction x0 generalizing s x1 <;> unfold State.writePages <;> repeat (first | with_reducible (first | apply ite_lawful | apply State.writePhys_lawful | apply_assumption))

theorem State.writeSave_lawful {s0 s : State} (h0 : Lawful s0 s) (e : Nat) (h : Nat) (u : Nat) (reason : Nat)
    : Lawful s0 (State.writeSave s e h u reason) := by
  unfold State.writeSave
  repeat (first | with_reducible (first | assumption | apply State.writePages_lawful) | split)

theorem State.beginSave_lawful {s0 s : State} (h0 : Lawful s0 s) (e : Nat) (reason : Nat) (cause : Option Nat)
    : Lawful s0 (State.beginSave s e reason cause) := by
  unfold State.beginSave
  repeat (first | with_reducible (first | assumption | apply State.putEngine_lawful))

theorem State.beginRestore_lawful {s0 s : State} (h0 : Lawful s0 s) (e : Nat) (h : Nat)
    : Lawful s0 (State.beginRestore s e h) := by
  unfold State.beginRestore
  repeat (first | with_reducible (first | assumption | apply State.putEngine_lawful))

theorem State.checkPaused_lawful {s0 s : State} (h0 : Lawful s0 s) (h : Nat) : Lawful s0 (State.checkPaused s h) := by
  unfold State.checkPaused
  repeat (first
    | with_reducible assumption | extract_lets
    | with_reducible (first
      | apply State.setJob_lawful | apply State.syncJobs_lawful)
    | split)

theorem State.pauseAt_lawful {s0 s : State} (h0 : Lawful s0 s) (e : Nat) : Lawful s0 (State.pauseAt s e) := by
  unfold State.pauseAt
  repeat (first | with_reducible assumption | extract_lets | with_reducible apply State.beginSave_lawful | split)

theorem State.runTile_lawful {s0 s : State} (h0 : Lawful s0 s) (e : Nat) (h : Nat) (x : TileD × Nat × List Nat × Bool)
    : Lawful s0 (State.runTile s e h x) := by
  unfold State.runTile
  repeat (first
    | with_reducible assumption | intro _
    | with_reducible (first
      | apply State.waited_lawful | apply State.setCtx_lawful | apply State.when_lawful | apply State.putQueue_lawful
      | apply State.putEngine_lawful))

theorem State.serve_lawful {s0 s : State} (h0 : Lawful s0 s) (e : Nat) (p : Nat × Nat) : Lawful s0 (State.serve s e p) := by
  unfold State.serve
  repeat (first
    | with_reducible assumption | intro _ | extract_lets
    | with_reducible (first
      | apply State.runTile_lawful | apply State.when_lawful | apply State.clientCnt_lawful | apply State.raise_lawful
      | apply State.beginSave_lawful | apply State.beginRestore_lawful)
    | split)

theorem State.swapLoss_lawful {s0 s : State} (h0 : Lawful s0 s) (h : Nat) : Lawful s0 (State.swapLoss s h) := by
  unfold State.swapLoss
  repeat (first
    | with_reducible assumption | intro _ | extract_lets
    | with_reducible (first
      | apply State.dropSlots_lawful | apply State.raise_lawful | apply State.forAll_lawful | apply State.setCtx_lawful)
    | split)

theorem State.clearStaging_lawful {s0 s : State} (h0 : Lawful s0 s) (h : Nat) (u : Nat)
    : Lawful s0 (State.clearStaging s h u) := by
  unfold State.clearStaging
  repeat (first | with_reducible (first | assumption | apply State.setCtx_lawful))

theorem State.noSpare_lawful {s0 s : State} (h0 : Lawful s0 s) (u : Nat) : Lawful s0 (State.noSpare s u) := by
  unfold State.noSpare
  repeat (first
    | with_reducible assumption | intro _
    | with_reducible (first
      | apply State.raise_lawful | apply State.forAll_lawful | apply State.endRun_lawful | apply State.setJob_lawful
      | apply State.lastStatus_lawful)
    | split)

theorem State.swapSpire_lawful {s0 s : State} (h0 : Lawful s0 s) (e : Nat) : Lawful s0 (State.swapSpire s e) := by
  unfold State.swapSpire
  repeat (first
    | with_reducible assumption | extract_lets
    | with_reducible (first
      | apply State.setEngine_lawful | apply State.setF_lawful | apply State.raise_lawful | apply State.syncJobs_lawful
      | apply State.noteElig_lawful | apply State.noSpare_lawful)
    | split)

theorem State.yieldSuspended_lawful {s0 s : State} (h0 : Lawful s0 s) (e : Nat) : Lawful s0 (State.yieldSuspended s e) := by
  unfold State.yieldSuspended
  repeat (first | with_reducible (first | assumption | apply State.abandonTile_lawful) | split)

theorem State.swapAt_lawful {s0 s : State} (h0 : Lawful s0 s) (e : Nat) : Lawful s0 (State.swapAt s e) := by
  unfold State.swapAt
  repeat (first
    | with_reducible (first
      | assumption | apply ite_lawful | apply State.yieldSuspended_lawful | apply State.setEngine_lawful
      | apply State.beginSave_lawful | apply State.swapSpire_lawful))

theorem State.engineReset_lawful {s0 s : State} (h0 : Lawful s0 s) (e : Nat) : Lawful s0 (State.engineReset s e) := by
  unfold State.engineReset
  repeat (first
    | with_reducible (first
      | assumption | apply ite_lawful | apply State.abandonTile_lawful | apply State.setEngine_lawful
      | apply State.beginSave_lawful | apply State.putEngine_lawful))


/-! ### Sys2Proof/Machine/Isp.lean -/

theorem State.skipRows_lawful {s0 s : State} (h0 : Lawful s0 s) (p : Nat) (c : Nat) (n : Nat)
    : Lawful s0 (State.skipRows s p c n) := by
  unfold State.skipRows
  repeat (first
    | with_reducible assumption | intro _
    | with_reducible (first
      | apply State.forAll_lawful | apply State.setIspOut_lawful))

theorem State.skipLost_lawful {s0 s : State} (h0 : Lawful s0 s) (p : Nat) (c : Nat) : Lawful s0 (State.skipLost s p c) := by
  unfold State.skipLost
  repeat (first
    | with_reducible (first
      | assumption | apply ite_lawful | apply State.setIspCtx_lawful | apply State.consumeLines_lawful
      | apply State.skipRows_lawful))

theorem State.stripeStart_lawful {s0 s : State} (h0 : Lawful s0 s) (p : Nat) : Lawful s0 (State.stripeStart s p) := by
  unfold State.stripeStart
  repeat (first
    | with_reducible assumption | intro _ | extract_lets
    | with_reducible (first
      | apply State.forAll_lawful | apply State.skipLost_lawful | apply State.when_lawful | apply State.bumpBy_lawful
      | apply State.setIspPipe_lawful | apply State.bump_lawful | apply State.startWork_lawful)
    | split)

theorem execStripeStart_lawful {s0 s : State} (h0 : Lawful s0 s) (p : Fin 8)
    : ∃ t, execStripeStart p s = .next t ∧ Lawful s0 t := by
  unfold execStripeStart
  refine ⟨_, rfl, ?_⟩
  repeat (first | with_reducible (first | assumption | apply State.stripeStart_lawful))

theorem State.releaseWork_lawful {s0 s : State} (h0 : Lawful s0 s) (p : Nat) (w : IspWork)
    : Lawful s0 (State.releaseWork s p w) := by
  unfold State.releaseWork
  repeat (first
    | with_reducible (first
      | assumption | apply State.consumeSample_lawful | apply State.consumeLines_lawful)
    | split)

theorem State.ispIdle_lawful {s0 s : State} (h0 : Lawful s0 s) (p : Nat) : Lawful s0 (State.ispIdle s p) := by
  unfold State.ispIdle
  repeat (first | with_reducible (first | assumption | apply State.setIspPipe_lawful | apply State.setBit_lawful))

theorem State.stripeDone_lawful {s0 s : State} (h0 : Lawful s0 s) (p : Nat) : Lawful s0 (State.stripeDone s p) := by
  unfold State.stripeDone
  repeat (first
    | with_reducible (first
      | assumption | apply ite_lawful | apply State.putRows_lawful | apply State.releaseWork_lawful
      | apply State.bump_lawful | apply State.ispIdle_lawful | apply State.setIspPipe_lawful | apply State.noteElig_lawful)
    | split)

theorem execStripeDone_lawful {s0 s : State} (h0 : Lawful s0 s) (p : Fin 8)
    : ∃ t, execStripeDone p s = .next t ∧ Lawful s0 t := by
  unfold execStripeDone
  refine ⟨_, rfl, ?_⟩
  repeat (first | with_reducible (first | assumption | apply State.stripeDone_lawful))

theorem State.takeShadows_lawful {s0 s : State} (h0 : Lawful s0 s) (p : Nat) (c : Nat)
    : Lawful s0 (State.takeShadows s p c) := by
  unfold State.takeShadows
  repeat (first
    | with_reducible assumption | intro _
    | with_reducible (first
      | apply ite_lawful | apply State.forAll_lawful | apply State.setIspCtx_lawful))

theorem State.applyNow_lawful {s0 s : State} (h0 : Lawful s0 s) (p : Nat) (c : Nat) : Lawful s0 (State.applyNow s p c) := by
  unfold State.applyNow
  repeat (first
    | with_reducible assumption | intro _
    | with_reducible (first
      | apply ite_lawful | apply State.takeShadows_lawful | apply State.setIspCtx_lawful | apply State.when_lawful
      | apply State.forAll_lawful | apply State.setIspOut_lawful | apply State.setBit_lawful | apply State.setF_lawful))

theorem execApplied_lawful {s0 s : State} (h0 : Lawful s0 s) (p : Fin 8) (c : Fin 4)
    : ∃ t, execApplied p c s = .next t ∧ Lawful s0 t := by
  unfold execApplied
  refine ⟨_, rfl, ?_⟩
  repeat (first
    | with_reducible (first
      | assumption | apply ite_lawful | apply State.setIspCtx_lawful | apply State.raise_lawful))

theorem execIspEngineReset_lawful {s0 s : State} (h0 : Lawful s0 s) (p : Fin 8)
    : ∃ t, execIspEngineReset p s = .next t ∧ Lawful s0 t := by
  unfold execIspEngineReset
  refine ⟨_, rfl, ?_⟩
  repeat (first
    | with_reducible assumption | intro _
    | (extract_lets +onlyGivenNames x; refine (fun (_ : Lawful s0 x) => ?_) ?_; (on_goal 1 => clear_value x); (on_goal 2 => subst x))
    | with_reducible (first
      | apply State.releaseWork_lawful | apply State.ispIdle_lawful | apply State.forAll_lawful
      | apply State.setIspCtx_lawful | apply State.setIspOut_lawful | apply State.raise_lawful)
    | split)


/-! ### Sys2Proof/Machine/Dec.lean -/

theorem State.updStream_lawful {s0 s : State} (h0 : Lawful s0 s) (n : Nat) (f : DecStream → DecStream)
    : Lawful s0 (State.updStream s n f) := by
  unfold State.updStream
  repeat (first | with_reducible (first | assumption | apply State.setStream_lawful))

theorem State.decCnt_lawful {s0 s : State} (h0 : Lawful s0 s) (n : Nat) (k : Nat) : Lawful s0 (State.decCnt s n k) := by
  unfold State.decCnt
  repeat (first | with_reducible (first | assumption | apply State.bump_lawful))

theorem State.decReport_lawful {s0 s : State} (h0 : Lawful s0 s) (n : Nat) (mode : Nat) (kind : Nat) (status : Nat)
    (seq : Word) (bitpos : Nat) (row0 : Nat) (rows : Nat) (method : Nat)
    : Lawful s0 (State.decReport s n mode kind status seq bitpos row0 rows method) := by
  unfold State.decReport
  repeat (first
    | with_reducible (first
      | assumption | apply ite_lawful | apply State.qOffer_lawful | apply State.updStream_lawful))

theorem State.pushSample_lawful {s0 s : State} (h0 : Lawful s0 s) (n : Nat) (x : DecSample)
    : Lawful s0 (State.pushSample s n x) := by
  unfold State.pushSample
  repeat (first | with_reducible (first | assumption | apply State.updStream_lawful))

theorem State.writePads_lawful {s0 s : State} (h0 : Lawful s0 s) (n : Nat) (x0 : Nat)
    : Lawful s0 (State.writePads s n x0) := by
  induction x0 generalizing s <;> unfold State.writePads <;> repeat (first
    | with_reducible (first
      | apply ite_lawful | apply State.draw_lawful | apply State.pushSample_lawful | apply State.updStream_lawful
      | apply State.decCnt_lawful | apply_assumption))

theorem State.closeBatch_lawful {s0 s : State} (h0 : Lawful s0 s) (n : Nat) : Lawful s0 (State.closeBatch s n) := by
  unfold State.closeBatch
  repeat (first
    | with_reducible (first
      | assumption | apply State.updStream_lawful | apply State.writePads_lawful)
    | split)

theorem State.countBatch_lawful {s0 s : State} (h0 : Lawful s0 s) (n : Nat) : Lawful s0 (State.countBatch s n) := by
  unfold State.countBatch
  repeat (first
    | with_reducible (first
      | assumption | apply ite_lawful | apply State.updStream_lawful | apply State.closeBatch_lawful))

theorem State.skipPic_lawful {s0 s : State} (h0 : Lawful s0 s) (n : Nat) (x : DecPic)
    : Lawful s0 (State.skipPic s n x) := by
  unfold State.skipPic
  repeat (first
    | with_reducible (first
      | assumption | apply State.updStream_lawful | apply State.decCnt_lawful | apply State.raise_lawful))

theorem State.writeSample_lawful {s0 s : State} (h0 : Lawful s0 s) (n : Nat) : Lawful s0 (State.writeSample s n) := by
  unfold State.writeSample
  repeat (first
    | with_reducible assumption | intro _
    | with_reducible (first
      | apply ite_lawful | apply State.skipPic_lawful | apply State.when_lawful | apply State.decReport_lawful
      | apply State.pushSample_lawful | apply State.updStream_lawful | apply State.decCnt_lawful | apply State.raise_lawful
      | apply State.countBatch_lawful)
    | split)

theorem State.endEarly_lawful {s0 s : State} (h0 : Lawful s0 s) (n : Nat) (at_ : DWord) (x : DecPic) (bitpos : Nat)
    : Lawful s0 (State.endEarly s n at_ x bitpos) := by
  unfold State.endEarly
  repeat (first
    | with_reducible (first
      | assumption | apply ite_lawful | apply State.decReport_lawful | apply State.updStream_lawful))

theorem State.rejectPic_lawful {s0 s : State} (h0 : Lawful s0 s) (n : Nat) (x : DecPic) (status : Nat) (bitpos : Nat)
    : Lawful s0 (State.rejectPic s n x status bitpos) := by
  unfold State.rejectPic
  repeat (first
    | with_reducible (first
      | assumption | apply ite_lawful | apply State.decCnt_lawful | apply State.raise_lawful | apply State.setF_lawful
      | apply State.skipPic_lawful | apply State.decReport_lawful | apply State.updStream_lawful))

theorem State.beginPic_lawful {s0 s : State} (h0 : Lawful s0 s) (n : Nat) (at_ : DWord) (i : RtpInfo)
    : Lawful s0 (State.beginPic s n at_ i) := by
  unfold State.beginPic
  repeat (first
    | with_reducible (first
      | assumption | apply ite_lawful | apply State.updStream_lawful | apply State.rejectPic_lawful
      | apply State.skipPic_lawful | apply State.setBit_lawful))

theorem State.packetData_lawful {s0 s : State} (h0 : Lawful s0 s) (n : Nat) (at_ : DWord) (i : RtpInfo) (gap : Bool)
    : Lawful s0 (State.packetData s n at_ i gap) := by
  unfold State.packetData
  repeat (first
    | with_reducible (first
      | assumption | apply ite_lawful | apply State.decReport_lawful | apply State.updStream_lawful
      | apply State.endEarly_lawful)
    | split)

theorem State.rtpIn_lawful {s0 s : State} (h0 : Lawful s0 s) (n : Nat) (at_ : DWord) (i : RtpInfo)
    : Lawful s0 (State.rtpIn s n at_ i) := by
  unfold State.rtpIn
  repeat (first
    | with_reducible assumption | intro _
    | (extract_lets +onlyGivenNames x; refine (fun (_ : Lawful s0 x) => ?_) ?_; (on_goal 1 => clear_value x); (on_goal 2 => subst x))
    | extract_lets +onlyGivenNames x
    | with_reducible (first
      | apply State.draw_lawful | apply State.endEarly_lawful | apply State.updStream_lawful | apply State.setBit_lawful
      | apply State.when_lawful | apply State.decCnt_lawful | apply State.beginPic_lawful | apply State.packetData_lawful)
    | split)

theorem State.decDrain_lawful {s0 s : State} (h0 : Lawful s0 s) (n : Nat) : Lawful s0 (State.decDrain s n) := by
  unfold State.decDrain
  repeat (first
    | with_reducible assumption | intro _
    | with_reducible (first
      | apply State.updStream_lawful | apply State.forAll_lawful | apply State.rtpIn_lawful))

theorem State.decLinkLost_lawful {s0 s : State} (h0 : Lawful s0 s) (n : Nat) : Lawful s0 (State.decLinkLost s n) := by
  unfold State.decLinkLost
  repeat (first
    | with_reducible assumption
    | (extract_lets +onlyGivenNames x; refine (fun (_ : Lawful s0 x) => ?_) ?_; (on_goal 1 => clear_value x); (on_goal 2 => subst x))
    | with_reducible (first
      | apply State.draw_lawful | apply State.endEarly_lawful | apply State.closeBatch_lawful | apply State.setBit_lawful)
    | split)

theorem State.decDisable_lawful {s0 s : State} (h0 : Lawful s0 s) (n : Nat) : Lawful s0 (State.decDisable s n) := by
  unfold State.decDisable
  repeat (first
    | with_reducible (first
      | assumption | apply State.updStream_lawful | apply State.closeBatch_lawful | apply State.setBit_lawful))

theorem State.decReset_lawful {s0 s : State} (h0 : Lawful s0 s) (n : Nat) : Lawful s0 (State.decReset s n) := by
  unfold State.decReset
  repeat (first
    | with_reducible (first
      | assumption | apply ite_lawful | apply State.updStream_lawful | apply State.closeBatch_lawful
      | apply State.setBit_lawful))

theorem execRtpPacket_lawful {s0 s : State} (h0 : Lawful s0 s) (n : Fin 32) (info : RtpInfo)
    : ∃ t, execRtpPacket n info s = .next t ∧ Lawful s0 t := by
  unfold execRtpPacket
  refine ⟨_, rfl, ?_⟩
  repeat (first | with_reducible (first | assumption | apply ite_lawful | apply State.rtpIn_lawful))

theorem execSampleWritten_lawful {s0 s : State} (h0 : Lawful s0 s) (n : Fin 32)
    : ∃ t, execSampleWritten n s = .next t ∧ Lawful s0 t := by
  unfold execSampleWritten
  refine ⟨_, rfl, ?_⟩
  repeat (first
    | with_reducible (first
      | assumption | apply ite_lawful | apply State.writePads_lawful | apply State.writeSample_lawful
      | apply State.decDrain_lawful))

theorem execDecodeBudgetExpiry_lawful {s0 s : State} (h0 : Lawful s0 s) (n : Fin 32)
    : ∃ t, execDecodeBudgetExpiry n s = .next t ∧ Lawful s0 t := by
  unfold execDecodeBudgetExpiry
  refine ⟨_, rfl, ?_⟩
  repeat (first
    | with_reducible (first
      | assumption | apply State.skipPic_lawful | apply State.writeSample_lawful | apply State.decDrain_lawful)
    | split)

theorem execBatchTimeout_lawful {s0 s : State} (h0 : Lawful s0 s) (n : Fin 32)
    : ∃ t, execBatchTimeout n s = .next t ∧ Lawful s0 t := by
  unfold execBatchTimeout
  refine ⟨_, rfl, ?_⟩
  repeat (first | with_reducible (first | assumption | apply State.closeBatch_lawful) | split)

theorem execReportPlaced_lawful {s0 s : State} (h0 : Lawful s0 s) (n : Fin 32)
    : ∃ t, execReportPlaced n s = .next t ∧ Lawful s0 t := by
  unfold execReportPlaced
  refine ⟨_, rfl, ?_⟩
  repeat (first
    | with_reducible assumption | extract_lets
    | with_reducible (first
      | apply State.qOffer_lawful | apply State.updStream_lawful | apply State.decDrain_lawful)
    | split)

theorem execDecEngineReset_lawful {s0 s : State} (h0 : Lawful s0 s)
    : ∃ t, execDecEngineReset s = .next t ∧ Lawful s0 t := by
  unfold execDecEngineReset
  refine ⟨_, rfl, ?_⟩
  repeat (first
    | with_reducible assumption | intro _
    | with_reducible (first
      | apply ite_lawful | apply State.forAll_lawful | apply State.decReset_lawful | apply State.raise_lawful))


/-! ### Sys2Proof/Machine/Mirror.lean -/

theorem State.readCorrected_lawful {s0 s : State} (h0 : Lawful s0 s) (sector : Nat)
    : Lawful s0 (State.readCorrected s sector) := by
  unfold State.readCorrected
  repeat (first
    | with_reducible assumption | intro _ | extract_lets
    | with_reducible (first
      | apply ite_lawful | apply State.corrected_lawful)
    | split | simp only [lawful_mk] | dsimp only | apply_assumption)

theorem State.mirrorRead_lawful {s0 s : State} (h0 : Lawful s0 s) (block : Nat) (id : Nat) (a : Nat) (b : Nat)
    : Lawful s0 (State.mirrorRead s block id a b) := by
  unfold State.mirrorRead
  repeat (first
    | with_reducible assumption | intro _ | extract_lets
    | with_reducible (first
      | apply ite_lawful | apply State.readCorrected_lawful | apply State.bump_lawful | apply State.sectorStored_lawful
      | apply State.noteTransient_lawful | apply State.faultRetried_lawful | apply State.rowRepair_lawful
      | apply State.readSector_lawful)
    | refine fst_lawful (by assumption) ?_ | split | simp only [lawful_mk] | dsimp only | apply_assumption)

theorem State.ringRead_lawful {s0 s : State} (h0 : Lawful s0 s) (q : Nat) (i : QItem)
    : Lawful s0 (State.ringRead s q i) := by
  unfold State.ringRead
  repeat (first
    | with_reducible assumption | intro _ | extract_lets
    | with_reducible (first
      | apply ite_lawful | apply State.forAll_lawful | apply State.mirrorRead_lawful)
    | split | simp only [lawful_mk] | dsimp only | apply_assumption)

theorem State.ringReads_lawful {s0 s : State} (h0 : Lawful s0 s) (q : Nat) (l : List QItem)
    : Lawful s0 (State.ringReads s q l) := by
  unfold State.ringReads
  repeat (first
    | with_reducible assumption | intro _ | extract_lets
    | with_reducible (first
      | apply ite_lawful | apply State.forAll_lawful | apply State.ringRead_lawful)
    | split | simp only [lawful_mk] | dsimp only | apply_assumption)

theorem State.cometStored_lawful {s0 s : State} (h0 : Lawful s0 s) (i : Nat) : Lawful s0 (State.cometStored s i) := by
  unfold State.cometStored
  repeat (first
    | with_reducible assumption | intro _ | extract_lets
    | with_reducible (first
      | apply ite_lawful | apply State.forAll_lawful | apply State.sectorStored_lawful)
    | split | simp only [lawful_mk] | dsimp only | apply_assumption)

theorem State.cometRead_lawful {s0 s : State} (h0 : Lawful s0 s) (i : Nat) : Lawful s0 (State.cometRead s i) := by
  unfold State.cometRead
  repeat (first
    | with_reducible assumption | intro _ | extract_lets
    | with_reducible (first
      | apply ite_lawful | apply State.forAll_lawful | apply State.mirrorRead_lawful)
    | split | simp only [lawful_mk] | dsimp only | apply_assumption)


/-! ### Sys2Proof/Machine/Queue.lean -/

theorem State.makeQueue_lawful {s0 s : State} (h0 : Lawful s0 s) (q : Nat) (w : Word)
    : Lawful s0 (State.makeQueue s q w) := by
  unfold State.makeQueue
  repeat (first
    | with_reducible (first
      | assumption | apply State.wr_lawful | apply State.wr64_lawful)
    | simp only [lawful_mk])

theorem State.dropQueue_lawful {s0 s : State} (h0 : Lawful s0 s) (q : Nat) : Lawful s0 (State.dropQueue s q) := by
  unfold State.dropQueue
  repeat (first
    | with_reducible (first
      | assumption | apply State.wr_lawful | apply State.wr64_lawful)
    | simp only [lawful_mk])

theorem State.makeFixedQueues_lawful {s0 s : State} (h0 : Lawful s0 s) : Lawful s0 (State.makeFixedQueues s) := by
  unfold State.makeFixedQueues
  repeat (first
    | with_reducible assumption | intro _
    | with_reducible (first
      | apply ite_lawful | apply State.forAll_lawful | apply State.makeQueue_lawful))

theorem execCreditRequest_lawful {s0 s : State} (h0 : Lawful s0 s) (q : Fin 16384) (producer : Nat) (n : Nat)
    : ∃ t, execCreditRequest q producer n s = .next t ∧ Lawful s0 t := by
  unfold execCreditRequest
  refine ⟨_, rfl, ?_⟩
  repeat (first
    | with_reducible assumption | intro _
    | with_reducible (first
      | apply ite_lawful | apply State.setQueue_lawful | apply State.when_lawful | apply State.bump_lawful))

theorem execCreditGrant_lawful {s0 s : State} (h0 : Lawful s0 s) (q : Fin 16384)
    : ∃ t, execCreditGrant q s = .next t ∧ Lawful s0 t := by
  unfold execCreditGrant
  refine ⟨_, rfl, ?_⟩
  repeat (first | with_reducible assumption | extract_lets | with_reducible apply State.putQueue_lawful | split)

theorem execPacketReserve_lawful {s0 s : State} (h0 : Lawful s0 s) (q : Fin 16384) (producer : Nat) (len : Nat)
    : ∃ t, execPacketReserve q producer len s = .next t ∧ Lawful s0 t := by
  unfold execPacketReserve
  refine ⟨_, rfl, ?_⟩
  repeat (first | with_reducible (first | assumption | apply State.qReserve_lawful))

theorem execBackFill_lawful {s0 s : State} (h0 : Lawful s0 s) (q : Fin 16384) (producer : Nat) (seq : Word)
    (kind : Fin 128) (body : List Byte) : ∃ t, execBackFill q producer seq kind body s = .next t ∧ Lawful s0 t := by
  unfold execBackFill
  refine ⟨_, rfl, ?_⟩
  repeat (first | with_reducible (first | assumption | apply State.qBackFill_lawful))

theorem State.rawFault_lawful {s0 s : State} (h0 : Lawful s0 s) (data : List Byte) : Lawful s0 (State.rawFault s data) := by
  unfold State.rawFault
  repeat (first
    | with_reducible assumption | intro _
    | with_reducible (first
      | apply State.when_lawful | apply State.bump_lawful | apply State.snapFire_lawful | apply State.raise_lawful
      | apply State.faultPublish_lawful)
    | simp only [lawful_mk])

theorem execRecordPublish_lawful {s0 s : State} (h0 : Lawful s0 s) (q : Fin 16384) (producer : Nat) (data : List Byte)
    : ∃ t, execRecordPublish q producer data s = .next t ∧ Lawful s0 t := by
  unfold execRecordPublish
  refine ⟨_, rfl, ?_⟩
  repeat (first
    | with_reducible (first
      | assumption | apply ite_lawful | apply State.rawFault_lawful | apply State.qOffer_lawful))

theorem execAbandonedPad_lawful {s0 s : State} (h0 : Lawful s0 s) (q : Fin 16384) (producer : Nat) (seq : Word)
    : ∃ t, execAbandonedPad q producer seq s = .next t ∧ Lawful s0 t := by
  unfold execAbandonedPad
  refine ⟨_, rfl, ?_⟩
  repeat (first | with_reducible (first | assumption | apply State.qAbandon_lawful))

theorem State.releaseServed_lawful {s0 s : State} (h0 : Lawful s0 s) : Lawful s0 (State.releaseServed s) := by
  unfold State.releaseServed
  repeat (first | with_reducible (first | assumption | apply ite_lawful | apply State.putQueue_lawful))

theorem execEntryRelease_lawful {s0 s : State} (h0 : Lawful s0 s) (q : Fin 16384) (n : Nat)
    : ∃ t, execEntryRelease q n s = .next t ∧ Lawful s0 t := by
  unfold execEntryRelease
  refine ⟨_, rfl, ?_⟩
  repeat (first
    | with_reducible assumption | intro _ | extract_lets
    | with_reducible (first
      | apply ite_lawful | apply State.releaseServed_lawful | apply State.when_lawful | apply State.ringReads_lawful
      | apply State.qRelease_lawful | apply State.flushQueues_lawful)
    | split | simp only [lawful_mk] | dsimp only | apply_assumption)

theorem execCpClaim_lawful {s0 s : State} (h0 : Lawful s0 s) (q : Fin 16384) (n : Nat)
    : ∃ t, execCpClaim q n s = .next t ∧ Lawful s0 t := by
  unfold execCpClaim
  refine ⟨_, rfl, ?_⟩
  repeat (first
    | with_reducible assumption | intro _ | extract_lets
    | with_reducible (first
      | apply ite_lawful | apply State.setQueue_lawful | apply State.ringReads_lawful)
    | split | simp only [lawful_mk] | dsimp only | apply_assumption)

theorem State.popWords_lawful {s0 s : State} (h0 : Lawful s0 s) (x0 : Nat) (x1 : Nat) (x2 : List Byte)
    : Lawful s0 (State.popWords s x0 x1 x2) := by
  induction x0 generalizing s x1 x2 <;> unfold State.popWords <;> repeat (first | with_reducible (first | apply ite_lawful | apply State.wr_lawful | apply_assumption))

theorem State.pop_lawful {s0 s : State} (h0 : Lawful s0 s) (q : Nat) : Lawful s0 (State.pop s q) := by
  unfold State.pop
  repeat (first
    | with_reducible assumption | intro _ | extract_lets
    | with_reducible (first
      | apply ite_lawful | apply State.wr_lawful | apply State.raise_lawful | apply State.popWords_lawful
      | apply State.ringRead_lawful | apply State.qRelease_lawful | apply State.bump_lawful | apply State.flushQueues_lawful)
    | split | simp only [lawful_mk] | dsimp only | apply_assumption)

theorem State.popWrite_lawful {s0 s : State} (h0 : Lawful s0 s) (w : Writer) (q : Nat)
    : Lawful s0 (State.popWrite s w q) := by
  unfold State.popWrite
  repeat (first
    | with_reducible assumption | intro _
    | with_reducible (first
      | apply State.gate_lawful | apply State.pop_lawful))

theorem execPop_lawful {s0 s : State} (h0 : Lawful s0 s) (w : Writer) (q : Fin 16384)
    : ∃ t, execPop w q s = .next t ∧ Lawful s0 t := by
  unfold execPop
  refine ⟨_, rfl, ?_⟩
  repeat (first | with_reducible (first | assumption | apply State.popWrite_lawful))

theorem State.clearClient_lawful {s0 s : State} (h0 : Lawful s0 s) (c : Nat) : Lawful s0 (State.clearClient s c) := by
  unfold State.clearClient
  repeat (first
    | with_reducible assumption | intro _
    | with_reducible (first
      | apply State.wr64_lawful | apply State.wr_lawful | apply State.forAll_lawful))

theorem State.clientClearWrite_lawful {s0 s : State} (h0 : Lawful s0 s) (w : Writer) (v : Word)
    : Lawful s0 (State.clientClearWrite s w v) := by
  unfold State.clientClearWrite
  repeat (first
    | with_reducible assumption | intro _
    | with_reducible (first
      | apply ite_lawful | apply State.gate_lawful | apply State.forAll_lawful | apply State.clearClient_lawful))

theorem execClientClear_lawful {s0 s : State} (h0 : Lawful s0 s) (w : Writer) (client : Fin 64)
    : ∃ t, execClientClear w client s = .next t ∧ Lawful s0 t := by
  unfold execClientClear
  refine ⟨_, rfl, ?_⟩
  repeat (first | with_reducible (first | assumption | apply State.clientClearWrite_lawful))

theorem execClientClearAll_lawful {s0 s : State} (h0 : Lawful s0 s) (w : Writer)
    : ∃ t, execClientClearAll w s = .next t ∧ Lawful s0 t := by
  unfold execClientClearAll
  refine ⟨_, rfl, ?_⟩
  repeat (first | with_reducible (first | assumption | apply State.clientClearWrite_lawful))


/-! ### Sys2Proof/Machine/HostOps.lean -/

theorem State.setMb_lawful {s0 s : State} (h0 : Lawful s0 s) (m : Nat) (n : Nat) : Lawful s0 (State.setMb s m n) := by
  unfold State.setMb
  repeat (first | with_reducible (first | assumption | apply State.setF_lawful))

theorem State.putMail_lawful {s0 s : State} (h0 : Lawful s0 s) (m : Nat) (off : Nat) (l : List Byte)
    : Lawful s0 (State.putMail s m off l) := by
  unfold State.putMail
  repeat (first | with_reducible (first | assumption | apply foldl_lawful) | simp only [lawful_mk])

theorem State.bellServed_lawful {s0 s : State} (h0 : Lawful s0 s) (m : Nat) : Lawful s0 (State.bellServed s m) := by
  unfold State.bellServed
  repeat (first
    | with_reducible (first
      | assumption | apply State.setQueue_lawful | apply State.releaseServed_lawful))

theorem State.mailReply_lawful {s0 s : State} (h0 : Lawful s0 s) (m : Nat) (bytes : List Byte)
    : Lawful s0 (State.mailReply s m bytes) := by
  unfold State.mailReply
  repeat (first
    | with_reducible (first
      | apply State.putMail_lawful | apply State.setMb_lawful | apply State.raise_lawful | apply State.bump_lawful
      | apply State.bellServed_lawful)
    | apply_assumption)

theorem State.answer_lawful {s0 s : State} (h0 : Lawful s0 s) (m : Nat) (status : Nat) (payload : List Byte) (d0 : Nat)
    (d1 : Nat) : Lawful s0 (State.answer s m status payload d0 d1) := by
  unfold State.answer
  repeat (first
    | with_reducible (first
      | assumption | apply ite_lawful | apply State.mailReply_lawful)
    | simp only [lawful_mk])

theorem State.command_lawful {s0 s : State} (h0 : Lawful s0 s) (m : Nat) (op : Nat) (len : Option Nat) (pick : Bool)
    {f : State → State} (h_f : ∀  t, Lawful s0 t → Lawful s0 (f  t)) : Lawful s0 (State.command s m op len pick f) := by
  unfold State.command
  repeat (first | with_reducible (first | apply ite_lawful | apply State.answer_lawful) | apply_assumption)

theorem State.fields_lawful {s0 s : State} (h0 : Lawful s0 s) (m : Nat) (ok : Bool) {f : State → State}
    (h_f : ∀  t, Lawful s0 t → Lawful s0 (f  t)) : Lawful s0 (State.fields s m ok f) := by
  unfold State.fields
  repeat (first | with_reducible (first | apply ite_lawful | apply State.answer_lawful) | apply_assumption)

theorem State.withJob_lawful {s0 s : State} (h0 : Lawful s0 s) (m : Nat) {f : Nat → Job → State → State}
    (h_f : ∀ a0 a1 t, Lawful s0 t → Lawful s0 (f a0 a1 t)) : Lawful s0 (State.withJob s m f) := by
  unfold State.withJob
  repeat (first | with_reducible apply State.answer_lawful | split | apply_assumption)

theorem execNop_lawful {s0 s : State} (h0 : Lawful s0 s) (m : Fin 16) : ∃ t, execNop m s = .next t ∧ Lawful s0 t := by
  unfold execNop
  refine ⟨_, rfl, ?_⟩
  repeat (first
    | with_reducible assumption | intro _
    | with_reducible (first
      | apply State.command_lawful | apply State.answer_lawful))


/-! ### Sys2Proof/Machine/Jobs.lean -/

theorem State.swapAnswer_lawful {s0 s : State} (h0 : Lawful s0 s) : Lawful s0 (State.swapAnswer s) := by
  unfold State.swapAnswer
  repeat (first | with_reducible apply State.answer_lawful | split | apply_assumption)

theorem State.tileStart_lawful {s0 s : State} (h0 : Lawful s0 s) (e : Nat) : Lawful s0 (State.tileStart s e) := by
  unfold State.tileStart
  repeat (first
    | with_reducible assumption | intro _ | extract_lets
    | with_reducible (first
      | apply State.swapAt_lawful | apply State.swapAnswer_lawful | apply State.forAll_lawful | apply State.freeFinal_lawful
      | apply State.pauseAt_lawful | apply State.noteElig_lawful | apply State.serve_lawful)
    | split)

theorem execTileStart_lawful {s0 s : State} (h0 : Lawful s0 s) (e : Fin 42)
    : ∃ t, execTileStart e s = .next t ∧ Lawful s0 t := by
  unfold execTileStart
  refine ⟨_, rfl, ?_⟩
  repeat (first | with_reducible (first | assumption | apply State.tileStart_lawful))

theorem execPreemptionRequest_lawful {s0 s : State} (h0 : Lawful s0 s) (e : Fin 42)
    : ∃ t, execPreemptionRequest e s = .next t ∧ Lawful s0 t := by
  unfold execPreemptionRequest
  refine ⟨_, rfl, ?_⟩
  repeat (first
    | with_reducible (first
      | assumption | apply ite_lawful | apply State.noteElig_lawful | apply State.putEngine_lawful
      | apply State.yieldSuspended_lawful))

theorem State.writeBack_lawful {s0 s : State} (h0 : Lawful s0 s) (e : Nat) (t : TileRun) (l : List Staged) :
    Lawful s0 (State.writeBack s e t l).1 := by
  induction l generalizing s with
  | nil => exact h0
  | cons w rest ih =>
    rw [State.writeBack]
    split
    · exact ih (fst_lawful (by assumption) (State.dmaWrite_lawful h0 _ _ _ _ _ _))
    · exact State.dmaFail_lawful (fst_lawful (by assumption) (State.dmaWrite_lawful h0 _ _ _ _ _ _)) _ _ _ _ _

theorem State.statUpdate_lawful {s0 s : State} (h0 : Lawful s0 s) (e : Nat) (h : Nat) (u : StatUpd)
    : Lawful s0 (State.statUpdate s e h u) := by
  unfold State.statUpdate
  repeat (first
    | with_reducible assumption | intro _
    | with_reducible (first
      | apply State.writePhys_lawful | apply State.engQCnt_lawful | apply State.when_lawful | apply State.engQEvent_lawful))

theorem State.commitStats_lawful {s0 s : State} (h0 : Lawful s0 s) (e : Nat) (t : TileRun)
    : Lawful s0 (State.commitStats s e t) := by
  unfold State.commitStats
  repeat (first
    | with_reducible assumption | intro _
    | with_reducible (first
      | apply State.forAll_lawful | apply State.statUpdate_lawful))

theorem State.remoteOut_lawful {s0 s : State} (h0 : Lawful s0 s) (e : Nat) (t : TileRun) (x : Nat × Nat × Nat)
    : Lawful s0 (State.remoteOut s e t x) := by
  unfold State.remoteOut
  repeat (first
    | with_reducible assumption | extract_lets +onlyGivenNames x
    | with_reducible (first
      | apply State.dmaRead_lawful | apply State.fabSend_lawful | apply State.dmaFail_lawful)
    | refine fst_lawful (by assumption) ?_ | split)

theorem State.commitSends_lawful {s0 s : State} (h0 : Lawful s0 s) (e : Nat) (t : TileRun)
    : Lawful s0 (State.commitSends s e t) := by
  unfold State.commitSends
  repeat (first
    | with_reducible assumption | intro _
    | with_reducible (first
      | apply State.forAll_lawful | apply State.remoteOut_lawful))

theorem State.deliver_lawful {s0 s : State} (h0 : Lawful s0 s) (h : Nat) (v : VerdictOut)
    : Lawful s0 (State.deliver s h v) := by
  unfold State.deliver
  repeat (first
    | with_reducible (first
      | assumption | apply ite_lawful | apply State.qOffer_lawful | apply State.setSlot_lawful | apply State.updJob_lawful))

theorem State.commitVerdicts_lawful {s0 s : State} (h0 : Lawful s0 s) (t : TileRun)
    : Lawful s0 (State.commitVerdicts s t) := by
  unfold State.commitVerdicts
  repeat (first
    | with_reducible assumption | intro _
    | with_reducible (first
      | apply ite_lawful | apply State.forAll_lawful | apply State.deliver_lawful | apply State.putQueue_lawful))

theorem State.commitSems_lawful {s0 s : State} (h0 : Lawful s0 s) (t : TileRun) : Lawful s0 (State.commitSems s t) := by
  unfold State.commitSems
  repeat (first
    | intro _
    | with_reducible (first
      | apply ite_lawful | apply State.forAll_lawful | apply State.setCtx_lawful)
    | apply_assumption)

theorem State.releaseGather_lawful {s0 s : State} (h0 : Lawful s0 s) (h : Nat) (g : Nat × Nat)
    : Lawful s0 (State.releaseGather s h g) := by
  unfold State.releaseGather
  repeat (first
    | with_reducible assumption | extract_lets
    | with_reducible (first
      | apply State.releaseInput_lawful | apply State.releaseRows_lawful)
    | split)

theorem State.commitSlots_lawful {s0 s : State} (h0 : Lawful s0 s) (t : TileRun) : Lawful s0 (State.commitSlots s t) := by
  unfold State.commitSlots
  repeat (first
    | with_reducible assumption | intro _
    | with_reducible (first
      | apply State.forAll_lawful | apply State.setSlot_lawful))

theorem State.hangOver_lawful {s0 s : State} (h0 : Lawful s0 s) (e : Nat) (t : TileRun)
    : Lawful s0 (State.hangOver s e t) := by
  unfold State.hangOver
  repeat (first
    | with_reducible (first
      | assumption | apply State.faultWrite_lawful | apply State.noteTransient_lawful | apply State.setEngine_lawful)
    | split)

theorem State.tileDone_lawful {s0 s : State} (h0 : Lawful s0 s) (e : Nat) (t : TileRun)
    : Lawful s0 (State.tileDone s e t) := by
  unfold State.tileDone
  repeat (first
    | with_reducible assumption
    | (extract_lets +onlyGivenNames x; refine (fun (_ : Lawful s0 x) => ?_) ?_; (on_goal 1 => clear_value x); (on_goal 2 => subst x))
    | with_reducible (first
      | apply ite_lawful | apply State.hangOver_lawful | apply State.chargeTime_lawful | apply State.engCnt_lawful
      | apply State.clientCnt_lawful | apply State.setCtx_lawful | apply State.putEngine_lawful)
    | simp only [lawful_mk])

theorem State.afterBoundary_lawful {s0 s : State} (h0 : Lawful s0 s) (e : Nat) : Lawful s0 (State.afterBoundary s e) := by
  unfold State.afterBoundary
  repeat (first
    | with_reducible (first
      | assumption | apply ite_lawful | apply State.swapAt_lawful | apply State.pauseAt_lawful))

theorem State.tileCommit_lawful {s0 s : State} (h0 : Lawful s0 s) (e : Nat) : Lawful s0 (State.tileCommit s e) := by
  unfold State.tileCommit
  repeat (first
    | with_reducible assumption | intro _
    | with_reducible (first
      | apply State.writeBack_lawful | apply State.putTile_lawful | apply State.commitSlots_lawful
      | apply State.commitStats_lawful | apply State.commitSends_lawful | apply State.commitVerdicts_lawful
      | apply State.commitSems_lawful | apply State.forAll_lawful | apply State.releaseGather_lawful
      | apply State.tileDone_lawful | apply State.afterBoundary_lawful | apply State.checkPaused_lawful
      | apply State.noteElig_lawful)
    | refine fst_lawful (by assumption) ?_ | split)

theorem execTileCommit_lawful {s0 s : State} (h0 : Lawful s0 s) (e : Fin 42)
    : ∃ t, execTileCommit e s = .next t ∧ Lawful s0 t := by
  unfold execTileCommit
  refine ⟨_, rfl, ?_⟩
  repeat (first
    | with_reducible (first
      | assumption | apply State.tileCommit_lawful | apply State.swapAnswer_lawful))

theorem State.chargeSwitch_lawful {s0 s : State} (h0 : Lawful s0 s) (e : Nat) : Lawful s0 (State.chargeSwitch s e) := by
  unfold State.chargeSwitch
  extract_lets x
  split
  · rename_i h _
    cases (s.ctxUnits e h).head? with
    | none => exact h0
    | some u => exact State.chargeTime_lawful h0 _ _ _
  · exact h0

theorem State.saved_lawful {s0 s : State} (h0 : Lawful s0 s) (e : Nat) (h : Nat) (reason : Nat)
    : Lawful s0 (State.saved s e h reason) := by
  unfold State.saved
  repeat (first
    | with_reducible assumption | intro _
    | with_reducible (first
      | apply State.forAll_lawful | apply State.writeSave_lawful | apply State.setCtx_lawful | apply State.putEngine_lawful))

theorem State.afterSave_lawful {s0 s : State} (h0 : Lawful s0 s) (e : Nat) (h : Nat) (reason : Nat)
    : Lawful s0 (State.afterSave s e h reason) := by
  unfold State.afterSave
  repeat (first
    | with_reducible (first
      | assumption | apply State.swapSpire_lawful | apply State.checkPaused_lawful | apply State.saved_lawful
      | apply State.beginRestore_lawful)
    | split)

theorem execContextSaveDone_lawful {s0 s : State} (h0 : Lawful s0 s) (e : Fin 34) (sram : SramRead)
    : ∃ t, execContextSaveDone e sram s = .next t ∧ Lawful s0 t := by
  unfold execContextSaveDone
  refine ⟨_, rfl, ?_⟩
  repeat (first
    | with_reducible assumption | extract_lets
    | with_reducible (first
      | apply State.chargeSwitch_lawful | apply State.engCnt_lawful | apply State.engEvent_lawful
      | apply State.faultNew_lawful | apply State.swapLoss_lawful | apply State.saved_lawful | apply State.afterSave_lawful
      | apply State.noteElig_lawful | apply State.swapAnswer_lawful | apply State.sramRead_lawful)
    | refine fst_lawful (by assumption) ?_ | split)

theorem State.readSave_lawful {s0 s : State} (h0 : Lawful s0 s) (e h : Nat) (up : Option ReadUpset) :
    Lawful s0 (State.readSave s e h up).1 := by
  unfold State.readSave
  split
  · extract_lets us r
    have hr : Lawful s0 r.1 := by
      refine foldl_fst_lawful (fun a u ha => foldl_fst_lawful (fun a p ha => ?_) ha) h0
      exact State.readPhys_lawful ha _ _ _
    split
    · split
      · exact State.readSector_lawful hr _ _ _ _
      · exact hr
    · exact hr
  · exact h0

theorem execContextRestoreDone_lawful {s0 s : State} (h0 : Lawful s0 s) (e : Fin 34) (upset : Option ReadUpset)
    : ∃ t, execContextRestoreDone e upset s = .next t ∧ Lawful s0 t := by
  unfold execContextRestoreDone
  refine ⟨_, rfl, ?_⟩
  repeat (first
    | with_reducible assumption | intro _ | extract_lets
    | with_reducible (first
      | apply State.chargeSwitch_lawful | apply State.readSave_lawful | apply State.forAll_lawful
      | apply State.setCtx_lawful | apply State.saved_lawful | apply State.putEngine_lawful | apply State.noteElig_lawful
      | apply State.faultJob_lawful)
    | refine fst_lawful (by assumption) ?_ | split)

theorem execSprEngineReset_lawful {s0 s : State} (h0 : Lawful s0 s) (w : Writer) (e : Fin 34)
    : ∃ t, execSprEngineReset w e s = .next t ∧ Lawful s0 t := by
  unfold execSprEngineReset
  refine ⟨_, rfl, ?_⟩
  repeat (first
    | with_reducible assumption | intro _
    | with_reducible (first
      | apply State.gate_lawful | apply State.engineReset_lawful))

theorem execMoonEngineReset_lawful {s0 s : State} (h0 : Lawful s0 s) (w : Writer) (m : Fin 8)
    : ∃ t, execMoonEngineReset w m s = .next t ∧ Lawful s0 t := by
  unfold execMoonEngineReset
  refine ⟨_, rfl, ?_⟩
  repeat (first
    | with_reducible assumption | intro _
    | with_reducible (first
      | apply State.gate_lawful | apply State.engineReset_lawful))

theorem State.resetDone_lawful {s0 s : State} (h0 : Lawful s0 s) (e : Nat) : Lawful s0 (State.resetDone s e) := by
  unfold State.resetDone
  repeat (first
    | with_reducible assumption | intro _
    | (extract_lets +onlyGivenNames x; refine (fun (_ : Lawful s0 x) => ?_) ?_; (on_goal 1 => clear_value x); (on_goal 2 => subst x))
    | with_reducible (first
      | apply State.forAll_lawful | apply State.setCtx_lawful | apply State.putEngine_lawful | apply State.engCnt_lawful
      | apply State.engEvent_lawful)
    | simp only [lawful_mk])

theorem execEngineResetDone_lawful {s0 s : State} (h0 : Lawful s0 s) (e : Fin 42)
    : ∃ t, execEngineResetDone e s = .next t ∧ Lawful s0 t := by
  unfold execEngineResetDone
  refine ⟨_, rfl, ?_⟩
  repeat (first
    | with_reducible (first
      | assumption | apply ite_lawful | apply State.resetDone_lawful | apply State.noteElig_lawful))

theorem State.hang_lawful {s0 s : State} (h0 : Lawful s0 s) (e : Nat) (t : TileRun) : Lawful s0 (State.hang s e t) := by
  unfold State.hang
  extract_lets again seq s1 x s2
  have h1 : Lawful s0 s1 := State.faultNew_lawful h0 _
  have h2 : Lawful s0 s2 := State.clientCnt_lawful (State.setEngine_lawful h1 _ _) _ _
  clear_value again
  cases again with
  | none => exact State.engineReset_lawful h2 _
  | some q =>
    have h3 : Lawful s0 (((s.faultWrite (s.hangRecord e t 2 (if isSpire e then 3 else 10)) q).lastingUnit e).abandonTile e) :=
      State.abandonTile_lawful (State.lastingUnit_lawful (State.faultWrite_lawful h0 _ _) _) _
    exact ite_lawful (State.swapAt_lawful (State.clientCnt_lawful h3 _ _) _) (State.clientCnt_lawful h3 _ _)

theorem execHangTimeout_lawful {s0 s : State} (h0 : Lawful s0 s) (e : Fin 42)
    : ∃ t, execHangTimeout e s = .next t ∧ Lawful s0 t := by
  unfold execHangTimeout
  refine ⟨_, rfl, ?_⟩
  repeat (first
    | with_reducible (first
      | assumption | apply State.hang_lawful | apply State.swapAnswer_lawful)
    | split)

theorem execLastingFaultSwap_lawful {s0 s : State} (h0 : Lawful s0 s) (e : Fin 34)
    : ∃ t, execLastingFaultSwap e s = .next t ∧ Lawful s0 t := by
  unfold execLastingFaultSwap
  refine ⟨_, rfl, ?_⟩
  repeat (first
    | with_reducible (first
      | assumption | apply ite_lawful | apply State.swapAt_lawful | apply State.swapAnswer_lawful))

theorem execMoonAdoption_lawful {s0 s : State} (h0 : Lawful s0 s) (m : Fin 8)
    : ∃ t, execMoonAdoption m s = .next t ∧ Lawful s0 t := by
  unfold execMoonAdoption
  refine ⟨_, rfl, ?_⟩
  repeat (first
    | with_reducible (first
      | assumption | apply ite_lawful | apply State.abandonTile_lawful | apply State.setBit_lawful
      | apply State.raise_lawful | apply State.bump_lawful | apply State.noteElig_lawful))

theorem State.landMessage_lawful {s0 s : State} (h0 : Lawful s0 s) (h : Nat) (l : List Byte)
    : Lawful s0 (State.landMessage s h l).1 := by
  unfold State.landMessage
  repeat (first
    | with_reducible assumption | extract_lets +onlyGivenNames x
    | with_reducible (first
      | apply State.dmaWrite_lawful | apply State.xltFault_lawful | apply State.faultJob_lawful)
    | refine fst_lawful (by assumption) ?_ | split)

theorem execRemoteReplyLand_lawful {s0 s : State} (h0 : Lawful s0 s) (h : Fin 1024) (u : Fin 32)
    : ∃ t, execRemoteReplyLand h u s = .next t ∧ Lawful s0 t := by
  unfold execRemoteReplyLand
  refine ⟨_, rfl, ?_⟩
  repeat (first
    | with_reducible assumption
    | (extract_lets +onlyGivenNames x; refine (fun (_ : Lawful s0 x) => ?_) ?_; (on_goal 1 => clear_value x); (on_goal 2 => subst x))
    | with_reducible (first
      | apply State.landMessage_lawful | apply State.setCtx_lawful | apply State.noteElig_lawful)
    | refine fst_lawful (by assumption) ?_ | split | simp only [lawful_mk])

theorem execAccountingWindow_lawful {s0 s : State} (h0 : Lawful s0 s)
    : ∃ t, execAccountingWindow s = .next t ∧ Lawful s0 t := by
  unfold execAccountingWindow
  refine ⟨_, rfl, ?_⟩
  repeat (first
    | intro _
    | with_reducible (first
      | apply ite_lawful | apply State.forAll_lawful | apply State.setCtx_lawful | apply State.noteElig_lawful)
    | apply_assumption)

theorem State.joinComet_lawful {s0 s : State} (h0 : Lawful s0 s) (h : Nat) (k : Nat) (j : Job) (p : Nat × Comet)
    (first : AMap Word) : Lawful s0 (State.joinComet s h k j p first) := by
  unfold State.joinComet
  repeat (first | with_reducible (first | assumption | apply State.setJob_lawful | apply State.setComet_lawful))

theorem State.noteWait_lawful {s0 s : State} (h0 : Lawful s0 s) (h : Nat) (j : Job) (p : Nat × Comet)
    : Lawful s0 (State.noteWait s h j p) := by
  unfold State.noteWait
  repeat (first
    | with_reducible (first
      | assumption | apply ite_lawful | apply State.waited_lawful | apply State.clientCnt_lawful | apply State.setJob_lawful))

theorem State.partJoin_lawful {s0 s : State} (h0 : Lawful s0 s) (h : Nat) : Lawful s0 (State.partJoin s h) := by
  unfold State.partJoin
  repeat (first
    | with_reducible (first
      | assumption | apply State.freeSlot_lawful | apply State.joinComet_lawful | apply State.noteElig_lawful
      | apply State.noteWait_lawful | apply State.setJob_lawful)
    | split)

theorem execPartJoin_lawful {s0 s : State} (h0 : Lawful s0 s) (h : Fin 1024)
    : ∃ t, execPartJoin h s = .next t ∧ Lawful s0 t := by
  unfold execPartJoin
  refine ⟨_, rfl, ?_⟩
  repeat (first | with_reducible (first | assumption | apply State.partJoin_lawful))


/-! ### Sys2Proof/Machine/Feas.lean -/

theorem State.checkedAt_lawful {s0 s : State} (h0 : Lawful s0 s) (op : Nat) : Lawful s0 (State.checkedAt s op) := by
  unfold State.checkedAt
  repeat (first | with_reducible assumption | simp only [lawful_mk])

theorem State.syncLoads_lawful {s0 s : State} (h0 : Lawful s0 s) : Lawful s0 (State.syncLoads s) := by
  unfold State.syncLoads
  repeat (first
    | with_reducible assumption | intro _
    | with_reducible (first
      | apply ite_lawful | apply State.forAll_lawful | apply State.setF_lawful))


/-! ### Sys2Proof/Machine/Apply.lean -/

theorem State.applyWrite_lawful {s0 s : State} (h0 : Lawful s0 s) (p : Nat) (c : Nat)
    : Lawful s0 (State.applyWrite s p c) := by
  unfold State.applyWrite
  repeat (first
    | with_reducible (first
      | assumption | apply State.setF_lawful | apply State.raise_lawful | apply State.refuse_lawful
      | apply State.setIspCtx_lawful | apply State.setBit_lawful)
    | split)

theorem execApply_lawful {s0 s : State} (h0 : Lawful s0 s) (w : Writer) (p : Fin 8) (c : Fin 4)
    : ∃ t, execApply w p c s = .next t ∧ Lawful s0 t := by
  unfold execApply
  refine ⟨_, rfl, ?_⟩
  repeat (first
    | with_reducible assumption | intro _
    | with_reducible (first
      | apply State.gate_lawful | apply State.applyWrite_lawful))

theorem execApplyBoundary_lawful {s0 s : State} (h0 : Lawful s0 s) (p : Fin 8) (c : Fin 4)
    : ∃ t, execApplyBoundary p c s = .next t ∧ Lawful s0 t := by
  unfold execApplyBoundary
  refine ⟨_, rfl, ?_⟩
  repeat (first
    | with_reducible (first
      | assumption | apply ite_lawful | apply State.applyNow_lawful | apply State.syncLoads_lawful))

end Sys2Proof.Machine
end

