-- ==== Sys2Proof/Laws/LawfulModule.lean ====
section
/-!
SUPPORT. Operations are lawful (they leave the queue of commands, keep the canonical form of memory and restore no fuse):
cameras, restarts, secure boot, translation and the job commands.
-/
namespace Sys2Proof.Machine

open Sys2Proof

/-! ### Sys2Proof/Machine/Cam.lean -/

theorem execGridPointReached_lawful {s0 s : State} (h0 : Lawful s0 s) (n : Fin 8)
    : ∃ t, execGridPointReached n s = .next t ∧ Lawful s0 t := by
  unfold execGridPointReached
  refine ⟨_, rfl, ?_⟩
  repeat (first | with_reducible (first | assumption | apply ite_lawful | apply State.camReach_lawful))

theorem execDelayedTrigger_lawful {s0 s : State} (h0 : Lawful s0 s) (n : Fin 8)
    : ∃ t, execDelayedTrigger n s = .next t ∧ Lawful s0 t := by
  unfold execDelayedTrigger
  refine ⟨_, rfl, ?_⟩
  repeat (first | with_reducible (first | assumption | apply State.camDelayed_lawful))

theorem execTriggerPulseEnd_lawful {s0 s : State} (h0 : Lawful s0 s) (n : Fin 32)
    : ∃ t, execTriggerPulseEnd n s = .next t ∧ Lawful s0 t := by
  unfold execTriggerPulseEnd
  refine ⟨_, rfl, ?_⟩
  repeat (first
    | with_reducible (first
      | assumption | apply State.setDout_lawful | apply State.syncOuts_lawful)
    | split)

theorem execTriggerAck_lawful {s0 s : State} (h0 : Lawful s0 s) (n : Fin 8)
    : ∃ t, execTriggerAck n s = .next t ∧ Lawful s0 t := by
  unfold execTriggerAck
  refine ⟨_, rfl, ?_⟩
  repeat (first | with_reducible (first | assumption | apply ite_lawful | apply State.updCam_lawful))

theorem execCamLinkUp_lawful {s0 s : State} (h0 : Lawful s0 s) (n : Fin 8)
    : ∃ t, execCamLinkUp n s = .next t ∧ Lawful s0 t := by
  unfold execCamLinkUp
  refine ⟨_, rfl, ?_⟩
  repeat (first
    | with_reducible (first
      | assumption | apply ite_lawful | apply State.setF_lawful | apply State.raise_lawful | apply State.updCam_lawful))

theorem execDiscoveryDone_lawful {s0 s : State} (h0 : Lawful s0 s) (n : Fin 8) (ids : List Nat) (same : Bool)
    : ∃ t, execDiscoveryDone n ids same s = .next t ∧ Lawful s0 t := by
  unfold execDiscoveryDone
  refine ⟨_, rfl, ?_⟩
  repeat (first
    | with_reducible (first
      | assumption | apply ite_lawful | apply State.updCam_lawful | apply State.setBit_lawful | apply State.raise_lawful))

theorem execCamLinkDown_lawful {s0 s : State} (h0 : Lawful s0 s) (n : Fin 8)
    : ∃ t, execCamLinkDown n s = .next t ∧ Lawful s0 t := by
  unfold execCamLinkDown
  refine ⟨_, rfl, ?_⟩
  repeat (first | with_reducible (first | assumption | apply ite_lawful | apply State.camDown_lawful))

theorem execHeartbeatTimeout_lawful {s0 s : State} (h0 : Lawful s0 s) (n : Fin 8)
    : ∃ t, execHeartbeatTimeout n s = .next t ∧ Lawful s0 t := by
  unfold execHeartbeatTimeout
  refine ⟨_, rfl, ?_⟩
  repeat (first | with_reducible (first | assumption | apply State.camDown_lawful) | split)

theorem execHeartbeatPacket_lawful {s0 s : State} (h0 : Lawful s0 s) (n : Fin 8)
    : ∃ t, execHeartbeatPacket n s = .next t ∧ Lawful s0 t := by
  unfold execHeartbeatPacket
  refine ⟨_, rfl, ?_⟩
  repeat (first | with_reducible (first | assumption | apply ite_lawful | apply State.updCam_lawful))

theorem execGevHeartbeat_lawful {s0 s : State} (h0 : Lawful s0 s) (n : Fin 8)
    : ∃ t, execGevHeartbeat n s = .next t ∧ Lawful s0 t := by
  unfold execGevHeartbeat
  refine ⟨_, rfl, ?_⟩
  repeat (first
    | with_reducible (first
      | assumption | apply ite_lawful | apply State.macSend_lawful | apply State.updCam_lawful))

theorem State.camTake_lawful {s0 s : State} (h0 : Lawful s0 s) (n : Nat) {f : State → State}
    (h_f : ∀  t, Lawful s0 t → Lawful s0 (f  t)) : Lawful s0 (State.camTake s n f) := by
  unfold State.camTake
  repeat (first | with_reducible (first | apply ite_lawful | apply State.camCnt_lawful) | apply_assumption)

theorem execStreamBlockHeader_lawful {s0 s : State} (h0 : Lawful s0 s) (n : Fin 8) (fmt : BitVec 7) (width : Nat)
    (exposure : DWord) : ∃ t, execStreamBlockHeader n fmt width exposure s = .next t ∧ Lawful s0 t := by
  unfold execStreamBlockHeader
  refine ⟨_, rfl, ?_⟩
  repeat (first
    | with_reducible assumption | intro _
    | with_reducible (first
      | apply State.camTake_lawful | apply State.camOpen_lawful))

theorem execLineArrival_lawful {s0 s : State} (h0 : Lawful s0 s) (n : Fin 8) (index : Nat)
    : ∃ t, execLineArrival n index s = .next t ∧ Lawful s0 t := by
  unfold execLineArrival
  refine ⟨_, rfl, ?_⟩
  repeat (first
    | with_reducible assumption | intro _
    | with_reducible (first
      | apply State.camTake_lawful | apply State.camLine_lawful)
    | split)

theorem State.camMissing_lawful {s0 s : State} (h0 : Lawful s0 s) (n : Nat) (line : Nat) (col : Nat) (k : Nat)
    : Lawful s0 (State.camMissing s n line col k) := by
  unfold State.camMissing
  repeat (first
    | with_reducible assumption
    | (extract_lets +onlyGivenNames x; refine (fun (_ : Lawful s0 x) => ?_) ?_; (on_goal 1 => clear_value x); (on_goal 2 => subst x))
    | with_reducible (first
      | apply State.camCnt_lawful | apply State.updCam_lawful | apply State.camLine_lawful | apply State.camWrite_lawful)
    | split)

theorem execStreamPacket_lawful {s0 s : State} (h0 : Lawful s0 s) (n : Fin 8) (p : StreamPacket)
    : ∃ t, execStreamPacket n p s = .next t ∧ Lawful s0 t := by
  unfold execStreamPacket
  refine ⟨_, rfl, ?_⟩
  repeat (first
    | with_reducible assumption | intro _
    | with_reducible (first
      | apply State.camTake_lawful | apply State.camCnt_lawful | apply State.when_lawful | apply State.updCam_lawful
      | apply State.camWrite_lawful | apply State.camMissing_lawful)
    | split)

theorem execBlockEnd_lawful {s0 s : State} (h0 : Lawful s0 s) (n : Fin 8)
    : ∃ t, execBlockEnd n s = .next t ∧ Lawful s0 t := by
  unfold execBlockEnd
  refine ⟨_, rfl, ?_⟩
  repeat (first
    | with_reducible assumption | intro _
    | with_reducible (first
      | apply State.camTake_lawful | apply State.camClose_lawful | apply State.updCam_lawful))

theorem execCxpEventPacket_lawful {s0 s : State} (h0 : Lawful s0 s) (n : Fin 8) (body : List Byte)
    : ∃ t, execCxpEventPacket n body s = .next t ∧ Lawful s0 t := by
  unfold execCxpEventPacket
  refine ⟨_, rfl, ?_⟩
  repeat (first
    | with_reducible (first
      | assumption | apply ite_lawful | apply State.draw_lawful | apply State.qReserve_lawful | apply State.qBackFill_lawful))


/-! ### Sys2Proof/Machine/Restart.lean -/

theorem State.blank_lawful {s0 s : State} (h0 : Lawful s0 s) (r : AMap Word) : Lawful s0 (State.blank s r) :=
  ⟨h0.1, fun _ => AMap.canon_nil 0, h0.2.2⟩

theorem State.outputsFree_lawful {s0 s : State} (h0 : Lawful s0 s) : Lawful s0 (State.outputsFree s) := by
  unfold State.outputsFree
  repeat (first | with_reducible (first | assumption | apply State.syncOuts_lawful) | simp only [lawful_mk])

theorem State.saveStore_lawful {s0 s : State} (h0 : Lawful s0 s) (target : Nat) : Lawful s0 (State.saveStore s target) := by
  unfold State.saveStore
  repeat (first | with_reducible (first | assumption | apply foldl_lawful) | simp only [lawful_mk])

theorem State.voidStore_lawful {s0 s : State} (h0 : Lawful s0 s) : Lawful s0 (State.voidStore s) := by
  unfold State.voidStore
  repeat (first | with_reducible assumption | simp only [lawful_mk])

theorem State.restoreWords_lawful {s0 s : State} (h0 : Lawful s0 s) (p : Block → Bool)
    : Lawful s0 (State.restoreWords s p) := by
  unfold State.restoreWords
  repeat (first
    | with_reducible assumption | intro _
    | with_reducible (first
      | apply ite_lawful | apply State.wr_lawful | apply foldl_lawful))

theorem State.storeBad_lawful {s0 s : State} (h0 : Lawful s0 s) : Lawful s0 (State.storeBad s) := by
  unfold State.storeBad
  repeat (first | with_reducible (first | assumption | apply State.raise_lawful | apply State.bump_lawful))

theorem State.macClaim_lawful {s0 s : State} (h0 : Lawful s0 s) (m : Nat) : Lawful s0 (State.macClaim s m) := by
  unfold State.macClaim
  repeat (first
    | with_reducible assumption | intro _
    | with_reducible (first
      | apply State.forAll_lawful | apply State.laneClaim_lawful | apply State.laneFollow_lawful))

theorem State.fabClaim_lawful {s0 s : State} (h0 : Lawful s0 s) (j : Nat) : Lawful s0 (State.fabClaim s j) := by
  unfold State.fabClaim
  repeat (first
    | with_reducible assumption | intro _
    | with_reducible (first
      | apply State.setLink_lawful | apply State.setF_lawful | apply State.forAll_lawful | apply State.laneClaim_lawful
      | apply State.laneTo_lawful | apply State.setLinkState_lawful | apply State.syncLink_lawful))

theorem State.fabFree_lawful {s0 s : State} (h0 : Lawful s0 s) (j : Nat) : Lawful s0 (State.fabFree s j) := by
  unfold State.fabFree
  repeat (first
    | with_reducible assumption | intro _
    | with_reducible (first
      | apply State.forAll_lawful | apply State.laneTo_lawful | apply State.laneFree_lawful | apply State.setLink_lawful
      | apply State.setF_lawful))

theorem State.claimLanes_lawful {s0 s : State} (h0 : Lawful s0 s) : Lawful s0 (State.claimLanes s) := by
  unfold State.claimLanes
  repeat (first
    | with_reducible assumption | intro _
    | with_reducible (first
      | apply State.forAll_lawful | apply State.wr_lawful | apply State.when_lawful | apply State.macClaim_lawful
      | apply State.fabClaim_lawful | apply State.laneFollow_lawful))

theorem State.assignSpires_lawful {s0 s : State} (h0 : Lawful s0 s) : Lawful s0 (State.assignSpires s) := by
  unfold State.assignSpires
  repeat (first
    | with_reducible assumption | intro _
    | with_reducible (first
      | apply State.forAll_lawful | apply State.wr_lawful))

theorem State.loadPlugCnt_lawful {s0 s : State} (h0 : Lawful s0 s) : Lawful s0 (State.loadPlugCnt s) := by
  unfold State.loadPlugCnt
  repeat (first
    | with_reducible assumption | intro _
    | with_reducible (first
      | apply State.forAll_lawful | apply State.wr_lawful))

theorem State.bumpPlug_lawful {s0 s : State} (h0 : Lawful s0 s) (k : Nat) : Lawful s0 (State.bumpPlug s k) := by
  unfold State.bumpPlug
  repeat (first | with_reducible (first | assumption | apply State.wr_lawful) | simp only [lawful_mk])

theorem State.startBoot_lawful {s0 s : State} (h0 : Lawful s0 s) : Lawful s0 (State.startBoot s) := by
  unfold State.startBoot
  repeat (first
    | with_reducible (first
      | assumption | apply State.assignSpires_lawful | apply State.loadPlugCnt_lawful)
    | simp only [lawful_mk])

theorem State.resetModule_lawful {s0 s : State} (h0 : Lawful s0 s) : Lawful s0 (State.resetModule s) := by
  unfold State.resetModule
  repeat (first | with_reducible (first | assumption | apply State.blank_lawful) | simp only [lawful_mk])

theorem State.powerLost_lawful {s0 s : State} (h0 : Lawful s0 s) : Lawful s0 (State.powerLost s) :=
  ⟨h0.1, fun _ => AMap.canon_nil 0, h0.2.2⟩


/-! ### Sys2Proof/Machine/Sec.lean -/

theorem State.syncSec_lawful {s0 s : State} (h0 : Lawful s0 s) : Lawful s0 (State.syncSec s) := by
  unfold State.syncSec
  repeat (first
    | with_reducible (first
      | assumption | apply State.setF_lawful | apply State.setBit_lawful | apply State.wr_lawful))

theorem State.certWords_lawful {s0 s : State} (h0 : Lawful s0 s) (r : RegRow) (c : List Byte)
    : Lawful s0 (State.certWords s r c) := by
  unfold State.certWords
  repeat (first
    | with_reducible assumption | intro _
    | with_reducible (first
      | apply State.forAll_lawful | apply State.wr_lawful))

theorem State.secStart_lawful {s0 s : State} (h0 : Lawful s0 s) (d : List Byte) : Lawful s0 (State.secStart s d) := by
  unfold State.secStart
  extract_lets svn commit fw x fuse cert s1 s2 s3 s4 s5
  have h1 : Lawful s0 s1 := by
    obtain ⟨a, b, c, r, o⟩ := h0
    refine ⟨a, b, Nat.le_trans c ?_, fun i hi => ?_, o⟩
    · show s.fuse.minSvn ≤ ite _ _ _
      split
      · exact Nat.le_max_left _ _
      · exact Nat.le_refl _
    · show (s.fuse.rootRevoked ||| _).getLsbD i = true
      rw [BitVec.getLsbD_or, r i hi, Bool.true_or]
  have h2 : Lawful s0 s2 := State.setF_lawful (State.syncSec_lawful h1) _ _ _ _ _ _ _
  have h3 : Lawful s0 s3 := State.setBit_lawful (State.setBit_lawful h2 _ _ _ _ _ _) _ _ _ _ _ _
  have h4 : Lawful s0 s4 := State.setBit_lawful (State.setF_lawful h3 _ _ _ _ _ _ _) _ _ _ _ _ _
  exact State.certWords_lawful (State.certWords_lawful (State.wr64_lawful h4 _ _ _ _ _) _ _) _ _

theorem State.secRefused_lawful {s0 s : State} (h0 : Lawful s0 s) (check : Nat) : Lawful s0 (State.secRefused s check) := by
  unfold State.secRefused
  repeat (first
    | with_reducible (first
      | assumption | apply State.setF_lawful | apply State.raise_lawful | apply State.bump_lawful))

theorem State.enterRecovery_lawful {s0 s : State} (h0 : Lawful s0 s) (check : Nat)
    : Lawful s0 (State.enterRecovery s check) := by
  unfold State.enterRecovery
  repeat (first
    | with_reducible (first
      | assumption | apply State.secRefused_lawful | apply State.syncSec_lawful | apply State.setBit_lawful
      | apply State.setF_lawful)
    | simp only [lawful_mk])

theorem State.secBoot_lawful {s0 s : State} (h0 : Lawful s0 s) : Lawful s0 (State.secBoot s) := by
  unfold State.secBoot
  repeat (first
    | with_reducible (first
      | assumption | apply State.secStart_lawful | apply State.enterRecovery_lawful)
    | split | simp only [lawful_mk])

theorem execPowerOnReset_lawful {s0 s : State} (h0 : Lawful s0 s) : ∃ t, execPowerOnReset s = .next t ∧ Lawful s0 t := by
  unfold execPowerOnReset
  refine ⟨_, rfl, ?_⟩
  repeat (first | with_reducible (first | assumption | apply ite_lawful | apply State.secBoot_lawful))

theorem State.takeStaging_lawful {s0 s : State} (h0 : Lawful s0 s) : Lawful s0 (State.takeStaging s) := by
  unfold State.takeStaging
  repeat (first | with_reducible (first | assumption | apply State.syncFree_lawful) | simp only [lawful_mk])

theorem State.fwInstall_lawful {s0 s : State} (h0 : Lawful s0 s) (m : Nat) (d : List Byte)
    : Lawful s0 (State.fwInstall s m d) := by
  unfold State.fwInstall
  repeat (first
    | with_reducible (first
      | apply ite_lawful | apply State.secRefused_lawful | apply State.answer_lawful | apply State.setF_lawful
      | apply State.raise_lawful | apply State.bump_lawful | apply State.setBit_lawful)
    | simp only [lawful_mk] | apply_assumption)

theorem State.keySetInstall_lawful {s0 s : State} (h0 : Lawful s0 s) (m : Nat) (d : List Byte) :
    Lawful s0 (State.keySetInstall s m d) := by
  unfold State.keySetInstall
  extract_lets k gone owner x y s1 s2
  have h1 : Lawful s0 s1 := by
    obtain ⟨a, b, c, r, o⟩ := h0
    refine ⟨a, b, c, r, fun x hx => ?_⟩
    show some (s.fuse.owner.getD _) = some x
    rw [o x hx, Option.getD_some]
  have h2 : Lawful s0 s2 := State.syncSec_lawful (State.bump_lawful (State.raise_lawful (State.setF_lawful h1 _ _ _ _ _ _ _) _ _ _ _) _ _ _)
  exact ite_lawful (State.answer_lawful (State.secRefused_lawful h0 _) _ _ _ _ _) (State.answer_lawful h2 _ _ _ _ _)

theorem execFwUpdate_lawful {s0 s : State} (h0 : Lawful s0 s) (m : Fin 16)
    : ∃ t, execFwUpdate m s = .next t ∧ Lawful s0 t := by
  unfold execFwUpdate
  refine ⟨_, rfl, ?_⟩
  repeat (first
    | with_reducible assumption | intro _
    | with_reducible (first
      | apply State.command_lawful | apply State.answer_lawful | apply State.takeStaging_lawful
      | apply State.keySetInstall_lawful | apply State.fwInstall_lawful)
    | split)

theorem execAttest_lawful {s0 s : State} (h0 : Lawful s0 s) (m : Fin 16) : ∃ t, execAttest m s = .next t ∧ Lawful s0 t := by
  unfold execAttest
  refine ⟨_, rfl, ?_⟩
  repeat (first
    | with_reducible assumption | intro _
    | with_reducible (first
      | apply State.command_lawful | apply State.bump_lawful | apply State.answer_lawful))


/-! ### Sys2Proof/Machine/Mem.lean -/

theorem execMemoryInitDone_lawful {s0 s : State} (h0 : Lawful s0 s) : ∃ t, execMemoryInitDone s = .next t ∧ Lawful s0 t := by
  refine ⟨_, rfl, ite_lawful ?_ h0⟩
  extract_lets s1 x s2
  have h2 : Lawful s0 s2 := ⟨h0.1, fun _ => AMap.canon_nil 0, h0.2.2⟩
  exact State.raise_lawful (State.setBit_lawful (State.setBit_lawful h2 _ _ _ _ _ _) _ _ _ _ _ _) _ _ _ _

theorem execMergeTimeout_lawful {s0 s : State} (h0 : Lawful s0 s) (v : Fin 32)
    : ∃ t, execMergeTimeout v s = .next t ∧ Lawful s0 t := by
  unfold execMergeTimeout
  refine ⟨_, rfl, ?_⟩
  repeat (first
    | with_reducible assumption | intro _
    | with_reducible (first
      | apply ite_lawful | apply State.retireMerge_lawful | apply foldl_lawful))

theorem execRefreshRateChange_lawful {s0 s : State} (h0 : Lawful s0 s) (tower : Fin 4) (degC : Int)
    : ∃ t, execRefreshRateChange tower degC s = .next t ∧ Lawful s0 t := by
  unfold execRefreshRateChange
  refine ⟨_, rfl, ?_⟩
  repeat (first
    | with_reducible (first
      | assumption | apply ite_lawful | apply State.wr_lawful | apply State.setBit_lawful | apply State.raise_lawful))

theorem State.hardError_lawful {s0 s : State} (h0 : Lawful s0 s) (sector : Nat) (m : BitVec 36)
    : Lawful s0 (State.hardError s sector m) := by
  unfold State.hardError
  repeat (first | with_reducible (first | assumption | apply ite_lawful | apply State.setErrs_lawful))

theorem execPatrolRead_lawful {s0 s : State} (h0 : Lawful s0 s) (inner : Nat) (first : BitVec 36) (second : BitVec 36)
    : ∃ t, execPatrolRead inner first second s = .next t ∧ Lawful s0 t := by
  unfold execPatrolRead
  refine ⟨_, rfl, ?_⟩
  repeat (first
    | with_reducible (first
      | assumption | apply ite_lawful | apply State.settleSector_lawful | apply State.hardError_lawful
      | apply State.bumpBy_lawful | apply State.countBytes_lawful | apply State.readSector_lawful | apply State.wr64_lawful))

theorem State.scrubResult_lawful {s0 s : State} (h0 : Lawful s0 s) (cls : Nat) (symbol : Nat)
    : Lawful s0 (State.scrubResult s cls symbol) := by
  unfold State.scrubResult
  repeat (first | with_reducible (first | assumption | apply State.wr_lawful))

theorem State.rewriteSector_lawful {s0 s : State} (h0 : Lawful s0 s) (sector : Nat) (first : BitVec 36)
    (third : BitVec 36) : Lawful s0 (State.rewriteSector s sector first third) := by
  unfold State.rewriteSector
  repeat (first
    | with_reducible (first
      | assumption | apply ite_lawful | apply State.settleSector_lawful | apply State.bump_lawful
      | apply State.scrubResult_lawful | apply State.corrected_lawful | apply State.sectorStored_lawful
      | apply State.hardError_lawful | apply State.noteTransient_lawful | apply State.faultRetried_lawful
      | apply State.rowRepair_lawful | apply State.readSector_lawful))

theorem execRewrite_lawful {s0 s : State} (h0 : Lawful s0 s) (w : Writer) (first : BitVec 36) (third : BitVec 36)
    : ∃ t, execRewrite w first third s = .next t ∧ Lawful s0 t := by
  unfold execRewrite
  refine ⟨_, rfl, ?_⟩
  repeat (first
    | with_reducible assumption | intro _
    | with_reducible (first
      | apply State.gate_lawful | apply State.rewriteSector_lawful))

theorem State.injectArm_lawful {s0 s : State} (h0 : Lawful s0 s) : Lawful s0 (State.injectArm s) := by
  unfold State.injectArm
  repeat (first | with_reducible assumption | simp only [lawful_mk])

theorem execInjectArm_lawful {s0 s : State} (h0 : Lawful s0 s) (w : Writer)
    : ∃ t, execInjectArm w s = .next t ∧ Lawful s0 t := by
  unfold execInjectArm
  refine ⟨_, rfl, ?_⟩
  repeat (first | with_reducible (first | assumption | apply State.gate_lawful | apply State.injectArm_lawful))

theorem State.resumeXfer_lawful {s0 s : State} (h0 : Lawful s0 s) (e : Nat) (x : XltSusp)
    : Lawful s0 (State.resumeXfer s e x) := by
  unfold State.resumeXfer
  repeat (first
    | with_reducible assumption
    | (extract_lets +onlyGivenNames x; refine (fun (_ : Lawful s0 x) => ?_) ?_; (on_goal 1 => clear_value x); (on_goal 2 => subst x))
    | with_reducible (first
      | apply State.faultWrite_lawful | apply State.noteTransient_lawful | apply State.bump_lawful
      | apply State.setEngine_lawful | apply State.engCnt_lawful | apply State.clientCnt_lawful)
    | split | simp only [lawful_mk])

theorem State.xltResume_lawful {s0 s : State} (h0 : Lawful s0 s) (e : Nat) (fail : Bool)
    : Lawful s0 (State.xltResume s e fail) := by
  unfold State.xltResume
  repeat (first
    | with_reducible (first
      | assumption | apply State.faultWrite_lawful | apply State.bump_lawful | apply State.raise_lawful
      | apply State.faultJob_lawful | apply State.mapPage_lawful | apply State.resumeXfer_lawful)
    | split)

theorem execXltResume_lawful {s0 s : State} (h0 : Lawful s0 s) (w : Writer) (engine : Fin 64)
    : ∃ t, execXltResume w engine s = .next t ∧ Lawful s0 t := by
  unfold execXltResume
  refine ⟨_, rfl, ?_⟩
  repeat (first
    | with_reducible assumption | intro _
    | with_reducible (first
      | apply State.gate_lawful | apply State.xltResume_lawful))

theorem execXltResumeFail_lawful {s0 s : State} (h0 : Lawful s0 s) (w : Writer) (engine : Fin 64)
    : ∃ t, execXltResumeFail w engine s = .next t ∧ Lawful s0 t := by
  unfold execXltResumeFail
  refine ⟨_, rfl, ?_⟩
  repeat (first
    | with_reducible assumption | intro _
    | with_reducible (first
      | apply State.gate_lawful | apply State.xltResume_lawful))

theorem State.dropTlb_lawful {s0 s : State} (h0 : Lawful s0 s) (h : Nat) (first : Nat) (n : Nat)
    : Lawful s0 (State.dropTlb s h first n) := by
  unfold State.dropTlb
  repeat (first | with_reducible assumption | simp only [lawful_mk])

theorem State.xltInval_lawful {s0 s : State} (h0 : Lawful s0 s) (h : Nat) (pages : Nat)
    : Lawful s0 (State.xltInval s h pages) := by
  unfold State.xltInval
  repeat (first | with_reducible (first | assumption | apply State.dropTlb_lawful | apply State.bump_lawful))

theorem State.xltInvalAll_lawful {s0 s : State} (h0 : Lawful s0 s) : Lawful s0 (State.xltInvalAll s) := by
  unfold State.xltInvalAll
  repeat (first | with_reducible (first | assumption | apply State.bump_lawful) | simp only [lawful_mk])

theorem execXltInval_lawful {s0 s : State} (h0 : Lawful s0 s) (w : Writer) (handle : Fin 1024) (pages : Fin 65536)
    : ∃ t, execXltInval w handle pages s = .next t ∧ Lawful s0 t := by
  unfold execXltInval
  refine ⟨_, rfl, ?_⟩
  repeat (first
    | with_reducible assumption | intro _
    | with_reducible (first
      | apply State.gate_lawful | apply State.xltInval_lawful))

theorem execXltInvalAll_lawful {s0 s : State} (h0 : Lawful s0 s) (w : Writer)
    : ∃ t, execXltInvalAll w s = .next t ∧ Lawful s0 t := by
  unfold execXltInvalAll
  refine ⟨_, rfl, ?_⟩
  repeat (first | with_reducible (first | assumption | apply State.gate_lawful | apply State.xltInvalAll_lawful))

theorem State.putEntry_lawful {s0 s : State} (h0 : Lawful s0 s) (a : Nat) (v : Nat) : Lawful s0 (State.putEntry s a v) := by
  unfold State.putEntry
  repeat (first
    | with_reducible (first
      | assumption | apply State.writePhys_lawful | apply State.settleSector_lawful))

theorem State.migStart_lawful {s0 s : State} (h0 : Lawful s0 s) (h : Nat) (big : Bool)
    : Lawful s0 (State.migStart s h big) := by
  unfold State.migStart
  repeat (first
    | with_reducible assumption
    | (extract_lets +onlyGivenNames x; refine (fun (_ : Lawful s0 x) => ?_) ?_; (on_goal 1 => clear_value x); (on_goal 2 => subst x))
    | with_reducible (first
      | apply State.putEntry_lawful | apply State.dropTlb_lawful | apply State.setBit_lawful)
    | split | simp only [lawful_mk])

theorem execMigrationStart_lawful {s0 s : State} (h0 : Lawful s0 s) (w : Writer) (handle : Fin 1024) (big : Bool)
    : ∃ t, execMigrationStart w handle big s = .next t ∧ Lawful s0 t := by
  unfold execMigrationStart
  refine ⟨_, rfl, ?_⟩
  repeat (first
    | with_reducible assumption | intro _
    | with_reducible (first
      | apply State.gate_lawful | apply State.migStart_lawful))

theorem State.copyPage_lawful {s0 s : State} (h0 : Lawful s0 s) (src dst n : Nat) : Lawful s0 (State.copyPage s src dst n) := by
  unfold State.copyPage
  extract_lets cells s1 s2
  have h1 : Lawful s0 s1 := ⟨h0.1, fun w => AMap.canon_filter (h0.2.1 w) _, h0.2.2⟩
  have h2 : Lawful s0 s2 := State.forAll_lawful h1 (fun _ _ h => State.poke_lawful h _ _)
  exact lawful_of h2 rfl rfl rfl

theorem State.migDone_lawful {s0 s : State} (h0 : Lawful s0 s) : Lawful s0 (State.migDone s) := by
  unfold State.migDone
  repeat (first
    | with_reducible assumption | intro _
    | (extract_lets +onlyGivenNames x; refine (fun (_ : Lawful s0 x) => ?_) ?_; (on_goal 1 => clear_value x); (on_goal 2 => subst x))
    | with_reducible (first
      | apply State.retireMerge_lawful | apply State.copyPage_lawful | apply State.putEntry_lawful
      | apply State.updJob_lawful | apply State.setBit_lawful | apply State.raise_lawful | apply State.bump_lawful
      | apply State.resumeXfer_lawful | apply foldl_lawful | apply foldl_fst_lawful | apply foldl_snd_lawful)
    | split | simp only [lawful_mk])

theorem execMigrationDone_lawful {s0 s : State} (h0 : Lawful s0 s) : ∃ t, execMigrationDone s = .next t ∧ Lawful s0 t := by
  unfold execMigrationDone
  refine ⟨_, rfl, ?_⟩
  repeat (first | with_reducible (first | assumption | apply ite_lawful | apply State.migDone_lawful))


/-! ### Sys2Proof/Machine/RunOps.lean -/

theorem State.mapRun_lawful {s0 s : State} (h0 : Lawful s0 s) (h : Nat) (j : Job) (lazy : Bool)
    : Lawful s0 (State.mapRun s h j lazy) := by
  unfold State.mapRun
  repeat (first
    | with_reducible assumption | intro _
    | with_reducible (first
      | apply State.dropTlb_lawful | apply State.mapJob_lawful | apply State.forAll_lawful | apply State.mapPage_lawful))

theorem State.startRun_lawful {s0 s : State} (h0 : Lawful s0 s) (h : Nat) (lazy : Bool)
    : Lawful s0 (State.startRun s h lazy) := by
  unfold State.startRun
  repeat (first
    | with_reducible (first
      | assumption | apply State.clearCtxs_lawful | apply State.setJob_lawful | apply State.waited_lawful
      | apply State.mapRun_lawful | apply State.syncJobs_lawful | apply State.noteElig_lawful)
    | split | simp only [lawful_mk])

theorem State.stopRun_lawful {s0 s : State} (h0 : Lawful s0 s) (h : Nat) (j : Job) : Lawful s0 (State.stopRun s h j) := by
  unfold State.stopRun
  repeat (first
    | with_reducible (first
      | assumption | apply State.setJob_lawful | apply State.syncJobs_lawful | apply State.tryComplete_lawful
      | apply State.noteElig_lawful)
    | split)

theorem State.pauseRun_lawful {s0 s : State} (h0 : Lawful s0 s) (h : Nat) (j : Job) : Lawful s0 (State.pauseRun s h j) := by
  unfold State.pauseRun
  repeat (first
    | with_reducible assumption | intro _
    | with_reducible (first
      | apply ite_lawful | apply State.setJob_lawful | apply State.forAll_lawful | apply State.yieldSuspended_lawful
      | apply State.pauseAt_lawful | apply State.syncJobs_lawful | apply State.checkPaused_lawful
      | apply State.noteElig_lawful))

theorem State.resumeRun_lawful {s0 s : State} (h0 : Lawful s0 s) (h : Nat) (j : Job)
    : Lawful s0 (State.resumeRun s h j) := by
  unfold State.resumeRun
  repeat (first
    | with_reducible (first
      | assumption | apply State.setJob_lawful | apply State.syncJobs_lawful | apply State.tryComplete_lawful
      | apply State.noteElig_lawful))

theorem State.pendingSwaps_lawful {s0 s : State} (h0 : Lawful s0 s) : Lawful s0 (State.pendingSwaps s) := by
  unfold State.pendingSwaps
  repeat (first
    | with_reducible assumption | intro _
    | with_reducible (first
      | apply ite_lawful | apply State.forAll_lawful | apply State.swapAt_lawful))

theorem State.abortRun_lawful {s0 s : State} (h0 : Lawful s0 s) (h : Nat) : Lawful s0 (State.abortRun s h) := by
  unfold State.abortRun
  repeat (first
    | with_reducible (first
      | assumption | apply State.endRun_lawful | apply State.pendingSwaps_lawful | apply State.noteElig_lawful))

theorem State.unloadJob_lawful {s0 s : State} (h0 : Lawful s0 s) (h : Nat) (j : Job)
    : Lawful s0 (State.unloadJob s h j) := by
  unfold State.unloadJob
  repeat (first
    | with_reducible assumption | intro _
    | with_reducible (first
      | apply State.leaveEngines_lawful | apply State.unmapJob_lawful | apply State.forAll_lawful
      | apply State.releaseRows_lawful | apply State.dropTlb_lawful | apply State.syncFree_lawful
      | apply State.syncJobs_lawful | apply State.noteElig_lawful)
    | simp only [lawful_mk])

theorem State.splitSend_lawful {s0 s : State} (h0 : Lawful s0 s) (modules : Nat) (kind : Nat) (body : List Byte)
    : Lawful s0 (State.splitSend s modules kind body) := by
  unfold State.splitSend
  repeat (first
    | with_reducible assumption | intro _
    | with_reducible (first
      | apply State.forAll_lawful | apply State.fabSend_lawful))

theorem State.splitTell_lawful {s0 s : State} (h0 : Lawful s0 s) (j : Job) (kind : Nat)
    : Lawful s0 (State.splitTell s j kind) := by
  unfold State.splitTell
  repeat (first | with_reducible (first | assumption | apply ite_lawful | apply State.splitSend_lawful))

theorem State.splitTake_lawful {s0 s : State} (h0 : Lawful s0 s) (l : List Byte) : Lawful s0 (State.splitTake s l) := by
  unfold State.splitTake
  repeat (first
    | with_reducible (first
      | assumption | apply State.startRun_lawful | apply State.abortRun_lawful)
    | split)

theorem State.splitServe_lawful {s0 s : State} (h0 : Lawful s0 s) : Lawful s0 (State.splitServe s) := by
  unfold State.splitServe
  repeat (first
    | intro _
    | with_reducible (first
      | apply ite_lawful | apply State.forAll_lawful | apply State.splitTake_lawful)
    | apply_assumption)


/-! ### Sys2Proof/Machine/Load.lean -/

theorem State.openStaging_lawful {s0 s : State} (h0 : Lawful s0 s) (m : Nat) (n : Nat)
    : Lawful s0 (State.openStaging s m n) := by
  unfold State.openStaging
  repeat (first
    | extract_lets
    | with_reducible (first
      | apply State.wr64_lawful | apply State.syncFree_lawful | apply State.answer_lawful)
    | split | apply_assumption)

theorem execLoadBegin_lawful {s0 s : State} (h0 : Lawful s0 s) (m : Fin 16)
    : ∃ t, execLoadBegin m s = .next t ∧ Lawful s0 t := by
  unfold execLoadBegin
  refine ⟨_, rfl, ?_⟩
  repeat (first
    | with_reducible assumption | intro _
    | with_reducible (first
      | apply State.command_lawful | apply State.fields_lawful | apply State.openStaging_lawful))

theorem State.loadRefused_lawful {s0 s : State} (h0 : Lawful s0 s) (m : Nat) (e : LoadErr)
    : Lawful s0 (State.loadRefused s m e) := by
  unfold State.loadRefused
  repeat (first | with_reducible (first | assumption | apply State.draw_lawful | apply State.answer_lawful))

theorem State.withNewJob_lawful {s0 s : State} (h0 : Lawful s0 s) (h : Nat) (j : Job) (d : List Byte)
    : Lawful s0 (State.withNewJob s h j d) := by
  unfold State.withNewJob
  repeat (first
    | with_reducible (first
      | assumption | apply State.takeStaging_lawful | apply State.setJob_lawful | apply State.syncFree_lawful
      | apply State.fwWrite_lawful))

theorem State.splitRefused_lawful {s0 s : State} (h0 : Lawful s0 s) (d : List Byte)
    : Lawful s0 (State.splitRefused s d) := by
  unfold State.splitRefused
  repeat (first | with_reducible (first | assumption | apply ite_lawful | apply State.splitSend_lawful))

theorem State.loadImage_lawful {s0 s : State} (h0 : Lawful s0 s) (m : Nat) (d : List Byte)
    : Lawful s0 (State.loadImage s m d) := by
  unfold State.loadImage
  repeat (first
    | with_reducible assumption | extract_lets
    | with_reducible (first
      | apply State.takeStaging_lawful | apply State.splitRefused_lawful | apply State.loadRefused_lawful
      | apply State.withNewJob_lawful | apply State.splitTell_lawful | apply State.syncJobs_lawful
      | apply State.noteElig_lawful | apply State.answer_lawful)
    | split)

theorem execLoadJob_lawful {s0 s : State} (h0 : Lawful s0 s) (m : Fin 16)
    : ∃ t, execLoadJob m s = .next t ∧ Lawful s0 t := by
  unfold execLoadJob
  refine ⟨_, rfl, ?_⟩
  repeat (first
    | with_reducible assumption | intro _
    | with_reducible (first
      | apply State.command_lawful | apply State.fields_lawful | apply State.loadRefused_lawful
      | apply State.loadImage_lawful)
    | split)

theorem State.fwRead_lawful {s0 s : State} (h0 : Lawful s0 s) (pages : List Nat) (fuel va n : Nat) :
    Lawful s0 (State.fwRead s pages fuel va n).1 := by
  induction fuel generalizing s va n with
  | zero => exact h0
  | succ fuel ih =>
    rw [State.fwRead]
    extract_lets off k p r
    have hr : Lawful s0 r.1 := by
      show Lawful s0 (Prod.fst (ite _ _ _))
      split
      · exact h0
      · exact State.readPhys_lawful h0 _ _ _
    clear_value r
    split
    · exact h0
    · split
      · split
        · exact fst_lawful (by assumption) (ih hr _ _)
        · exact ih hr _ _
      · exact hr

theorem State.acceptSet_lawful {s0 s : State} (h0 : Lawful s0 s) (m : Nat) (h : Nat) (j : Job) (d : List Byte)
    : Lawful s0 (State.acceptSet s m h j d) := by
  unfold State.acceptSet
  repeat (first
    | with_reducible assumption | intro _
    | with_reducible (first
      | apply ite_lawful | apply State.takeStaging_lawful | apply State.setJob_lawful | apply State.syncFree_lawful
      | apply State.fwWrite_lawful | apply State.forAll_lawful | apply State.mapPage_lawful | apply State.answer_lawful))

theorem State.loadSet_lawful {s0 s : State} (h0 : Lawful s0 s) (m : Nat) (h : Nat) (j : Job) (d : List Byte)
    : Lawful s0 (State.loadSet s m h j d) := by
  unfold State.loadSet
  repeat (first
    | with_reducible (first
      | assumption | apply State.fwRead_lawful | apply State.takeStaging_lawful | apply State.answer_lawful
      | apply State.acceptSet_lawful)
    | refine fst_lawful (by assumption) ?_ | split)

theorem execLoadWeightSet_lawful {s0 s : State} (h0 : Lawful s0 s) (m : Fin 16)
    : ∃ t, execLoadWeightSet m s = .next t ∧ Lawful s0 t := by
  unfold execLoadWeightSet
  refine ⟨_, rfl, ?_⟩
  repeat (first
    | with_reducible assumption | intro _
    | with_reducible (first
      | apply State.command_lawful | apply State.fields_lawful | apply State.withJob_lawful | apply State.answer_lawful
      | apply State.loadSet_lawful)
    | split)


/-! ### Sys2Proof/Machine/JobCmds.lean -/

theorem State.bindInput_lawful {s0 s : State} (h0 : Lawful s0 s) (h : Nat) (j : Job) (input : Nat) (b : Binding)
    : Lawful s0 (State.bindInput s h j input b) := by
  unfold State.bindInput
  repeat (first
    | with_reducible assumption
    | (extract_lets +onlyGivenNames x; refine (fun (_ : Lawful s0 x) => ?_) ?_; (on_goal 1 => clear_value x); (on_goal 2 => subst x))
    | with_reducible (first
      | apply State.releaseRows_lawful | apply State.setJob_lawful)
    | split)

theorem execBindInput_lawful {s0 s : State} (h0 : Lawful s0 s) (m : Fin 16)
    : ∃ t, execBindInput m s = .next t ∧ Lawful s0 t := by
  unfold execBindInput
  refine ⟨_, rfl, ?_⟩
  repeat (first
    | with_reducible assumption | intro _
    | with_reducible (first
      | apply ite_lawful | apply State.command_lawful | apply State.fields_lawful | apply State.withJob_lawful
      | apply State.answer_lawful | apply State.bindInput_lawful | apply State.noteElig_lawful))

theorem State.jobCommand_lawful {s0 s : State} (h0 : Lawful s0 s) (m : Nat) (op : Nat) {f : Nat → Job → State → State}
    (h_f : ∀ a0 a1 t, Lawful s0 t → Lawful s0 (f a0 a1 t)) : Lawful s0 (State.jobCommand s m op f) := by
  unfold State.jobCommand
  repeat (first
    | with_reducible assumption | intro _
    | with_reducible (first
      | apply State.command_lawful | apply State.fields_lawful | apply State.withJob_lawful))

theorem State.startJob_lawful {s0 s : State} (h0 : Lawful s0 s) (m : Nat) (h : Nat) (j : Job) (lazy : Bool)
    : Lawful s0 (State.startJob s m h j lazy) := by
  unfold State.startJob
  repeat (first
    | with_reducible (first
      | assumption | apply State.answer_lawful | apply State.startRun_lawful | apply State.splitTell_lawful)
    | split)

theorem execStart_lawful {s0 s : State} (h0 : Lawful s0 s) (m : Fin 16) : ∃ t, execStart m s = .next t ∧ Lawful s0 t := by
  unfold execStart
  refine ⟨_, rfl, ?_⟩
  repeat (first
    | with_reducible assumption | intro _
    | with_reducible (first
      | apply State.command_lawful | apply State.fields_lawful | apply State.withJob_lawful | apply State.startJob_lawful))

theorem execStartLazy_lawful {s0 s : State} (h0 : Lawful s0 s) (m : Fin 16)
    : ∃ t, execStartLazy m s = .next t ∧ Lawful s0 t := by
  unfold execStartLazy
  refine ⟨_, rfl, ?_⟩
  repeat (first
    | with_reducible assumption | intro _
    | with_reducible (first
      | apply ite_lawful | apply State.command_lawful | apply State.fields_lawful | apply State.withJob_lawful
      | apply State.answer_lawful | apply State.startJob_lawful))

theorem execStop_lawful {s0 s : State} (h0 : Lawful s0 s) (m : Fin 16) : ∃ t, execStop m s = .next t ∧ Lawful s0 t := by
  unfold execStop
  refine ⟨_, rfl, ?_⟩
  repeat (first
    | with_reducible assumption | intro _
    | with_reducible (first
      | apply ite_lawful | apply State.jobCommand_lawful | apply State.stopRun_lawful | apply State.answer_lawful))

theorem execPause_lawful {s0 s : State} (h0 : Lawful s0 s) (m : Fin 16) : ∃ t, execPause m s = .next t ∧ Lawful s0 t := by
  unfold execPause
  refine ⟨_, rfl, ?_⟩
  repeat (first
    | with_reducible assumption | intro _
    | with_reducible (first
      | apply ite_lawful | apply State.jobCommand_lawful | apply State.pauseRun_lawful | apply State.answer_lawful))

theorem execResume_lawful {s0 s : State} (h0 : Lawful s0 s) (m : Fin 16) : ∃ t, execResume m s = .next t ∧ Lawful s0 t := by
  unfold execResume
  refine ⟨_, rfl, ?_⟩
  repeat (first
    | with_reducible assumption | intro _
    | with_reducible (first
      | apply ite_lawful | apply State.jobCommand_lawful | apply State.answer_lawful | apply State.resumeRun_lawful))

theorem execAbort_lawful {s0 s : State} (h0 : Lawful s0 s) (m : Fin 16) : ∃ t, execAbort m s = .next t ∧ Lawful s0 t := by
  unfold execAbort
  refine ⟨_, rfl, ?_⟩
  repeat (first
    | with_reducible assumption | intro _
    | with_reducible (first
      | apply ite_lawful | apply State.jobCommand_lawful | apply State.abortRun_lawful | apply State.splitTell_lawful
      | apply State.answer_lawful))

theorem execUnload_lawful {s0 s : State} (h0 : Lawful s0 s) (m : Fin 16) : ∃ t, execUnload m s = .next t ∧ Lawful s0 t := by
  unfold execUnload
  refine ⟨_, rfl, ?_⟩
  repeat (first
    | with_reducible assumption | intro _
    | with_reducible (first
      | apply ite_lawful | apply State.jobCommand_lawful | apply State.answer_lawful | apply State.unloadJob_lawful))

theorem execSetPriority_lawful {s0 s : State} (h0 : Lawful s0 s) (m : Fin 16)
    : ∃ t, execSetPriority m s = .next t ∧ Lawful s0 t := by
  unfold execSetPriority
  refine ⟨_, rfl, ?_⟩
  repeat (first
    | with_reducible assumption | intro _ | extract_lets
    | with_reducible (first
      | apply State.command_lawful | apply State.fields_lawful | apply State.withJob_lawful | apply State.setJob_lawful
      | apply State.answer_lawful | apply State.syncJobs_lawful | apply State.noteElig_lawful)
    | split)

theorem State.switchSet_lawful {s0 s : State} (h0 : Lawful s0 s) (m : Nat) (h : Nat) (j : Job) (g : JobImg)
    (at_ : AMap DWord) : Lawful s0 (State.switchSet s m h j g at_) := by
  unfold State.switchSet
  repeat (first
    | with_reducible (first
      | assumption | apply State.fwRead_lawful | apply State.answer_lawful | apply State.setJob_lawful
      | apply State.freeOldSet_lawful | apply State.noteElig_lawful)
    | refine fst_lawful (by assumption) ?_ | split)

theorem execSwitchWeights_lawful {s0 s : State} (h0 : Lawful s0 s) (m : Fin 16)
    : ∃ t, execSwitchWeights m s = .next t ∧ Lawful s0 t := by
  unfold execSwitchWeights
  refine ⟨_, rfl, ?_⟩
  repeat (first
    | with_reducible assumption | intro _ | extract_lets
    | with_reducible (first
      | apply State.command_lawful | apply State.answer_lawful | apply State.fields_lawful | apply State.withJob_lawful
      | apply State.switchSet_lawful)
    | split)

theorem State.calibrateAll_lawful {s0 s : State} (h0 : Lawful s0 s) (j : Job) (typ : Nat) (sym : Bool) (n src dst : Nat) :
    Lawful s0 (State.calibrateAll s j typ sym n src dst).1 := by
  induction n generalizing s src dst with
  | zero => exact h0
  | succ n ih =>
    rw [State.calibrateAll]
    split
    · have h1 := fst_lawful (by assumption) (State.fwRead_lawful h0 _ _ _ _)
      dsimp only
      split
      · exact fst_lawful (by assumption) (ih (State.fwWrite_lawful h1 _ _ _ _) _ _)
      · exact ih (State.fwWrite_lawful h1 _ _ _ _) _ _
    · exact fst_lawful (by assumption) (State.fwRead_lawful h0 _ _ _ _)

theorem execCalibrate_lawful {s0 s : State} (h0 : Lawful s0 s) (m : Fin 16)
    : ∃ t, execCalibrate m s = .next t ∧ Lawful s0 t := by
  unfold execCalibrate
  refine ⟨_, rfl, ?_⟩
  repeat (first
    | with_reducible assumption | intro _
    | with_reducible (first
      | apply State.command_lawful | apply State.fields_lawful | apply State.withJob_lawful | apply State.answer_lawful
      | apply State.calibrateAll_lawful)
    | refine fst_lawful (by assumption) ?_ | split)

theorem State.bankNorms_lawful {s0 s : State} (h0 : Lawful s0 s) (j : Job) (stream d n i : Nat) :
    Lawful s0 (State.bankNorms s j stream d n i).1 := by
  induction n generalizing s i with
  | zero => exact h0
  | succ n ih =>
    unfold State.bankNorms
    extract_lets x ten
    split
    · exact ih (State.fwWrite_lawful (fst_lawful (by assumption) (State.fwRead_lawful h0 _ _ _ _)) _ _ _ _) _
    · exact fst_lawful (by assumption) (State.fwRead_lawful h0 _ _ _ _)

theorem State.prepareBanks_lawful {s0 s : State} (h0 : Lawful s0 s) (j : Job) (d : Nat) (x0 : List Nat)
    : Lawful s0 (State.prepareBanks s j d x0).1 := by
  induction x0 generalizing s <;> unfold State.prepareBanks <;> repeat (first
    | extract_lets
    | with_reducible (first
      | apply State.bankNorms_lawful | apply_assumption)
    | refine fst_lawful (by assumption) ?_ | split)

theorem execBankPrepare_lawful {s0 s : State} (h0 : Lawful s0 s) (m : Fin 16)
    : ∃ t, execBankPrepare m s = .next t ∧ Lawful s0 t := by
  unfold execBankPrepare
  refine ⟨_, rfl, ?_⟩
  repeat (first
    | with_reducible assumption | intro _ | extract_lets
    | with_reducible (first
      | apply State.command_lawful | apply State.withJob_lawful | apply State.answer_lawful
      | apply State.prepareBanks_lawful)
    | refine fst_lawful (by assumption) ?_ | split)

end Sys2Proof.Machine
end

