-- ==== Sys2Proof/Laws/LawfulPlant.lean ====
section
/-!
SUPPORT. Operations are lawful (they leave the queue of commands, keep the canonical form of memory and restore no fuse):
the watchtower, ejections, lanes, power, mailbox commands, field channels and snapshots.
-/
namespace Sys2Proof.Machine

open Sys2Proof

/-! ### Sys2Proof/Machine/WtOps.lean -/

theorem State.wtCount_lawful {s0 s : State} (h0 : Lawful s0 s) : Lawful s0 (State.wtCount s) := by
  unfold State.wtCount
  repeat (first | with_reducible (first | assumption | apply State.setF_lawful))

theorem State.createComet_lawful {s0 s : State} (h0 : Lawful s0 s) (l : Nat) (lead : DWord) (tainted : Bool)
    : Lawful s0 (State.createComet s l lead tainted) := by
  unfold State.createComet
  repeat (first
    | with_reducible assumption | intro _ | extract_lets
    | with_reducible (first
      | apply ite_lawful | apply State.setComet_lawful | apply State.setDet_lawful | apply State.bump_lawful
      | apply State.wtCount_lawful | apply State.cometStored_lawful)
    | split | simp only [lawful_mk] | dsimp only | apply_assumption)

theorem State.detect_lawful {s0 s : State} (h0 : Lawful s0 s) (l : Nat) (lead : DWord) (tainted : Bool)
    : Lawful s0 (State.detect s l lead tainted) := by
  unfold State.detect
  repeat (first
    | with_reducible (first
      | assumption | apply ite_lawful | apply State.setDet_lawful | apply State.bump_lawful | apply State.raise_lawful
      | apply State.createComet_lawful))

theorem State.closeComet_lawful {s0 s : State} (h0 : Lawful s0 s) (i : Nat) (trail : DWord) (flags : Word)
    : Lawful s0 (State.closeComet s i trail flags) := by
  unfold State.closeComet
  repeat (first | with_reducible (first | assumption | apply State.setComet_lawful) | split)

theorem State.closeDet_lawful {s0 s : State} (h0 : Lawful s0 s) (l : Nat) (trail : DWord) (flags : Word)
    : Lawful s0 (State.closeDet s l trail flags) := by
  unfold State.closeDet
  repeat (first | with_reducible (first | assumption | apply State.closeComet_lawful) | split)

theorem State.detIdle_lawful {s0 s : State} (h0 : Lawful s0 s) (l : Nat) : Lawful s0 (State.detIdle s l) := by
  unfold State.detIdle
  repeat (first | with_reducible (first | assumption | apply State.setDet_lawful))

theorem State.inputCreate_lawful {s0 s : State} (h0 : Lawful s0 s) (l : Nat) : Lawful s0 (State.inputCreate s l) := by
  unfold State.inputCreate
  repeat (first | with_reducible assumption | extract_lets | with_reducible apply State.detect_lawful | split)

theorem State.windowPoints_lawful {s0 s : State} (h0 : Lawful s0 s) (l : Nat) (first : Int) (x0 : Nat)
    : Lawful s0 (State.windowPoints s l first x0) := by
  induction x0 generalizing s <;> unfold State.windowPoints <;> repeat (first
    | with_reducible (first
      | apply State.setDet_lawful | apply State.detect_lawful | apply State.closeDet_lawful | apply_assumption))

theorem State.windowCycle_lawful {s0 s : State} (h0 : Lawful s0 s) (l : Nat) : Lawful s0 (State.windowCycle s l) := by
  unfold State.windowCycle
  repeat (first
    | with_reducible (first
      | assumption | apply State.windowPoints_lawful | apply State.setDet_lawful))

theorem State.laneCreate_lawful {s0 s : State} (h0 : Lawful s0 s) (l : Nat) : Lawful s0 (State.laneCreate s l) := by
  unfold State.laneCreate
  repeat (first
    | with_reducible (first
      | assumption | apply ite_lawful | apply State.inputCreate_lawful | apply State.windowCycle_lawful))

theorem State.runOver_lawful {s0 s : State} (h0 : Lawful s0 s) (l : Nat) (p : DWord) : Lawful s0 (State.runOver s l p) := by
  unfold State.runOver
  repeat (first
    | with_reducible assumption | extract_lets
    | with_reducible (first
      | apply State.closeDet_lawful | apply State.setDet_lawful)
    | split)

theorem State.laneOverlength_lawful {s0 s : State} (h0 : Lawful s0 s) (l : Nat) : Lawful s0 (State.laneOverlength s l) := by
  unfold State.laneOverlength
  repeat (first | with_reducible (first | assumption | apply ite_lawful | apply State.runOver_lawful))

theorem State.inputEdge_lawful {s0 s : State} (h0 : Lawful s0 s) (l : Nat) (leading : Bool)
    : Lawful s0 (State.inputEdge s l leading) := by
  unfold State.inputEdge
  repeat (first
    | with_reducible assumption
    | (extract_lets +onlyGivenNames x; refine (fun (_ : Lawful s0 x) => ?_) ?_; (on_goal 1 => clear_value x); (on_goal 2 => subst x))
    | with_reducible (first
      | apply State.setDet_lawful | apply State.inputCreate_lawful | apply State.closeDet_lawful | apply State.bump_lawful
      | apply State.detIdle_lawful)
    | split)

theorem State.inputLanes_lawful {s0 s : State} (h0 : Lawful s0 s) (n : Nat) (level : Bool)
    : Lawful s0 (State.inputLanes s n level) := by
  unfold State.inputLanes
  repeat (first
    | with_reducible assumption | intro _
    | with_reducible (first
      | apply ite_lawful | apply State.forAll_lawful | apply State.inputEdge_lawful))

theorem State.laneSwitched_lawful {s0 s : State} (h0 : Lawful s0 s) (l : Nat) : Lawful s0 (State.laneSwitched s l) := by
  unfold State.laneSwitched
  repeat (first | with_reducible (first | assumption | apply ite_lawful | apply State.setDet_lawful))

theorem State.rowOn_lawful {s0 s : State} (h0 : Lawful s0 s) (l : Nat) (p : DWord) : Lawful s0 (State.rowOn s l p) := by
  unfold State.rowOn
  repeat (first
    | with_reducible assumption
    | (extract_lets +onlyGivenNames x; refine (fun (_ : Lawful s0 x) => ?_) ?_; (on_goal 1 => clear_value x); (on_goal 2 => subst x))
    | extract_lets +onlyGivenNames x
    | with_reducible (first
      | apply State.setDet_lawful | apply State.detect_lawful)
    | split)

theorem State.rowOff_lawful {s0 s : State} (h0 : Lawful s0 s) (l : Nat) (p : DWord) : Lawful s0 (State.rowOff s l p) := by
  unfold State.rowOff
  repeat (first
    | with_reducible (first
      | assumption | apply ite_lawful | apply State.setDet_lawful | apply State.closeDet_lawful | apply State.bump_lawful
      | apply State.detIdle_lawful))

theorem State.imageRow_lawful {s0 s : State} (h0 : Lawful s0 s) (l : Nat) (pos : Option DWord) (pix : List Nat)
    : Lawful s0 (State.imageRow s l pos pix) := by
  unfold State.imageRow
  repeat (first
    | with_reducible (first
      | assumption | apply ite_lawful | apply State.bump_lawful | apply State.rowOn_lawful | apply State.rowOff_lawful
      | apply State.runOver_lawful)
    | split)

theorem State.lateFire_lawful {s0 s : State} (h0 : Lawful s0 s) (i : Nat) : Lawful s0 (State.lateFire s i) := by
  unfold State.lateFire
  repeat (first
    | with_reducible (first
      | assumption | apply State.setComet_lawful | apply State.raise_lawful | apply State.bump_lawful)
    | split)

theorem State.ejRelease_lawful {s0 s : State} (h0 : Lawful s0 s) (i : Nat) (t : DWord)
    : Lawful s0 (State.ejRelease s i t) := by
  unfold State.ejRelease
  repeat (first
    | with_reducible (first
      | assumption | apply State.setComet_lawful | apply State.syncOuts_lawful)
    | split)

theorem State.ejHold_lawful {s0 s : State} (h0 : Lawful s0 s) (i : Nat) (t : DWord) : Lawful s0 (State.ejHold s i t) := by
  unfold State.ejHold
  repeat (first
    | with_reducible (first
      | assumption | apply State.setComet_lawful | apply State.syncOuts_lawful)
    | split)

theorem State.ejEndLocal_lawful {s0 s : State} (h0 : Lawful s0 s) (i : Nat) (t : DWord)
    : Lawful s0 (State.ejEndLocal s i t) := by
  unfold State.ejEndLocal
  repeat (first
    | with_reducible assumption | extract_lets
    | with_reducible (first
      | apply State.setComet_lawful | apply State.ejRelease_lawful)
    | split)

theorem State.ejMinPulse_lawful {s0 s : State} (h0 : Lawful s0 s) (i : Nat) : Lawful s0 (State.ejMinPulse s i) := by
  unfold State.ejMinPulse
  repeat (first | with_reducible (first | assumption | apply State.ejRelease_lawful) | split)

theorem State.ejCap_lawful {s0 s : State} (h0 : Lawful s0 s) (i : Nat) : Lawful s0 (State.ejCap s i) := by
  unfold State.ejCap
  repeat (first
    | with_reducible (first
      | assumption | apply State.setComet_lawful | apply State.raise_lawful | apply State.bump_lawful
      | apply State.ejRelease_lawful)
    | split)

theorem State.bankSend_lawful {s0 s : State} (h0 : Lawful s0 s) (typ : Nat) (i : Nat) (c : Comet) (tOn : DWord)
    (tOff : DWord) : Lawful s0 (State.bankSend s typ i c tOn tOff) := by
  unfold State.bankSend
  repeat (first | with_reducible (first | assumption | apply State.setGroup_lawful | apply State.macSend_lawful))

theorem State.noAck_lawful {s0 s : State} (h0 : Lawful s0 s) (i : Nat) : Lawful s0 (State.noAck s i) := by
  unfold State.noAck
  repeat (first
    | with_reducible (first
      | assumption | apply State.setComet_lawful | apply State.raise_lawful | apply State.bump_lawful)
    | split)

theorem State.ejSend_lawful {s0 s : State} (h0 : Lawful s0 s) (i : Nat) : Lawful s0 (State.ejSend s i) := by
  unfold State.ejSend
  repeat (first
    | with_reducible assumption | extract_lets
    | with_reducible (first
      | apply State.setComet_lawful | apply State.bankSend_lawful | apply State.noAck_lawful)
    | split)

theorem State.ejRetime_lawful {s0 s : State} (h0 : Lawful s0 s) (i : Nat) : Lawful s0 (State.ejRetime s i) := by
  unfold State.ejRetime
  repeat (first
    | with_reducible assumption | extract_lets
    | with_reducible (first
      | apply ite_lawful | apply State.setComet_lawful | apply State.bankSend_lawful)
    | split)

theorem State.ejWithdraw_lawful {s0 s : State} (h0 : Lawful s0 s) (i : Nat) (c : Comet)
    : Lawful s0 (State.ejWithdraw s i c) := by
  unfold State.ejWithdraw
  repeat (first | with_reducible (first | assumption | apply State.setMac_lawful | apply State.setGroup_lawful))

theorem State.ejStart_lawful {s0 s : State} (h0 : Lawful s0 s) (i : Nat) (t : DWord) (late : Bool)
    : Lawful s0 (State.ejStart s i t late) := by
  unfold State.ejStart
  repeat (first
    | with_reducible assumption | intro _ | extract_lets
    | with_reducible (first
      | apply State.when_lawful | apply State.lateFire_lawful | apply State.ejSend_lawful | apply State.ejHold_lawful)
    | split)

theorem State.ejRetract_lawful {s0 s : State} (h0 : Lawful s0 s) (i : Nat) : Lawful s0 (State.ejRetract s i) := by
  unfold State.ejRetract
  repeat (first
    | with_reducible assumption
    | (extract_lets +onlyGivenNames x; refine (fun (_ : Lawful s0 x) => ?_) ?_; (on_goal 1 => clear_value x); (on_goal 2 => subst x))
    | extract_lets +onlyGivenNames x
    | with_reducible (first
      | apply State.setComet_lawful | apply State.raise_lawful | apply State.bump_lawful | apply State.ejRelease_lawful
      | apply State.syncOuts_lawful | apply State.bankSend_lawful | apply State.ejWithdraw_lawful)
    | split)

theorem State.recourse_lawful {s0 s : State} (h0 : Lawful s0 s) (i : Nat) (eject : Bool)
    : Lawful s0 (State.recourse s i eject) := by
  unfold State.recourse
  repeat (first
    | with_reducible assumption | extract_lets
    | with_reducible (first
      | apply State.setComet_lawful | apply State.ejRetract_lawful | apply State.ejStart_lawful)
    | split)

theorem State.ejDecide_lawful {s0 s : State} (h0 : Lawful s0 s) (i : Nat) (t : DWord) (late : Bool)
    : Lawful s0 (State.ejDecide s i t late) := by
  unfold State.ejDecide
  repeat (first
    | with_reducible assumption | extract_lets
    | with_reducible (first
      | apply State.ejStart_lawful | apply State.setComet_lawful | apply State.bump_lawful)
    | split)

theorem State.ejStartEval_lawful {s0 s : State} (h0 : Lawful s0 s) (i : Nat) : Lawful s0 (State.ejStartEval s i) := by
  unfold State.ejStartEval
  repeat (first | with_reducible assumption | extract_lets | with_reducible apply State.ejDecide_lawful | split)

theorem State.ejEndEval_lawful {s0 s : State} (h0 : Lawful s0 s) (i : Nat) : Lawful s0 (State.ejEndEval s i) := by
  unfold State.ejEndEval
  repeat (first | with_reducible (first | assumption | apply State.ejEndLocal_lawful) | split)

theorem State.commitComet_lawful {s0 s : State} (h0 : Lawful s0 s) (i : Nat) : Lawful s0 (State.commitComet s i) := by
  unfold State.commitComet
  repeat (first
    | with_reducible assumption | intro _
    | with_reducible (first
      | apply State.setComet_lawful | apply State.when_lawful | apply State.slotMissed_lawful | apply State.raise_lawful
      | apply State.bump_lawful | apply State.recourse_lawful)
    | split)

theorem State.commitEval_lawful {s0 s : State} (h0 : Lawful s0 s) (i : Nat) : Lawful s0 (State.commitEval s i) := by
  unfold State.commitEval
  repeat (first | with_reducible (first | assumption | apply State.commitComet_lawful) | split)

theorem State.finalVerdict_lawful {s0 s : State} (h0 : Lawful s0 s) (i : Nat) (kind : Nat) (cls : Byte) (job : Nat)
    : Lawful s0 (State.finalVerdict s i kind cls job) := by
  unfold State.finalVerdict
  repeat (first
    | with_reducible assumption | extract_lets
    | with_reducible (first
      | apply State.bump_lawful | apply State.setComet_lawful | apply State.recourse_lawful)
    | split)

theorem State.takeToken_lawful {s0 s : State} (h0 : Lawful s0 s) (data : List Byte)
    : Lawful s0 (State.takeToken s data) := by
  unfold State.takeToken
  repeat (first
    | with_reducible assumption | extract_lets
    | with_reducible (first
      | apply State.bump_lawful | apply State.setComet_lawful | apply State.finalVerdict_lawful)
    | split)

theorem State.takeHead_lawful {s0 s : State} (h0 : Lawful s0 s) : Lawful s0 (State.takeHead s) := by
  unfold State.takeHead
  repeat (first
    | with_reducible assumption | intro _ | extract_lets
    | with_reducible (first
      | apply ite_lawful | apply State.ringRead_lawful | apply State.qRelease_lawful | apply State.takeToken_lawful)
    | split | simp only [lawful_mk] | dsimp only | apply_assumption)

theorem State.takeTokens_lawful {s0 s : State} (h0 : Lawful s0 s) (x0 : Nat) : Lawful s0 (State.takeTokens s x0) := by
  induction x0 generalizing s <;> unfold State.takeTokens <;> repeat (first | with_reducible (first | apply State.takeHead_lawful | apply_assumption))

theorem State.retireEval_lawful {s0 s : State} (h0 : Lawful s0 s) (i : Nat) : Lawful s0 (State.retireEval s i) := by
  unfold State.retireEval
  repeat (first | with_reducible (first | assumption | apply State.setComet_lawful) | split)

theorem State.exportEval_lawful {s0 s : State} (h0 : Lawful s0 s) (i : Nat) : Lawful s0 (State.exportEval s i) := by
  unfold State.exportEval
  repeat (first
    | with_reducible assumption | intro _ | extract_lets
    | with_reducible (first
      | apply ite_lawful | apply State.qAppend_lawful | apply State.wtCount_lawful | apply State.cometRead_lawful
      | apply State.raise_lawful)
    | split | simp only [lawful_mk] | dsimp only | apply_assumption)


/-! ### Sys2Proof/Machine/Eject.lean -/

theorem execEjectionStart_lawful {s0 s : State} (h0 : Lawful s0 s) (comet : Fin 65536)
    : ∃ t, execEjectionStart comet s = .next t ∧ Lawful s0 t := by
  unfold execEjectionStart
  refine ⟨_, rfl, ?_⟩
  repeat (first | with_reducible (first | assumption | apply ite_lawful | apply State.ejStartEval_lawful))

theorem execEjectionEnd_lawful {s0 s : State} (h0 : Lawful s0 s) (comet : Fin 65536)
    : ∃ t, execEjectionEnd comet s = .next t ∧ Lawful s0 t := by
  unfold execEjectionEnd
  refine ⟨_, rfl, ?_⟩
  repeat (first | with_reducible (first | assumption | apply ite_lawful | apply State.ejEndEval_lawful))

theorem execMinPulseEnd_lawful {s0 s : State} (h0 : Lawful s0 s) (comet : Fin 65536)
    : ∃ t, execMinPulseEnd comet s = .next t ∧ Lawful s0 t := by
  unfold execMinPulseEnd
  refine ⟨_, rfl, ?_⟩
  repeat (first | with_reducible (first | assumption | apply ite_lawful | apply State.ejMinPulse_lawful))

theorem execPulseCap_lawful {s0 s : State} (h0 : Lawful s0 s) (comet : Fin 65536)
    : ∃ t, execPulseCap comet s = .next t ∧ Lawful s0 t := by
  unfold execPulseCap
  refine ⟨_, rfl, ?_⟩
  repeat (first | with_reducible (first | assumption | apply ite_lawful | apply State.ejCap_lawful))

theorem State.outOn_lawful {s0 s : State} (h0 : Lawful s0 s) (n : Nat) : Lawful s0 (State.outOn s n) := by
  unfold State.outOn
  repeat (first | with_reducible apply State.setBit_lawful | apply_assumption)

theorem execOutputEnergised_lawful {s0 s : State} (h0 : Lawful s0 s) (n : Fin 32)
    : ∃ t, execOutputEnergised n s = .next t ∧ Lawful s0 t := by
  unfold execOutputEnergised
  refine ⟨_, rfl, ?_⟩
  repeat (first | with_reducible (first | assumption | apply ite_lawful | apply State.outOn_lawful))

theorem execOutputDeenergised_lawful {s0 s : State} (h0 : Lawful s0 s) (n : Fin 32)
    : ∃ t, execOutputDeenergised n s = .next t ∧ Lawful s0 t := by
  unfold execOutputDeenergised
  refine ⟨_, rfl, ?_⟩
  repeat (first | with_reducible (first | assumption | apply ite_lawful | apply State.setBit_lawful))

theorem execEjectSend_lawful {s0 s : State} (h0 : Lawful s0 s) (comet : Fin 65536)
    : ∃ t, execEjectSend comet s = .next t ∧ Lawful s0 t := by
  unfold execEjectSend
  refine ⟨_, rfl, ?_⟩
  repeat (first
    | with_reducible (first
      | assumption | apply ite_lawful | apply State.ejStartEval_lawful | apply State.ejRetime_lawful))

theorem State.bankSettle_lawful {s0 s : State} (h0 : Lawful s0 s) (i : Nat) : Lawful s0 (State.bankSettle s i) := by
  unfold State.bankSettle
  repeat (first | with_reducible (first | assumption | apply State.setComet_lawful) | split)

theorem State.bankAck_lawful {s0 s : State} (h0 : Lawful s0 s) (g : Nat) (k : BankCmd) (status : Nat)
    : Lawful s0 (State.bankAck s g k status) := by
  unfold State.bankAck
  repeat (first
    | with_reducible assumption | extract_lets
    | with_reducible (first
      | apply ite_lawful | apply State.setGroup_lawful | apply State.setComet_lawful | apply State.raise_lawful
      | apply State.bump_lawful | apply State.bankSettle_lawful)
    | split)

theorem execRemoteAck_lawful {s0 s : State} (h0 : Lawful s0 s) (group : Fin 16) (dgram : List Byte)
    : ∃ t, execRemoteAck group dgram s = .next t ∧ Lawful s0 t := by
  unfold execRemoteAck
  refine ⟨_, rfl, ?_⟩
  repeat (first | with_reducible (first | assumption | apply State.bankAck_lawful) | split)

theorem State.bankResend_lawful {s0 s : State} (h0 : Lawful s0 s) (g : Nat) (k : BankCmd)
    : Lawful s0 (State.bankResend s g k) := by
  unfold State.bankResend
  repeat (first
    | with_reducible assumption | extract_lets
    | with_reducible (first
      | apply State.setGroup_lawful | apply State.macSend_lawful)
    | split)

theorem State.bankGiveUp_lawful {s0 s : State} (h0 : Lawful s0 s) (g : Nat) (k : BankCmd)
    : Lawful s0 (State.bankGiveUp s g k) := by
  unfold State.bankGiveUp
  repeat (first
    | with_reducible assumption | extract_lets
    | with_reducible (first
      | apply State.setGroup_lawful | apply State.noAck_lawful)
    | split)

theorem execAckTimeout_lawful {s0 s : State} (h0 : Lawful s0 s) (group : Fin 16) (seq : Word)
    : ∃ t, execAckTimeout group seq s = .next t ∧ Lawful s0 t := by
  unfold execAckTimeout
  refine ⟨_, rfl, ?_⟩
  repeat (first
    | with_reducible (first
      | assumption | apply State.bankResend_lawful | apply State.bankGiveUp_lawful)
    | split)

theorem execArpRefresh_lawful {s0 s : State} (h0 : Lawful s0 s) (group : Fin 16) (reply : Option (BitVec 48))
    : ∃ t, execArpRefresh group reply s = .next t ∧ Lawful s0 t := by
  unfold execArpRefresh
  refine ⟨_, rfl, ?_⟩
  repeat (first
    | with_reducible (first
      | assumption | apply State.macSend_lawful | apply State.wr64_lawful | apply State.setBit_lawful)
    | split)


/-! ### Sys2Proof/Machine/Lanes.lean -/

theorem State.macDown_lawful {s0 s : State} (h0 : Lawful s0 s) (m : Nat) : Lawful s0 (State.macDown s m) := by
  unfold State.macDown
  repeat (first
    | with_reducible assumption | intro _
    | with_reducible (first
      | apply ite_lawful | apply State.setBit_lawful | apply State.bump_lawful | apply State.setMac_lawful
      | apply State.forAll_lawful | apply State.when_lawful | apply State.camDown_lawful | apply State.decLinkLost_lawful))

theorem State.ownerReset_lawful {s0 s : State} (h0 : Lawful s0 s) (l : Nat) : Lawful s0 (State.ownerReset s l) := by
  unfold State.ownerReset
  repeat (first
    | with_reducible assumption | intro _
    | with_reducible (first
      | apply State.camDown_lawful | apply State.forAll_lawful | apply State.laneCycle_lawful
      | apply State.camLanesUp_lawful | apply State.macDown_lawful | apply State.fabLinkReset_lawful)
    | split)

theorem State.linkResetWrite_lawful {s0 s : State} (h0 : Lawful s0 s) (w : Writer) (v : Word)
    : Lawful s0 (State.linkResetWrite s w v) := by
  unfold State.linkResetWrite
  repeat (first
    | with_reducible assumption | intro _
    | with_reducible (first
      | apply State.gate_lawful | apply State.forAll_lawful | apply State.ownerReset_lawful))

theorem execLinkReset_lawful {s0 s : State} (h0 : Lawful s0 s) (w : Writer) (v : Word)
    : ∃ t, execLinkReset w v s = .next t ∧ Lawful s0 t := by
  unfold execLinkReset
  refine ⟨_, rfl, ?_⟩
  repeat (first | with_reducible (first | assumption | apply State.linkResetWrite_lawful))

theorem State.laneClassify_lawful {s0 s : State} (h0 : Lawful s0 s) (l : Nat) (ok : Bool)
    : Lawful s0 (State.laneClassify s l ok) := by
  unfold State.laneClassify
  repeat (first
    | with_reducible (first
      | assumption | apply State.setLane_lawful | apply State.faultWrite_lawful | apply State.noteTransient_lawful)
    | split)

theorem execTrainingDone_lawful {s0 s : State} (h0 : Lawful s0 s) (l : Fin 32) (peer : Fin 16) (precode : BitVec 2)
    : ∃ t, execTrainingDone l peer precode s = .next t ∧ Lawful s0 t := by
  unfold execTrainingDone
  refine ⟨_, rfl, ?_⟩
  repeat (first
    | with_reducible assumption | intro _
    | with_reducible (first
      | apply State.wr_lawful | apply State.setLane_lawful | apply State.when_lawful | apply State.setF_lawful
      | apply State.linkTrained_lawful)
    | split)

theorem execTrainTimeout_lawful {s0 s : State} (h0 : Lawful s0 s) (l : Fin 32)
    : ∃ t, execTrainTimeout l s = .next t ∧ Lawful s0 t := by
  unfold execTrainTimeout
  refine ⟨_, rfl, ?_⟩
  repeat (first
    | with_reducible (first
      | assumption | apply State.setBit_lawful | apply State.raise_lawful | apply State.bump_lawful
      | apply State.setLane_lawful | apply State.laneClassify_lawful)
    | split)

theorem execLaneUp_lawful {s0 s : State} (h0 : Lawful s0 s) (l : Fin 32) : ∃ t, execLaneUp l s = .next t ∧ Lawful s0 t := by
  unfold execLaneUp
  refine ⟨_, rfl, ?_⟩
  repeat (first
    | with_reducible assumption | intro _
    | with_reducible (first
      | apply ite_lawful | apply State.setF_lawful | apply State.when_lawful | apply State.raise_lawful
      | apply State.camLanesUp_lawful | apply State.laneClassify_lawful))

theorem State.lockLost_lawful {s0 s : State} (h0 : Lawful s0 s) (n : Nat) (heldNs : Nat)
    : Lawful s0 (State.lockLost s n heldNs) := by
  unfold State.lockLost
  repeat (first
    | with_reducible assumption | intro _
    | with_reducible (first
      | apply ite_lawful | apply State.setF_lawful | apply State.bump_lawful | apply State.when_lawful
      | apply State.raise_lawful | apply State.faultNew_lawful | apply State.setLane_lawful | apply State.ownerReset_lawful
      | apply State.failLane_lawful))

theorem execLaneLockLoss_lawful {s0 s : State} (h0 : Lawful s0 s) (l : Fin 32) (heldNs : Nat)
    : ∃ t, execLaneLockLoss l heldNs s = .next t ∧ Lawful s0 t := by
  unfold execLaneLockLoss
  refine ⟨_, rfl, ?_⟩
  repeat (first | with_reducible (first | assumption | apply State.lockLost_lawful))

theorem execLaneActivity_lawful {s0 s : State} (h0 : Lawful s0 s) (l : Fin 32) (millivolts : Nat) (heldNs : Nat)
    : ∃ t, execLaneActivity l millivolts heldNs s = .next t ∧ Lawful s0 t := by
  unfold execLaneActivity
  refine ⟨_, rfl, ?_⟩
  repeat (first
    | with_reducible assumption | intro _
    | with_reducible (first
      | apply ite_lawful | apply State.when_lawful | apply State.setF_lawful | apply State.raise_lawful
      | apply State.wakeFire_lawful))

theorem State.prbsWrite_lawful {s0 s : State} (h0 : Lawful s0 s) (w : Writer) (l : Nat) (v : Word)
    : Lawful s0 (State.prbsWrite s w l v) := by
  unfold State.prbsWrite
  repeat (first
    | with_reducible assumption | intro _
    | with_reducible (first
      | apply ite_lawful | apply State.gate_lawful | apply State.refuse_lawful | apply State.wr_lawful
      | apply State.when_lawful | apply State.setBit_lawful | apply State.setLane_lawful))

theorem execPrbsInjOne_lawful {s0 s : State} (h0 : Lawful s0 s) (w : Writer) (l : Fin 32) (v : Word)
    : ∃ t, execPrbsInjOne w l v s = .next t ∧ Lawful s0 t := by
  unfold execPrbsInjOne
  refine ⟨_, rfl, ?_⟩
  repeat (first | with_reducible (first | assumption | apply State.prbsWrite_lawful))

theorem execPrbsCheckerLock_lawful {s0 s : State} (h0 : Lawful s0 s) (l : Fin 32) (goodBits : Nat)
    : ∃ t, execPrbsCheckerLock l goodBits s = .next t ∧ Lawful s0 t := by
  unfold execPrbsCheckerLock
  refine ⟨_, rfl, ?_⟩
  repeat (first | with_reducible (first | assumption | apply ite_lawful | apply State.setBit_lawful))

theorem execPrbsCheckerResync_lawful {s0 s : State} (h0 : Lawful s0 s) (l : Fin 32) (errors : Nat) (bits : Nat)
    : ∃ t, execPrbsCheckerResync l errors bits s = .next t ∧ Lawful s0 t := by
  unfold execPrbsCheckerResync
  refine ⟨_, rfl, ?_⟩
  repeat (first
    | with_reducible (first
      | assumption | apply ite_lawful | apply State.setBit_lawful | apply State.bump_lawful))

theorem execPrbsBitError_lawful {s0 s : State} (h0 : Lawful s0 s) (l : Fin 32)
    : ∃ t, execPrbsBitError l s = .next t ∧ Lawful s0 t := by
  unfold execPrbsBitError
  refine ⟨_, rfl, ?_⟩
  repeat (first
    | with_reducible (first
      | assumption | apply ite_lawful | apply State.bump_lawful | apply State.raise_lawful))

theorem execPrbsRateInjection_lawful {s0 s : State} (h0 : Lawful s0 s) (l : Fin 32) (bits : Nat)
    : ∃ t, execPrbsRateInjection l bits s = .next t ∧ Lawful s0 t := by
  unfold execPrbsRateInjection
  refine ⟨_, rfl, ?_⟩
  repeat (first | with_reducible (first | assumption | apply ite_lawful | apply State.setLane_lawful))

theorem State.frameToCp_lawful {s0 s : State} (h0 : Lawful s0 s) (m : Nat) (f : EthFrame)
    : Lawful s0 (State.frameToCp s m f) := by
  unfold State.frameToCp
  repeat (first
    | with_reducible assumption | intro _
    | with_reducible (first
      | apply ite_lawful | apply State.setMac_lawful | apply State.bump_lawful | apply State.when_lawful
      | apply State.macSend_lawful))

theorem execEthFrameReceive_lawful {s0 s : State} (h0 : Lawful s0 s) (m : Fin 8) (f : EthFrame)
    : ∃ t, execEthFrameReceive m f s = .next t ∧ Lawful s0 t := by
  unfold execEthFrameReceive
  refine ⟨_, rfl, ?_⟩
  repeat (first
    | with_reducible assumption | extract_lets
    | with_reducible (first
      | apply State.bump_lawful | apply State.frameToCp_lawful | apply State.setMac_lawful)
    | split)

theorem State.bankLeft_lawful {s0 s : State} (h0 : Lawful s0 s) (m : Nat) (g : Nat) (typ : Nat) (i : Nat)
    (cseq : BitVec 16) (seq : Word) : Lawful s0 (State.bankLeft s m g typ i cseq seq) := by
  unfold State.bankLeft
  repeat (first
    | with_reducible assumption | extract_lets
    | with_reducible (first
      | apply State.setGroup_lawful | apply State.setComet_lawful)
    | split)

theorem execEthFrameTransmit_lawful {s0 s : State} (h0 : Lawful s0 s) (m : Fin 8)
    : ∃ t, execEthFrameTransmit m s = .next t ∧ Lawful s0 t := by
  unfold execEthFrameTransmit
  refine ⟨_, rfl, ?_⟩
  repeat (first
    | with_reducible (first
      | assumption | apply State.setMac_lawful | apply State.bump_lawful | apply State.bankLeft_lawful
      | apply State.ptpSent_lawful)
    | split)

theorem State.bankArp_lawful {s0 s : State} (h0 : Lawful s0 s) (g : Nat) : Lawful s0 (State.bankArp s g) := by
  unfold State.bankArp
  repeat (first | with_reducible (first | assumption | apply State.macSend_lawful))

theorem execMacLinkUp_lawful {s0 s : State} (h0 : Lawful s0 s) (m : Fin 8)
    : ∃ t, execMacLinkUp m s = .next t ∧ Lawful s0 t := by
  unfold execMacLinkUp
  refine ⟨_, rfl, ?_⟩
  repeat (first
    | with_reducible assumption | intro _
    | with_reducible (first
      | apply ite_lawful | apply State.setBit_lawful | apply State.macSend_lawful | apply State.forAll_lawful
      | apply State.when_lawful | apply State.bankArp_lawful))

theorem execFlitReceive_lawful {s0 s : State} (h0 : Lawful s0 s) (j : Fin 4) (f : Flit) (crcOk : Bool)
    : ∃ t, execFlitReceive j f crcOk s = .next t ∧ Lawful s0 t := by
  unfold execFlitReceive
  refine ⟨_, rfl, ?_⟩
  repeat (first
    | with_reducible (first
      | assumption | apply ite_lawful | apply State.flitIn_lawful | apply State.splitServe_lawful))

theorem execRetryTimeout_lawful {s0 s : State} (h0 : Lawful s0 s) (j : Fin 4)
    : ∃ t, execRetryTimeout j s = .next t ∧ Lawful s0 t := by
  unfold execRetryTimeout
  refine ⟨_, rfl, ?_⟩
  repeat (first | with_reducible (first | assumption | apply ite_lawful | apply State.replayLink_lawful))

theorem execAckInterval_lawful {s0 s : State} (h0 : Lawful s0 s) (j : Fin 4)
    : ∃ t, execAckInterval j s = .next t ∧ Lawful s0 t := by
  unfold execAckInterval
  refine ⟨_, rfl, ?_⟩
  repeat (first | with_reducible (first | assumption | apply ite_lawful | apply State.controlOut_lawful))

theorem execLinkRetrainTimeout_lawful {s0 s : State} (h0 : Lawful s0 s) (j : Fin 4)
    : ∃ t, execLinkRetrainTimeout j s = .next t ∧ Lawful s0 t := by
  unfold execLinkRetrainTimeout
  refine ⟨_, rfl, ?_⟩
  repeat (first | with_reducible (first | assumption | apply ite_lawful | apply State.retrainLate_lawful))

theorem execLaneFail_lawful {s0 s : State} (h0 : Lawful s0 s) (j : Fin 4) (k : Fin 4) (lostNs : Nat) (unc : Nat)
    (corr : Nat) : ∃ t, execLaneFail j k lostNs unc corr s = .next t ∧ Lawful s0 t := by
  unfold execLaneFail
  refine ⟨_, rfl, ?_⟩
  repeat (first
    | with_reducible (first
      | assumption | apply ite_lawful | apply State.bumpBy_lawful | apply State.failLane_lawful))

theorem execSwapReqReceive_lawful {s0 s : State} (h0 : Lawful s0 s) (j : Fin 4) (k : Fin 4)
    : ∃ t, execSwapReqReceive j k s = .next t ∧ Lawful s0 t := by
  unfold execSwapReqReceive
  refine ⟨_, rfl, ?_⟩
  repeat (first
    | with_reducible (first
      | assumption | apply State.controlOut_lawful | apply State.swapDone_lawful)
    | split)

theorem execSwapAckReceive_lawful {s0 s : State} (h0 : Lawful s0 s) (j : Fin 4)
    : ∃ t, execSwapAckReceive j s = .next t ∧ Lawful s0 t := by
  unfold execSwapAckReceive
  refine ⟨_, rfl, ?_⟩
  repeat (first | with_reducible (first | assumption | apply State.swapDone_lawful) | split)

theorem State.injectWrite_lawful {s0 s : State} (h0 : Lawful s0 s) (w : Writer) (j : Nat) (n : Byte)
    : Lawful s0 (State.injectWrite s w j n) := by
  unfold State.injectWrite
  repeat (first
    | with_reducible assumption | intro _
    | with_reducible (first
      | apply State.gate_lawful | apply State.setLink_lawful))

theorem execFabInject_lawful {s0 s : State} (h0 : Lawful s0 s) (w : Writer) (j : Fin 4) (n : Byte)
    : ∃ t, execFabInject w j n s = .next t ∧ Lawful s0 t := by
  unfold execFabInject
  refine ⟨_, rfl, ?_⟩
  repeat (first | with_reducible (first | assumption | apply State.injectWrite_lawful))


/-! ### Sys2Proof/Machine/Power.lean -/

theorem State.syncOp_lawful {s0 s : State} (h0 : Lawful s0 s) : Lawful s0 (State.syncOp s) := by
  unfold State.syncOp
  repeat (first
    | with_reducible (first
      | assumption | apply State.setF_lawful | apply State.setBit_lawful | apply State.syncLoads_lawful))

theorem State.measure_lawful {s0 s : State} (h0 : Lawful s0 s) (degC : Int) : Lawful s0 (State.measure s degC) := by
  unfold State.measure
  repeat (first
    | with_reducible assumption | intro _
    | with_reducible (first
      | apply ite_lawful | apply State.wr_lawful | apply State.when_lawful | apply State.raise_lawful)
    | simp only [lawful_mk])

theorem execThrottleStepDown_lawful {s0 s : State} (h0 : Lawful s0 s) (degC : Int)
    : ∃ t, execThrottleStepDown degC s = .next t ∧ Lawful s0 t := by
  unfold execThrottleStepDown
  refine ⟨_, rfl, ?_⟩
  repeat (first
    | with_reducible (first
      | assumption | apply ite_lawful | apply State.measure_lawful | apply State.setF_lawful | apply State.syncOp_lawful
      | apply State.raise_lawful | apply State.bump_lawful)
    | simp only [lawful_mk])

theorem execThrottleStepUp_lawful {s0 s : State} (h0 : Lawful s0 s) (degC : Int)
    : ∃ t, execThrottleStepUp degC s = .next t ∧ Lawful s0 t := by
  unfold execThrottleStepUp
  refine ⟨_, rfl, ?_⟩
  repeat (first
    | with_reducible assumption | intro _
    | with_reducible (first
      | apply State.measure_lawful | apply State.setF_lawful | apply State.syncOp_lawful | apply State.when_lawful
      | apply State.raise_lawful)
    | split | simp only [lawful_mk])

theorem execTemperatureHot_lawful {s0 s : State} (h0 : Lawful s0 s) (degC : Int)
    : ∃ t, execTemperatureHot degC s = .next t ∧ Lawful s0 t := by
  unfold execTemperatureHot
  refine ⟨_, rfl, ?_⟩
  repeat (first | with_reducible (first | assumption | apply ite_lawful | apply State.measure_lawful))

theorem State.startOp_lawful {s0 s : State} (h0 : Lawful s0 s) (m : Nat) (op : Nat) : Lawful s0 (State.startOp s m op) := by
  unfold State.startOp
  repeat (first
    | with_reducible (first
      | assumption | apply State.setF_lawful | apply State.setBit_lawful | apply State.setMb_lawful)
    | simp only [lawful_mk])

theorem execOpChangeDone_lawful {s0 s : State} (h0 : Lawful s0 s) : ∃ t, execOpChangeDone s = .next t ∧ Lawful s0 t := by
  unfold execOpChangeDone
  refine ⟨_, rfl, ?_⟩
  repeat (first
    | with_reducible (first
      | assumption | apply State.syncOp_lawful | apply State.setBit_lawful | apply State.raise_lawful
      | apply State.bump_lawful | apply State.answer_lawful)
    | split | simp only [lawful_mk])

theorem State.unitsOff_lawful {s0 s : State} (h0 : Lawful s0 s) : Lawful s0 (State.unitsOff s) := by
  unfold State.unitsOff
  repeat (first
    | with_reducible assumption | intro _
    | with_reducible (first
      | apply State.forAll_lawful | apply State.retireMerge_lawful | apply State.setBit_lawful | apply State.laneTo_lawful
      | apply foldl_lawful)
    | simp only [lawful_mk])

theorem State.intoS3_lawful {s0 s : State} (h0 : Lawful s0 s) : Lawful s0 (State.intoS3 s) := by
  unfold State.intoS3
  repeat (first
    | with_reducible assumption
    | (extract_lets +onlyGivenNames x; refine (fun (_ : Lawful s0 x) => ?_) ?_; (on_goal 1 => clear_value x); (on_goal 2 => subst x))
    | with_reducible (first
      | apply State.outputsOff_lawful | apply State.blank_lawful | apply State.setF_lawful | apply State.bump_lawful)
    | simp only [lawful_mk])

theorem State.pendingWake_lawful {s0 s : State} (h0 : Lawful s0 s) : Lawful s0 (State.pendingWake s) := by
  unfold State.pendingWake
  repeat (first
    | with_reducible (first
      | assumption | apply ite_lawful | apply State.setBit_lawful)
    | simp only [lawful_mk])

theorem execPowerEntryDone_lawful {s0 s : State} (h0 : Lawful s0 s) : ∃ t, execPowerEntryDone s = .next t ∧ Lawful s0 t := by
  refine ⟨_, rfl, ?_⟩
  split
  · rename_i t mb _
    refine ite_lawful ?_ h0
    extract_lets x s1 reply s2
    have h1 : Lawful s0 s1 := lawful_of h0 rfl rfl rfl
    have h2 : Lawful s0 s2 := State.setBit_lawful h1 _ _ _ _ _ _
    have hr : ∀ x, Lawful s0 x → Lawful s0 (reply x) := by
      intro x hx
      cases mb with
      | none => exact hx
      | some m => exact State.answer_lawful hx _ _ _ _ _
    clear_value reply
    refine ite_lawful (State.pendingWake_lawful (hr _ (State.bump_lawful (State.setF_lawful h2 _ _ _ _ _ _ _) _ _ _))) (ite_lawful ?_ ?_)
    · exact State.pendingWake_lawful (hr _ (State.bump_lawful (State.setF_lawful (State.unitsOff_lawful (State.saveStore_lawful h2 _)) _ _ _ _ _ _ _) _ _ _))
    · exact State.pendingWake_lawful (State.intoS3_lawful (hr _ (State.saveStore_lawful h2 _)))
  · exact h0

theorem State.startEntry_lawful {s0 s : State} (h0 : Lawful s0 s) (m : Nat) (target : Nat)
    : Lawful s0 (State.startEntry s m target) := by
  unfold State.startEntry
  repeat (first
    | with_reducible (first
      | apply ite_lawful | apply State.setMb_lawful | apply State.setBit_lawful | apply State.syncOuts_lawful
      | apply State.outputsOff_lawful)
    | apply_assumption)

theorem State.powerAnswer_lawful {s0 s : State} (h0 : Lawful s0 s) (m : Nat) (status : Nat) (d0 : Nat)
    : Lawful s0 (State.powerAnswer s m status d0) := by
  unfold State.powerAnswer
  repeat (first | with_reducible (first | assumption | apply State.setF_lawful | apply State.answer_lawful))

theorem execSetPowerState_lawful {s0 s : State} (h0 : Lawful s0 s) (m : Fin 16)
    : ∃ t, execSetPowerState m s = .next t ∧ Lawful s0 t := by
  unfold execSetPowerState
  refine ⟨_, rfl, ?_⟩
  repeat (first
    | with_reducible assumption | intro _
    | with_reducible (first
      | apply State.command_lawful | apply State.fields_lawful | apply State.powerAnswer_lawful | apply State.setF_lawful
      | apply State.setMb_lawful | apply State.wakeFire_lawful | apply State.startEntry_lawful)
    | split | simp only [lawful_mk])

theorem execThermalTrip_lawful {s0 s : State} (h0 : Lawful s0 s) (core : Int) (tower : Int)
    : ∃ t, execThermalTrip core tower s = .next t ∧ Lawful s0 t := by
  unfold execThermalTrip
  refine ⟨_, rfl, ?_⟩
  repeat (first
    | with_reducible assumption
    | (extract_lets +onlyGivenNames x; refine (fun (_ : Lawful s0 x) => ?_) ?_; (on_goal 1 => clear_value x); (on_goal 2 => subst x))
    | with_reducible (first
      | apply ite_lawful | apply State.measure_lawful | apply State.saveStore_lawful | apply State.intoS3_lawful
      | apply State.raise_lawful | apply State.bump_lawful)
    | simp only [lawful_mk])

theorem execWakeBusFrame_lawful {s0 s : State} (h0 : Lawful s0 s) (addr : BitVec 7) (cmd : Byte)
    : ∃ t, execWakeBusFrame addr cmd s = .next t ∧ Lawful s0 t := by
  unfold execWakeBusFrame
  refine ⟨_, rfl, ?_⟩
  repeat (first | with_reducible (first | apply ite_lawful | apply State.wakeFire_lawful) | apply_assumption)

theorem execWakePattern_lawful {s0 s : State} (h0 : Lawful s0 s) (lane : Fin 32) (bursts : List (Nat × Nat))
    : ∃ t, execWakePattern lane bursts s = .next t ∧ Lawful s0 t := by
  unfold execWakePattern
  refine ⟨_, rfl, ?_⟩
  repeat (first | with_reducible (first | assumption | apply ite_lawful | apply State.wakeFire_lawful))

theorem execSdioStartBitWake_lawful {s0 s : State} (h0 : Lawful s0 s)
    : ∃ t, execSdioStartBitWake s = .next t ∧ Lawful s0 t := by
  unfold execSdioStartBitWake
  refine ⟨_, rfl, ?_⟩
  repeat (first | with_reducible (first | assumption | apply ite_lawful | apply State.wakeFire_lawful))

theorem State.syncQueues_lawful {s0 s : State} (h0 : Lawful s0 s) : Lawful s0 (State.syncQueues s) := by
  unfold State.syncQueues
  repeat (first | with_reducible (first | assumption | apply State.wr_lawful))

theorem State.awake_lawful {s0 s : State} (h0 : Lawful s0 s) : Lawful s0 (State.awake s) := by
  unfold State.awake
  extract_lets s1 mb x s2
  have h1 : Lawful s0 s1 := State.bump_lawful (State.setF_lawful h0 _ _ _ _ _ _ _) _ _ _
  have h2 : Lawful s0 s2 := lawful_of h1 rfl rfl rfl
  clear_value mb
  cases mb with
  | none => exact h2
  | some m => exact State.answer_lawful h2 _ _ _ _ _

theorem State.wakeS2_lawful {s0 s : State} (h0 : Lawful s0 s) (ok : Bool) : Lawful s0 (State.wakeS2 s ok) := by
  unfold State.wakeS2
  repeat (first
    | with_reducible (first
      | apply ite_lawful | apply State.setF_lawful | apply State.restoreWords_lawful | apply State.storeBad_lawful
      | apply State.syncQueues_lawful | apply State.claimLanes_lawful | apply State.syncJobs_lawful
      | apply State.outputsFree_lawful)
    | apply_assumption)

theorem State.wakeS3_lawful {s0 s : State} (h0 : Lawful s0 s) (ok : Bool) : Lawful s0 (State.wakeS3 s ok) := by
  unfold State.wakeS3
  repeat (first
    | with_reducible assumption | intro _
    | (extract_lets +onlyGivenNames x; refine (fun (_ : Lawful s0 x) => ?_) ?_; (on_goal 1 => clear_value x); (on_goal 2 => subst x))
    | with_reducible (first
      | apply ite_lawful | apply State.blank_lawful | apply State.setF_lawful | apply State.startBoot_lawful
      | apply State.restoreWords_lawful | apply State.storeBad_lawful | apply State.when_lawful
      | apply State.syncQueues_lawful | apply State.claimLanes_lawful | apply State.outputsFree_lawful)
    | simp only [lawful_mk])

theorem execWakeDone_lawful {s0 s : State} (h0 : Lawful s0 s) (storeOk : Bool)
    : ∃ t, execWakeDone storeOk s = .next t ∧ Lawful s0 t := by
  unfold execWakeDone
  refine ⟨_, rfl, ?_⟩
  repeat (first
    | with_reducible (first
      | assumption | apply State.awake_lawful | apply State.wakeS2_lawful | apply State.wakeS3_lawful)
    | split | simp only [lawful_mk])


/-! ### Sys2Proof/Machine/Commands.lean -/

theorem execSetOperatingPoint_lawful {s0 s : State} (h0 : Lawful s0 s) (m : Fin 16)
    : ∃ t, execSetOperatingPoint m s = .next t ∧ Lawful s0 t := by
  unfold execSetOperatingPoint
  refine ⟨_, rfl, ?_⟩
  repeat (first
    | with_reducible assumption | intro _
    | with_reducible (first
      | apply State.command_lawful | apply State.fields_lawful | apply State.answer_lawful | apply State.checkedAt_lawful
      | apply State.startOp_lawful)
    | split)

theorem State.camSend_lawful {s0 s : State} (h0 : Lawful s0 s) (x : CamXfer) (retries : Nat)
    : Lawful s0 (State.camSend s x retries) := by
  unfold State.camSend
  repeat (first | with_reducible (first | apply ite_lawful | apply State.macSend_lawful) | apply_assumption)

theorem State.camBegin_lawful {s0 s : State} (h0 : Lawful s0 s) (m : Nat) (write : Bool) (data : List Byte)
    : Lawful s0 (State.camBegin s m write data) := by
  unfold State.camBegin
  repeat (first
    | with_reducible (first
      | assumption | apply ite_lawful | apply State.answer_lawful | apply State.setMb_lawful | apply State.camSend_lawful))

theorem execCamControlRead_lawful {s0 s : State} (h0 : Lawful s0 s) (m : Fin 16)
    : ∃ t, execCamControlRead m s = .next t ∧ Lawful s0 t := by
  unfold execCamControlRead
  refine ⟨_, rfl, ?_⟩
  repeat (first
    | with_reducible assumption | intro _
    | with_reducible (first
      | apply State.command_lawful | apply State.fields_lawful | apply State.camBegin_lawful))

theorem execCamControlWrite_lawful {s0 s : State} (h0 : Lawful s0 s) (m : Fin 16)
    : ∃ t, execCamControlWrite m s = .next t ∧ Lawful s0 t := by
  unfold execCamControlWrite
  refine ⟨_, rfl, ?_⟩
  repeat (first
    | with_reducible assumption | intro _
    | with_reducible (first
      | apply ite_lawful | apply State.command_lawful | apply State.fields_lawful | apply State.answer_lawful
      | apply State.camBegin_lawful))

theorem execControlAcknowledge_lawful {s0 s : State} (h0 : Lawful s0 s) (port : Fin 8) (ok : Bool) (data : List Byte)
    : ∃ t, execControlAcknowledge port ok data s = .next t ∧ Lawful s0 t := by
  unfold execControlAcknowledge
  refine ⟨_, rfl, ?_⟩
  repeat (first
    | with_reducible (first
      | assumption | apply State.answer_lawful | apply State.camSend_lawful)
    | split | simp only [lawful_mk])

theorem execCameraTimeout_lawful {s0 s : State} (h0 : Lawful s0 s) : ∃ t, execCameraTimeout s = .next t ∧ Lawful s0 t := by
  unfold execCameraTimeout
  refine ⟨_, rfl, ?_⟩
  repeat (first
    | with_reducible (first
      | assumption | apply State.camSend_lawful | apply State.answer_lawful)
    | split | simp only [lawful_mk])

theorem execQueueCreate_lawful {s0 s : State} (h0 : Lawful s0 s) (m : Fin 16)
    : ∃ t, execQueueCreate m s = .next t ∧ Lawful s0 t := by
  unfold execQueueCreate
  refine ⟨_, rfl, ?_⟩
  repeat (first
    | with_reducible assumption | intro _
    | with_reducible (first
      | apply ite_lawful | apply State.command_lawful | apply State.answer_lawful | apply State.makeQueue_lawful))

theorem execQueueDestroy_lawful {s0 s : State} (h0 : Lawful s0 s) (m : Fin 16)
    : ∃ t, execQueueDestroy m s = .next t ∧ Lawful s0 t := by
  unfold execQueueDestroy
  refine ⟨_, rfl, ?_⟩
  repeat (first
    | with_reducible assumption | intro _
    | with_reducible (first
      | apply ite_lawful | apply State.command_lawful | apply State.fields_lawful | apply State.answer_lawful
      | apply State.dropQueue_lawful))

theorem execSpareSwap_lawful {s0 s : State} (h0 : Lawful s0 s) (m : Fin 16)
    : ∃ t, execSpareSwap m s = .next t ∧ Lawful s0 t := by
  unfold execSpareSwap
  refine ⟨_, rfl, ?_⟩
  repeat (first
    | with_reducible assumption | intro _
    | with_reducible (first
      | apply State.command_lawful | apply State.fields_lawful | apply State.setMb_lawful | apply State.swapAt_lawful
      | apply State.swapAnswer_lawful | apply State.answer_lawful)
    | split | simp only [lawful_mk])

theorem execClearSoftMap_lawful {s0 s : State} (h0 : Lawful s0 s) (m : Fin 16)
    : ∃ t, execClearSoftMap m s = .next t ∧ Lawful s0 t := by
  unfold execClearSoftMap
  refine ⟨_, rfl, ?_⟩
  repeat (first
    | with_reducible assumption | intro _
    | with_reducible (first
      | apply State.command_lawful | apply State.fields_lawful | apply State.syncSpare_lawful | apply State.answer_lawful)
    | simp only [lawful_mk])


/-! ### Sys2Proof/Machine/Fio.lean -/

theorem State.diAccept_lawful {s0 s : State} (h0 : Lawful s0 s) (n : Nat) (level : Bool)
    : Lawful s0 (State.diAccept s n level) := by
  unfold State.diAccept
  repeat (first
    | with_reducible assumption | intro _
    | with_reducible (first
      | apply State.setDin_lawful | apply State.setBit_lawful | apply State.inputLanes_lawful | apply State.when_lawful
      | apply State.snapFire_lawful | apply State.wakeFire_lawful))

theorem execDiEdge_lawful {s0 s : State} (h0 : Lawful s0 s) (n : Fin 16) (level : Bool) (held : Nat)
    : ∃ t, execDiEdge n level held s = .next t ∧ Lawful s0 t := by
  unfold execDiEdge
  refine ⟨_, rfl, ?_⟩
  repeat (first | with_reducible (first | assumption | apply ite_lawful | apply State.diAccept_lawful))

theorem execDiOpen_lawful {s0 s : State} (h0 : Lawful s0 s) (n : Fin 16) (microamps : Nat) (heldNs : Nat)
    : ∃ t, execDiOpen n microamps heldNs s = .next t ∧ Lawful s0 t := by
  unfold execDiOpen
  refine ⟨_, rfl, ?_⟩
  repeat (first
    | with_reducible (first
      | assumption | apply ite_lawful | apply State.setBit_lawful | apply State.raise_lawful | apply State.bump_lawful))

theorem execDiOpenClear_lawful {s0 s : State} (h0 : Lawful s0 s) (n : Fin 16) (microamps : Nat)
    : ∃ t, execDiOpenClear n microamps s = .next t ∧ Lawful s0 t := by
  unfold execDiOpenClear
  refine ⟨_, rfl, ?_⟩
  repeat (first | with_reducible (first | assumption | apply ite_lawful | apply State.setBit_lawful))

theorem State.releasePending_lawful {s0 s : State} (h0 : Lawful s0 s) : Lawful s0 (State.releasePending s) := by
  unfold State.releasePending
  repeat (first
    | with_reducible assumption | intro _
    | with_reducible (first
      | apply State.forAll_lawful | apply State.ejMinPulse_lawful))

theorem State.supplyState_lawful {s0 s : State} (h0 : Lawful s0 s) (new : Nat) : Lawful s0 (State.supplyState s new) := by
  unfold State.supplyState
  repeat (first
    | with_reducible assumption | intro _
    | with_reducible (first
      | apply ite_lawful | apply State.setF_lawful | apply State.when_lawful | apply State.raise_lawful
      | apply State.bump_lawful | apply State.forAll_lawful | apply State.diAccept_lawful | apply State.encFieldLost_lawful
      | apply State.encFieldBack_lawful | apply State.syncOuts_lawful | apply State.releasePending_lawful))

theorem execFieldSupplyChange_lawful {s0 s : State} (h0 : Lawful s0 s) (decivolts : Nat) (heldNs : Nat)
    : ∃ t, execFieldSupplyChange decivolts heldNs s = .next t ∧ Lawful s0 t := by
  unfold execFieldSupplyChange
  refine ⟨_, rfl, ?_⟩
  repeat (first
    | with_reducible (first
      | assumption | apply ite_lawful | apply State.setF_lawful | apply State.supplyState_lawful))

theorem State.doSetWrite_lawful {s0 s : State} (h0 : Lawful s0 s) (v : Word) : Lawful s0 (State.doSetWrite s v) := by
  unfold State.doSetWrite
  repeat (first
    | with_reducible (first
      | assumption | apply State.wr_lawful | apply State.bumpBy_lawful | apply State.syncOuts_lawful | apply foldl_lawful)
    | simp only [lawful_mk])

theorem execFioDoSetWrite_lawful {s0 s : State} (h0 : Lawful s0 s) (w : Writer) (v : Word)
    : ∃ t, execFioDoSetWrite w v s = .next t ∧ Lawful s0 t := by
  unfold execFioDoSetWrite
  refine ⟨_, rfl, ?_⟩
  repeat (first
    | with_reducible assumption | intro _
    | with_reducible (first
      | apply State.gate_lawful | apply State.doSetWrite_lawful))

theorem State.outFault_lawful {s0 s : State} (h0 : Lawful s0 s) (n : Nat) (b : Nat) (cnt : Nat)
    : Lawful s0 (State.outFault s n b cnt) := by
  unfold State.outFault
  repeat (first
    | intro _
    | with_reducible (first
      | apply State.setBit_lawful | apply State.raise_lawful | apply State.bump_lawful | apply State.when_lawful
      | apply State.setDout_lawful | apply State.syncOuts_lawful | apply State.releasePending_lawful)
    | apply_assumption)

theorem execOverload_lawful {s0 s : State} (h0 : Lawful s0 s) (n : Fin 32) (heldNs : Nat)
    : ∃ t, execOverload n heldNs s = .next t ∧ Lawful s0 t := by
  unfold execOverload
  refine ⟨_, rfl, ?_⟩
  repeat (first | with_reducible (first | assumption | apply ite_lawful | apply State.outFault_lawful))

theorem execOvertemp_lawful {s0 s : State} (h0 : Lawful s0 s) (n : Fin 32) (degC : Int)
    : ∃ t, execOvertemp n degC s = .next t ∧ Lawful s0 t := by
  unfold execOvertemp
  refine ⟨_, rfl, ?_⟩
  repeat (first | with_reducible (first | assumption | apply ite_lawful | apply State.outFault_lawful))

theorem State.outWarn_lawful {s0 s : State} (h0 : Lawful s0 s) (n : Nat) (b : Nat) (cnt : Nat)
    : Lawful s0 (State.outWarn s n b cnt) := by
  unfold State.outWarn
  repeat (first
    | with_reducible (first
      | assumption | apply ite_lawful | apply State.setBit_lawful | apply State.raise_lawful | apply State.bump_lawful))

theorem execOpenOn_lawful {s0 s : State} (h0 : Lawful s0 s) (n : Fin 32) (microamps : Nat) (heldNs : Nat)
    : ∃ t, execOpenOn n microamps heldNs s = .next t ∧ Lawful s0 t := by
  unfold execOpenOn
  refine ⟨_, rfl, ?_⟩
  repeat (first | with_reducible (first | assumption | apply ite_lawful | apply State.outWarn_lawful))

theorem execOpenOff_lawful {s0 s : State} (h0 : Lawful s0 s) (n : Fin 32) (millivolts : Nat) (heldNs : Nat)
    : ∃ t, execOpenOff n millivolts heldNs s = .next t ∧ Lawful s0 t := by
  unfold execOpenOff
  refine ⟨_, rfl, ?_⟩
  repeat (first | with_reducible (first | assumption | apply ite_lawful | apply State.outWarn_lawful))

theorem execStuckOn_lawful {s0 s : State} (h0 : Lawful s0 s) (n : Fin 32) (millivolts : Nat) (heldNs : Nat)
    : ∃ t, execStuckOn n millivolts heldNs s = .next t ∧ Lawful s0 t := by
  unfold execStuckOn
  refine ⟨_, rfl, ?_⟩
  repeat (first | with_reducible (first | assumption | apply ite_lawful | apply State.outWarn_lawful))

theorem execOutputWarnClear_lawful {s0 s : State} (h0 : Lawful s0 s) (n : Fin 32) (flag : OutWarn)
    : ∃ t, execOutputWarnClear n flag s = .next t ∧ Lawful s0 t := by
  unfold execOutputWarnClear
  refine ⟨_, rfl, ?_⟩
  repeat (first | with_reducible (first | assumption | apply ite_lawful | apply State.setBit_lawful))

theorem State.outRecover_lawful {s0 s : State} (h0 : Lawful s0 s) (n : Nat) : Lawful s0 (State.outRecover s n) := by
  unfold State.outRecover
  repeat (first
    | with_reducible (first
      | assumption | apply State.setBit_lawful | apply State.setDout_lawful | apply State.syncOuts_lawful))

theorem execOutputRestart_lawful {s0 s : State} (h0 : Lawful s0 s) (n : Fin 32) (degC : Int)
    : ∃ t, execOutputRestart n degC s = .next t ∧ Lawful s0 t := by
  unfold execOutputRestart
  refine ⟨_, rfl, ?_⟩
  repeat (first | with_reducible (first | assumption | apply ite_lawful | apply State.outRecover_lawful))

theorem State.doClear_lawful {s0 s : State} (h0 : Lawful s0 s) (v : Word) (hot : Word)
    : Lawful s0 (State.doClear s v hot) := by
  unfold State.doClear
  repeat (first
    | with_reducible assumption | intro _
    | with_reducible (first
      | apply ite_lawful | apply State.forAll_lawful | apply State.outRecover_lawful))

theorem execFioDoClear_lawful {s0 s : State} (h0 : Lawful s0 s) (w : Writer) (v : Word) (hot : Word)
    : ∃ t, execFioDoClear w v hot s = .next t ∧ Lawful s0 t := by
  unfold execFioDoClear
  refine ⟨_, rfl, ?_⟩
  repeat (first
    | with_reducible assumption | intro _
    | with_reducible (first
      | apply State.gate_lawful | apply State.doClear_lawful))


/-! ### Sys2Proof/Machine/Snap.lean -/

theorem execSnapinEdge_lawful {s0 s : State} (h0 : Lawful s0 s) (heldNs : Nat)
    : ∃ t, execSnapinEdge heldNs s = .next t ∧ Lawful s0 t := by
  unfold execSnapinEdge
  refine ⟨_, rfl, ?_⟩
  repeat (first | with_reducible (first | assumption | apply ite_lawful | apply State.snapFire_lawful))

theorem execSnapMatch_lawful {s0 s : State} (h0 : Lawful s0 s) (before : DWord)
    : ∃ t, execSnapMatch before s = .next t ∧ Lawful s0 t := by
  unfold execSnapMatch
  refine ⟨_, rfl, ?_⟩
  repeat (first
    | with_reducible (first
      | assumption | apply ite_lawful | apply State.snapFire_lawful)
    | simp only [lawful_mk])

theorem execFire_lawful {s0 s : State} (h0 : Lawful s0 s) (w : Writer) : ∃ t, execFire w s = .next t ∧ Lawful s0 t := by
  unfold execFire
  refine ⟨_, rfl, ?_⟩
  repeat (first
    | with_reducible assumption | intro _
    | with_reducible (first
      | apply State.gate_lawful | apply State.snapFire_lawful))

theorem State.snapArm_lawful {s0 s : State} (h0 : Lawful s0 s) : Lawful s0 (State.snapArm s) := by
  unfold State.snapArm
  repeat (first
    | with_reducible (first
      | assumption | apply ite_lawful | apply State.setF_lawful | apply State.setBit_lawful))

theorem execArm_lawful {s0 s : State} (h0 : Lawful s0 s) (w : Writer) : ∃ t, execArm w s = .next t ∧ Lawful s0 t := by
  unfold execArm
  refine ⟨_, rfl, ?_⟩
  repeat (first | with_reducible (first | assumption | apply State.gate_lawful | apply State.snapArm_lawful))

theorem execSnapshotLatchDone_lawful {s0 s : State} (h0 : Lawful s0 s)
    : ∃ t, execSnapshotLatchDone s = .next t ∧ Lawful s0 t := by
  unfold execSnapshotLatchDone
  refine ⟨_, rfl, ?_⟩
  repeat (first
    | with_reducible (first
      | assumption | apply ite_lawful | apply State.setBit_lawful | apply State.raise_lawful | apply State.setF_lawful))

theorem execSnapoutPulseEnd_lawful {s0 s : State} (h0 : Lawful s0 s)
    : ∃ t, execSnapoutPulseEnd s = .next t ∧ Lawful s0 t := by
  unfold execSnapoutPulseEnd
  refine ⟨_, rfl, ?_⟩
  repeat (first | with_reducible assumption | simp only [lawful_mk])

theorem execSnapshot_lawful {s0 s : State} (h0 : Lawful s0 s) (m : Fin 16)
    : ∃ t, execSnapshot m s = .next t ∧ Lawful s0 t := by
  unfold execSnapshot
  refine ⟨_, rfl, ?_⟩
  repeat (first
    | with_reducible assumption | intro _
    | with_reducible (first
      | apply State.command_lawful | apply State.snapFire_lawful | apply State.answer_lawful))

theorem execStateSummary_lawful {s0 s : State} (h0 : Lawful s0 s) (m : Fin 16)
    : ∃ t, execStateSummary m s = .next t ∧ Lawful s0 t := by
  unfold execStateSummary
  refine ⟨_, rfl, ?_⟩
  repeat (first
    | with_reducible assumption | intro _
    | (extract_lets +onlyGivenNames x; refine (fun (_ : Lawful s0 x) => ?_) ?_; (on_goal 1 => clear_value x); (on_goal 2 => subst x))
    | with_reducible (first
      | apply State.command_lawful | apply State.fields_lawful | apply State.snapFire_lawful | apply State.answer_lawful)
    | simp only [lawful_mk])

theorem execStateSummaryPart_lawful {s0 s : State} (h0 : Lawful s0 s) (m : Fin 16)
    : ∃ t, execStateSummaryPart m s = .next t ∧ Lawful s0 t := by
  unfold execStateSummaryPart
  refine ⟨_, rfl, ?_⟩
  repeat (first
    | with_reducible assumption | intro _
    | with_reducible (first
      | apply State.command_lawful | apply State.fields_lawful | apply State.answer_lawful)
    | split)

theorem execWatchdogTimeout_lawful {s0 s : State} (h0 : Lawful s0 s) (reason : Fin 4) (pc : DWord)
    : ∃ t, execWatchdogTimeout reason pc s = .next t ∧ Lawful s0 t := by
  unfold execWatchdogTimeout
  refine ⟨_, rfl, ?_⟩
  repeat (first
    | with_reducible (first
      | apply ite_lawful | apply State.bump_lawful | apply State.faultNew_lawful | apply State.raise_lawful)
    | simp only [lawful_mk] | apply_assumption)

theorem State.restartEnds_lawful {s0 s : State} (h0 : Lawful s0 s) : Lawful s0 (State.restartEnds s) := by
  unfold State.restartEnds
  repeat (first
    | with_reducible (first
      | assumption | apply State.noteTransient_lawful | apply State.faultWrite_lawful)
    | split | simp only [lawful_mk])

theorem execPowerInputChange_lawful {s0 s : State} (h0 : Lawful s0 s) (b : Bool) (decivolts : Nat) (heldNs : Nat)
    : ∃ t, execPowerInputChange b decivolts heldNs s = .next t ∧ Lawful s0 t := by
  unfold execPowerInputChange
  refine ⟨_, rfl, ?_⟩
  repeat (first
    | with_reducible assumption | intro _
    | with_reducible (first
      | apply State.setF_lawful | apply State.when_lawful | apply State.raise_lawful | apply State.faultNew_lawful)
    | split)


/-! ### Sys2Proof/Machine/Wt.lean -/

theorem State.cometActs_lawful {s0 s : State} (h0 : Lawful s0 s) (i : Nat) : Lawful s0 (State.cometActs s i) := by
  unfold State.cometActs
  repeat (first
    | with_reducible (first
      | assumption | apply State.ejStartEval_lawful | apply State.ejRetime_lawful | apply State.ejEndEval_lawful
      | apply State.ejMinPulse_lawful | apply State.ejCap_lawful))

theorem State.wtCycle_lawful {s0 s : State} (h0 : Lawful s0 s) : Lawful s0 (State.wtCycle s) := by
  unfold State.wtCycle
  repeat (first
    | with_reducible assumption | intro _
    | with_reducible (first
      | apply State.takeTokens_lawful | apply State.forAll_lawful | apply State.laneCreate_lawful
      | apply State.laneOverlength_lawful | apply State.commitEval_lawful | apply State.cometActs_lawful
      | apply State.retireEval_lawful | apply State.exportEval_lawful))

theorem execWtCycle_lawful {s0 s : State} (h0 : Lawful s0 s) : ∃ t, execWtCycle s = .next t ∧ Lawful s0 t := by
  unfold execWtCycle
  refine ⟨_, rfl, ?_⟩
  repeat (first | with_reducible (first | assumption | apply ite_lawful | apply State.wtCycle_lawful))

theorem execCometCreate_lawful {s0 s : State} (h0 : Lawful s0 s) (lane : Fin 32)
    : ∃ t, execCometCreate lane s = .next t ∧ Lawful s0 t := by
  unfold execCometCreate
  refine ⟨_, rfl, ?_⟩
  repeat (first | with_reducible (first | assumption | apply ite_lawful | apply State.laneCreate_lawful))

theorem execOverlength_lawful {s0 s : State} (h0 : Lawful s0 s) (lane : Fin 32)
    : ∃ t, execOverlength lane s = .next t ∧ Lawful s0 t := by
  unfold execOverlength
  refine ⟨_, rfl, ?_⟩
  repeat (first | with_reducible (first | assumption | apply ite_lawful | apply State.laneOverlength_lawful))

theorem execImageRowObserved_lawful {s0 s : State} (h0 : Lawful s0 s) (lane : Fin 32)
    : ∃ t, execImageRowObserved lane s = .next t ∧ Lawful s0 t := by
  unfold execImageRowObserved
  refine ⟨_, rfl, ?_⟩
  repeat (first
    | with_reducible assumption | extract_lets
    | with_reducible (first
      | apply State.imageRow_lawful | apply State.releaseRows_lawful)
    | split)

theorem execVerdictTokenArrival_lawful {s0 s : State} (h0 : Lawful s0 s)
    : ∃ t, execVerdictTokenArrival s = .next t ∧ Lawful s0 t := by
  unfold execVerdictTokenArrival
  refine ⟨_, rfl, ?_⟩
  repeat (first | with_reducible (first | assumption | apply ite_lawful | apply State.takeHead_lawful))

theorem execProvisionalTokenArrival_lawful {s0 s : State} (h0 : Lawful s0 s)
    : ∃ t, execProvisionalTokenArrival s = .next t ∧ Lawful s0 t := by
  unfold execProvisionalTokenArrival
  refine ⟨_, rfl, ?_⟩
  repeat (first | with_reducible (first | assumption | apply ite_lawful | apply State.takeHead_lawful))

theorem execCommit_lawful {s0 s : State} (h0 : Lawful s0 s) (comet : Fin 65536)
    : ∃ t, execCommit comet s = .next t ∧ Lawful s0 t := by
  unfold execCommit
  refine ⟨_, rfl, ?_⟩
  repeat (first | with_reducible (first | assumption | apply ite_lawful | apply State.commitEval_lawful))

theorem execRetire_lawful {s0 s : State} (h0 : Lawful s0 s) (comet : Fin 65536)
    : ∃ t, execRetire comet s = .next t ∧ Lawful s0 t := by
  unfold execRetire
  refine ⟨_, rfl, ?_⟩
  repeat (first | with_reducible (first | assumption | apply ite_lawful | apply State.retireEval_lawful))

theorem execExportRecord_lawful {s0 s : State} (h0 : Lawful s0 s) (comet : Fin 65536)
    : ∃ t, execExportRecord comet s = .next t ∧ Lawful s0 t := by
  unfold execExportRecord
  refine ⟨_, rfl, ?_⟩
  repeat (first | with_reducible (first | assumption | apply ite_lawful | apply State.exportEval_lawful))

end Sys2Proof.Machine
end

