-- ==== Sys2Proof/Laws/LawfulAccess.lean ====
section
/-!
SUPPORT. Operations are lawful (they leave the queue of commands, keep the canonical form of memory and restore no fuse):
register writes, the host link, insertion and removal, and tile instructions.
-/
namespace Sys2Proof.Machine

open Sys2Proof

/-! ### Sys2Proof/Machine/RegOps.lean -/

theorem State.candidate_lawful {s0 s : State} (h0 : Lawful s0 s) (r : RegRow) (i : Nat) (j : Nat) (k : Nat) (v : Word)
    (hi : Option Word) : Lawful s0 (State.candidate s r i j k v hi) := by
  unfold State.candidate
  repeat (first | with_reducible (first | assumption | apply State.wr_lawful) | split)

theorem State.pipeSwitched_lawful {s0 s : State} (h0 : Lawful s0 s) (p : Nat) (was : Word)
    : Lawful s0 (State.pipeSwitched s p was) := by
  unfold State.pipeSwitched
  repeat (first
    | with_reducible assumption | intro _
    | with_reducible (first
      | apply ite_lawful | apply State.forAll_lawful | apply State.setIspCtx_lawful | apply State.updCam_lawful
      | apply State.camRelease_lawful | apply State.setStream_lawful))

theorem State.lanesSwitched_lawful {s0 s : State} (h0 : Lawful s0 s) (old : State)
    : Lawful s0 (State.lanesSwitched s old) := by
  unfold State.lanesSwitched
  repeat (first
    | with_reducible assumption | intro _
    | with_reducible (first
      | apply ite_lawful | apply State.forAll_lawful | apply State.laneSwitched_lawful))

theorem State.macSwitched_lawful {s0 s : State} (h0 : Lawful s0 s) (m : Nat) (was : Word)
    : Lawful s0 (State.macSwitched s m was) := by
  unfold State.macSwitched
  repeat (first
    | with_reducible assumption | intro _
    | with_reducible (first
      | apply State.macDown_lawful | apply State.when_lawful | apply State.forAll_lawful | apply State.laneFree_lawful
      | apply State.macClaim_lawful))

theorem State.fabSwitched_lawful {s0 s : State} (h0 : Lawful s0 s) (j : Nat) (was : Word)
    : Lawful s0 (State.fabSwitched s j was) := by
  unfold State.fabSwitched
  repeat (first
    | with_reducible assumption | intro _
    | with_reducible (first
      | apply ite_lawful | apply State.fabClaim_lawful | apply State.fabFree_lawful | apply State.forAll_lawful
      | apply State.setF_lawful | apply State.fabLinkReset_lawful))

theorem State.laneCfgWritten_lawful {s0 s : State} (h0 : Lawful s0 s) (l : Nat) : Lawful s0 (State.laneCfgWritten s l) := by
  unfold State.laneCfgWritten
  repeat (first
    | with_reducible assumption | intro _
    | with_reducible (first
      | apply ite_lawful | apply State.when_lawful | apply State.macDown_lawful | apply State.laneFollow_lawful))

theorem State.queueCfgWritten_lawful {s0 s : State} (h0 : Lawful s0 s) (q : Nat) (was : Word)
    : Lawful s0 (State.queueCfgWritten s q was) := by
  unfold State.queueCfgWritten
  repeat (first
    | with_reducible (first
      | assumption | apply ite_lawful | apply State.makeQueue_lawful | apply State.wr_lawful | apply State.dropQueue_lawful
      | apply State.putQueue_lawful))

theorem State.regEffect_lawful {s0 s : State} (h0 : Lawful s0 s) (old : State) (r : RegRow) (i : Nat) (j : Nat)
    : Lawful s0 (State.regEffect s old r i j) := by
  unfold State.regEffect
  repeat (first
    | with_reducible assumption | intro _
    | with_reducible (first
      | apply ite_lawful | apply State.when_lawful | apply State.camGrid_lawful | apply State.camOcc_lawful
      | apply State.pipeSwitched_lawful | apply State.decDisable_lawful | apply State.lanesSwitched_lawful
      | apply State.laneSwitched_lawful | apply State.bankArp_lawful | apply State.syncOuts_lawful
      | apply State.setBit_lawful | apply State.laneCfgWritten_lawful | apply State.macSwitched_lawful
      | apply State.fabSwitched_lawful | apply State.wr_lawful | apply State.ptpCfgWrite_lawful
      | apply State.queueCfgWritten_lawful)
    | simp only [lawful_mk])

theorem State.regAccept_lawful {s0 s : State} (h0 : Lawful s0 s) (r : RegRow) (i : Nat) (j : Nat) (k : Nat) (v : Word)
    (hi : Option Word) : Lawful s0 (State.regAccept s r i j k v hi) := by
  unfold State.regAccept
  repeat (first
    | with_reducible (first
      | assumption | apply ite_lawful | apply State.candidate_lawful | apply State.regEffect_lawful
      | apply State.syncLoads_lawful | apply State.checkedAt_lawful))

theorem State.regDecide_lawful {s0 s : State} (h0 : Lawful s0 s) (r : RegRow) (i : Nat) (j : Nat) (k : Nat) (v : Word)
    (hi : Option Word) : Lawful s0 (State.regDecide s r i j k v hi) := by
  unfold State.regDecide
  repeat (first
    | with_reducible (first
      | assumption | apply State.candidate_lawful | apply State.refuse_lawful | apply State.regAccept_lawful)
    | split)

theorem State.plainWrite_lawful {s0 s : State} (h0 : Lawful s0 s) (w : Writer) (r : RegRow) (i j k : Nat) (v : Word) :
    Lawful s0 (State.plainWrite s w r i j k v) := by
  refine State.gate_lawful h0 _ _ _ _ _ (fun s hs => ?_)
  dsimp only
  split
  · exact ite_lawful hs (lawful_of hs rfl rfl rfl)
  · refine ite_lawful (lawful_of hs rfl rfl rfl) ?_
    split
    · exact State.refuse_lawful hs _ _
    · exact lawful_of (State.regAccept_lawful hs r i j k v _) rfl rfl rfl

theorem State.offsetHighWrite_lawful {s0 s : State} (h0 : Lawful s0 s) (w : Writer) (v : Word)
    : Lawful s0 (State.offsetHighWrite s w v) := by
  unfold State.offsetHighWrite
  repeat (first
    | with_reducible assumption | intro _
    | with_reducible (first
      | apply State.gate_lawful | apply State.timeHost_lawful)
    | simp only [lawful_mk])

theorem State.portCfgAccept_lawful {s0 s : State} (h0 : Lawful s0 s) (n : Nat) (v : Word)
    : Lawful s0 (State.portCfgAccept s n v) := by
  unfold State.portCfgAccept
  repeat (first
    | with_reducible (first
      | assumption | apply ite_lawful | apply State.setBit_lawful | apply State.camDisable_lawful | apply State.wr_lawful
      | apply State.camEnable_lawful | apply State.syncLoads_lawful | apply State.checkedAt_lawful))

theorem State.portCfgWrite_lawful {s0 s : State} (h0 : Lawful s0 s) (w : Writer) (n : Nat) (v : Word)
    : Lawful s0 (State.portCfgWrite s w n v) := by
  unfold State.portCfgWrite
  repeat (first
    | with_reducible assumption | intro _
    | with_reducible (first
      | apply State.gate_lawful | apply State.candidate_lawful | apply State.refuse_lawful
      | apply State.portCfgAccept_lawful)
    | split)

theorem State.ringBell_lawful {s0 s : State} (h0 : Lawful s0 s) (m : Nat) : Lawful s0 (State.ringBell s m) := by
  unfold State.ringBell
  repeat (first
    | with_reducible (first
      | apply ite_lawful | apply State.bump_lawful | apply State.setMb_lawful | apply State.qOffer_lawful)
    | apply_assumption)

theorem State.fnWrite_lawful {s0 s : State} (h0 : Lawful s0 s) (r : RegRow) (i : Nat) (j : Nat) (k : Nat) (v : Word)
    : Lawful s0 (State.fnWrite s r i j k v) := by
  unfold State.fnWrite
  repeat (first
    | with_reducible (first
      | assumption | apply ite_lawful | apply State.ringBell_lawful | apply State.wr_lawful))

theorem State.encCmd_lawful {s0 s : State} (h0 : Lawful s0 s) (n : Nat) (v : Word) : Lawful s0 (State.encCmd s n v) := by
  unfold State.encCmd
  repeat (first
    | with_reducible assumption | intro _
    | with_reducible (first
      | apply State.when_lawful | apply State.encPreset_lawful | apply State.encFaultClear_lawful))

theorem State.snapCmd_lawful {s0 s : State} (h0 : Lawful s0 s) (v : Word) : Lawful s0 (State.snapCmd s v) := by
  unfold State.snapCmd
  repeat (first
    | with_reducible assumption | intro _
    | with_reducible (first
      | apply State.when_lawful | apply State.snapArm_lawful | apply State.snapFire_lawful))

theorem State.memCmd_lawful {s0 s : State} (h0 : Lawful s0 s) (a : Nat) (v : Word) : Lawful s0 (State.memCmd s a v) := by
  unfold State.memCmd
  repeat (first
    | with_reducible assumption | intro _
    | with_reducible (first
      | apply ite_lawful | apply State.xltResume_lawful | apply State.xltInvalAll_lawful | apply State.xltInval_lawful
      | apply State.when_lawful | apply State.migStart_lawful | apply State.rewriteSector_lawful
      | apply State.injectArm_lawful))

theorem State.writeElem_lawful {s0 s : State} (h0 : Lawful s0 s) (w : Writer) (r : RegRow) (i : Nat) (j : Nat) (k : Nat)
    (v : Word) : Lawful s0 (State.writeElem s w r i j k v) := by
  unfold State.writeElem
  repeat (first
    | with_reducible assumption | intro _
    | with_reducible (first
      | apply ite_lawful | apply State.gate_lawful | apply State.encCfgWrite_lawful | apply State.encCmd_lawful
      | apply State.portCfgWrite_lawful | apply State.when_lawful | apply State.applyWrite_lawful
      | apply State.engineReset_lawful | apply State.clientClearWrite_lawful | apply State.popWrite_lawful
      | apply State.doSetWrite_lawful | apply State.doClear_lawful | apply State.linkResetWrite_lawful
      | apply State.prbsWrite_lawful | apply State.injectWrite_lawful | apply State.writeTimeRate_lawful
      | apply State.writeTimeOffset_lawful | apply State.offsetHighWrite_lawful | apply State.writeTimeAdj_lawful
      | apply State.snapCmd_lawful | apply State.memCmd_lawful | apply State.plainWrite_lawful))

theorem State.writeAt_lawful {s0 s : State} (h0 : Lawful s0 s) (w : Writer) (a : Nat) (v : Word)
    : Lawful s0 (State.writeAt s w a v) := by
  unfold State.writeAt
  repeat (first
    | with_reducible (first
      | assumption | apply State.fnWrite_lawful | apply State.writeElem_lawful | apply State.unmapped_lawful)
    | split)

theorem State.readElem_lawful {s0 s : State} (h0 : Lawful s0 s) (r : RegRow) (i : Nat) (j : Nat) (k : Nat)
    : Lawful s0 (State.readElem s r i j k) := by
  unfold State.readElem
  repeat (first
    | with_reducible assumption
    | (extract_lets +onlyGivenNames x; refine (fun (_ : Lawful s0 x) => ?_) ?_; (on_goal 1 => clear_value x); (on_goal 2 => subst x))
    | with_reducible apply State.wr_lawful | split | simp only [lawful_mk])

theorem State.readAt_lawful {s0 s : State} (h0 : Lawful s0 s) (a : Nat) : Lawful s0 (State.readAt s a).2 := by
  unfold State.readAt
  split
  · exact h0
  · split
    · split
      · exact State.readElem_lawful h0 _ _ _ _
      · exact State.unmapped_lawful h0
    · exact ite_lawful (State.unmapped_lawful h0) h0


/-! ### Sys2Proof/Machine/Host.lean -/

theorem execDoorbell_lawful {s0 s : State} (h0 : Lawful s0 s) (m : Fin 16)
    : ∃ t, execDoorbell m s = .next t ∧ Lawful s0 t := by
  unfold execDoorbell
  refine ⟨_, rfl, ?_⟩
  repeat (first | with_reducible (first | assumption | apply State.ringBell_lawful))

theorem execMailboxWrite_lawful {s0 s : State} (h0 : Lawful s0 s) (m : Fin 16) (offset : Fin 4096) (data : List Byte)
    : ∃ t, execMailboxWrite m offset data s = .next t ∧ Lawful s0 t := by
  unfold execMailboxWrite
  refine ⟨_, rfl, ?_⟩
  repeat (first
    | with_reducible (first
      | assumption | apply ite_lawful | apply State.bump_lawful | apply State.putMail_lawful))

theorem State.bulkAppend_lawful {s0 s : State} (h0 : Lawful s0 s) (data : List Byte)
    : Lawful s0 (State.bulkAppend s data) := by
  unfold State.bulkAppend
  repeat (first
    | with_reducible (first
      | apply State.wr64_lawful | apply State.bumpBy_lawful)
    | split | apply_assumption)

theorem execBulkWrite_lawful {s0 s : State} (h0 : Lawful s0 s) (data : List Byte) (crcOk : Bool)
    : ∃ t, execBulkWrite data crcOk s = .next t ∧ Lawful s0 t := by
  unfold execBulkWrite
  refine ⟨_, rfl, ?_⟩
  repeat (first | with_reducible (first | assumption | apply ite_lawful | apply State.bulkAppend_lawful))

theorem execApertureByteAccess_lawful {s0 s : State} (h0 : Lawful s0 s) (offset : Fin 65536) (write : Bool) (v : Byte)
    : ∃ t, execApertureByteAccess offset write v s = .next t ∧ Lawful s0 t := by
  unfold execApertureByteAccess
  refine ⟨_, rfl, ?_⟩
  repeat (first
    | with_reducible assumption
    | (extract_lets +onlyGivenNames x; refine (fun (_ : Lawful s0 x) => ?_) ?_; (on_goal 1 => clear_value x); (on_goal 2 => subst x))
    | with_reducible (first
      | apply ite_lawful | apply State.writeAt_lawful | apply State.readAt_lawful)
    | simp only [lawful_mk])

theorem State.exportRead_lawful {s0 s : State} (h0 : Lawful s0 s) (bytes : Nat) : Lawful s0 (State.exportRead s bytes) := by
  unfold State.exportRead
  repeat (first
    | with_reducible assumption | intro _ | extract_lets
    | with_reducible (first
      | apply ite_lawful | apply State.setBit_lawful | apply State.ringReads_lawful | apply State.qRelease_lawful
      | apply State.flushQueues_lawful)
    | split | simp only [lawful_mk] | dsimp only | apply_assumption)

theorem execExportRead_lawful {s0 s : State} (h0 : Lawful s0 s) (bytes : Nat)
    : ∃ t, execExportRead bytes s = .next t ∧ Lawful s0 t := by
  unfold execExportRead
  refine ⟨_, rfl, ?_⟩
  repeat (first | with_reducible (first | assumption | apply ite_lawful | apply State.exportRead_lawful))

theorem execReread_lawful {s0 s : State} (h0 : Lawful s0 s) : ∃ t, execReread s = .next t ∧ Lawful s0 t := by
  unfold execReread
  refine ⟨_, rfl, ?_⟩
  repeat (first | with_reducible (first | assumption | apply ite_lawful | apply State.setBit_lawful))

theorem execSdioReset_lawful {s0 s : State} (h0 : Lawful s0 s) (_res : Bool)
    : ∃ t, execSdioReset _res s = .next t ∧ Lawful s0 t := by
  unfold execSdioReset
  refine ⟨_, rfl, ?_⟩
  repeat (first | with_reducible (first | assumption | apply ite_lawful) | simp only [lawful_mk])


/-! ### Sys2Proof/Machine/Plug.lean -/

theorem execSeated_lawful {s0 s : State} (h0 : Lawful s0 s) (heldNs : Nat)
    : ∃ t, execSeated heldNs s = .next t ∧ Lawful s0 t := by
  unfold execSeated
  refine ⟨_, rfl, ?_⟩
  repeat (first
    | with_reducible assumption
    | (extract_lets +onlyGivenNames x; refine (fun (_ : Lawful s0 x) => ?_) ?_; (on_goal 1 => clear_value x); (on_goal 2 => subst x))
    | with_reducible (first
      | apply ite_lawful | apply State.powerLost_lawful | apply State.wr_lawful)
    | simp only [lawful_mk])

theorem execIoEnable_lawful {s0 s : State} (h0 : Lawful s0 s) (fn : Fin 4)
    : ∃ t, execIoEnable fn s = .next t ∧ Lawful s0 t := by
  unfold execIoEnable
  refine ⟨_, rfl, ?_⟩
  repeat (first | with_reducible (first | apply ite_lawful | apply State.startBoot_lawful) | apply_assumption)

theorem execCdDisable_lawful {s0 s : State} (h0 : Lawful s0 s) : ∃ t, execCdDisable s = .next t ∧ Lawful s0 t := by
  unfold execCdDisable
  refine ⟨_, rfl, ?_⟩
  repeat (first | with_reducible (first | assumption | apply ite_lawful) | simp only [lawful_mk])

theorem State.firmwareSetup_lawful {s0 s : State} (h0 : Lawful s0 s) : Lawful s0 (State.firmwareSetup s) := by
  unfold State.firmwareSetup
  repeat (first
    | with_reducible assumption | intro _
    | with_reducible (first
      | apply State.wr_lawful | apply State.forAll_lawful | apply State.when_lawful | apply State.wr64_lawful
      | apply State.setF_lawful))

theorem State.bootMarker_lawful {s0 s : State} (h0 : Lawful s0 s) : Lawful s0 (State.bootMarker s) := by
  unfold State.bootMarker
  repeat (first
    | with_reducible assumption | intro _
    | with_reducible (first
      | apply State.when_lawful | apply State.bumpPlug_lawful)
    | simp only [lawful_mk])

theorem execFirmwareReady_lawful {s0 s : State} (h0 : Lawful s0 s) : ∃ t, execFirmwareReady s = .next t ∧ Lawful s0 t := by
  unfold execFirmwareReady
  refine ⟨_, rfl, ?_⟩
  repeat (first
    | with_reducible (first
      | assumption | apply ite_lawful | apply State.firmwareSetup_lawful | apply State.makeFixedQueues_lawful
      | apply State.bootMarker_lawful | apply State.syncFree_lawful | apply State.syncSpare_lawful
      | apply State.raise_lawful)
    | simp only [lawful_mk])

theorem execMrst_lawful {s0 s : State} (h0 : Lawful s0 s) (heldNs : Nat)
    : ∃ t, execMrst heldNs s = .next t ∧ Lawful s0 t := by
  unfold execMrst
  refine ⟨_, rfl, ?_⟩
  repeat (first
    | with_reducible (first
      | assumption | apply ite_lawful | apply State.draw_lawful | apply State.resetModule_lawful | apply State.setBit_lawful)
    | simp only [lawful_mk])

theorem execMrstRelease_lawful {s0 s : State} (h0 : Lawful s0 s) : ∃ t, execMrstRelease s = .next t ∧ Lawful s0 t := by
  unfold execMrstRelease
  refine ⟨_, rfl, ?_⟩
  repeat (first
    | with_reducible (first
      | apply ite_lawful | apply State.setBit_lawful | apply State.startBoot_lawful)
    | apply_assumption)

theorem execModuleReset_lawful {s0 s : State} (h0 : Lawful s0 s) (m : Fin 16)
    : ∃ t, execModuleReset m s = .next t ∧ Lawful s0 t := by
  unfold execModuleReset
  refine ⟨_, rfl, ?_⟩
  repeat (first
    | with_reducible assumption | intro _
    | with_reducible (first
      | apply State.command_lawful | apply State.fields_lawful | apply State.answer_lawful | apply State.resetModule_lawful
      | apply State.startBoot_lawful))

theorem execOrderlyRemove_lawful {s0 s : State} (h0 : Lawful s0 s) (m : Fin 16)
    : ∃ t, execOrderlyRemove m s = .next t ∧ Lawful s0 t := by
  unfold execOrderlyRemove
  refine ⟨_, rfl, ?_⟩
  repeat (first
    | intro _
    | with_reducible (first
      | apply State.command_lawful | apply State.answer_lawful | apply State.outputsOff_lawful | apply State.bumpPlug_lawful
      | apply State.blank_lawful)
    | split | simp only [lawful_mk] | dsimp only | apply_assumption)

theorem execEmergencyQuiesce_lawful {s0 s : State} (h0 : Lawful s0 s) (pin : Fin 2) (heldNs : Nat)
    : ∃ t, execEmergencyQuiesce pin heldNs s = .next t ∧ Lawful s0 t := by
  unfold execEmergencyQuiesce
  refine ⟨_, rfl, ?_⟩
  repeat (first
    | (extract_lets +onlyGivenNames x; refine (fun (_ : Lawful s0 x) => ?_) ?_; (on_goal 1 => clear_value x); (on_goal 2 => subst x))
    | (extract_lets +onlyGivenNames x; refine (fun (_ : Lawful s0 x.1) => ?_) ?_; (on_goal 1 => clear_value x); (on_goal 2 => subst x))
    | (extract_lets +onlyGivenNames x; refine (fun (_ : Lawful s0 x.2) => ?_) ?_; (on_goal 1 => clear_value x); (on_goal 2 => subst x))
    | (extract_lets +onlyGivenNames x; refine (fun (_ : ∀ t, Lawful s0 t → Lawful s0 (x t)) => ?_) ?_; (on_goal 1 => clear_value x); (on_goal 2 => subst x))
    | (extract_lets +onlyGivenNames x; refine (fun (_ : ∀ a t, Lawful s0 t → Lawful s0 (x a t)) => ?_) ?_; (on_goal 1 => clear_value x); (on_goal 2 => subst x))
    | (extract_lets +onlyGivenNames x; refine (fun (_ : ∀ t a, Lawful s0 t → Lawful s0 (x t a)) => ?_) ?_; (on_goal 1 => clear_value x); (on_goal 2 => subst x))
    | (extract_lets +onlyGivenNames x; refine (fun (_ : ∀ t, Lawful s0 t → Lawful s0 (x t).1) => ?_) ?_; (on_goal 1 => clear_value x); (on_goal 2 => subst x))
    | with_reducible (first
      | apply ite_lawful | apply State.powerLost_lawful | apply State.wr_lawful)
    | dsimp only | apply_assumption)

theorem execBusUndervoltage_lawful {s0 s : State} (h0 : Lawful s0 s) (decivolts : Nat)
    : ∃ t, execBusUndervoltage decivolts s = .next t ∧ Lawful s0 t := by
  unfold execBusUndervoltage
  refine ⟨_, rfl, ?_⟩
  repeat (first
    | with_reducible (first
      | apply ite_lawful | apply State.powerLost_lawful)
    | simp only [lawful_mk] | dsimp only | apply_assumption)

theorem State.busyAgain_lawful {s0 s : State} (h0 : Lawful s0 s) : Lawful s0 (State.busyAgain s) := by
  unfold State.busyAgain
  repeat (first
    | with_reducible assumption | intro _
    | with_reducible (first
      | apply State.forAll_lawful | apply State.mailReply_lawful | apply State.bump_lawful | apply State.setMb_lawful)
    | split)

theorem execWarmRestartDone_lawful {s0 s : State} (h0 : Lawful s0 s) (copiesLost : Bool)
    : ∃ t, execWarmRestartDone copiesLost s = .next t ∧ Lawful s0 t := by
  unfold execWarmRestartDone
  refine ⟨_, rfl, ?_⟩
  repeat (first
    | (extract_lets +onlyGivenNames x; refine (fun (_ : Lawful s0 x) => ?_) ?_; (on_goal 1 => clear_value x); (on_goal 2 => subst x))
    | (extract_lets +onlyGivenNames x; refine (fun (_ : Lawful s0 x.1) => ?_) ?_; (on_goal 1 => clear_value x); (on_goal 2 => subst x))
    | (extract_lets +onlyGivenNames x; refine (fun (_ : Lawful s0 x.2) => ?_) ?_; (on_goal 1 => clear_value x); (on_goal 2 => subst x))
    | (extract_lets +onlyGivenNames x; refine (fun (_ : ∀ t, Lawful s0 t → Lawful s0 (x t)) => ?_) ?_; (on_goal 1 => clear_value x); (on_goal 2 => subst x))
    | (extract_lets +onlyGivenNames x; refine (fun (_ : ∀ a t, Lawful s0 t → Lawful s0 (x a t)) => ?_) ?_; (on_goal 1 => clear_value x); (on_goal 2 => subst x))
    | (extract_lets +onlyGivenNames x; refine (fun (_ : ∀ t a, Lawful s0 t → Lawful s0 (x t a)) => ?_) ?_; (on_goal 1 => clear_value x); (on_goal 2 => subst x))
    | (extract_lets +onlyGivenNames x; refine (fun (_ : ∀ t, Lawful s0 t → Lawful s0 (x t).1) => ?_) ?_; (on_goal 1 => clear_value x); (on_goal 2 => subst x))
    | with_reducible (first
      | apply ite_lawful | apply State.restartEnds_lawful | apply State.secBoot_lawful | apply State.setBit_lawful
      | apply State.setF_lawful | apply State.raise_lawful | apply State.busyAgain_lawful)
    | dsimp only | apply_assumption)

theorem State.cageDark_lawful {s0 s : State} (h0 : Lawful s0 s) (k : Nat) : Lawful s0 (State.cageDark s k) := by
  unfold State.cageDark
  repeat (first
    | with_reducible assumption | intro _
    | with_reducible (first
      | apply State.forAll_lawful | apply State.lockLost_lawful))

theorem execCageInsert_lawful {s0 s : State} (h0 : Lawful s0 s) (k : Fin 4) (cls : Fin 16)
    : ∃ t, execCageInsert k cls s = .next t ∧ Lawful s0 t := by
  unfold execCageInsert
  refine ⟨_, rfl, ?_⟩
  repeat (first
    | with_reducible assumption | intro _
    | with_reducible (first
      | apply ite_lawful | apply State.wr_lawful | apply State.raise_lawful | apply State.when_lawful))

theorem execCageRemove_lawful {s0 s : State} (h0 : Lawful s0 s) (k : Fin 4)
    : ∃ t, execCageRemove k s = .next t ∧ Lawful s0 t := by
  unfold execCageRemove
  refine ⟨_, rfl, ?_⟩
  repeat (first
    | with_reducible (first
      | assumption | apply ite_lawful | apply State.wr_lawful | apply State.raise_lawful | apply State.cageDark_lawful))

theorem execCagePowerFault_lawful {s0 s : State} (h0 : Lawful s0 s) (k : Fin 4) (heldNs : Nat)
    : ∃ t, execCagePowerFault k heldNs s = .next t ∧ Lawful s0 t := by
  unfold execCagePowerFault
  refine ⟨_, rfl, ?_⟩
  repeat (first
    | with_reducible (first
      | assumption | apply ite_lawful | apply State.setBit_lawful | apply State.raise_lawful | apply State.cageDark_lawful))

theorem execCageInterrupt_lawful {s0 s : State} (h0 : Lawful s0 s) (k : Fin 4)
    : ∃ t, execCageInterrupt k s = .next t ∧ Lawful s0 t := by
  unfold execCageInterrupt
  refine ⟨_, rfl, ?_⟩
  repeat (first
    | with_reducible (first
      | assumption | apply ite_lawful | apply State.setBit_lawful | apply State.raise_lawful))


/-! ### Sys2Proof/Machine/RegWrite.lean -/

theorem execRegisterWrite_lawful {s0 s : State} (h0 : Lawful s0 s) (w : Writer) (addr : Nat) (v : Word)
    : ∃ t, execRegisterWrite w addr v s = .next t ∧ Lawful s0 t := by
  unfold execRegisterWrite
  refine ⟨_, rfl, ?_⟩
  repeat (first | with_reducible (first | assumption | apply State.writeAt_lawful))

theorem execCheckedWriteDecided_lawful {s0 s : State} (h0 : Lawful s0 s)
    : ∃ t, execCheckedWriteDecided s = .next t ∧ Lawful s0 t := by
  unfold execCheckedWriteDecided
  refine ⟨_, rfl, ?_⟩
  repeat (first | extract_lets | with_reducible apply State.regDecide_lawful | split | apply_assumption)

theorem execPairHiWrite_lawful {s0 s : State} (h0 : Lawful s0 s) (w : Writer) (addr : Nat) (v : Word)
    : ∃ t, execPairHiWrite w addr v s = .next t ∧ Lawful s0 t := by
  unfold execPairHiWrite
  refine ⟨_, rfl, ?_⟩
  repeat (first | with_reducible (first | assumption | apply State.writeElem_lawful) | split)

theorem execPairLoRead_lawful {s0 s : State} (h0 : Lawful s0 s) (addr : Nat)
    : ∃ t, execPairLoRead addr s = .next t ∧ Lawful s0 t := by
  unfold execPairLoRead
  refine ⟨_, rfl, ?_⟩
  repeat (first | with_reducible (first | assumption | apply State.readAt_lawful) | split)

theorem execRcRead_lawful {s0 s : State} (h0 : Lawful s0 s) (addr : Nat)
    : ∃ t, execRcRead addr s = .next t ∧ Lawful s0 t := by
  unfold execRcRead
  refine ⟨_, rfl, ?_⟩
  repeat (first | with_reducible (first | assumption | apply State.readAt_lawful) | split)

theorem execUnmappedAccess_lawful {s0 s : State} (h0 : Lawful s0 s) (addr : Nat) (write : Bool)
    : ∃ t, execUnmappedAccess addr write s = .next t ∧ Lawful s0 t := by
  unfold execUnmappedAccess
  refine ⟨_, rfl, ?_⟩
  repeat (first
    | with_reducible (first
      | assumption | apply ite_lawful | apply State.unmapped_lawful | apply State.readAt_lawful))

theorem execCamPortCfgWrite_lawful {s0 s : State} (h0 : Lawful s0 s) (w : Writer) (n : Fin 8) (v : Word)
    : ∃ t, execCamPortCfgWrite w n v s = .next t ∧ Lawful s0 t := by
  unfold execCamPortCfgWrite
  refine ⟨_, rfl, ?_⟩
  repeat (first | with_reducible (first | assumption | apply State.portCfgWrite_lawful))

theorem execTrigGridWrite_lawful {s0 s : State} (h0 : Lawful s0 s) (w : Writer) (n : Fin 8) (phase : Bool) (v : Word)
    : ∃ t, execTrigGridWrite w n phase v s = .next t ∧ Lawful s0 t := by
  unfold execTrigGridWrite
  refine ⟨_, rfl, ?_⟩
  repeat (first | with_reducible (first | assumption | apply State.plainWrite_lawful))


/-! ### Sys2Proof/Machine/Tile.lean -/

theorem execTileNop_lawful {s0 s : State} (h0 : Lawful s0 s) (e : Fin 42)
    : ∃ t, execTileNop e s = .next t ∧ Lawful s0 t := by
  unfold execTileNop
  refine ⟨_, rfl, ?_⟩
  repeat (first
    | with_reducible assumption | intro _
    | with_reducible (first
      | apply State.onTurn_lawful | apply State.putTile_lawful))

theorem execWaitRows_lawful {s0 s : State} (h0 : Lawful s0 s) (e : Fin 42)
    : ∃ t, execWaitRows e s = .next t ∧ Lawful s0 t := by
  unfold execWaitRows
  refine ⟨_, rfl, ?_⟩
  repeat (first
    | with_reducible assumption | intro _
    | with_reducible (first
      | apply ite_lawful | apply State.onTurn_lawful | apply State.putTile_lawful))

theorem State.inheritPrio_lawful {s0 s : State} (h0 : Lawful s0 s) (prio : Nat) (x0 : Nat) (x1 : List Nat)
    : Lawful s0 (State.inheritPrio s prio x0 x1) := by
  induction x0 generalizing s x1 <;> unfold State.inheritPrio <;> repeat (first
    | intro _
    | with_reducible (first
      | apply ite_lawful | apply State.saved_lawful | apply State.forAll_lawful | apply State.setCtx_lawful
      | apply foldl_lawful | apply_assumption))

theorem State.countReversal_lawful {s0 s : State} (h0 : Lawful s0 s) (h : Nat) (sems : List Nat)
    : Lawful s0 (State.countReversal s h sems) := by
  unfold State.countReversal
  repeat (first
    | with_reducible assumption | intro _
    | with_reducible (first
      | apply ite_lawful | apply State.saved_lawful | apply State.clientCnt_lawful | apply State.raise_lawful
      | apply foldl_lawful))

theorem State.semAcquire_lawful {s0 s : State} (h0 : Lawful s0 s) (e : Nat) (t : TileRun) (i : TileInstr)
    : Lawful s0 (State.semAcquire s e t i) := by
  unfold State.semAcquire
  repeat (first
    | with_reducible (first
      | apply ite_lawful | apply State.putTile_lawful | apply State.setTileCtx_lawful | apply State.inheritPrio_lawful
      | apply State.countReversal_lawful | apply State.putEngine_lawful | apply State.syncJobs_lawful | apply foldl_lawful)
    | apply_assumption)

theorem execSemAcquire_lawful {s0 s : State} (h0 : Lawful s0 s) (e : Fin 42)
    : ∃ t, execSemAcquire e s = .next t ∧ Lawful s0 t := by
  unfold execSemAcquire
  refine ⟨_, rfl, ?_⟩
  repeat (first
    | with_reducible assumption | intro _
    | with_reducible (first
      | apply State.onTurn_lawful | apply State.semAcquire_lawful))

theorem execSemRelease_lawful {s0 s : State} (h0 : Lawful s0 s) (e : Fin 42)
    : ∃ t, execSemRelease e s = .next t ∧ Lawful s0 t := by
  unfold execSemRelease
  refine ⟨_, rfl, ?_⟩
  repeat (first
    | with_reducible assumption | intro _
    | with_reducible (first
      | apply State.onTurn_lawful | apply State.putTile_lawful))

theorem State.passBarrier_lawful {s0 s : State} (h0 : Lawful s0 s) (h : Nat) (b : Nat)
    : Lawful s0 (State.passBarrier s h b) := by
  unfold State.passBarrier
  repeat (first
    | with_reducible assumption | intro _
    | with_reducible (first
      | apply State.forAll_lawful | apply State.putTile_lawful)
    | split)

theorem State.barrier_lawful {s0 s : State} (h0 : Lawful s0 s) (t : TileRun) (i : TileInstr)
    : Lawful s0 (State.barrier s t i) := by
  unfold State.barrier
  repeat (first
    | with_reducible (first
      | apply ite_lawful | apply State.passBarrier_lawful)
    | simp only [lawful_mk] | dsimp only | apply_assumption)

theorem execBarrier_lawful {s0 s : State} (h0 : Lawful s0 s) (e : Fin 42)
    : ∃ t, execBarrier e s = .next t ∧ Lawful s0 t := by
  unfold execBarrier
  refine ⟨_, rfl, ?_⟩
  repeat (first
    | with_reducible assumption | intro _
    | with_reducible (first
      | apply State.onTurn_lawful | apply State.barrier_lawful))

theorem execRemoteSend_lawful {s0 s : State} (h0 : Lawful s0 s) (e : Fin 42)
    : ∃ t, execRemoteSend e s = .next t ∧ Lawful s0 t := by
  unfold execRemoteSend
  refine ⟨_, rfl, ?_⟩
  repeat (first
    | with_reducible assumption | intro _
    | with_reducible (first
      | apply State.onTurn_lawful | apply State.putTile_lawful))

theorem State.remoteWait_lawful {s0 s : State} (h0 : Lawful s0 s) (e : Nat) (t : TileRun) (i : TileInstr)
    : Lawful s0 (State.remoteWait s e t i) := by
  unfold State.remoteWait
  repeat (first
    | with_reducible (first
      | assumption | apply ite_lawful | apply State.setTileCtx_lawful | apply State.putTile_lawful
      | apply State.putEngine_lawful))

theorem execRemoteWait_lawful {s0 s : State} (h0 : Lawful s0 s) (e : Fin 42)
    : ∃ t, execRemoteWait e s = .next t ∧ Lawful s0 t := by
  unfold execRemoteWait
  refine ⟨_, rfl, ?_⟩
  repeat (first
    | with_reducible assumption | intro _
    | with_reducible (first
      | apply State.onTurn_lawful | apply State.remoteWait_lawful))

theorem State.readIndices_lawful {s0 s : State} (h0 : Lawful s0 s) (e : Nat) (t : TileRun) (n : Nat) (x0 : List Nat)
    : Lawful s0 (State.readIndices s e t n x0).1 := by
  induction x0 generalizing s <;> unfold State.readIndices <;> repeat (first
    | with_reducible (first
      | apply State.readRow_lawful | apply State.dmaFail_lawful | apply_assumption)
    | refine fst_lawful (by assumption) ?_ | split)

theorem State.verdictStep_lawful {s0 s : State} (h0 : Lawful s0 s) (e : Nat) (t : TileRun) (i : TileInstr) (prov : Bool)
    : Lawful s0 (State.verdictStep s e t i prov) := by
  unfold State.verdictStep
  repeat (first
    | with_reducible (first
      | assumption | apply State.readIndices_lawful | apply State.putTile_lawful)
    | refine fst_lawful (by assumption) ?_ | split)

theorem execVerdict_lawful {s0 s : State} (h0 : Lawful s0 s) (e : Fin 42)
    : ∃ t, execVerdict e s = .next t ∧ Lawful s0 t := by
  unfold execVerdict
  refine ⟨_, rfl, ?_⟩
  repeat (first
    | with_reducible assumption | intro _
    | with_reducible (first
      | apply State.onTurn_lawful | apply State.verdictStep_lawful))

theorem execProvisional_lawful {s0 s : State} (h0 : Lawful s0 s) (e : Fin 42)
    : ∃ t, execProvisional e s = .next t ∧ Lawful s0 t := by
  unfold execProvisional
  refine ⟨_, rfl, ?_⟩
  repeat (first
    | with_reducible assumption | intro _
    | with_reducible (first
      | apply State.onTurn_lawful | apply State.verdictStep_lawful))

theorem State.readScales_lawful {s0 s : State} (h0 : Lawful s0 s) (e : Nat) (t : TileRun) (n : Nat) (cnt : Nat)
    : Lawful s0 (State.readScales s e t n cnt).1 := by
  unfold State.readScales
  repeat (first
    | with_reducible (first
      | assumption | apply State.dmaRead_lawful)
    | refine fst_lawful (by assumption) ?_ | split)

theorem State.loadWeights_lawful {s0 s : State} (h0 : Lawful s0 s) (e : Nat) (t : TileRun) (i : TileInstr)
    (up : Option ReadUpset) : Lawful s0 (State.loadWeights s e t i up) := by
  unfold State.loadWeights
  repeat (first
    | with_reducible assumption | extract_lets +onlyGivenNames x
    | with_reducible (first
      | apply State.dmaRead_lawful | apply State.readScales_lawful | apply State.setTileCtx_lawful
      | apply State.putTile_lawful | apply State.dmaFail_lawful)
    | refine fst_lawful (by assumption) ?_ | split)

theorem State.dmaInstr_lawful {s0 s : State} (h0 : Lawful s0 s) (e : Nat) (op : Nat) (sram : SramRead)
    {f : TileRun → TileInstr → State → State} (h_f : ∀ a0 a1 t, Lawful s0 t → Lawful s0 (f a0 a1 t))
    : Lawful s0 (State.dmaInstr s e op sram f) := by
  unfold State.dmaInstr
  repeat (first | with_reducible (first | assumption | apply State.compute_lawful))

theorem execLoadWeights_lawful {s0 s : State} (h0 : Lawful s0 s) (e : Fin 42) (sram : SramRead) (upset : Option ReadUpset)
    : ∃ t, execLoadWeights e sram upset s = .next t ∧ Lawful s0 t := by
  unfold execLoadWeights
  refine ⟨_, rfl, ?_⟩
  repeat (first
    | with_reducible assumption | intro _
    | with_reducible (first
      | apply State.dmaInstr_lawful | apply State.loadWeights_lawful))

theorem State.loadAct_lawful {s0 s : State} (h0 : Lawful s0 s) (e : Nat) (t : TileRun) (i : TileInstr)
    (up : Option ReadUpset) : Lawful s0 (State.loadAct s e t i up) := by
  unfold State.loadAct
  repeat (first
    | with_reducible (first
      | assumption | apply State.loadRows_lawful | apply State.putTile_lawful)
    | refine fst_lawful (by assumption) ?_ | split)

theorem execLoadAct_lawful {s0 s : State} (h0 : Lawful s0 s) (e : Fin 42) (sram : SramRead) (upset : Option ReadUpset)
    : ∃ t, execLoadAct e sram upset s = .next t ∧ Lawful s0 t := by
  unfold execLoadAct
  refine ⟨_, rfl, ?_⟩
  repeat (first
    | with_reducible assumption | intro _
    | with_reducible (first
      | apply State.dmaInstr_lawful | apply State.loadAct_lawful))

theorem State.copyRows_lawful {s0 s : State} (h0 : Lawful s0 s) (e : Nat) (t : TileRun) (i : TileInstr)
    : Lawful s0 (State.copyRows s e t i) := by
  unfold State.copyRows
  repeat (first | with_reducible (first | assumption | apply State.putTile_lawful | apply foldl_lawful))

theorem execStore_lawful {s0 s : State} (h0 : Lawful s0 s) (e : Fin 42) : ∃ t, execStore e s = .next t ∧ Lawful s0 t := by
  unfold execStore
  refine ⟨_, rfl, ?_⟩
  repeat (first
    | with_reducible assumption | intro _
    | with_reducible (first
      | apply State.onTurn_lawful | apply State.copyRows_lawful))

theorem State.loadBank_lawful {s0 s : State} (h0 : Lawful s0 s) (e : Nat) (t : TileRun) (i : TileInstr)
    (up : Option ReadUpset) : Lawful s0 (State.loadBank s e t i up) := by
  unfold State.loadBank
  repeat (first
    | with_reducible assumption | extract_lets +onlyGivenNames x
    | with_reducible (first
      | apply State.dmaRead_lawful | apply State.setTileCtx_lawful | apply State.putTile_lawful | apply State.dmaFail_lawful)
    | refine fst_lawful (by assumption) ?_ | split)

theorem execLoadBank_lawful {s0 s : State} (h0 : Lawful s0 s) (e : Fin 42) (sram : SramRead) (upset : Option ReadUpset)
    : ∃ t, execLoadBank e sram upset s = .next t ∧ Lawful s0 t := by
  unfold execLoadBank
  refine ⟨_, rfl, ?_⟩
  repeat (first
    | with_reducible assumption | intro _
    | with_reducible (first
      | apply State.dmaInstr_lawful | apply State.loadBank_lawful))

theorem State.gatherSlot_lawful {s0 s : State} (h0 : Lawful s0 s) (t : TileRun) (i : TileInstr) (k : Nat)
    : Lawful s0 (State.gatherSlot s t i k).1 := by
  unfold State.gatherSlot
  repeat (first
    | with_reducible assumption
    | (extract_lets +onlyGivenNames x; refine (fun (_ : Lawful s0 x) => ?_) ?_; (on_goal 1 => clear_value x); (on_goal 2 => subst x))
    | extract_lets +onlyGivenNames x
    | with_reducible (first
      | apply State.setSlot_lawful | apply State.setComet_lawful | apply foldl_lawful | apply foldl_fst_lawful
      | apply foldl_snd_lawful)
    | split)

theorem State.gather_lawful {s0 s : State} (h0 : Lawful s0 s) (e : Nat) (t : TileRun) (i : TileInstr)
    : Lawful s0 (State.gather s e t i) := by
  unfold State.gather
  repeat (first
    | with_reducible assumption | intro _
    | with_reducible (first
      | apply State.gatherSlot_lawful | apply State.putTile_lawful | apply foldl_lawful | apply foldl_fst_lawful
      | apply foldl_snd_lawful))

theorem execGather_lawful {s0 s : State} (h0 : Lawful s0 s) (e : Fin 42) : ∃ t, execGather e s = .next t ∧ Lawful s0 t := by
  unfold execGather
  refine ⟨_, rfl, ?_⟩
  repeat (first
    | with_reducible assumption | intro _
    | with_reducible (first
      | apply State.onTurn_lawful | apply State.gather_lawful))

theorem State.zeroRows_lawful {s0 s : State} (h0 : Lawful s0 s) (e : Nat) (t : TileRun) (i : TileInstr)
    : Lawful s0 (State.zeroRows s e t i) := by
  unfold State.zeroRows
  repeat (first | with_reducible (first | assumption | apply State.putTile_lawful | apply foldl_lawful))

theorem execZero_lawful {s0 s : State} (h0 : Lawful s0 s) (e : Fin 42) : ∃ t, execZero e s = .next t ∧ Lawful s0 t := by
  unfold execZero
  refine ⟨_, rfl, ?_⟩
  repeat (first
    | with_reducible assumption | intro _
    | with_reducible (first
      | apply State.onTurn_lawful | apply State.zeroRows_lawful))

theorem State.matrix_lawful {s0 s : State} (h0 : Lawful s0 s) (e : Nat) (t : TileRun) (i : TileInstr)
    (ready : Nat → Nat → Bool) (f : Nat → SliceFn) : Lawful s0 (State.matrix s e t i ready f) := by
  unfold State.matrix
  repeat (first
    | with_reducible assumption | extract_lets +onlyGivenNames x
    | with_reducible (first
      | apply State.loadRows_lawful | apply State.computeRows_lawful | apply foldl_lawful | apply foldl_fst_lawful
      | apply foldl_snd_lawful)
    | refine fst_lawful (by assumption) ?_ | split)

theorem State.convStep_lawful {s0 s : State} (h0 : Lawful s0 s) (e : Nat) (t : TileRun) (i : TileInstr)
    : Lawful s0 (State.convStep s e t i) := by
  unfold State.convStep
  repeat (first | with_reducible (first | assumption | apply State.matrix_lawful))

theorem execConv_lawful {s0 s : State} (h0 : Lawful s0 s) (e : Fin 42) (sram : SramRead)
    : ∃ t, execConv e sram s = .next t ∧ Lawful s0 t := by
  unfold execConv
  refine ⟨_, rfl, ?_⟩
  repeat (first
    | with_reducible assumption | intro _
    | with_reducible (first
      | apply State.compute_lawful | apply State.convStep_lawful))

theorem execConvDw_lawful {s0 s : State} (h0 : Lawful s0 s) (e : Fin 42) (sram : SramRead)
    : ∃ t, execConvDw e sram s = .next t ∧ Lawful s0 t := by
  unfold execConvDw
  refine ⟨_, rfl, ?_⟩
  repeat (first
    | with_reducible assumption | intro _
    | with_reducible (first
      | apply State.compute_lawful | apply State.convStep_lawful))

theorem State.matmulStep_lawful {s0 s : State} (h0 : Lawful s0 s) (e : Nat) (t : TileRun) (i : TileInstr)
    : Lawful s0 (State.matmulStep s e t i) := by
  unfold State.matmulStep
  repeat (first | with_reducible (first | assumption | apply State.matrix_lawful))

theorem execMatmul_lawful {s0 s : State} (h0 : Lawful s0 s) (e : Fin 42) (sram : SramRead)
    : ∃ t, execMatmul e sram s = .next t ∧ Lawful s0 t := by
  unfold execMatmul
  refine ⟨_, rfl, ?_⟩
  repeat (first
    | with_reducible assumption | intro _
    | with_reducible (first
      | apply State.compute_lawful | apply State.matmulStep_lawful))

theorem State.avgStep_lawful {s0 s : State} (h0 : Lawful s0 s) (e : Nat) (t : TileRun) (i : TileInstr)
    : Lawful s0 (State.avgStep s e t i) := by
  unfold State.avgStep
  repeat (first | with_reducible (first | assumption | apply State.computeRows_lawful))

theorem execAvgpool_lawful {s0 s : State} (h0 : Lawful s0 s) (e : Fin 42) (sram : SramRead)
    : ∃ t, execAvgpool e sram s = .next t ∧ Lawful s0 t := by
  unfold execAvgpool
  refine ⟨_, rfl, ?_⟩
  repeat (first
    | with_reducible assumption | intro _
    | with_reducible (first
      | apply State.compute_lawful | apply State.avgStep_lawful))

theorem State.attnScore_lawful {s0 s : State} (h0 : Lawful s0 s) (e : Nat) (t : TileRun) (i : TileInstr)
    : Lawful s0 (State.attnScore s e t i) := by
  unfold State.attnScore
  repeat (first | with_reducible (first | assumption | apply State.computeRows_lawful))

theorem execAttnScore_lawful {s0 s : State} (h0 : Lawful s0 s) (e : Fin 42) (sram : SramRead)
    : ∃ t, execAttnScore e sram s = .next t ∧ Lawful s0 t := by
  unfold execAttnScore
  refine ⟨_, rfl, ?_⟩
  repeat (first
    | with_reducible assumption | intro _
    | with_reducible (first
      | apply State.compute_lawful | apply State.attnScore_lawful))

theorem State.attnValue_lawful {s0 s : State} (h0 : Lawful s0 s) (e : Nat) (t : TileRun) (i : TileInstr)
    : Lawful s0 (State.attnValue s e t i) := by
  unfold State.attnValue
  repeat (first | with_reducible (first | assumption | apply State.computeRows_lawful))

theorem execAttnValue_lawful {s0 s : State} (h0 : Lawful s0 s) (e : Fin 42) (sram : SramRead)
    : ∃ t, execAttnValue e sram s = .next t ∧ Lawful s0 t := by
  unfold execAttnValue
  refine ⟨_, rfl, ?_⟩
  repeat (first
    | with_reducible assumption | intro _
    | with_reducible (first
      | apply State.compute_lawful | apply State.attnValue_lawful))

theorem State.distStep_lawful {s0 s : State} (h0 : Lawful s0 s) (e : Nat) (t : TileRun) (i : TileInstr)
    : Lawful s0 (State.distStep s e t i) := by
  unfold State.distStep
  repeat (first | with_reducible (first | assumption | apply State.computeRows_lawful))

theorem execDist_lawful {s0 s : State} (h0 : Lawful s0 s) (e : Fin 42) (sram : SramRead)
    : ∃ t, execDist e sram s = .next t ∧ Lawful s0 t := by
  unfold execDist
  refine ⟨_, rfl, ?_⟩
  repeat (first
    | with_reducible assumption | intro _
    | with_reducible (first
      | apply State.compute_lawful | apply State.distStep_lawful))

theorem State.postRows_lawful {s0 s : State} (h0 : Lawful s0 s) (e : Nat) (t : TileRun) (i : TileInstr)
    (f : Src → Nat → Counted RowOut) : Lawful s0 (State.postRows s e t i f) := by
  unfold State.postRows
  repeat (first | with_reducible (first | assumption | apply State.computeRows_lawful))

theorem execRequant_lawful {s0 s : State} (h0 : Lawful s0 s) (e : Fin 42) (sram : SramRead)
    : ∃ t, execRequant e sram s = .next t ∧ Lawful s0 t := by
  unfold execRequant
  refine ⟨_, rfl, ?_⟩
  repeat (first
    | with_reducible assumption | intro _
    | with_reducible (first
      | apply State.compute_lawful | apply State.postRows_lawful))

theorem execActivate_lawful {s0 s : State} (h0 : Lawful s0 s) (e : Fin 42) (sram : SramRead)
    : ∃ t, execActivate e sram s = .next t ∧ Lawful s0 t := by
  unfold execActivate
  refine ⟨_, rfl, ?_⟩
  repeat (first
    | with_reducible assumption | intro _
    | with_reducible (first
      | apply State.compute_lawful | apply State.postRows_lawful))

theorem State.eltStep_lawful {s0 s : State} (h0 : Lawful s0 s) (e : Nat) (t : TileRun) (i : TileInstr) (op : EltOp)
    : Lawful s0 (State.eltStep s e t i op) := by
  unfold State.eltStep
  repeat (first | with_reducible (first | assumption | apply State.computeRows_lawful))

theorem execAdd_lawful {s0 s : State} (h0 : Lawful s0 s) (e : Fin 42) (sram : SramRead)
    : ∃ t, execAdd e sram s = .next t ∧ Lawful s0 t := by
  unfold execAdd
  refine ⟨_, rfl, ?_⟩
  repeat (first
    | with_reducible assumption | intro _
    | with_reducible (first
      | apply State.compute_lawful | apply State.eltStep_lawful))

theorem execSub_lawful {s0 s : State} (h0 : Lawful s0 s) (e : Fin 42) (sram : SramRead)
    : ∃ t, execSub e sram s = .next t ∧ Lawful s0 t := by
  unfold execSub
  refine ⟨_, rfl, ?_⟩
  repeat (first
    | with_reducible assumption | intro _
    | with_reducible (first
      | apply State.compute_lawful | apply State.eltStep_lawful))

theorem execMul_lawful {s0 s : State} (h0 : Lawful s0 s) (e : Fin 42) (sram : SramRead)
    : ∃ t, execMul e sram s = .next t ∧ Lawful s0 t := by
  unfold execMul
  refine ⟨_, rfl, ?_⟩
  repeat (first
    | with_reducible assumption | intro _
    | with_reducible (first
      | apply State.compute_lawful | apply State.eltStep_lawful))

theorem execMax_lawful {s0 s : State} (h0 : Lawful s0 s) (e : Fin 42) (sram : SramRead)
    : ∃ t, execMax e sram s = .next t ∧ Lawful s0 t := by
  unfold execMax
  refine ⟨_, rfl, ?_⟩
  repeat (first
    | with_reducible assumption | intro _
    | with_reducible (first
      | apply State.compute_lawful | apply State.eltStep_lawful))

theorem execMin_lawful {s0 s : State} (h0 : Lawful s0 s) (e : Fin 42) (sram : SramRead)
    : ∃ t, execMin e sram s = .next t ∧ Lawful s0 t := by
  unfold execMin
  refine ⟨_, rfl, ?_⟩
  repeat (first
    | with_reducible assumption | intro _
    | with_reducible (first
      | apply State.compute_lawful | apply State.eltStep_lawful))

theorem State.nearestUp_lawful {s0 s : State} (h0 : Lawful s0 s) (e : Nat) (t : TileRun) (i : TileInstr)
    : Lawful s0 (State.nearestUp s e t i) := by
  unfold State.nearestUp
  repeat (first | with_reducible (first | assumption | apply State.computeRows_lawful))

theorem execNearestUp_lawful {s0 s : State} (h0 : Lawful s0 s) (e : Fin 42) (sram : SramRead)
    : ∃ t, execNearestUp e sram s = .next t ∧ Lawful s0 t := by
  unfold execNearestUp
  refine ⟨_, rfl, ?_⟩
  repeat (first
    | with_reducible assumption | intro _
    | with_reducible (first
      | apply State.compute_lawful | apply State.nearestUp_lawful))

theorem State.maxpoolStep_lawful {s0 s : State} (h0 : Lawful s0 s) (e : Nat) (t : TileRun) (i : TileInstr)
    : Lawful s0 (State.maxpoolStep s e t i) := by
  unfold State.maxpoolStep
  repeat (first | with_reducible (first | assumption | apply State.computeRows_lawful))

theorem execMaxpool_lawful {s0 s : State} (h0 : Lawful s0 s) (e : Fin 42) (sram : SramRead)
    : ∃ t, execMaxpool e sram s = .next t ∧ Lawful s0 t := by
  unfold execMaxpool
  refine ⟨_, rfl, ?_⟩
  repeat (first
    | with_reducible assumption | intro _
    | with_reducible (first
      | apply State.compute_lawful | apply State.maxpoolStep_lawful))

theorem State.normStep_lawful {s0 s : State} (h0 : Lawful s0 s) (e : Nat) (t : TileRun) (i : TileInstr)
    : Lawful s0 (State.normStep s e t i) := by
  unfold State.normStep
  repeat (first | with_reducible (first | assumption | apply State.computeRows_lawful))

theorem execNorm_lawful {s0 s : State} (h0 : Lawful s0 s) (e : Fin 42) (sram : SramRead)
    : ∃ t, execNorm e sram s = .next t ∧ Lawful s0 t := by
  unfold execNorm
  refine ⟨_, rfl, ?_⟩
  repeat (first
    | with_reducible assumption | intro _
    | with_reducible (first
      | apply State.compute_lawful | apply State.normStep_lawful))

theorem execSoftmax_lawful {s0 s : State} (h0 : Lawful s0 s) (e : Fin 42) (sram : SramRead)
    : ∃ t, execSoftmax e sram s = .next t ∧ Lawful s0 t := by
  unfold execSoftmax
  refine ⟨_, rfl, ?_⟩
  repeat (first
    | with_reducible assumption | intro _
    | with_reducible (first
      | apply State.compute_lawful | apply State.postRows_lawful))

theorem execArgmax_lawful {s0 s : State} (h0 : Lawful s0 s) (e : Fin 42) (sram : SramRead)
    : ∃ t, execArgmax e sram s = .next t ∧ Lawful s0 t := by
  unfold execArgmax
  refine ⟨_, rfl, ?_⟩
  repeat (first
    | with_reducible assumption | intro _
    | with_reducible (first
      | apply State.compute_lawful | apply State.postRows_lawful))

theorem execTopk_lawful {s0 s : State} (h0 : Lawful s0 s) (e : Fin 42) (sram : SramRead)
    : ∃ t, execTopk e sram s = .next t ∧ Lawful s0 t := by
  unfold execTopk
  refine ⟨_, rfl, ?_⟩
  repeat (first
    | with_reducible assumption | intro _
    | with_reducible (first
      | apply State.compute_lawful | apply State.postRows_lawful))

theorem State.mergeStep_lawful {s0 s : State} (h0 : Lawful s0 s) (e : Nat) (t : TileRun) (i : TileInstr)
    : Lawful s0 (State.mergeStep s e t i) := by
  unfold State.mergeStep
  repeat (first | with_reducible (first | assumption | apply State.computeRows_lawful))

theorem execMergeList_lawful {s0 s : State} (h0 : Lawful s0 s) (e : Fin 42) (sram : SramRead)
    : ∃ t, execMergeList e sram s = .next t ∧ Lawful s0 t := by
  unfold execMergeList
  refine ⟨_, rfl, ?_⟩
  repeat (first
    | with_reducible assumption | intro _
    | with_reducible (first
      | apply State.compute_lawful | apply State.mergeStep_lawful))

theorem State.foldStep_lawful {s0 s : State} (h0 : Lawful s0 s) (e : Nat) (t : TileRun) (i : TileInstr)
    : Lawful s0 (State.foldStep s e t i) := by
  unfold State.foldStep
  repeat (first
    | with_reducible assumption | extract_lets +onlyGivenNames x
    | with_reducible (first
      | apply State.loadRows_lawful | apply State.computeRows_lawful)
    | refine fst_lawful (by assumption) ?_ | split)

theorem execFold_lawful {s0 s : State} (h0 : Lawful s0 s) (e : Fin 42) (sram : SramRead)
    : ∃ t, execFold e sram s = .next t ∧ Lawful s0 t := by
  unfold execFold
  refine ⟨_, rfl, ?_⟩
  repeat (first
    | with_reducible assumption | intro _
    | with_reducible (first
      | apply State.compute_lawful | apply State.foldStep_lawful))

theorem execCopy_lawful {s0 s : State} (h0 : Lawful s0 s) (e : Fin 42) (sram : SramRead)
    : ∃ t, execCopy e sram s = .next t ∧ Lawful s0 t := by
  unfold execCopy
  refine ⟨_, rfl, ?_⟩
  repeat (first
    | with_reducible assumption | intro _
    | with_reducible (first
      | apply State.compute_lawful | apply State.copyRows_lawful))

end Sys2Proof.Machine
end

