-- ==== Sys2Proof/Laws/Ops.lean ====
section
/-!
SUPPORT. What the shared operations leave alone: the registers outside a list, memory, and whatever no register write
touches; and that a register write that passes the gates is the change it stands for.
-/
namespace Sys2Proof.Machine

open Sys2Proof

/-! ### Frames -/

theorem regsKept_refl (s : State) (l : List Nat) : RegsKept s s l := fun _ _ => rfl

theorem regsKept_of {s t : State} {l : List Nat} (h : t.regs = s.regs) : RegsKept s t l := fun _ _ => by rw [h]

theorem regsKept_wr {s t : State} {l : List Nat} {r : RegRow} {v : Word} {i j k : Nat} (h : RegsKept s t l)
    (hm : r.at i j k ∈ l) : RegsKept s (t.wr r v i j k) l := by
  intro a ha
  rw [State.look_wr_other t r v i j k a (fun e => ha (by rw [e]; exact hm))]
  exact h a ha

theorem memKept_of {s t : State} (h : t.mem = s.mem) : MemKept s t := fun a => by simp [State.byte, h]

/-! ### What no register write touches, no operation over registers touches -/

section
variable {β : Type} {p : State → β} (hw : ∀ s r v i j k, p (State.wr s r v i j k) = p s)
include hw

theorem setF_keeps (s : State) (r : RegRow) (lo len v i j k : Nat) : p (s.setF r lo len v i j k) = p s := hw s r _ i j k

theorem setBit_keeps (s : State) (r : RegRow) (n : Nat) (b : Bool) (i j k : Nat) : p (s.setBit r n b i j k) = p s :=
  hw s r _ i j k

theorem wr64_keeps (s : State) (lo hi : RegRow) (v : DWord) (i j : Nat) : p (s.wr64 lo hi v i j) = p s :=
  (hw (s.wr lo (loWord v) i j) hi _ i j 0).trans (hw s lo _ i j 0)

theorem raise_keeps (s : State) (r : RegRow) (n i j : Nat) : p (s.raise r n i j) = p s := setBit_keeps hw s r n true i j 0

theorem bumpBy_keeps (s : State) (n : Nat) (r : RegRow) (i j : Nat) : p (s.bumpBy n r i j) = p s := hw s r _ i j 0

theorem bump_keeps (s : State) (r : RegRow) (i j : Nat) : p (s.bump r i j) = p s := bumpBy_keeps hw s 1 r i j

theorem lastStatus_keeps (s : State) (st a : Nat) : p (s.lastStatus st a) = p s := by
  unfold State.lastStatus
  repeat' split
  all_goals first | rfl | exact setF_keeps hw s _ _ _ _ _ _ _

theorem refuse_keeps (s : State) (st a : Nat) : p (s.refuse st a) = p s := by
  unfold State.refuse
  rw [raise_keeps hw, bump_keeps hw, hw, hw, lastStatus_keeps hw]

theorem unmapped_keeps (s : State) : p s.unmapped = p s := by
  unfold State.unmapped
  rw [raise_keeps hw, bump_keeps hw]

theorem violation_keeps (s : State) : p s.violation = p s := by
  unfold State.violation
  rw [raise_keeps hw, bump_keeps hw]

/-- A gated register write keeps what its change keeps. -/
theorem gate_keeps (s : State) (w : Writer) (r : RegRow) (i j k : Nat) (f : State → State) (hf : p (f s) = p s) :
    p (s.gate w r i j k f) = p s := by
  unfold State.gate
  extract_lets a
  split
  · rfl
  repeat' split
  all_goals first
    | rfl
    | exact hf
    | exact unmapped_keeps hw s
    | exact violation_keeps hw s
    | exact refuse_keeps hw s _ _
end

/-! ### The gates -/

/-- A write that passes the gates is the change that it stands for. -/
theorem takes_gate {s : State} {w : Writer} {r : RegRow} {i j k : Nat} (h : s.takes w r i j k = true)
    (f : State → State) : s.gate w r i j k f = f s := by
  unfold State.takes at h
  unfold State.gate
  split at h
  · cases h
  · rename_i b hb
    simp only [hb]
    simp only [Bool.and_eq_true, Bool.or_eq_true, Bool.not_eq_true', Bool.and_eq_false_iff, decide_eq_true_eq,
      decide_eq_false_iff_not] at h
    obtain ⟨h1, h2⟩ := h
    have h3 := h1
    simp only [State.on, Bool.and_eq_true, decide_eq_true_eq] at h3
    rw [if_neg, if_neg (by simp [h1]), if_neg, if_neg, if_neg]
    · rintro ⟨rfl, ha, hb⟩
      simp only [ne_eq, not_true_eq_false, false_or] at h2
      rcases h2.2 with h4 | h4
      · exact h4 ha
      · rw [h4] at hb; cases hb
    · rintro ⟨rfl, ha⟩
      simp only [ne_eq, not_true_eq_false, false_or] at h2
      simp [h2.1.2] at ha
    · rintro ⟨rfl, ha, hb⟩
      simp only [ne_eq, not_true_eq_false, false_or] at h2
      simp only [Bool.not_eq_true'] at hb
      rcases h2.1.1.2 with h4 | h4
      · rw [h4] at ha; cases ha
      · rw [h4] at hb; cases hb
    · rintro (ha | ha | ⟨rfl, ha⟩)
      · simp [h3.1.1] at ha
      · exact h3.1.2 ha
      · simp only [ne_eq, not_true_eq_false, false_or] at h2
        simp [h2.1.1.1] at ha

end Sys2Proof.Machine
end

