-- ==== Sys2Proof/WellFormed.lean ====
section
/-!
DEFINITION. Well-formed commands: the operands that the interfaces of the spec can carry. A command outside these ranges
cannot reach the module; the meanings are total, so they hold for it as well.
-/
namespace Sys2Proof

/-- A register address: an aligned word in the 64 MiB register space (spec/00_scope.md, Registers). -/
def regAddr (a : Nat) : Bool := decide (a < 0x4000000) && decide (a % 4 = 0)

/-- Pixel components have at most 16 bits (R74). -/
def pixOk (l : List Nat) : Bool := l.all (fun v => decide (v < 65536))

/-- The data of a stream packet. -/
def StreamPacket.wf : StreamPacket → Bool
  | .cxp pix _ => pixOk pix
  | .gvsp _ _ pix => pixOk pix
  | .missing _ _ _ => true
  | .other => true

/-- A decoder packet: components of 8, 10 or 12 bits (R137), and no more rows than the picture has. -/
def RtpInfo.wf (i : RtpInfo) : Bool :=
  (decide (i.depth = 8) || decide (i.depth = 10) || decide (i.depth = 12)) && decide (i.rows.length ≤ i.height) &&
    i.rows.all pixOk

/-- A flit carries at most 244 bytes (R500). -/
def Flit.wf (f : Flit) : Bool := decide (f.payload.length ≤ 244)

/-- An upset lies in one of the sectors of a transfer, of at most 65,535 blocks of 64 bytes (R270). -/
def upsetOk : Option ReadUpset → Bool
  | some u => decide (u.sector < 65536)
  | none => true

/-- A command is well formed. -/
def Instr.wf (c : Instr) : Bool :=
  match c with
  | .registerWrite _ addr _ => regAddr addr
  | .checkedWriteDecided => true
  | .pairHiWrite _ addr _ => regAddr addr
  | .pairLoRead addr => regAddr addr
  | .rcRead addr => regAddr addr
  | .unmappedAccess addr _ => regAddr addr
  | .encCfgWrite _ _ _ => true
  | .encEdgeAccept _ _ _ _ => true
  | .faultWindowEnd _ => true
  | .analogueSample _ _ _ => true
  | .amplitudeFault _ => true
  | .amplitudeRecover _ => true
  | .observerUpdate _ => true
  | .standstillIn _ => true
  | .settled _ => true
  | .indexEvent _ _ _ _ => true
  | .preset _ _ => true
  | .faultClear _ _ => true
  | .openPairFault _ _ _ => true
  | .openPairRecover _ _ _ _ => true
  | .encSupplyFault _ _ _ => true
  | .encSupplyRetry _ => true
  | .encSupplyRecover _ _ _ => true
  | .wtCycle => true
  | .cometCreate _ => true
  | .overlength _ => true
  | .imageRowObserved _ => true
  | .verdictTokenArrival => true
  | .provisionalTokenArrival => true
  | .commit _ => true
  | .ejectionStart _ => true
  | .ejectionEnd _ => true
  | .minPulseEnd _ => true
  | .pulseCap _ => true
  | .outputEnergised _ => true
  | .retire _ => true
  | .exportRecord _ => true
  | .ejectSend _ => true
  | .remoteAck _ _ => true
  | .ackTimeout _ _ => true
  | .arpRefresh _ _ => true
  | .fieldSupplyChange _ _ => true
  | .diEdge _ _ _ => true
  | .diOpen _ _ _ => true
  | .diOpenClear _ _ => true
  | .fioDoSetWrite _ _ => true
  | .overload _ _ => true
  | .overtemp _ _ => true
  | .openOn _ _ _ => true
  | .openOff _ _ _ => true
  | .stuckOn _ _ _ => true
  | .outputRestart _ _ => true
  | .fioDoClear _ _ _ => true
  | .outputDeenergised _ => true
  | .outputWarnClear _ _ => true
  | .memoryInitDone => true
  | .mergeTimeout _ => true
  | .patrolRead _ _ _ => true
  | .rewrite _ _ _ => true
  | .injectArm _ => true
  | .refreshRateChange _ _ => true
  | .xltResume _ _ => true
  | .xltResumeFail _ _ => true
  | .xltInval _ _ _ => true
  | .xltInvalAll _ => true
  | .creditRequest _ producer _ => decide (producer < 4096)
  | .creditGrant _ => true
  | .packetReserve _ producer _ => decide (producer < 4096)
  | .backFill _ producer _ _ _ => decide (producer < 4096)
  | .recordPublish _ producer _ => decide (producer < 4096)
  | .abandonedPad _ producer _ => decide (producer < 4096)
  | .entryRelease _ _ => true
  | .cpClaim _ _ => true
  | .pop _ _ => true
  | .clientClear _ _ => true
  | .clientClearAll _ => true
  | .doorbell _ => true
  | .mailboxWrite _ offset data => decide (offset.val + data.length ≤ 4096)
  | .bulkWrite data _ => decide (data.length ≤ 512)
  | .apertureByteAccess _ _ _ => true
  | .exportRead bytes => decide (1 ≤ bytes ∧ bytes ≤ 512)
  | .reread => true
  | .sdioReset _ => true
  | .ioEnable _ => true
  | .cdDisable => true
  | .firmwareReady => true
  | .timeRateWrite _ _ => true
  | .timeOffsetApply _ _ => true
  | .timeAdj _ _ => true
  | .ptpReceive _ _ => true
  | .ptpSyncSend => true
  | .ptpAnnounceSend => true
  | .ptpDelayReqSend => true
  | .announceTimeout => true
  | .historyEntry => true
  | .snapinEdge _ => true
  | .snapMatch _ => true
  | .fire _ => true
  | .arm _ => true
  | .snapshotLatchDone => true
  | .snapoutPulseEnd => true
  | .opChangeDone => true
  | .throttleStepDown _ => true
  | .throttleStepUp _ => true
  | .temperatureHot _ => true
  | .thermalTrip _ _ => true
  | .powerEntryDone => true
  | .wakeBusFrame _ _ => true
  | .wakePattern _ _ => true
  | .sdioStartBitWake => true
  | .wakeDone _ => true
  | .powerInputChange _ _ _ => true
  | .busUndervoltage _ => true
  | .powerOnReset => true
  | .mrst _ => true
  | .mrstRelease => true
  | .seated _ => true
  | .emergencyQuiesce _ _ => true
  | .watchdogTimeout _ _ => true
  | .warmRestartDone _ => true
  | .nop _ => true
  | .stateSummary _ => true
  | .stateSummaryPart _ => true
  | .moduleReset _ => true
  | .setOperatingPoint _ => true
  | .setPowerState _ => true
  | .orderlyRemove _ => true
  | .snapshot _ => true
  | .camControlRead _ => true
  | .camControlWrite _ => true
  | .queueCreate _ => true
  | .queueDestroy _ => true
  | .loadBegin _ => true
  | .loadJob _ => true
  | .loadWeightSet _ => true
  | .bindInput _ => true
  | .start _ => true
  | .startLazy _ => true
  | .stop _ => true
  | .pause _ => true
  | .resume _ => true
  | .abort _ => true
  | .unload _ => true
  | .setPriority _ => true
  | .switchWeights _ => true
  | .calibrate _ => true
  | .bankPrepare _ => true
  | .spareSwap _ => true
  | .clearSoftMap _ => true
  | .fwUpdate _ => true
  | .attest _ => true
  | .migrationStart _ _ _ => true
  | .migrationDone => true
  | .cageInsert _ _ => true
  | .cageRemove _ => true
  | .cagePowerFault _ _ => true
  | .cageInterrupt _ => true
  | .camPortCfgWrite _ _ _ => true
  | .trigGridWrite _ _ _ _ => true
  | .gridPointReached _ => true
  | .delayedTrigger _ => true
  | .triggerPulseEnd _ => true
  | .triggerAck _ => true
  | .camLinkUp _ => true
  | .discoveryDone _ ids _ => decide (ids.length ≤ 4)
  | .camLinkDown _ => true
  | .heartbeatTimeout _ => true
  | .heartbeatPacket _ => true
  | .gevHeartbeat _ => true
  | .streamBlockHeader _ _ _ _ => true
  | .streamPacket _ p => p.wf
  | .lineArrival _ _ => true
  | .blockEnd _ => true
  | .cxpEventPacket _ _ => true
  | .stripeStart _ => true
  | .stripeDone _ => true
  | .apply _ _ _ => true
  | .applyBoundary _ _ => true
  | .applied _ _ => true
  | .ispEngineReset _ => true
  | .rtpPacket _ info => info.wf
  | .sampleWritten _ => true
  | .decodeBudgetExpiry _ => true
  | .batchTimeout _ => true
  | .reportPlaced _ => true
  | .decEngineReset => true
  | .tileStart _ => true
  | .preemptionRequest _ => true
  | .tileCommit _ => true
  | .contextSaveDone _ _ => true
  | .contextRestoreDone _ upset => upsetOk upset
  | .sprEngineReset _ _ => true
  | .moonEngineReset _ _ => true
  | .engineResetDone _ => true
  | .hangTimeout _ => true
  | .lastingFaultSwap _ => true
  | .moonAdoption _ => true
  | .remoteReplyLand _ _ => true
  | .accountingWindow => true
  | .partJoin _ => true
  | .tileNop _ => true
  | .waitRows _ => true
  | .semAcquire _ => true
  | .semRelease _ => true
  | .barrier _ => true
  | .remoteSend _ => true
  | .remoteWait _ => true
  | .verdict _ => true
  | .provisional _ => true
  | .loadWeights _ _ upset => upsetOk upset
  | .loadAct _ _ upset => upsetOk upset
  | .store _ => true
  | .loadBank _ _ upset => upsetOk upset
  | .gather _ => true
  | .zero _ => true
  | .conv _ _ => true
  | .convDw _ _ => true
  | .matmul _ _ => true
  | .avgpool _ _ => true
  | .attnScore _ _ => true
  | .attnValue _ _ => true
  | .dist _ _ => true
  | .requant _ _ => true
  | .activate _ _ => true
  | .add _ _ => true
  | .sub _ _ => true
  | .mul _ _ => true
  | .max _ _ => true
  | .min _ _ => true
  | .nearestUp _ _ => true
  | .maxpool _ _ => true
  | .norm _ _ => true
  | .softmax _ _ => true
  | .argmax _ _ => true
  | .topk _ _ => true
  | .mergeList _ _ => true
  | .fold _ _ => true
  | .copy _ _ => true
  | .trainingDone _ _ _ => true
  | .trainTimeout _ => true
  | .laneLockLoss _ _ => true
  | .laneActivity _ _ _ => true
  | .linkReset _ _ => true
  | .prbsInjOne _ _ _ => true
  | .ethFrameReceive _ _ => true
  | .ethFrameTransmit _ => true
  | .macLinkUp _ => true
  | .flitReceive _ f _ => f.wf
  | .retryTimeout _ => true
  | .ackInterval _ => true
  | .linkRetrainTimeout _ => true
  | .laneFail _ _ _ _ _ => true
  | .swapReqReceive _ _ => true
  | .swapAckReceive _ => true
  | .fabInject _ _ _ => true
  | .laneUp _ => true
  | .prbsCheckerLock _ _ => true
  | .prbsCheckerResync _ errors bits => decide (errors ≤ bits)
  | .prbsBitError _ => true
  | .prbsRateInjection _ _ => true
  | .controlAcknowledge _ _ _ => true
  | .cameraTimeout => true

end Sys2Proof
end

