-- ==== Sys2Proof/Tests/Slice0.lean ====
section
/-!
SUPPORT. Tests of the model: the worked examples of the spec, and for every statement a state and operands that meet its
hypotheses, with what the command leaves there. `up` is a module that has booted; `after` is the state a command answers.
-/
namespace Sys2Proof.Tests

set_option Elab.async false

open Sys2Proof Sys2Proof.Machine

/-- A module that has booted: alive, its CP serving, functions 1 to 3 ready, memory initialised, power state S0, field supply
at 24.0 V. -/
def up : State :=
  (({ State.reset with
      core := { alive := true, held := false, enabledOnce := true, cp := .running, romDone := true, cold := false }
      host := { ioReady := 14, ioEnable := 14, cardUp := true }
      raw := 1000000000000 } : State).setBit Reg.MEM_STATUS 1 true).wr Reg.FIO_SUPPLY 0x200F0

/-- The state that a command answers. -/
def after (c : Instr) (s : State) : State :=
  match exec c s with
  | .next t => t
  | _ => s

/-- Registers outside a list keep their words. -/
def kept (s t : State) (l : List Nat) : Bool :=
  (s.regs ++ t.regs).all (fun p => l.contains p.1 || AMap.look t.regs p.1 == AMap.look s.regs p.1)

/-- Everything in a list of checks holds. -/
def passes (l : List Bool) : Bool := l.all id

/-- A counter has counted one. -/
def counted (s t : State) (r : RegRow) (i j : Nat := 0) : Bool := (t.rd r i j).toNat == (s.rd r i j).toNat + 1

/-! ### Worked examples of the spec -/

/-- An element of a format. -/
def el (f c : Nat) : Elem := { fmt := f, code := c }

/-- Arithmetic, Worked example 1 (spec/06_spires_and_arithmetic.md): expansions of codes to X16. -/
theorem test_expansions : passes
    ([(3, 0x5C, 0x41C0), (3, 0x03, 0x3BC0), (3, 0x80, 0x8000), (1, 0x9C, 0xC2C8), (2, 0xFF, 0x437F), (13, 7, 0x40C0)].map
      (fun (p : Nat × Nat × Nat) => decide ((toX16 (codeValue p.1 p.2.1)).toNat = p.2.2))) = true := by decide +kernel

/-- Arithmetic, Worked example 2: the exact sum of a BF16 slice is 1, where sequential addition would give 0. -/
theorem test_slice_is_exact : passes
    [decide ((sliceDot .rne [(el 5 0x4380, el 5 0x4780), (el 5 0x3F80, el 5 0x3F80), (el 5 0xC380, el 5 0x4780)] 127 127).1 =
      0x3F800000)] = true := by decide +kernel

/-- Arithmetic, Worked example 3: a slice in MXFP4 with block scales. -/
theorem test_slice_with_scales : passes
    [decide ((sliceDot .rne [(el 13 7, el 13 4), (el 13 0xB, el 13 6), (el 13 1, el 13 0xD)] 0x7E 0x84).1 = 0x42900000)] = true := by decide +kernel

/-- Arithmetic, Worked example 4: the stack after five slices holds two nodes, and four more slices fold it to the tree. -/
theorem test_stack_folds_to_the_tree : passes
    (let l : List Word := (List.range 9).map (fun k => intF32 (2 * k + 1)); let first := (pushAll .rne (l.take 5) []).1
     [decide (first = [(0, intF32 9), (2, intF32 16)]),
      decide ((foldStack .rne (pushAll .rne (l.drop 5) first).1).1 = (treeSum .rne l).1),
      decide ((treeSum .rne l).1 = intF32 81)]) = true := by decide +kernel

/-- Quantisation, Worked example 1 (spec/07_quantisation.md): zero-point correction, bias and scale. -/
theorem test_zero_points : passes
    [decide (sliceInt 128 2 [(130, 10), (120, -3), (255, 4)] = 310),
     decide ((fMul .rne (fAdd .rne (intF32 310) (intF32 256)).1 0x3A800000).1 = 0x3F0D8000)] = true := by decide +kernel

/-- Quantisation, Worked example 2: an MXFP8 E4M3 block. -/
theorem test_mx_block : passes
    (let r := requantMx 9 ([0x43960000, 0x43480000, 0xBC23D70A] ++ List.replicate 29 0)
     [decide (r.1.1 = 0x7F), decide (r.1.2.take 4 = [0x79, 0x74, 0x85, 0]), decide (r.2.satFp = 0)]) = true := by decide +kernel

/-- Quantisation, Worked example 3: the calibrator's entries, and what a constant channel writes for 3.2. -/
theorem test_calibration : passes
    (let a := calibrateEntry 2 false { min := 0xBF800000, max := 0x40000000, flags := 1, count := 1 }
     let b := calibrateEntry 2 false { min := 0x3F000000, max := 0x3F000000, flags := 1, count := 1 }
     let q := QParam.parse b
     [decide ((QParam.parse a).scale = 0x3C40C0C1), decide ((QParam.parse a).z = 85), decide (q.scale = 0x3F800000),
      decide (q.zp = 0x3F000000), q.isConst, decide (q.z = 0), decide ((b.drop 16).take 4 = [0, 0, 0, 0]),
      decide ((requantInt 2 q false 0x404CCCCD).1 = 3)]) = true := by decide +kernel

/-- Operators, Worked example 1 (spec/08_operators.md): output sizes on one axis. -/
theorem test_output_sizes : passes
    [decide (outSize 10 3 2 1 1 1 = 5), decide (outSize 4 7 1 3 3 1 = 4), decide (outSize 5 7 2 0 0 1 = 0),
     decide (outSize 16 2 5 0 0 1 = 3), decide (outSize 6 3 1 8 8 8 = 6)] = true := by decide +kernel

/-- Operators, Worked example 3: argmax and top-k. -/
theorem test_ranking : passes
    (let v : List Word := [0x3FC00000, 0x40400000, 0, 0x40400000, 0x80000000, 0x3E800000]
     [decide ((argMax v).2 = 1), decide ((topK 6 v).1.map (fun p => p.2) = [1, 3, 0, 5, 2, 4]),
      decide ((argMax (v.set 5 0x7FC00000)).2 = 5)]) = true := by decide +kernel

/-- Operators, Worked example 4: distance values and the nearest three. -/
theorem test_distances : passes
    (let d := fun (dot nb : Int) => (distValue (intF32 25) (intF32 dot) (intF32 nb) 0x3F800000 false).1
     let l := [d 0 0, d 9 9, d 50 100, d (-25) 25]
     [decide (l = [intF32 25, intF32 16, intF32 25, intF32 100]),
      decide ((nearestK 3 (indexed 0 l)).1 = [(intF32 16, 1), (intF32 25, 0), (intF32 25, 2)])]) = true := by decide +kernel

/-- Tile programs, Worked example 1 (spec/09_tile_programs_and_jobs.md): the second tile's instruction, from its lowest byte. -/
theorem test_instruction_word : passes
    (let r := instrAt [0x01, 0, 0x05, 0, 0x04, 0, 0x0E, 0, 0x0D, 0, 0x0C, 0, 0x05, 0x60, 0x10, 0x20]; let i := r.2.1
     [decide (r.1 = 0x20), decide (i.layer = 5), decide (i.srcA = 12), decide (i.srcB = 13), decide (i.dst = 14),
      decide (i.arg0 = 4), decide (i.arg1 = 5), decide (i.act = 1), i.sat, i.last, decide (i.rows = 1), decide (i.cgrp = 0),
      !r.2.2]) = true := by decide +kernel

/-- The time base, Worked example 1 (spec/18_network_time.md): T two seconds after the anchor, and a position looked up. -/
theorem test_time_base : passes
    (let t0 : DWord := 1720000000000000000
     let s := ((up.wr64 Reg.TIME_ANCHOR_LO Reg.TIME_ANCHOR_HI 5000000000000).wr64 Reg.TIME_OFFSET_LO Reg.TIME_OFFSET_HI t0).wr
       Reg.TIME_RATE (BitVec.ofInt 32 (-13743895))
     let h : AMap HistEnt := [(5002000000, { pos := 16384000, unknown := false, epoch := 0 }),
       (5002000001, { pos := 16385966, unknown := false, epoch := 0 })]
     let u := { s with time := { s.time with hist := [(1, h)] } }
     [decide (s.timeAt 5002000000000 = t0 + 1999975000), decide (s.rawOf (t0 + 1999975400) = 5002000000401),
      decide (u.lookupPos 1 (t0 + 1999975400) = ((16384788 : DWord), false))]) = true := by decide +kernel

/-- Scope, Worked example 1 (spec/00_scope.md): a position of -3.25 lc as a 64-bit word; index, Worked example 1
(spec/25_register_index.md): addresses of registers. -/
theorem test_position_word_and_addresses : passes
    [decide (posWord (-53248) = 0xFFFFFFFFFFFF3000), decide (Reg.WT_EJECT_MASK.at 3 0 0 = 0x5011C0),
     decide (Reg.SPR_SCHED_STATUS.at 33 0 0 = 0x12100C0)] = true := by decide +kernel

/-! ### Encoder -/

/-- A DIGITAL channel 1, A and B low, filters of one sample. -/
def encUp : State := (up.wr Reg.ENC_CFG 1 1).wr Reg.ENC_FILT_CFG 1 1

/-- Channel 1 of a state. -/
def withEnc (s : State) (c : EncCh) : State := { s with encs := AMap.put s.encs 1 c }

/-- R33, R38: the forward order is A before B; INVERT turns it round. -/
theorem test_edges : passes (
    let l := [Reg.ENC_STATUS.at 1 0 0, Reg.ENC_EVENT.at 1 0 0, Reg.ENC_CNT.at 1 1 0, Reg.ENC_CNT.at 1 6 0]
    let s := encUp; let t := after (.encEdgeAccept 1 true false 1) s; let u := after (.encEdgeAccept 1 true true 1) t
    let b := after (.encEdgeAccept 1 false true 1) s
    let v := after (.encEdgeAccept 1 true false 1) (s.setBit Reg.ENC_CFG 2 true 1)
    [s.on .ENC, decide (s.encMode 1 = 1), !s.encPairsDead 1, decide (max 1 (s.f Reg.ENC_FILT_CFG 0 6 1) ≤ 1),
     decide ((t.enc 1).pos = 4096), (t.enc 1).lvlA, !(t.enc 1).lvlB, decide ((u.enc 1).pos = 8192), kept s t l,
     decide ((b.enc 1).pos = posWord (-4096)), decide ((v.enc 1).pos = posWord (-4096)), kept s b l,
     decide (t.encs.length = 1)])
    = true := by decide +kernel

/-- R42: a change of both levels. -/
theorem test_illegal_transition : passes (
    let s := encUp; let t := after (.encEdgeAccept 1 true true 1) s
    [decide ((t.enc 1).pos = 0), (t.enc 1).lvlA, (t.enc 1).lvlB, counted s t Reg.ENC_CNT 1 0]) = true := by decide +kernel

/-- R34, R35: a comet on channel 1. -/
def aComet : Comet :=
  { seq := 9, st := .opened, lane := 0, src := 0, enc := 1, lead := 1000, commitOfs := 2000000, ejectOfs := 0, ejectExt := 0,
    winPre := 100, winPost := 0, group := 0, tCreate := 500 }

theorem test_encoder_configuration : passes (
    let s := encUp; let t := after (.encCfgWrite .host 1 2) s
    let l := [Reg.ENC_CFG.at 1 0 0, Reg.ENC_STATUS.at 1 0 0]
    let s2 := s.setComet 77 aComet; let t2 := after (.encCfgWrite .host 1 2) s2
    let s3 := (encUp.setBit Reg.ENC_STATUS 0 false 1); let t3 := after (.encCfgWrite .host 1 2) s3
    [s.takes .host Reg.ENC_CFG 1 0 0, decide (s.encCfgCheck 1 2 = none), decide (t.rd Reg.ENC_CFG 1 = 2), t.bit Reg.ENC_STATUS 0 1,
     t3.bit Reg.ENC_STATUS 0 1, kept s t l, kept s3 t3 l,
     decide ((t.enc 1).pos = 0), s2.cometsOn 1, decide ((t2.rd Reg.SYS_REFUSED_STATUS).toNat = S_BUSY),
     decide ((t2.rd Reg.SYS_REFUSED_ADDR).toNat = Reg.ENC_CFG.at 1 0 0), decide (t2.rd Reg.ENC_CFG 1 = 1), decide (t2.encs = s2.encs)])
    = true := by decide +kernel

/-- R56, R58, R59, R63: loads of the position. -/
theorem test_position_loads : passes (
    let l := [Reg.ENC_STATUS.at 1 0 0, Reg.ENC_EVENT.at 1 0 0]
    let s := encUp.wr Reg.ENC_PRESET_LO 70000 1; let t := after (.preset .host 1) s
    let s2 := (s.setComet 77 aComet).setBit Reg.ENC_STATUS 0 false 1; let t2 := after (.preset .host 1) s2
    let s3 := (encUp.wr Reg.ENC_INDEX_POS_LO 12345 1).setBit Reg.ENC_CFG 4 true 1; let t3 := after (.indexEvent 1 5 true true) s3
    let s4 := ((encUp.setBit Reg.ENC_STATUS 4 true 1).setBit Reg.ENC_STATUS 10 true 1); let s4 := withEnc s4 { winCnt := 5 }
    let t4 := after (.faultClear .host 1) s4
    [s.takes .host Reg.ENC_CMD 1 0 0, s.bit Reg.ENC_STATUS 0 1, decide ((t.enc 1).pos = 70000), !t.bit Reg.ENC_STATUS 0 1,
     t.bit Reg.ENC_EVENT 6 1, kept s t l,
     s2.takes .host Reg.ENC_CMD 1 0 0, !s2.bit Reg.ENC_STATUS 0 1, s2.cometsOn 1, decide (t2.encs = s2.encs), t2.bit Reg.ENC_EVENT 7 1,
     kept s2 t2 [Reg.ENC_EVENT.at 1 0 0],
     s3.on .ENC, !s3.bit Reg.ENC_STATUS 7 1, !s3.fieldAbsent, s3.bit Reg.ENC_STATUS 0 1, s3.bit Reg.ENC_CFG 4 1,
     s3.indexQualified 1 true true, decide ((t3.enc 1).pos = 12345), !t3.bit Reg.ENC_STATUS 0 1, t3.bit Reg.ENC_EVENT 1 1,
     decide ((t3.enc 1).capPos = 0),
     s4.takes .host Reg.ENC_CMD 1 0 0, s4.encClearable 1, !t4.bit Reg.ENC_STATUS 4 1, !t4.bit Reg.ENC_STATUS 10 1,
     !t4.bit Reg.ENC_STATUS 11 1, decide ((t4.enc 1).winCnt = 0), kept s4 t4 [Reg.ENC_STATUS.at 1 0 0]]) = true := by decide +kernel

/-- R43, R45, R646: fault window, amplitude, pairs. -/
theorem test_encoder_faults : passes (
    let s := withEnc encUp { winCnt := 3 }; let t := after (.faultWindowEnd 1) s
    let s2 := withEnc encUp { ampOut := 16 }; let t2 := after (.amplitudeFault 1) s2
    let s3 := withEnc (encUp.setBit Reg.ENC_STATUS 8 true 1) { ampIn := 16, phase := some 5 }; let t3 := after (.amplitudeRecover 1) s3
    let s4 := encUp; let t4 := after (.openPairFault 1 .a 1000) s4
    let s5 := encUp.wr Reg.ENC_INDEX_NOM 12000 1; let t5 := after (.openPairFault 1 .z 1000) s5
    let s6 := withEnc (encUp.setBit Reg.ENC_STATUS (encPairBit .a) true 1) { pos := 7 }; let t6 := after (.openPairRecover 1 .a true true) s6
    [s.on .ENC, decide (max 1 (s.f Reg.ENC_FAULT_CFG 0 16 1) * 1000 ≤ s.since (s.enc 1).winStart), decide ((t.enc 1).winCnt = 0),
     decide ((t.enc 1).winStart = s.raw), decide (t.regs = s.regs),
     !s2.bit Reg.ENC_STATUS 8 1, t2.bit Reg.ENC_STATUS 8 1, t2.bit Reg.ENC_STATUS 4 1, decide (t2.encs = s2.encs),
     !t3.bit Reg.ENC_STATUS 8 1, decide ((t3.enc 1).phase = none), kept s3 t3 [Reg.ENC_STATUS.at 1 0 0],
     s4.pairWatched 1 .a, t4.bit Reg.ENC_STATUS (encPairBit .a) 1, t4.bit Reg.ENC_STATUS 4 1, decide (t4.encs = s4.encs),
     s5.pairWatched 1 .z, t5.bit Reg.ENC_STATUS (encPairBit .z) 1, t5.bit Reg.ENC_STATUS 4 1,
     !t6.bit Reg.ENC_STATUS (encPairBit .a) 1, (t6.enc 1).lvlA, (t6.enc 1).lvlB, decide ((t6.enc 1).pos = 7)]) = true := by decide +kernel

/-- R61, R62, R649: the encoder supply. -/
theorem test_encoder_supply : passes (
    let s := encUp.setBit Reg.ENC_CFG 5 true 1; let t := after (.encSupplyFault 1 4499 100000) s
    let s2 := s.setBit Reg.ENC_STATUS 9 true 1; let t2 := after (.encSupplyRetry 1) s2; let t3 := after (.encSupplyRecover 1 4500 100000) s2
    [s.bit Reg.ENC_CFG 5 1, t.bit Reg.ENC_STATUS 9 1, t.bit Reg.ENC_STATUS 4 1, decide ((t.enc 1).supplyTries = 0),
     decide (100000000 ≤ s2.since (s2.enc 1).supplyAt), decide ((t2.enc 1).supplyTries = 1), decide ((t2.enc 1).supplyAt = s2.raw),
     decide (t2.regs = s2.regs), !s2.fieldAbsent, !t3.bit Reg.ENC_STATUS 9 1, decide (t3.encs = s2.encs),
     kept s2 t3 [Reg.ENC_STATUS.at 1 0 0]]) = true := by decide +kernel

/-- R45, R48 to R54: samples and motion. A sample of 0.5 V and 0 V has the nominal 1.0 Vpp. -/
theorem test_encoder_motion : passes (
    let s := (encUp.wr Reg.ENC_CFG 2 1).setBit Reg.ENC_STATUS 8 true 1
    let t := after (.analogueSample 1 500000 0) (withEnc s { ampOut := 4 }); let t2 := after (.analogueSample 1 100000 0) (withEnc s { ampOut := 4 })
    let s3 := withEnc (encUp.setBit Reg.ENC_STATUS 1 true 1) { pos := 5 }; let t3 := after (.observerUpdate 1) s3
    let s4 := encUp.setBit Reg.ENC_STATUS 1 false 1; let t4 := after (.standstillIn 1) s4
    let s5 := encUp.setBit Reg.ENC_STATUS 2 true 1; let t5 := after (.settled 1) s5
    [decide (s.encMode 1 = 2), !s.fieldAbsent, decide ((t.enc 1).ampOut = 0), decide ((t2.enc 1).ampOut = 5), decide (t.regs = s.regs),
     decide (t2.regs = s.regs), decide ((t3.enc 1).pos = 5), decide (t3.rd Reg.ENC_SPEED 1 = 0), decide (t3.rd Reg.ENC_ACCEL 1 = 0),
     decide ((posDiff (s3.enc 1).pos (s3.enc 1).pRef).natAbs < 256), decide ((posDiff (s3.enc 1).pos (s3.enc 1).pTurn).natAbs < 256),
     !s4.bit Reg.ENC_STATUS 1 1, decide (clampN 1 1000 (s4.f Reg.ENC_OBS_CFG 20 10 1) * 1000000 ≤ s4.since (s4.enc 1).stillSince),
     t4.bit Reg.ENC_STATUS 1 1, t4.bit Reg.ENC_EVENT 3 1, decide (t4.encs = s4.encs), s5.bit Reg.ENC_STATUS 2 1,
     decide (settleNs (max 1 (s5.f Reg.ENC_OBS_CFG 16 4 1)) (clampN 10 10000 (s5.f Reg.ENC_OBS_CFG 0 14 1)) ≤ s5.since (s5.enc 1).settleFrom),
     !t5.bit Reg.ENC_STATUS 2 1, t5.bit Reg.ENC_EVENT 5 1, decide (t5.encs = s5.encs),
     kept s5 t5 [Reg.ENC_STATUS.at 1 0 0, Reg.ENC_EVENT.at 1 0 0]]) = true := by decide +kernel

/-! ### Registers -/

theorem test_register_writes : passes (
    let s := up.wr Reg.ENC_EVENT 0xF 2; let t := after (.registerWrite .host (Reg.ENC_IRQ_EN.at 2 0 0) 0xFFFFFFFF) s
    let u := after (.registerWrite .host (Reg.ENC_EVENT.at 2 0 0) 5) s
    [s.takes .host Reg.ENC_IRQ_EN 2 0 0, decide (t.rd Reg.ENC_IRQ_EN 2 = Reg.ENC_IRQ_EN.rw), kept s t [Reg.ENC_IRQ_EN.at 2 0 0],
     s.takes .host Reg.ENC_EVENT 2 0 0, decide (u.rd Reg.ENC_EVENT 2 = 0xA), kept s u [Reg.ENC_EVENT.at 2 0 0]])
    = true := by decide +kernel

/-- R5, R6, R7, R11. -/
theorem test_pairs_and_reads : passes (
    let s := up; let t := after (.pairHiWrite .host (Reg.ENC_PRESET_HI.at 2 0 0) 3) s
    let a := Reg.ENC_POS_LO.at 2 0 0; let s2 := { up with encs := [(2, { pos := 0x500000007 })] }; let t2 := after (.pairLoRead a) s2
    let rc := Reg.MOON_CNT.at 1 3 0; let s3 := up.wr Reg.MOON_CNT 9 1 3; let t3 := after (.rcRead rc) s3
    let s4 := up; let t4 := after (.unmappedAccess 0x3FFFFFC true) s4
    [s.takes .host Reg.ENC_PRESET_HI 2 0 0, decide (AMap.look t.pairPend (Reg.ENC_PRESET_LO.at 2 0 0) = some 3), decide (t.regs = s.regs),
     s2.live, decide (s2.power ≠ 3), decide ((findReg a).map (fun p => (p.1.addr, p.2)) = some (Reg.ENC_POS_LO.addr, 2, 0, 0)),
     decide ((highOf Reg.ENC_POS_LO).map (fun r => r.addr) = some Reg.ENC_POS_HI.addr),
     decide (((blockAt a).map (fun b => s2.on b)).getD false = true), decide (AMap.look t2.pairLatch a = some 5), kept s2 t2 [a],
     decide ((findReg rc).map (fun p => (p.1.addr, p.2)) = some (Reg.MOON_CNT.addr, 1, 3, 0)), decide (Reg.MOON_CNT.rc ≠ 0),
     decide (((blockAt rc).map (fun b => s3.on b)).getD false = true), decide (t3.rd Reg.MOON_CNT 1 3 = 0), kept s3 t3 [rc],
     s4.noRegister 0x3FFFFFC, counted s4 t4 Reg.SYS_UNMAPPED_CNT, t4.bit Reg.SYS_HOST_EVENT 1,
     kept s4 t4 [Reg.SYS_UNMAPPED_CNT.addr, Reg.SYS_HOST_EVENT.addr]]) = true := by decide +kernel

/-- R12: writes that firmware decides. -/
theorem test_checked_writes : passes (
    let s := { up with host := { up.host with decideQ := [(Reg.WT_MAX_LEN.at 3 0 0, 1000, none)] } }
    let t := after .checkedWriteDecided s
    let bad := { s with job := { s.job with jobs := [(5, { img := {}, binds := [(0, { pipe := 0, out := 0, lanes := 8 })] })] } }
    let u := after .checkedWriteDecided bad
    [s.live, s.on .WT, decide (s.core.cp = .running), decide (s.regCheck (s.candidate Reg.WT_MAX_LEN 3 0 0 1000 none) Reg.WT_MAX_LEN 3 0 0 = none),
     decide (t.host.decideQ = []), decide (t.rd Reg.WT_MAX_LEN 3 = 1000),
     decide (bad.regCheck (bad.candidate Reg.WT_MAX_LEN 3 0 0 1000 none) Reg.WT_MAX_LEN 3 0 0 = some S_DEADLINE_INFEASIBLE),
     decide ((u.rd Reg.SYS_REFUSED_STATUS).toNat = S_DEADLINE_INFEASIBLE),
     decide (u.rd Reg.WT_MAX_LEN 3 = bad.rd Reg.WT_MAX_LEN 3), decide ((u.rd Reg.SYS_REFUSED_ADDR).toNat = Reg.WT_MAX_LEN.at 3 0 0)])
    = true := by decide +kernel

/-- R78, R82: port configuration and trigger grid. -/
theorem test_port_writes : passes (
    let s := up; let v : Word := 0; let t := after (.camPortCfgWrite .host 2 v) s
    let t2 := after (.trigGridWrite .host 2 false 0x8000) s; let t3 := after (.trigGridWrite .host 2 true 77) s
    let b : Word := 0x1F; let t4 := after (.camPortCfgWrite .host 2 b) s
    [s.takes .host Reg.CAM_PORT_CFG 2 0 0, decide (s.portCfgCheck (s.candidate Reg.CAM_PORT_CFG 2 0 0 v none) 2 = none),
     decide (t.rd Reg.CAM_PORT_CFG 2 = 0), s.takes .host Reg.CAM_TRIG_PITCH 2 0 0,
     decide (s.regCheck (s.candidate Reg.CAM_TRIG_PITCH 2 0 0 0x8000 none) Reg.CAM_TRIG_PITCH 2 0 0 = none),
     decide (t2.rd Reg.CAM_TRIG_PITCH 2 = 0x8000),
     decide (s.regCheck (s.candidate Reg.CAM_TRIG_PHASE 2 0 0 77 none) Reg.CAM_TRIG_PHASE 2 0 0 = none),
     decide (t3.rd Reg.CAM_TRIG_PHASE 2 = 77),
     decide ((s.portCfgCheck (s.candidate Reg.CAM_PORT_CFG 2 0 0 b none) 2).isSome), decide (t4.rd Reg.CAM_PORT_CFG 2 = 0),
     decide (t4.cams = s.cams), decide ((t4.rd Reg.SYS_REFUSED_ADDR).toNat = Reg.CAM_PORT_CFG.at 2 0 0)]) = true := by decide +kernel

/-! ### Watchtower -/

/-- Detection on, INPUT lane 0 on channel 0 with MIN_LEN 10 and MAX_LEN 1,000; channel 0 knows its position, 5,000 sc. -/
def wtUp : State :=
  let s := (((((up.wr Reg.WT_CTRL 3).wr Reg.WT_LANE_CFG 0x02000001 0).wr Reg.WT_MIN_LEN 10 0).wr Reg.WT_MAX_LEN 1000 0).wr Reg.WT_DET_OFFSET 0 0).wr
    Reg.WT_COMMIT_LEAD 2000 0
  (s.setBit Reg.ENC_STATUS 0 false 0).setEnc 0 { pos := 5000 }

/-- A closed comet of lane 0 that runs from 1,000 to 1,200 sc, its commit at 3,000 sc, its ejection from 4,000 to 4,200 sc. -/
def closedComet : Comet :=
  { seq := 9, st := .closed, lane := 0, src := 0, enc := 0, lead := 1000, trail := 1200, trailIn := true, commitOfs := 2000,
    ejectOfs := 3000, ejectExt := 0, winPre := 0, winPost := 0, ejectLen := 200, group := 2, tCreate := 500 }

/-- A token of queue 20: entry, SEQ, KIND and class. -/
def token (i seq kind cls : Nat) : QItem :=
  { first := 0, entries := 1, producer := 0, seq := 0, len := 16, data := bytesLE 2 i ++ bytesLE 2 seq ++ [BitVec.ofNat 8 kind, BitVec.ofNat 8 cls]
      ++ List.replicate 10 0, published := true, pad := false, done := false }

theorem test_detection : passes (
    let s := wtUp.setDet 0 { lead := some 4990 }; let t := after (.cometCreate 0) s
    let s2 := (wtUp.setDet 0 { lead := some 4000, comet := some 7, done := true }).setComet 7 { closedComet with st := .opened, lead := 4000, trailIn := false }
    let t2 := after (.overlength 0) s2
    let s3 := (wtUp.wr Reg.WT_LANE_CFG 0x21 0).setIspOut 0 0 { rows := [{ aligned := 7, trig := 0, time := 0, marks := 0, seq := 3, pix := [1, 2, 3], users := [65536] }] }
    let s3 := (s3.wr Reg.WT_IMG_MINPIX 4 0)
    let t3 := after (.imageRowObserved 0) s3
    [s.wtCycleNow, s.laneOn 0, decide (s.laneSrc 0 = 0), !s.laneSpoilt 0, !s.belowMark 0 4990,
     reached (s.lanePos 0) (posAdd 4990 (s.detOffset 0 + (s.rd Reg.WT_MIN_LEN 0).toNat)),
     decide (((t.comet 0).map (fun c => (c.st, c.lead, c.lane, c.enc))) = some (.opened, 4990, 0, 0)),
     kept s t [Reg.WT_CNT.at 0 0 0, Reg.WT_STATUS.addr],
     reached (posAdd (s2.lanePos 0) (-(s2.detOffset 0))) (posAdd 4000 (s2.rd Reg.WT_MAX_LEN 0).toNat),
     decide (((t2.comet 7).map (fun c => (c.st, c.trail, c.trailIn, c.flag 9))) = some (.closed, 5000, true, true)), decide (t2.regs = s2.regs),
     s3.laneOn 0, decide (s3.laneSrc 0 = 2), decide ((s3.ringRows (s3.f Reg.WT_IMG_CFG 0 3 0) (s3.f Reg.WT_IMG_CFG 3 2 0) 65536).length = 1),
     !s3.rowOccupied 0 (firstComponents (s3.f Reg.ISP_OUT_CFG 8 2 0 0) [1, 2, 3]), decide ((t3.det 0).gap = 1), decide (t3.regs = s3.regs)])
    = true := by decide +kernel

theorem test_verdicts_and_commit : passes (
    let s := (wtUp.setComet 5 closedComet).setQueue 20 { items := [token 5 9 1 11] }; let t := after .verdictTokenArrival s
    let s2 := (wtUp.setComet 5 closedComet).setQueue 20 { items := [token 5 9 4 12] }; let t2 := after .provisionalTokenArrival s2
    let s3 := (wtUp.setComet 5 { closedComet with flags := 1, verdict := 37 }).wr Reg.WT_EJECT_MASK 0x20 0 1; let t3 := after (.commit 5) s3
    let s4 := (wtUp.wr Reg.WT_CTRL 2).setComet 5 { closedComet with phase := .withheld, ejectOfs := 9000 }; let t4 := after .wtCycle s4
    [s.wtCycleNow, decide ((s.queue 20).head = some (token 5 9 1 11)),
     decide ((t.comet 5).map (fun c => (c.flag 0, c.verdict, c.pVerdict, c.st)) = some (true, 11, 5000, .closed)),
     decide ((s2.queue 20).head = some (token 5 9 4 12)),
     decide ((t2.comet 5).map (fun c => (c.flag 1, c.prov, c.verdict, c.st)) = some (true, 12, 0, .closed)),
     reached (s3.cometPos closedComet) (posAdd 1000 2000),
     decide ((t3.comet 5).map (fun c => (c.st, c.pCommit, c.tCommit, c.verdict, c.eject)) = some (.committed, 5000, s3.now, 37, true)),
     decide (s4.wt.comets = [(5, { closedComet with phase := .withheld, ejectOfs := 9000 })]), decide (s4.wt.dets = []),
     decide ((t4.comet 5).map (fun c => (c.st, c.pCommit, c.verdict)) = some (.committed, 5000, 2))])
    = true := by decide +kernel

/-- Output 5 is group 2's, driven by WATCHTOWER; pulses last 1 to 5 ms. -/
def ejUp : State :=
  ((wtUp.wr Reg.WT_GRP_DO 0x20 2).wr Reg.FIO_DO_CFG 1 5).wr Reg.WT_GRP_PULSE 0x000503E8 2

theorem test_local_ejections : passes (
    let c : Comet := { closedComet with st := .committed, eject := true }
    let s := ejUp.setComet 5 c; let t := after (.ejectionStart 5) s
    let h : Comet := { c with phase := .holding, onAt := some (s.raw - 2000000) }
    let s2 := ejUp.setComet 5 h; let t2 := after (.ejectionEnd 5) s2
    let p := { h with endPending := true }
    let s3 := ejUp.setComet 5 p; let t3 := after (.minPulseEnd 5) s3
    let q := { h with onAt := some (s.raw - 6000000) }
    let s4 := ejUp.setComet 5 q; let t4 := after (.pulseCap 5) s4
    let s5 := ejUp.setComet 5 { h with onAt := none }; let t5 := after (.outputEnergised 5) s5
    [s.wtCycleNow, !s.bit Reg.WT_GRP_CFG 0 2, reached (s.cometPos c) c.startPos,
     decide ((t.comet 5).map (fun c => (c.phase, c.ejActive, c.flag 10)) = some (.holding, true, true)), (t.dout 5).on,
     reached (s2.cometPos h) h.endPos, decide (s2.minPulse 2 ≤ s2.since (s.raw - 2000000)),
     decide ((t2.comet 5).map (fun c => (c.phase, c.ejActive, c.pOff)) = some (.ended, false, 5000)),
     decide ((t3.comet 5).map (fun c => (c.phase, c.ejActive, c.tOff)) = some (.ended, false, s3.now)),
     decide (s4.maxPulse 2 ≤ s4.since (s.raw - 6000000)),
     decide ((t4.comet 5).map (fun c => (c.phase, c.ejActive, c.flag 16)) = some (.ended, false, true)), t4.bit Reg.WT_EVENT 6,
     !s5.fieldGone, s5.groupHas 2 5, t5.bit Reg.FIO_DO_STATE 5,
     decide ((t5.comet 5).map (fun c => (c.onAt, c.tOn, c.pOn)) = some (some s5.raw, s5.now, 5000)), kept s5 t5 [Reg.FIO_DO_STATE.addr]])
    = true := by decide +kernel

theorem test_retire_and_export : passes (
    let c : Comet := { closedComet with st := .committed, phase := .withheld }
    let s := wtUp.setComet 5 c; let t := after (.retire 5) s
    let r := { c with st := .retired }
    let s2 := ((wtUp.setComet 5 r).wr Reg.QM_Q_CFG 0x80000320 18); let t2 := after (.exportRecord 5) s2
    let s3 := wtUp.setComet 5 r; let t3 := after (.exportRecord 5) s3
    [reached (s.cometPos c) c.endPos, decide (t.wt = (s.setComet 5 r).wt), decide (t.regs = s.regs), s2.on .WT, s2.bit Reg.WT_CTRL 1, s2.qRoom 18 4, decide (t2.comet 5 = none),
     decide ((t2.queue 18).items.map (fun i => (i.data, i.published)) = [(fitBytes (s2.qSize 18) (r.bytes 5), true)]),
     !s3.qRoom 18 4, decide (t3.comet 5 = some r), t3.bit Reg.WT_EVENT 7, decide (t3.queues = s3.queues)])
    = true := by decide +kernel

theorem test_remote_banks : passes (
    let c : Comet := { closedComet with st := .committed, eject := true, trailIn := false }
    let g := wtUp.wr Reg.WT_GRP_CFG 0x11 2
    let s := g.setComet 5 c; let t := after (.ejectSend 5) s
    let k : BankCmd := { typ := 1, comet := 5, cometSeq := 9, seq := 33, tOn := 0, tOff := 0, attempts := 1, sentAt := 0 }
    let d : List Byte := [1, 0x81, 0, 0] ++ bytesLE 4 (9 * 65536 + 5) ++ bytesLE 4 33 ++ List.replicate 28 0
    let s2 := s.setGroup 2 { seq := 34, outstanding := [k] }; let t2 := after (.remoteAck 2 d) s2
    let t3 := after (.ackTimeout 2 33) s2; let s4 := s.setGroup 2 { seq := 34, outstanding := [{ k with attempts := 3 }] }
    let t4 := after (.ackTimeout 2 33) s4; let t5 := after (.arpRefresh 2 (some 0x0102030405)) (wtUp.wr Reg.WT_GRP_CFG 1 2)
    [s.wtCycleNow, s.bit Reg.WT_GRP_CFG 0 2, s.bit Reg.WT_GRP_CFG 4 2, reached (s.cometPos c) c.startPos,
     decide ((t.comet 5).map (fun c => c.flag 17) = some true), decide ((t.group 2).outstanding.length = 1), decide ((t.group 2).seq = 1),
     decide (s2.ackMatch 2 d = some k), decide ((t2.group 2).outstanding = []),
     decide (s2.f Reg.WT_GRP_BANK_PORT 16 16 2 * 1000 ≤ s2.since 0),
     decide ((t3.group 2).outstanding = [{ k with attempts := 2, sentAt := s2.raw }]), decide ((t4.group 2).outstanding = []),
     t5.bit Reg.WT_GRP_CFG 4 2, decide (t5.rd64 Reg.WT_GRP_BANK_MAC_LO Reg.WT_GRP_BANK_MAC_HI 2 = 0x0102030405)])
    = true := by decide +kernel

/-! ### Field inputs and outputs -/

theorem test_inputs : passes (
    let s := (up.wr Reg.FIO_DI_CFG 0x00C70026 2).setEnc 1 { pos := 777 }; let t := after (.diEdge 2 true 200) s
    let none_ := s.setF Reg.FIO_SUPPLY 16 2 0; let u := after (.diEdge 2 true 200) none_
    let t2 := after (.diOpen 2 199 10000000) s; let s3 := s.setBit Reg.FIO_DI_STATE 18 true; let t3 := after (.diOpenClear 2 501) s3
    let t4 := after (.fieldSupplyChange 165 50000) s
    [decide (s.f Reg.FIO_DI_CFG 16 16 2 + 1 ≤ 200), !(s.din 2).level, !s.fieldGone, (t.din 2).level, decide ((t.din 2).capTime = s.now),
     decide ((t.din 2).capPos = 777), decide (t.bit Reg.FIO_DI_STATE 2 = (true != s.bit Reg.FIO_DI_CFG 1 2)),
     none_.fieldGone, decide (u.regs = none_.regs), decide (u.fio = none_.fio), s.bit Reg.FIO_DI_CFG 2 2, !s.bit Reg.FIO_DI_STATE 18, t2.bit Reg.FIO_DI_STATE 18, t2.bit Reg.FIO_EVENT 3,
     kept s t2 [Reg.FIO_DI_STATE.addr, Reg.FIO_EVENT.addr, Reg.FIO_CNT.at 5 0 0], !t3.bit Reg.FIO_DI_STATE 18, kept s3 t3 [Reg.FIO_DI_STATE.addr],
     decide (supplyClass 165 = 1), decide (t4.f Reg.FIO_SUPPLY 16 2 = 1), decide (t4.f Reg.FIO_SUPPLY 0 9 = 165), t4.bit Reg.FIO_EVENT 0])
    = true := by decide +kernel

/-- Output 5 belongs to HOST, output 6 to WATCHTOWER. -/
def fioUp : State := ((up.wr Reg.FIO_DO_CFG 0 5).wr Reg.FIO_DO_CFG 1 6).wr Reg.FIO_DO_SET 0x40

theorem test_outputs : passes (
    let s := fioUp; let t := after (.fioDoSetWrite .host 0x20) s; let s2 := t.wr Reg.FIO_DO_STATE 0x60; let t2 := after (.outputDeenergised 5) s2
    let s3 := s.setDout 7 { pulse := some (s.raw + 5), on := true }; let t3 := after (.triggerPulseEnd 7) s3
    let s4 := s.setDout 7 { pulse := some (s.raw - 5), on := true }; let t4 := after (.triggerPulseEnd 7) s4
    [s.takes .host Reg.FIO_DO_SET 0 0 0, decide (t.rd Reg.FIO_DO_SET = 0x60), !t.pm.hostBlocked, (t.dout 5).on, decide (t2.rd Reg.FIO_DO_STATE = 0x40),
     kept s2 t2 [Reg.FIO_DO_STATE.addr], decide (t2.fio = s2.fio), decide (2 ^ 63 ≤ (s3.raw - (s.raw + 5)).toNat), decide ((t3.dout 7).pulse.isSome),
     decide ((s4.raw - (s.raw - 5)).toNat < 2 ^ 63), decide ((t4.dout 7).pulse = none), decide ((t4.dout 7).pulseEnd = some s4.raw)])
    = true := by decide +kernel

/-- Outputs 8 and 9 are a pair, led by 8, with OPEN_EN and RESTART. -/
def gangUp : State := ((up.wr Reg.FIO_GANG 0x10).wr Reg.FIO_DO_CFG 0x30 8).setDout 9 { on := true }

theorem test_output_faults : passes (
    let s := gangUp; let t := after (.overload 9 100000) s; let t2 := after (.overtemp 9 151) s
    let s3 := s.wr Reg.FIO_DO_STATE 0x200; let t3 := after (.openOn 9 2999 1000000) s3
    let t4 := after (.openOff 8 3001 1000000) s; let t5 := after (.stuckOn 9 12001 5000000) s
    let t6 := after (.outputWarnClear 9 .stuckOn) t5
    [decide (s.leader 9 = 8), (s.dout 9).on, (t.dout 8).faulted, t.bit Reg.FIO_DO_STATUS 1 8, !(t.dout 9).on,
     !s.bit Reg.FIO_DO_STATUS 2 8, (t2.dout 8).faulted, t2.bit Reg.FIO_DO_STATUS 2 8, s3.bit Reg.FIO_DO_STATE 9,
     t3.bit Reg.FIO_DO_STATUS 3 8, s.bit Reg.FIO_DO_CFG 5 8, !(s.dout 8).on, t4.bit Reg.FIO_DO_STATUS 4 8, !s.doCommanded 9,
     t5.bit Reg.FIO_DO_STATUS 5 8, !t6.bit Reg.FIO_DO_STATUS 5 8, kept t5 t6 [Reg.FIO_DO_STATUS.at 8 0 0]])
    = true := by decide +kernel

theorem test_output_recovery : passes (
    let f := ((gangUp.setBit Reg.FIO_DO_STATUS 1 true 8).setDout 8 { faulted := true }); let t := after (.outputRestart 9 129) f
    let g := (up.setBit Reg.FIO_DO_STATUS 2 true 4).setDout 4 { faulted := true }; let t2 := after (.fioDoClear .host 0x10 0xFFFFFFEF) g
    let t3 := after (.fioDoClear .host 0x10 0x10) g
    [f.bit Reg.FIO_DO_CFG 4 (f.leader 9), (f.dout (f.leader 9)).faulted, decide (10000000 ≤ f.since (f.dout (f.leader 9)).faultAt),
     !(t.dout 8).faulted, !t.bit Reg.FIO_DO_STATUS 1 8, g.takes .host Reg.FIO_DO_CLEAR 0 0 0, decide (g.leader 4 = 4), !g.bit Reg.FIO_DO_CFG 4 4,
     decide (g.gang 4 = [4]), !(t2.dout 4).faulted, (t3.dout 4).faulted]) = true := by decide +kernel

/-! ### Memory and translation -/

theorem test_memory_init_and_bytes : passes (
    let s := (up.poke 77 5).wr Reg.MEM_STATUS 1; let t := after .memoryInitDone s
    let u := (up.poke 11 9).pokes 10 [1, 0, 3]
    let t2 := after (.refreshRateChange 2 90) s
    [s.on .MEM, s.bit Reg.MEM_STATUS 0, decide (t.mem = []), t.initDone, !t.bit Reg.MEM_STATUS 0, t.bit Reg.MEM_EVENT 0,
     kept s t [Reg.MEM_STATUS.addr, Reg.MEM_EVENT.addr], decide (u.mem = [(10, 1), (12, 3)]), decide (Memory.wf u.mem),
     t2.bit Reg.MEM_STATUS 10, decide (t2.rd Reg.MEM_TOWER_TEMP 2 = 90), t2.bit Reg.MEM_EVENT 1,
     kept s t2 [Reg.MEM_STATUS.addr, Reg.MEM_EVENT.addr, Reg.MEM_TOWER_TEMP.at 2 0 0]]) = true := by decide +kernel

theorem test_integrity : passes (
    let e : MergeEnt := { sector := 3, bytes := (List.range 64).map (fun i => (i, BitVec.ofNat 8 (i + 1))), at_ := up.raw - 256, sources := [] }
    let s := up.setMerge 0 [e]; let t := after (.mergeTimeout 0) s
    let s2 := (up.wr Reg.MEM_SCRUB_CFG 1).wr64 Reg.MEM_PATROL_PTR_LO Reg.MEM_PATROL_PTR_HI 0x7FFFFFFC0; let t2 := after (.patrolRead 0 0 0) s2
    let s3 := up.wr Reg.MEM_SCRUB_ADDR_LO 0x1040; let t3 := after (.rewrite .firmware 0 0) s3
    let s4 := s3.wr Reg.MEM_INJECT_LANES 3; let t4 := after (.injectArm .firmware) s4
    [decide (s.mergeOf 0 = [e]), decide (256 ≤ s.since e.at_), decide (vaultOf 3 = 0), decide (AMap.Sorted e.bytes), decide (t.mergeOf 0 = []),
     decide (t.mem.length = 64), decide (t.byte 192 = 1), decide (t.byte 255 = 64),
     s2.bit Reg.MEM_SCRUB_CFG 0, decide (t2.rd64 Reg.MEM_PATROL_PTR_LO Reg.MEM_PATROL_PTR_HI = 0),
     s3.takes .firmware Reg.MEM_SCRUB_CMD 0 0 0, decide (s3.scrubSector = 0x41), decide (s3.badSyms 0x41 = 0), decide (t3.rd Reg.MEM_SCRUB_RESULT = 0x13F),
     kept s3 t3 [Reg.MEM_SCRUB_RESULT.addr, Reg.MEM_ECC_CNT.at 0 6 0],
     s4.takes .firmware Reg.MEM_INJECT 0 0 0, decide (t4.memory.inject = some (0x41, 3)), decide (t4.regs = s4.regs)]) = true := by decide +kernel

/-- Job 5 with two pages, the first at physical page 40, mapped. -/
def mapped : State :=
  let s := { up with job := { up.job with jobs := [(5, { img := {}, pages := [40, 41] })] } }
  s.mapJob 5 [40, 41] 2

/-- The merge buffers of a state written out. -/
def settled (s : State) : State := ((upTo 32).flatMap (fun v => s.mergeOf v)).foldl (fun t x => t.retireMerge x) s

theorem test_translation : passes (
    let x : XltSusp := { handle := 5, va := 65536, offset := 0, write := false, kind := 1, seq := 0, stream := 1, tile := 0, level := 3 }
    let s := { mapped with memory := { mapped.memory with susp := [(3, x)], tlb := [(3, [(5, 1), (6, 1), (5, 3)])] } }
    let t := after (.xltResume .firmware 3) s; let t2 := after (.xltResumeFail .firmware 3) s
    let s3 := s.wr Reg.XLT_INVAL_VA_LO 0x10000; let t3 := after (.xltInval .firmware 5 1) s3; let t4 := after (.xltInvalAll .firmware) s3
    let m := settled mapped
    [s.takes .firmware Reg.XLT_RESUME 0 0 0, decide (AMap.look s.memory.susp 3 = some x), decide (AMap.look t.memory.susp 3 = none),
     t2.bit Reg.XLT_EVENT 1, s3.takes .firmware Reg.XLT_INVAL 0 0 0, decide (t3.memory.tlb = [(3, [(6, 1), (5, 3)])]), decide (t4.memory.tlb = []),
     kept s3 t3 [Reg.XLT_CNT.at 6 0 0], decide ((m.walk 5 0x1002A false).2 = .ok (41 * 65536 + 0x2A)),
     decide ((m.walk 5 0x2002A false).2 = .stop .bad 3)]) = true := by decide +kernel

theorem test_migration : passes (
    let s := ((settled mapped).poke (41 * 65536 + 7) 99).wr Reg.XLT_MIG_VA_LO 0x10000; let s := s.wr Reg.XLT_MIG_DST_LO (60 * 65536)
    let t := after (.migrationStart .firmware 5 false) s; let u := after .migrationDone t
    [s.takes .firmware Reg.XLT_MIG_CTRL 0 0 0, !s.bit Reg.XLT_STATUS 1,
     decide (s.entryAddr 5 ((s.rd64 Reg.XLT_MIG_VA_LO Reg.XLT_MIG_VA_HI).toNat % 2 ^ 40 / pageBytes false * pageBytes false) false = some (l3Base 5 0 + 8)),
     t.memory.mig.isSome, t.bit Reg.XLT_STATUS 1, decide ((t.walk 5 0x10007 false).2 = .stop .migrating 3),
     decide (u.memory.mig = none), !u.bit Reg.XLT_STATUS 1, u.bit Reg.XLT_EVENT 2, decide ((u.walk 5 0x10007 false).2 = .ok (60 * 65536 + 7)),
     decide (u.byte (60 * 65536 + 7) = 99)]) = true := by decide +kernel

/-! ### Hardware queues -/

/-- The packet queue of Worked example 1 (spec/15_hardware_queues.md): queue 300, 64-byte entries, 16 entries, consumer host,
its ring at entry 14. -/
def pktUp : State := (up.wr Reg.QM_Q_CFG 0xD0480001 300).setQueue 300 { tail := 14, seq := 41, credits := [(1, 16)] }

/-- The steps of Worked example 1 from the empty ring: a PAD, two packets back-filled in the other order, and the pops. -/
theorem test_worked_packets : passes (
    let s := pktUp; let t1 := after (.packetReserve 300 1 150) s; let t2 := after (.packetReserve 300 1 100) t1
    let t3 := after (.backFill 300 1 42 7 []) t2; let t4 := after (.backFill 300 1 41 7 []) t3
    let p1 := after (.pop .firmware 300) t4; let p2 := after (.pop .firmware 300) p1; let p3 := after (.pop .firmware 300) p2
    [decide ((t1.queue 300).items.map (fun i => (i.first, i.entries, i.pad, i.published)) = [(14, 2, true, true), (0, 3, false, false)]),
     decide ((t2.queue 300).items.map (fun i => (i.first, i.entries)) = [(14, 2), (0, 3), (3, 2)]), decide ((t2.queue 300).fill = 2),
     decide ((t3.queue 300).fill = 2), decide ((t4.queue 300).fill = 7), decide (p1.rd Reg.QM_POP_STATUS = 0x812C0096),
     decide (p2.rd Reg.QM_POP_STATUS = 0x812C0064), decide ((p2.queue 300).fill = 0), decide ((p3.rd Reg.QM_POP_STATUS).toNat = 300 * 65536 + S_NOT_VALID)])
    = true := by decide +kernel

/-- Record queue 301: 16-byte entries, 16 entries, HOLD; queue 302 the same with DROP and one entry short of full. -/
def recUp : State := (up.wr Reg.QM_Q_CFG 0x80400001 301).wr Reg.QM_Q_CFG 0xA0400001 302

/-- A published record of 16 bytes. -/
def recItem (k : Nat) : QItem :=
  { first := k, entries := 1, producer := 0, seq := 0, len := 16, data := List.replicate 16 (BitVec.ofNat 8 k), published := true, pad := false, done := false }

theorem test_producers : passes (
    let s := recUp; let t := after (.creditRequest 301 4 3) s; let g := s.setQueue 301 { waiting := [(4, 3), (5, 1)] }; let t2 := after (.creditGrant 301) g
    let t3 := after (.packetReserve 300 1 4097) pktUp
    let full := s.setQueue 302 { items := (List.range 16).map recItem }; let t4 := after (.recordPublish 302 4 [1]) full
    let t5 := after (.recordPublish 301 4 [1, 2]) s
    let r := after (.packetReserve 300 1 64) (pktUp.setQueue 300 { seq := 41, credits := [(1, 16)] }); let t6 := after (.abandonedPad 300 1 41) r
    [s.qOn 301, decide ((t.queue 301).waiting = [(4, 3)]), kept s t [Reg.QM_CNT.at 3 0 0], decide (3 ≤ g.qFree 301), decide ((t2.queue 301).waiting = [(5, 1)]),
     decide ((t2.queue 301).credit 4 = 3), decide (t2.rd Reg.QM_Q_CREDIT 301 = 3), kept g t2 (queueRegs 301),
     pktUp.qOn 300, pktUp.qPacket 300, !pktUp.qLenOk 300 4097, t3.bit Reg.QM_EVENT 1, decide (t3.queues = pktUp.queues),
     full.qDrop 302, !full.qRoom 302 4, t4.bit Reg.QM_EVENT 1, decide (t4.queues = full.queues), s.qRoom 301 4,
     decide ((t5.queue 301).items.map (fun i => i.data) = [[1, 2] ++ List.replicate 14 0]), kept s t5 (Reg.QM_CNT.addr :: queueRegs 301),
     ((r.queue 300).reserved 1 41).isSome, decide ((t6.queue 300).items.map (fun i => (i.pad, i.published)) = [(true, true)]),
     kept r t6 (Reg.QM_CNT.addr :: Reg.QM_CNT.at 4 0 0 :: queueRegs 300)]) = true := by decide +kernel

theorem test_fault_queue : passes (
    let s := up.wr Reg.QM_Q_CFG 0x805A0001 16; let t := after (.recordPublish 16 0 [1, 2, 12, 4]) s
    [s.qOn 16, decide ((fitBytes 64 [1, 2, 12, 4])[2]? ≠ some 13), s.qRoom 16 (natLE (((fitBytes 64 [1, 2, 12, 4]).drop 2).take 1)),
     decide ((t.queue 16).items.map (fun i => i.data) = [fitBytes 64 [1, 2, 12, 4]])]) = true := by decide +kernel

theorem test_consumers : passes (
    let s := (recUp.setF Reg.QM_Q_CFG 27 2 1 301).setQueue 301 { items := [recItem 0, recItem 1, recItem 2] }; let t := after (.cpClaim 301 2) s
    let h := recUp.setQueue 301 { items := [recItem 0, recItem 1] }; let t2 := after (.entryRelease 301 1) h
    let t3 := after (.pop .host 301) h; let e := recUp.setF Reg.QM_Q_CFG 27 2 2 301; let t4 := after (.pop .host 301) e
    let p := h.setF Reg.QM_Q_CFG 27 2 2 301; let t5 := after (.pop .host 301) (p.setQueue 301 { items := [recItem 7] })
    [decide (s.qCons 301 = 1), decide ((t.queue 301).claimed = 2), decide (t.regs = s.regs), decide (h.qCons 301 = 0),
     decide ((t2.queue 301).items = [recItem 1]), h.takes .host Reg.QM_POP 0 0 0, decide ((t3.rd Reg.QM_POP_STATUS).toNat = 301 * 65536 + S_QUEUE_ACCESS),
     t3.bit Reg.QM_EVENT 2, decide (t3.queues = h.queues), decide (e.qCons 301 = 2), decide ((e.queue 301).head = none),
     decide ((t4.rd Reg.QM_POP_STATUS).toNat = 301 * 65536 + S_NOT_VALID), kept e t4 [Reg.QM_POP_STATUS.addr],
     decide ((t5.rd Reg.QM_POP_STATUS).toNat = 2 ^ 31 + 301 * 65536 + 16), decide (t5.rd Reg.QM_POP_BUF 3 = 0x07070707)]) = true := by decide +kernel

theorem test_accounts : passes (
    let s := (up.wr Reg.QM_CLIENT_WAIT_MAX 9 3).wr Reg.QM_CLIENT_CNT 4 5 2; let t := after (.clientClear .host 3) s; let u := after (.clientClearAll .host) s
    [s.takes .host Reg.QM_CLIENT_CLEAR 0 0 0, decide (t.rd Reg.QM_CLIENT_WAIT_MAX 3 = 0), decide (t.rd Reg.QM_CLIENT_CNT 5 2 = 4),
     kept s t ([Reg.QM_CLIENT_TIME_LO.at 3 0 0, Reg.QM_CLIENT_TIME_HI.at 3 0 0, Reg.QM_CLIENT_WAIT_LO.at 3 0 0, Reg.QM_CLIENT_WAIT_HI.at 3 0 0,
       Reg.QM_CLIENT_WAIT_MAX.at 3 0 0] ++ (List.range 8).map (fun k => Reg.QM_CLIENT_CNT.at 3 k 0)),
     decide (u.rd Reg.QM_CLIENT_CNT 5 2 = 0), decide (u.rd Reg.QM_CLIENT_WAIT_MAX 3 = 0)]) = true := by decide +kernel


/-- Queue 301 for the host, its ring at sector 1,024 and the second copy at sector 2^25; one record waits. -/
def mirUp : State :=
  (((recUp.setF Reg.QM_Q_CFG 27 2 2 301).wr64 Reg.QM_Q_BASE_LO Reg.QM_Q_BASE_HI 0x10000 301).wr64 Reg.QM_Q_MIRROR_LO
    Reg.QM_Q_MIRROR_HI 0x80000000 301).setQueue 301 { items := [recItem 0] }

theorem test_mirror : passes (
    let s := mirUp.setErrs [(1024, { syms := 3, injected := true })]; let t := after (.pop .host 301) s
    let u := after (.recordPublish 301 4 [1]) { mirUp with memory := { mirUp.memory with inject := some (2 ^ 25, 3) } }
    [decide (s.ringSectors (s.ringFirst 301) 301 0 1 = [1024]), decide (s.ringSectors (s.ringMirror 301) 301 0 1 = [2 ^ 25]),
     decide (1 < popCount (s.badSyms 1024)), decide (s.badSyms (2 ^ 25) = 0), decide (t.badSyms 1024 = 0),
     counted s t Reg.MEM_ECC_CNT 0 7, decide ((t.rd Reg.QM_POP_STATUS).toNat = 2 ^ 31 + 301 * 65536 + 16),
     decide (u.memory.inject = none)]) = true := by decide +kernel
/-! ### Host link, snapshots -/

/-- `up` with the fixed queues of R433, but for the addresses of their rings. -/
def qUp : State := fixedQueues.foldl (fun s p => s.wr Reg.QM_Q_CFG (p.2 ||| 0x80000000) p.1) up

theorem test_doorbell_and_mail : passes (
    let s := qUp; let t := after (.doorbell 3) s; let t2 := after (.doorbell 3) t; let t3 := after (.mailboxWrite 3 5 [1, 2]) t
    let t4 := after (.mailboxWrite 3 5 [1, 2, 3]) s
    [s.fnReady 1, decide (s.mbState 3 ≠ 1), decide (s.mbState 3 ≠ 2), s.qRoom 0 0, decide (t.mbState 3 = 1), decide (t.mbState 4 = s.mbState 4),
     decide (t.host.bells = [3]), decide ((t.queue 0).items.map (fun i => i.data) = [fitBytes (s.qSize 0) (bytesLE 8 3 ++ bytesLE 8 s.now.toNat)]),
     kept s t (Reg.F1_MB_STATE.addr :: Reg.QM_CNT.addr :: queueRegs 0), decide (t2.host = t.host), counted t t2 Reg.F1_CNT 2,
     kept t t2 [Reg.F1_CNT.at 2 0 0], decide (t3.host = t.host), counted t t3 Reg.F1_CNT 1, decide (t4.mailBytes 3 5 3 = [1, 2, 3]),
     decide (t4.regs = s.regs)]) = true := by decide +kernel

theorem test_bulk : passes (
    let s := { qUp with host := { qUp.host with staging := some { size := 10, data := [9] } } }; let t := after (.bulkWrite [1, 2] true) s
    let u := after (.bulkWrite [1, 2] false) s
    [s.fnReady 1, decide (t.host.staging = some { size := 10, data := [9, 1, 2] }), decide (t.rd64 Reg.F1_BULK_COUNT_LO Reg.F1_BULK_COUNT_HI = 3),
     kept s t [Reg.F1_BULK_COUNT_LO.addr, Reg.F1_BULK_COUNT_HI.addr, Reg.F1_CNT.at 3 0 0], decide (u.host = s.host)]) = true := by decide +kernel

/-- Register index, Worked example 1: WT_EJECT_MASK[3][0] through the aperture, one byte after the other. -/
theorem test_aperture : passes (
    let s := up.wr Reg.F2_PAGE 0x50; let w := fun o (v : Byte) (s : State) => after (.apertureByteAccess o true v) s
    let a := w 0x11C0 4 s; let t := w 0x11C3 0 (w 0x11C2 0 (w 0x11C1 0 a))
    let u := after (.apertureByteAccess 0x11C0 false 0) t
    [s.fnReady 2, decide (fld a.host.latch 0 8 = 4), decide (a.regs = s.regs), decide (t.rd Reg.WT_EJECT_MASK 3 0 = 4), decide (u.host.latch = 4)])
    = true := by decide +kernel

theorem test_export : passes (
    let r := fun (k : Nat) => ({ recItem k with len := 128, data := List.replicate 128 (BitVec.ofNat 8 k) } : QItem)
    let s := qUp.setQueue 18 { items := [r 1, r 2, r 3] }; let t := after (.exportRead 256) s; let u := after .reread t; let v := after (.exportRead 256) u
    [s.fnReady 3, !s.bit Reg.F3_CTRL 0, decide (s.host.rereadRest = []), decide (t.host.lastRead = (s.exportHead.take 2).map (fun i => i.data)),
     decide (t.host.lastRead.length = 2), decide ((t.queue 18).items.length = 1), u.bit Reg.F3_CTRL 0, decide (u.host = t.host),
     decide (v.host.lastRead = t.host.lastRead), !v.bit Reg.F3_CTRL 0, decide (v.queues = u.queues), kept u v [Reg.F3_CTRL.addr]]) = true := by decide +kernel

theorem test_interface : passes (
    let s := { qUp with host := { qUp.host with bells := [3], mail := [(4096, 7)] } }; let t := after (.sdioReset true) s
    let h := { State.reset with core := { alive := true, held := true } }; let t2 := after (.ioEnable 1) h; let t3 := after (.ioEnable 2) s
    let t4 := after .cdDisable s; let b := { s with core := { s.core with cp := .booting, romDone := true } }; let t5 := after .firmwareReady b
    [s.live, decide (s.power ≠ 3), !t.host.cardUp, decide (t.host.ioEnable = 0), decide (t.host.bells = [3]), decide (t.host.mail = [(4096, 7)]),
     decide (t.regs = s.regs), decide (t.core = s.core), h.core.held, !h.core.mrst, decide (h.core.cp = .off), decide (t2.core.cp = .booting), !t2.core.held,
     t2.host.ioEnable.getLsbD 1, t3.host.ioEnable.getLsbD 2, decide (t3.core = s.core), t4.host.cdDisable, decide (t4.regs = s.regs),
     b.live, decide (t5.core.cp = .running), decide (t5.host.ioReady = 14), !t5.flash.orderly]) = true := by decide +kernel

theorem test_snapshots : passes (
    let s := (up.setEnc 0 { pos := 0x100000007 }).wr Reg.SNAP_CFG 0x19; let t := after (.fire .host) s; let t2 := after (.snapinEdge 20) s
    let l := after (.snapinEdge 20) t; let m := (s.setEnc 0 { pos := 1000 }).wr Reg.SNAP_MATCH_LO 1000; let t3 := after (.snapMatch 999) m
    let d := after .snapshotLatchDone t; let a := after (.arm .host) d
    [s.on .SNAP, s.takes .host Reg.SNAP_CTRL 0 0 0, decide (s.f Reg.SNAP_STATUS 0 2 = 0), decide (t.f Reg.SNAP_STATUS 0 2 = 1),
     decide (t.rd Reg.SNAP_NUMBER = s.rd Reg.SNAP_NUMBER + 1), decide (t.rd Reg.SNAP_SOURCES = 1),
     decide (t.rd64 Reg.SNAP_TIME_LO Reg.SNAP_TIME_HI = s.now), decide (t.rd Reg.SNAP_BLK 3 0 = 7), decide (t2.rd Reg.SNAP_SOURCES = 16),
     s.bit Reg.SNAP_CFG 3, decide (l.rd Reg.SNAP_SOURCES = 17), kept t l [Reg.SNAP_SOURCES.addr], m.on .ENC, m.bit Reg.SNAP_CFG 0,
     decide (m.f Reg.SNAP_MATCH_CFG 2 2 = 0), decide (posDiff 999 (m.rd64 Reg.SNAP_MATCH_LO Reg.SNAP_MATCH_HI) < 0),
     decide (0 ≤ posDiff (m.enc (m.f Reg.SNAP_MATCH_CFG 0 2)).pos (m.rd64 Reg.SNAP_MATCH_LO Reg.SNAP_MATCH_HI)), t3.snap.fwdOff,
     decide (t3.rd Reg.SNAP_SOURCES = 2), decide (t3.f Reg.SNAP_STATUS 0 2 = 1), decide (d.f Reg.SNAP_STATUS 0 2 = 2), d.bit Reg.SNAP_STATUS 2,
     d.bit Reg.SNAP_EVENT 0, decide (a.f Reg.SNAP_STATUS 0 2 = 0), !a.bit Reg.SNAP_STATUS 3, kept d a [Reg.SNAP_STATUS.addr]]) = true := by decide +kernel

/-- The bit of SNAPOUT ends with its pulse. -/
theorem test_snapout : passes (let t := after .snapoutPulseEnd { up with snap := { up.snap with snapOut := true } }; [!t.snap.snapOut, decide (t.regs = up.regs)])
    = true := by decide +kernel

/-! ### Power -/

/-- A command of opcode `op` posted in mailbox `m`. -/
def posted (s : State) (m op : Nat) (payload : List Byte) : State :=
  let t := (s.putMail m 0 (bytesLE 2 op ++ bytesLE 2 payload.length ++ bytesLE 4 0xABCD ++ bytesLE 8 0 ++ payload)).setMb m 1
  { t with host := { t.host with bells := t.host.bells ++ [m] } }

/-- R500: the check value of the CRC-32C with these parameters, of the digits 1 to 9. -/
theorem test_crc : passes [decide (crc32c ((List.range 9).map (fun i => BitVec.ofNat 8 (49 + i))) = 0xE3069283)] = true := by decide +kernel

theorem test_operating_points : passes (
    let s := (up.setMb 3 2).wr Reg.PM_OP_STATUS 0x03840202; let s := { s with pm := { s.pm with opTarget := some (2, 3) } }; let t := after .opChangeDone s
    let c := up.wr Reg.PM_OP_STATUS 0x03840000; let t2 := after (.throttleStepDown 115) c
    let w := { (up.wr Reg.PM_OP_STATUS 0x032001D5) with pm := { up.pm with coolSince := some (up.raw - 100000000) } }; let t3 := after (.throttleStepUp 60) w
    let t4 := after (.temperatureHot 106) up
    [s.live, decide (s.power ≠ 3), decide (t.pm.opTarget = none), decide (t.opEffective = 2), decide (t.f Reg.PM_OP_STATUS 16 16 = 700), !t.bit Reg.PM_OP_STATUS 9,
     t.bit Reg.PM_EVENT 0, decide (t.mbState 3 = 3), decide (natLE (t.mailBytes 3 0 2) = S_OK), decide (c.throttleC ≤ 115), c.stepDue 10000000, decide (c.opCap < 3),
     decide (t2.opCap = 1), decide (t2.opEffective = 1), t2.bit Reg.PM_EVENT 1, decide (t2.pm.lastStep = some c.raw), decide (60 < w.throttleC - 5),
     decide (100000000 ≤ w.since (up.raw - 100000000)), w.stepDue 100000000, decide (0 < w.opCap), decide (t3.opCap = w.opCap - 1),
     decide (t3.opEffective = max w.opRequested (w.opCap - 1)), decide (sfld (t4.rd Reg.PM_TJ) 0 8 = 106), decide (sfld (up.rd Reg.PM_TJ) 0 8 < 105),
     t4.bit Reg.PM_EVENT 3, kept up t4 [Reg.PM_TJ.addr, Reg.PM_EVENT.addr]]) = true := by decide +kernel

/-- `up` with a power-state entry in progress to `p`, which mailbox 3 waits for. -/
def entering (p : Nat) : State :=
  let s := (up.poke 9 9).setMb 3 2
  { s.setBit Reg.PM_STATE 2 true with pm := { s.pm with entry := some (p, some 3) } }

theorem test_entry_s1 : passes (
    let s := entering 1; let t := after .powerEntryDone s
    [s.live, decide (s.core.cp = .running), !s.pm.wakePending, decide (s.pm.entry = some (1, some 3)), decide (t.power = 1), decide (t.pm.entry = none),
     !t.bit Reg.PM_STATE 2, decide (t.mbState 3 = 3), decide (t.byte 9 = 9)]) = true := by decide +kernel

theorem test_entry_s3 : passes (
    let s := entering 3; let t := after .powerEntryDone s
    [s.live, decide (t.pm.entry = none), decide (t.core.cp = .off), t.fio.forcedOff, decide (t.mem = [])]) = true := by decide +kernel

/-- Battery electrode line, Worked example 1 (spec/20_power_states_and_retention.md): a wake frame to address 0x12, pattern
and start bit. -/
theorem test_wake : passes (
    let s := ((up.wr Reg.PM_STATE 2).wr Reg.PM_WAKE_ADDR 0x12).wr Reg.PM_WAKE_CFG 3; let t := after (.wakeBusFrame 0x12 1) s
    let p := (s.wr Reg.PM_WAKE_LANES 0x100).wr Reg.PM_WAKE_PATTERN 0x100; let b := [(200000, 200000), (200000, 200000), (200000, 0)]
    let t2 := after (.wakePattern 8 b) p; let z := s.wr Reg.PM_STATE 3; let t3 := after .sdioStartBitWake z
    [decide (s.f Reg.PM_WAKE_ADDR 0 7 = 0x12), s.bit Reg.PM_WAKE_CFG 0, decide (s.power = 2), decide (t.pm.waking = some 2), decide (t.pm.busAnswer = some true),
     t.bit Reg.PM_WAKE_CAUSE 0, t.bit Reg.PM_EVENT 4, t.bit Reg.PM_STATE 2, kept s t [Reg.PM_WAKE_CAUSE.addr, Reg.PM_EVENT.addr, Reg.PM_STATE.addr],
     p.bit Reg.PM_WAKE_LANES 8, p.bit Reg.PM_WAKE_PATTERN 8, patternSeen b, decide (t2.pm.waking = some 2), t2.bit Reg.PM_WAKE_CAUSE 2,
     z.bit Reg.PM_WAKE_CFG 1, decide (t3.pm.waking = some 3), t3.bit Reg.PM_WAKE_CAUSE 1]) = true := by decide +kernel

theorem test_wake_from_s1 : passes (
    let s := { ((up.poke 9 9).wr Reg.PM_STATE 5) with pm := { up.pm with waking := some 1 } }; let t := after (.wakeDone true) s
    [decide (s.pm.wakeReply = none), decide (t.power = 0), decide (t.pm.waking = none), decide (t.encs = s.encs), decide (t.byte 9 = 9)]) = true := by decide +kernel

theorem test_wake_from_s2 : passes (
    let s := { ((up.poke 9 9).wr Reg.PM_STATE 6) with pm := { up.pm with waking := some 2 } }; let t := after (.wakeDone false) s
    [decide (s.pm.wakeReply = none), decide (t.power = 0), decide (t.pm.waking = none), !s.storeGood false, t.bit Reg.PM_EVENT 5, decide (t.byte 9 = 9)])
    = true := by decide +kernel

/-- The exit from S3 assigns the spires by the fuses, which nothing in Lean can see: its state is not evaluated here. -/
theorem test_wake_from_s3 : passes (
    let s := { ((up.poke 9 9).wr Reg.PM_STATE 7) with pm := { up.pm with waking := some 3 } }
    [decide (s.pm.wakeReply = none), decide (s.pm.waking = some 3), !s.storeGood false]) = true := by decide +kernel

theorem test_thermal_trip : passes (
    let t := after (.thermalTrip 125 20) (up.poke 9 9)
    [decide (t.mem = []), t.fio.forcedOff, decide (t.core.cp = .off), t.pm.tripHold]) = true := by decide +kernel

/-! ### Boot, insertion, removal -/

theorem test_boot : passes (
    let s := { up with core := { up.core with cp := .booting, romDone := false }, flash := { up.flash with firmware := none } }; let t := after .powerOnReset s
    [s.live, decide (s.flash.firmware = none), decide (t.core.cp = .recovery), t.bit Reg.SEC_STATUS 0, t.bit Reg.SEC_EVENT 0, decide (t.host.ioReady = 2)])
    = true := by decide +kernel

theorem test_seating_and_reset : passes (
    let t := after (.seated 10000000) State.reset; let s := up.poke 9 9; let m := after (.mrst 10000) s; let r := after .mrstRelease m
    let q := after (.emergencyQuiesce 1 2000) s; let u := after (.busUndervoltage 339) s
    [t.core.alive, t.core.held, decide (t.core.cp = .off), decide (t.rd Reg.PM_HOTPLUG = 7), decide (t.rd Reg.WT_CTRL = Reg.WT_CTRL.reset), decide (t.mem = []),
     m.core.mrst, m.core.held, decide (m.core.cp = .off), m.bit Reg.PM_HOTPLUG 3, m.host.cardUp, decide (m.mem = []), m.core.enabledOnce, !r.core.mrst,
     !r.core.held, decide (r.core.cp = .booting), q.core.quiesced, q.fio.forcedOff, !q.bit Reg.PM_HOTPLUG 0, !q.bit Reg.PM_HOTPLUG 2, decide (q.mem = []),
     !u.core.alive, decide (u.regs = []), decide (u.mem = [])]) = true := by decide +kernel

theorem test_watchdog : passes (
    let s := up; let t := after (.watchdogTimeout 1 0) s; let u := after (.warmRestartDone false) ({ t with core := { t.core with restartRec := none } }.setMb 3 2)
    let h := { up with core := { up.core with restartTimes := [up.raw - 5, up.raw - 9] } }; let t2 := after (.watchdogTimeout 1 0) h
    [s.live, decide (t.core.warmRestarts = 1), decide (t.core.cp = .restarting), decide (u.core.cp = .running), u.bit Reg.F1_EVENT 16, decide (u.mbState 3 = 1),
     decide (t2.core.cp = .halted), t2.bit Reg.SNAP_EVENT 4]) = true := by decide +kernel

theorem test_supplies_and_cages : passes (
    let s := up.wr Reg.SNAP_SUPPLY (setFld 0 30 2 2); let t := after (.powerInputChange true 300 2000000) s
    let c := after (.cageInsert 2 9) up; let p := after (.cagePowerFault 2 1000000) c; let i := after (.cageInterrupt 2) c; let r := after (.cageRemove 2) c
    [decide (inputState 300 2000000 ≠ none), decide (t.f Reg.SNAP_SUPPLY 12 12 = 300), decide (some (t.f Reg.SNAP_SUPPLY 30 2) = inputState 300 2000000),
     t.bit Reg.SNAP_EVENT 3, c.bit Reg.LN_CAGE_STATUS 0 2, decide (c.f Reg.LN_CAGE_STATUS 4 4 2 = 8), c.bit Reg.LN_CAGE_STATUS 9 2, c.bit Reg.LN_CAGE_EVENT 2,
     p.bit Reg.LN_CAGE_STATUS 8 2, p.bit Reg.LN_CAGE_EVENT 10, i.bit Reg.LN_CAGE_STATUS 1 2, i.bit Reg.LN_CAGE_EVENT 14,
     decide (r.rd Reg.LN_CAGE_STATUS 2 = 0), r.bit Reg.LN_CAGE_EVENT 6]) = true := by decide +kernel

/-! ### Time -/

theorem test_time_writes : passes (
    let s := up; let t := after (.timeRateWrite .host 1000) s; let t2 := after (.timeOffsetApply .host 77) s; let t3 := after (.timeAdj .host (-5)) s
    let p := s.setBit Reg.TIME_PTP_CFG 0 true; let t4 := after (.timeAdj .host 5) p
    [s.takes .host Reg.TIME_RATE 0 0 0, !s.bit Reg.TIME_PTP_CFG 0, decide (t.rd Reg.TIME_RATE = 1000), decide (t.now = s.now), decide (t.rd64 Reg.TIME_OFFSET_LO Reg.TIME_OFFSET_HI = s.timeAt s.raw), decide (t.rd64 Reg.TIME_ANCHOR_LO Reg.TIME_ANCHOR_HI = s.raw), s.takes .host Reg.TIME_OFFSET_LO 0 0 0,
     decide (t2.now = 77), t2.bit Reg.TIME_STATUS 0, !t2.bit Reg.TIME_STATUS 1, t2.bit Reg.TIME_EVENT 0, decide (t3.now = s.now - 5), t3.bit Reg.TIME_EVENT 0,
     s.takes .host Reg.TIME_ADJ 0 0 0, p.takes .host Reg.TIME_ADJ 0 0 0, decide (t4.now = p.now), decide ((t4.rd Reg.SYS_REFUSED_STATUS).toNat = S_BUSY),
     decide ((t4.rd Reg.SYS_REFUSED_ADDR).toNat = Reg.TIME_ADJ.addr), t4.bit Reg.TIME_EVENT 4,
     decide (t4.f Reg.TIME_STATUS 16 16 = S_BUSY)]) = true := by decide +kernel

theorem test_time_refused_under_ptp : passes (
    let p := up.setBit Reg.TIME_PTP_CFG 0 true
    let t := after (.pairHiWrite .host Reg.TIME_OFFSET_HI.addr 5) p; let u := after (.timeRateWrite .host 5) p
    [p.takes .host Reg.TIME_OFFSET_HI 0 0 0, decide (t.pairPend = p.pairPend), decide (t.f Reg.TIME_STATUS 16 16 = S_BUSY),
     t.bit Reg.TIME_EVENT 4, decide ((t.rd Reg.SYS_REFUSED_ADDR).toNat = Reg.TIME_OFFSET_HI.addr), decide (t.now = p.now),
     p.takes .host Reg.TIME_RATE 0 0 0, decide (u.rd Reg.TIME_RATE = p.rd Reg.TIME_RATE), u.bit Reg.TIME_EVENT 4]) = true := by
  decide +kernel



/-- A PTP message of domain 0 by UDP/IPv4. -/
def ptpMsg (k : PtpKind) (domain : BitVec 8) : PtpMsg :=
  { kind := k, domain := domain, layer2 := false, twoStep := true, origin := 5000, correction := 0, better := false, timescale := true, sameMaster := true }

theorem test_ptp_receive : passes (
    let s := (up.wr Reg.LN_MAC_IPV4 0x0A000001 0).setF Reg.TIME_STATUS 4 3 3; let s := s.wr Reg.TIME_PTP_CFG 1
    let t := after (.ptpReceive 0 (ptpMsg .sync 9)) s; let u := after (.ptpReceive 0 (ptpMsg .sync 0)) s
    [s.on .TIME, !s.ptpAccepts 0 (ptpMsg .sync 9), counted s t Reg.TIME_CNT 4, decide (t.time = s.time), kept s t [Reg.TIME_CNT.at 4 0 0],
     s.ptpAccepts 0 (ptpMsg .sync 0), decide (s.ptpState = 3), decide (s.core.cp = .running), decide (u.time.t1 = 5000), decide (u.time.t2 = s.rxStamp 0),
     decide (u.time.lastSync = some s.raw), u.time.syncWaits, decide (u.now = s.now), kept s u [Reg.TIME_CNT.at 1 0 0]]) = true := by decide +kernel

theorem test_ptp_send : passes (
    let s := (up.wr Reg.TIME_PTP_CFG 1).setF Reg.TIME_STATUS 4 3 4; let t := after .ptpSyncSend s; let t2 := after .ptpAnnounceSend s
    let d := s.setF Reg.TIME_STATUS 4 3 3; let t3 := after .ptpDelayReqSend d
    let l := { d with time := { d.time with lastSync := some 0 } }; let t4 := after .announceTimeout (l.setBit Reg.TIME_STATUS 1 true)
    [s.ptpOn, decide (s.ptpState = 4), s.ptpDue 0 (logNs (clampI (-7) 4 (sfld (s.rd Reg.TIME_PTP_INTERVAL) 0 8))), decide ((t.mac 0).txq.map (fun f => (f.cls, f.tag)) = [(1, .ptp .sync)]),
     s.ptpDue 1 (logNs (sfld (s.rd Reg.TIME_PTP_INTERVAL) 8 8)), decide ((t2.mac 0).txq.map (fun f => (f.cls, f.tag)) = [(1, .ptp .announce)]),
     d.ptpDue 2 (logNs (sfld (s.rd Reg.TIME_PTP_INTERVAL) 16 8)), decide (d.ptpState = 3), decide ((t3.mac 0).txq.map (fun f => (f.cls, f.tag)) = [(1, .ptp .delayReq)]),
     decide (max 2 (l.f Reg.TIME_PTP_INTERVAL 24 8) * logNs (sfld (l.rd Reg.TIME_PTP_INTERVAL) 8 8) ≤ l.since 0), !t4.bit Reg.TIME_STATUS 1]) = true := by decide +kernel

theorem test_history : passes (
    let s := encUp.setEnc 1 { pos := 42 }; let t := after .historyEntry s
    [s.on .TIME, decide (s.raw.toNat % 1000 = 0), decide (s.f Reg.ENC_CFG 0 2 1 ≠ 0),
     decide (AMap.look (AMap.get t.time.hist [] 1) (s.raw.toNat / 1000) = some { pos := 42, unknown := true, epoch := 0 }), decide (t.regs = s.regs)]) = true := by decide +kernel

/-! ### Mailbox commands -/

theorem test_nop : passes (
    let s := posted qUp 3 1 []; let t := after (.nop 3) s; let b := posted qUp 3 1 [1]; let t2 := after (.nop 3) b; let u := posted qUp 3 0x99 []; let t3 := after (.nop 3) u
    [s.serves 3 1 (fun n => decide (n = 0)), decide (t.mbState 3 = 3), decide (natLE (t.mailBytes 3 0 2) = S_OK), t.bit Reg.F1_EVENT 3, kept s t replyRegs,
     b.serves 3 1 (fun n => decide (n ≠ 0)), decide (natLE (t2.mailBytes 3 0 2) = S_BAD_LENGTH), kept b t2 replyRegs,
     u.canServe 3, !knownOps.contains (u.cmdOp 3), decide (natLE (t3.mailBytes 3 0 2) = S_UNKNOWN_COMMAND), kept u t3 replyRegs]) = true := by decide +kernel

theorem test_summary : passes (
    let s := posted qUp 3 2 [0, 0, 0, 0]; let t := after (.stateSummary 3) s
    [s.serves 3 2 (fun n => decide (n = 4)), decide (s.arg 3 0 1 = 0), decide (s.arg 3 1 3 = 0), decide (t.mbState 3 = 3), decide (t.host.generation = 1)])
    = true := by decide +kernel

theorem test_summary_part : passes (
    let sum : List Byte := List.replicate 9 7; let s := posted { qUp with host := { qUp.host with summary := some sum } } 3 2 [1, 0, 0, 0]; let t := after (.stateSummaryPart 3) s
    [s.serves 3 2 (fun n => decide (n = 4)), decide (s.arg 3 0 1 = 1), decide (s.arg 3 1 3 = 0), decide (t.mbState 3 = 3), decide (natLE (t.mailBytes 3 0 2) = S_OK),
     decide (t.host.generation = 0)]) = true := by decide +kernel

theorem test_snapshot_and_attest : passes (
    let s := posted qUp 3 7 []; let t := after (.snapshot 3) s; let a := posted qUp 3 0x41 (List.replicate 32 5)
    [s.serves 3 7 (fun n => decide (n = 0)), s.on .SNAP, decide (s.f Reg.SNAP_STATUS 0 2 = 0), decide (natLE (t.mailBytes 3 0 2) = S_OK),
     decide (natLE (t.mailBytes 3 16 4) = (s.rd Reg.SNAP_NUMBER + 1).toNat), decide (t.f Reg.SNAP_STATUS 0 2 = 1),
     a.serves 3 0x41 (fun n => decide (n = 32))]) = true := by decide +kernel

theorem test_operating_point : passes (
    let s := posted qUp 3 4 [2, 0, 0, 0]; let t := after (.setOperatingPoint 3) s
    [s.serves 3 4 (fun n => decide (n = 4)), decide (s.arg 3 0 1 = 2), decide (s.opRefused 2 = none), decide (t.mbState 3 = 2), decide (t.opRequested = 2),
     decide (t.pm.opTarget = some (2, 3)), t.bit Reg.PM_OP_STATUS 9, kept s t [Reg.PM_OP_STATUS.addr, Reg.F1_MB_STATE.addr]]) = true := by decide +kernel

theorem test_power_state : passes (
    let s := posted qUp 3 5 [0, 0, 0, 0]; let t := after (.setPowerState 3) s; let d := posted qUp 3 5 [2, 0, 0, 0]; let t2 := after (.setPowerState 3) d
    let b := posted (qUp.wr Reg.WT_CTRL 1) 3 5 [3, 0, 0, 0]; let t3 := after (.setPowerState 3) b
    [s.serves 3 5 (fun n => decide (n = 4)), decide (s.pm.waking = none), decide (s.arg 3 0 1 = s.power), decide (natLE (t.mailBytes 3 0 2) = S_OK),
     kept s t (Reg.PM_STATE.addr :: replyRegs), decide (d.power < d.arg 3 0 1), decide (d.entryFails (entryNeeds 2) = none), decide (t2.mbState 3 = 2),
     decide (t2.pm.entry = some (2, some 3)), t2.bit Reg.PM_STATE 2, decide (t2.power = 0), decide (b.entryFails (entryNeeds 3) = some 2),
     decide (natLE (t3.mailBytes 3 0 2) = S_POWER_STATE), decide (natLE (t3.mailBytes 3 8 4) = 2), kept b t3 (Reg.PM_STATE.addr :: replyRegs)]) = true := by decide +kernel

theorem test_removal_and_soft_map : passes (
    let s := posted qUp 3 6 []; let t := after (.orderlyRemove 3) s; let r := posted qUp 3 3 (bytesLE 4 0x5A5A0001)
    let c := posted { qUp with flash := { qUp.flash with softMap := [(4, 0)] } } 3 0x31 (bytesLE 4 0x5A5A0002); let t3 := after (.clearSoftMap 3) c
    [s.serves 3 6 (fun n => decide (n = 0)), decide (s.entryFails [1, 2, 3] = none), t.core.removed, t.core.removeLit, t.flash.orderly, t.fio.forcedOff,
     decide (t.mem = []), r.serves 3 3 (fun n => decide (n = 4)), decide (r.arg 3 0 4 = 0x5A5A0001), c.serves 3 0x31 (fun n => decide (n = 4)),
     decide (c.arg 3 0 4 = 0x5A5A0002), decide (t3.flash.softMap = []), decide (natLE (t3.mailBytes 3 0 2) = S_OK),
     kept c t3 (Reg.MEM_SPARE_STATUS.addr :: replyRegs)]) = true := by decide +kernel

/-- Physical spire 7 is logical spire 9, physical spire 33 a spare. -/
def spireUp : State := (qUp.wr Reg.SPR_ID (0x700 + 0x89) 7).wr Reg.SPR_ID (0x2100 + 0x40) 33

/-- A tile run of job 5. -/
def aRun : TileRun := { handle := 5, tile := 0, slots := [0], startAt := 0, todo := [] }

theorem test_spare_swap : passes (
    let s := posted (spireUp.setEngine 7 { tile := some aRun, resident := some 5 }) 3 0x30 [9, 0, 0, 0]; let t := after (.spareSwap 3) s
    let i := posted spireUp 3 0x30 [9, 0, 0, 0]; let t2 := after (.spareSwap 3) i
    [s.serves 3 0x30 (fun n => decide (n = 4)), decide (s.arg 3 0 1 = 9), decide (s.spireOf 9 = some 7), decide ((s.engine 7).switch = none),
     decide (t.mbState 3 = 2), decide (t.host.swapWait = some (3, 9, 7)), (t.engine 7).swapPending, kept s t [Reg.F1_MB_STATE.addr],
     decide ((i.engine 7).tile = none), decide (i.spareSpire = some 33), decide (natLE (t2.mailBytes 3 0 2) = S_OK), decide (t2.f Reg.SPR_ID 0 8 33 = 128 + 9),
     decide (t2.host.swapWait = none)]) = true := by decide +kernel

theorem test_camera_control : passes (
    let s := posted qUp 3 8 ([2, 0, 0, 0] ++ bytesLE 4 0x100 ++ bytesLE 4 6); let t := after (.camControlRead 3) s
    let w := posted qUp 3 8 ([2, 1, 0, 0] ++ bytesLE 4 0x100 ++ bytesLE 4 2 ++ [5, 6]); let t2 := after (.camControlWrite 3) w
    let p := after (.controlAcknowledge 2 true [1, 2]) t; let d := after (.controlAcknowledge 2 true [3, 4, 5, 6]) p
    let l := { t with raw := t.raw + 200000000 }; let r := after .cameraTimeout l
    let o := { t with raw := t.raw + 200000000, host := { t.host with camXfer := t.host.camXfer.map (fun x => { x with retries := 3 }) } }; let e := after .cameraTimeout o
    [s.camFields 3, s.serves 3 8 (fun n => decide (n = 12)), decide (t.mbState 3 = 2), decide (t.host.camXfer = some { mailbox := 3, port := 2, write := false, addr := 0x100, left := 6, wdata := [], rdata := [], retries := 0, sentAt := s.raw }), kept s t [Reg.F1_MB_STATE.addr],
     w.camFields 3, w.serves 3 8 (fun n => decide (n = 14)), decide (t2.host.camXfer.map (fun x => (x.write, x.wdata)) = some (true, [5, 6])),
     decide (p.host.camXfer.map (fun x => (x.addr, x.left, x.rdata)) = some (0x102, 4, [1, 2])), decide (d.mbState 3 = 3), decide (natLE (d.mailBytes 3 0 2) = S_OK),
     decide (d.mailBytes 3 16 6 = [1, 2, 3, 4, 5, 6]), decide (d.host.camXfer = none), kept p d replyRegs, decide (200000000 ≤ l.since s.raw),
     decide (r.host.camXfer.map (fun x => (x.retries, x.sentAt)) = some (1, l.raw)), decide (natLE (e.mailBytes 3 0 2) = S_CAMERA_TIMEOUT), decide (e.host.camXfer = none)])
    = true := by decide +kernel

/-- Queue 300 of Worked example 1 (spec/15_hardware_queues.md): PACKET, HOLD, consumer host, RING_LOG2 4, 64-byte entries. -/
theorem test_queue_create_and_destroy : passes (
    let p := bytesLE 2 300 ++ [1, 0, 2, 4, 2, 0] ++ bytesLE 4 1; let s := posted (qUp.wr Reg.QM_POOL_FREE 100) 3 0x10 p
    let w := queueWord 1 0 2 4 2 0 1; let f := posted (qUp.wr Reg.QM_POOL_FREE 3) 3 0x10 p; let t2 := after (.queueCreate 3) f
    let d := posted (qUp.wr Reg.QM_Q_CFG (w ||| 0x80000000) 300) 3 0x11 (bytesLE 2 300 ++ [0, 0]); let t3 := after (.queueDestroy 3) d
    let u := d.wr Reg.DEC_REPORT_Q 300; let t4 := after (.queueDestroy 3) u
    [s.serves 3 0x10 (fun n => decide (n = 12)), !s.bit Reg.QM_Q_CFG 31 300, decide (w = 0x50480001), decide (ringKib w ≤ (s.rd Reg.QM_POOL_FREE).toNat),
     decide ((f.rd Reg.QM_POOL_FREE).toNat < ringKib w), decide (natLE (t2.mailBytes 3 0 2) = S_QUEUE_BUDGET), kept f t2 replyRegs,
     d.serves 3 0x11 (fun n => decide (n = 4)), d.bit Reg.QM_Q_CFG 31 300, !d.queueInUse 300, decide (natLE (t3.mailBytes 3 0 2) = S_OK), !t3.bit Reg.QM_Q_CFG 31 300,
     u.queueInUse 300, decide (natLE (t4.mailBytes 3 0 2) = S_BUSY), kept u t4 replyRegs]) = true := by decide +kernel

/-! ### Jobs -/

/-- A list of bytes filled with zeros to a length. -/
def padTo (n : Nat) (l : List Byte) : List Byte := l ++ List.replicate (n - l.length) 0

/-- A tensor descriptor of R260 without parameters. -/
def tensorB (fmt c w h : Nat) : List Byte := padTo 32 (bytesLE 4 fmt ++ bytesLE 4 c ++ bytesLE 2 w ++ bytesLE 2 h ++ bytesLE 4 0xFFFFFFFF)

/-- A stream descriptor of R262 without scales. -/
def streamB (rowBytes tensor kind ringLog2 : Nat) : List Byte :=
  padTo 32 (bytesLE 8 0 ++ bytesLE 4 rowBytes ++ bytesLE 4 64 ++ bytesLE 2 tensor ++ bytesLE 2 0xFFFF ++ [0] ++ bytesLE 1 kind ++ bytesLE 1 ringLog2 ++ [0])

/-- An instruction of R268 for layer 0: OP, END, SRC_A, SRC_B, DST, ROWS. -/
def instrB (op : Nat) (last : Bool) (a b d rows : Nat) : List Byte :=
  bytesLE 16 (op * 2 ^ 120 + last.toNat * 2 ^ 109 + a * 2 ^ 80 + b * 2 ^ 64 + d * 2 ^ 48 + rows)

/-- A tile record of R266 for a spire, with its instructions. -/
def tileB (id trig tokens : Nat) (prog : List (List Byte)) : List Byte :=
  padTo 16 (bytesLE 8 id ++ bytesLE 2 prog.length ++ bytesLE 2 trig ++ bytesLE 4 tokens) ++ prog.flatten

/-- The sections of an image that gathers one row of four components, takes its argmax, and gives the verdict of its class
map: type, entries, bytes. -/
def sections : List (Nat × Nat × List Byte) :=
  [ (1, 2, tensorB 2 4 1 1 ++ tensorB 14 3 1 1), (2, 1, padTo 64 (List.replicate 38 0 ++ bytesLE 2 0xFFFF)),
    (3, 3, streamB 4 0 5 4 ++ streamB 4 0 3 4 ++ streamB 6 1 3 4),
    (4, 3, tileB 0 0 0 [instrB 0x14 true 0 0 1 1] ++ tileB 1 1 1 [instrB 0x11 false 1 0 0 1, instrB 0x3B true 1 0 2 1] ++
      tileB 2 2 0 [instrB 0x07 true 2 0 0 0]),
    (8, 1, padTo 16 [0, 0, 0, 0, 1, 0, 1, 0]), (9, 4, [10, 11, 12, 13]) ]

/-- The next multiple of 64. -/
def up64 (n : Nat) : Nat := (n + 63) / 64 * 64

/-- Section table and sections from an offset on. -/
def layoutB : Nat → List (Nat × Nat × List Byte) → List Byte × List Byte
  | _, [] => ([], [])
  | off, (t, c, b) :: r =>
    let x := layoutB (off + up64 b.length) r
    (bytesLE 2 t ++ bytesLE 2 0 ++ bytesLE 4 c ++ bytesLE 8 off ++ bytesLE 8 b.length ++ bytesLE 8 0 ++ x.1, padTo (up64 b.length) b ++ x.2)

/-- The image (R256, R257). -/
def image : List Byte :=
  let first := up64 (128 + 32 * sections.length)
  let x := layoutB first sections
  padTo first (padTo 128 (bytesLE 4 0x314A5649 ++ bytesLE 2 1 ++ bytesLE 2 128 ++ bytesLE 8 (first + x.2.length) ++ bytesLE 2 sections.length ++ bytesLE 4 0 ++
    [1, 32, 1, 0, 0, 0] ++ bytesLE 4 3 ++ bytesLE 8 1 ++ bytesLE 4 2000 ++ bytesLE 4 2000 ++ bytesLE 4 2000 ++ bytesLE 4 2000 ++ bytesLE 8 2048 ++ bytesLE 8 77) ++ x.1) ++ x.2

/-- All spires, fixed queues and a host queue 300 stand, and the image is staged. -/
def stagedUp : State :=
  let s := (upTo 32).foldl (fun s p => s.wr Reg.SPR_ID (BitVec.ofNat 32 (256 * p + 128 + p)) p) qUp
  let s := (s.wr Reg.QM_Q_CFG 0x90480001 300)
  { s with host := { s.host with staging := some { size := 832, data := image } } }

theorem test_image_validates : passes [decide (image.length = 832), decide (stagedUp.validate image = none)] = true := by decide +kernel

theorem test_load_job : passes (
    let s := posted stagedUp 3 0x21 ([5, 0] ++ bytesLE 2 1 ++ bytesLE 2 300 ++ bytesLE 2 100 ++ bytesLE 8 0); let t := after (.loadJob 3) s
    let j := s.newJob 3 image ((s.allocPages ((parseImage image).pagesNeeded (s.rankIn (parseImage image)))).getD [])
    let t' := s.withNewJob s.freeHandle j image
    [s.serves 3 0x21 (fun n => decide (n = 16)), decide (s.arg 3 0 1 = 5), decide (s.arg 3 6 2 = 100), s.complQOk (s.arg 3 4 2), decide (s.validate image = none),
     decide (s.freeHandle = 1), decide (t'.budgets j = none), t'.aroundOk s.freeHandle, decide (natLE (t.mailBytes 3 0 2) = S_OK), decide (natLE (t.mailBytes 3 16 2) = 1),
     decide ((t.jobOf 1).map (fun x => (x.st, x.prio, x.share)) = some (.loaded, 5, 100)), decide (t.host.staging = none)]) = true := by decide +kernel

/-- The job of the image, but for its digest, as job 5 with pages 40 and 41, loaded, running or in another state. -/
def job5 (st : JobState) : Job := { img := { parseImage image with digest := [] }, st := st, complQ := 300, share := 100, pages := [40, 41] }

/-- `up` with the fixed queues, 32 spires, host queue 300 and job 5, and a command on it posted in mailbox 3. -/
def jobCmd (j : Job) (op : Nat) (rest : List Byte) : State :=
  posted (stagedUp.setJob 5 j) 3 op ([5, 0] ++ rest)

/-- The answer of mailbox 3. -/
def answered (t : State) (status : Nat) : Bool := decide (t.mbState 3 = 3) && decide (natLE (t.mailBytes 3 0 2) = status)

theorem test_start_job : passes (
    let s := jobCmd (job5 .loaded) 0x24 [0, 0]; let t := after (.start 3) s; let l := jobCmd (job5 .loaded) 0x24 [1, 0]; let t2 := after (.startLazy 3) l
    let r := jobCmd (job5 .running) 0x24 [0, 0]; let t3 := after (.start 3) r
    [decide (s.jobOf (s.arg 3 0 2) = some (job5 .loaded)), s.serves 3 0x24 (fun n => decide (n = 4)), decide (s.power = 0), decide (s.agreed (job5 .loaded) = .same),
     s.aroundOk 5, answered t S_OK, decide (natLE (t.mailBytes 3 16 4) = 1), decide ((t.jobOf 5).map (fun x => (x.st, x.run, x.slots, x.lazy)) = some (.running, 1, [], false)),
     decide (l.arg 3 2 2 = 1), !l.onEnabledLane (job5 .loaded), answered t2 S_OK, decide ((t2.jobOf 5).map (fun x => (x.st, x.lazy)) = some (.running, true)),
     answered t3 S_JOB_STATE, kept r t3 replyRegs]) = true := by decide +kernel

theorem test_stop_and_pause : passes (
    let b : Job := { job5 .running with slots := [(0, { st := .active })] }
    let s := jobCmd b 0x25 [0, 0]; let t := after (.stop 3) s; let p := jobCmd b 0x26 [0, 0]; let t2 := after (.pause 3) p
    let z := posted qUp 3 0x25 [7, 0, 0, 0]; let t3 := after (.stop 3) z; let e := jobCmd (job5 .running) 0x25 [0, 0]; let t4 := after (.stop 3) e
    [s.serves 3 0x25 (fun n => decide (n = 4)), answered t S_OK, decide ((t.jobOf 5).map (fun x => x.st) = some .draining), p.serves 3 0x26 (fun n => decide (n = 4)),
     answered t2 S_OK, decide ((t2.jobOf 5).map (fun x => (decide (x.st = .pausing ∨ x.st = .paused), x.before)) = some (true, .running)),
     decide (z.jobOf (z.arg 3 0 2) = none), answered t3 S_HANDLE_INVALID, kept z t3 replyRegs, answered t4 S_OK, decide ((t4.jobOf 5).map (fun x => x.st) = some .done),
     decide ((t4.queue 300).items.length = 1)]) = true := by decide +kernel

theorem test_resume_abort_unload : passes (
    let s := jobCmd (job5 .paused) 0x27 [0, 0]; let t := after (.resume 3) s; let a := jobCmd (job5 .running) 0x28 [0, 0]; let t2 := after (.abort 3) a
    let u := jobCmd (job5 .done) 0x29 [0, 0]; let t3 := after (.unload 3) u; let v := jobCmd (job5 .running) 0x29 [0, 0]; let t4 := after (.unload 3) v
    [s.serves 3 0x27 (fun n => decide (n = 4)), decide ((job5 .paused).before = .running), answered t S_OK, decide ((t.jobOf 5).map (fun x => x.st) = some .running),
     a.serves 3 0x28 (fun n => decide (n = 4)), answered t2 S_OK, decide ((t2.jobOf 5).map (fun x => x.st) = some .aborted), u.serves 3 0x29 (fun n => decide (n = 4)),
     answered t3 S_OK, decide (t3.jobOf 5 = none), answered t4 S_JOB_STATE, kept v t4 replyRegs]) = true := by decide +kernel

theorem test_bind_and_priority : passes (
    let b : Binding := { pipe := 2, out := 1, lanes := 4 }
    let ok := fun (s : State) => (s.wr Reg.WT_COMMIT_LEAD 2000000 2).wr Reg.WT_MAX_LEN 1000 2
    let s := ok (jobCmd (job5 .loaded) 0x23 ([0, 2, 1, 0, 0, 0] ++ bytesLE 4 4)); let t := after (.bindInput 3) s; let t' := s.bindInput 5 (job5 .loaded) 0 b
    let n := (jobCmd (job5 .loaded) 0x23 ([0, 2, 1, 0, 0, 0] ++ bytesLE 4 4)).wr Reg.WT_MAX_LEN 1000 2; let t2 := after (.bindInput 3) n; let n' := n.bindInput 5 (job5 .loaded) 0 b
    let p := jobCmd (job5 .loaded) 0x2A ([9, 0] ++ bytesLE 2 3 ++ bytesLE 2 512); let t3 := after (.setPriority 3) p; let j' : Job := { job5 .loaded with prio := 9, client := 3, share := 512 }
    [s.serves 3 0x23 (fun n => decide (n = 12)), (job5 .loaded).img.inputs.any (fun i => decide (i.input = s.arg 3 2 1)), t'.jobOk 5 t'.effOp 1, s.keepsJobs t',
     answered t S_OK, decide ((t.jobOf 5).map (fun x => x.binds) = some [(0, b)]), !n'.jobOk 5 n'.effOp 1, answered t2 S_DEADLINE_INFEASIBLE, kept n t2 replyRegs,
     p.serves 3 0x2A (fun n => decide (n = 8)), decide ((p.setJob 5 j').budgets j' = none), (p.setJob 5 j').aroundOk 5, answered t3 S_OK, decide (t3.jobOf 5 = some j')])
    = true := by decide +kernel

theorem test_load_begin : passes (
    let s := posted qUp 3 0x20 (bytesLE 8 70000); let t := after (.loadBegin 3) s
    [s.serves 3 0x20 (fun n => decide (n = 8)), decide (s.host.staging = none), decide (s.memory.stagingPages = []), decide (s.allocPages (ceilDiv (s.arg 3 0 8) 65536) = some [0, 1]),
     answered t S_OK, decide (t.host.staging = some { size := 70000, data := [] }), decide (t.memory.stagingPages = [0, 1])]) = true := by decide +kernel

theorem test_fw_update : passes (
    let s := posted qUp 3 0x40 []; let t := after (.fwUpdate 3) s
    let b := { s with host := { s.host with staging := some { size := 4, data := [1, 2, 3, 4] } } }; let t2 := after (.fwUpdate 3) b
    let k := { s with host := { s.host with staging := some { size := 4, data := bytesLE 4 0x534B5649 } } }; let t3 := after (.fwUpdate 3) k
    [s.serves 3 0x40 (fun n => decide (n = 0)), decide (s.host.staging = none), answered t S_LOAD_INCOMPLETE, kept s t replyRegs,
     decide (imgNat [1, 2, 3, 4] 0 4 ≠ 0x534B5649), decide (s.fwCheck [1, 2, 3, 4] = 1), answered t2 S_FW_IMAGE, decide (natLE (t2.mailBytes 3 8 4) = 1), t2.bit Reg.SEC_EVENT 0,
     decide (t2.host.staging = none), decide (0 < s.keySetCheck (bytesLE 4 0x534B5649)), answered t3 S_FW_IMAGE,
     decide (natLE (t3.mailBytes 3 8 4) = 16 + s.keySetCheck (bytesLE 4 0x534B5649))]) = true := by decide +kernel

/-- Bytes of DRAM as a list of cells from an address on. -/
def cells (pa : Nat) (l : List Byte) : List Host.Cell := (l.zipIdx.map (fun p => (pa + p.2, p.1))).filter (fun p => p.2 ≠ 0)

/-- A second weight set that differs in nothing, with its own pages (R309, R310). -/
theorem test_weight_sets : passes (
    let j : Job := { job5 .running with binds := [(0, { pipe := 0, out := 0, lanes := 4 })] }
    let s := { jobCmd j 0x22 [0, 0] with mem := cells (40 * 65536) image, memory := { up.memory with stagingPages := [50] } }; let t := after (.loadWeightSet 3) s
    let j2 : Job := { j with set2 := some { parseImage image with digest := [] }, set2Pages := [40], nextSet := 0 }
    let w := ((jobCmd j2 0x2B ([1, 0] ++ bytesLE 4 4 ++ bytesLE 8 7000)).wr Reg.WT_COMMIT_LEAD 2000000 2).wr Reg.WT_MAX_LEN 1000 2
    let w := { w with mem := s.mem }; let t2 := after (.switchWeights 3) w
    [s.serves 3 0x22 (fun n => decide (n = 4)), decide (s.arg 3 2 2 = 0), decide (s.jobOf (s.arg 3 0 2) = some j), decide (j.set2 = none),
     decide ((s.fwRead j.pages (j.img.imageBytes / 65536 + 2) 0 j.img.imageBytes).2 = some image), !setDiffers image image, decide (s.check3 image = none),
     answered t S_OK, decide ((t.jobOf 5).map (fun x => (x.set2.isSome, x.set2Pages, x.nextSet)) = some (true, [50], 0)),
     w.serves 3 0x2B (fun n => decide (n = 8 + 8 * (maskLanes (w.arg 3 4 4)).length)), decide (w.arg 3 2 1 = 1), decide (maskLanes (w.arg 3 4 4) = j2.lanes),
     w.jobOk 5 w.effOp 2, decide ((w.fwRead [40] 2 0 832).2 = some image), decide (check8 (parseImage image) = none), answered t2 S_OK,
     decide ((t2.jobOf 5).map (fun x => x.switch) = some [(2, 7000)])]) = true := by decide +kernel

/-- Quantisation, Worked example 3, as CALIBRATE finds it in DRAM; operators, Worked example 4: the norms of four entries. -/
theorem test_calibrate_and_banks : passes (
    let r : StatRec := { min := 0xBF800000, max := 0x40000000, flags := 1, count := 1 }
    let s := { jobCmd (job5 .loaded) 0x2C ([2, 0] ++ bytesLE 4 2 ++ bytesLE 8 128 ++ bytesLE 8 4096) with mem := cells (40 * 65536 + 128) r.bytes }; let t := after (.calibrate 3) s
    let e := (List.range 4).map (fun k => ([[0, 0], [3, 0], [6, 8], [0xFD, 0xFC]] : List (List Byte)).getD k [] ++ List.replicate 62 0)
    let b : Job := { img := { tensors := [{ fmt := 1, c := 32, w := 4, h := 1 }], layers := [{ d := 32 }], streams := [{ tensor := 0, rowStride := 64, kind := 2 }], tiles := [{ prog := [(0x26, (instrAt []).2.1, false)] }] }, pages := [40] }
    let p := { jobCmd b 0x2D [0, 0] with mem := cells (40 * 65536) e.flatten }; let t2 := after (.bankPrepare 3) p
    [s.serves 3 0x2C (fun n => decide (n = 24)), decide (s.arg 3 2 1 = 2), (job5 .loaded).holds 128 128, (job5 .loaded).holds 4096 64, answered t S_OK,
     decide (natLE (t.mailBytes 3 16 4) = 1), p.serves 3 0x2D (fun n => decide (n = 4)), decide (b.banksOf 0 = [0]), answered t2 S_OK,
     decide ((List.range 4).map (fun k => BitVec.ofNat 32 (natLE ((settled t2).peek (40 * 65536 + 256 + 4 * k) 4))) = [intF32 0, intF32 9, intF32 100, intF32 25])])
    = true := by decide +kernel

/-! ### Camera ports -/

/-- Port 2, CoaXPress-over-Fiber, with ALIGN POSITION, trigger packets, and a pitch of 100; its position is 105. -/
def camUp0 : State :=
  (((((up.wr Reg.CAM_PORT_CFG 0x101 2).wr Reg.CAM_TRIG_CFG 1 2).wr Reg.CAM_TRIG_PITCH 100 2).wr Reg.CAM_FRAME_CFG 4 2).wr Reg.ENC_STATUS 0 0).setEnc 0 { pos := 105 }

/-- The same with its link up and discovered. -/
def camLive : State := camUp0.wr Reg.CAM_STATUS 3 2

/-- A trigger at position 50. -/
def aTrig : CamTrig := { num := 0, pos := 50, issued := true, late := false, noPos := false }

theorem test_grid_points : passes (
    let s := camLive; let t := after (.gridPointReached 2) s; let t2 := after (.gridPointReached 2) camUp0; let f := s.setCam 2 { fifo := List.replicate 4096 aTrig }; let t3 := after (.gridPointReached 2) f
    let w := s.setCam 2 { fifo := [{ aTrig with issued := false }] }; let t4 := after (.delayedTrigger 2) w; let t5 := after (.triggerAck 2) s
    [s.camEnabled 2, decide (s.camSource 2 = 1), decide (s.camNext 2 = some (100, 100)), s.camReady 2, s.camFree 2, decide ((t.cam 2).high = 100),
     decide ((t.cam 2).fifo = [{ aTrig with pos := 100 }]), decide ((t.cam 2).nextNum = 1), kept s t [], !camUp0.camReady 2, decide ((t2.cam 2).high = 100), decide ((t2.cam 2).fifo = []),
     decide (t2.rd Reg.CAM_CNT 2 10 = 1), decide ((f.cam 2).fifo.length = 4096), t3.bit Reg.CAM_EVENT 3 2, (t3.cam 2).skipped, decide ((w.cam 2).waits.length = 1), w.camFree 2,
     decide ((t4.cam 2).fifo = [{ aTrig with late := true }]), decide (t4.rd Reg.CAM_CNT 2 7 = 1), decide ((t5.cam 2).acks = 1)]) = true := by decide +kernel

/-- Ports 2 (lanes locked) and 3 (GigE Vision on MAC 0, which is up). -/
def camLocked : State :=
  (((camUp0.camLanes 2).foldl (fun s l => s.setBit Reg.LN_LANE_STATUS 0 true l) camUp0).wr Reg.CAM_PORT_CFG 3 3).wr Reg.LN_MAC_CFG 0x80000001 0

theorem test_camera_link : passes (
    let s := camLocked.setCam 2 { lastHeart := some 7 }; let t := after (.camLinkUp 2) s; let g := after (.camLinkUp 3) s; let d := after (.discoveryDone 2 [0] true) t; let d2 := after (.discoveryDone 2 [1] true) t
    let l := camLive.setCam 2 { fifo := [aTrig], nextNum := 9, block := some { no := 0, id := 0, width := 4, exposure := 0, marks := 0 } }; let t2 := after (.camLinkDown 2) l
    let h := camLocked.wr Reg.CAM_STATUS 3 2; let h := h.setCam 2 { lastHeart := some (h.raw - 1000000000), fifo := [aTrig] }; let t3 := after (.heartbeatTimeout 2) h
    let t4 := after (.heartbeatPacket 2) camLocked; let t5 := after (.gevHeartbeat 3) g
    [s.camEnabled 2, !s.camUp 2, s.camCarrier 2, !s.camGev 2, decide (t.f Reg.CAM_STATUS 0 3 2 = 1), t.bit Reg.CAM_EVENT 0 2, (t.cam 2).discovering, s.camGev 3, s.camCarrier 3, decide (g.f Reg.CAM_STATUS 0 3 3 = 1),
     decide ((s.camLanes 2).length = 1), d.bit Reg.CAM_STATUS 1 2, d.bit Reg.CAM_EVENT 2 2, d2.bit Reg.CAM_STATUS 2 2, kept t d2 [Reg.CAM_STATUS.at 2 0 0, Reg.CAM_EVENT.at 2 0 0],
     l.camUp 2, !l.camCarrier 2, decide (t2.f Reg.CAM_STATUS 0 3 2 = 0), t2.bit Reg.CAM_EVENT 1 2, decide ((t2.cam 2).fifo = []), decide ((t2.cam 2).block = none), decide ((t2.cam 2).nextNum = 0),
     decide (1000000000 ≤ h.since (h.raw - 1000000000)), t3.bit Reg.CAM_EVENT 1 2, decide ((t3.cam 2).fifo = []), decide ((t4.cam 2).lastHeart = some camLocked.raw), g.camUp 3, decide (g.camMac 3 = 0),
     decide ((t5.mac 0).txq.length = (g.mac 0).txq.length + 1), decide ((t5.cam 3).beatSent = some g.raw)]) = true := by decide +kernel

/-- Port 2 with four lines a block and lines of six pixels, a block open and its first trigger issued. -/
def camBlockUp : State :=
  ((camLive.wr Reg.CAM_FMT 6 2).wr Reg.CAM_BUF_BASE_LO 8 2).setCam 2 { fifo := [aTrig], blockNo := 1, opened := 1, block := some { no := 0, id := 0, width := 6, exposure := 0, marks := 0 } }

theorem test_camera_blocks : passes (
    let s := camLive.wr Reg.CAM_FMT 6 2; let t := after (.streamBlockHeader 2 0 6 9) s; let t2 := after (.streamBlockHeader 2 5 6 9) s
    let b := camBlockUp; let l := after (.lineArrival 2 0) b; let x : CamLine := { block := 0, index := 0, aligned := 50, trig := 50, time := 0, marks := 0, pix := [], full := true, readers := [1] }
    let f := b.updCam 2 (fun c => { c with slots := List.replicate 256 x }); let d := after (.lineArrival 2 0) f
    let p := after (.streamPacket 2 (.cxp [7, 8] true)) l; let q := after (.streamPacket 2 (.cxp [7, 8] false)) l; let e := after (.blockEnd 2) p
    [decide (s.f Reg.CAM_FMT 17 7 2 = 0), decide ((t.cam 2).block.map (fun b => (b.no, b.width, b.exposure)) = some (0, 6, 9)), decide ((t.cam 2).blockNo = 1), decide ((t2.cam 2).block = none), (t2.cam 2).discard,
     t2.bit Reg.CAM_EVENT 5 2, kept s t2 [Reg.CAM_CNT.at 2 9 0, Reg.CAM_EVENT.at 2 0 0], decide ((b.camTrigOf 2 { no := 0, id := 0, width := 6, exposure := 0, marks := 0 } 0) = some aTrig), decide (0 < b.blockLines 2), decide (b.camAlign 2 = 1),
     decide ((l.cam 2).slots.map (fun x => (x.block, x.index, x.aligned, x.full)) = [(0, 0, 50, false)]), decide (f.camCap 2 ≤ (f.cam 2).slots.length), decide ((d.cam 2).slots.length = 256), t2.bit Reg.CAM_EVENT 5 2, d.bit Reg.CAM_EVENT 3 2,
     decide ((p.cam 2).slots.map (fun x => (x.got, x.pix.take 3)) = [(2, [7, 8, 0])]), decide (((q.cam 2).block.map (fun b => b.marks)) = some 1), decide ((e.cam 2).block = none),
     decide (e.rd Reg.CAM_CNT 2 0 = 1), decide ((e.rd Reg.CAM_CNT 2 4) = 1)]) = true := by decide +kernel

/-- The KIND of the record is a free value, so the hypotheses alone are shown. -/
theorem test_camera_event : passes (
    let s := (camLive.wr Reg.QM_Q_CFG 0xF0480001 19).setQueue 19 { credits := [(34, 4)] }
    [s.camUp 2, s.qOn 19, s.qPacket 19, s.qDrop 19, s.qLenOk 19 11, decide (ceilDiv 11 (s.qSize 19) ≤ s.qFree 19), decide (ceilDiv 11 (s.qSize 19) ≤ s.qCap 19 - (s.queue 19).tail),
     decide ((s.queue 19).reserved 34 (s.queue 19).seq = none)]) = true := by decide +kernel

/-! ### Image pipelines and decoders -/

/-- A line of port 0 that context 0 of pipeline 1 has still to take. -/
def srcLine (i : Nat) : CamLine := { block := 3, index := i, aligned := 0, trig := 0, time := 0, marks := 0, pix := [1, 2, 3, 4], full := true, readers := [4] }

/-- Pipeline 1 with its context 0 on, which reads port 0, whose block of two lines has closed. -/
def ispUp : State := ((((up.wr Reg.ISP_PIPE_CTRL 1 1).wr Reg.CAM_FMT 4 0).wr Reg.CAM_FRAME_CFG 2 0).wr Reg.CAM_PORT_CFG 0x1001 0).setCam 0 { slots := [srcLine 0, srcLine 1] }

theorem test_pipelines : passes (
    let s := ispUp; let t := after (.stripeStart 1) s; let t2 := after (.stripeDone 1) t
    let w := ispUp.setIspPipe 1 { work := some { ctx := 0, lines := [], rows := [], frame := none, startAt := 0 } }; let t3 := after (.stripeDone 1) w
    let g := w.setBit Reg.ISP_OUT_CFG 0 true 1 0
    [s.on .ISP, decide ((s.ispPipe 1).work = none), decide (s.ispPick 1 = some 0), (s.nextWork 1 0).isSome, decide ((t.ispPipe 1).work.map (fun w => (w.ctx, w.lines.length)) = some (0, 2)),
     !t.bit Reg.ISP_PIPE_STATUS 2 1, decide ((t2.ispPipe 1).work = none), t2.bit Reg.ISP_PIPE_STATUS 2 1, decide (t2.rd Reg.ISP_CNT 1 0 = 1), decide ((t2.cam 0).slots.length = 0),
     decide ((t3.ispPipe 1).work = none), g.on .ISP]) = true := by decide +kernel

theorem test_apply : passes (
    let s := up.wr Reg.ISP_PIPE_CTRL 0 1; let t := after (.apply .host 1 0) s; let b := up.setBit Reg.ISP_NR_CFG 2 true 1 0; let t2 := after (.apply .host 1 0) b
    let t3 := after (.applyBoundary 1 0) t; let t4 := after (.applied 1 0) t3; let e := after (.ispEngineReset 1) ispUp
    [s.takes .host Reg.ISP_CTX_APPLY 1 0 0, decide (s.applyCheck 1 0 = none), (t.ispCtx 1 0).pend, t.bit Reg.ISP_CTX_STATUS 0 1 0, decide (t.f Reg.ISP_CTX_STATUS 16 16 1 0 = S_OK),
     kept s t [Reg.ISP_CTX_STATUS.at 1 0 0], (b.applyCheck 1 0).isSome, decide (t2.f Reg.ISP_CTX_STATUS 16 16 1 0 = S_INVALID_CONFIG), t2.bit Reg.ISP_EVENT 4 1, t.atBoundary 1 0,
     (t3.ispCtx 1 0).applying, !t3.bit Reg.ISP_CTX_STATUS 0 1 0, t4.bit Reg.ISP_EVENT 0 1, kept t3 t4 [Reg.ISP_EVENT.at 1 0 0], decide ((e.ispPipe 1).work = none), (e.ispCtx 1 3).waitBlock, (e.ispOut 1 2).gap,
     e.bit Reg.ISP_EVENT 9 1]) = true := by decide +kernel

/-- Stream 3 on MAC 0, which is up, for pictures of up to 64 by 64 pixels; context 0 of pipeline 1 reads it. -/
def decUp : State :=
  (((up.wr Reg.DEC_STREAM_CFG 1 3).wr Reg.LN_MAC_CFG 0x80000001 0).wr Reg.DEC_STREAM_MAX 0x400040 3).wr Reg.ISP_PIPE_CTRL 1 1

/-- The first packet of a picture of 2 by 2 pixels. -/
def aPacket : RtpInfo :=
  { seq := 7, marker := false, first := true, spsOk := none, width := 2, height := 2, depth := 8, irap := true, rows := [[1, 2]], errRows := none, bitPos := 0, refBad := false }

/-- A picture of 2 by 2 pixels. -/
def aPic : DecPic := { seq := 0, firstAt := 0, width := 2, height := 2, depth := 8, rows := [[1, 2], [3, 4]], irap := true, time := 0, mode := 0, subst := false, budget := 1000, ended := some up.raw }

theorem test_decoder : passes (
    let s := decUp; let t := after (.rtpPacket 3 aPacket) s; let w := s.setStream 3 { pic := some aPic }; let t2 := after (.rtpPacket 3 aPacket) w
    let r := w.setIspCtx 1 0 { force := [(Reg.ISP_CTX_CFG.at 1 0 0, 0x23)] }; let t3 := after (.sampleWritten 3) r
    let l := { w with raw := w.raw + 1000000 }; let t4 := after (.decodeBudgetExpiry 3) l
    [s.decOn 3, s.macUp (s.decMac 3), decide ((t.stream 3).pic.map (fun x => (x.seq, x.width, x.rows)) = some (0, 2, [[1, 2]])), decide ((t.stream 3).lastRtp = some 7), t.bit Reg.DEC_STREAM_STATUS 0 3,
     kept s t [Reg.DEC_STREAM_STATUS.at 3 0 0], decide ((t2.stream 3).held = [(w.raw, aPacket)]), decide ((t2.stream 3).pic = some aPic), !r.overBudget aPic, r.decRoom 3, decide (r.readersOf 1 3 = [4]),
     decide ((t3.stream 3).ring.map (fun y => (y.rows, y.width, y.seq)) = [(aPic.rows, 2, 0)]), decide ((t3.stream 3).pic = none), decide (t3.rd Reg.DEC_STREAM_CNT 3 0 = 1),
     l.overBudget aPic, decide (t4.rd Reg.DEC_STREAM_CNT 3 2 = 1), t4.bit Reg.DEC_EVENT 1]) = true := by decide +kernel

theorem test_decoder_ends : passes (
    let b := (decUp.wr Reg.DEC_STREAM_BATCH 4 3).setStream 3 { batch := some (1, 0) }; let t := after (.batchTimeout 3) b
    let q := (decUp.wr Reg.QM_Q_CFG 0x80500001 400).wr Reg.DEC_REPORT_Q 400; let r := q.setStream 3 { reports := [[1, 2]] }; let t2 := after (.reportPlaced 3) r
    let x := decUp.setStream 3 { pic := some aPic }; let t3 := after .decEngineReset x
    [decide (b.f Reg.DEC_STREAM_BATCH 8 24 3 * 1000 ≤ b.since 0), decide ((t.stream 3).batch = none), decide (r.f Reg.DEC_REPORT_Q 0 14 = 400), r.qRoom 400 2051, decide ((t2.stream 3).reports = []),
     decide ((t2.queue 400).items.length = 1), x.bit Reg.DEC_STREAM_CFG 0 3, t3.bit Reg.DEC_EVENT 3, decide ((t3.stream 3).pic = none), !(t3.stream 3).waitIrap]) = true := by decide +kernel

/-! ### Scheduling and tiles -/

/-- A row of output unit 0 of pipeline 0, kept for input 0 of job 5. -/
def ringRow (seq : Nat) (at_ : Nat) (pix : List Nat) : OutRow :=
  { seq := BitVec.ofNat 32 seq, aligned := BitVec.ofNat 64 at_, trig := 0, time := 5000, marks := 0, pix := pix, users := [ringUser 5 0] }

/-- A comet whose window starts at 900. -/
def partComet : Comet :=
  { seq := 9, st := .opened, lane := 2, src := 0, enc := 0, lead := 1000, commitOfs := 2000000, ejectOfs := 0, ejectExt := 0, winPre := 100, winPost := 0, group := 0, tCreate := 500 }

/-- Job 5 runs, its input bound and its pages mapped; two rows are in the ring and comet 77 waits for a slot. -/
def joinUp : State :=
  let j : Job := { job5 .running with run := 1, binds := [(0, { pipe := 0, out := 0, lanes := 4 })] }
  (((stagedUp.setJob 5 j).mapRun 5 j false).setIspOut 0 0 { rows := [ringRow 5 800 [1, 2, 3, 4], ringRow 6 950 [10, 200, 30, 40]] }).setComet 77 partComet

/-- The part of comet 77 has joined slot 0. -/
def joined : State := after (.partJoin 5) joinUp

/-- The first tile runs on spire 0. -/
def started : State := after (.tileStart 0) joined

/-- Its GATHER has been run. -/
def gathered : State := after (.gather 0) started

theorem test_part_joins : passes (
    let s := joinUp; let t := joined
    [s.on .QM, decide ((s.jobOf 5).map (fun j => (j.st, s.joinBoundary 5 j, j.freeSlot, j.switch)) = some (.running, true, some 0, [])),
     decide ((s.comet 77).isSome), decide ((t.jobOf 5).map (fun j => (j.parts, j.slots.map (fun p => (p.1, p.2.comet, AMap.look p.2.ringFirst 0)))) = some (1, [(0, 77, some 6)])),
     decide ((t.comet 77).map (fun c => (c.joined, c.job)) = some (true, 5))]) = true := by decide +kernel

theorem test_tile_starts : passes (
    let s := joined; let b := ((s.forAll (s.boundaryJobs 0) (fun h s => s.freeFinal h)).pauseAt 0).noteElig; let t := started
    [s.engFree 0, decide ((b.engine 0).switch = none), decide (b.firstCtx (b.candidates 0) = some (5, 0)), decide ((b.engine 0).resident = none), !(b.ctx 5 0).saved,
     decide ((t.engine 0).tile.map (fun r => (r.handle, r.tile, r.slots, r.newSet, r.todo.length, r.ended)) = some (5, 0, [0], false, 1, false)), decide ((t.engine 0).resident = some 5)])
    = true := by decide +kernel

theorem test_gather : passes (
    let s := started; let t := gathered
    [(s.turn 0 0x14).isSome, decide ((t.engine 0).tile.map (fun r => (r.todo.length, r.ended, r.gathers, r.writes.map (fun w => w.bytes))) = some (0, true, [(0, 0)], [[10, 200, 30, 40]])),
     decide (((t.slotOf 5 0).st, (t.slotOf 5 0).firstPos, (t.slotOf 5 0).rowsValid, (t.slotOf 5 0).lineSeq) = (.joined, 950, 1, 6))]) = true := by decide +kernel

/-- The last tile of the program stands before its commit, with a verdict for slot 0. -/
def decided : State :=
  joined.setEngine 0 { resident := some 5, tile := some { handle := 5, tile := 2, slots := [0], startAt := 0, todo := [], ended := true, verdicts := [{ slot := 0, kind := 1, cls := 11, index := 1 }] } }

theorem test_tile_commit : passes (
    let s := gathered; let t := after (.tileCommit 0) s; let d := decided; let t2 := after (.tileCommit 0) d
    [decide ((s.engine 0).tile.map (fun r => (r.susp, r.ended, r.stats.length, r.sends.length, r.releases.length)) = some (false, true, 0, 0, 0)), decide ((t.engine 0).tile = none), decide ((t.slotOf 5 0).step 0 = 1),
     decide ((settled t).peek (41 * 65536) 4 = [10, 200, 30, 40]), decide ((t.engine 0).resident = some 5),
     d.qRoom 20 1029, decide ((t2.engine 0).tile = none), decide ((t2.slotOf 5 0).st = .final), decide ((t2.slotOf 5 0).step 2 = 1),
     decide ((t2.queue 20).items.map (fun i => i.data) = [fitBytes (d.qSize 20) [77, 0, 9, 0, 1, 11, 5, 0, 1, 0, 0, 0, 0, 0, 0, 0]])]) = true := by decide +kernel

/-- Job 6, of higher priority, has a part that waits on spire 0 where job 5 is resident. -/
def contested : State :=
  let s := gathered
  match s.jobOf 5 with
  | some j => s.setJob 6 { j with prio := 200, binds := [], slots := [(0, { st := .joined, taken := true, steps := [(0, 1)], rows := [(0, 1)] })] }
  | none => s

theorem test_preemption : passes (
    let s := contested; let t := after (.preemptionRequest 0) s
    [s.noteElig.preemptWanted 0, decide ((s.engine 0).switch = none), (t.engine 0).preempt, decide ((t.engine 0).tile = (s.engine 0).tile), decide ((t.engine 0).resident = some 5)]) = true := by decide +kernel

theorem test_save_and_restore : passes (
    let b := joined.setEngine 0 { resident := some 5, switch := some (.saving 2) }; let t := after (.contextSaveDone 0 .clean) b
    let r := (joined.setCtx 5 0 { saved := true }).setEngine 0 { switch := some (.restoring 5) }; let q := (r.chargeSwitch 0).readSave 0 5 none; let t2 := after (.contextRestoreDone 0 none) r
    [b.on .SPR, decide (b.host.swapWait = none), decide ((t.engine 0).resident = none), decide ((t.engine 0).switch = none), decide (b.ctxUnits 0 5 = [0]), (t.ctx 5 0).saved,
     q.2, decide ((t2.engine 0).resident = some 5), decide ((t2.engine 0).switch = none), !(t2.ctx 5 0).saved]) = true := by decide +kernel

theorem test_engine_resets : passes (
    let s := started; let t := after (.sprEngineReset .host 0) s; let m := after (.moonEngineReset .firmware 3) s; let e := joined.setEngine 4 { resetting := true }; let t2 := after (.engineResetDone 4) e
    let h := { s with raw := s.raw + 100000000 }; let t3 := after (.hangTimeout 0) h
    [s.takes .host Reg.SPR_CTRL 0 0 0, !(s.engine 0).resetting, (t.engine 0).resetting, decide ((t.engine 0).tile = none), s.takes .firmware Reg.MOON_CTRL 3 0 0, (m.engine 37).resetting,
     decide ((e.engine 4).switch = none), !(t2.engine 4).resetting, t2.bit Reg.SPR_EVENT 5 4, decide ((h.engine 0).hung = none),
     decide ((t3.engine 0).hung = some (5, 0, h.fault.seq)), (t3.engine 0).resetting, decide (t3.fault.seq = h.fault.seq + 1)]) = true := by decide +kernel

theorem test_swap_and_adoption : passes (
    let s := (stagedUp.wr Reg.SPR_ID 0x2140 33).setBit Reg.SPR_STATUS 3 true 7; let t := after (.lastingFaultSwap 7) s
    let m := stagedUp.setBit Reg.MOON_STATUS 3 true 2; let t2 := after (.moonAdoption 2) m
    [s.bit Reg.SPR_ID 7 7, decide (s.spareSpire = some 33), decide (t.f Reg.SPR_ID 0 8 7 = 32), decide (t.f Reg.SPR_ID 0 8 33 = 128 + 7), t.bit Reg.QM_SCHED_EVENT 3,
     m.on .MOON, decide (moonPartner 2 = 3), t2.bit Reg.MOON_STATUS 4 3, t2.bit Reg.MOON_EVENT 6 3, counted m t2 Reg.MOON_CNT 3 7]) = true := by decide +kernel

theorem test_window_and_reply : passes (
    let s := contested; let t := after .accountingWindow s
    let msg : List Byte := [5, 0, 9, 0, 1, 0, 0, 0] ++ bytesLE 4 0 ++ bytesLE 4 3 ++ [7, 8, 9]
    let r := joined.setCtx 5 0 { remote := some (9, 1) }; let r := { r with fab := { r.fab with inbox := [(1, 2, msg)] } }; let t2 := after (.remoteReplyLand 5 0) r
    [decide (s.now.toNat / s.windowNs ≠ s.job.window), decide (t.job.window = s.now.toNat / s.windowNs), s.sharedUnit 0, decide ((t.ctx 5 0).budget = 100 * s.windowNs / 1024),
     (r.replyFor 5 0).isSome, (r.landMessage 5 msg).2, (t2.ctx 5 0).remoteDone, decide (t2.fab.inbox = [])]) = true := by decide +kernel

/-- An instruction of layer 0 with its operands, the last of its tile. -/
def instrOf (a b d : Nat) (arg0 arg1 : Nat := 0) : TileInstr :=
  { (instrAt []).2.1 with last := true, srcA := BitVec.ofNat 16 a, srcB := BitVec.ofNat 16 b, dst := BitVec.ofNat 16 d, arg0 := BitVec.ofNat 16 arg0, arg1 := BitVec.ofNat 16 arg1, rows := 1 }

/-- A tile of one instruction on streams of one element: 0 and 1 hold 3.0 and 5.0, 2 is an FP32 output, 3 holds the INT8 code
7, 4 the weight 3, 5 is an INT8 output, 6 a list of one pair, 7 an MX stream whose scale entry has a wrong tag. -/
def tileJob (o : Nat) (i : TileInstr) : Job :=
  let st := fun t k => { tensor := t, kind := k, rowBytes := 4, rowStride := 64 : StreamD }
  { img :=
      { tensors := [{ fmt := 7, c := 1, w := 1, h := 1 }, { fmt := 1, c := 1, w := 1, h := 1, qparam := 0 }, { fmt := 14, c := 1, w := 1, h := 1 }, { fmt := 9, c := 1, w := 1, h := 1 }]
        qparams := [{}], classMap := [10, 11, 12]
        layers := [{ kh := 1, kw := 1, sy := 1, sx := 1, dily := 1, dilx := 1, cin := 1, cout := 1, g := 1, ksel := 1, heads := 1, t := 1, d := 1 }]
        streams := [st 0 3, st 0 3, st 0 3, st 1 3, st 1 0, st 1 3, st 2 3, { st 3 3 with scale := 8, tag0 := 5 }, st 0 3]
        tiles := [{ prog := [(o, i, false)] }], slots := 1 }
    st := .running, pages := [40], saves := [(0, [50])], slots := [(0, { st := .active, taken := true, comet := 77 })] }

/-- Spire 0 runs that tile, its rows in the windows and the weight staged. -/
def tileUp (o : Nat) (i : TileInstr) : State :=
  ((stagedUp.setJob 5 (tileJob o i)).setCtx 5 0
    { windows := [{ stream := 0, slot := 0, rows := [([0, 0, 0x40, 0x40], [])] }, { stream := 1, slot := 0, rows := [([0, 0, 0xA0, 0x40], [])] },
        { stream := 3, slot := 0, rows := [([7], [])] }, { stream := 6, slot := 0, rows := [([1, 0, 0, 0, 0, 0, 2, 0], [])] }, { stream := 7, slot := 0, rows := [([1], [0x400])] }]
      active := [{ stream := 4, bytes := [3, 0, 0, 0, 0], norms := [0x41100000] }] }).setEngine 0
    { resident := some 5, tile := some { handle := 5, tile := 0, slots := [0], startAt := 0, todo := [(o, i, false)] } }

/-- The command finds its instruction in turn, and leaves the tile past it with one row done and, where bytes are given, those staged. -/
def computesRow (o : Nat) (i : TileInstr) (c : Instr) (out : Option (List Byte)) : Bool :=
  let s := tileUp o i
  match s.turn 0 o, ((after c s).engine 0).tile with
  | some (r, _), some r' =>
    (s.tagsOf r i).isNone && r'.todo.isEmpty && r'.ended && decide (r'.progress = [(0, 0, 1)]) &&
      (match out with
       | some l => decide (r'.writes.map (fun w => (w.stream, w.row, w.bytes)) = [(i.dst.toNat, 0, l)])
       | none => true)
  | _, _ => false

/-- 3 + 5 = 8, 3 − 5 = −2, 3 × 5 = 15 and so on, as the bytes of the row that is staged. -/
theorem test_element_wise : passes [
    computesRow 0x32 (instrOf 0 1 2) (.add 0 .clean) (some [0, 0, 0, 0x41]), computesRow 0x33 (instrOf 0 1 2) (.sub 0 .clean) (some [0, 0, 0, 0xC0]),
    computesRow 0x34 (instrOf 0 1 2) (.mul 0 .clean) (some [0, 0, 0x70, 0x41]), computesRow 0x35 (instrOf 0 1 2) (.max 0 .clean) (some [0, 0, 0xA0, 0x40]),
    computesRow 0x36 (instrOf 0 1 2) (.min 0 .clean) (some [0, 0, 0x40, 0x40]), computesRow 0x31 (instrOf 0 0 2) (.activate 0 .clean) (some [0, 0, 0x40, 0x40]),
    computesRow 0x30 (instrOf 0 0 2) (.requant 0 .clean) (some [0, 0, 0x40, 0x40]), computesRow 0x30 (instrOf 0 0 5) (.requant 0 .clean) (some [3]),
    computesRow 0x3F (instrOf 0 0 2) (.copy 0 .clean) (some [0, 0, 0x40, 0x40]), computesRow 0x12 (instrOf 0 0 2) (.store 0) (some [0, 0, 0x40, 0x40]),
    computesRow 0x15 (instrOf 0 0 2) (.zero 0) (some [0, 0, 0, 0])] = true := by decide +kernel

/-- 7 × 3 = 21 and 7 × 7 = 49. -/
theorem test_matrix : passes [
    computesRow 0x20 (instrOf 3 4 2) (.conv 0 .clean) (some [0, 0, 0xA8, 0x41]), computesRow 0x21 (instrOf 3 4 2) (.convDw 0 .clean) (some [0, 0, 0xA8, 0x41]),
    computesRow 0x22 (instrOf 3 3 2) (.matmul 0 .clean) (some [0, 0, 0x44, 0x42]), computesRow 0x23 (instrOf 3 3 2) (.avgpool 0 .clean) (some [0, 0, 0xE0, 0x40]),
    computesRow 0x24 (instrOf 3 3 2) (.attnScore 0 .clean) none, computesRow 0x25 (instrOf 0 3 2) (.attnValue 0 .clean) (some [0, 0, 0xA8, 0x41]), computesRow 0x26 (instrOf 3 4 6) (.dist 0 .clean) none] = true := by decide +kernel

theorem test_post : passes [
    computesRow 0x37 (instrOf 0 0 2 1) (.nearestUp 0 .clean) (some [0, 0, 0x40, 0x40]), computesRow 0x38 (instrOf 0 0 2) (.maxpool 0 .clean) (some [0, 0, 0x40, 0x40]),
    computesRow 0x39 (instrOf 0 0 2) (.norm 0 .clean) none, computesRow 0x3A (instrOf 0 0 2) (.softmax 0 .clean) none, computesRow 0x3B (instrOf 0 0 6) (.argmax 0 .clean) (some [0, 0, 0, 0, 0x40, 0x40]),
    computesRow 0x3C (instrOf 0 0 6) (.topk 0 .clean) (some [0, 0, 0x40, 0x40, 0, 0, 0, 0]), computesRow 0x3D (instrOf 6 6 6) (.mergeList 0 .clean) none,
    (let s := tileUp 0x3E (instrOf 0 0 2); ((after (.fold 0 .clean) s).engine 0).tile.any (fun r => r.todo.isEmpty && decide (r.progress = [(0, 0, 1)])))] = true := by decide +kernel

/-- The tile of spire 0 has been passed. -/
def passed (t : State) : Bool := (t.engine 0).tile.any (fun r => r.todo.isEmpty && r.ended)

theorem test_control : passes (
    let i := instrOf 0 0 2 0 3; let s := tileUp 0x02 i; let t := after (.semAcquire 0) s; let b := { s with job := { s.job with sems := [(3, 9)] } }; let t2 := after (.semAcquire 0) b
    let w := tileUp 0x01 (instrOf 8 0 2); let t3 := after (.waitRows 0) w; let m := tileUp 0x06 i; let t4 := after (.remoteWait 0) m
    let d := m.setCtx 5 0 { remote := some (3, 2), remoteDone := true }; let t5 := after (.remoteWait 0) d
    [passed (after (.tileNop 0) (tileUp 0x00 i)), (w.turn 0 0x01).isSome, !passed t3, (s.turn 0 0x02).isSome, passed t, decide (t.job.sems = [(3, 5)]), decide ((t2.engine 0).tile = none),
     decide ((t2.ctx 5 0).semWait = [3]), decide (t2.job.sems = [(3, 9)]), decide ((t4.engine 0).tile = none), decide ((t4.ctx 5 0).remote = some (3, 2)), passed t5, decide ((t5.ctx 5 0).remote = none)])
    = true := by decide +kernel

theorem test_control_at_commit : passes (
    let i := instrOf 0 0 2 0 3; let t := after (.semRelease 0) (tileUp 0x03 i); let t2 := after (.barrier 0) (tileUp 0x04 i); let t3 := after (.remoteSend 0) (tileUp 0x05 i)
    let v := tileUp 0x07 (instrOf 6 0 2); let t4 := after (.verdict 0) v; let f := v.setSlot 5 0 { v.slotOf 5 0 with marks := 1 }; let g := f.updJob 5 (fun j => { j with img := { j.img with markFailsafe := 1 } }); let t5 := after (.verdict 0) g
    let p := after (.provisional 0) (tileUp 0x08 (instrOf 6 0 2))
    [decide ((t.engine 0).tile.map (fun r => r.releases) = some [3]), passed t2, decide ((t3.engine 0).tile.map (fun r => r.sends) = some [(0, 0, 3)]),
     decide ((t4.engine 0).tile.map (fun r => r.verdicts) = some [{ slot := 0, kind := 1, cls := 11, index := 1 }]), decide ((t5.engine 0).tile.map (fun r => r.verdicts) = some [{ slot := 0, kind := 2, cls := 0, index := 1 }]),
     decide ((p.engine 0).tile.map (fun r => r.verdicts) = some [{ slot := 0, kind := 4, cls := 11, index := 1 }])]) = true := by decide +kernel

/-- Page 0 of the job is mapped, and bytes lie in DRAM. -/
def mappedTile (o : Nat) (i : TileInstr) : State :=
  let s := (tileUp o i).mapJob 5 [40] 1
  { s with mem := s.mem ++ [(40 * 65536, 9), (40 * 65536 + 1, 8)] }

theorem test_loads_and_faults : passes (
    let w := mappedTile 0x10 (instrOf 4 0 2 1); let t := after (.loadWeights 0 .clean none) w; let l := mappedTile 0x11 (instrOf 8 0 2); let t2 := after (.loadAct 0 .clean none) l
    let b := mappedTile 0x13 (instrOf 4 0 2 1); let t3 := after (.loadBank 0 .clean none) b; let t4 := after (.loadAct 0 .uncorrectable none) l
    let q := tileUp 0x20 (instrOf 7 4 2); let t5 := after (.conv 0 .clean) q
    [(w.turn 0 0x10).isSome, passed t, decide ((t.ctx 5 0).idle.map (fun x => (x.stream, x.bytes.length)) = [(4, 64)]), passed t2, passed t3, decide ((t3.ctx 5 0).idle.map (fun x => (x.stream, x.bytes.length, x.norms.length)) = [(4, 64, 1)]),
     decide ((t4.jobOf 5).map (fun j => (j.st, j.lastStatus)) = some (.faulted, S_UNCORRECTABLE)), decide ((t4.engine 0).tile = none),
     decide ((t5.jobOf 5).map (fun j => (j.st, j.lastStatus)) = some (.faulted, S_SCALE_SEQ)), decide ((t5.engine 0).tile = none)]) = true := by decide +kernel

/-! ### Lanes, MACs and links -/

/-- `up`, ten milliseconds on, with a lane that trains. -/
def trainUp (l : Nat) (w : Word) : State :=
  (up.wr Reg.LN_LANE_STATUS w l).setLane l { training := some (up.raw - 500000000) }

/-- Kalinamo link 1 between this node, 0, and node 3, its lanes ACTIVE, trained and locked, spare lane 3. -/
def fabUp : State :=
  let s := (upTo 4).foldl (fun s k => s.wr Reg.LN_LANE_STATUS 0x3109 (20 + k)) up
  ((s.wr Reg.FAB_LINK_CFG 0x3301 1).wr Reg.FAB_NODE 0x10).setLinkState 1 2

theorem test_lane_training : passes (
    let e := trainUp 5 0x2080; let t := after (.trainingDone 5 0 2) e; let k := (fabUp.wr Reg.LN_LANE_STATUS 0x3180 21).setLane 21 { training := some 7 }
    let t2 := after (.trainingDone 21 9 0) k; let d := k.setLinkState 1 1; let t3 := after (.trainingDone 21 3 0) d; let t4 := after (.trainTimeout 5) e
    [e.on .LN, decide ((e.lane 5).training.isSome), !e.cageHeld 5, decide (e.laneOwner 5 = 2), decide (t.laneState 5 = 0), t.bit Reg.LN_LANE_STATUS 3 5, decide (t.f Reg.LN_LANE_CFG 4 2 5 = 2),
     kept e t [Reg.LN_LANE_STATUS.at 5 0 0, Reg.LN_LANE_CFG.at 5 0 0], decide (k.laneOwner 21 = 3 ∧ k.laneOwnerId 21 = 1), decide (k.f Reg.FAB_LINK_CFG 12 4 1 = 3), decide (t2.linkState 1 = 0),
     decide (t2.f Reg.FAB_LINK_STATUS 28 4 1 = 9), t2.bit Reg.FAB_EVENT 5, kept k t2 [Reg.LN_LANE_STATUS.at 21 0 0, Reg.FAB_LINK_STATUS.at 1 0 0, Reg.FAB_EVENT.addr],
     !d.linkUp 1, decide (t3.linkState 1 = 2), t3.bit Reg.FAB_EVENT 0, (t3.link 1).resync, decide (500000000 ≤ e.since (up.raw - 500000000)), t4.bit Reg.LN_LANE_STATUS 4 5, t4.bit Reg.LN_EVENT 4,
     decide ((t4.lane 5).training = some e.raw)]) = true := by decide +kernel

theorem test_lane_lock : passes (
    let s := up.wr Reg.LN_LANE_STATUS 0x2000 5; let t := after (.laneUp 5) s; let f := up.wr Reg.LN_LANE_STATUS 1 5; let t2 := after (.laneLockLoss 5 50) f
    let m := (up.wr Reg.LN_LANE_STATUS 0x2001 5).wr Reg.LN_MAC_CFG 0x80000001 0; let t3 := after (.laneLockLoss 5 50) m; let d := up.wr Reg.LN_LANE_STATUS 0x80 5; let t4 := after (.laneActivity 5 81 10000) d
    let t5 := after (.linkReset .host 0x200000) fabUp; let t6 := after (.linkReset .host 0x20) up
    [decide (s.laneState 5 = 0), !s.laneLock 5, !s.cageHeld 5, decide (s.laneOwner 5 = 2), t.laneLock 5, t.bit Reg.LN_EVENT 0, decide (f.laneOwner 5 = 0), !t2.laneLock 5, counted f t2 Reg.LN_LANE_CNT 5 4,
     decide (m.laneOwnerId 5 = 0), !t3.bit Reg.LN_MAC_CFG 31 0, decide ((t3.lane 5).downSeq = some m.fault.seq), t3.bit Reg.LN_EVENT 1, decide (d.laneState 5 = 2), !d.bit Reg.PM_WAKE_LANES 5, t4.bit Reg.LN_EVENT 2,
     fabUp.takes .host Reg.LN_LINK_RESET 0 0 0, decide (fabUp.laneOwner 21 = 3), decide (t5.linkState 1 = 4), (upTo 4).all (fun k => decide (t5.laneState (20 + k) = 2) && decide ((t5.lane (20 + k)).training = some fabUp.raw)),
     decide (up.laneOwner 5 = 0), decide (t6.regs = up.regs)]) = true := by decide +kernel

theorem test_prbs : passes (
    let s := up; let t := after (.prbsInjOne .host 5 0x100021) (s.wr Reg.LN_PRBS_CFG 1 5); let t0 := after (.prbsInjOne .host 5 0x100101) s; let t1 := after (.prbsInjOne .host 5 0x600) s
    let c := s.wr Reg.LN_PRBS_CFG 2 5; let t2 := after (.prbsCheckerLock 5 64) c; let t3 := after (.prbsCheckerResync 5 16 64) t2; let t4 := after (.prbsBitError 5) t2
    let g := s.wr Reg.LN_PRBS_CFG 0x10001 5; let t5 := after (.prbsRateInjection 5 5000) g
    [s.takes .host Reg.LN_PRBS_CFG 5 0 0, decide ((t.lane 5).flips = 1), decide (t0.rd Reg.LN_PRBS_CFG 5 = 0x101), !patternOk (s.f Reg.LN_LANE_CFG 0 2 5) 6, decide (t1.rd Reg.LN_PRBS_CFG 5 = s.rd Reg.LN_PRBS_CFG 5),
     t2.bit Reg.LN_LANE_STATUS 5 5, !t3.bit Reg.LN_LANE_STATUS 5 5, counted t2 t3 Reg.LN_LANE_CNT 5 1, t4.bit Reg.LN_EVENT 3, counted t2 t4 Reg.LN_LANE_CNT 5, decide ((t5.lane 5).flips = 5000 / 2048),
     decide ((t5.lane 5).genBits = 5000 % 2048)]) = true := by decide +kernel

/-- A frame for nobody. -/
def aFrame : EthFrame :=
  { len := 64, fcsOk := true, pause := false, etherType := 0x0800, ipSrc := 5, ipDst := 0xFFFFFFFE, udp := false, portSrc := 0, portDst := 0, toCp := false, asks := false }

theorem test_ethernet : passes (
    let s := up.wr Reg.LN_MAC_CFG 0x80000001 2; let t := after (.ethFrameReceive 2 { aFrame with fcsOk := false }) s; let t2 := after (.ethFrameReceive 2 { aFrame with len := 63 }) s
    let p := { aFrame with etherType := 0x88F7 }; let t3 := after (.ethFrameReceive 2 p) s; let t4 := after (.ethFrameReceive 2 aFrame) s
    let q := s.setMac 2 { txq := [{ cls := 3, tag := .cp, data := [1] }, { cls := 2, tag := .cp, data := [2] }] }; let t5 := after (.ethFrameTransmit 2) q
    let l := (up.wr Reg.LN_MAC_CFG 0x2801 2).wr Reg.LN_LANE_STATUS 0x2201 5; let t6 := after (.macLinkUp 2) l
    [s.macUp 2, counted s t Reg.LN_MAC_CNT 2 2, counted s t2 Reg.LN_MAC_CNT 2 3, decide (s.frameDest 2 p = some .timeBase), decide ((t3.mac 2).lastDest = some .timeBase), decide (s.frameDest 2 aFrame = none),
     counted s t4 Reg.LN_MAC_CNT 2 5, decide ((takeFrame q.maySend (q.mac 2).txq).isSome), decide ((t5.mac 2).txq.map (fun f => f.data) = [[1]]), kept q t5 [Reg.LN_MAC_CNT.at 2 1 0],
     l.macEnabled 2, !l.macUp 2, decide (l.macLanes 2 = [5]), decide (l.laneState 5 = 0), l.laneLock 5, t6.bit Reg.LN_MAC_CFG 31 2, decide ((t6.mac 2).txq.map (fun f => (f.cls, f.data)) = [(3, [])])]) = true := by decide +kernel

/-- A flit with one whole message from node 3. -/
def aFlit : Flit := { typ := 4, seq := 0, nak := false, ack := 0xFFF, vc := 0, dest := 0, src := 3, cvc := 0, credits := 0, payload := [1, 2] }

theorem test_flits : passes (
    let s := fabUp; let t := after (.flitReceive 1 aFlit false) s; let t2 := after (.flitReceive 1 aFlit true) s; let t3 := after (.flitReceive 1 { aFlit with seq := 9 } true) s
    let r := s.setLink 1 { replay := [aFlit] }; let t4 := after (.retryTimeout 1) r; let r9 := s.setLink 1 { replay := [aFlit], replays := 8 }; let t5 := after (.retryTimeout 1) r9; let t6 := after (.ackInterval 1) s
    [s.linkUp 1, (t.link 1).nakSent, decide (t.fab.inbox = []), counted s t Reg.FAB_LINK_CNT 1 2, decide ((t2.link 1).rxSeq = 1), decide (t2.fab.inbox = [(0, 3, [1, 2])]), decide ((t3.link 1).rxSeq = 0), (t3.link 1).nakSent,
     decide (t3.fab.inbox = []), decide (max 1 (r.f Reg.FAB_LINK_CFG 16 8 1) * 100 ≤ r.since 0), decide ((t4.link 1).replays = 1), t4.bit Reg.FAB_EVENT 1, counted r t4 Reg.FAB_LINK_CNT 1 3,
     decide (t5.linkState 1 = 4), decide ((t5.link 1).downSeq = some r9.fault.seq), decide (1000 ≤ s.since (s.link 1).ackAt), decide ((t6.link 1).ackAt = s.raw)]) = true := by decide +kernel

theorem test_link_lanes : passes (
    let r := (fabUp.setLinkState 1 1).setLink 1 { retrain := some (up.raw - 100000000) }; let t := after (.linkRetrainTimeout 1) r; let s := fabUp; let t2 := after (.laneFail 1 0 1000 0 0) s
    let u := s.setF Reg.FAB_LINK_STATUS 16 4 8 1; let t3 := after (.laneFail 1 0 1000 0 0) u; let t4 := after (.swapReqReceive 1 2) s; let w := s.setLink 1 { swap := some 6 }; let t5 := after (.swapAckReceive 1) w; let t6 := after (.fabInject .host 1 3) s
    [decide (100000000 ≤ r.since (up.raw - 100000000)), decide (t.linkState 1 = 0), t.bit Reg.FAB_EVENT 2, decide (s.dataLanes 1 = [0, 1, 2]), s.spareFree 1, decide ((t2.link 1).swap = some 4), !t2.laneFailed 1 0,
     !u.spareFree 1, decide ((u.dataLanes 1).length = 3), decide (t3.linkState 1 = 3), t3.laneFailed 1 0, t3.bit Reg.FAB_EVENT 4, (t4.link 1).spareUsed, t4.laneFailed 1 2, t4.bit Reg.FAB_EVENT 3,
     decide ((t5.link 1).swap = none), (t5.link 1).spareUsed, t5.laneFailed 1 2, s.takes .host Reg.FAB_INJECT 1 0 0, decide ((t6.link 1).inject = 3)]) = true := by decide +kernel

/-! ### The module as a whole -/

theorem test_step : passes (
    let s := { qUp with pending := [.doorbell 3, .doorbell 4], mem := [(5, 1), (9, 2)], fuse := { qUp.fuse with owner := some [1] } }
    match step s, step { s with pending := [] } with
    | .next t, .next u => [decide (t.pending = [.doorbell 4]), decide (t.host.bells = [3]), decide (Memory.wf s.mem), decide (t.mem = s.mem), decide (t.fuse.owner = some [1]), decide (u.raw = s.raw + 1), decide (u.pending = [])]
    | _, _ => [false]) = true := by decide +kernel

/-- The only output row waits for a full ring: the unit of work keeps it (R119). -/
theorem test_full_ring : passes (
    let r : OutRow := { aligned := 0, trig := 0, time := 0, marks := 0x8000, seq := 1, pix := [1], users := [65537] }
    let s := ((ispUp.setIspCtx 1 0 { force := [(Reg.ISP_OUT_CFG.at 1 0 0, 0x4000)] }).setIspOut 1 0 { rows := List.replicate 16 r }).setIspPipe 1 { work := some { ctx := 0, lines := [], rows := [(0, r)], frame := none, startAt := 0 } }
    let t := after (.stripeDone 1) s
    [decide ((s.putRows 1 (s.ispForce 1 0) [(0, r)]).2.length = 1), decide ((t.ispPipe 1).work.map (fun w => w.rows.length) = some 1)]) = true := by decide +kernel

/-! ### Ill-formed commands: one for each check -/

theorem test_well_formed_refuses : passes [
    !(Instr.registerWrite .host 0x800001 0).wf, !(Instr.pairHiWrite .host 0x4000000 0).wf, !(Instr.pairLoRead 2).wf, !(Instr.rcRead 0x5000000).wf, !(Instr.unmappedAccess 1 false).wf,
    !(Instr.mailboxWrite 3 4095 [1, 2]).wf, !(Instr.bulkWrite (List.replicate 513 0) true).wf, !(Instr.exportRead 513).wf, !(Instr.discoveryDone 2 [0, 1, 2, 3, 4] true).wf,
    !(Instr.streamPacket 2 (.cxp [65536] true)).wf, !(Instr.streamPacket 2 (.gvsp 0 0 [65536])).wf, !(Instr.rtpPacket 3 { aPacket with depth := 9 }).wf, !(Instr.rtpPacket 3 { aPacket with height := 0 }).wf,
    !(Instr.rtpPacket 3 { aPacket with rows := [[65536]] }).wf, !(Instr.loadAct 0 .clean (some { sector := 65536, first := 0, second := 0 })).wf, !(Instr.flitReceive 1 { aFlit with payload := List.replicate 245 0 } true).wf,
    !(Instr.prbsCheckerResync 5 17 16).wf, !(Instr.creditRequest 301 4096 1).wf, !(Instr.packetReserve 301 4096 64).wf, !(Instr.backFill 301 4096 0 1 []).wf, !(Instr.recordPublish 301 4096 []).wf, !(Instr.abandonedPad 301 4096 0).wf,
    !(Instr.contextRestoreDone 0 (some { sector := 65536, first := 0, second := 0 })).wf, !(Instr.loadWeights 0 .clean (some { sector := 65536, first := 0, second := 0 })).wf, !(Instr.loadBank 0 .clean (some { sector := 65536, first := 0, second := 0 })).wf,
    (Instr.flitReceive 1 aFlit true).wf, (Instr.rtpPacket 3 aPacket).wf, (Instr.registerWrite .host 0x800000 1).wf, (Instr.streamPacket 2 (.cxp [7, 8] true)).wf] = true := by decide +kernel

end Sys2Proof.Tests
end

section
/-!
Position feedback (spec/02_position_feedback.md): what an accepted edge, a write of ENC_CFG, and the loads of the position
make of a channel, and the statements about them settled.
-/
namespace Sys2Proof.Machine

open Sys2Proof

/-! ### Registers of a channel -/

theorem encEvent_ne_encStatus (n : Nat) : Reg.ENC_EVENT.at n 0 0 ≠ Reg.ENC_STATUS.at n 0 0 := by
  simp [RegRow.at, Reg.ENC_EVENT, Reg.ENC_STATUS]

theorem encCfg_ne_encStatus (n : Nat) : Reg.ENC_CFG.at n 0 0 ≠ Reg.ENC_STATUS.at n 0 0 := by
  simp [RegRow.at, Reg.ENC_CFG, Reg.ENC_STATUS]

theorem encIndexPosLo_ne_encEvent (n : Nat) : Reg.ENC_INDEX_POS_LO.at n 0 0 ≠ Reg.ENC_EVENT.at n 0 0 := by
  simp [RegRow.at, Reg.ENC_INDEX_POS_LO, Reg.ENC_EVENT]

theorem encIndexPosHi_ne_encEvent (n : Nat) : Reg.ENC_INDEX_POS_HI.at n 0 0 ≠ Reg.ENC_EVENT.at n 0 0 := by
  simp [RegRow.at, Reg.ENC_INDEX_POS_HI, Reg.ENC_EVENT]

/-- ENC_CFG of every channel lies in the range of the block ENC (R636). -/
theorem encCfg_range (n : Nat) : 0x400000 ≤ Reg.ENC_CFG.at n 0 0 ∧ Reg.ENC_CFG.at n 0 0 < 0x500000 := by
  simp only [RegRow.at, Reg.ENC_CFG]
  omega

theorem bit_raise_same (s : State) (r : RegRow) (i : Nat) {b : Nat} (h : b < 32) : (s.raise r b i).bit r b i = true :=
  State.bit_setBit_same s r b true i 0 0 h

@[simp] theorem bit_encStatus_raise_encEvent (s : State) (n b m : Nat) :
    (s.raise Reg.ENC_EVENT b n).bit Reg.ENC_STATUS m n = s.bit Reg.ENC_STATUS m n :=
  State.bit_wr_other _ _ _ _ _ _ _ _ _ _ _ (encEvent_ne_encStatus n).symm

@[simp] theorem bit_encEvent_setBit_encStatus (s : State) (n b m : Nat) (x : Bool) :
    (s.setBit Reg.ENC_STATUS b x n).bit Reg.ENC_EVENT m n = s.bit Reg.ENC_EVENT m n :=
  State.bit_wr_other _ _ _ _ _ _ _ _ _ _ _ (encEvent_ne_encStatus n)

/-! ### What the shared operations of a channel keep -/

section
variable {β : Type} {p : State → β}

theorem snapRearm_keeps (hs : ∀ (s : State) x, p { s with snap := x } = p s) (s : State) (n : Nat) :
    p (s.snapRearm n) = p s := by
  unfold State.snapRearm
  split
  · exact hs s _
  · rfl

theorem laneLoaded_keeps (hd : ∀ s l d, p (State.setDet s l d) = p s) (s : State) (n l : Nat) :
    p (s.laneLoaded n l) = p s := by
  unfold State.laneLoaded
  split
  · exact hd s l _
  · rfl

theorem camLoaded_keeps (hc : ∀ s q c, p (State.setCam s q c) = p s) (s : State) (n q : Nat) :
    p (s.camLoaded n q) = p s := by
  unfold State.camLoaded State.camGrid
  split
  · exact hc s q _
  · rfl

theorem encFault_keeps (hw : ∀ s r v i j k, p (State.wr s r v i j k) = p s)
    (ht : ∀ (s : State) x, p { s with wt := x } = p s) (s : State) (n : Nat) : p (s.encFault n) = p s := by
  unfold State.encFault
  split
  · rfl
  · rw [bump_keeps hw, raise_keeps hw, setBit_keeps hw, ht]

end

/-- A window fault counts in the channel and moves no position. -/
theorem windowFault_pos (s : State) (n m : Nat) : ((s.windowFault n).enc m).pos = (s.enc m).pos := by
  have hf (t : State) : ((t.encFault n).enc m).pos = (t.enc m).pos :=
    encFault_keeps (p := fun t => (t.enc m).pos) (fun _ _ _ _ _ _ => rfl) (fun _ _ => rfl) t n
  unfold State.windowFault
  extract_lets c s1
  rw [State.when_keeps (fun t => (t.enc m).pos) s1 _ (fun t => t.encFault n) (hf s1), State.enc_setEnc]
  split
  · rename_i h; rw [h]
  · rfl

/-! ### An accepted edge (R38 to R42) -/

/-- Under the conditions of R40 and R61 the command is the shared operation. -/
theorem exec_encEdgeAccept {s : State} {n : Fin 4} {a b : Bool} {held : Nat} (hon : s.on .ENC = true)
    (hmode : s.encMode n = 1) (hdead : s.encPairsDead n = false) (hheld : max 1 (s.f Reg.ENC_FILT_CFG 0 6 n) ≤ held)
    (hab : a ≠ (s.enc n).lvlA ∨ b ≠ (s.enc n).lvlB) :
    exec (.encEdgeAccept n a b held) s = .next (s.encAccept n a b) := by
  have hdead' : (!s.encPairsDead n) = true := by rw [hdead, Bool.not_false]
  exact congrArg Host.Outcome.next (if_pos ⟨hon, .inl hmode, hdead', hheld, hab⟩)

/-- An accepted edge of a DIGITAL channel adds its step to the position, on the 62-bit circle of R39. -/
theorem encAccept_pos {s : State} {n : Nat} (a b : Bool) (hmode : s.encMode n = 1) :
    ((s.encAccept n a b).enc n).pos = posWord ((s.enc n).pos.toInt + s.encStep n a b) := by
  unfold State.encAccept
  extract_lets c mode step gap c' s1 s2 s3
  have hc : c'.pos = posWord ((s.enc n).pos.toInt + s.encStep n a b) := if_pos hmode
  have h2 : (s2.enc n).pos = c'.pos := by simp [s2]
  have h3 : (s3.enc n).pos = (s2.enc n).pos := by
    simp only [s3]
    split
    · rfl
    · exact windowFault_pos _ n n
  have hm : decide (mode = 3) = false := by simp [mode, hmode]
  rw [snapRearm_keeps (p := fun t => (t.enc n).pos) (fun _ _ => rfl), hm, State.when_false, h3, h2, hc]

/-- A change of both levels has no step (R42). -/
theorem encStep_illegal {s : State} {n : Nat} {a b : Bool} (ha : a ≠ (s.enc n).lvlA) (hb : b ≠ (s.enc n).lvlB) :
    s.encStep n a b = 0 := by simp [State.encStep, ha, hb]

/-- A change of both levels keeps the position exactly where the position is a word of R4. -/
theorem encAccept_illegal_keeps_pos_iff {s : State} {n : Nat} {a b : Bool} (hmode : s.encMode n = 1)
    (ha : a ≠ (s.enc n).lvlA) (hb : b ≠ (s.enc n).lvlB) :
    ((s.encAccept n a b).enc n).pos = (s.enc n).pos ↔ posWord (s.enc n).pos.toInt = (s.enc n).pos := by
  rw [encAccept_pos a b hmode, encStep_illegal ha hb, Int.add_zero]

/-- Channel 0 in DIGITAL mode with both levels low, at the position 2^62, whose bits [63:62] do not repeat bit [61]. -/
def overrangeState : State :=
  { State.reset with
    core := { alive := true, held := false }
    regs := [(Reg.ENC_CFG.at 0 0 0, 1), (Reg.FIO_SUPPLY.at 0 0 0, 0x20000)]
    encs := [(0, { pos := 0x4000000000000000 })] }

/-- Refutes O1: the statement asks of every state that a change of both levels keeps the position, and no hypothesis says that
the position is a word of R4. An accepted edge puts the position into that form even where its step is 0: in `overrangeState`
the position 2^62 becomes 0. -/
theorem not_encoderEdgeStepsPosition : ¬ Obligations.EncoderEdgeStepsPosition := by
  unfold Obligations.EncoderEdgeStepsPosition
  intro h
  have hon : overrangeState.on .ENC = true := by decide
  have hmode : overrangeState.encMode 0 = 1 := by decide
  have hdead : overrangeState.encPairsDead 0 = false := by decide
  have hheld : max 1 (overrangeState.f Reg.ENC_FILT_CFG 0 6 0) ≤ 4 := by decide
  have ha : true ≠ (overrangeState.enc 0).lvlA := by decide
  have hb : true ≠ (overrangeState.enc 0).lvlB := by decide
  obtain ⟨t, ht, hpos, -⟩ := (h overrangeState 0 true true 4 hon hmode hdead hheld).2 ⟨ha, hb⟩
  rw [exec_encEdgeAccept (n := 0) hon hmode hdead hheld (.inl ha)] at ht
  cases ht
  exact absurd ((encAccept_illegal_keeps_pos_iff hmode ha hb).1 hpos) (by decide)

/-! ### A write of ENC_CFG (R34, R35) -/

theorem exec_encCfgWrite {s : State} {w : Writer} {n : Fin 4} (v : Word) (h : s.takes w Reg.ENC_CFG n 0 0 = true) :
    exec (.encCfgWrite w n v) s = .next (s.encCfgWrite n v) := congrArg _ (takes_gate h _)

/-- An accepted write of ENC_CFG, up to the other bits of the channel's status and the detectors of lanes: the word is stored,
and where MODE or INVERT changes the channel goes on from the same position with POSITION_UNKNOWN set (R34). -/
theorem encCfgApply_eq {β : Type} {p : State → β} {n : Nat} (v : Word)
    (hb : ∀ s b x, b ≠ 0 → p (State.setBit s Reg.ENC_STATUS b x n) = p s)
    (hd : ∀ s l d, p (State.setDet s l d) = p s) (s : State) :
    ∃ c : EncCh, c.pos = (s.enc n).pos ∧
      p (s.encCfgApply n v) = p ((s.wr Reg.ENC_CFG (v &&& Reg.ENC_CFG.rw) n).when (encModeChanges (s.rd Reg.ENC_CFG n) v)
        (fun t => (t.setEnc n c).setBit Reg.ENC_STATUS 0 true n)) := by
  unfold State.encCfgApply
  extract_lets changed mode s1 s2 s3
  have h3 : p s3 = p s2 := State.when_keeps p _ _ _ (hb _ _ _ (by decide))
  rw [State.when_keeps p _ _ _ (hb _ _ _ (by decide)), h3]
  change ∃ c : EncCh, _ ∧ p s2 = p (s1.when changed _)
  simp only [s2]
  clear_value changed
  cases changed with
  | false => exact ⟨s.enc n, rfl, rfl⟩
  | true =>
    refine ⟨?channel, ?pos, (State.forAll_keeps p _ (fun l t => ?taint) _ _).trans ?status⟩
    case taint =>
      split
      · exact hd t l _
      · rfl
    case status =>
      rw [State.when_keeps p _ _ _ (hb _ _ _ (by decide)),
        State.when_keeps p _ _ _ ((hb _ _ _ (by decide)).trans (hb _ _ _ (by decide)))]
      rfl
    case pos => rfl

theorem encCfgApply_rd (s : State) (n : Nat) (v : Word) :
    (s.encCfgApply n v).rd Reg.ENC_CFG n = v &&& Reg.ENC_CFG.rw := by
  have hb (t : State) (b : Nat) (x : Bool) : (t.setBit Reg.ENC_STATUS b x n).rd Reg.ENC_CFG n = t.rd Reg.ENC_CFG n :=
    State.rd_wr_other _ _ _ _ _ _ _ _ _ _ (encCfg_ne_encStatus n)
  obtain ⟨c, -, h⟩ := encCfgApply_eq (p := fun t => t.rd Reg.ENC_CFG n) (n := n) v (fun t b x _ => hb t b x)
    (fun _ _ _ => rfl) s
  rw [h, State.when_keeps (fun t => t.rd Reg.ENC_CFG n) _ _ _ (hb _ _ _), State.rd_wr_same]

theorem encCfgApply_pos (s : State) (n : Nat) (v : Word) : ((s.encCfgApply n v).enc n).pos = (s.enc n).pos := by
  obtain ⟨c, hc, h⟩ := encCfgApply_eq (p := fun t => (t.enc n).pos) (n := n) v (fun _ _ _ _ => rfl) (fun _ _ _ => rfl) s
  rw [h]
  refine State.when_keeps (fun t => (t.enc n).pos) _ _ _ ?_
  simp [State.setBit, hc]

theorem encCfgApply_unknown {s : State} {n : Nat} {v : Word} (hv : fld (s.rd Reg.ENC_CFG n) 0 3 ≠ fld v 0 3) :
    (s.encCfgApply n v).bit Reg.ENC_STATUS 0 n = true := by
  obtain ⟨c, -, h⟩ := encCfgApply_eq (p := fun t => t.bit Reg.ENC_STATUS 0 n) (n := n) v
    (fun t b x hb => State.bit_setBit_bit t _ b 0 x n 0 0 hb.symm) (fun _ _ _ => rfl) s
  rw [h, encModeChanges, decide_eq_true hv, State.when_true, State.bit_setBit_same _ _ _ _ _ _ _ (by decide)]

theorem encCfgApply_regsKept (s : State) (n : Nat) (v : Word) :
    RegsKept s (s.encCfgApply n v) [Reg.ENC_CFG.at n 0 0, Reg.ENC_STATUS.at n 0 0] := by
  intro a ha
  simp only [List.mem_cons, List.not_mem_nil, or_false, not_or] at ha
  obtain ⟨hcfg, hstat⟩ := ha
  have hb (t : State) (b : Nat) (x : Bool) :
      AMap.look (t.setBit Reg.ENC_STATUS b x n).regs a = AMap.look t.regs a := State.look_wr_other _ _ _ _ _ _ _ hstat
  obtain ⟨c, -, h⟩ := encCfgApply_eq (p := fun t => AMap.look t.regs a) (n := n) v (fun t b x _ => hb t b x)
    (fun _ _ _ => rfl) s
  rw [h, State.when_keeps (fun t => AMap.look t.regs a) _ _ _ (hb _ _ _), State.look_wr_other _ _ _ _ _ _ _ hcfg]

theorem encCfgApply_mem (s : State) (n : Nat) (v : Word) : (s.encCfgApply n v).mem = s.mem := by
  obtain ⟨c, -, h⟩ := encCfgApply_eq (p := fun t => t.mem) (n := n) v (fun _ _ _ _ => rfl) (fun _ _ _ => rfl) s
  rw [h]
  exact State.when_keeps (fun t => t.mem) _ _ _ rfl

/-- A change of MODE or INVERT under a comet is refused (R35). -/
theorem encCfgCheck_busy {s : State} {n : Nat} {v : Word} (hv : fld (s.rd Reg.ENC_CFG n) 0 3 ≠ fld v 0 3)
    (hc : s.cometsOn n = true) : s.encCfgCheck n v = some S_BUSY := if_pos ⟨decide_eq_true hv, hc⟩

/-- A refusal of a write to a channel's ENC_CFG is recorded with its status and address (R12). -/
theorem refuse_encCfg_refusedWith (s : State) {st : Nat} (hst : st < 2 ^ 32) (n : Nat) :
    (s.refuse st (Reg.ENC_CFG.at n 0 0)).refusedWith st (Reg.ENC_CFG.at n 0 0) := by
  obtain ⟨-, hhi⟩ := encCfg_range n
  unfold State.refusedWith State.refuse State.raise State.setBit State.bump State.bumpBy
  constructor
  · rw [State.rd_wr_other _ _ _ _ _ _ _ _ _ _ (by decide), State.rd_wr_other _ _ _ _ _ _ _ _ _ _ (by decide),
      State.rd_wr_other _ _ _ _ _ _ _ _ _ _ (by decide), State.rd_wr_same, BitVec.toNat_ofNat, Nat.mod_eq_of_lt hst]
  · rw [State.rd_wr_other _ _ _ _ _ _ _ _ _ _ (by decide), State.rd_wr_other _ _ _ _ _ _ _ _ _ _ (by decide),
      State.rd_wr_same, BitVec.toNat_ofNat]
    omega

/-- A refusal leaves the configuration of every channel: the channels have no status of their own for it. -/
theorem refuse_encCfg_rd (s : State) (st n : Nat) :
    (s.refuse st (Reg.ENC_CFG.at n 0 0)).rd Reg.ENC_CFG n = s.rd Reg.ENC_CFG n := by
  obtain ⟨hlo, hhi⟩ := encCfg_range n
  have hblock : blockAt (Reg.ENC_CFG.at n 0 0) = some .ENC := by
    unfold blockAt
    rw [if_neg (by omega), if_neg (by omega), if_neg (by omega), if_pos hhi]
  have other {r : RegRow} (hr : r.at 0 0 0 < 0x400000) (t : State) (x : Word) :
      (t.wr r x).rd Reg.ENC_CFG n = t.rd Reg.ENC_CFG n := State.rd_wr_other _ _ _ _ _ _ _ _ _ _ (by omega)
  unfold State.refuse State.raise State.setBit State.bump State.bumpBy State.lastStatus
  rw [hblock, other (by decide), other (by decide), other (by decide), other (by decide)]

/-- Settles O2: an accepted write by `encCfgApply_eq`, a refused one by the check of R35. -/
theorem encoderConfigurationWrite : Obligations.EncoderConfigurationWrite := by
  unfold Obligations.EncoderConfigurationWrite
  intro s w n v htakes
  rw [exec_encCfgWrite v htakes]
  constructor
  · intro hcheck
    refine ⟨_, rfl, ?_⟩
    rw [State.encCfgWrite, hcheck]
    exact ⟨encCfgApply_rd s n v, encCfgApply_pos s n v, encCfgApply_unknown, encCfgApply_regsKept s n v,
      memKept_of (encCfgApply_mem s n v)⟩
  · intro hv hcomet
    refine ⟨_, rfl, ?_⟩
    rw [State.encCfgWrite, encCfgCheck_busy hv hcomet]
    exact ⟨refuse_encCfg_refusedWith s (by decide) n, refuse_encCfg_rd s S_BUSY n,
      refuse_keeps (p := fun t => t.encs) (fun _ _ _ _ _ _ => rfl) s _ _⟩

/-! ### A load of the position (R56, R59) -/

/-- A load of the position, up to the detectors of lanes and the grids of ports: the channel goes on from the new position,
the snapshot may arm again, POSITION_UNKNOWN clears, and KNOWN is raised where it was set. -/
theorem loadPos_eq {β : Type} {p : State → β} (hd : ∀ s l d, p (State.setDet s l d) = p s)
    (hc : ∀ s q c, p (State.setCam s q c) = p s) (s : State) (n : Nat) (x : DWord) :
    ∃ c : EncCh, c.pos = x ∧ c.capPos = (s.enc n).capPos ∧
      p (s.loadPos n x) = p ((((s.setEnc n c).snapRearm n).setBit Reg.ENC_STATUS 0 false n).when
        (s.bit Reg.ENC_STATUS 0 n) (fun t => t.raise Reg.ENC_EVENT 8 n)) := by
  unfold State.loadPos
  extract_lets c d known c' s1 s2
  refine ⟨c', rfl, rfl, ?_⟩
  rw [State.forAll_keeps p _ (fun q t => camLoaded_keeps hc t n q),
    State.forAll_keeps p _ (fun l t => laneLoaded_keeps hd t n l)]

theorem loadPos_enc (s : State) (n : Nat) (x : DWord) :
    ((s.loadPos n x).enc n).pos = x ∧ ((s.loadPos n x).enc n).capPos = (s.enc n).capPos := by
  obtain ⟨c, hpos, hcap, h⟩ := loadPos_eq (p := fun t => t.enc n) (fun _ _ _ => rfl) (fun _ _ _ => rfl) s n x
  have hc : (s.loadPos n x).enc n = c := by
    rw [h, State.when_keeps (fun t => t.enc n) _ _ _ rfl]
    refine (snapRearm_keeps (p := fun t => t.enc n) (fun _ _ => rfl) _ n).trans ?_
    rw [State.enc_setEnc, if_pos rfl]
  rw [hc]
  exact ⟨hpos, hcap⟩

theorem loadPos_known (s : State) (n : Nat) (x : DWord) : (s.loadPos n x).bit Reg.ENC_STATUS 0 n = false := by
  obtain ⟨c, -, -, h⟩ := loadPos_eq (p := fun t => t.bit Reg.ENC_STATUS 0 n) (fun _ _ _ => rfl) (fun _ _ _ => rfl) s n x
  rw [h, State.when_keeps (fun t => t.bit Reg.ENC_STATUS 0 n) _ _ (fun t => t.raise Reg.ENC_EVENT 8 n)
    (bit_encStatus_raise_encEvent _ n 8 0), State.bit_setBit_same _ _ _ _ _ _ _ (by decide)]

/-- A load raises no event of the channel but KNOWN. -/
theorem loadPos_event (s : State) (n : Nat) (x : DWord) {b : Nat} (hb : b ≠ 8) :
    (s.loadPos n x).bit Reg.ENC_EVENT b n = s.bit Reg.ENC_EVENT b n := by
  obtain ⟨c, -, -, h⟩ := loadPos_eq (p := fun t => t.bit Reg.ENC_EVENT b n) (fun _ _ _ => rfl) (fun _ _ _ => rfl) s n x
  rw [h, State.when_keeps (fun t => t.bit Reg.ENC_EVENT b n) _ _ (fun t => t.raise Reg.ENC_EVENT 8 n)
    (State.bit_setBit_bit _ _ _ _ _ _ _ _ hb), bit_encEvent_setBit_encStatus]
  exact snapRearm_keeps (p := fun t => t.bit Reg.ENC_EVENT b n) (fun _ _ => rfl) _ n

theorem loadPos_regsKept (s : State) (n : Nat) (x : DWord) :
    RegsKept s (s.loadPos n x) [Reg.ENC_STATUS.at n 0 0, Reg.ENC_EVENT.at n 0 0] := by
  intro a ha
  simp only [List.mem_cons, List.not_mem_nil, or_false, not_or] at ha
  obtain ⟨hstat, hevent⟩ := ha
  obtain ⟨c, -, -, h⟩ := loadPos_eq (p := fun t => AMap.look t.regs a) (fun _ _ _ => rfl) (fun _ _ _ => rfl) s n x
  rw [h, State.when_keeps (fun t => AMap.look t.regs a) _ _ _ (State.look_wr_other _ _ _ _ _ _ _ hevent),
    State.setBit, State.look_wr_other _ _ _ _ _ _ _ hstat]
  exact snapRearm_keeps (p := fun t => AMap.look t.regs a) (fun _ _ => rfl) _ n

theorem loadPos_mem (s : State) (n : Nat) (x : DWord) : (s.loadPos n x).mem = s.mem := by
  obtain ⟨c, -, -, h⟩ := loadPos_eq (p := fun t => t.mem) (fun _ _ _ => rfl) (fun _ _ _ => rfl) s n x
  rw [h, State.when_keeps (fun t => t.mem) _ _ _ rfl]
  exact snapRearm_keeps (p := fun t => t.mem) (fun _ _ => rfl) _ n

/-! ### PRESET, the index event and FAULT_CLEAR (R56, R58, R59, R63) -/

theorem exec_preset {s : State} {w : Writer} {n : Fin 4} (h : s.takes w Reg.ENC_CMD n 0 0 = true) :
    exec (.preset w n) s = .next (s.encPreset n) := congrArg _ (takes_gate h _)

theorem exec_faultClear {s : State} {w : Writer} {n : Fin 4} (h : s.takes w Reg.ENC_CMD n 0 0 = true) :
    exec (.faultClear w n) s = .next (s.encFaultClear n) := congrArg _ (takes_gate h _)

theorem encPreset_loads {s : State} {n : Nat} (h : s.bit Reg.ENC_STATUS 0 n = true ∨ s.cometsOn n = false) :
    s.encPreset n = (s.loadPos n (posWord (s.rd64 Reg.ENC_PRESET_LO Reg.ENC_PRESET_HI n).toInt)).raise Reg.ENC_EVENT 6 n :=
  if_pos (h.imp_right fun hc => by rw [hc, Bool.not_false])

theorem encPreset_turned_away {s : State} {n : Nat} (h : s.bit Reg.ENC_STATUS 0 n = false) (hc : s.cometsOn n = true) :
    s.encPreset n = s.raise Reg.ENC_EVENT 7 n := if_neg (by simp [h, hc])

/-- Under the conditions of R645, R646 and R651 the command is the shared operation. -/
theorem exec_indexEvent {s : State} {n : Fin 4} {held : Nat} {sinHigh cosHigh : Bool} (hon : s.on .ENC = true)
    (hmode : s.encMode n ≠ 0) (hopen : s.bit Reg.ENC_STATUS 7 n = false) (hfield : s.fieldAbsent = false)
    (hheld : s.bit Reg.ENC_CFG 4 n = true ∨ max 1 (s.f Reg.ENC_FILT_CFG 0 6 n) ≤ held)
    (hqual : s.indexQualified n sinHigh cosHigh = true) :
    exec (.indexEvent n held sinHigh cosHigh) s = .next (s.indexEvent n) := by
  refine congrArg Host.Outcome.next (if_pos ⟨hon, hmode, ?_, ?_, ?_, hqual⟩)
  · rw [hopen, Bool.not_false]
  · rw [hfield, Bool.not_false]
  · simpa using hheld

/-- An index event at an unknown position captures the position and loads the index position (R56). -/
theorem indexEvent_loads {s : State} {n : Nat} (h : s.bit Reg.ENC_STATUS 0 n = true) :
    s.indexEvent n =
      ((s.setEnc n { s.enc n with capPos := (s.enc n).pos, capTime := s.now }).raise Reg.ENC_EVENT 1 n).loadPos n
        (posWord (s.rd64 Reg.ENC_INDEX_POS_LO Reg.ENC_INDEX_POS_HI n).toInt) := by
  unfold State.indexEvent
  extract_lets c s1
  have hbit : s1.bit Reg.ENC_STATUS 0 n = true :=
    (bit_encStatus_raise_encEvent _ n 1 0).trans h
  have hlo : s1.rd Reg.ENC_INDEX_POS_LO n = s.rd Reg.ENC_INDEX_POS_LO n :=
    State.rd_wr_other _ _ _ _ _ _ _ _ _ _ (encIndexPosLo_ne_encEvent n)
  have hhi : s1.rd Reg.ENC_INDEX_POS_HI n = s.rd Reg.ENC_INDEX_POS_HI n :=
    State.rd_wr_other _ _ _ _ _ _ _ _ _ _ (encIndexPosHi_ne_encEvent n)
  rw [if_pos hbit, State.rd64, hlo, hhi]
  rfl

/-- FAULT_CLEAR of a channel whose causes are gone (R63): the flags clear and the fault window starts empty. -/
theorem encFaultClear_of_clearable {s : State} {n : Nat} (h : s.encClearable n = true) :
    s.encFaultClear n = (((s.setEnc n { s.enc n with winStart := s.raw, winCnt := 0, edgeCount := (s.enc n).pos }).setBit
      Reg.ENC_STATUS 4 false n).setBit Reg.ENC_STATUS 10 false n).setBit Reg.ENC_STATUS 11 false n := if_pos h

/-- Settles O3: PRESET and the index event load by `loadPos`, and FAULT_CLEAR clears three bits of the status. -/
theorem encoderPositionLoads : Obligations.EncoderPositionLoads := by
  unfold Obligations.EncoderPositionLoads
  refine ⟨?preset, ?away, ?index, ?clear⟩
  case preset =>
    intro s w n htakes hload
    refine ⟨_, exec_preset htakes, ?_⟩
    rw [encPreset_loads hload]
    refine ⟨(loadPos_enc s n _).1, ?_, bit_raise_same _ _ _ (by decide), ?_, memKept_of (loadPos_mem s n _)⟩
    · rw [bit_encStatus_raise_encEvent, loadPos_known]
    · exact regsKept_wr (loadPos_regsKept s n _) (by simp)
  case away =>
    intro s w n htakes hunknown hcomet
    refine ⟨_, exec_preset htakes, ?_⟩
    rw [encPreset_turned_away hunknown hcomet]
    exact ⟨rfl, bit_raise_same _ _ _ (by decide), regsKept_wr (regsKept_refl s _) (by simp), memKept_of rfl⟩
  case index =>
    intro s n held sinHigh cosHigh hon hmode hopen hfield hunknown hheld hqual
    refine ⟨_, exec_indexEvent hon hmode hopen hfield hheld hqual, ?_⟩
    rw [indexEvent_loads hunknown]
    refine ⟨(loadPos_enc _ n _).1, loadPos_known _ n _, ?_, ?_⟩
    · rw [loadPos_event _ n _ (by decide), bit_raise_same _ _ _ (by decide)]
    · rw [(loadPos_enc _ n _).2]
      simp [State.raise, State.setBit]
  case clear =>
    intro s w n htakes hclear
    refine ⟨_, exec_faultClear htakes, ?_⟩
    rw [encFaultClear_of_clearable hclear]
    refine ⟨?fault, ?check, ?cross, ?pos, ?window, ?regs, memKept_of rfl⟩
    case fault => simp [State.bit_setBit_bit]
    case check => simp [State.bit_setBit_bit]
    case cross => simp
    case pos => simp [State.setBit]
    case window => simp [State.setBit]
    case regs => exact regsKept_wr (regsKept_wr (regsKept_wr (regsKept_of rfl) (by simp)) (by simp)) (by simp)

end Sys2Proof.Machine
end

section
/-!
Network time (spec/18_network_time.md): what the writes of the rate, of OFFSET and of the adjustment make of the time base,
and the statement about them settled.
-/
namespace Sys2Proof.Machine

open Sys2Proof

/-! ### Pairs of registers (R4) -/

theorem joinWords_hiWord_loWord (x : DWord) : joinWords (hiWord x) (loWord x) = x := by
  apply BitVec.eq_of_getLsbD_eq
  intro i hi
  by_cases h : i < 32
  · simp [joinWords, hiWord, loWord, h, hi]
  · have hsub : i - 32 < 32 := by omega
    have hsub' : i - 32 < 64 := by omega
    have hadd : 32 + (i - 32) = i := by omega
    simp [joinWords, hiWord, loWord, h, hi, hsub, hsub', hadd]

theorem rd64_wr64_same (s : State) {lo hi : RegRow} (v : DWord) {i j : Nat} (h : lo.at i j 0 ≠ hi.at i j 0) :
    (s.wr64 lo hi v i j).rd64 lo hi i j = v := by
  rw [State.rd64, State.wr64, State.rd_wr_same, State.rd_wr_other _ _ _ _ _ _ _ _ _ _ h, State.rd_wr_same,
    joinWords_hiWord_loWord]

theorem rd64_wr_other (s : State) {r lo hi : RegRow} (v : Word) {i j k i' j' : Nat} (hlo : lo.at i' j' 0 ≠ r.at i j k)
    (hhi : hi.at i' j' 0 ≠ r.at i j k) : (s.wr r v i j k).rd64 lo hi i' j' = s.rd64 lo hi i' j' := by
  rw [State.rd64, State.rd64, State.rd_wr_other _ _ _ _ _ _ _ _ _ _ hlo, State.rd_wr_other _ _ _ _ _ _ _ _ _ _ hhi]

theorem rd64_wr64_other (s : State) {lo hi lo' hi' : RegRow} (v : DWord) {i j i' j' : Nat}
    (hll : lo'.at i' j' 0 ≠ lo.at i j 0) (hhl : hi'.at i' j' 0 ≠ lo.at i j 0) (hlh : lo'.at i' j' 0 ≠ hi.at i j 0)
    (hhh : hi'.at i' j' 0 ≠ hi.at i j 0) : (s.wr64 lo hi v i j).rd64 lo' hi' i' j' = s.rd64 lo' hi' i' j' :=
  (rd64_wr_other _ _ hlh hhh).trans (rd64_wr_other _ _ hll hhl)

theorem regsKept_wr64 {s t : State} {l : List Nat} {lo hi : RegRow} {v : DWord} {i j : Nat} (h : RegsKept s t l)
    (hlo : lo.at i j 0 ∈ l) (hhi : hi.at i j 0 ∈ l) : RegsKept s (t.wr64 lo hi v i j) l :=
  regsKept_wr (regsKept_wr h hlo) hhi

/-- A register outside the frame reads as it did. -/
theorem rd_of_regsKept {s t : State} {l : List Nat} (h : RegsKept s t l) {r : RegRow} {i j k : Nat} (hr : r.at i j k ∉ l) :
    t.rd r i j k = s.rd r i j k := by
  rw [State.rd, AMap.get, h _ hr]
  rfl

/-- A refusal records its status and address (R12). -/
theorem refuse_refusedWith (s : State) {st addr : Nat} (hst : st < 2 ^ 32) (haddr : addr < 2 ^ 26) :
    (s.refuse st addr).refusedWith st addr := by
  unfold State.refusedWith State.refuse State.raise State.setBit State.bump State.bumpBy
  constructor
  · rw [State.rd_wr_other _ _ _ _ _ _ _ _ _ _ (by decide), State.rd_wr_other _ _ _ _ _ _ _ _ _ _ (by decide),
      State.rd_wr_other _ _ _ _ _ _ _ _ _ _ (by decide), State.rd_wr_same, BitVec.toNat_ofNat, Nat.mod_eq_of_lt hst]
  · rw [State.rd_wr_other _ _ _ _ _ _ _ _ _ _ (by decide), State.rd_wr_other _ _ _ _ _ _ _ _ _ _ (by decide),
      State.rd_wr_same, BitVec.toNat_ofNat]
    omega

/-! ### The reading of the time base (R514) -/

/-- At its own ANCHOR the time base reads OFFSET. -/
theorem now_of_anchor {s : State} (h : s.rd64 Reg.TIME_ANCHOR_LO Reg.TIME_ANCHOR_HI = s.raw) :
    s.now = s.rd64 Reg.TIME_OFFSET_LO Reg.TIME_OFFSET_HI := by
  simp [State.now, State.timeAt, h]

/-- Under one ANCHOR and one rate, the time moves by what OFFSET moves. -/
theorem now_of_offset_add {s t : State} {d : DWord} (hraw : t.raw = s.raw)
    (hanchor : t.rd64 Reg.TIME_ANCHOR_LO Reg.TIME_ANCHOR_HI = s.rd64 Reg.TIME_ANCHOR_LO Reg.TIME_ANCHOR_HI)
    (hrate : t.rd Reg.TIME_RATE = s.rd Reg.TIME_RATE)
    (hoffset : t.rd64 Reg.TIME_OFFSET_LO Reg.TIME_OFFSET_HI = s.rd64 Reg.TIME_OFFSET_LO Reg.TIME_OFFSET_HI + d) :
    t.now = s.now + d := by
  simp only [State.now, State.timeAt, hraw, hanchor, hrate, hoffset]
  ac_rfl

/-- The registers from which the time is computed. -/
def timeRegs : List Nat := [Reg.TIME_RATE.addr, Reg.TIME_OFFSET_LO.addr, Reg.TIME_OFFSET_HI.addr,
  Reg.TIME_ANCHOR_LO.addr, Reg.TIME_ANCHOR_HI.addr]

/-- A change that keeps the registers of the time base and the raw counter keeps the time. -/
theorem now_of_regsKept {s t : State} {l : List Nat} (hraw : t.raw = s.raw) (h : RegsKept s t l)
    (hl : ∀ a ∈ timeRegs, a ∉ l) : t.now = s.now := by
  have hrd (r : RegRow) (hr : r.at 0 0 0 ∈ timeRegs) : t.rd r = s.rd r := rd_of_regsKept h (hl _ hr)
  have hrd64 (lo hi : RegRow) (hlo : lo.at 0 0 0 ∈ timeRegs) (hhi : hi.at 0 0 0 ∈ timeRegs) :
      t.rd64 lo hi = s.rd64 lo hi := by
    rw [State.rd64, State.rd64, hrd lo hlo, hrd hi hhi]
  simp only [State.now, State.timeAt, hraw, hrd Reg.TIME_RATE (by decide),
    hrd64 Reg.TIME_ANCHOR_LO Reg.TIME_ANCHOR_HI (by decide) (by decide),
    hrd64 Reg.TIME_OFFSET_LO Reg.TIME_OFFSET_HI (by decide) (by decide)]

/-! ### A new base -/

theorem setBase_offset (s : State) (offset anchor : DWord) :
    (s.setBase offset anchor).rd64 Reg.TIME_OFFSET_LO Reg.TIME_OFFSET_HI = offset :=
  (rd64_wr64_other _ anchor (by decide) (by decide) (by decide) (by decide)).trans (rd64_wr64_same s offset (by decide))

theorem setBase_anchor (s : State) (offset anchor : DWord) :
    (s.setBase offset anchor).rd64 Reg.TIME_ANCHOR_LO Reg.TIME_ANCHOR_HI = anchor :=
  rd64_wr64_same _ anchor (by decide)

theorem setBase_regsKept (s : State) (offset anchor : DWord) :
    RegsKept s (s.setBase offset anchor) timeRegs :=
  regsKept_wr64 (regsKept_wr64 (regsKept_refl s _) (by decide) (by decide)) (by decide) (by decide)

/-! ### A step (R517, R523) -/

/-- The registers in which a step is recorded. -/
def stepRegs : List Nat := [Reg.TIME_EVENT.addr, Reg.TIME_STATUS.addr, Reg.TIME_CNT.at 0 0 0, Reg.TIME_CNT.at 3 0 0]

/-- A loss of the lock keeps what neither the servo's counts nor the writes of its record touch. -/
theorem timeUnlock_keeps {β : Type} {p : State → β} (ht : ∀ (s : State) x, p { s with time := x } = p s)
    (hrec : ∀ s : State, p (((s.setBit Reg.TIME_STATUS 1 false).raise Reg.TIME_EVENT 2).bump Reg.TIME_CNT 3) = p s)
    (s : State) : p s.timeUnlock = p s := by
  unfold State.timeUnlock
  extract_lets x s1
  split
  · exact (hrec s1).trans (ht s _)
  · exact ht s _

theorem timeUnlock_unlocked (s : State) : s.timeUnlock.bit Reg.TIME_STATUS 1 = false := by
  unfold State.timeUnlock
  extract_lets x s1
  split
  case isTrue =>
    unfold State.bump State.bumpBy State.raise
    rw [State.bit_wr_other _ _ _ _ _ _ _ _ _ _ _ (by decide), State.setBit,
      State.bit_wr_other _ _ _ _ _ _ _ _ _ _ _ (by decide), State.bit_setBit_same _ _ _ _ _ _ _ (by decide)]
  case isFalse h => exact Bool.eq_false_iff.2 h

/-- A step keeps what neither the servo's counts nor writes of the registers that record it touch. -/
theorem timeStepped_keeps {β : Type} {p : State → β} (ht : ∀ (s : State) x, p { s with time := x } = p s)
    (hw : ∀ (s : State) (r : RegRow) (v : Word) (i : Nat), r.at i 0 0 ∈ stepRegs → p (s.wr r v i) = p s) (s : State) :
    p s.timeStepped = p s := by
  unfold State.timeStepped
  rw [timeUnlock_keeps ht]
  case hrec =>
    intro t
    exact (hw _ _ _ _ (by decide)).trans ((hw _ _ _ _ (by decide)).trans (hw _ _ _ _ (by decide)))
  exact (hw _ _ _ _ (by decide)).trans (hw _ _ _ _ (by decide))

theorem timeStepped_rd (s : State) {r : RegRow} (hr : r.at 0 0 0 ∉ stepRegs) : s.timeStepped.rd r = s.rd r :=
  timeStepped_keeps (p := fun t => t.rd r) (fun _ _ => rfl)
    (fun _ _ _ _ h => State.rd_wr_other _ _ _ _ _ _ _ _ _ _ (fun e => hr (by rw [e]; exact h))) s

theorem timeStepped_rd64 (s : State) {lo hi : RegRow} (hlo : lo.at 0 0 0 ∉ stepRegs) (hhi : hi.at 0 0 0 ∉ stepRegs) :
    s.timeStepped.rd64 lo hi = s.rd64 lo hi := by
  rw [State.rd64, State.rd64, timeStepped_rd s hlo, timeStepped_rd s hhi]

theorem timeStepped_raw (s : State) : s.timeStepped.raw = s.raw :=
  timeStepped_keeps (p := fun t => t.raw) (fun _ _ => rfl) (fun _ _ _ _ _ => rfl) s

theorem timeStepped_mem (s : State) : s.timeStepped.mem = s.mem :=
  timeStepped_keeps (p := fun t => t.mem) (fun _ _ => rfl) (fun _ _ _ _ _ => rfl) s

/-- A step raises STEP. -/
theorem timeStepped_event (s : State) : s.timeStepped.bit Reg.TIME_EVENT 0 = true := by
  unfold State.timeStepped
  rw [timeUnlock_keeps (p := fun t => t.bit Reg.TIME_EVENT 0) (fun _ _ => rfl)]
  case hrec =>
    intro t
    calc _ = ((t.setBit Reg.TIME_STATUS 1 false).raise Reg.TIME_EVENT 2).bit Reg.TIME_EVENT 0 :=
          State.bit_wr_other _ _ _ _ _ _ _ _ _ _ _ (by decide)
      _ = (t.setBit Reg.TIME_STATUS 1 false).bit Reg.TIME_EVENT 0 := State.bit_setBit_bit _ _ _ _ _ _ _ _ (by decide)
      _ = t.bit Reg.TIME_EVENT 0 := State.bit_wr_other _ _ _ _ _ _ _ _ _ _ _ (by decide)
  exact (State.bit_wr_other _ _ _ _ _ _ _ _ _ _ _ (by decide)).trans (bit_raise_same s _ 0 (by decide))

/-- A step keeps VALID. -/
theorem timeStepped_valid (s : State) : s.timeStepped.bit Reg.TIME_STATUS 0 = s.bit Reg.TIME_STATUS 0 := by
  have other (t : State) {r : RegRow} (v : Word) (i : Nat) (hr : Reg.TIME_STATUS.at 0 0 0 ≠ r.at i 0 0) :
      (t.wr r v i).bit Reg.TIME_STATUS 0 = t.bit Reg.TIME_STATUS 0 := State.bit_wr_other _ _ _ _ _ _ _ _ _ _ _ hr
  unfold State.timeStepped
  rw [timeUnlock_keeps (p := fun t => t.bit Reg.TIME_STATUS 0) (fun _ _ => rfl)]
  case hrec =>
    intro t
    calc _ = ((t.setBit Reg.TIME_STATUS 1 false).raise Reg.TIME_EVENT 2).bit Reg.TIME_STATUS 0 := other _ _ _ (by decide)
      _ = (t.setBit Reg.TIME_STATUS 1 false).bit Reg.TIME_STATUS 0 := other _ _ _ (by decide)
      _ = t.bit Reg.TIME_STATUS 0 := State.bit_setBit_bit _ _ _ _ _ _ _ _ (by decide)
  exact (other _ _ _ (by decide)).trans (other _ _ _ (by decide))

theorem timeStepped_unlocked (s : State) : s.timeStepped.bit Reg.TIME_STATUS 1 = false := timeUnlock_unlocked _

/-! ### The three writes (R516, R517, R520) -/

theorem timeRate_offset (s : State) (rate : Word) :
    (s.timeRate rate).rd64 Reg.TIME_OFFSET_LO Reg.TIME_OFFSET_HI = s.now :=
  (rd64_wr_other _ rate (by decide) (by decide)).trans (setBase_offset s s.now s.raw)

theorem timeRate_anchor (s : State) (rate : Word) :
    (s.timeRate rate).rd64 Reg.TIME_ANCHOR_LO Reg.TIME_ANCHOR_HI = s.raw :=
  (rd64_wr_other _ rate (by decide) (by decide)).trans (setBase_anchor s s.now s.raw)

/-- The time is continuous across a change of the rate (R516). -/
theorem timeRate_now (s : State) (rate : Word) : (s.timeRate rate).now = s.now :=
  (now_of_anchor (timeRate_anchor s rate)).trans (timeRate_offset s rate)

theorem timeRate_regsKept (s : State) (rate : Word) : RegsKept s (s.timeRate rate) timeRegs :=
  regsKept_wr (setBase_regsKept s s.now s.raw) (by decide)

/-- OFFSET set makes the time the value set (R517). -/
theorem timeSet_now (s : State) (offset : DWord) : (s.timeSet offset).now = offset := by
  have hanchor : (s.timeSet offset).rd64 Reg.TIME_ANCHOR_LO Reg.TIME_ANCHOR_HI = (s.timeSet offset).raw := by
    rw [State.timeSet, timeStepped_raw, timeStepped_rd64 _ (by decide) (by decide)]
    exact (rd64_wr_other _ _ (by decide) (by decide)).trans (setBase_anchor s offset s.raw)
  rw [now_of_anchor hanchor, State.timeSet, timeStepped_rd64 _ (by decide) (by decide)]
  exact (rd64_wr_other _ _ (by decide) (by decide)).trans (setBase_offset s offset s.raw)

/-- OFFSET set makes the time base VALID (R520). -/
theorem timeSet_valid (s : State) (offset : DWord) : (s.timeSet offset).bit Reg.TIME_STATUS 0 = true :=
  (timeStepped_valid _).trans (State.bit_setBit_same _ _ _ _ _ _ _ (by decide))

/-- OFFSET set from a low word written and the high half that waits, else the high half in force (R6, R517). -/
def State.timeApply (s : State) (lo : Word) : State :=
  { (s.timeSet (joinWords ((AMap.look s.pairPend Reg.TIME_OFFSET_LO.addr).getD (s.rd Reg.TIME_OFFSET_HI)) lo)) with
    pairPend := AMap.del s.pairPend Reg.TIME_OFFSET_LO.addr }

theorem timeApply_pairPend (s : State) (lo : Word) :
    AMap.look (s.timeApply lo).pairPend Reg.TIME_OFFSET_LO.addr = none :=
  (AMap.look_del s.pairPend _ _).trans (if_pos rfl)

/-- An adjustment moves the time by its signed value (R517). -/
theorem timeAdjust_now (s : State) (d : Int) : (s.timeAdjust d).now = s.now + BitVec.ofInt 64 d := by
  refine now_of_offset_add (timeStepped_raw _) ?anchor ?rate ?offset
  case anchor =>
    exact (timeStepped_rd64 _ (by decide) (by decide)).trans
      (rd64_wr64_other s _ (by decide) (by decide) (by decide) (by decide))
  case rate =>
    exact (timeStepped_rd _ (by decide)).trans
      (rd_of_regsKept (regsKept_wr64 (regsKept_refl s [Reg.TIME_OFFSET_LO.addr, Reg.TIME_OFFSET_HI.addr]) (by decide)
        (by decide)) (by decide))
  case offset => exact (timeStepped_rd64 _ (by decide) (by decide)).trans (rd64_wr64_same s _ (by decide))

/-! ### The refusal under PTP (R525) -/

/-- What a host write to the time base leaves while PTP is enabled. -/
def State.timeRefusal (s : State) (addr : Nat) : State :=
  (((s.setF Reg.TIME_STATUS 16 16 S_BUSY).raise Reg.TIME_EVENT 4).bump Reg.TIME_CNT 5).refuse S_BUSY addr

theorem timeHost_refuses {s : State} (h : s.bit Reg.TIME_PTP_CFG 0 = true) (addr : Nat) (f : State → State) :
    s.timeHost .host addr f = s.timeRefusal addr := if_pos ⟨rfl, h⟩

theorem timeHost_passes {s : State} {w : Writer} (h : w = .firmware ∨ s.bit Reg.TIME_PTP_CFG 0 = false) (addr : Nat)
    (f : State → State) : s.timeHost w addr f = f s := by
  refine if_neg fun ⟨hw, hptp⟩ => ?_
  rcases h with rfl | h
  · cases hw
  · rw [h] at hptp
    cases hptp

/-- Addresses of the block TIME, whose refusals stand in TIME_STATUS too (R525). -/
theorem refuse_of_time {addr : Nat} (h : blockAt addr = some .TIME) (s : State) (st : Nat) :
    s.refuse st addr = ((((s.setF Reg.TIME_STATUS 16 16 st).wr Reg.SYS_REFUSED_STATUS (BitVec.ofNat 32 st)).wr
      Reg.SYS_REFUSED_ADDR (BitVec.ofNat 32 (addr % 2 ^ 26))).bump Reg.SYS_REFUSED_CNT).raise Reg.SYS_HOST_EVENT 2 := by
  rw [State.refuse, State.lastStatus, h]

/-- The registers in which a refusal under PTP is recorded. -/
def timeRefusalRegs : List Nat := [Reg.TIME_STATUS.addr, Reg.TIME_EVENT.addr, Reg.TIME_CNT.at 5 0 0,
  Reg.SYS_REFUSED_STATUS.addr, Reg.SYS_REFUSED_ADDR.addr, Reg.SYS_REFUSED_CNT.addr, Reg.SYS_HOST_EVENT.addr]

section
variable {addr : Nat} (h : blockAt addr = some .TIME) (s : State)
include h

theorem timeRefusal_regsKept : RegsKept s (s.timeRefusal addr) timeRefusalRegs := by
  rw [State.timeRefusal, refuse_of_time h]
  have hrec : RegsKept s (((s.setF Reg.TIME_STATUS 16 16 S_BUSY).raise Reg.TIME_EVENT 4).bump Reg.TIME_CNT 5)
      timeRefusalRegs :=
    regsKept_wr (regsKept_wr (regsKept_wr (regsKept_refl s _) (by decide)) (by decide)) (by decide)
  exact regsKept_wr (regsKept_wr (regsKept_wr (regsKept_wr (regsKept_wr hrec (by decide)) (by decide)) (by decide))
    (by decide)) (by decide)

theorem timeRefusal_lastStatus : (s.timeRefusal addr).f Reg.TIME_STATUS 16 16 = S_BUSY := by
  have other (t : State) {r : RegRow} (v : Word) (hr : Reg.TIME_STATUS.at 0 0 0 ≠ r.at 0 0 0) :
      (t.wr r v).f Reg.TIME_STATUS 16 16 = t.f Reg.TIME_STATUS 16 16 := State.f_wr_other _ _ _ _ _ _ _ _ _ _ _ _ hr
  rw [State.timeRefusal, refuse_of_time h]
  unfold State.raise State.setBit State.bump State.bumpBy
  rw [other _ _ (by decide), other _ _ (by decide), other _ _ (by decide), other _ _ (by decide),
    State.f_setF_same _ _ _ _ _ _ _ _ (by decide)]
  rfl

theorem timeRefusal_event : (s.timeRefusal addr).bit Reg.TIME_EVENT 4 = true := by
  have other (t : State) {r : RegRow} (v : Word) (i : Nat) (hr : Reg.TIME_EVENT.at 0 0 0 ≠ r.at i 0 0) :
      (t.wr r v i).bit Reg.TIME_EVENT 4 = t.bit Reg.TIME_EVENT 4 := State.bit_wr_other _ _ _ _ _ _ _ _ _ _ _ hr
  rw [State.timeRefusal, refuse_of_time h, State.raise, State.setBit, other _ _ _ (by decide), State.bump, State.bumpBy,
    other _ _ _ (by decide), other _ _ _ (by decide), other _ _ _ (by decide), State.setF, other _ _ _ (by decide),
    State.bump, State.bumpBy, other _ _ _ (by decide)]
  exact bit_raise_same _ _ 0 (by decide)

end

theorem timeRefusal_keeps {β : Type} {p : State → β} (hw : ∀ s r v i j k, p (State.wr s r v i j k) = p s) (s : State)
    (addr : Nat) : p (s.timeRefusal addr) = p s := by
  rw [State.timeRefusal, refuse_keeps hw, bump_keeps hw, raise_keeps hw, setF_keeps hw]

/-- A refused write leaves the time (R525). -/
theorem timeRefusal_now {addr : Nat} (h : blockAt addr = some .TIME) (s : State) : (s.timeRefusal addr).now = s.now :=
  now_of_regsKept (timeRefusal_keeps (p := fun t => t.raw) (fun _ _ _ _ _ _ => rfl) s addr) (timeRefusal_regsKept h s)
    (by decide)

/-! ### The commands -/

theorem exec_timeRateWrite {s : State} {w : Writer} (v : Word) (h : s.takes w Reg.TIME_RATE 0 0 0 = true) :
    exec (.timeRateWrite w v) s = .next (s.timeHost w Reg.TIME_RATE.addr (fun t => t.timeRate v)) :=
  congrArg _ (takes_gate h _)

theorem exec_timeOffsetApply {s : State} {w : Writer} (v : Word) (h : s.takes w Reg.TIME_OFFSET_LO 0 0 0 = true) :
    exec (.timeOffsetApply w v) s = .next (s.timeHost w Reg.TIME_OFFSET_LO.addr (fun t => t.timeApply v)) :=
  congrArg Host.Outcome.next (takes_gate h (fun t => t.timeHost w Reg.TIME_OFFSET_LO.addr (fun t => t.timeApply v)))

theorem exec_timeAdj {s : State} {w : Writer} (v : Word) (h : s.takes w Reg.TIME_ADJ 0 0 0 = true) :
    exec (.timeAdj w v) s = .next (s.timeHost w Reg.TIME_ADJ.addr (fun t => t.timeAdjust v.toInt)) :=
  congrArg _ (takes_gate h _)

theorem findReg_timeOffsetHi : findReg Reg.TIME_OFFSET_HI.addr = some (Reg.TIME_OFFSET_HI, 0, 0, 0) := by
  decide +kernel

/-- A write of the high half of OFFSET holds it pending, unless PTP refuses it (R6, R525). -/
theorem exec_pairHiWrite_timeOffset {s : State} {w : Writer} (v : Word) (h : s.takes w Reg.TIME_OFFSET_HI 0 0 0 = true) :
    exec (.pairHiWrite w Reg.TIME_OFFSET_HI.addr v) s = .next (s.timeHost w Reg.TIME_OFFSET_HI.addr (fun t =>
      { t with pairPend := AMap.put t.pairPend Reg.TIME_OFFSET_LO.addr v })) := by
  have hexec : exec (.pairHiWrite w Reg.TIME_OFFSET_HI.addr v) s = .next (s.offsetHighWrite w v) := by
    change execPairHiWrite w Reg.TIME_OFFSET_HI.addr v s = _
    rw [execPairHiWrite, findReg_timeOffsetHi]
    rfl
  rw [hexec]
  exact congrArg _ (takes_gate h _)

/-- A host write to the time base under PTP ends in the refusal, for each of the four registers (R525). -/
theorem exec_refused_under_ptp {s : State} {v : Word} {c : Instr} {r : RegRow} (hptp : s.bit Reg.TIME_PTP_CFG 0 = true)
    (hc : c = .timeRateWrite .host v ∧ r = Reg.TIME_RATE ∨ c = .timeOffsetApply .host v ∧ r = Reg.TIME_OFFSET_LO ∨
      c = .pairHiWrite .host Reg.TIME_OFFSET_HI.addr v ∧ r = Reg.TIME_OFFSET_HI ∨
      c = .timeAdj .host v ∧ r = Reg.TIME_ADJ) (htakes : s.takes .host r 0 0 0 = true) :
    blockAt r.addr = some .TIME ∧ r.addr < 2 ^ 26 ∧ exec c s = .next (s.timeRefusal r.addr) := by
  have refused {addr : Nat} {f : State → State} (h : exec c s = .next (s.timeHost .host addr f)) :
      exec c s = .next (s.timeRefusal addr) := by rw [h, timeHost_refuses hptp]
  rcases hc with ⟨rfl, rfl⟩ | ⟨rfl, rfl⟩ | ⟨rfl, rfl⟩ | ⟨rfl, rfl⟩
  · exact ⟨by decide, by decide, refused (exec_timeRateWrite v htakes)⟩
  · exact ⟨by decide, by decide, refused (exec_timeOffsetApply v htakes)⟩
  · exact ⟨by decide, by decide, refused (exec_pairHiWrite_timeOffset v htakes)⟩
  · exact ⟨by decide, by decide, refused (exec_timeAdj v htakes)⟩

/-- Settles O31: a change of the rate by the rebase, the two steps by `timeStepped`, and the refusal under PTP,
which rests on the readings of entries 23 and 24, by its frame. -/
theorem timeBaseWrites : Obligations.TimeBaseWrites := by
  unfold Obligations.TimeBaseWrites
  intro s w v
  refine ⟨?rate, ?offset, ?adjust, ?refused⟩
  case rate =>
    intro htakes hptp
    refine ⟨s.timeRate v, ?_, State.rd_wr_same _ _ _ _ _ _, timeRate_now s v, rfl, timeRate_offset s v,
      timeRate_anchor s v, timeRate_regsKept s v, memKept_of rfl⟩
    rw [exec_timeRateWrite v htakes, timeHost_passes hptp]
  case offset =>
    intro htakes hptp
    refine ⟨s.timeApply v, ?_, timeSet_now s _, timeSet_valid s _, timeStepped_unlocked _, timeStepped_event _,
      timeApply_pairPend s v, memKept_of (timeStepped_mem _)⟩
    rw [exec_timeOffsetApply v htakes, timeHost_passes hptp]
  case adjust =>
    intro htakes hptp
    refine ⟨s.timeAdjust v.toInt, ?_, timeAdjust_now s _, timeStepped_event _, timeStepped_unlocked _,
      memKept_of (timeStepped_mem _)⟩
    rw [exec_timeAdj v htakes, timeHost_passes hptp]
  case refused =>
    intro hptp c r hc htakes
    obtain ⟨hblock, haddr, hexec⟩ := exec_refused_under_ptp hptp hc htakes
    exact ⟨s.timeRefusal r.addr, hexec, timeRefusal_now hblock s,
      timeRefusal_keeps (p := fun t => t.pairPend) (fun _ _ _ _ _ _ => rfl) s _, timeRefusal_lastStatus hblock s,
      timeRefusal_event hblock s, refuse_refusedWith _ (by decide) haddr, timeRefusal_regsKept hblock s,
      memKept_of (timeRefusal_keeps (p := fun t => t.mem) (fun _ _ _ _ _ _ => rfl) s _)⟩

end Sys2Proof.Machine
end

section
/-!
The module as a whole: a step runs the command at the front of the queue, and what every command leaves as it must be. The
laws of Sys2Proof/Laws/Lawful say of each command that it completes lawfully; here they are put together over the dispatcher.
-/
namespace Sys2Proof.Machine

open Sys2Proof

/-! ### Every command -/

/-- Every command completes, leaves the queue of commands, keeps memory canonical and restores no fuse. -/
theorem exec_lawful (c : Instr) (s : State) : ∃ t, exec c s = .next t ∧ Lawful s t := by
  have h0 : Lawful s s := lawful_refl s
  cases c with
  | registerWrite w addr v => exact execRegisterWrite_lawful h0 w addr v
  | checkedWriteDecided => exact execCheckedWriteDecided_lawful h0
  | pairHiWrite w addr v => exact execPairHiWrite_lawful h0 w addr v
  | pairLoRead addr => exact execPairLoRead_lawful h0 addr
  | rcRead addr => exact execRcRead_lawful h0 addr
  | unmappedAccess addr write => exact execUnmappedAccess_lawful h0 addr write
  | encCfgWrite w ch v => exact execEncCfgWrite_lawful h0 w ch v
  | encEdgeAccept ch a b held => exact execEncEdgeAccept_lawful h0 ch a b held
  | faultWindowEnd ch => exact execFaultWindowEnd_lawful h0 ch
  | analogueSample ch sin cos => exact execAnalogueSample_lawful h0 ch sin cos
  | amplitudeFault ch => exact execAmplitudeFault_lawful h0 ch
  | amplitudeRecover ch => exact execAmplitudeRecover_lawful h0 ch
  | observerUpdate ch => exact execObserverUpdate_lawful h0 ch
  | standstillIn ch => exact execStandstillIn_lawful h0 ch
  | settled ch => exact execSettled_lawful h0 ch
  | indexEvent ch held sinHigh cosHigh => exact execIndexEvent_lawful h0 ch held sinHigh cosHigh
  | preset w ch => exact execPreset_lawful h0 w ch
  | faultClear w ch => exact execFaultClear_lawful h0 w ch
  | openPairFault ch pair heldNs => exact execOpenPairFault_lawful h0 ch pair heldNs
  | openPairRecover ch pair a b => exact execOpenPairRecover_lawful h0 ch pair a b
  | encSupplyFault ch millivolts heldNs => exact execEncSupplyFault_lawful h0 ch millivolts heldNs
  | encSupplyRetry ch => exact execEncSupplyRetry_lawful h0 ch
  | encSupplyRecover ch millivolts heldNs => exact execEncSupplyRecover_lawful h0 ch millivolts heldNs
  | camPortCfgWrite w n v => exact execCamPortCfgWrite_lawful h0 w n v
  | trigGridWrite w n phase v => exact execTrigGridWrite_lawful h0 w n phase v
  | gridPointReached n => exact execGridPointReached_lawful h0 n
  | delayedTrigger n => exact execDelayedTrigger_lawful h0 n
  | triggerPulseEnd n => exact execTriggerPulseEnd_lawful h0 n
  | triggerAck n => exact execTriggerAck_lawful h0 n
  | camLinkUp n => exact execCamLinkUp_lawful h0 n
  | discoveryDone n ids same => exact execDiscoveryDone_lawful h0 n ids same
  | camLinkDown n => exact execCamLinkDown_lawful h0 n
  | heartbeatTimeout n => exact execHeartbeatTimeout_lawful h0 n
  | heartbeatPacket n => exact execHeartbeatPacket_lawful h0 n
  | gevHeartbeat n => exact execGevHeartbeat_lawful h0 n
  | streamBlockHeader n fmt width exposure => exact execStreamBlockHeader_lawful h0 n fmt width exposure
  | streamPacket n p => exact execStreamPacket_lawful h0 n p
  | lineArrival n index => exact execLineArrival_lawful h0 n index
  | blockEnd n => exact execBlockEnd_lawful h0 n
  | cxpEventPacket n body => exact execCxpEventPacket_lawful h0 n body
  | stripeStart p => exact execStripeStart_lawful h0 p
  | stripeDone p => exact execStripeDone_lawful h0 p
  | apply w p c => exact execApply_lawful h0 w p c
  | applyBoundary p c => exact execApplyBoundary_lawful h0 p c
  | applied p c => exact execApplied_lawful h0 p c
  | ispEngineReset p => exact execIspEngineReset_lawful h0 p
  | rtpPacket n info => exact execRtpPacket_lawful h0 n info
  | sampleWritten n => exact execSampleWritten_lawful h0 n
  | decodeBudgetExpiry n => exact execDecodeBudgetExpiry_lawful h0 n
  | batchTimeout n => exact execBatchTimeout_lawful h0 n
  | reportPlaced n => exact execReportPlaced_lawful h0 n
  | decEngineReset => exact execDecEngineReset_lawful h0
  | tileStart e => exact execTileStart_lawful h0 e
  | preemptionRequest e => exact execPreemptionRequest_lawful h0 e
  | tileCommit e => exact execTileCommit_lawful h0 e
  | contextSaveDone e sram => exact execContextSaveDone_lawful h0 e sram
  | contextRestoreDone e upset => exact execContextRestoreDone_lawful h0 e upset
  | sprEngineReset w e => exact execSprEngineReset_lawful h0 w e
  | moonEngineReset w m => exact execMoonEngineReset_lawful h0 w m
  | engineResetDone e => exact execEngineResetDone_lawful h0 e
  | hangTimeout e => exact execHangTimeout_lawful h0 e
  | lastingFaultSwap e => exact execLastingFaultSwap_lawful h0 e
  | moonAdoption m => exact execMoonAdoption_lawful h0 m
  | remoteReplyLand h u => exact execRemoteReplyLand_lawful h0 h u
  | accountingWindow => exact execAccountingWindow_lawful h0
  | partJoin h => exact execPartJoin_lawful h0 h
  | tileNop e => exact execTileNop_lawful h0 e
  | waitRows e => exact execWaitRows_lawful h0 e
  | semAcquire e => exact execSemAcquire_lawful h0 e
  | semRelease e => exact execSemRelease_lawful h0 e
  | barrier e => exact execBarrier_lawful h0 e
  | remoteSend e => exact execRemoteSend_lawful h0 e
  | remoteWait e => exact execRemoteWait_lawful h0 e
  | verdict e => exact execVerdict_lawful h0 e
  | provisional e => exact execProvisional_lawful h0 e
  | loadWeights e sram upset => exact execLoadWeights_lawful h0 e sram upset
  | loadAct e sram upset => exact execLoadAct_lawful h0 e sram upset
  | store e => exact execStore_lawful h0 e
  | loadBank e sram upset => exact execLoadBank_lawful h0 e sram upset
  | gather e => exact execGather_lawful h0 e
  | zero e => exact execZero_lawful h0 e
  | conv e sram => exact execConv_lawful h0 e sram
  | convDw e sram => exact execConvDw_lawful h0 e sram
  | matmul e sram => exact execMatmul_lawful h0 e sram
  | avgpool e sram => exact execAvgpool_lawful h0 e sram
  | attnScore e sram => exact execAttnScore_lawful h0 e sram
  | attnValue e sram => exact execAttnValue_lawful h0 e sram
  | dist e sram => exact execDist_lawful h0 e sram
  | requant e sram => exact execRequant_lawful h0 e sram
  | activate e sram => exact execActivate_lawful h0 e sram
  | add e sram => exact execAdd_lawful h0 e sram
  | sub e sram => exact execSub_lawful h0 e sram
  | mul e sram => exact execMul_lawful h0 e sram
  | max e sram => exact execMax_lawful h0 e sram
  | min e sram => exact execMin_lawful h0 e sram
  | nearestUp e sram => exact execNearestUp_lawful h0 e sram
  | maxpool e sram => exact execMaxpool_lawful h0 e sram
  | norm e sram => exact execNorm_lawful h0 e sram
  | softmax e sram => exact execSoftmax_lawful h0 e sram
  | argmax e sram => exact execArgmax_lawful h0 e sram
  | topk e sram => exact execTopk_lawful h0 e sram
  | mergeList e sram => exact execMergeList_lawful h0 e sram
  | fold e sram => exact execFold_lawful h0 e sram
  | copy e sram => exact execCopy_lawful h0 e sram
  | wtCycle => exact execWtCycle_lawful h0
  | cometCreate lane => exact execCometCreate_lawful h0 lane
  | overlength lane => exact execOverlength_lawful h0 lane
  | imageRowObserved lane => exact execImageRowObserved_lawful h0 lane
  | verdictTokenArrival => exact execVerdictTokenArrival_lawful h0
  | provisionalTokenArrival => exact execProvisionalTokenArrival_lawful h0
  | commit comet => exact execCommit_lawful h0 comet
  | ejectionStart comet => exact execEjectionStart_lawful h0 comet
  | ejectionEnd comet => exact execEjectionEnd_lawful h0 comet
  | minPulseEnd comet => exact execMinPulseEnd_lawful h0 comet
  | pulseCap comet => exact execPulseCap_lawful h0 comet
  | outputEnergised n => exact execOutputEnergised_lawful h0 n
  | retire comet => exact execRetire_lawful h0 comet
  | exportRecord comet => exact execExportRecord_lawful h0 comet
  | ejectSend comet => exact execEjectSend_lawful h0 comet
  | remoteAck group dgram => exact execRemoteAck_lawful h0 group dgram
  | ackTimeout group seq => exact execAckTimeout_lawful h0 group seq
  | arpRefresh group reply => exact execArpRefresh_lawful h0 group reply
  | fieldSupplyChange decivolts heldNs => exact execFieldSupplyChange_lawful h0 decivolts heldNs
  | diEdge n level held => exact execDiEdge_lawful h0 n level held
  | diOpen n microamps heldNs => exact execDiOpen_lawful h0 n microamps heldNs
  | diOpenClear n microamps => exact execDiOpenClear_lawful h0 n microamps
  | fioDoSetWrite w v => exact execFioDoSetWrite_lawful h0 w v
  | overload n heldNs => exact execOverload_lawful h0 n heldNs
  | overtemp n degC => exact execOvertemp_lawful h0 n degC
  | openOn n microamps heldNs => exact execOpenOn_lawful h0 n microamps heldNs
  | openOff n millivolts heldNs => exact execOpenOff_lawful h0 n millivolts heldNs
  | stuckOn n millivolts heldNs => exact execStuckOn_lawful h0 n millivolts heldNs
  | outputRestart n degC => exact execOutputRestart_lawful h0 n degC
  | fioDoClear w v hot => exact execFioDoClear_lawful h0 w v hot
  | memoryInitDone => exact execMemoryInitDone_lawful h0
  | mergeTimeout v => exact execMergeTimeout_lawful h0 v
  | patrolRead inner first second => exact execPatrolRead_lawful h0 inner first second
  | rewrite w first third => exact execRewrite_lawful h0 w first third
  | injectArm w => exact execInjectArm_lawful h0 w
  | refreshRateChange tower degC => exact execRefreshRateChange_lawful h0 tower degC
  | xltResume w engine => exact execXltResume_lawful h0 w engine
  | xltResumeFail w engine => exact execXltResumeFail_lawful h0 w engine
  | xltInval w handle pages => exact execXltInval_lawful h0 w handle pages
  | xltInvalAll w => exact execXltInvalAll_lawful h0 w
  | migrationStart w handle big => exact execMigrationStart_lawful h0 w handle big
  | migrationDone => exact execMigrationDone_lawful h0
  | creditRequest q producer n => exact execCreditRequest_lawful h0 q producer n
  | creditGrant q => exact execCreditGrant_lawful h0 q
  | packetReserve q producer len => exact execPacketReserve_lawful h0 q producer len
  | backFill q producer seq kind body => exact execBackFill_lawful h0 q producer seq kind body
  | recordPublish q producer data => exact execRecordPublish_lawful h0 q producer data
  | abandonedPad q producer seq => exact execAbandonedPad_lawful h0 q producer seq
  | entryRelease q n => exact execEntryRelease_lawful h0 q n
  | cpClaim q n => exact execCpClaim_lawful h0 q n
  | pop w q => exact execPop_lawful h0 w q
  | clientClear w client => exact execClientClear_lawful h0 w client
  | clientClearAll w => exact execClientClearAll_lawful h0 w
  | doorbell m => exact execDoorbell_lawful h0 m
  | mailboxWrite m offset data => exact execMailboxWrite_lawful h0 m offset data
  | bulkWrite data crcOk => exact execBulkWrite_lawful h0 data crcOk
  | apertureByteAccess offset write v => exact execApertureByteAccess_lawful h0 offset write v
  | exportRead bytes => exact execExportRead_lawful h0 bytes
  | reread => exact execReread_lawful h0
  | sdioReset res => exact execSdioReset_lawful h0 res
  | ioEnable fn => exact execIoEnable_lawful h0 fn
  | cdDisable => exact execCdDisable_lawful h0
  | firmwareReady => exact execFirmwareReady_lawful h0
  | nop m => exact execNop_lawful h0 m
  | stateSummary m => exact execStateSummary_lawful h0 m
  | stateSummaryPart m => exact execStateSummaryPart_lawful h0 m
  | moduleReset m => exact execModuleReset_lawful h0 m
  | setOperatingPoint m => exact execSetOperatingPoint_lawful h0 m
  | setPowerState m => exact execSetPowerState_lawful h0 m
  | orderlyRemove m => exact execOrderlyRemove_lawful h0 m
  | snapshot m => exact execSnapshot_lawful h0 m
  | camControlRead m => exact execCamControlRead_lawful h0 m
  | camControlWrite m => exact execCamControlWrite_lawful h0 m
  | queueCreate m => exact execQueueCreate_lawful h0 m
  | queueDestroy m => exact execQueueDestroy_lawful h0 m
  | loadBegin m => exact execLoadBegin_lawful h0 m
  | loadJob m => exact execLoadJob_lawful h0 m
  | loadWeightSet m => exact execLoadWeightSet_lawful h0 m
  | bindInput m => exact execBindInput_lawful h0 m
  | start m => exact execStart_lawful h0 m
  | startLazy m => exact execStartLazy_lawful h0 m
  | stop m => exact execStop_lawful h0 m
  | pause m => exact execPause_lawful h0 m
  | resume m => exact execResume_lawful h0 m
  | abort m => exact execAbort_lawful h0 m
  | unload m => exact execUnload_lawful h0 m
  | setPriority m => exact execSetPriority_lawful h0 m
  | switchWeights m => exact execSwitchWeights_lawful h0 m
  | calibrate m => exact execCalibrate_lawful h0 m
  | bankPrepare m => exact execBankPrepare_lawful h0 m
  | spareSwap m => exact execSpareSwap_lawful h0 m
  | clearSoftMap m => exact execClearSoftMap_lawful h0 m
  | fwUpdate m => exact execFwUpdate_lawful h0 m
  | attest m => exact execAttest_lawful h0 m
  | watchdogTimeout reason pc => exact execWatchdogTimeout_lawful h0 reason pc
  | warmRestartDone copiesLost => exact execWarmRestartDone_lawful h0 copiesLost
  | trainingDone l peer precode => exact execTrainingDone_lawful h0 l peer precode
  | trainTimeout l => exact execTrainTimeout_lawful h0 l
  | laneLockLoss l heldNs => exact execLaneLockLoss_lawful h0 l heldNs
  | laneActivity l millivolts heldNs => exact execLaneActivity_lawful h0 l millivolts heldNs
  | linkReset w v => exact execLinkReset_lawful h0 w v
  | prbsInjOne w l v => exact execPrbsInjOne_lawful h0 w l v
  | ethFrameReceive m f => exact execEthFrameReceive_lawful h0 m f
  | ethFrameTransmit m => exact execEthFrameTransmit_lawful h0 m
  | macLinkUp m => exact execMacLinkUp_lawful h0 m
  | flitReceive j f crcOk => exact execFlitReceive_lawful h0 j f crcOk
  | retryTimeout j => exact execRetryTimeout_lawful h0 j
  | ackInterval j => exact execAckInterval_lawful h0 j
  | linkRetrainTimeout j => exact execLinkRetrainTimeout_lawful h0 j
  | laneFail j k lostNs unc corr => exact execLaneFail_lawful h0 j k lostNs unc corr
  | swapReqReceive j k => exact execSwapReqReceive_lawful h0 j k
  | swapAckReceive j => exact execSwapAckReceive_lawful h0 j
  | fabInject w j n => exact execFabInject_lawful h0 w j n
  | cageInsert k cls => exact execCageInsert_lawful h0 k cls
  | cageRemove k => exact execCageRemove_lawful h0 k
  | cagePowerFault k heldNs => exact execCagePowerFault_lawful h0 k heldNs
  | timeRateWrite w v => exact execTimeRateWrite_lawful h0 w v
  | timeOffsetApply w lo => exact execTimeOffsetApply_lawful h0 w lo
  | timeAdj w v => exact execTimeAdj_lawful h0 w v
  | ptpReceive mac msg => exact execPtpReceive_lawful h0 mac msg
  | ptpSyncSend => exact execPtpSyncSend_lawful h0
  | ptpAnnounceSend => exact execPtpAnnounceSend_lawful h0
  | ptpDelayReqSend => exact execPtpDelayReqSend_lawful h0
  | announceTimeout => exact execAnnounceTimeout_lawful h0
  | historyEntry => exact execHistoryEntry_lawful h0
  | opChangeDone => exact execOpChangeDone_lawful h0
  | throttleStepDown degC => exact execThrottleStepDown_lawful h0 degC
  | throttleStepUp degC => exact execThrottleStepUp_lawful h0 degC
  | temperatureHot degC => exact execTemperatureHot_lawful h0 degC
  | thermalTrip core tower => exact execThermalTrip_lawful h0 core tower
  | powerEntryDone => exact execPowerEntryDone_lawful h0
  | wakeBusFrame addr cmd => exact execWakeBusFrame_lawful h0 addr cmd
  | wakePattern lane bursts => exact execWakePattern_lawful h0 lane bursts
  | sdioStartBitWake => exact execSdioStartBitWake_lawful h0
  | wakeDone storeOk => exact execWakeDone_lawful h0 storeOk
  | powerInputChange b decivolts heldNs => exact execPowerInputChange_lawful h0 b decivolts heldNs
  | busUndervoltage decivolts => exact execBusUndervoltage_lawful h0 decivolts
  | powerOnReset => exact execPowerOnReset_lawful h0
  | mrst heldNs => exact execMrst_lawful h0 heldNs
  | seated heldNs => exact execSeated_lawful h0 heldNs
  | emergencyQuiesce pin heldNs => exact execEmergencyQuiesce_lawful h0 pin heldNs
  | snapinEdge heldNs => exact execSnapinEdge_lawful h0 heldNs
  | snapMatch before => exact execSnapMatch_lawful h0 before
  | fire w => exact execFire_lawful h0 w
  | arm w => exact execArm_lawful h0 w
  | snapshotLatchDone => exact execSnapshotLatchDone_lawful h0
  | outputDeenergised n => exact execOutputDeenergised_lawful h0 n
  | outputWarnClear n flag => exact execOutputWarnClear_lawful h0 n flag
  | mrstRelease => exact execMrstRelease_lawful h0
  | snapoutPulseEnd => exact execSnapoutPulseEnd_lawful h0
  | laneUp l => exact execLaneUp_lawful h0 l
  | prbsCheckerLock l goodBits => exact execPrbsCheckerLock_lawful h0 l goodBits
  | prbsCheckerResync l errors bits => exact execPrbsCheckerResync_lawful h0 l errors bits
  | prbsBitError l => exact execPrbsBitError_lawful h0 l
  | prbsRateInjection l bits => exact execPrbsRateInjection_lawful h0 l bits
  | cageInterrupt k => exact execCageInterrupt_lawful h0 k
  | controlAcknowledge port ok data => exact execControlAcknowledge_lawful h0 port ok data
  | cameraTimeout => exact execCameraTimeout_lawful h0

theorem lawful_of_exec {c : Instr} {s t : State} (h : exec c s = .next t) : Lawful s t := by
  obtain ⟨u, hu, hlaw⟩ := exec_lawful c s
  rw [hu] at h
  cases h
  exact hlaw

/-! ### A step -/

theorem step_of_pending {s : State} {c : Instr} {rest : List Instr} (h : s.pending = c :: rest) :
    step s = exec c { s with pending := rest } := by rw [step, h]

theorem step_of_idle {s : State} (h : s.pending = []) : step s = .next { s with raw := s.raw + 1 } := by rw [step, h]

/-- What a step can do: count once on an empty queue, or run the command at the front on the state with the queue's rest. -/
theorem step_cases {s t : State} (h : step s = .next t) :
    (s.pending = [] ∧ t = { s with raw := s.raw + 1 }) ∨
      ∃ c rest, s.pending = c :: rest ∧ exec c { s with pending := rest } = .next t := by
  by_cases hp : s.pending = []
  · rw [step_of_idle hp] at h
    cases h
    exact .inl ⟨hp, rfl⟩
  · obtain ⟨c, rest, hc⟩ := List.exists_cons_of_ne_nil hp
    exact .inr ⟨c, rest, hc, step_of_pending hc ▸ h⟩

/-- But for the queue, a step is lawful. -/
theorem step_lawful {s t : State} (h : step s = .next t) : ∃ rest, Lawful { s with pending := rest } t := by
  rcases step_cases h with ⟨-, rfl⟩ | ⟨c, rest, -, hexec⟩
  · exact ⟨s.pending, lawful_of (lawful_refl s) rfl rfl rfl⟩
  · exact ⟨rest, lawful_of_exec hexec⟩

/-- Settles O58: a step is lawful, and lawful operations keep memory canonical. -/
theorem everyStepKeepsMemoryCanonical : Obligations.EveryStepKeepsMemoryCanonical := by
  unfold Obligations.EveryStepKeepsMemoryCanonical
  intro s t hwf hstep
  obtain ⟨rest, -, hmem, -⟩ := step_lawful hstep
  exact hmem hwf

/-- Settles O59: a step is lawful, and lawful operations restore no fuse. -/
theorem everyStepKeepsBurntFuses : Obligations.EveryStepKeepsBurntFuses := by
  unfold Obligations.EveryStepKeepsBurntFuses
  intro s t hstep
  obtain ⟨rest, -, -, hfuse⟩ := step_lawful hstep
  exact hfuse

/-- Settles O60: every command completes lawfully. -/
theorem everyCommandCompletesAndLeavesTheQueue : Obligations.EveryCommandCompletesAndLeavesTheQueue := by
  unfold Obligations.EveryCommandCompletesAndLeavesTheQueue
  intro c s
  obtain ⟨t, hexec, hpending, -⟩ := exec_lawful c s
  exact ⟨t, hexec, hpending⟩

/-- Settles O55: the two equations of a step. -/
theorem stepRunsTheFrontCommand : Obligations.StepRunsTheFrontCommand := by
  unfold Obligations.StepRunsTheFrontCommand
  exact fun s => ⟨fun _ _ => step_of_pending, step_of_idle⟩

/-! ### Right after reset -/

/-- Settles O56: the register words by evaluation at each number, the rest by the empty tables of `State.reset`. -/
theorem resetHoldsItsValues : Obligations.ResetHoldsItsValues := by
  unfold Obligations.ResetHoldsItsValues
  refine ⟨?channels, ?ports, fun _ => rfl, fun _ => rfl, fun _ => rfl, fun _ => rfl, rfl, rfl, rfl⟩
  case channels => decide
  case ports => decide

/-- Settles O57: the memory of the reset state lists no byte. -/
theorem resetMemoryIsCanonical : Obligations.ResetMemoryIsCanonical := by
  unfold Obligations.ResetMemoryIsCanonical
  exact AMap.canon_nil _

end Sys2Proof.Machine
end

section
/-!
Registers and frames: when two rows of the register index share no address, what the frame of a composed state is, and what
a guard leaves. Later files evaluate the registers of a state with these lemmas.
-/
namespace Sys2Proof.Machine

open Sys2Proof

/-! ### Rows that share no address (R636) -/

/-- The last address of a row. -/
def RegRow.last (r : RegRow) : Nat := r.addr + (r.n1 - 1) * r.s1 + (r.n2 - 1) * r.s2 + (r.n3 - 1) * r.s3

/-- Every number of a row has an element. -/
def RegRow.counted (r : RegRow) : Bool := decide (0 < r.n1) && decide (0 < r.n2) && decide (0 < r.n3)

/-- The addresses that `n` elements of stride `s` cover beyond the first, counted modulo `m`. -/
def spanMod (m s n : Nat) : Nat := if s % m = 0 then 0 else (n - 1) * s

/-- The addresses that a row covers beyond its first, counted modulo `m`. -/
def RegRow.width (r : RegRow) (m : Nat) : Nat := spanMod m r.s1 r.n1 + spanMod m r.s2 r.n2 + spanMod m r.s3 r.n3

/-- Modulo `m`, the row `r` lies below the row `r'`. -/
def RegRow.belowMod (m : Nat) (r r' : RegRow) : Bool :=
  decide (r.addr % m + r.width m < r'.addr % m) && decide (r'.addr % m + r'.width m < m)

/-- No address belongs to both rows: they lie apart, or they are interleaved with one stride. -/
def RegRow.apart (r r' : RegRow) : Bool :=
  r.counted && r'.counted && (decide (r.last < r'.addr) || decide (r'.last < r.addr) ||
    [r.s1, r.s2, r.s3].any (fun m => RegRow.belowMod m r r' || RegRow.belowMod m r' r))

@[simp] theorem RegRow.at_zero (r : RegRow) : r.at 0 0 0 = r.addr := by simp [RegRow.at]

theorem mod_mul_le (i s : Nat) {n : Nat} (h : 0 < n) : i % n * s ≤ (n - 1) * s :=
  Nat.mul_le_mul_right s (Nat.le_sub_one_of_lt (Nat.mod_lt i h))

theorem RegRow.at_bounds {r : RegRow} (h : r.counted = true) (i j k : Nat) :
    r.addr ≤ r.at i j k ∧ r.at i j k ≤ r.last := by
  simp only [RegRow.counted, Bool.and_eq_true, decide_eq_true_eq] at h
  obtain ⟨⟨h1, h2⟩, h3⟩ := h
  have b1 := mod_mul_le i r.s1 h1
  have b2 := mod_mul_le j r.s2 h2
  have b3 := mod_mul_le k r.s3 h3
  unfold RegRow.at RegRow.last
  omega

/-- Modulo `m`, an offset in a run of elements is one within its span. -/
theorem offset_mod (m i s : Nat) {n : Nat} (h : 0 < n) : ∃ d ≤ spanMod m s n, i % n * s % m = d % m := by
  unfold spanMod
  split
  case isTrue hs => exact ⟨0, Nat.le_refl 0, by simp [Nat.mul_mod, hs]⟩
  case isFalse hs => exact ⟨i % n * s, mod_mul_le i s h, rfl⟩

theorem RegRow.at_mod {r : RegRow} (h : r.counted = true) {m : Nat} (hw : r.addr % m + r.width m < m) (i j k : Nat) :
    r.addr % m ≤ r.at i j k % m ∧ r.at i j k % m ≤ r.addr % m + r.width m := by
  simp only [RegRow.counted, Bool.and_eq_true, decide_eq_true_eq] at h
  obtain ⟨⟨h1, h2⟩, h3⟩ := h
  obtain ⟨d1, l1, e1⟩ := offset_mod m i r.s1 h1
  obtain ⟨d2, l2, e2⟩ := offset_mod m j r.s2 h2
  obtain ⟨d3, l3, e3⟩ := offset_mod m k r.s3 h3
  have hat : r.at i j k % m = (r.addr % m + d1 + d2 + d3) % m := by
    have h1 : r.addr + i % r.n1 * r.s1 ≡ r.addr % m + d1 [MOD m] := Nat.ModEq.add (Nat.mod_modEq _ _).symm e1
    exact Nat.ModEq.add (Nat.ModEq.add h1 e2) e3
  unfold RegRow.width at hw ⊢
  have hlt : r.addr % m + d1 + d2 + d3 < m := by omega
  rw [hat, Nat.mod_eq_of_lt hlt]
  omega

theorem RegRow.belowMod_ne {m : Nat} {r r' : RegRow} (hr : r.counted = true) (hr' : r'.counted = true)
    (h : RegRow.belowMod m r r' = true) (i j k i' j' k' : Nat) : r.at i j k ≠ r'.at i' j' k' := by
  simp only [RegRow.belowMod, Bool.and_eq_true, decide_eq_true_eq] at h
  obtain ⟨hlt, hm⟩ := h
  have b := RegRow.at_mod hr (by omega : r.addr % m + r.width m < m) i j k
  have b' := RegRow.at_mod hr' hm i' j' k'
  intro heq
  rw [heq] at b
  omega

theorem RegRow.at_ne {r r' : RegRow} (h : r.apart r' = true) (i j k i' j' k' : Nat) : r.at i j k ≠ r'.at i' j' k' := by
  simp only [RegRow.apart, Bool.and_eq_true, Bool.or_eq_true, decide_eq_true_eq, List.any_eq_true] at h
  obtain ⟨⟨hr, hr'⟩, (hlt | hlt) | ⟨m, -, hm | hm⟩⟩ := h
  · have b := RegRow.at_bounds hr i j k
    have b' := RegRow.at_bounds hr' i' j' k'
    omega
  · have b := RegRow.at_bounds hr i j k
    have b' := RegRow.at_bounds hr' i' j' k'
    omega
  · exact RegRow.belowMod_ne hr hr' hm i j k i' j' k'
  · exact (RegRow.belowMod_ne hr' hr hm i' j' k' i j k).symm

theorem putBit_getLsbD (x : Word) {n : Nat} (m : Nat) (b : Bool) (h : n < 32) :
    (putBit x n b).getLsbD m = if m = n then b else x.getLsbD m := by
  split
  case isTrue e => rw [e, putBit_same x n b h]
  case isFalse e => exact putBit_other x n m b e

/-! ### What a register reads after a write

A raise is a set bit and a count is a write; the reads of a row apart from the one written pass the write by. -/

@[simp] theorem raise_eq (s : State) (r : RegRow) (n i j : Nat) : s.raise r n i j = s.setBit r n true i j := rfl

@[simp] theorem bump_eq (s : State) (r : RegRow) (i j : Nat) : s.bump r i j = s.bumpBy 1 r i j := rfl

@[simp] theorem rd_wr_apart {r r' : RegRow} (h : r'.apart r = true) (s : State) (v : Word) (i j k i' j' k' : Nat) :
    (s.wr r v i j k).rd r' i' j' k' = s.rd r' i' j' k' := State.rd_wr_other _ _ _ _ _ _ _ _ _ _ (RegRow.at_ne h _ _ _ _ _ _)

@[simp] theorem rd_setBit_apart {r r' : RegRow} (h : r'.apart r = true) (s : State) (n : Nat) (b : Bool)
    (i j k i' j' k' : Nat) : (s.setBit r n b i j k).rd r' i' j' k' = s.rd r' i' j' k' := rd_wr_apart h _ _ _ _ _ _ _ _

@[simp] theorem rd_setF_apart {r r' : RegRow} (h : r'.apart r = true) (s : State) (lo len v i j k i' j' k' : Nat) :
    (s.setF r lo len v i j k).rd r' i' j' k' = s.rd r' i' j' k' := rd_wr_apart h _ _ _ _ _ _ _ _

@[simp] theorem rd_bumpBy_apart {r r' : RegRow} (h : r'.apart r = true) (s : State) (n i j i' j' k' : Nat) :
    (s.bumpBy n r i j).rd r' i' j' k' = s.rd r' i' j' k' := rd_wr_apart h _ _ _ _ _ _ _ _

@[simp] theorem bit_wr_apart {r r' : RegRow} (h : r'.apart r = true) (s : State) (v : Word) (m i j k i' j' k' : Nat) :
    (s.wr r v i j k).bit r' m i' j' k' = s.bit r' m i' j' k' := congrArg (BitVec.getLsbD · m) (rd_wr_apart h s v i j k _ _ _)

@[simp] theorem bit_setBit_apart {r r' : RegRow} (h : r'.apart r = true) (s : State) (n : Nat) (b : Bool)
    (m i j k i' j' k' : Nat) : (s.setBit r n b i j k).bit r' m i' j' k' = s.bit r' m i' j' k' := bit_wr_apart h _ _ _ _ _ _ _ _ _

@[simp] theorem bit_setF_apart {r r' : RegRow} (h : r'.apart r = true) (s : State) (lo len v m i j k i' j' k' : Nat) :
    (s.setF r lo len v i j k).bit r' m i' j' k' = s.bit r' m i' j' k' := bit_wr_apart h _ _ _ _ _ _ _ _ _

@[simp] theorem bit_bumpBy_apart {r r' : RegRow} (h : r'.apart r = true) (s : State) (n m i j i' j' k' : Nat) :
    (s.bumpBy n r i j).bit r' m i' j' k' = s.bit r' m i' j' k' := bit_wr_apart h _ _ _ _ _ _ _ _ _

@[simp] theorem f_wr_apart {r r' : RegRow} (h : r'.apart r = true) (s : State) (v : Word) (lo len i j k i' j' k' : Nat) :
    (s.wr r v i j k).f r' lo len i' j' k' = s.f r' lo len i' j' k' := congrArg (fld · lo len) (rd_wr_apart h s v i j k _ _ _)

@[simp] theorem f_setBit_apart {r r' : RegRow} (h : r'.apart r = true) (s : State) (n : Nat) (b : Bool)
    (lo len i j k i' j' k' : Nat) : (s.setBit r n b i j k).f r' lo len i' j' k' = s.f r' lo len i' j' k' :=
  f_wr_apart h _ _ _ _ _ _ _ _ _ _

@[simp] theorem f_setF_apart {r r' : RegRow} (h : r'.apart r = true) (s : State) (lo len v lo' len' i j k i' j' k' : Nat) :
    (s.setF r lo len v i j k).f r' lo' len' i' j' k' = s.f r' lo' len' i' j' k' := f_wr_apart h _ _ _ _ _ _ _ _ _ _

@[simp] theorem f_bumpBy_apart {r r' : RegRow} (h : r'.apart r = true) (s : State) (n lo len i j i' j' k' : Nat) :
    (s.bumpBy n r i j).f r' lo len i' j' k' = s.f r' lo len i' j' k' := f_wr_apart h _ _ _ _ _ _ _ _ _ _

@[simp] theorem bit_setBit {n : Nat} (h : n < 32) (s : State) (r : RegRow) (m : Nat) (b : Bool) (i j k : Nat) :
    (s.setBit r n b i j k).bit r m i j k = if m = n then b else s.bit r m i j k := by
  split
  case isTrue e => rw [e, State.bit_setBit_same _ _ _ _ _ _ _ h]
  case isFalse e => exact State.bit_setBit_bit _ _ _ _ _ _ _ _ e

@[simp] theorem f_setBit_other {n lo len : Nat} (h : n < lo ∨ lo + len ≤ n) (s : State) (r : RegRow) (b : Bool)
    (i j k : Nat) : (s.setBit r n b i j k).f r lo len i j k = s.f r lo len i j k := by
  simp only [State.f, State.setBit, State.rd_wr_same, fld_putBit_other _ _ _ _ _ h]

@[simp] theorem f_setF_other {lo len lo' len' : Nat} (h : lo' + len' ≤ lo ∨ lo + len ≤ lo') (s : State) (r : RegRow)
    (v i j k : Nat) : (s.setF r lo len v i j k).f r lo' len' i j k = s.f r lo' len' i j k := by
  simp only [State.f, State.setF, State.rd_wr_same, fld_setFld_other _ _ _ _ _ _ h]

@[simp] theorem bit_setF_other {lo len n : Nat} (h : n < lo ∨ lo + len ≤ n) (s : State) (r : RegRow) (v i j k : Nat) :
    (s.setF r lo len v i j k).bit r n i j k = s.bit r n i j k := by
  simp only [State.bit, State.setF, State.rd_wr_same, setFld_getLsbD_other _ _ _ _ _ h]

/-- A counter after it has counted. -/
@[simp] theorem rd_bumpBy_same (s : State) (n : Nat) (r : RegRow) (i j : Nat) :
    ((s.bumpBy n r i j).rd r i j).toNat = min ((s.rd r i j).toNat + n) 0xFFFFFFFF := by
  rw [State.bumpBy, State.rd_wr_same, BitVec.toNat_ofNat]
  omega

/-- An update that is no write of a register keeps the registers. -/
@[simp] theorem rd_mk (s : State) (a2 a3 a4 a5 a6 a7 a8 a9 a10 a11 a12 a13 a14 a15 a16 a17 a18 a19 a20 a21 a22 a23 a24 a25
    a26 a27 a28 a29 a30) (r : RegRow) (i j k : Nat) :
    (State.mk s.regs a2 a3 a4 a5 a6 a7 a8 a9 a10 a11 a12 a13 a14 a15 a16 a17 a18 a19 a20 a21 a22 a23 a24 a25 a26 a27 a28
      a29 a30).rd r i j k = s.rd r i j k := rfl

@[simp] theorem bit_mk (s : State) (a2 a3 a4 a5 a6 a7 a8 a9 a10 a11 a12 a13 a14 a15 a16 a17 a18 a19 a20 a21 a22 a23 a24 a25
    a26 a27 a28 a29 a30) (r : RegRow) (n i j k : Nat) :
    (State.mk s.regs a2 a3 a4 a5 a6 a7 a8 a9 a10 a11 a12 a13 a14 a15 a16 a17 a18 a19 a20 a21 a22 a23 a24 a25 a26 a27 a28
      a29 a30).bit r n i j k = s.bit r n i j k := rfl

@[simp] theorem f_mk (s : State) (a2 a3 a4 a5 a6 a7 a8 a9 a10 a11 a12 a13 a14 a15 a16 a17 a18 a19 a20 a21 a22 a23 a24 a25
    a26 a27 a28 a29 a30) (r : RegRow) (lo len i j k : Nat) :
    (State.mk s.regs a2 a3 a4 a5 a6 a7 a8 a9 a10 a11 a12 a13 a14 a15 a16 a17 a18 a19 a20 a21 a22 a23 a24 a25 a26 a27 a28
      a29 a30).f r lo len i j k = s.f r lo len i j k := rfl

/-! ### Guards -/

section
variable (s : State) (c : Bool) (f : State → State)

@[simp] theorem rd_when (r : RegRow) (i j k : Nat) :
    (s.when c f).rd r i j k = if c then (f s).rd r i j k else s.rd r i j k := apply_ite (fun t : State => t.rd r i j k) _ _ _

@[simp] theorem bit_when (r : RegRow) (n i j k : Nat) :
    (s.when c f).bit r n i j k = if c then (f s).bit r n i j k else s.bit r n i j k :=
  apply_ite (fun t : State => t.bit r n i j k) _ _ _

@[simp] theorem f_when (r : RegRow) (lo len i j k : Nat) :
    (s.when c f).f r lo len i j k = if c then (f s).f r lo len i j k else s.f r lo len i j k :=
  apply_ite (fun t : State => t.f r lo len i j k) _ _ _

@[simp] theorem mem_when : (s.when c f).mem = if c then (f s).mem else s.mem := apply_ite State.mem _ _ _

end

/-! ### Outcomes -/

/-- A command whose condition holds goes on as the branch says. -/
theorem next_if_pos {c : Prop} [Decidable c] {s t : State} (h : c) : (.next (if c then s else t) : Out) = .next s := by
  rw [if_pos h]

/-- A command whose condition does not hold goes on as the other branch says. -/
theorem next_if_neg {c : Prop} [Decidable c] {s t : State} (h : ¬ c) : (.next (if c then s else t) : Out) = .next t := by
  rw [if_neg h]

/-- A register write that passes the gates goes on as its change. -/
theorem next_takes {s : State} {w : Writer} {r : RegRow} {i j k : Nat} {f : State → State}
    (h : s.takes w r i j k = true) : (.next (s.gate w r i j k f) : Out) = .next (f s) := by
  rw [takes_gate h]

/-! ### Frames -/

section
variable {s t : State} {l : List Nat}

@[simp] theorem regsKept_wr_iff {r : RegRow} {v : Word} {i j k : Nat} (hm : r.at i j k ∈ l) :
    RegsKept s (t.wr r v i j k) l ↔ RegsKept s t l := by
  refine ⟨fun h a ha => ?_, fun h => regsKept_wr h hm⟩
  rw [← h a ha, State.look_wr_other _ _ _ _ _ _ _ (fun e => ha (by rw [e]; exact hm))]

@[simp] theorem regsKept_setBit {r : RegRow} {n : Nat} {b : Bool} {i j k : Nat} (hm : r.at i j k ∈ l) :
    RegsKept s (t.setBit r n b i j k) l ↔ RegsKept s t l := regsKept_wr_iff hm

@[simp] theorem regsKept_setF {r : RegRow} {lo len v i j k : Nat} (hm : r.at i j k ∈ l) :
    RegsKept s (t.setF r lo len v i j k) l ↔ RegsKept s t l := regsKept_wr_iff hm

@[simp] theorem regsKept_bumpBy {r : RegRow} {n i j : Nat} (hm : r.at i j 0 ∈ l) :
    RegsKept s (t.bumpBy n r i j) l ↔ RegsKept s t l := regsKept_wr_iff hm

@[simp] theorem regsKept_self : RegsKept s s l := regsKept_refl s l

/-- An update that is no write of a register keeps the frame. -/
@[simp] theorem regsKept_mk (a2 a3 a4 a5 a6 a7 a8 a9 a10 a11 a12 a13 a14 a15 a16 a17 a18 a19 a20 a21
    a22 a23 a24 a25 a26 a27 a28 a29 a30) :
    RegsKept s (State.mk t.regs a2 a3 a4 a5 a6 a7 a8 a9 a10 a11 a12 a13 a14 a15 a16 a17 a18 a19 a20 a21 a22 a23 a24 a25 a26
      a27 a28 a29 a30) l ↔ RegsKept s t l := Iff.rfl

@[simp] theorem regsKept_setEnc {n : Nat} {c : EncCh} : RegsKept s (t.setEnc n c) l ↔ RegsKept s t l := Iff.rfl

@[simp] theorem regsKept_when {c : Bool} {f : State → State} :
    RegsKept s (t.when c f) l ↔ if c then RegsKept s (f t) l else RegsKept s t l := by
  cases c <;> rfl

/-- The frame depends on the registers alone. -/
theorem regsKept_of_regs {t' : State} (h : t'.regs = t.regs) (hk : RegsKept s t l) : RegsKept s t' l := fun a ha => by
  rw [h, hk a ha]

theorem regsKept_trans {u : State} (h : RegsKept s t l) (h' : RegsKept t u l) : RegsKept s u l :=
  fun a ha => (h' a ha).trans (h a ha)

theorem regsKept_mono {l' : List Nat} (h : RegsKept s t l) (hl : ∀ a ∈ l, a ∈ l') : RegsKept s t l' :=
  fun a ha => h a (fun e => ha (hl a e))

end

end Sys2Proof.Machine
end

section
/-!
Position feedback, continued (spec/02_position_feedback.md): faults of a channel, and the statement about them settled.
-/
namespace Sys2Proof.Machine

open Sys2Proof

/-- ENC_FAULT leaves the status bit set, whether it was set before or not (R61). -/
theorem encFault_bit (s : State) (n : Nat) : (s.encFault n).bit Reg.ENC_STATUS 4 n = true := by
  unfold State.encFault
  split
  · assumption
  · simp (disch := decide)

/-- ENC_FAULT changes no other bit of the status. -/
theorem encFault_bit_other (s : State) (n : Nat) {b : Nat} (hb : b ≠ 4) :
    (s.encFault n).bit Reg.ENC_STATUS b n = s.bit Reg.ENC_STATUS b n := by
  unfold State.encFault
  split
  · rfl
  · simp (disch := decide) [hb]

/-- ENC_FAULT raises no fault of its own in a channel's state. -/
theorem encFault_encs (s : State) (n : Nat) : (s.encFault n).encs = s.encs :=
  encFault_keeps (p := State.encs) (fun _ _ _ _ _ _ => rfl) (fun _ _ => rfl) s n

theorem encFault_enc (s : State) (n m : Nat) : (s.encFault n).enc m = s.enc m := by
  rw [State.enc, encFault_encs]
  rfl

theorem encFault_mem (s : State) (n : Nat) : (s.encFault n).mem = s.mem :=
  encFault_keeps (p := State.mem) (fun _ _ _ _ _ _ => rfl) (fun _ _ => rfl) s n

theorem encPairBit_lt (p : EncPair) : encPairBit p < 32 ∧ encPairBit p ≠ 4 := by
  cases p <;> decide

/-- Settles O4: each fault sets its bit and goes through `encFault`; each recovery clears its bit alone. -/
theorem encoderFaultsSetAndClear : Obligations.EncoderFaultsSetAndClear := by
  unfold Obligations.EncoderFaultsSetAndClear
  intro s n hon
  refine ⟨?window, ?amplitude, ?amplitudeBack, ?pair, ?pairBack, ?supply, ?retry, ?supplyBack⟩
  case window =>
    intro hpast
    refine ⟨_, next_if_pos ⟨hon, hpast⟩, ?_, ?_, rfl⟩ <;> simp
  case amplitude =>
    intro hout hclear
    refine ⟨_, next_if_pos ⟨hon, hout, by simp [hclear]⟩, ?_, encFault_bit _ _, encFault_encs _ _,
      memKept_of (encFault_mem _ _)⟩
    rw [encFault_bit_other _ _ (by decide)]
    simp (disch := decide)
  case amplitudeBack =>
    intro hin hset
    refine ⟨_, next_if_pos ⟨hon, hin, hset⟩, ?_, ?_, ?_⟩
    · simp (disch := decide) [State.setEnc]
    · simp
    · simp
  case pair =>
    intro p held hwatched hheld
    obtain ⟨hbit, hne⟩ := encPairBit_lt p
    refine ⟨_, next_if_pos ⟨hon, hwatched, hheld⟩, ?_, fun hfault => ?_, ?_⟩
    · rw [bit_when, encFault_bit_other _ _ hne, State.bit_setBit_same _ _ _ _ _ _ _ hbit, ite_self]
    · have hraise : (decide (p ≠ .z) || decide (s.rd Reg.ENC_INDEX_NOM n ≠ 0)) = true := by simpa using hfault
      simp (disch := decide) only [rd_setBit_apart, hraise, State.when_true, encFault_bit]
    · exact State.when_keeps State.encs _ _ _ (encFault_encs _ _)
  case pairBack =>
    intro p a b hset hfield
    obtain ⟨hbit, -⟩ := encPairBit_lt p
    refine ⟨_, next_if_pos ⟨hon, hset, by simp [hfield]⟩, ?_, ?_, ?_, ?_⟩
    · simp [State.setEnc, bit_setBit hbit]
    all_goals simp
  case supply =>
    intro mv held hpower hlow hheld
    refine ⟨_, next_if_pos ⟨hon, hpower, hlow, hheld⟩, ?_, encFault_bit _ _, ?_⟩
    · rw [encFault_bit_other _ _ (by decide)]
      simp (disch := decide)
    · simp [encFault_enc, State.setBit]
  case retry =>
    intro hpower hset hpast
    refine ⟨_, next_if_pos ⟨hon, hpower, hset, hpast⟩, ?_, ?_, rfl⟩ <;> simp
  case supplyBack =>
    intro mv held hset hfield hhigh hheld
    refine ⟨_, next_if_pos ⟨hon, hset, by simp [hfield], .inr ⟨hhigh, hheld⟩⟩, ?_, rfl, ?_⟩
    · simp (disch := decide)
    · simp

end Sys2Proof.Machine
end

section
/-!
Registers without a command of their own (spec/00_scope.md, R5 to R12): plain writes, pairs, reads that clear, and accesses
where no register stands.
-/
namespace Sys2Proof.Machine

open Sys2Proof

/-! ### Plain writes (R7, R8) -/

/-- The registers of a channel that a plain write stores and nothing follows. -/
def plainEncRows : List RegRow := [Reg.ENC_IRQ_EN, Reg.ENC_EVENT]

theorem findReg_plainEnc : ∀ r ∈ plainEncRows, ∀ n : Fin 4,
    findReg (r.at n 0 0) = some (r, n.val, 0, 0) ∧ ¬ 0x10000000 ≤ r.at n 0 0 := by
  decide +kernel

theorem writeElem_plainEnc {r : RegRow} (hr : r ∈ plainEncRows) (s : State) (w : Writer) (i j k : Nat) (v : Word) :
    s.writeElem w r i j k v = s.plainWrite w r i j k v := by
  simp only [plainEncRows, List.mem_cons, List.not_mem_nil, or_false] at hr
  rcases hr with rfl | rfl <;> rfl

/-- A write of such a register that passes the gates changes bits by their access type. -/
theorem plainWrite_plainEnc {r : RegRow} (hr : r ∈ plainEncRows) {s : State} {w : Writer} {i : Nat} (v : Word)
    (h : s.takes w r i 0 0 = true) :
    s.plainWrite w r i 0 0 v =
      { s.wr r (mergeWord r (s.rd r i) v) i with pairPend := AMap.del s.pairPend (r.at i 0 0) } := by
  rw [State.plainWrite, takes_gate h]
  simp only [plainEncRows, List.mem_cons, List.not_mem_nil, or_false] at hr
  have hfw : ¬ (w = .host ∧ firmwareChecked.contains r.addr = true) := by
    rintro ⟨-, hc⟩
    rcases hr with rfl | rfl <;> cases hc
  rcases hr with rfl | rfl <;> exact if_neg hfw

theorem exec_registerWrite_plainEnc {r : RegRow} (hr : r ∈ plainEncRows) {s : State} {w : Writer} {n : Fin 4} (v : Word)
    (h : s.takes w r n 0 0 = true) :
    exec (.registerWrite w (r.at n 0 0) v) s =
      .next { s.wr r (mergeWord r (s.rd r n) v) n with pairPend := AMap.del s.pairPend (r.at n 0 0) } := by
  obtain ⟨hfind, hlow⟩ := findReg_plainEnc r hr n
  change (.next (s.writeAt w (r.at n 0 0) v) : Out) = _
  rw [State.writeAt, hfind]
  simp only [hlow, if_false, writeElem_plainEnc hr, plainWrite_plainEnc hr v h]

/-- The bits of a word after a write, by their access types (R7, R8). -/
theorem mergeWord_getLsbD (r : RegRow) (old v : Word) (b : Nat) :
    (mergeWord r old v).getLsbD b =
      (v.getLsbD b && r.rw.getLsbD b || old.getLsbD b && r.w1c.getLsbD b && !v.getLsbD b ||
        (old.getLsbD b || v.getLsbD b) && r.w1s.getLsbD b ||
        old.getLsbD b && !(r.rw.getLsbD b || r.w1c.getLsbD b || r.w1s.getLsbD b)) := by
  by_cases hb : b < 32
  · simp only [mergeWord, BitVec.getLsbD_or, BitVec.getLsbD_and, BitVec.getLsbD_not, hb, decide_true, Bool.true_and]
  · have hge (x : Word) : x.getLsbD b = false := BitVec.getLsbD_of_ge x b (by omega)
    simp only [hge, Bool.false_and, Bool.or_false]

/-- Settles O6: a plain write stores `mergeWord`, whose bits follow the access types. -/
theorem registerWritesFollowAccessTypes : Obligations.RegisterWritesFollowAccessTypes := by
  unfold Obligations.RegisterWritesFollowAccessTypes
  intro s w n v
  refine ⟨fun htakes => ?irqEn, fun htakes => ?event⟩
  case irqEn =>
    refine ⟨_, exec_registerWrite_plainEnc (by decide) v htakes, fun b => ?_, by simp, memKept_of rfl⟩
    have hw1c : Reg.ENC_IRQ_EN.w1c.getLsbD b = false := BitVec.getLsbD_zero
    have hw1s : Reg.ENC_IRQ_EN.w1s.getLsbD b = false := BitVec.getLsbD_zero
    rw [bit_mk, State.bit, State.rd_wr_same, mergeWord_getLsbD, hw1c, hw1s]
    cases hrw : Reg.ENC_IRQ_EN.rw.getLsbD b <;> simp [State.bit]
  case event =>
    refine ⟨_, exec_registerWrite_plainEnc (by decide) v htakes, fun b => ?_, by simp, memKept_of rfl⟩
    have hrw : Reg.ENC_EVENT.rw.getLsbD b = false := BitVec.getLsbD_zero
    have hw1s : Reg.ENC_EVENT.w1s.getLsbD b = false := BitVec.getLsbD_zero
    rw [bit_mk, State.bit, State.rd_wr_same, mergeWord_getLsbD, hrw, hw1s]
    cases hw1c : Reg.ENC_EVENT.w1c.getLsbD b <;> simp [State.bit]

/-! ### Pairs, clearing reads, unmapped accesses (R5 to R7, R11) -/

theorem findReg_encPresetHi : ∀ n : Fin 4, findReg (Reg.ENC_PRESET_HI.at n 0 0) = some (Reg.ENC_PRESET_HI, n.val, 0, 0) ∧
    Reg.ENC_PRESET_HI.at n 0 0 < 2 ^ 26 := by
  decide +kernel

/-- A write of the high half of a preset waits for the low half (R6). -/
theorem exec_pairHiWrite_preset {s : State} {w : Writer} {n : Fin 4} (v : Word)
    (h : s.takes w Reg.ENC_PRESET_HI n 0 0 = true) :
    exec (.pairHiWrite w (Reg.ENC_PRESET_HI.at n 0 0) v) s =
      .next { s with pairPend := AMap.put s.pairPend (Reg.ENC_PRESET_LO.at n 0 0) v } := by
  obtain ⟨hfind, hlt⟩ := findReg_encPresetHi n
  have hlow : (lowOf Reg.ENC_PRESET_HI).isSome = true := rfl
  change execPairHiWrite w (Reg.ENC_PRESET_HI.at n 0 0) v s = _
  rw [execPairHiWrite, hfind]
  refine (next_if_pos ⟨hlt, hlow⟩).trans (congrArg Host.Outcome.next ?_)
  change s.plainWrite w Reg.ENC_PRESET_HI n 0 0 v = _
  rw [State.plainWrite, takes_gate h]
  rfl

/-- A read at the address of a register of a block that is powered is a read of its element. -/
theorem readAt_elem {s : State} {addr i j k : Nat} {r : RegRow} (hlive : s.live = true) (hpower : s.power ≠ 3)
    (hfind : findReg addr = some (r, i, j, k)) (hon : ((blockAt addr).map (fun b => s.on b)).getD false = true) :
    (s.readAt addr).2 = s.readElem r i j k := by
  rw [State.readAt, if_neg (by simp [hlive, hpower]), hfind]
  exact congrArg Prod.snd (if_pos (.inr hon))

theorem readElem_regsKept (s : State) (r : RegRow) (i j k : Nat) : RegsKept s (s.readElem r i j k) [r.at i j k] := by
  unfold State.readElem
  split <;> split <;> simp

theorem readElem_mem (s : State) (r : RegRow) (i j k : Nat) : (s.readElem r i j k).mem = s.mem := by
  unfold State.readElem
  split <;> split <;> rfl

/-- A read of the low word of a pair latches the high half (R5). -/
theorem readElem_latch (s : State) {r h : RegRow} (hhigh : highOf r = some h) (i j k : Nat) :
    AMap.look (s.readElem r i j k).pairLatch (r.at i j k) = some (s.view h i j k) := by
  unfold State.readElem
  simp only [hhigh]
  split <;> exact AMap.look_put_same _ _ _

/-- A read clears the RC bits (R7). -/
theorem readElem_clears (s : State) {r : RegRow} (hrc : r.rc ≠ 0) (i j k : Nat) :
    (s.readElem r i j k).rd r i j k = s.rd r i j k &&& ~~~r.rc := by
  unfold State.readElem
  rw [if_neg hrc, State.rd_wr_same]
  split <;> rfl

/-- A read where no register answers is counted (R11, R554). -/
theorem readAt_noRegister {s : State} {addr : Nat} (hlive : s.live = true) (hpower : s.power ≠ 3)
    (hnone : s.noRegister addr = true) : (s.readAt addr).2 = s.unmapped := by
  simp only [State.noRegister, Bool.and_eq_true, Bool.or_eq_true, decide_eq_true_eq, Bool.not_eq_true'] at hnone
  obtain ⟨hlt, hno⟩ := hnone
  rw [State.readAt, if_neg (by simp [hlive, hpower])]
  cases hfind : findReg addr with
  | none => exact if_pos hlt
  | some p =>
    have hoff : ((blockAt addr).map (fun b => s.on b)).getD false = false := by simpa [hfind] using hno
    refine congrArg Prod.snd (if_neg ?_)
    rintro (hge | hon)
    · omega
    · rw [hoff] at hon
      cases hon

/-- Settles O7: the high half by the plain write, the reads by `readElem`, and the unmapped access by its count. -/
theorem pairsClearingReadsAndUnmappedAccesses : Obligations.PairsClearingReadsAndUnmappedAccesses := by
  unfold Obligations.PairsClearingReadsAndUnmappedAccesses
  refine ⟨?high, ?latch, ?clear, ?unmapped⟩
  case high =>
    intro s w n v htakes
    exact ⟨_, exec_pairHiWrite_preset v htakes, AMap.look_put_same _ _ _, rfl, rfl⟩
  case latch =>
    rintro s addr i j k r h hlive hpower hfind rfl hon hhigh
    refine ⟨s.readElem r i j k, ?_, readElem_latch s hhigh i j k, readElem_regsKept s r i j k,
      memKept_of (readElem_mem s r i j k)⟩
    rw [← readAt_elem hlive hpower hfind hon]
    change execPairLoRead _ s = _
    rw [execPairLoRead, hfind]
    exact next_if_pos (by rw [hhigh]; rfl)
  case clear =>
    rintro s addr i j k r hlive hpower hfind rfl hon hrc
    refine ⟨s.readElem r i j k, ?_, readElem_clears s hrc i j k, readElem_regsKept s r i j k,
      memKept_of (readElem_mem s r i j k)⟩
    rw [← readAt_elem hlive hpower hfind hon]
    change execRcRead _ s = _
    rw [execRcRead, hfind]
    exact next_if_neg hrc
  case unmapped =>
    intro s addr write hlive hpower hnone
    refine ⟨s.unmapped, ?_, ?_, ?_, ?_, memKept_of rfl⟩
    · refine (next_if_pos ⟨hlive, hpower, hnone⟩).trans ?_
      rw [readAt_noRegister hlive hpower hnone, ite_self]
    · simp (disch := decide) [State.unmapped]
    · simp (disch := decide) [State.unmapped]
    · simp [State.unmapped]

end Sys2Proof.Machine
end

section
/-!
What shared operations leave alone. A reading `p` of the state that is blind to the registers and to the parts that an
operation writes reads the same after it; each operation has one such lemma.
-/
namespace Sys2Proof.Machine

open Sys2Proof

/-! ### Blind readings -/

section
variable {β : Type}

/-- `p` does not see the registers of the rows listed. -/
def Blind (rows : List RegRow) (p : State → β) : Prop :=
  ∀ (s : State) (r : RegRow) (v : Word) (i j k : Nat), r ∈ rows → p (s.wr r v i j k) = p s

theorem Blind.mono {rows rows' : List RegRow} {p : State → β} (h : Blind rows p) (hsub : rows' ⊆ rows) : Blind rows' p :=
  fun s r v i j k hr => h s r v i j k (hsub hr)

/-- What no register write touches is blind to every row. -/
theorem blind_of_wr {p : State → β} (h : ∀ s r v i j k, p (State.wr s r v i j k) = p s) (rows : List RegRow) : Blind rows p :=
  fun s r v i j k _ => h s r v i j k

theorem blind_rd {rows : List RegRow} {r : RegRow} (h : rows.all (fun x => r.apart x) = true) (i j k : Nat) :
    Blind rows (fun s => s.rd r i j k) :=
  fun s x v i' j' k' hx => rd_wr_apart (List.all_eq_true.1 h x hx) s v i' j' k' i j k

theorem blind_bit {rows : List RegRow} {r : RegRow} (h : rows.all (fun x => r.apart x) = true) (n i j k : Nat) :
    Blind rows (fun s => s.bit r n i j k) :=
  fun s x v i' j' k' hx => congrArg (BitVec.getLsbD · n) (blind_rd h i j k s x v i' j' k' hx)

theorem blind_f {rows : List RegRow} {r : RegRow} (h : rows.all (fun x => r.apart x) = true) (lo len i j k : Nat) :
    Blind rows (fun s => s.f r lo len i j k) :=
  fun s x v i' j' k' hx => congrArg (fld · lo len) (blind_rd h i j k s x v i' j' k' hx)

section
variable {rows : List RegRow} {p : State → β} (hw : Blind rows p) {r : RegRow} (hr : r ∈ rows) (s : State)
include hw hr

theorem Blind.setBit (n : Nat) (b : Bool) (i j k : Nat) : p (s.setBit r n b i j k) = p s := hw s r _ i j k hr

theorem Blind.setF (lo len v i j k : Nat) : p (s.setF r lo len v i j k) = p s := hw s r _ i j k hr

theorem Blind.raise (n i j : Nat) : p (s.raise r n i j) = p s := hw s r _ i j 0 hr

theorem Blind.bumpBy (n i j : Nat) : p (s.bumpBy n r i j) = p s := hw s r _ i j 0 hr

theorem Blind.bump (i j : Nat) : p (s.bump r i j) = p s := hw s r _ i j 0 hr

end

theorem Blind.wr64 {rows : List RegRow} {p : State → β} (hw : Blind rows p) {lo hi : RegRow} (hlo : lo ∈ rows)
    (hhi : hi ∈ rows) (s : State) (v : DWord) (i j : Nat) : p (s.wr64 lo hi v i j) = p s :=
  (hw _ hi _ i j 0 hhi).trans (hw s lo _ i j 0 hlo)

/-- Both branches read alike. -/
theorem ite_keeps {p : State → β} {c : Prop} [Decidable c] {a b s : State} (ha : p a = p s) (hb : p b = p s) :
    p (if c then a else b) = p s := by
  split <;> assumption

end

/-! ### Outputs follow their owners (R359) -/

section
variable {β : Type} {p : State → β}

theorem syncOuts_keeps (hw : Blind [Reg.FIO_DO_STATUS] p) (hfio : ∀ (s : State) x, p { s with fio := x } = p s) (s : State) :
    p s.syncOuts = p s :=
  State.forAll_keeps p _ (fun n t => (hfio _ _).trans (hw.setBit (by simp) t 0 _ n 0 0)) s _

end

@[simp] theorem syncOuts_mem (s : State) : s.syncOuts.mem = s.mem := syncOuts_keeps (p := State.mem) (fun _ _ _ _ _ _ _ => rfl) (fun _ _ => rfl) s

@[simp] theorem syncOuts_wt (s : State) : s.syncOuts.wt = s.wt := syncOuts_keeps (p := State.wt) (fun _ _ _ _ _ _ _ => rfl) (fun _ _ => rfl) s

@[simp] theorem syncOuts_comet (s : State) (i : Nat) : s.syncOuts.comet i = s.comet i := congrArg (fun x : WtSt => AMap.look x.comets i) (syncOuts_wt s)

@[simp] theorem syncOuts_pm (s : State) : s.syncOuts.pm = s.pm := syncOuts_keeps (p := State.pm) (fun _ _ _ _ _ _ _ => rfl) (fun _ _ => rfl) s

theorem syncOuts_rd {r : RegRow} (h : r.apart Reg.FIO_DO_STATUS = true) (s : State) (i j k : Nat) :
    s.syncOuts.rd r i j k = s.rd r i j k :=
  syncOuts_keeps (p := fun t => t.rd r i j k) (blind_rd (by simpa using h) i j k) (fun _ _ => rfl) s

theorem syncOuts_bit {r : RegRow} (h : r.apart Reg.FIO_DO_STATUS = true) (s : State) (n i j k : Nat) :
    s.syncOuts.bit r n i j k = s.bit r n i j k := congrArg (BitVec.getLsbD · n) (syncOuts_rd h s i j k)

/-! ### Sectors stored (R418) -/

section
variable {β : Type} {p : State → β} (hm : ∀ (s : State) x, p { s with memory := x } = p s)
include hm

theorem sectorStored_keeps (s : State) (x : Nat) : p (s.sectorStored x) = p s := by
  unfold State.sectorStored
  repeat' split
  · exact (hm _ _).trans (hm s _)
  · exact (hm _ _).trans (hm s _)
  · exact hm s _
  · exact hm s _

theorem cometStored_keeps (s : State) (i : Nat) : p (s.cometStored i) = p s :=
  State.forAll_keeps p _ (fun x t => sectorStored_keeps hm t x) s _

theorem ringStored_keeps (s : State) (q first n : Nat) : p (s.ringStored q first n) = p s :=
  State.forAll_keeps p _ (fun x t => sectorStored_keeps hm t x) s _

end

end Sys2Proof.Machine
end

section
/-!
The watchtower (spec/11_comets_verdicts_ejection.md): detection makes and closes comets, and local ejections start and end.
-/
namespace Sys2Proof.Machine

open Sys2Proof

/-! ### A comet is created (R324, R329) -/

/-- The comet that a detection on lane `l` makes. -/
def State.newComet (s : State) (l : Nat) (lead : DWord) : Comet :=
  { seq := ((AMap.look s.wt.seqs (lowestFree 0 s.wt.comets)).map (fun q => q + 1)).getD 0, st := .opened, lane := l,
    src := s.laneSrc l, enc := s.laneEnc l, flags := if s.bit Reg.ENC_STATUS 4 (s.laneEnc l) then 64 else 0, lead := lead,
    commitOfs := s.rd Reg.WT_COMMIT_LEAD l, ejectOfs := s.rd Reg.WT_EJECT_OFS l, ejectExt := s.rd Reg.WT_EJECT_EXT l,
    winPre := s.rd Reg.WT_WIN_PRE l, winPost := s.rd Reg.WT_WIN_POST l, group := s.f Reg.WT_LANE_CFG 20 4 l,
    tCreate := s.now }

section
variable (s : State) (l : Nat) (lead : DWord) (tainted : Bool)

theorem createComet_comet (j : Nat) :
    (s.createComet l lead tainted).comet j =
      if j = lowestFree 0 s.wt.comets then some (s.newComet l lead) else s.comet j := by
  unfold State.createComet State.newComet
  extract_lets i n seq c s1
  have hseq : seq = ((AMap.look s.wt.seqs i).map (fun q => q + 1)).getD 0 := by
    simp only [seq]
    cases AMap.look s.wt.seqs i <;> rfl
  rw [cometStored_keeps (p := fun t => t.comet j) (fun _ _ => rfl), ← hseq]
  exact AMap.look_put s.wt.comets _ _ _

theorem createComet_regsKept :
    RegsKept s (s.createComet l lead tainted) [Reg.WT_CNT.at 0 0 0, Reg.WT_STATUS.addr] := by
  unfold State.createComet
  refine regsKept_of_regs (cometStored_keeps (p := State.regs) (fun _ _ => rfl) _ _) ?_
  simp [State.wtCount, State.setDet, State.setComet]

theorem createComet_mem : (s.createComet l lead tainted).mem = s.mem := by
  unfold State.createComet
  extract_lets i n seq c s1
  exact cometStored_keeps (p := State.mem) (fun _ _ => rfl) _ i

end

/-- An INPUT lane at the creation point of an unspoilt detection makes its comet (R324, R327). -/
theorem cometCreate_creates {s : State} {l : Fin 32} {lead : DWord} (hcycle : s.wtCycleNow = true)
    (hlane : s.laneOn l = true) (hsrc : s.laneSrc l = 0) (hlead : (s.det l).lead = some lead) (hdone : (s.det l).done = false)
    (htaint : (s.det l).tainted = false) (hspoilt : s.laneSpoilt l = false) (hmark : s.belowMark l lead = false)
    (hroom : s.wt.comets.length < 65536)
    (hat : reached (s.lanePos l) (posAdd lead (s.detOffset l + (s.rd Reg.WT_MIN_LEN l).toNat)) = true) :
    exec (.cometCreate l) s = .next (s.createComet l lead false) := by
  refine (next_if_pos hcycle).trans (congrArg Host.Outcome.next ?_)
  have hinput : s.laneCreate l = s.inputCreate l := by simp [State.laneCreate, hlane, hsrc]
  have hdetect : s.inputCreate l = s.detect l lead false := by
    simp only [State.inputCreate, hlead, hdone, hat, htaint, Bool.not_false, Bool.and_self, if_true]
  rw [hinput, hdetect, State.detect, if_neg (by simp [hspoilt, hmark]), if_neg (by omega)]

/-! ### A part that runs too long (R326) -/

/-- A part whose comet has no trailing edge at MAX_LEN takes it there. -/
theorem laneOverlength_closes {s : State} {l : Nat} {lead : DWord} {i : Nat} {c : Comet}
    (hlane : s.laneOn l = true) (hsrc : s.laneSrc l = 0) (hlead : (s.det l).lead = some lead)
    (hcomet : (s.det l).comet = some i) (hc : s.comet i = some c) (htrail : c.trailIn = false)
    (hforced : (s.det l).forced = false)
    (hat : reached (posAdd (s.lanePos l) (-(s.detOffset l))) (posAdd lead (s.rd Reg.WT_MAX_LEN l).toNat) = true) :
    ∃ d, s.laneOverlength l = (s.setComet i
      { c with trail := posAdd lead (s.rd Reg.WT_MAX_LEN l).toNat, trailIn := true, flags := c.flags ||| 512,
               ejectLen := BitVec.ofInt 32 (posDiff (posAdd lead (s.rd Reg.WT_MAX_LEN l).toNat) c.lead + c.ejectExt.toNat),
               st := if c.st = .opened then .closed else c.st }).setDet l d := by
  rw [State.laneOverlength, if_pos ⟨.inl hlane, hsrc⟩]
  simp only [State.runOver, hlead, hforced, hat, Bool.not_false, Bool.and_self, if_true, State.closeDet, hcomet,
    State.closeComet, hc, htrail, Bool.false_eq_true, if_false]
  exact ⟨_, rfl⟩

/-! ### A row of an IMAGE lane (R324) -/

theorem imageRow_counts_gap {s : State} {l : Nat} {p : DWord} {pix : List Nat} (hlead : (s.det l).lead = none)
    (hrow : s.rowOccupied l pix = false) :
    s.imageRow l (some p) pix = s.setDet l { s.det l with
      gap := (s.det l).gap + 1, gapPos := if (s.det l).gap = 0 then p else (s.det l).gapPos } := by
  simp [State.imageRow, hrow, State.rowOff, hlead, State.runOver]

/-- Settles O9: the new comet by `createComet`, the forced end by `laneOverlength_closes`, the gap by `imageRow_counts_gap`. -/
theorem detectionCreatesAndClosesComets : Obligations.DetectionCreatesAndClosesComets := by
  unfold Obligations.DetectionCreatesAndClosesComets
  refine ⟨?create, ?long, ?row⟩
  case create =>
    intro s l lead hcycle hlane hsrc hlead hdone htaint hspoilt hmark hroom hat
    refine ⟨_, s.newComet l lead, cometCreate_creates hcycle hlane hsrc hlead hdone htaint hspoilt hmark hroom hat, ?_, rfl,
      rfl, rfl, rfl, rfl, rfl, rfl, fun j hj => ?_, createComet_regsKept s l lead false, memKept_of (createComet_mem s l lead _)⟩
    · rw [createComet_comet, if_pos rfl]
    · rw [createComet_comet, if_neg hj]
  case long =>
    intro s l lead i c hcycle hlane hsrc hlead hcomet hc htrail hforced hat
    obtain ⟨d, hd⟩ := laneOverlength_closes hlane hsrc hlead hcomet hc htrail hforced hat
    refine ⟨_, _, (next_if_pos hcycle).trans (congrArg Host.Outcome.next hd), (State.comet_setComet s i i _).trans (if_pos rfl), rfl, rfl, ?_, fun hopen => if_pos hopen,
      fun j hj => (State.comet_setComet s i j _).trans (if_neg hj), rfl, memKept_of rfl⟩
    simp [Comet.flag]
  case row =>
    intro s l r rest hlane hsrc hrows hmarks hlead hrow
    refine ⟨_, next_if_pos ⟨hlane, hsrc⟩, ?_⟩
    simp only [hrows, hmarks, Bool.false_eq_true, if_false, imageRow_counts_gap hlead hrow]
    refine ⟨?_, rfl, rfl, memKept_of rfl⟩
    exact congrArg Detector.gap ((State.det_setDet s l l _).trans (if_pos rfl))

end Sys2Proof.Machine
end

section
/-!
Local ejections (spec/11_comets_verdicts_ejection.md, R341 to R348): what a start, an end and a pulse limit make of a comet.
-/
namespace Sys2Proof.Machine

open Sys2Proof

/-! ### Flags of a comet (R331) -/

@[simp] theorem flag_mark (c : Comet) {n : Nat} (hn : n < 32) (m : Nat) :
    (c.mark n).flag m = if m = n then true else c.flag m := putBit_getLsbD c.flags m true hn

/-! ### A release (R344) -/

/-- A comet whose outputs are released at raw count `t`. -/
def State.released (s : State) (c : Comet) (t : DWord) : Comet :=
  { c with phase := .ended, ejActive := false, endPending := false, pOff := s.cometPos c, tOff := s.timeAt t,
           pulseNs := pulseTo c t, placedAt := t }

theorem ejRelease_eq {s : State} {i : Nat} {c : Comet} (h : s.comet i = some c) (t : DWord) :
    s.ejRelease i t = (s.setComet i (s.released c t)).syncOuts := by
  rw [State.ejRelease, h]
  rfl

theorem ejRelease_comet {s : State} {i : Nat} {c : Comet} (h : s.comet i = some c) (t : DWord) (j : Nat) :
    (s.ejRelease i t).comet j = if j = i then some (s.released c t) else s.comet j := by
  rw [ejRelease_eq h, syncOuts_comet, State.comet_setComet]

theorem ejRelease_mem {s : State} {i : Nat} {c : Comet} (h : s.comet i = some c) (t : DWord) :
    (s.ejRelease i t).mem = s.mem := by
  rw [ejRelease_eq h, syncOuts_mem]
  rfl

theorem ejRelease_bit {s : State} {i : Nat} {c : Comet} (h : s.comet i = some c) (t : DWord) {r : RegRow}
    (hr : r.apart Reg.FIO_DO_STATUS = true) (n a b k : Nat) : (s.ejRelease i t).bit r n a b k = s.bit r n a b k := by
  rw [ejRelease_eq h, syncOuts_bit hr]
  rfl

/-! ### A start (R341 to R344) -/

/-- A comet whose outputs are driven from raw count `t` on. -/
def State.heldFrom (s : State) (c : Comet) (t : DWord) : Comet :=
  let c := { c with phase := .holding, ejActive := true, placedAt := t }
  let c := if c.st = .committed then c.mark 10 else c
  let c := if s.grpFaulted c.group then c.mark 20 else c
  if s.grpEnergised c.group then s.seen c else c

theorem ejHold_eq {s : State} {i : Nat} {c : Comet} (h : s.comet i = some c) (t : DWord) :
    s.ejHold i t = (s.setComet i (s.heldFrom c t)).syncOuts := by
  rw [State.ejHold, h]
  rfl

/-- The outputs are held, EJECT is marked on a committed comet, and no flag is lost. -/
theorem heldFrom_holds (s : State) (c : Comet) (t : DWord) :
    (s.heldFrom c t).phase = .holding ∧ (s.heldFrom c t).ejActive = true ∧
      (c.st = .committed → (s.heldFrom c t).flag 10 = true) ∧ (c.flag 15 = true → (s.heldFrom c t).flag 15 = true) := by
  have hseen (d : Comet) (n : Nat) : (s.seen d).flag n = d.flag n := rfl
  unfold State.heldFrom
  extract_lets c1 c2 c3
  have h2 : c2.phase = .holding ∧ c2.ejActive = true ∧ (c.st = .committed → c2.flag 10 = true) ∧
      (c.flag 15 = true → c2.flag 15 = true) := by
    simp only [c2]
    split
    case isTrue => exact ⟨rfl, rfl, fun _ => by simp (disch := decide), fun h => (flag_mark c1 (by decide) 15).trans ((if_neg (by decide)).trans h)⟩
    case isFalse hst => exact ⟨rfl, rfl, fun h => absurd h hst, id⟩
  have h3 : c3.phase = .holding ∧ c3.ejActive = true ∧ (c.st = .committed → c3.flag 10 = true) ∧
      (c.flag 15 = true → c3.flag 15 = true) := by
    obtain ⟨hphase, hact, hej, hlate⟩ := h2
    simp only [c3]
    split
    · exact ⟨hphase, hact, fun h => by simp (disch := decide) [hej h], fun h => by simp (disch := decide) [hlate h]⟩
    · exact ⟨hphase, hact, hej, hlate⟩
  split
  · exact h3
  · exact h3

theorem lateFire_eq {s : State} {i : Nat} {c : Comet} (h : s.comet i = some c) :
    s.lateFire i = ((s.setComet i (c.mark 15)).raise Reg.WT_EVENT 5).bump Reg.WT_CNT 12 := by
  rw [State.lateFire, h]

/-- A start of a local ejection, with the loss of its lead or without. -/
theorem ejStart_local {s : State} {i : Nat} {c : Comet} (h : s.comet i = some c) (t : DWord) (late : Bool)
    (hlocal : s.bit Reg.WT_GRP_CFG 0 c.group = false) :
    ∃ c', (∀ j, (s.ejStart i t late).comet j = if j = i then some c' else s.comet j) ∧ c'.phase = .holding ∧
      c'.ejActive = true ∧ (c.st = .committed → c'.flag 10 = true) ∧ (late = true → c'.flag 15 = true) ∧
      (s.ejStart i t late).mem = s.mem := by
  rw [State.ejStart, h]
  cases late with
  | false =>
    obtain ⟨hphase, hact, hej, -⟩ := heldFrom_holds s c t
    refine ⟨s.heldFrom c t, fun j => ?_, hphase, hact, hej, fun hl => (Bool.false_ne_true hl).elim, ?_⟩ <;>
      simp [State.grpRemote, hlocal, ejHold_eq h]
  | true =>
    have hlate : (s.lateFire i).comet i = some (c.mark 15) := by simp [lateFire_eq h, State.bumpBy, State.setBit]
    have hother (j : Nat) (hj : j ≠ i) : (s.lateFire i).comet j = s.comet j := by
      simp [lateFire_eq h, State.bumpBy, State.setBit, hj]
    have hremote : (s.lateFire i).bit Reg.WT_GRP_CFG 0 c.group = false := by
      simp (disch := decide) [lateFire_eq h, State.setComet, hlocal]
    obtain ⟨hphase, hact, hej, hflag⟩ := heldFrom_holds (s.lateFire i) (c.mark 15) t
    refine ⟨(s.lateFire i).heldFrom (c.mark 15) t, fun j => ?_, hphase, hact, hej,
      fun _ => hflag (by simp (disch := decide)), ?_⟩
    · by_cases hj : j = i <;> simp [State.grpRemote, hremote, ejHold_eq hlate, hj, hother]
    · simp only [State.when_true, State.grpRemote, hremote, Bool.false_eq_true, if_false, ejHold_eq hlate, syncOuts_mem]
      simp [lateFire_eq h, State.bumpBy, State.setBit]

/-- The start action of a committed comet whose position has come (R341): its lead is lost where the group has one. -/
theorem ejStartEval_committed {s : State} {i : Nat} {c : Comet} (h : s.comet i = some c)
    (hlocal : s.bit Reg.WT_GRP_CFG 0 c.group = false) (hphase : c.phase = .idle) (hst : c.st = .committed)
    (heject : c.eject = true) (hat : reached (s.cometPos c) c.startPos = true) :
    s.ejStartEval i = s.ejStart i (roundUp8 s.raw) (decide (0 < s.leadOn c.group)) := by
  have hlead : s.startLead c.group = s.leadOn c.group := by simp [State.startLead, State.grpRemote, hlocal]
  have hpast : reached (s.enc c.enc).pos c.startPos = true := hat
  have hdue : s.actDue c.enc c.startPos (s.leadOn c.group) = true := by simp [State.actDue, hpast]
  have htime : s.actTime c.enc c.startPos (s.leadOn c.group) = some (roundUp8 s.raw, true) := by
    rw [State.actTime, if_pos hpast]
  simp only [State.ejStartEval, h, hlead, hphase, hst, hdue, htime, true_and, ne_eq, reduceCtorEq, not_false_eq_true,
    if_true, State.ejDecide, heject, Bool.true_and]

/-! ### The ends (R343) -/

theorem ejEndEval_releases {s : State} {i : Nat} {c : Comet} {o : DWord} (h : s.comet i = some c) (hphase : c.phase = .holding)
    (hpend : c.endPending = false) (htrail : c.trailIn = true) (hat : reached (s.cometPos c) c.endPos = true)
    (hon : c.onAt = some o) (hmin : s.minPulse c.group ≤ s.since o) :
    s.ejEndEval i = s.ejRelease i (roundUp8 s.raw) := by
  have hpast : reached (s.enc c.enc).pos c.endPos = true := hat
  have hdue (lead : Nat) : s.actDue c.enc c.endPos lead = true := by simp [State.actDue, hpast]
  have htime (lead : Nat) : s.actTime c.enc c.endPos lead = some (roundUp8 s.raw, true) := by
    rw [State.actTime, if_pos hpast]
  have hnow : decide (s.since o < s.minPulse c.group) = false := by simpa using hmin
  simp only [State.ejEndEval, h, hphase, hpend, htrail, hdue, htime, Bool.not_false, and_self, if_true, State.ejEndLocal,
    hon, hnow, Bool.false_eq_true, if_false]

theorem ejMinPulse_releases {s : State} {i : Nat} {c : Comet} {o : DWord} (h : s.comet i = some c)
    (hphase : c.phase = .holding) (hpend : c.endPending = true) (hon : c.onAt = some o)
    (hmin : s.minPulse c.group ≤ s.since o) : s.ejMinPulse i = s.ejRelease i s.raw := by
  simp only [State.ejMinPulse, h, hphase, hpend, hon, hmin, and_self, if_true]

theorem ejCap_releases {s : State} {i : Nat} {c : Comet} {o : DWord} (h : s.comet i = some c) (hphase : c.phase = .holding)
    (hon : c.onAt = some o) (hmax : s.maxPulse c.group ≤ s.since o) :
    s.ejCap i = (((s.setComet i (c.mark 16)).raise Reg.WT_EVENT 6).bump Reg.WT_CNT 13).ejRelease i s.raw := by
  simp only [State.ejCap, h, hphase, hon, hmax, and_self, if_true]

/-! ### Feedback (R348) -/

/-- A change of every comet that keeps its entry is seen at each entry. -/
theorem look_map_entry {β : Type} (f : Nat × β → Nat × β) (hf : ∀ p, (f p).1 = p.1) (m : AMap β) (i : Nat) :
    AMap.look (m.map f) i = (AMap.look m i).map (fun c => (f (i, c)).2) := by
  induction m with
  | nil => rfl
  | cons q t ih =>
    obtain ⟨k, w⟩ := q
    have hk : f (k, w) = (k, (f (k, w)).2) := Prod.ext (hf (k, w)) rfl
    rw [List.map_cons, hk]
    simp only [AMap.look]
    split
    case isTrue e => rw [e]; rfl
    case isFalse => exact ih

theorem outOn_comet (s : State) (n i : Nat) {c : Comet} (h : s.comet i = some c) (hphase : c.phase = .holding)
    (hon : c.onAt = none) (hgroup : s.groupHas c.group n = true) : (s.outOn n).comet i = some (s.seen c) := by
  have hkey (p : Nat × Comet) : (seenOn s n p).1 = p.1 := by
    unfold seenOn
    split <;> rfl
  have hmap : (s.outOn n).comet i = (s.comet i).map (fun c => (seenOn s n (i, c)).2) :=
    look_map_entry (seenOn s n) hkey s.wt.comets i
  rw [hmap, h, Option.map_some, seenOn, if_pos ⟨hphase, hon, hgroup⟩]

/-- Settles O11: the start by `ejStart_local`, the three ends by the release, and the feedback by `outOn_comet`. -/
theorem localEjectionsStartAndEnd : Obligations.LocalEjectionsStartAndEnd := by
  unfold Obligations.LocalEjectionsStartAndEnd
  intro s i c hc
  refine ⟨?start, ?finish, ?minPulse, ?cap, ?feedback⟩
  case start =>
    intro hcycle hlocal hphase hst heject hat
    have hnear : (!s.cometRemote i) = true := by simp [State.cometRemote, hc, State.grpRemote, hlocal]
    obtain ⟨c', hcomet, hph, hact, hej, hlate, hmem⟩ :=
      ejStart_local hc (roundUp8 s.raw) (decide (0 < s.leadOn c.group)) hlocal
    refine ⟨_, c', (next_if_pos ⟨hcycle, hnear⟩).trans
      (congrArg Host.Outcome.next (ejStartEval_committed hc hlocal hphase hst heject hat)), (hcomet i).trans (if_pos rfl), hph,
      hact, hej hst, fun hlead => hlate (by simpa using hlead), fun j hj => (hcomet j).trans (if_neg hj), memKept_of hmem⟩
  case finish =>
    intro o hcycle hphase hpend htrail hat hon hmin
    refine ⟨_, s.released c (roundUp8 s.raw), (next_if_pos hcycle).trans
      (congrArg Host.Outcome.next (ejEndEval_releases hc hphase hpend htrail hat hon hmin)),
      (ejRelease_comet hc _ i).trans (if_pos rfl), rfl, rfl, rfl, fun j hj => (ejRelease_comet hc _ j).trans (if_neg hj),
      memKept_of (ejRelease_mem hc _)⟩
  case minPulse =>
    intro o hwt hphase hpend hon hmin
    refine ⟨_, s.released c s.raw, (next_if_pos hwt).trans
      (congrArg Host.Outcome.next (ejMinPulse_releases hc hphase hpend hon hmin)),
      (ejRelease_comet hc _ i).trans (if_pos rfl), rfl, rfl, rfl, fun j hj => (ejRelease_comet hc _ j).trans (if_neg hj),
      memKept_of (ejRelease_mem hc _)⟩
  case cap =>
    intro o hwt hphase hon hmax
    have hmark (j : Nat) : (((s.setComet i (c.mark 16)).raise Reg.WT_EVENT 6).bump Reg.WT_CNT 13).comet j =
        if j = i then some (c.mark 16) else s.comet j := by simp [State.bumpBy, State.setBit]
    have hi := (hmark i).trans (if_pos rfl)
    refine ⟨_, _, (next_if_pos hwt).trans (congrArg Host.Outcome.next (ejCap_releases hc hphase hon hmax)),
      (ejRelease_comet hi _ i).trans (if_pos rfl), rfl, rfl, ?_, ?_, fun j hj => ?_, memKept_of (ejRelease_mem hi _)⟩
    · exact (flag_mark c (by decide) 16).trans (if_pos rfl)
    · rw [ejRelease_bit hi _ (by decide)]
      simp (disch := decide)
    · rw [ejRelease_comet hi, if_neg hj, hmark, if_neg hj]
  case feedback =>
    intro n hfio hfield hphase hon hgroup
    refine ⟨_, s.seen c, next_if_pos ⟨hfio, by simp [hfield]⟩, ?_, outOn_comet s n i hc hphase hon hgroup, rfl, rfl, rfl, ?_,
      memKept_of rfl⟩
    · simp [State.outOn, bit_setBit n.isLt]
    · simp [State.outOn]

end Sys2Proof.Machine
end

section
/-!
Retirement and the record that goes out (R346): O12 fails, since the reading of the freed entry may itself append to queue 18.
-/
namespace Sys2Proof.Machine

open Sys2Proof

/-- A retired comet. -/
def retiredComet : Comet :=
  { seq := 0, st := .retired, lane := 0, src := 0, enc := 0, lead := 0, commitOfs := 0, ejectOfs := 0, ejectExt := 0,
    winPre := 0, winPost := 0, group := 0, tCreate := 0 }

/-- Queue 18 is also the queue of the log of corrected errors, its ring shares a sector with the table of comets, and the
next write of DRAM takes an error of one symbol. -/
def sharedSectorState : State :=
  { State.reset with
    core := { alive := true, held := false }
    regs := [(Reg.WT_CTRL.addr, 2), (Reg.MEM_CE_LOG_Q.addr, 18), (Reg.QM_Q_CFG.at 18 0 0, 0x804C0000),
      (Reg.QM_Q_MIRROR_LO.at 18 0 0, 0x10000)]
    memory := { inject := some (0, 1) }
    wt := { comets := [(0, retiredComet)] } }

theorem sharedSectorState_exports_two : ((sharedSectorState.exportEval 0).queue 18).items.length = 2 := by
  decide +kernel

/-- Refutes O12: in `sharedSectorState` the read of the freed entry corrects an error, and the log of it is a second record
in queue 18. -/
theorem not_cometsRetireAndAreExported : ¬ Obligations.CometsRetireAndAreExported := by
  intro h
  obtain ⟨-, hroom, -⟩ := h sharedSectorState 0 retiredComet rfl
  obtain ⟨t, it, ht, -, hitems, -⟩ := hroom (by decide) rfl (by decide) (by decide +kernel) rfl
  have hexec : exec (.exportRecord 0) sharedSectorState = .next (sharedSectorState.exportEval 0) := by
    exact next_if_pos (by decide)
  have ht' : sharedSectorState.exportEval 0 = t := by simpa [hexec] using ht
  have hlen := congrArg List.length hitems
  rw [← ht', sharedSectorState_exports_two] at hlen
  simp [show (sharedSectorState.queue 18).items = [] by decide] at hlen

end Sys2Proof.Machine
end

section
/-!
DRAM (spec/13_memory_and_translation.md): reads after writes, initialisation and refresh.
-/
namespace Sys2Proof.Machine

open Sys2Proof

/-- Settles O17: the bytes written stand in their range, the others stay, and `pokes` keeps the canonical form. -/
theorem memoryReadsAfterWrites : Obligations.MemoryReadsAfterWrites := by
  unfold Obligations.MemoryReadsAfterWrites
  exact fun s pa l => ⟨fun i h => byte_pokes_inside s pa i l h, fun a h => byte_pokes_outside s pa a l h,
    fun h => pokes_wf h pa l⟩

/-- Settles O18: no byte is listed after initialisation, and a tower's bit of MEM_STATUS follows its temperature. -/
theorem memoryInitialisationAndRefresh : Obligations.MemoryInitialisationAndRefresh := by
  unfold Obligations.MemoryInitialisationAndRefresh
  refine ⟨?init, ?refresh⟩
  case init =>
    intro s hon hbusy
    refine ⟨_, next_if_pos ⟨hon, hbusy⟩, fun a => rfl, ?_, ?_, ?_, fun sector => rfl, ?_⟩
    · simp (disch := decide) [State.initDone]
    · simp (disch := decide)
    · simp (disch := decide)
    · simp
  case refresh =>
    intro s k degC hon
    have hk : 8 + k.val < 32 := by omega
    by_cases hsame : decide (85 < degC) = s.bit Reg.MEM_STATUS (8 + k)
    · refine ⟨_, (next_if_pos hon).trans (next_if_pos hsame), ?_, ?_, fun h => absurd hsame h, ?_, memKept_of rfl⟩
      · simp (disch := decide) [hsame]
      · rw [State.rd_wr_same, BitVec.toNat_ofNat]
        omega
      · simp
    · refine ⟨_, (next_if_pos hon).trans (next_if_neg hsame), ?_, ?_, fun _ => ?_, ?_, memKept_of rfl⟩
      · simp (disch := decide) [bit_setBit hk]
      · rw [raise_eq, rd_setBit_apart (by decide), rd_setBit_apart (by decide), State.rd_wr_same, BitVec.toNat_ofNat]
        omega
      · simp (disch := decide)
      · simp

end Sys2Proof.Machine
end

section
/-!
What the operations that follow an input or the field supply leave alone: snapshot triggers (R577), wake sources (R558),
detection on INPUT lanes (R324), encoder faults (R61) and releases (R343).
-/
namespace Sys2Proof.Machine

open Sys2Proof

variable {β : Type} {p : State → β}

/-! ### Snapshot triggers -/

/-- The registers that a snapshot latches and counts in. -/
def latchRows : List RegRow :=
  [Reg.SNAP_BLK, Reg.SNAP_NUMBER, Reg.SNAP_SOURCES, Reg.SNAP_TIME_LO, Reg.SNAP_TIME_HI, Reg.SNAP_LATCHED, Reg.SNAP_STATUS,
    Reg.SNAP_CNT]

/-- The registers of a snapshot. -/
def snapRows : List RegRow := Reg.SNAP_EVENT :: latchRows

theorem latchRows_of_snapRows (hw : Blind snapRows p) : Blind latchRows p := hw.mono (fun _ hr => List.mem_cons_of_mem _ hr)

section
variable (hw : Blind latchRows p) (hs : ∀ (s : State) x, p { s with snap := x } = p s)
include hw

theorem latchBlock_keeps (src : State) (b : Block) (s : State) : p (latchBlock src b s) = p s :=
  State.forAll_keeps p _ (fun _ t => hw t Reg.SNAP_BLK _ _ _ 0 (by simp [latchRows])) s _

include hs

theorem snapLatch_keeps (s : State) (srcBits : Nat) (overwrite : Bool) : p (s.snapLatch srcBits overwrite) = p s := by
  unfold State.snapLatch
  refine (State.when_keeps p _ _ _ (hs _ _)).trans ((hw.bump (by simp [latchRows]) _ _ _).trans ?_)
  refine (State.when_keeps p _ _ _ (hw.setBit (by simp [latchRows]) _ _ _ _ _ _)).trans
    ((hw.setBit (by simp [latchRows]) _ _ _ _ _ _).trans ((hw.setF (by simp [latchRows]) _ _ _ _ _ _ _).trans ?_))
  refine (hw _ _ _ _ _ _ (by simp [latchRows])).trans
    ((hw.wr64 (by simp [latchRows]) (by simp [latchRows]) _ _ _ _).trans ?_)
  refine (hw _ _ _ _ _ _ (by simp [latchRows])).trans ((hw _ _ _ _ _ _ (by simp [latchRows])).trans ?_)
  exact State.forAll_keeps p _ (fun b t => latchBlock_keeps hw s b t) s _

/-- A trigger as a reading sees it that the event of a missed snapshot does not reach. -/
theorem snapFire_sees (hmissed : ∀ s, p (State.raise s Reg.SNAP_EVENT 1) = p s) (s : State) (src : Nat) :
    p (s.snapFire src) = p s := by
  unfold State.snapFire
  exact ite_keeps rfl (ite_keeps rfl (ite_keeps (hw _ _ _ _ _ _ (by simp [latchRows])) (ite_keeps (ite_keeps
    (snapLatch_keeps hw hs _ _ _) ((hw.bump (r := Reg.SNAP_CNT) (by simp [latchRows]) _ _ _).trans (hmissed _)))
    (snapLatch_keeps hw hs _ _ _))))

end

theorem snapFire_keeps (hw : Blind snapRows p) (hs : ∀ (s : State) x, p { s with snap := x } = p s) (s : State) (src : Nat) :
    p (s.snapFire src) = p s :=
  snapFire_sees (latchRows_of_snapRows hw) hs (fun _ => hw.raise (by simp [snapRows]) _ _ _ _) s src

/-! ### Wake sources -/

/-- The registers of a wake. -/
def wakeRows : List RegRow := [Reg.PM_WAKE_CAUSE, Reg.PM_EVENT, Reg.PM_STATE]

theorem wakeFire_keeps (hw : Blind wakeRows p) (hpm : ∀ (s : State) x, p { s with pm := x } = p s) (s : State) (src : Nat)
    (states : List Nat) : p (s.wakeFire src states) = p s := by
  have hcause (t : State) : p ((t.setBit Reg.PM_WAKE_CAUSE src true).raise Reg.PM_EVENT 4) = p t :=
    (hw.raise (by simp [wakeRows]) _ _ _ _).trans (hw.setBit (by simp [wakeRows]) _ _ _ _ _ _)
  unfold State.wakeFire
  refine ite_keeps (ite_keeps ((hpm _ _).trans (hcause s)) (ite_keeps (hcause s) ?_)) rfl
  exact (hw.setBit (by simp [wakeRows]) _ _ _ _ _ _).trans ((hpm _ _).trans (hcause s))

/-! ### Detection on INPUT lanes -/

/-- The registers of a detection. -/
def detectRows : List RegRow := [Reg.WT_CNT, Reg.WT_EVENT, Reg.WT_STATUS]

section
variable (hwt : ∀ (s : State) x, p { s with wt := x } = p s)
include hwt

theorem closeDet_keeps (s : State) (l : Nat) (trail : DWord) (flags : Word) : p (s.closeDet l trail flags) = p s := by
  unfold State.closeDet State.closeComet
  split
  · split
    · exact ite_keeps rfl (hwt s _)
    · rfl
  · rfl

variable (hw : Blind detectRows p) (hm : ∀ (s : State) x, p { s with memory := x } = p s)
include hw hm

theorem createComet_keeps (s : State) (l : Nat) (lead : DWord) (tainted : Bool) : p (s.createComet l lead tainted) = p s := by
  unfold State.createComet
  extract_lets i n seq c s1
  refine (cometStored_keeps hm _ i).trans ((hw.setF (by simp [detectRows]) _ _ _ _ _ _ _).trans
    ((hw.bump (by simp [detectRows]) _ _ _).trans ((hwt _ _).trans ((hwt _ _).trans (hwt _ _)))))

theorem detect_keeps (s : State) (l : Nat) (lead : DWord) (tainted : Bool) : p (s.detect l lead tainted) = p s := by
  unfold State.detect
  refine ite_keeps ((hw.bump (by simp [detectRows]) _ _ _).trans (hwt _ _)) (ite_keeps ?_ (createComet_keeps hwt hw hm _ _ _ _))
  exact (hw.bump (by simp [detectRows]) _ _ _).trans ((hw.raise (by simp [detectRows]) _ _ _ _).trans (hwt _ _))

theorem inputCreate_keeps (s : State) (l : Nat) : p (s.inputCreate l) = p s := by
  unfold State.inputCreate
  extract_lets d
  split
  · exact ite_keeps (detect_keeps hwt hw hm _ _ _ _) rfl
  · rfl

theorem inputEdge_keeps (s : State) (l : Nat) (leading : Bool) : p (s.inputEdge l leading) = p s := by
  unfold State.inputEdge
  refine ite_keeps (hwt _ _) ((hwt _ _).trans ?_)
  split
  · exact ite_keeps ((closeDet_keeps hwt _ _ _ _).trans (inputCreate_keeps hwt hw hm s l))
      (ite_keeps ((hw.bump (by simp [detectRows]) _ _ _).trans (inputCreate_keeps hwt hw hm s l))
        (inputCreate_keeps hwt hw hm s l))
  · exact inputCreate_keeps hwt hw hm s l

theorem inputLanes_keeps (s : State) (n : Nat) (level : Bool) : p (s.inputLanes n level) = p s :=
  State.forAll_keeps p _ (fun l t => ite_keeps (inputEdge_keeps hwt hw hm t l _) rfl) s _

end

/-! ### Releases -/

section
variable (hw : Blind [Reg.FIO_DO_STATUS] p) (hfio : ∀ (s : State) x, p { s with fio := x } = p s)
  (hwt : ∀ (s : State) x, p { s with wt := x } = p s)
include hw hfio hwt

theorem ejRelease_keeps (s : State) (i : Nat) (t : DWord) : p (s.ejRelease i t) = p s := by
  unfold State.ejRelease
  split
  · exact (syncOuts_keeps hw hfio _).trans (hwt _ _)
  · rfl

theorem ejMinPulse_keeps (s : State) (i : Nat) : p (s.ejMinPulse i) = p s := by
  unfold State.ejMinPulse
  split
  · refine ite_keeps ?_ rfl
    split
    · exact ite_keeps (ejRelease_keeps hw hfio hwt s i _) rfl
    · exact ite_keeps rfl (ejRelease_keeps hw hfio hwt s i _)
  · rfl

theorem releasePending_keeps (s : State) : p s.releasePending = p s :=
  State.forAll_keeps p _ (fun i t => ejMinPulse_keeps hw hfio hwt t i) s _

end

/-! ### Encoder faults -/

/-- The registers of an encoder fault. -/
def encFaultRows : List RegRow := [Reg.ENC_STATUS, Reg.ENC_EVENT, Reg.ENC_CNT]

section
variable (hw : Blind encFaultRows p) (hwt : ∀ (s : State) x, p { s with wt := x } = p s)
include hw

theorem encFieldBack_keeps (s : State) : p s.encFieldBack = p s :=
  State.forAll_keeps p _ (fun _ t => State.when_keeps p _ _ _ (hw.setBit (by simp [encFaultRows]) t _ _ _ _ _)) s _

include hwt

theorem encFault_blind (s : State) (n : Nat) : p (s.encFault n) = p s := by
  unfold State.encFault
  exact ite_keeps rfl ((hw.bump (by simp [encFaultRows]) _ _ _).trans ((hw.raise (by simp [encFaultRows]) _ _ _ _).trans
    ((hw.setBit (by simp [encFaultRows]) _ _ _ _ _ _).trans (hwt _ _))))

theorem encFieldLost_keeps (henc : ∀ (s : State) x, p { s with encs := x } = p s) (s : State) : p s.encFieldLost = p s :=
  State.forAll_keeps p _ (fun n _ => (encFault_blind hw hwt _ n).trans ((henc _ _).trans
    (hw.setBit (by simp [encFaultRows]) _ _ _ _ _ _))) s _

end

end Sys2Proof.Machine
end

section
/-!
Field inputs and outputs (spec/12_field_io.md): levels, the field supply, FIO_DO_SET and the readback.
-/
namespace Sys2Proof.Machine

open Sys2Proof

variable {β : Type} {p : State → β}

/-! ### An accepted level (R369) -/

/-- What input `n` holds once `level` is accepted. -/
def State.accepted (s : State) (n : Nat) (level : Bool) : DiSt :=
  { level := level, capTime := s.now, capPos := (s.enc (s.f Reg.FIO_DI_CFG 5 2 n)).pos }

/-- The registers that an accepted level changes beside FIO_DI_STATE. -/
def levelRows : List RegRow := detectRows ++ snapRows ++ wakeRows

section
variable (hw : Blind levelRows p) (hwt : ∀ (s : State) x, p { s with wt := x } = p s)
  (hm : ∀ (s : State) x, p { s with memory := x } = p s) (hs : ∀ (s : State) x, p { s with snap := x } = p s)
  (hpm : ∀ (s : State) x, p { s with pm := x } = p s)
include hw hwt hm hs hpm

/-- What follows an accepted level leaves a reading that sees neither lanes, snapshots nor wake sources. -/
theorem diAccept_reads (s : State) (n : Nat) (level : Bool) :
    p (s.diAccept n level) =
      p ((s.setDin n (s.accepted n level)).setBit Reg.FIO_DI_STATE n (level != s.bit Reg.FIO_DI_CFG 1 n)) := by
  have hd : Blind detectRows p := hw.mono (by simp [levelRows])
  have hsn : Blind snapRows p := hw.mono (by simp [levelRows])
  have hwk : Blind wakeRows p := hw.mono (by simp [levelRows])
  unfold State.diAccept
  extract_lets shown x s1 s2 s3
  have hlanes : p s2 = p s1 := inputLanes_keeps hwt hd hm s1 n shown
  have hsnap : p s3 = p s2 := State.when_keeps p s2 _ (fun t => t.snapFire 2) (snapFire_keeps hsn hs s2 2)
  exact (State.when_keeps p s3 _ (fun t => t.wakeFire 3 [2]) (wakeFire_keeps hwk hpm s3 3 [2])).trans (hsnap.trans hlanes)

end

theorem diAccept_din (s : State) (n : Nat) (level : Bool) : (s.diAccept n level).din n = s.accepted n level := by
  refine (diAccept_reads (p := fun t => t.din n) (fun _ _ _ _ _ _ _ => rfl) (fun _ _ => rfl) (fun _ _ => rfl)
    (fun _ _ => rfl) (fun _ _ => rfl) s n level).trans ?_
  simp [State.setBit]

theorem diAccept_shows (s : State) {n : Nat} (hn : n < 32) (level : Bool) :
    (s.diAccept n level).bit Reg.FIO_DI_STATE n = (level != s.bit Reg.FIO_DI_CFG 1 n) := by
  refine (diAccept_reads (p := fun t => t.bit Reg.FIO_DI_STATE n) (blind_bit (by decide) n 0 0 0) (fun _ _ => rfl)
    (fun _ _ => rfl) (fun _ _ => rfl) (fun _ _ => rfl) s n level).trans ?_
  simp [bit_setBit hn]

theorem diAccept_mem (s : State) (n : Nat) (level : Bool) : (s.diAccept n level).mem = s.mem :=
  diAccept_reads (p := State.mem) (fun _ _ _ _ _ _ _ => rfl) (fun _ _ => rfl) (fun _ _ => rfl) (fun _ _ => rfl)
    (fun _ _ => rfl) s n level

/-! ### The field supply (R358) -/

/-- The registers that a new state of the field supply changes beside FIO_SUPPLY. -/
def supplyRows : List RegRow :=
  levelRows ++ encFaultRows ++ [Reg.FIO_EVENT, Reg.FIO_CNT, Reg.FIO_DI_STATE, Reg.FIO_DO_STATUS]

section
variable (hw : Blind supplyRows p) (hwt : ∀ (s : State) x, p { s with wt := x } = p s)
  (hm : ∀ (s : State) x, p { s with memory := x } = p s) (hs : ∀ (s : State) x, p { s with snap := x } = p s)
  (hpm : ∀ (s : State) x, p { s with pm := x } = p s) (hfio : ∀ (s : State) x, p { s with fio := x } = p s)
  (henc : ∀ (s : State) x, p { s with encs := x } = p s)
include hw hwt hm hs hpm hfio henc

/-- The inputs, the encoders and the outputs follow the supply; a reading that sees none of them sees its state alone. -/
theorem supplyState_reads (s : State) {new : Nat} (h : new ≠ s.f Reg.FIO_SUPPLY 16 2) :
    p (s.supplyState new) = p (s.setF Reg.FIO_SUPPLY 16 2 new) := by
  have hlevel : Blind levelRows p := hw.mono (by simp [supplyRows])
  have hfault : Blind encFaultRows p := hw.mono (by simp [supplyRows])
  have hout : Blind [Reg.FIO_DO_STATUS] p := hw.mono (by simp [supplyRows])
  have hoff (n : Nat) (t : State) : p (t.diAccept n false) = p t :=
    (diAccept_reads hlevel hwt hm hs hpm t n false).trans ((hw.setBit (by simp [supplyRows]) _ _ _ _ _ _).trans (hfio _ _))
  have hcount (t : State) : p ((t.raise Reg.FIO_EVENT 0).bump Reg.FIO_CNT 0) = p t :=
    (hw.bump (by simp [supplyRows]) _ _ _).trans (hw.raise (by simp [supplyRows]) _ _ _ _)
  unfold State.supplyState
  rw [if_neg h]
  refine (releasePending_keeps hout hfio hwt _).trans ((syncOuts_keeps hout hfio _).trans ?_)
  refine (State.when_keeps p _ _ _ (encFieldBack_keeps hfault _)).trans ((State.when_keeps p _ _ _ ?_).trans
    (State.when_keeps p _ _ _ (hcount _)))
  exact (encFieldLost_keeps hfault hwt henc _).trans (State.forAll_keeps p _ (fun n t => ite_keeps (hoff n t) rfl) _ _)

end

theorem supplyState_f {s : State} {new : Nat} (h : new < 4) :
    (s.supplyState new).f Reg.FIO_SUPPLY 16 2 = new ∧ (s.supplyState new).f Reg.FIO_SUPPLY 0 9 = s.f Reg.FIO_SUPPLY 0 9 := by
  have hreads (lo len : Nat) (hne : new ≠ s.f Reg.FIO_SUPPLY 16 2) :
      (s.supplyState new).f Reg.FIO_SUPPLY lo len = (s.setF Reg.FIO_SUPPLY 16 2 new).f Reg.FIO_SUPPLY lo len :=
    supplyState_reads (p := fun t => t.f Reg.FIO_SUPPLY lo len) (blind_f (by decide) lo len 0 0 0) (fun _ _ => rfl)
      (fun _ _ => rfl) (fun _ _ => rfl) (fun _ _ => rfl) (fun _ _ => rfl) (fun _ _ => rfl) s hne
  by_cases hne : new = s.f Reg.FIO_SUPPLY 16 2
  · rw [State.supplyState, if_pos hne]
    exact ⟨hne.symm, rfl⟩
  · rw [hreads 16 2 hne, hreads 0 9 hne, State.f_setF_same _ _ _ _ _ _ _ _ (by decide)]
    exact ⟨Nat.mod_eq_of_lt h, f_setF_other (by decide) _ _ _ _ _ _⟩

theorem supplyState_mem (s : State) (new : Nat) : (s.supplyState new).mem = s.mem := by
  by_cases hne : new = s.f Reg.FIO_SUPPLY 16 2
  · rw [State.supplyState, if_pos hne]
  · exact supplyState_reads (p := State.mem) (fun _ _ _ _ _ _ _ => rfl) (fun _ _ => rfl) (fun _ _ => rfl) (fun _ _ => rfl)
      (fun _ _ => rfl) (fun _ _ => rfl) (fun _ _ => rfl) s hne

theorem supplyClass_lt (dv : Nat) : supplyClass dv < 4 := by
  unfold supplyClass
  repeat' split
  all_goals decide

/-- Settles O14: a level goes through `diAccept`, a wire-break sets and clears its bit, the supply goes through
`supplyState`. -/
theorem inputsAndFieldSupply : Obligations.InputsAndFieldSupply := by
  unfold Obligations.InputsAndFieldSupply
  intro s hon
  refine ⟨?edge, ?unpowered, ?wireBreak, ?current, ?supply⟩
  case edge =>
    intro n level held hheld hlevel hpower
    refine ⟨_, next_if_pos ⟨hon, hheld, hlevel, by simp [hpower]⟩, ?_, ?_, ?_, diAccept_shows s (by omega) level,
      memKept_of (diAccept_mem s n level)⟩ <;> rw [diAccept_din] <;> rfl
  case unpowered =>
    intro n level held hpower
    exact next_if_neg (by simp [hpower])
  case wireBreak =>
    intro n ua held hcfg hlow hheld hclear
    have hn : 16 + n.val < 32 := by omega
    refine ⟨_, next_if_pos ⟨hon, hcfg, hlow, hheld, by simp [hclear]⟩, ?_, ?_, ?_, memKept_of rfl⟩
    · simp (disch := decide) [bit_setBit hn]
    · simp (disch := decide)
    · simp
  case current =>
    intro n ua hhigh
    have hn : 16 + n.val < 32 := by omega
    refine ⟨_, next_if_pos ⟨hon, hhigh⟩, ?_, fun m hm => ?_, ?_, memKept_of rfl⟩
    · simp [bit_setBit hn]
    · simp [bit_setBit hn, hm]
    · simp
  case supply =>
    intro dv held hheld
    obtain ⟨hstate, hvolts⟩ := supplyState_f (s := s.setF Reg.FIO_SUPPLY 0 9 (min dv 511)) (supplyClass_lt dv)
    have hlong : ¬ ((supplyClass dv = 1 ∨ supplyClass dv = 3) ∧ held < 50000) := fun h => by
      have := hheld h.1
      omega
    refine ⟨_, (next_if_pos hon).trans (next_if_neg hlong), hstate, ?_, memKept_of (supplyState_mem _ _)⟩
    rw [hvolts, State.f_setF_same _ _ _ _ _ _ _ _ (by decide)]
    omega

/-! ### FIO_DO_SET (R359) -/

/-- Bits gathered one by one into a word. -/
theorem gatherBits_getLsbD (f : Nat → Bool) (l : List Nat) (w : Word) {n : Nat} (hn : n < 32) (hl : ∀ m ∈ l, m < 32) :
    (l.foldl (fun (w : Word) m => if f m then w ||| BitVec.ofNat 32 (2 ^ m) else w) w).getLsbD n =
      (w.getLsbD n || (decide (n ∈ l) && f n)) := by
  induction l generalizing w with
  | nil => simp
  | cons m t ih =>
    rw [List.foldl_cons, ih _ (fun k hk => hl k (List.mem_cons_of_mem m hk))]
    have hbit : (BitVec.ofNat 32 (2 ^ m)).getLsbD n = decide (m = n) := by
      rw [BitVec.getLsbD_ofNat, Nat.testBit_two_pow, decide_eq_true hn, Bool.true_and]
    cases hf : f m <;> by_cases hm : n = m
    · simp [hf, hm]
    · simp [hm]
    · subst hm
      simp [hf, BitVec.getLsbD_or, hbit, -BitVec.ofNat_pow]
    · simp [hm, Ne.symm hm, BitVec.getLsbD_or, hbit, -BitVec.ofNat_pow]

theorem mem_upTo {n k : Nat} : k ∈ upTo n ↔ k < n := by
  simp [upTo]

theorem doSetWrite_bit (s : State) (v : Word) {n : Nat} (hn : n < 32) :
    (s.doSetWrite v).bit Reg.FIO_DO_SET n = s.hostBit v n := by
  unfold State.doSetWrite
  rw [syncOuts_bit (by decide)]
  simp (disch := decide) only [bit_mk, bit_bumpBy_apart]
  rw [State.bit, State.rd_wr_same, gatherBits_getLsbD _ _ _ hn (fun m hm => mem_upTo.1 hm)]
  simp [mem_upTo, hn]

/-- Outputs that follow their owners keep the pulses of the camera triggers. -/
theorem syncOuts_pulse (s : State) (m : Nat) :
    (s.syncOuts.dout m).pulse = (s.dout m).pulse ∧ (s.syncOuts.dout m).pulseEnd = (s.dout m).pulseEnd := by
  have hkeeps : (fun t : State => ((t.dout m).pulse, (t.dout m).pulseEnd)) s.syncOuts = _ :=
    State.forAll_keeps (fun t : State => ((t.dout m).pulse, (t.dout m).pulseEnd)) _ (fun n t => by
      by_cases hm : m = n <;> simp [State.syncOut, State.setBit, hm]) s _
  exact Prod.ext_iff.1 hkeeps

/-- Settles O15: FIO_DO_SET takes `hostBit` at each output, the readback clears its bit, and the pulse ends. -/
theorem outputsAreSetAndReadBack : Obligations.OutputsAreSetAndReadBack := by
  unfold Obligations.OutputsAreSetAndReadBack
  refine ⟨?set, ?off, ?pulse⟩
  case set =>
    intro s w v htakes
    refine ⟨_, next_takes htakes, fun n hn => (doSetWrite_bit s v hn).trans rfl, ?_, memKept_of (syncOuts_mem _)⟩
    exact congrArg PmSt.hostBlocked (syncOuts_pm _)
  case off =>
    intro s n hon
    refine ⟨_, next_if_pos hon, ?_, fun m hm => ?_, ?_, rfl, memKept_of rfl⟩
    · simp [bit_setBit n.isLt]
    · simp [bit_setBit n.isLt, hm]
    · simp
  case pulse =>
    intro s n p hon hpulse hpast
    have hnext : exec (.triggerPulseEnd n) s =
        .next (s.setDout n { s.dout n with pulse := none, pulseEnd := some s.raw }).syncOuts := by
      change Host.Outcome.next _ = _
      simp only [hpulse, hon, hpast, and_self, if_true]
    obtain ⟨hp, he⟩ := syncOuts_pulse (s.setDout n { s.dout n with pulse := none, pulseEnd := some s.raw }) n
    exact ⟨_, hnext, hp.trans (by simp), he.trans (by simp), memKept_of (syncOuts_mem _)⟩

end Sys2Proof.Machine
end

section
/-!
Queues and mailboxes (spec/15_hardware_queues.md, spec/16_host_link_and_mailboxes.md): what a queue replaced, a record
appended, bytes written into a mailbox and a reply make of the state, and what they leave.
-/
namespace Sys2Proof.Machine

open Sys2Proof

variable {β : Type} {p : State → β}

/-- `p` sees no write of any row listed: one equation for each. -/
def EachBlind (p : State → β) : List RegRow → Prop
  | [] => True
  | r :: t => (∀ s v i j k, p (State.wr s r v i j k) = p s) ∧ EachBlind p t

theorem Blind.each {rows : List RegRow} (hw : Blind rows p) : EachBlind p rows := by
  induction rows with
  | nil => trivial
  | cons r t ih => exact ⟨fun s v i j k => hw s r v i j k (by simp), ih (hw.mono (by simp))⟩

/-- A guarded change that a reading never sees. -/
theorem when_blind (p : State → β) {f : State → State} (hf : ∀ t, p (f t) = p t) (s : State) (c : Bool) :
    p (s.when c f) = p s := State.when_keeps p s c f (hf s)

/-! ### A queue replaced (R435, R448) -/

/-- The registers that follow the fill of a queue. -/
def queueRows : List RegRow :=
  [Reg.QM_Q_FILL, Reg.QM_Q_CREDIT, Reg.QM_Q_SEQ, Reg.F3_LEVEL, Reg.QM_PEND, Reg.QM_EVENT]

section
variable (hw : Blind queueRows p) (hq : ∀ (s : State) x, p { s with queues := x } = p s)
include hw hq

theorem putQueue_keeps (s : State) (q : Nat) (x : Queue) : p (s.putQueue q x) = p s := by
  have hrows := hw.each
  simp only [queueRows, EachBlind] at hrows
  simp [State.putQueue, State.setQueue, when_blind p, State.setBit, hrows, hq]

end

theorem putQueue_queues (s : State) (q : Nat) (x : Queue) : (s.putQueue q x).queues = (s.setQueue q x).queues := by
  simp [State.putQueue, when_blind State.queues, State.setBit]

theorem putQueue_queue (s : State) (q j : Nat) (x : Queue) : (s.putQueue q x).queue j = if j = q then x else s.queue j := by
  rw [State.queue, putQueue_queues]
  exact State.queue_setQueue s q j x

theorem putQueue_regsKept {s t : State} {l : List Nat} {q : Nat} (h : RegsKept s t l) (hl : ∀ a ∈ queueRegs q, a ∈ l)
    (x : Queue) : RegsKept s (t.putQueue q x) l := by
  simp only [queueRegs, List.mem_cons, List.not_mem_nil, or_false, forall_eq_or_imp, forall_eq] at hl
  obtain ⟨hfill, hcredit, hseq, hlevel, hpend, hevent⟩ := hl
  have hpend' (n : Nat) : Reg.QM_PEND.at (q / 32) n 0 ∈ l := hpend
  unfold State.putQueue
  extract_lets old s1 s2
  have h1 : RegsKept s s1 l := regsKept_wr (regsKept_wr (regsKept_wr (regsKept_trans h (regsKept_of rfl)) hfill) hcredit) hseq
  have h2 : RegsKept s s2 l := by
    simp only [s2, regsKept_when]
    split
    · exact regsKept_wr h1 (by simpa using hlevel)
    · exact h1
  rw [regsKept_when]
  split
  · have h3 := regsKept_wr h2 hpend (v := putBit (s2.rd Reg.QM_PEND (q / 32)) (q % 32) true)
    rw [regsKept_when]
    split
    · exact regsKept_wr h3 (by simpa using hevent)
    · exact h3
  · exact h2

/-! ### A record appended (R443) -/

/-- The registers that a record appended changes. -/
def appendRows : List RegRow := Reg.QM_CNT :: queueRows

section
variable (hw : Blind appendRows p) (hq : ∀ (s : State) x, p { s with queues := x } = p s)
  (hm : ∀ (s : State) x, p { s with memory := x } = p s)
include hw hq hm

theorem qAppend_keeps (s : State) (q pr : Nat) (data : List Byte) : p (s.qAppend q pr data) = p s :=
  (hw.bump (by simp [appendRows]) _ _ _).trans ((ringStored_keeps hm _ _ _ _).trans
    (putQueue_keeps (hw.mono (by simp [appendRows])) hq _ _ _))

theorem qOffer_keeps (s : State) (q pr : Nat) (data : List Byte) : p (s.qOffer q pr data) = p s := by
  unfold State.qOffer
  refine ite_keeps (qAppend_keeps hw hq hm _ _ _ _) (ite_keeps ?_ rfl)
  exact (hw.raise (by simp [appendRows, queueRows]) _ _ _ _).trans (hw.bump (by simp [appendRows]) _ _ _)

end

/-- The item that a record of a producer becomes. -/
def State.record (s : State) (q pr : Nat) (data : List Byte) : QItem :=
  { first := (s.queue q).tail, entries := 1, producer := pr, seq := 0, len := s.qSize q, data := fitBytes (s.qSize q) data,
    published := true, pad := false, done := false }

theorem qAppend_items (s : State) (q pr : Nat) (data : List Byte) (j : Nat) :
    ((s.qAppend q pr data).queue j).items =
      if j = q then (s.queue q).items ++ [s.record q pr data] else (s.queue j).items := by
  unfold State.qAppend
  extract_lets x it
  refine (congrArg (fun m : AMap Queue => (AMap.get m {} j).items)
    (ringStored_keeps (p := State.queues) (fun _ _ => rfl) _ _ _ _)).trans ?_
  refine (congrArg Queue.items (putQueue_queue _ _ _ _)).trans ?_
  split <;> rfl

theorem qAppend_regsKept {s t : State} {l : List Nat} {q : Nat} (h : RegsKept s t l) (hl : ∀ a ∈ queueRegs q, a ∈ l)
    (hcnt : Reg.QM_CNT.addr ∈ l) (pr : Nat) (data : List Byte) : RegsKept s (t.qAppend q pr data) l := by
  unfold State.qAppend
  extract_lets x it
  refine (regsKept_bumpBy (by simpa using hcnt)).2 (regsKept_of_regs
    (ringStored_keeps (p := State.regs) (fun _ _ => rfl) _ _ _ _) (putQueue_regsKept h hl _))

/-! ### Bytes of a mailbox (R457) -/

/-- Bytes stored one after another. -/
theorem get_storeBytes (l : List Byte) (b k : Nat) (m : AMap Byte) (a : Nat) :
    AMap.get ((l.zipIdx k).foldl (fun t p => AMap.store t 0 (b + p.2) p.1) m) 0 a =
      if b + k ≤ a ∧ a < b + k + l.length then l.getD (a - (b + k)) 0 else AMap.get m 0 a := by
  induction l generalizing k m with
  | nil =>
    rw [if_neg (by simp)]
    rfl
  | cons x t ih =>
    rw [List.zipIdx_cons, List.foldl_cons, ih, List.length_cons]
    by_cases hfirst : a = b + k
    · rw [if_neg (by omega), if_pos (by omega), hfirst, AMap.get_store_same]
      simp
    · rw [AMap.get_store_other _ _ _ hfirst]
      by_cases hin : b + (k + 1) ≤ a ∧ a < b + (k + 1) + t.length
      · rw [if_pos hin, if_pos (by omega), show a - (b + k) = a - (b + (k + 1)) + 1 by omega, List.getD_cons_succ]
      · rw [if_neg hin, if_neg (by omega)]

theorem mailBytes_length (s : State) (m off n : Nat) : (s.mailBytes m off n).length = n := by
  simp [State.mailBytes, upTo]

/-- What a mailbox holds after bytes were written from its byte `off` on, within the range written. -/
theorem mailBytes_putMail {s : State} {m off : Nat} {l : List Byte} {k n : Nat} (hk : off ≤ k)
    (hl : k + n ≤ off + l.length) (hend : k + n ≤ 4096) :
    (s.putMail m off l).mailBytes m k n = (l.drop (k - off)).take n := by
  refine List.ext_getElem (by simp [mailBytes_length]; omega) (fun i h1 h2 => ?_)
  have hi : i < n := by simpa [mailBytes_length] using h1
  simp only [State.mailBytes, State.putMail, List.getElem_map, upTo, List.getElem_range, get_storeBytes, List.length_take]
  rw [if_pos (by omega), List.getElem_take, List.getElem_drop, List.getD_eq_getElem?_getD, List.getElem?_take_of_lt (by omega),
    List.getElem?_eq_getElem (by omega), Option.getD_some]
  congr 1
  omega

theorem mailBytes_putMail_other {s : State} {m j : Nat} (h : j ≠ m) (off : Nat) (l : List Byte) {k n : Nat}
    (hend : k + n ≤ 4096) : (s.putMail m off l).mailBytes j k n = s.mailBytes j k n := by
  refine List.map_congr_left (fun i hi => ?_)
  have hi : i < n := by simpa [upTo] using hi
  simp only [State.putMail, get_storeBytes, List.length_take]
  refine if_neg (fun hin => h ?_)
  omega

end Sys2Proof.Machine
end

section
/-!
Replies (spec/16_host_link_and_mailboxes.md, R458, R459): what an answered command leaves in its mailbox and outside it.
-/
namespace Sys2Proof.Machine

open Sys2Proof

variable {β : Type} {p : State → β}

/-! ### Numbers in little-endian bytes -/

@[simp] theorem bytesLE_length (n x : Nat) : (bytesLE n x).length = n := by
  induction n generalizing x with
  | zero => rfl
  | succ n ih => simp [bytesLE, ih]

@[simp] theorem natLE_bytesLE (n x : Nat) : natLE (bytesLE n x) = x % 256 ^ n := by
  induction n generalizing x with
  | zero => simp [bytesLE, natLE, Nat.mod_one]
  | succ n ih =>
    rw [bytesLE, natLE, ih, BitVec.toNat_ofNat, show 256 ^ (n + 1) = 256 * 256 ^ n by ring, Nat.mod_mul]

/-! ### The doorbell record is handled (R445) -/

section
variable (hw : Blind queueRows p) (hq : ∀ (s : State) x, p { s with queues := x } = p s)
include hw hq

theorem releaseServed_keeps (s : State) : p s.releaseServed = p s := by
  unfold State.releaseServed
  exact ite_keeps rfl (putQueue_keeps hw hq _ _ _)

theorem bellServed_keeps (s : State) (m : Nat) : p (s.bellServed m) = p s := by
  unfold State.bellServed
  exact (releaseServed_keeps hw hq _).trans (hq _ _)

end

theorem bellServed_regsKept {s t : State} {l : List Nat} (h : RegsKept s t l) (hl : ∀ a ∈ queueRegs 0, a ∈ l) (m : Nat) :
    RegsKept s (t.bellServed m) l := by
  have hset (x : Queue) : RegsKept s (t.setQueue 0 x) l := regsKept_trans h (regsKept_of rfl)
  unfold State.bellServed State.releaseServed
  extract_lets x mine items x' gone
  split
  · exact hset _
  · exact putQueue_regsKept (hset _) hl _

/-! ### An answer -/

/-- The registers of a reply. -/
def replyRows : List RegRow := Reg.F1_MB_STATE :: Reg.F1_EVENT :: Reg.F1_CNT :: queueRows

section
variable (hw : Blind replyRows p) (hq : ∀ (s : State) x, p { s with queues := x } = p s)
  (hh : ∀ (s : State) x, p { s with host := x } = p s)
include hw hq hh

theorem mailReply_keeps (s : State) (m : Nat) (bytes : List Byte) : p (s.mailReply m bytes) = p s := by
  unfold State.mailReply
  refine (bellServed_keeps (hw.mono (fun r hr => by simp [replyRows, hr])) hq _ _).trans ?_
  exact (hw.bump (by simp [replyRows]) _ _ _).trans ((hw.raise (by simp [replyRows]) _ _ _ _).trans
    ((hw.setF (by simp [replyRows]) _ _ _ _ _ _ _).trans ((hh _ _).trans (hh _ _))))

theorem answer_keeps (s : State) (m status : Nat) (payload : List Byte) (d0 d1 : Nat) :
    p (s.answer m status payload d0 d1) = p s := by
  unfold State.answer
  exact ite_keeps (mailReply_keeps hw hq hh _ _ _) (hh _ _)

end

@[simp] theorem answer_mem (s : State) (m status : Nat) (payload : List Byte) (d0 d1 : Nat) :
    (s.answer m status payload d0 d1).mem = s.mem :=
  answer_keeps (p := State.mem) (fun _ _ _ _ _ _ _ => rfl) (fun _ _ => rfl) (fun _ _ => rfl) _ _ _ _ _ _

theorem answer_rd {r : RegRow} (hr : replyRows.all (fun x => r.apart x) = true) (s : State) (m status : Nat)
    (payload : List Byte) (d0 d1 i j k : Nat) : (s.answer m status payload d0 d1).rd r i j k = s.rd r i j k :=
  answer_keeps (p := fun t => t.rd r i j k) (blind_rd hr i j k) (fun _ _ => rfl) (fun _ _ => rfl) _ _ _ _ _ _

theorem answer_regsKept {s t : State} {l : List Nat} (h : RegsKept s t l) (hl : ∀ a ∈ replyRegs, a ∈ l) (m status : Nat)
    (payload : List Byte) (d0 d1 : Nat) : RegsKept s (t.answer m status payload d0 d1) l := by
  have hq : ∀ a ∈ queueRegs 0, a ∈ l := fun a ha => hl a (by simp [replyRegs, ha])
  have hmb : Reg.F1_MB_STATE.addr ∈ l := hl _ (by simp [replyRegs])
  have hev : Reg.F1_EVENT.addr ∈ l := hl _ (by simp [replyRegs])
  have hcnt : Reg.F1_CNT.addr ∈ l := hl _ (by simp [replyRegs])
  unfold State.answer State.mailReply
  extract_lets b s1
  split
  · refine bellServed_regsKept ((regsKept_bumpBy (by simpa using hcnt)).2 ?_) hq m
    rw [raise_eq, regsKept_setBit (by simpa using hev), State.setMb, regsKept_setF (by simpa using hmb)]
    exact regsKept_trans h (regsKept_of rfl)
  · exact regsKept_trans h (regsKept_of rfl)

/-- The state between the write of a reply and the release of its doorbell record. -/
theorem bellServed_mail (s : State) (m k off n : Nat) :
    (s.bellServed m).mailBytes k off n = s.mailBytes k off n :=
  congrArg (fun h : HostSt => (upTo n).map (fun i => AMap.get h.mail 0 (4096 * k + off + i)))
    (bellServed_keeps (p := State.host) (fun _ _ _ _ _ _ _ => rfl) (fun _ _ => rfl) s m)

theorem bellServed_mbState (s : State) (m k : Nat) : (s.bellServed m).mbState k = s.mbState k :=
  bellServed_keeps (p := fun t => t.mbState k) (blind_f (by decide) (2 * k) 2 0 0 0) (fun _ _ => rfl) s m

theorem replyBytes_length (s : State) (m status : Nat) (payload : List Byte) (d0 d1 : Nat) :
    (s.replyBytes m status payload d0 d1).length = 16 + payload.length := by
  simp [State.replyBytes, mailBytes_length]
  omega

section
variable {s : State} (hcp : s.core.cp = .running ∨ s.core.cp = .recovery)
include hcp

theorem answer_running (m status : Nat) (payload : List Byte) (d0 d1 : Nat) :
    s.answer m status payload d0 d1 = s.mailReply m (s.replyBytes m status payload d0 d1) := if_pos hcp

/-- The mailbox of an answered command holds its reply. -/
theorem answer_mailBytes {m : Nat} {status : Nat} {payload : List Byte} {d0 d1 k n : Nat} (hn : k + n ≤ 16 + payload.length)
    (hend : k + n ≤ 4096) :
    (s.answer m status payload d0 d1).mailBytes m k n = ((s.replyBytes m status payload d0 d1).drop k).take n := by
  rw [answer_running hcp, State.mailReply, bellServed_mail]
  exact mailBytes_putMail (Nat.zero_le k) (by simpa [replyBytes_length] using hn) hend

theorem answer_mbState {m : Nat} (hm : m < 16) (status : Nat) (payload : List Byte) (d0 d1 : Nat) :
    (s.answer m status payload d0 d1).mbState m = 3 := by
  rw [answer_running hcp, State.mailReply, bellServed_mbState]
  simp (disch := decide) only [State.mbState, State.setMb, raise_eq, bump_eq, f_bumpBy_apart, f_setBit_apart]
  rw [State.f_setF_same _ _ _ _ _ _ _ _ (by omega)]
  rfl

/-- An answered command has been replied to with its status. -/
theorem answer_replied {m : Nat} (hm : m < 16) {status : Nat} (hst : status < 65536) (payload : List Byte) (d0 d1 : Nat) :
    (s.answer m status payload d0 d1).replied m status := by
  refine ⟨answer_mbState hcp hm status payload d0 d1, ?_⟩
  rw [answer_mailBytes hcp (by omega) (by omega), List.drop_zero]
  have hfirst : (s.replyBytes m status payload d0 d1).take 2 = bytesLE 2 status := by simp [State.replyBytes]
  rw [hfirst, natLE_bytesLE]
  exact Nat.mod_eq_of_lt hst

/-- The payload of a reply stands after its header. -/
theorem answer_payload {m : Nat} {status : Nat} {payload : List Byte} {d0 d1 k n : Nat} (hn : k + n ≤ payload.length)
    (hend : 16 + k + n ≤ 4096) :
    (s.answer m status payload d0 d1).mailBytes m (16 + k) n = (payload.drop k).take n := by
  rw [answer_mailBytes hcp (by omega) hend, State.replyBytes]
  congr 1
  rw [List.drop_append]
  simp [mailBytes_length]

end

end Sys2Proof.Machine
end

section
/-!
The host link (spec/16_host_link_and_mailboxes.md): doorbells, mailbox writes and bulk data.
-/
namespace Sys2Proof.Machine

open Sys2Proof

variable {β : Type} {p : State → β}

/-! ### What decides room in a queue, and the time -/

/-- The rows of the time base. -/
def timeRows : List RegRow :=
  [Reg.TIME_RATE, Reg.TIME_OFFSET_LO, Reg.TIME_OFFSET_HI, Reg.TIME_ANCHOR_LO, Reg.TIME_ANCHOR_HI]

theorem now_wr_apart {r : RegRow} (h : timeRows.all (fun x => x.apart r) = true) (s : State) (v : Word) (i j k : Nat) :
    (s.wr r v i j k).now = s.now := by
  simp only [timeRows, List.all_cons, List.all_nil, Bool.and_true, Bool.and_eq_true] at h
  obtain ⟨hrate, holo, hohi, halo, hahi⟩ := h
  simp only [State.now, State.timeAt, State.rd64, rd_wr_apart hrate, rd_wr_apart holo, rd_wr_apart hohi, rd_wr_apart halo,
    rd_wr_apart hahi]
  rfl

/-- What powers a block is decided by the core and PM_STATE. -/
theorem on_congr {s t : State} (hcore : t.core = s.core) (hpower : t.rd Reg.PM_STATE = s.rd Reg.PM_STATE) (b : Block) :
    t.on b = s.on b := by
  have hp : t.power = s.power := congrArg (fld · 0 2) hpower
  rw [State.on, State.on, State.live, State.live, hcore, hp]

/-- Room in a queue is decided by the queues, by what powers the queue manager, and by the queue's configuration. -/
theorem qRoom_congr {s t : State} {q : Nat} (hq : t.queues = s.queues) (hcore : t.core = s.core)
    (hpower : t.rd Reg.PM_STATE = s.rd Reg.PM_STATE) (hcfg : t.rd Reg.QM_Q_CFG q = s.rd Reg.QM_Q_CFG q) (pr : Nat) :
    t.qRoom q pr = s.qRoom q pr := by
  have hbit (n : Nat) : t.bit Reg.QM_Q_CFG n q = s.bit Reg.QM_Q_CFG n q := congrArg (BitVec.getLsbD · n) hcfg
  have hqon : t.qOn q = s.qOn q := by rw [State.qOn, State.qOn, on_congr hcore hpower, hbit]
  have hcap : t.qCap q = s.qCap q := congrArg (fun w => 2 ^ clampN 4 16 (fld w 20 5)) hcfg
  have hqueue : t.queue q = s.queue q := by rw [State.queue, State.queue, hq]
  rw [State.qRoom, State.qRoom, hqon, State.qPacket, State.qPacket, hbit, State.qFree, State.qFree, hcap, hqueue]

/-! ### States of the mailboxes (R458) -/

theorem mbState_setMb (s : State) {m n : Nat} (hm : m < 16) (hn : n < 4) (k : Nat) :
    (s.setMb m n).mbState k = if k = m then n else s.mbState k := by
  unfold State.mbState State.setMb
  split
  case isTrue h =>
    rw [h, State.f_setF_same _ _ _ _ _ _ _ _ (by omega)]
    exact Nat.mod_eq_of_lt hn
  case isFalse h => exact f_setF_other (by omega) _ _ _ _ _ _

/-- A record offered to a queue says nothing of the mailboxes. -/
theorem qAppend_mbState (s : State) (q pr : Nat) (data : List Byte) (k : Nat) :
    (s.qAppend q pr data).mbState k = s.mbState k :=
  qAppend_keeps (p := fun t => t.mbState k) (blind_f (by decide) (2 * k) 2 0 0 0) (fun _ _ => rfl) (fun _ _ => rfl) _ _ _ _

/-- The mailbox is POSTED and its bell is noted. -/
def State.posted (s : State) (m : Nat) : State :=
  let t := s.setMb m 1
  { t with host := { t.host with bells := t.host.bells ++ [m] } }

/-- A doorbell of a mailbox that takes it: POSTED, and a record in queue 0. -/
theorem ringBell_posts {s : State} {m : Nat} (hready : s.fnReady 1 = true) (h1 : s.mbState m ≠ 1) (h2 : s.mbState m ≠ 2)
    (hroom : s.qRoom 0 0 = true) :
    s.ringBell m = (s.posted m).qAppend 0 0 (bytesLE 8 m ++ bytesLE 8 s.now.toNat) := by
  have hrd (r : RegRow) (hr : r.apart Reg.F1_MB_STATE = true) : (s.posted m).rd r = s.rd r := rd_wr_apart hr s _ 0 0 0 0 0 0
  have hroom' : (s.posted m).qRoom 0 0 = true :=
    (qRoom_congr (s := s) (t := s.posted m) rfl rfl (hrd Reg.PM_STATE (by decide)) (hrd Reg.QM_Q_CFG (by decide)) 0).trans hroom
  have hnow : (s.posted m).now = s.now := now_wr_apart (by decide) s _ 0 0 0
  rw [State.ringBell, if_neg (by simp [hready]), if_neg (by simp [h1, h2]), ← hnow]
  exact if_pos hroom'

/-! ### Bulk data (R462) -/

theorem bulkAppend_fits {s : State} {st : Staging} {data : List Byte} (h : s.host.staging = some st)
    (hfit : st.data.length + data.length ≤ st.size) :
    s.bulkAppend data =
      ((({ s with host := { s.host with staging := some { st with data := st.data ++ data } } }).wr64 Reg.F1_BULK_COUNT_LO
        Reg.F1_BULK_COUNT_HI (BitVec.ofNat 64 (st.data.length + data.length))).bumpBy 0 Reg.F1_CNT 3) := by
  have htake : data.take (st.size - st.data.length) = data := List.take_of_length_le (by omega)
  simp only [State.bulkAppend, h, htake, List.length_append, Nat.sub_self]

/-- Settles O24: the doorbell by `ringBell_posts`, the mailbox by the laws of its bytes, the bulk port by
`bulkAppend_fits`. -/
theorem doorbellsMailboxesAndBulk : Obligations.DoorbellsMailboxesAndBulk := by
  unfold Obligations.DoorbellsMailboxesAndBulk
  intro s hready
  refine ⟨?bell, ?busy, ?write, ?bulk, ?crc⟩
  case bell =>
    intro m h1 h2 hroom
    refine ⟨_, congrArg Host.Outcome.next (ringBell_posts hready h1 h2 hroom), ?_, fun k hk => ?_, ?_, ?_, ?_, ?_⟩
    · exact (qAppend_mbState _ _ _ _ _).trans ((mbState_setMb s m.isLt (by decide) m).trans (if_pos rfl))
    · exact (qAppend_mbState _ _ _ _ _).trans ((mbState_setMb s m.isLt (by decide) k).trans
        (if_neg (fun e => hk (Fin.ext e))))
    · exact congrArg HostSt.bells
        (qAppend_keeps (p := State.host) (fun _ _ _ _ _ _ _ => rfl) (fun _ _ => rfl) (fun _ _ => rfl) (s.posted m) 0 0 _)
    · rw [qAppend_items, if_pos rfl, List.map_append]
      have hsize : (s.posted m).qSize 0 = s.qSize 0 :=
        congrArg (fun n => 16 * 2 ^ n) (f_setF_apart (by decide) s _ _ _ 18 2 0 0 0 0 0 0)
      simp only [List.map_cons, List.map_nil, State.record, hsize]
      rfl
    · refine qAppend_regsKept ?_ (fun a ha => by simp [ha]) (by simp) _ _
      simp [State.posted, State.setMb]
    · exact memKept_of
        (qAppend_keeps (p := State.mem) (fun _ _ _ _ _ _ _ => rfl) (fun _ _ => rfl) (fun _ _ => rfl) (s.posted m) 0 0 _)
  case busy =>
    intro m hbusy
    refine ⟨⟨s.bump Reg.F1_CNT 2, ?_, rfl, rfl, rd_bumpBy_same s 1 Reg.F1_CNT 2 0, by simp, memKept_of rfl⟩, fun offset data =>
      ⟨s.bump Reg.F1_CNT 1, ?_, rfl, rd_bumpBy_same s 1 Reg.F1_CNT 1 0, by simp, memKept_of rfl⟩⟩
    · exact (next_if_neg (by simp [hready])).trans (next_if_pos hbusy)
    · exact (next_if_neg (by simp [hready])).trans (next_if_pos hbusy)
  case write =>
    intro m offset data h1 h2 hfit
    refine ⟨_, (next_if_neg (by simp [hready])).trans (next_if_neg (by simp [h1, h2])), ?_, fun k hk => ?_, rfl,
      memKept_of rfl⟩
    · rw [mailBytes_putMail (Nat.le_refl _) (Nat.le_refl _) hfit, Nat.sub_self, List.drop_zero, List.take_length]
    · exact mailBytes_putMail_other (fun e => hk (Fin.ext e)) _ _ (by decide)
  case bulk =>
    intro data st hst hfit
    refine ⟨_, (next_if_pos ⟨hready, rfl⟩).trans (congrArg Host.Outcome.next (bulkAppend_fits hst hfit)), rfl, ?_, ?_,
      memKept_of rfl⟩
    · rw [State.bumpBy, rd64_wr_other _ _ (RegRow.at_ne (by decide) _ _ _ _ _ _) (RegRow.at_ne (by decide) _ _ _ _ _ _)]
      exact rd64_wr64_same _ _ (by decide)
    · rw [regsKept_bumpBy (by simp)]
      exact regsKept_wr64 (regsKept_of rfl) (by decide) (by decide)
  case crc => exact fun data => next_if_neg (by simp)

end Sys2Proof.Machine
end

section
/-!
Jobs, engines and fault records: what the operations of the scheduler and of the fault queue leave alone
(spec/10_scheduling_and_preemption.md, spec/21_fault_handling_and_snapshots.md).
-/
namespace Sys2Proof.Machine

open Sys2Proof

variable {β : Type} {p : State → β}

theorem foldl_keeps {α : Type} (p : State → β) (f : State → α → State) (h : ∀ s a, p (f s a) = p s) (l : List α) (s : State) :
    p (l.foldl f s) = p s := by
  induction l generalizing s with
  | nil => rfl
  | cons a t ih => exact (ih (f s a)).trans (h s a)

/-! ### Engines and contexts -/

/-- The registers that the state of engines, contexts and runs shows in. -/
def jobRows : List RegRow :=
  [Reg.SPR_STATUS, Reg.SPR_SCHED_STATUS, Reg.MOON_STATUS, Reg.QM_SCHED_STATUS, Reg.SPR_CNT, Reg.MOON_CNT, Reg.XLT_CNT] ++
    appendRows

/-- A reading that sees nothing of jobs, engines, queues, comets and stored sectors. -/
structure JobBlind (p : State → β) : Prop where
  rows : Blind jobRows p
  queues : ∀ (s : State) x, p { s with queues := x } = p s
  memory : ∀ (s : State) x, p { s with memory := x } = p s
  job : ∀ (s : State) x, p { s with job := x } = p s
  wt : ∀ (s : State) x, p { s with wt := x } = p s

/-- A reading that sees nothing of engines, contexts and queues; it may see the loaded jobs. -/
structure CtxBlind (p : State → β) : Prop where
  rows : Blind jobRows p
  queues : ∀ (s : State) x, p { s with queues := x } = p s
  memory : ∀ (s : State) x, p { s with memory := x } = p s
  job : ∀ (s : State) x, x.jobs = s.job.jobs → p { s with job := x } = p s

theorem JobBlind.ctx (hj : JobBlind p) : CtxBlind p := ⟨hj.rows, hj.queues, hj.memory, fun s x _ => hj.job s x⟩

section
variable (hj : CtxBlind p)
include hj

theorem CtxBlind.queueRows : Blind queueRows p := hj.rows.mono (fun r hr => by simp [jobRows, Machine.appendRows, hr])

theorem CtxBlind.appendRows : Blind appendRows p := hj.rows.mono (fun _ hr => List.mem_append_right _ hr)

theorem setEngine_keeps (s : State) (e : Nat) (x : Engine) : p (s.setEngine e x) = p s := hj.job s _ rfl

theorem setCtx_keeps (s : State) (h u : Nat) (c : Ctx) : p (s.setCtx h u c) = p s := hj.job s _ rfl

theorem syncEngine_keeps (s : State) (e : Nat) : p (s.syncEngine e) = p s := by
  unfold State.syncEngine
  refine ite_keeps ?_ (hj.rows _ _ _ _ _ _ (by simp [jobRows]))
  exact (hj.rows _ _ _ _ _ _ (by simp [jobRows])).trans (hj.rows _ _ _ _ _ _ (by simp [jobRows]))

theorem syncSched_keeps (s : State) : p s.syncSched = p s := hj.rows _ _ _ _ _ _ (by simp [jobRows])

theorem syncJobs_keeps (s : State) : p s.syncJobs = p s :=
  (syncSched_keeps hj _).trans (State.forAll_keeps p _ (fun e t => syncEngine_keeps hj t e) s _)

theorem putEngine_keeps (s : State) (e : Nat) (x : Engine) : p (s.putEngine e x) = p s :=
  (syncSched_keeps hj _).trans ((syncEngine_keeps hj _ e).trans (setEngine_keeps hj _ _ _))

theorem engCnt_keeps (s : State) (e k n : Nat) : p (s.engCnt e k n) = p s :=
  ite_keeps rfl (ite_keeps (hj.rows.bumpBy (by simp [jobRows]) _ _ _ _) (hj.rows.bumpBy (by simp [jobRows]) _ _ _ _))

theorem returnTileCredits_keeps (s : State) (t : TileRun) : p (s.returnTileCredits t) = p s := by
  unfold State.returnTileCredits
  split
  · exact ite_keeps (putQueue_keeps hj.queueRows hj.queues _ _ _) rfl
  · rfl

theorem abandonTile_keeps (s : State) (e : Nat) : p (s.abandonTile e) = p s := by
  unfold State.abandonTile
  extract_lets x
  split
  · have h1 (b : Bool) : p (s.when b (fun s => s.bump Reg.XLT_CNT 5)) = p s := State.when_keeps p s _ (fun s => s.bump Reg.XLT_CNT 5) (hj.rows.bump (by simp [jobRows]) _ _ _)
    exact (putEngine_keeps hj _ _ _).trans ((engCnt_keeps hj _ _ _ _).trans ((returnTileCredits_keeps hj _ _).trans
      ((setCtx_keeps hj _ _ _ _).trans ((hj.memory _ _).trans (h1 _)))))
  · rfl

theorem leaveEngines_keeps (s : State) (h : Nat) : p (s.leaveEngines h) = p s := by
  have hleave (e : Nat) (t : State) :
      p (t.when (decide (((t.engine e).tile.map (fun r => r.handle)) = some h)) (fun t => t.abandonTile e)) = p t :=
    State.when_keeps p _ _ _ (abandonTile_keeps hj t e)
  unfold State.leaveEngines
  have hclear (t : State) : p ((t.clearCtxs h).returnCredits h) = p t := (hj.queues _ _).trans (hj.job _ _ rfl)
  refine (syncJobs_keeps hj _).trans ((hclear _).trans (State.forAll_keeps p _ (fun e t => ?_) s _))
  extract_lets x t1 x' gone
  exact ite_keeps ((setEngine_keeps hj _ _ _).trans (hleave e t)) (hleave e t)

theorem putCompletion_keeps (s : State) (h : Nat) (j : Job) (status : Nat) : p (s.putCompletion h j status) = p s := by
  unfold State.putCompletion
  exact ite_keeps (qOffer_keeps hj.appendRows hj.queues hj.memory _ _ _ _) (hj.job _ _ rfl)

theorem flushRecords_keeps (s : State) : p s.flushRecords = p s := by
  have hrest (t : State) (l : List (Nat × Nat × List Byte)) :
      p { t with job := { t.job with pendRecords := l } } = p t := hj.job t _ rfl
  exact foldl_keeps p _ (fun t r => ite_keeps ((hrest _ _).trans (qOffer_keeps hj.appendRows hj.queues hj.memory t _ _ _)) rfl) _ s

end

section
variable (hj : JobBlind p)
include hj

theorem JobBlind.queueRows : Blind queueRows p := hj.ctx.queueRows

theorem JobBlind.appendRows : Blind appendRows p := hj.ctx.appendRows

theorem updJob_keeps (s : State) (h : Nat) (f : Job → Job) : p (s.updJob h f) = p s := by
  unfold State.updJob
  split
  · exact hj.job _ _
  · rfl

theorem dropSlots_keeps (s : State) (h : Nat) : p (s.dropSlots h) = p s := by
  have hmark (t : State) (x : Slot) : p (t.markDropped x) = p t := by
    unfold State.markDropped
    split
    · exact ite_keeps (hj.wt _ _) rfl
    · rfl
  unfold State.dropSlots
  split
  · exact (hj.job _ _).trans (State.forAll_keeps p _ (fun (x : Nat × Slot) t => ite_keeps rfl (hmark t x.2)) s _)
  · rfl

/-! ### The end of a run -/

theorem endRun_keeps (s : State) (h : Nat) (st : JobState) (status : Nat) : p (s.endRun h st status) = p s := by
  have hleft : p ((s.leaveEngines h).dropSlots h) = p s := (dropSlots_keeps hj _ h).trans (leaveEngines_keeps hj.ctx s h)
  unfold State.endRun
  extract_lets s1
  split
  · exact (syncJobs_keeps hj.ctx _).trans ((hj.job _ _).trans ((putCompletion_keeps hj.ctx _ _ _ _).trans hleft))
  · exact hleft

theorem faultJob_keeps (s : State) (h status : Nat) : p (s.faultJob h status) = p s := by
  unfold State.faultJob
  split
  · exact ite_keeps (endRun_keeps hj _ _ _ _) rfl
  · rfl

theorem tryComplete_keeps (s : State) (h : Nat) : p (s.tryComplete h) = p s := by
  unfold State.tryComplete
  split
  · refine ite_keeps ((syncJobs_keeps hj.ctx _).trans ((updJob_keeps hj _ _ _).trans ?_)) rfl
    exact (leaveEngines_keeps hj.ctx _ h).trans (putCompletion_keeps hj.ctx _ _ _ _)
  · rfl

theorem flushHeld_keeps (hf : ∀ (s : State) x, p { s with fault := x } = p s) (s : State) : p s.flushHeld = p s :=
  foldl_keeps p _ (fun t _ => ite_keeps ((hf _ _).trans (qAppend_keeps hj.appendRows hj.queues hj.memory t _ _ _)) rfl) _ s

theorem flushQueues_keeps (hf : ∀ (s : State) x, p { s with fault := x } = p s) (s : State) : p s.flushQueues = p s :=
  (flushHeld_keeps hj hf _).trans ((foldl_keeps p _ (fun t (r : Nat × Job) => tryComplete_keeps hj t r.1) _ _).trans
    (flushRecords_keeps hj.ctx s))

end

/-! ### Fault records (R569 to R574) -/

/-- A reading that sees nothing of snapshots, queues, stored sectors and fault records. -/
structure RecordBlind (p : State → β) : Prop where
  latch : Blind latchRows p
  missed : ∀ s, p (State.raise s Reg.SNAP_EVENT 1) = p s
  lasting : ∀ s, p (State.raise s Reg.SNAP_EVENT 2) = p s
  appends : Blind Machine.appendRows p
  snap : ∀ (s : State) x, p { s with snap := x } = p s
  queues : ∀ (s : State) x, p { s with queues := x } = p s
  memory : ∀ (s : State) x, p { s with memory := x } = p s
  fault : ∀ (s : State) x, p { s with fault := x } = p s

section
variable (hr : RecordBlind p)
include hr

theorem RecordBlind.count (s : State) (k : Nat) : p (s.bump Reg.SNAP_CNT k) = p s := hr.latch.bump (by simp [latchRows]) _ _ _

theorem faultWrite_sees (s : State) (r : FaultRec) (seq : Word) : p (s.faultWrite r seq) = p s := by
  have hpublish (t : State) (b : Nat) (d : List Byte) : p (t.faultPublish b d) = p t :=
    ite_keeps (qAppend_keeps hr.appends hr.queues hr.memory _ _ _ _) (ite_keeps (hr.fault _ _) (hr.count _ _))
  unfold State.faultWrite
  extract_lets trig accepted t s1 no s2 s3 s4
  have h1 : p s1 = p s := State.when_keeps p s _ (fun s => s.snapFire 3) (snapFire_sees hr.latch hr.snap hr.missed s 3)
  have h2 : p s2 = p s1 := State.when_keeps p s1 _ (fun s => s.bump Reg.SNAP_CNT 3) (hr.count _ _)
  have h3 : p s3 = p s2 := State.when_keeps p s2 _ (fun s => (s.bump Reg.SNAP_CNT 4).raise Reg.SNAP_EVENT 2)
    ((hr.lasting _).trans (hr.count _ _))
  have h4 : p s4 = p s3 := State.when_keeps p s3 _ (fun s => s.bump Reg.SNAP_CNT 5) (hr.count _ _)
  exact (hpublish _ _ _).trans (h4.trans (h3.trans (h2.trans h1)))

theorem faultNew_sees (s : State) (r : FaultRec) : p (s.faultNew r) = p s := by
  unfold State.faultNew
  exact (faultWrite_sees hr _ _ _).trans ((hr.count _ _).trans (hr.fault _ _))

theorem faultRetried_sees (s : State) (r : FaultRec) (cls : Nat) : p (s.faultRetried r cls) = p s :=
  (faultWrite_sees hr _ _ _).trans (faultNew_sees hr _ _)

end

/-- A reading that sees no register at all, and nothing of the units of a record. -/
theorem recordBlind_of_wr (hw : ∀ s r v i j k, p (State.wr s r v i j k) = p s) (hs : ∀ (s : State) x, p { s with snap := x } = p s)
    (hq : ∀ (s : State) x, p { s with queues := x } = p s) (hm : ∀ (s : State) x, p { s with memory := x } = p s)
    (hf : ∀ (s : State) x, p { s with fault := x } = p s) : RecordBlind p :=
  have he : Blind [Reg.SNAP_EVENT] p := blind_of_wr hw _
  ⟨blind_of_wr hw _, fun _ => he.raise (by simp) _ _ _ _, fun _ => he.raise (by simp) _ _ _ _, blind_of_wr hw _, hs, hq, hm, hf⟩

section
variable (hj : JobBlind p) (hs : Blind snapRows p) (hsnap : ∀ (s : State) x, p { s with snap := x } = p s)
  (hf : ∀ (s : State) x, p { s with fault := x } = p s)
include hj hs hsnap hf

theorem JobBlind.record : RecordBlind p :=
  ⟨latchRows_of_snapRows hs, fun _ => hs.raise (by simp [snapRows]) _ _ _ _, fun _ => hs.raise (by simp [snapRows]) _ _ _ _,
    hj.appendRows, hsnap, hj.queues, hj.memory, hf⟩

theorem faultNew_keeps (s : State) (r : FaultRec) : p (s.faultNew r) = p s := faultNew_sees (hj.record hs hsnap hf) s r

theorem faultRetried_keeps (s : State) (r : FaultRec) (cls : Nat) : p (s.faultRetried r cls) = p s :=
  faultRetried_sees (hj.record hs hsnap hf) s r cls

end

end Sys2Proof.Machine
end

section
/-!
The host link, continued (spec/16_host_link_and_mailboxes.md): the aperture, the reading of verdicts out and the SDIO interface.
-/
namespace Sys2Proof.Machine

open Sys2Proof

variable {β : Type} {p : State → β}

/-! ### The aperture (R464, R465) -/

theorem readAt_mem (s : State) (a : Nat) : (s.readAt a).2.mem = s.mem := by
  unfold State.readAt
  split
  · rfl
  · split
    · split
      · exact readElem_mem s _ _ _ _
      · rfl
    · show (if a < 2 ^ 26 then s.unmapped else s).mem = s.mem
      split <;> rfl

theorem fld_putByte (w : Word) {k : Nat} (hk : k < 4) (b : Byte) : fld (putByte w k b) (8 * k) 8 = b.toNat :=
  (fld_setFld_same w (8 * k) 8 b.toNat (by omega)).trans (Nat.mod_eq_of_lt b.isLt)

/-! ### A ring without errors (R418) -/

section
variable {s : State} (h : s.memory.errs = [])
include h

theorem badSyms_of_noErrs (x : Nat) : s.badSyms x = 0 := by
  rw [State.badSyms, h]
  rfl

theorem ringData_of_noErrs (q : Nat) (i : QItem) : s.ringData q i = i.data := by
  refine if_neg ?_
  simp only [State.bothBad, badSyms_of_noErrs h]
  simp [popCount]

theorem mirrorRead_of_noErrs (block id a b : Nat) : s.mirrorRead block id a b = s := by
  simp [State.mirrorRead, State.readCorrected, badSyms_of_noErrs h, popCount]

end

theorem forAll_fixed {α : Type} {f : α → State → State} {s : State} (hf : ∀ a, f a s = s) (l : List α) : s.forAll l f = s := by
  induction l with
  | nil => rfl
  | cons a t ih => exact (congrArg (fun u : State => u.forAll t f) (hf a)).trans ih

theorem ringReads_of_noErrs {s : State} (h : s.memory.errs = []) (q : Nat) (l : List QItem) : s.ringReads q l = s :=
  forAll_fixed (fun _ => forAll_fixed (fun _ => mirrorRead_of_noErrs h _ _ _ _) _) l

/-! ### Verdicts read out (R471, R472) -/

/-- Records released from queue 18, and what goes on for the room they leave, keep what sees no queue and no job. -/
theorem qReleaseFlush_keeps (hj : JobBlind p) (hf : ∀ (s : State) x, p { s with fault := x } = p s) (s : State) (q n : Nat) :
    p ((s.qRelease q n).flushQueues) = p s :=
  (flushQueues_keeps hj hf _).trans (putQueue_keeps hj.queueRows hj.queues _ _ _)

/-- What a read of `n` records leaves in a reading that sees no queue and no job. -/
theorem exportRead_reads (hj : JobBlind p) (hf : ∀ (s : State) x, p { s with fault := x } = p s) {s : State}
    (herrs : s.memory.errs = []) (hfresh : s.bit Reg.F3_CTRL 0 = false) (hrest : s.host.rereadRest = []) (n : Nat) :
    p (s.exportRead (128 * n)) =
      p { s.setBit Reg.F3_CTRL 0 false with
          host := { s.host with lastRead := (s.exportHead.take n).map (fun i => i.data), rereadRest := [] } } := by
  have hnew (l : List QItem) : l.map (fun i => s.ringData 18 i) = l.map (fun i => i.data) :=
    List.map_congr_left (fun i _ => ringData_of_noErrs herrs 18 i)
  have hn : 128 * n / 128 = n := Nat.mul_div_cancel_left n (by decide)
  unfold State.exportRead
  rw [hn]
  simp only [hfresh, hrest, hnew, Bool.false_eq_true, if_false, List.append_nil, List.length_nil, Nat.sub_zero, List.take_nil,
    List.drop_nil, List.nil_append]
  refine ite_keeps rfl ?_
  rw [ringReads_of_noErrs (by exact herrs)]
  exact qReleaseFlush_keeps hj hf _ 18 _

/-- A reread of the whole of the last read. -/
theorem exportRead_again {s : State} (hagain : s.bit Reg.F3_CTRL 0 = true) (hrest : s.host.rereadRest = []) :
    s.exportRead (128 * s.host.lastRead.length) = s.setBit Reg.F3_CTRL 0 false := by
  have hn : 128 * s.host.lastRead.length / 128 = s.host.lastRead.length := Nat.mul_div_cancel_left _ (by decide)
  unfold State.exportRead
  rw [hn]
  simp only [hagain, hrest, if_true, List.append_nil, Nat.sub_self, List.take_zero, List.map_nil, List.take_length,
    List.drop_length]
  rw [← hrest]
  rfl

/-! ### Boot -/

theorem startBoot_keeps (hw : Blind [Reg.SPR_ID, Reg.PM_PLUG_CNT] p) (s : State) :
    p s.startBoot = p { s with core := { s.core with cp := .booting, held := false, romDone := false } } :=
  (State.forAll_keeps p _ (fun _ t => hw _ _ _ _ _ _ (by simp)) _ _).trans
    (State.forAll_keeps p _ (fun _ t => hw _ _ _ _ _ _ (by simp)) _ _)

/-- The registers that firmware sets as it comes up. -/
def firmwareRows : List RegRow :=
  [Reg.SEC_IRQ_EN, Reg.XLT_IRQ_EN, Reg.MEM_ECC_IRQ_EN, Reg.MEM_IRQ_EN, Reg.LN_MAC_ADDR_LO, Reg.LN_MAC_ADDR_HI,
    Reg.WT_TABLE_BASE_LO, Reg.WT_TABLE_BASE_HI, Reg.SYS_FW_VERSION, Reg.QM_Q_CFG, Reg.QM_Q_BASE_LO, Reg.QM_Q_BASE_HI,
    Reg.QM_Q_MIRROR_LO, Reg.QM_Q_MIRROR_HI, Reg.QM_STATUS, Reg.QM_POOL_FREE, Reg.QM_Q_FILL, Reg.QM_Q_CREDIT, Reg.QM_Q_SEQ,
    Reg.PM_PLUG_CNT, Reg.MEM_FREE, Reg.MEM_SPARE_STATUS]

section
variable (hw : Blind firmwareRows p) (hq : ∀ (s : State) x, p { s with queues := x } = p s)
include hw

theorem firmwareSetup_keeps (s : State) : p s.firmwareSetup = p s := by
  have hmac (m : Nat) (t : State) (c : Bool) :
      p (t.when c (fun t => t.wr64 Reg.LN_MAC_ADDR_LO Reg.LN_MAC_ADDR_HI (Config.macAddr m) m)) = p t :=
    State.when_keeps p _ _ _ (hw.wr64 (by simp [firmwareRows]) (by simp [firmwareRows]) _ _ _ _)
  unfold State.firmwareSetup
  refine (hw.setF (by simp [firmwareRows]) _ _ _ _ _ _ _).trans ((hw.wr64 (by simp [firmwareRows]) (by simp [firmwareRows])
    _ _ _ _).trans ((State.forAll_keeps p _ (fun m t => hmac m t _) _ _).trans ?_))
  refine (hw _ _ _ _ _ _ (by simp [firmwareRows])).trans ((hw _ _ _ _ _ _ (by simp [firmwareRows])).trans ?_)
  exact (hw _ _ _ _ _ _ (by simp [firmwareRows])).trans (hw _ _ _ _ _ _ (by simp [firmwareRows]))

include hq

theorem makeQueue_keeps (s : State) (q : Nat) (w : Word) : p (s.makeQueue q w) = p s := by
  unfold State.makeQueue
  extract_lets s1 s2 s3 s4
  have h2 : p s2 = p s := (hw.wr64 (by simp [firmwareRows]) (by simp [firmwareRows]) _ _ _ _).trans
    ((hw.wr64 (by simp [firmwareRows]) (by simp [firmwareRows]) _ _ _ _).trans (hw _ _ _ _ _ _ (by simp [firmwareRows])))
  have h4 : p s4 = p s2 := (hw _ _ _ _ _ _ (by simp [firmwareRows])).trans (hw _ _ _ _ _ _ (by simp [firmwareRows]))
  refine (hw _ _ _ _ _ _ (by simp [firmwareRows])).trans ((hw _ _ _ _ _ _ (by simp [firmwareRows])).trans ?_)
  exact (hw _ _ _ _ _ _ (by simp [firmwareRows])).trans ((hq _ _).trans (h4.trans h2))

theorem makeFixedQueues_keeps (s : State) : p s.makeFixedQueues = p s :=
  State.forAll_keeps p _ (fun _ t => ite_keeps rfl (makeQueue_keeps hw hq t _ _)) s _

end

theorem bumpPlug_mem (s : State) (k : Nat) : (s.bumpPlug k).mem = s.mem := rfl

theorem bootMarker_mem (s : State) : s.bootMarker.mem = s.mem :=
  State.when_keeps State.mem _ _ _ ((State.when_keeps State.mem _ _ _ rfl).trans (bumpPlug_mem s 0))

theorem firmware_mem (s : State) : s.firmwareSetup.makeFixedQueues.bootMarker.syncFree.syncSpare.mem = s.mem := by
  refine (bootMarker_mem _).trans ((makeFixedQueues_keeps (p := State.mem) (fun _ _ _ _ _ _ _ => rfl) (fun _ _ => rfl) _).trans ?_)
  exact firmwareSetup_keeps (p := State.mem) (fun _ _ _ _ _ _ _ => rfl) s

theorem getLsbD_or_two_pow (w : BitVec 4) {n : Nat} (h : n < 4) : (w ||| BitVec.ofNat 4 (2 ^ n)).getLsbD n = true := by
  rw [BitVec.getLsbD_or, BitVec.getLsbD_ofNat, Nat.testBit_two_pow_self, decide_eq_true h]
  simp

/-- Settles O25: the latch by `fld_putByte`, the verdicts by `exportRead_reads` and `exportRead_again`, the boot by
`startBoot_keeps` and `firmware_mem`. -/
theorem apertureExportAndInterface : Obligations.ApertureExportAndInterface := by
  unfold Obligations.ApertureExportAndInterface
  refine ⟨?aperture, ?verdicts, ?reset, ?enable, ?disable, ?ready⟩
  case aperture =>
    intro s offset v hready
    have hno : ¬ (!s.fnReady 2) = true := by simp [hready]
    refine ⟨fun hk => ?_, fun hk => ?_, fun hk => ?_⟩
    · refine ⟨_, (next_if_neg hno).trans ((next_if_pos rfl).trans (next_if_neg hk)), ?_, rfl, memKept_of rfl⟩
      exact fld_putByte _ (Nat.mod_lt _ (by decide)) v
    · refine (next_if_neg hno).trans ((next_if_pos rfl).trans ((next_if_pos hk).trans ?_))
      rw [hk]
      rfl
    · refine ⟨_, (next_if_neg hno).trans ((next_if_neg Bool.false_ne_true).trans (next_if_pos hk)), ?_, ?_⟩
      · rw [hk]
        rfl
      · exact memKept_of (readAt_mem s _)
  case verdicts =>
    intro s hready
    refine ⟨⟨_, next_if_pos hready, ?_, rfl, ?_, memKept_of rfl⟩, fun n hfresh hrest herrs => ?_, fun hagain hrest => ?_⟩
    · simp (disch := decide)
    · simp
    · have hlast := exportRead_reads (p := fun t => t.host.lastRead) ⟨fun _ _ _ _ _ _ _ => rfl, fun _ _ => rfl,
        fun _ _ => rfl, fun _ _ => rfl, fun _ _ => rfl⟩ (fun _ _ => rfl) herrs hfresh hrest n
      have hbit := exportRead_reads (p := fun t => t.bit Reg.F3_CTRL 0) ⟨blind_bit (by decide) 0 0 0 0, fun _ _ => rfl,
        fun _ _ => rfl, fun _ _ => rfl, fun _ _ => rfl⟩ (fun _ _ => rfl) herrs hfresh hrest n
      have hmem := exportRead_reads (p := State.mem) ⟨fun _ _ _ _ _ _ _ => rfl, fun _ _ => rfl,
        fun _ _ => rfl, fun _ _ => rfl, fun _ _ => rfl⟩ (fun _ _ => rfl) herrs hfresh hrest n
      refine ⟨_, next_if_pos hready, hlast, hbit.trans ?_, memKept_of hmem⟩
      simp (disch := decide)
    · refine ⟨_, (next_if_pos hready).trans (congrArg Host.Outcome.next (exportRead_again hagain hrest)), rfl, ?_, rfl, ?_,
        memKept_of rfl⟩
      · simp (disch := decide)
      · simp
  case reset =>
    intro s res hlive hpower
    exact ⟨_, next_if_pos ⟨hlive, hpower⟩, rfl, rfl, rfl, rfl, rfl, rfl, memKept_of rfl⟩
  case enable =>
    intro s fn halive hquiet hpresent hpower
    have hpass : s.core.alive = true ∧ (!s.core.quiesced) = true ∧ (!s.core.removed) = true ∧ s.power ≠ 3 := by
      simp [halive, hquiet, hpresent, hpower]
    by_cases hfn : fn.val = 1
    · by_cases hheld : s.core.held = true ∧ (!s.core.mrst) = true ∧ s.core.cp = .off
      · refine ⟨_, (next_if_pos hpass).trans ((next_if_pos hfn).trans (next_if_pos hheld)), ?_, fun h => absurd hfn h,
          fun _ _ _ _ => ⟨?_, ?_⟩, ?_⟩
        · refine (startBoot_keeps (p := fun t => t.host.ioEnable.getLsbD fn) (fun _ _ _ _ _ _ _ => rfl) _).trans ?_
          exact getLsbD_or_two_pow _ fn.isLt
        · exact startBoot_keeps (p := fun t => t.core.cp) (fun _ _ _ _ _ _ _ => rfl) _
        · exact startBoot_keeps (p := fun t => t.core.held) (fun _ _ _ _ _ _ _ => rfl) _
        · exact memKept_of (startBoot_keeps (p := State.mem) (fun _ _ _ _ _ _ _ => rfl) _)
      · refine ⟨_, (next_if_pos hpass).trans ((next_if_pos hfn).trans (next_if_neg hheld)), getLsbD_or_two_pow _ fn.isLt,
          fun h => absurd hfn h, fun _ h1 h2 h3 => absurd ⟨h1, by simp [h2], h3⟩ hheld, memKept_of rfl⟩
    · exact ⟨_, (next_if_pos hpass).trans (next_if_neg hfn), getLsbD_or_two_pow _ fn.isLt, fun _ => ⟨rfl, rfl⟩,
        fun h => absurd h hfn, memKept_of rfl⟩
  case disable =>
    intro s halive hquiet hpower
    exact ⟨_, next_if_pos ⟨halive, by simp [hquiet], hpower⟩, rfl, rfl, memKept_of rfl⟩
  case ready =>
    intro s hlive hpower hboot hrom
    refine ⟨_, next_if_pos ⟨hlive, hpower, hboot, hrom⟩, rfl, rfl, ?_, rfl, memKept_of (firmware_mem s)⟩
    simp (disch := decide)

end Sys2Proof.Machine
end

section
/-!
Snapshots (spec/21_fault_handling_and_snapshots.md, R577 to R580): triggers, latching and arming.
-/
namespace Sys2Proof.Machine

open Sys2Proof

variable {β : Type} {p : State → β}

theorem forAll_keeps_mem {α : Type} (p : State → β) {f : α → State → State} {l : List α}
    (h : ∀ a ∈ l, ∀ s, p (f a s) = p s) (s : State) : p (s.forAll l f) = p s := by
  induction l generalizing s with
  | nil => rfl
  | cons a t ih => exact (ih (fun b hb => h b (List.mem_cons_of_mem a hb)) (f a s)).trans (h a (by simp) s)

theorem forAll_append {α : Type} (s : State) (l l' : List α) (f : α → State → State) :
    s.forAll (l ++ l') f = (s.forAll l f).forAll l' f := List.foldl_append

theorem forAll_singleton {α : Type} (s : State) (a : α) (f : α → State → State) : s.forAll [a] f = f a s := rfl

/-! ### The words of a snapshot (R579, R580) -/

/-- A block latches its words in a row of SNAP_BLK of its own. -/
theorem latchBlock_other (src : State) {b : Block} {n : Nat} (hb : b.num ≠ n) (hn : n < 18) (j : Nat) (s : State) :
    (latchBlock src b s).rd Reg.SNAP_BLK n j = s.rd Reg.SNAP_BLK n j := by
  have hnum : b.num < 18 := by cases b <;> decide
  refine forAll_keeps_mem (fun t => t.rd Reg.SNAP_BLK n j) (fun e _ t => ?_) s
  refine State.rd_wr_other _ _ _ _ _ _ _ _ _ _ ?_
  simp only [RegRow.at, Reg.SNAP_BLK]
  omega

/-- The first of the words latched in a row stays, where the later ones have places of their own. -/
theorem latchWords_first {α : Type} (w : α × Nat → Word) (n : Nat) (a : α) (l : List (α × Nat))
    (hl : ∀ e ∈ l, Reg.SNAP_BLK.at n 0 0 ≠ Reg.SNAP_BLK.at n e.2 0) (s : State) :
    (s.forAll ((a, 0) :: l) (fun e t => t.wr Reg.SNAP_BLK (w e) n e.2)).rd Reg.SNAP_BLK n 0 = w (a, 0) :=
  (forAll_keeps_mem (fun t => t.rd Reg.SNAP_BLK n 0) (fun e he t =>
    State.rd_wr_other t Reg.SNAP_BLK Reg.SNAP_BLK (w e) n e.2 0 n 0 0 (hl e he)) (s.wr Reg.SNAP_BLK (w (a, 0)) n 0)).trans
    (State.rd_wr_same s Reg.SNAP_BLK (w (a, 0)) n 0 0)

/-- The first snapshot word of the encoders is the low word of the position of channel 0. -/
theorem latchBlock_enc (src s : State) (hon : src.on .ENC = true) :
    (latchBlock src .ENC s).rd Reg.SNAP_BLK 3 0 = loWord (src.enc 0).pos := by
  have hwords : (snapWords .ENC).zipIdx = ((Reg.ENC_POS_LO, 0, 0), 0) :: (snapWords .ENC).zipIdx.tail := by decide
  have hlater : ∀ e ∈ (snapWords .ENC).zipIdx.tail, Reg.SNAP_BLK.at 3 0 0 ≠ Reg.SNAP_BLK.at 3 e.2 0 := by decide
  have hfirst := latchWords_first (fun e => if src.on .ENC then src.view e.1.1 e.1.2.1 e.1.2.2 else 0) 3
    (Reg.ENC_POS_LO, 0, 0) _ hlater s
  rw [← hwords] at hfirst
  refine hfirst.trans ?_
  rw [if_pos hon, State.view, if_pos rfl]

theorem latchBlocks_enc (src s : State) (hon : src.on .ENC = true) :
    (s.forAll allBlocks (fun b t => latchBlock src b t)).rd Reg.SNAP_BLK 3 0 = loWord (src.enc 0).pos := by
  have hother : ∀ b ∈ allBlocks.drop 4, ∀ t, (latchBlock src b t).rd Reg.SNAP_BLK 3 0 = t.rd Reg.SNAP_BLK 3 0 := by
    intro b hb t
    have hnum : ∀ b ∈ allBlocks.drop 4, b.num ≠ 3 := by decide
    exact latchBlock_other src (hnum b hb) (by decide) 0 t
  have hsplit : allBlocks = allBlocks.take 3 ++ [.ENC] ++ allBlocks.drop 4 := by decide
  rw [hsplit, forAll_append, forAll_append]
  generalize s.forAll (allBlocks.take 3) (fun b t => latchBlock src b t) = u
  rw [forAll_keeps_mem (fun t => t.rd Reg.SNAP_BLK 3 0) hother, forAll_singleton]
  exact latchBlock_enc src u hon

/-! ### An accepted trigger (R578) -/

section
variable (s : State) (bits : Nat) (overwrite : Bool)

theorem snapLatch_latches : (s.snapLatch bits overwrite).f Reg.SNAP_STATUS 0 2 = 1 ∧
    (s.snapLatch bits overwrite).rd Reg.SNAP_NUMBER = s.rd Reg.SNAP_NUMBER + 1 ∧
    (s.snapLatch bits overwrite).rd Reg.SNAP_SOURCES = BitVec.ofNat 32 bits ∧
    (s.snapLatch bits overwrite).rd64 Reg.SNAP_TIME_LO Reg.SNAP_TIME_HI = s.now := by
  unfold State.snapLatch
  refine ⟨?_, ?_, ?_, ?_⟩
  · simp (disch := decide)
  · simp (disch := decide) [State.wr64]
  · simp (disch := decide) [State.wr64]
  · simp (disch := decide) [State.rd64, State.wr64, joinWords_hiWord_loWord]

theorem snapLatch_enc (hon : s.on .ENC = true) :
    (s.snapLatch bits overwrite).rd Reg.SNAP_BLK 3 0 = loWord (s.enc 0).pos := by
  refine Eq.trans ?_ (latchBlocks_enc s s hon)
  unfold State.snapLatch
  simp (disch := decide) [State.wr64]

theorem snapLatch_encs : (s.snapLatch bits overwrite).encs = s.encs :=
  snapLatch_keeps (p := State.encs) (fun _ _ _ _ _ _ _ => rfl) (fun _ _ => rfl) s bits overwrite

theorem snapLatch_mem : (s.snapLatch bits overwrite).mem = s.mem :=
  snapLatch_keeps (p := State.mem) (fun _ _ _ _ _ _ _ => rfl) (fun _ _ => rfl) s bits overwrite

end

/-- An armed unit takes a trigger whose source is enabled. -/
theorem snapFire_armed {s : State} {src : Nat} (hon : s.on .SNAP = true) (hsrc : src = 0 ∨ s.bit Reg.SNAP_CFG (src - 1) = true)
    (harmed : s.f Reg.SNAP_STATUS 0 2 = 0) : s.snapFire src = s.snapLatch (2 ^ src) false := by
  have henabled : ¬ (src ≠ 0 ∧ (!s.bit Reg.SNAP_CFG (src - 1)) = true) := by
    rintro ⟨h0, hoff⟩
    rcases hsrc with h | h
    · exact h0 h
    · simp [h] at hoff
  simp only [State.snapFire, harmed]
  rw [if_neg (by simp [hon]), if_neg henabled, if_neg (by decide), if_neg (by simp)]

/-- A trigger while the unit latches is added to the sources. -/
theorem snapFire_latching {s : State} {src : Nat} (hon : s.on .SNAP = true) (hsrc : s.bit Reg.SNAP_CFG (src - 1) = true)
    (hlatching : s.f Reg.SNAP_STATUS 0 2 = 1) :
    s.snapFire src = s.wr Reg.SNAP_SOURCES (s.rd Reg.SNAP_SOURCES ||| BitVec.ofNat 32 (2 ^ src)) := by
  simp only [State.snapFire, hlatching]
  rw [if_neg (by simp [hon]), if_neg (by simp [hsrc]), if_pos trivial]

/-- Settles O26: the triggers by `snapFire_armed` and `snapLatch_latches`, a later one by `snapFire_latching`. -/
theorem snapshotTriggers : Obligations.SnapshotTriggers := by
  unfold Obligations.SnapshotTriggers
  intro s hon
  refine ⟨?host, ?input, ?again, ?position, ?done, ?arm, ?out⟩
  case host =>
    intro w htakes harmed
    obtain ⟨hst, hnum, hsrc, htime⟩ := snapLatch_latches s 1 false
    exact ⟨_, (next_takes htakes).trans (congrArg Host.Outcome.next (snapFire_armed hon (.inl rfl) harmed)), hst, hnum, hsrc,
      htime, snapLatch_enc s _ _, snapLatch_encs s _ _, memKept_of (snapLatch_mem s _ _)⟩
  case input =>
    intro held hheld hcfg harmed
    obtain ⟨hst, hnum, hsrc, -⟩ := snapLatch_latches s 16 false
    exact ⟨_, (next_if_pos hheld).trans (congrArg Host.Outcome.next (snapFire_armed hon (.inr hcfg) harmed)), hst, hnum, hsrc,
      memKept_of (snapLatch_mem s _ _)⟩
  case again =>
    intro held hheld hcfg hlatching
    refine ⟨_, (next_if_pos hheld).trans (congrArg Host.Outcome.next (snapFire_latching hon hcfg hlatching)),
      State.rd_wr_same _ _ _ _ _ _, by simp, memKept_of rfl⟩
  case position =>
    intro before henc hcfg hdir hoff hbefore hafter harmed
    obtain ⟨hst, -, hsrc, -⟩ := snapLatch_latches s 2 false
    have hfwd : (decide (posDiff before (s.rd64 Reg.SNAP_MATCH_LO Reg.SNAP_MATCH_HI) < 0) &&
        decide (0 ≤ posDiff (s.enc (s.f Reg.SNAP_MATCH_CFG 0 2)).pos (s.rd64 Reg.SNAP_MATCH_LO Reg.SNAP_MATCH_HI)) &&
        decide (s.f Reg.SNAP_MATCH_CFG 2 2 = 0 ∨ s.f Reg.SNAP_MATCH_CFG 2 2 = 2) && !s.snap.fwdOff) = true := by
      simp [hbefore, hafter, hdir, hoff]
    have hfire : s.snapFire 1 = s.snapLatch 2 false := snapFire_armed hon (.inr hcfg) harmed
    refine ⟨_, next_if_pos ⟨hon, henc, hcfg, .inl hfwd⟩, ?_, ?_, ?_, ?_⟩
    · exact (congrArg (fun t : State => t.f Reg.SNAP_STATUS 0 2) hfire).trans hst
    · exact (congrArg (fun t : State => t.rd Reg.SNAP_SOURCES) hfire).trans hsrc
    · exact (congrArg (fun b => _ || b) hfwd).trans (Bool.or_true _)
    · exact memKept_of ((congrArg State.mem hfire).trans (snapLatch_mem s _ _))
  case done =>
    intro hlatching
    refine ⟨_, next_if_pos ⟨hon, hlatching⟩, ?_, ?_, ?_, ?_, memKept_of rfl⟩
    · cases h : s.bit Reg.SNAP_CFG 4 <;> simp (disch := decide) [h]
    · simp (disch := decide)
    · simp (disch := decide)
    · simp
  case arm =>
    intro w htakes hheld
    refine ⟨_, (next_takes htakes).trans (congrArg Host.Outcome.next (if_pos hheld)), ?_, ?_, ?_, memKept_of rfl⟩
    · simp (disch := decide)
    · simp (disch := decide)
    · simp
  case out => exact ⟨_, rfl, rfl, rfl, memKept_of rfl⟩

end Sys2Proof.Machine
end

section
/-!
DRAM sectors and serial lanes: what reads and writes of sectors (spec/14_data_integrity.md) and the states of lanes
(spec/17_serial_lanes_and_fabric.md, R482 to R491) leave alone.
-/
namespace Sys2Proof.Machine

open Sys2Proof

variable {β : Type} {p : State → β}

/-! ### Sectors -/

/-- The registers that reads and writes of sectors count in, beside those of jobs and fault records. -/
def sectorRows : List RegRow :=
  [Reg.MEM_ECC_CNT, Reg.MEM_ECC_EVENT, Reg.MEM_SPARE_STATUS, Reg.MEM_FREE, Reg.MEM_VAULT_MERGE, Reg.MEM_VAULT_CNT,
    Reg.MEM_EVENT]

/-- A reading that sees nothing of sectors, fault records, jobs and queues. -/
structure SectorBlind (p : State → β) : Prop extends JobBlind p where
  sectors : Blind sectorRows p
  snapRows : Blind snapRows p
  snap : ∀ (s : State) x, p { s with snap := x } = p s
  fault : ∀ (s : State) x, p { s with fault := x } = p s
  flash : ∀ (s : State) x, p { s with flash := x } = p s

section
variable (hb : SectorBlind p)
include hb

theorem corrected_keeps (s : State) (sector symbol src : Nat) : p (s.corrected sector symbol src) = p s := by
  unfold State.corrected
  extract_lets v s1 recent q m s2
  have h1 : p s1 = p s := hb.sectors.bump (by simp [sectorRows]) _ _ _
  have h2 : p s2 = p s := (hb.memory _ _).trans h1
  refine ite_keeps h1 (ite_keeps ?_ ?_)
  · exact (hb.sectors.raise (by simp [sectorRows]) _ _ _ _).trans
      ((qAppend_keeps hb.toJobBlind.appendRows hb.queues hb.memory _ _ _ _).trans h2)
  · exact (hb.sectors.raise (by simp [sectorRows]) _ _ _ _).trans ((hb.sectors.bump (by simp [sectorRows]) _ _ _).trans h2)

theorem rowRepair_keeps (s : State) (row : Nat) : p (s.rowRepair row) = p s := by
  unfold State.rowRepair
  refine ite_keeps rfl ?_
  extract_lets v s1 s2
  have h1 : p s1 = p s := (hb.sectors.raise (by simp [sectorRows]) _ _ _ _).trans
    (hb.sectors.bump (by simp [sectorRows]) _ _ _)
  refine ite_keeps ?_ ((hb.sectors _ _ _ _ _ _ (by simp [sectorRows])).trans ((hb.flash _ _).trans h1))
  refine (hb.sectors _ _ _ _ _ _ (by simp [sectorRows])).trans ((hb.sectors _ _ _ _ _ _ (by simp [sectorRows])).trans ?_)
  refine (hb.sectors.raise (by simp [sectorRows]) _ _ _ _).trans ((hb.sectors.bump (by simp [sectorRows]) _ _ _).trans ?_)
  have hboth (x : FlashSt) (y : MemSt) : p { s1 with flash := x, memory := y } = p s1 :=
    (hb.memory { s1 with flash := x } y).trans (hb.flash s1 x)
  exact (hboth _ _).trans h1

theorem readSector_keeps (s : State) (sector src : Nat) (first second : BitVec 36) :
    p (s.readSector sector src first second).1 = p s := by
  unfold State.readSector
  extract_lets b v n m s1 s2 inj s3
  have h1 : p s1 = p s := hb.sectors.bump (by simp [sectorRows]) _ _ _
  have h2 : p s2 = p s := (hb.sectors.raise (by simp [sectorRows]) _ _ _ _).trans (hb.sectors.bump (by simp [sectorRows]) _ _ _)
  have h3 : p s3 = p s := (faultRetried_keeps hb.toJobBlind hb.snapRows hb.snap hb.fault _ _ _).trans h2
  split
  · rfl
  · split
    · exact corrected_keeps hb _ _ _ _
    · split
      · exact ite_keeps ((corrected_keeps hb _ _ _ _).trans h1) h1
      · exact ite_keeps h3 ((rowRepair_keeps hb _ _).trans h3)

theorem setMerge_keeps (s : State) (v : Nat) (l : List MergeEnt) : p (s.setMerge v l) = p s :=
  (hb.sectors _ _ _ _ _ _ (by simp [sectorRows])).trans (hb.memory _ _)

theorem mirrorRead_keeps (s : State) (block id a b : Nat) : p (s.mirrorRead block id a b) = p s := by
  have hcorr (t : State) (x : Nat) : p (t.readCorrected x) = p t := ite_keeps (corrected_keeps hb _ _ _ _) rfl
  unfold State.mirrorRead
  refine ite_keeps (hcorr s a) (ite_keeps ?_ (readSector_keeps hb _ _ _ _ _))
  extract_lets inj v s1 s2
  have h1 : p s1 = p s := (hb.sectors.bump (by simp [sectorRows]) _ _ _).trans ((sectorStored_keeps hb.memory _ _).trans
    ((hb.sectors.bump (by simp [sectorRows]) _ _ _).trans (hcorr s b)))
  have h2 : p s2 = p s := (faultRetried_keeps hb.toJobBlind hb.snapRows hb.snap hb.fault _ _ _).trans ((hb.fault _ _).trans h1)
  exact ite_keeps h2 ((rowRepair_keeps hb _ _).trans h2)

theorem ringReads_keeps (s : State) (q : Nat) (l : List QItem) : p (s.ringReads q l) = p s :=
  State.forAll_keeps p _ (fun _ _ => State.forAll_keeps p _ (fun _ t => mirrorRead_keeps hb t _ _ _ _) _ _) _ _

variable (hmem : ∀ (s : State) x, p { s with mem := x } = p s)
include hmem

omit hb in
theorem pokes_blind (s : State) (a : Nat) (l : List Byte) : p (s.pokes a l) = p s := pokes_keeps p (fun _ _ _ => hmem _ _) s a l

theorem retireMerge_keeps (s : State) (e : MergeEnt) : p (s.retireMerge e) = p s := by
  have hbytes (t : State) : p (t.mergeBytes e) = p t := State.forAll_keeps p _ (fun _ t => hmem t _) t _
  unfold State.retireMerge
  extract_lets v s1 r s2
  have h1 : p s1 = p s := setMerge_keeps hb s _ _
  have h2 : p s2 = p s := (hb.sectors.bump (by simp [sectorRows]) _ _ _).trans ((readSector_keeps hb _ _ _ _ _).trans h1)
  refine ite_keeps ?_ (ite_keeps ?_ ?_)
  · exact (hb.sectors.bump (by simp [sectorRows]) _ _ _).trans ((sectorStored_keeps hb.memory _ _).trans ((hbytes _).trans h1))
  · exact (sectorStored_keeps hb.memory _ _).trans ((hbytes _).trans h2)
  · refine (State.forAll_keeps p _ (fun h t => faultJob_keeps hb.toJobBlind t h _) _ _).trans ?_
    exact (hb.sectors.raise (by simp [sectorRows]) _ _ _ _).trans ((hb.sectors.bump (by simp [sectorRows]) _ _ _).trans h2)

end

/-! ### Lanes -/

/-- The registers that the states and owners of lanes show in. -/
def laneRows : List RegRow := [Reg.LN_LANE_STATUS, Reg.LN_LANE_CFG, Reg.LN_PRBS_CFG, Reg.FAB_LINK_STATUS]

section
variable (hw : Blind laneRows p) (hl : ∀ (s : State) x, p { s with lanes := x } = p s)
include hw hl

theorem laneTo_keeps (s : State) (l st : Nat) : p (s.laneTo l st) = p s := by
  unfold State.laneTo
  refine ite_keeps (ite_keeps rfl (ite_keeps (hl _ _) (hw _ _ _ _ _ _ (by simp [laneRows])))) (ite_keeps ?_ rfl)
  exact (hl _ _).trans (hw _ _ _ _ _ _ (by simp [laneRows]))

theorem laneFollow_keeps (s : State) (l : Nat) : p (s.laneFollow l) = p s := laneTo_keeps hw hl _ _ _

omit hl in
theorem laneClaim_keeps (s : State) (owner id rate l : Nat) : p (s.laneClaim owner id rate l) = p s := by
  unfold State.laneClaim
  refine (State.when_keeps p _ _ (fun t => t.setF Reg.LN_LANE_CFG 4 2 3 l) (hw.setF (by simp [laneRows]) _ _ _ _ _ _ _)).trans ?_
  exact (hw.setF (by simp [laneRows]) _ _ _ _ _ _ _).trans ((hw.setF (by simp [laneRows]) _ _ _ _ _ _ _).trans
    (hw _ _ _ _ _ _ (by simp [laneRows])))

theorem macClaim_keeps (s : State) (m : Nat) : p (s.macClaim m) = p s :=
  State.forAll_keeps p _ (fun _ _ => (laneFollow_keeps hw hl _ _).trans (laneClaim_keeps hw _ _ _ _ _)) s _

omit hl in
theorem setLinkState_keeps (s : State) (j n : Nat) : p ((s.setLinkState j n).syncLink j) = p s :=
  (hw.setF (by simp [laneRows]) _ _ _ _ _ _ _).trans (hw.setF (by simp [laneRows]) _ _ _ _ _ _ _)

variable (hf : ∀ (s : State) x, p { s with fab := x } = p s)
include hf

theorem fabClaim_keeps (s : State) (j : Nat) : p (s.fabClaim j) = p s := by
  unfold State.fabClaim
  extract_lets rate s1 s2
  have h1 : p s1 = p s := (hw.setF (by simp [laneRows]) _ _ _ _ _ _ _).trans (hf _ _)
  have h2 : p s2 = p s1 := State.forAll_keeps p _ (fun _ _ => (laneTo_keeps hw hl _ _ _).trans
    ((laneTo_keeps hw hl _ _ _).trans (laneClaim_keeps hw _ _ _ _ _))) s1 _
  exact (setLinkState_keeps hw _ _ _).trans (h2.trans h1)

theorem claimLanes_keeps (s : State) : p s.claimLanes = p s := by
  unfold State.claimLanes
  extract_lets s1 s2 s3
  have h1 : p s1 = p s := State.forAll_keeps p _ (fun _ t => hw _ _ _ _ _ _ (by simp [laneRows])) s _
  have h2 : p s2 = p s1 := State.forAll_keeps p _ (fun m t => State.when_keeps p t _ (fun t => t.macClaim m)
    (macClaim_keeps hw hl t m)) s1 _
  have h3 : p s3 = p s2 := State.forAll_keeps p _ (fun j t => State.when_keeps p t _ (fun t => t.fabClaim j)
    (fabClaim_keeps hw hl hf t j)) s2 _
  refine (State.forAll_keeps p _ (fun l t => State.when_keeps p t _ (fun t => t.laneFollow l)
    (laneFollow_keeps hw hl t l)) s3 _).trans (h3.trans (h2.trans h1))

end

end Sys2Proof.Machine
end

section
/-!
Operating points and temperature (spec/20_power_states_and_retention.md, R545 to R549).
-/
namespace Sys2Proof.Machine

open Sys2Proof

variable {β : Type} {p : State → β}

theorem fld_lt {w : Nat} (x : BitVec w) (lo len : Nat) : fld x lo len < 2 ^ len := Nat.mod_lt _ (Nat.two_pow_pos len)

theorem f_lt (s : State) (r : RegRow) (lo len i j k : Nat) : s.f r lo len i j k < 2 ^ len := fld_lt _ lo len

/-! ### The operating point in force (R548) -/

theorem syncLoads_keeps (hw : Blind [Reg.ISP_PIPE_STATUS, Reg.DEC_STATUS] p) (s : State) : p s.syncLoads = p s := by
  unfold State.syncLoads
  extract_lets op s1 total
  have h1 : p s1 = p s := ite_keeps (State.forAll_keeps p _ (fun _ _ => hw.setF (by simp) _ _ _ _ _ _ _) s _) rfl
  exact ite_keeps ((hw.setF (by simp) _ _ _ _ _ _ _).trans ((hw.setF (by simp) _ _ _ _ _ _ _).trans h1)) h1

theorem syncOp_keeps (hw : Blind [Reg.ISP_PIPE_STATUS, Reg.DEC_STATUS, Reg.PM_OP_STATUS] p) (s : State) :
    p s.syncOp = p s := by
  unfold State.syncOp
  refine (syncLoads_keeps (hw.mono (by simp)) _).trans ((hw.setF (by simp) _ _ _ _ _ _ _).trans ?_)
  exact (hw.setBit (by simp) _ _ _ _ _ _).trans (hw.setF (by simp) _ _ _ _ _ _ _)

theorem opMillivolts_lt (op : Nat) : opMillivolts op < 2 ^ 16 := by
  unfold opMillivolts
  repeat' split
  all_goals decide

theorem syncLoads_f (s : State) (lo len : Nat) : s.syncLoads.f Reg.PM_OP_STATUS lo len = s.f Reg.PM_OP_STATUS lo len :=
  syncLoads_keeps (p := fun t => t.f Reg.PM_OP_STATUS lo len) (blind_f (by decide) lo len 0 0 0) s

/-- What PM_OP_STATUS shows once the effective point follows. -/
theorem syncOp_shows (s : State) : s.syncOp.opEffective = max s.opRequested s.opCap ∧
    s.syncOp.f Reg.PM_OP_STATUS 16 16 = opMillivolts (max s.opRequested s.opCap) ∧ s.syncOp.opCap = s.opCap := by
  have hreq : s.opRequested < 4 := f_lt s _ 0 2 0 0 0
  have hcap : s.opCap < 4 := f_lt s _ 2 2 0 0 0
  unfold State.syncOp
  refine ⟨?_, ?_, ?_⟩
  · rw [State.opEffective, syncLoads_f]
    simp (disch := decide) only [f_setF_other, f_setBit_other, State.f_setF_same]
    omega
  · rw [syncLoads_f, State.f_setF_same _ _ _ _ _ _ _ _ (by decide)]
    exact Nat.mod_eq_of_lt (opMillivolts_lt _)
  · rw [State.opCap, syncLoads_f]
    simp (disch := decide) only [f_setF_other, f_setBit_other]
    rfl

/-! ### A temperature (R548, R549) -/

/-- The temperature changes PM_TJ, PM_EVENT and the hold of a thermal trip. -/
theorem measure_keeps (hw : Blind [Reg.PM_TJ, Reg.PM_EVENT] p)
    (hpm : ∀ (s : State) b, p { s with pm := { s.pm with tripHold := b } } = p s) (s : State) (degC : Int) :
    p (s.measure degC) = p s := by
  unfold State.measure
  extract_lets old peak byte s1 s2
  have h1 : p s1 = p s := hw _ _ _ _ _ _ (by simp)
  have h2 : p s2 = p s1 := State.when_keeps p s1 _ (fun t => t.raise Reg.PM_EVENT 3) (hw.raise (by simp) _ _ _ _)
  exact ite_keeps ((hpm s2 _).trans (h2.trans h1)) (h2.trans h1)

theorem measure_core (s : State) (degC : Int) : (s.measure degC).core = s.core :=
  measure_keeps (p := State.core) (fun _ _ _ _ _ _ _ => rfl) (fun _ _ => rfl) s degC

theorem measure_mem (s : State) (degC : Int) : (s.measure degC).mem = s.mem :=
  measure_keeps (p := State.mem) (fun _ _ _ _ _ _ _ => rfl) (fun _ _ => rfl) s degC

theorem measure_rd {r : RegRow} (h : [Reg.PM_TJ, Reg.PM_EVENT].all (fun x => r.apart x) = true) (s : State) (degC : Int) :
    (s.measure degC).rd r = s.rd r :=
  measure_keeps (p := fun t => t.rd r) (blind_rd h 0 0 0) (fun _ _ => rfl) s degC

theorem measure_live (s : State) (degC : Int) : (s.measure degC).live = s.live := by
  rw [State.live, State.live, measure_core]

theorem measure_power (s : State) (degC : Int) : (s.measure degC).power = s.power :=
  congrArg (fld · 0 2) (measure_rd (by decide) s degC)

theorem measure_throttleC (s : State) (degC : Int) : (s.measure degC).throttleC = s.throttleC :=
  congrArg (fun w : Word => clampI 100 115 (fld w 0 8)) (measure_rd (r := Reg.PM_THERMAL_CFG) (by decide) s degC)

theorem measure_op (s : State) (degC : Int) :
    (s.measure degC).opCap = s.opCap ∧ (s.measure degC).opRequested = s.opRequested :=
  ⟨congrArg (fld · 2 2) (measure_rd (r := Reg.PM_OP_STATUS) (by decide) s degC),
    congrArg (fld · 0 2) (measure_rd (r := Reg.PM_OP_STATUS) (by decide) s degC)⟩

theorem measure_raw (s : State) (degC : Int) : (s.measure degC).raw = s.raw :=
  measure_keeps (p := State.raw) (fun _ _ _ _ _ _ _ => rfl) (fun _ _ => rfl) s degC

theorem measure_coolSince (s : State) (degC : Int) : (s.measure degC).pm.coolSince = s.pm.coolSince :=
  measure_keeps (p := fun t => t.pm.coolSince) (fun _ _ _ _ _ _ _ => rfl) (fun _ _ => rfl) s degC

theorem measure_stepDue (s : State) (degC : Int) (n : Nat) : (s.measure degC).stepDue n = s.stepDue n := by
  have hlast : (s.measure degC).pm.lastStep = s.pm.lastStep :=
    measure_keeps (p := fun t => t.pm.lastStep) (fun _ _ _ _ _ _ _ => rfl) (fun _ _ => rfl) s degC
  rw [State.stepDue, State.stepDue, hlast]
  cases s.pm.lastStep with
  | none => rfl
  | some t => exact congrArg (fun r : DWord => decide (n ≤ (r - t).toNat)) (measure_raw s degC)

theorem measure_regsKept (s : State) (degC : Int) : RegsKept s (s.measure degC) [Reg.PM_TJ.addr, Reg.PM_EVENT.addr] := by
  unfold State.measure
  extract_lets old peak byte s1 s2
  have h2 : RegsKept s s2 [Reg.PM_TJ.addr, Reg.PM_EVENT.addr] := by
    simp only [s2, s1]
    simp
  split
  · exact h2
  · exact h2

/-- The byte of a temperature in its range reads back as the temperature. -/
theorem sfld_degrees (hi : Nat) {degC : Int} (hlow : -128 ≤ degC) (hhigh : degC ≤ 127) :
    sfld (BitVec.ofNat 32 (hi * 256 + (BitVec.ofInt 8 (clampS 8 degC)).toNat)) 0 8 = degC := by
  have hclamp : clampS 8 degC = degC := by
    unfold clampS
    omega
  have hlt := (BitVec.ofInt 8 degC).isLt
  have hfld : fld (BitVec.ofNat 32 (hi * 256 + (BitVec.ofInt 8 degC).toNat)) 0 8 = (BitVec.ofInt 8 degC).toNat := by
    simp only [fld, BitVec.toNat_ofNat]
    omega
  rw [sfld, hclamp, hfld, BitVec.ofNat_toNat, BitVec.setWidth_eq, BitVec.toInt_ofInt]
  exact Int.bmod_eq_of_le (by omega) (by omega)

theorem measure_shows (s : State) {degC : Int} (hlow : -128 ≤ degC) (hhigh : degC ≤ 127) :
    sfld ((s.measure degC).rd Reg.PM_TJ) 0 8 = degC := by
  refine Eq.trans (congrArg (sfld · 0 8) ?_) (sfld_degrees
    (BitVec.ofInt 8 (clampS 8 (max degC (sfld (s.rd Reg.PM_TJ) 8 8)))).toNat hlow hhigh)
  unfold State.measure
  extract_lets old peak byte s1 s2
  have h2 : s2.rd Reg.PM_TJ = s1.rd Reg.PM_TJ := by simp (disch := decide) [s2]
  have h1 : s1.rd Reg.PM_TJ = BitVec.ofNat 32 (byte peak * 256 + byte degC) := State.rd_wr_same _ _ _ _ _ _
  split <;> exact h2.trans h1

theorem measure_hot (s : State) {degC : Int} (hold : sfld (s.rd Reg.PM_TJ) 0 8 < 105) (hnew : 105 ≤ degC) :
    (s.measure degC).bit Reg.PM_EVENT 3 = true := by
  unfold State.measure
  extract_lets old peak byte s1 s2
  have h2 : s2.bit Reg.PM_EVENT 3 = true := by
    have hcross : (decide (old < 105) && decide (105 ≤ degC)) = true := by simp [old, hold, hnew]
    simp (disch := decide) [s2, hcross]
  split <;> exact h2

/-! ### A step of the throttle (R548) -/

/-- The cap set and the effective point following. -/
theorem capStep_shows (s : State) {cap : Nat} (h : cap < 4) :
    ((s.setF Reg.PM_OP_STATUS 2 2 cap).syncOp).opCap = cap ∧
      ((s.setF Reg.PM_OP_STATUS 2 2 cap).syncOp).opEffective = max s.opRequested cap := by
  obtain ⟨heff, -, hcap⟩ := syncOp_shows (s.setF Reg.PM_OP_STATUS 2 2 cap)
  have hset : (s.setF Reg.PM_OP_STATUS 2 2 cap).opCap = cap :=
    (State.f_setF_same _ _ _ _ _ _ _ _ (by decide)).trans (Nat.mod_eq_of_lt h)
  have hreq : (s.setF Reg.PM_OP_STATUS 2 2 cap).opRequested = s.opRequested := f_setF_other (by decide) _ _ _ _ _ _
  rw [hset, hreq] at heff
  exact ⟨hcap.trans hset, heff⟩

theorem capStep_mem (s : State) (cap : Nat) : ((s.setF Reg.PM_OP_STATUS 2 2 cap).syncOp).mem = s.mem :=
  syncOp_keeps (p := State.mem) (fun _ _ _ _ _ _ _ => rfl) _

/-! ### Into S3 (R550, R564) -/

/-- The power state is the low part of the field that its sequencer writes. -/
theorem power_setF (s : State) (v : Nat) : (s.setF Reg.PM_STATE 0 3 v).power = v % 4 := by
  have hfield := State.f_setF_same s Reg.PM_STATE 0 3 v 0 0 0 (by decide)
  simp only [State.power, State.f, fld, Nat.shiftRight_zero] at hfield ⊢
  omega

theorem intoS3_facts (s : State) : s.intoS3.power = 3 ∧ s.intoS3.core.cp = .off ∧ s.intoS3.fio.forcedOff = true ∧
    s.intoS3.mem = [] := by
  unfold State.intoS3
  refine ⟨?_, rfl, rfl, rfl⟩
  rw [State.power, bump_eq, f_bumpBy_apart (by decide)]
  exact power_setF _ 3

/-! ### The end of a change (R547) -/

/-- The registers at the end of a change of the operating point. -/
def State.opChanged (s : State) : State := ((s.setBit Reg.PM_OP_STATUS 9 false).raise Reg.PM_EVENT 0).bump Reg.PM_CNT 1

theorem opChanged_f (s : State) {lo len : Nat} (h : 9 < lo ∨ lo + len ≤ 9) :
    s.opChanged.f Reg.PM_OP_STATUS lo len = s.f Reg.PM_OP_STATUS lo len := by
  unfold State.opChanged
  rw [bump_eq, f_bumpBy_apart (by decide), raise_eq, f_setBit_apart (by decide), f_setBit_other h]

theorem opChanged_bits (s : State) :
    s.opChanged.bit Reg.PM_OP_STATUS 9 = false ∧ s.opChanged.bit Reg.PM_EVENT 0 = true := by
  unfold State.opChanged
  constructor <;> simp (disch := decide)

theorem answer_f {r : RegRow} (hr : replyRows.all (fun x => r.apart x) = true) (s : State) (m status lo len : Nat) :
    (s.answer m status).f r lo len = s.f r lo len := congrArg (fld · lo len) (answer_rd hr s m status [] 0 0 0 0 0)

theorem answer_bit {r : RegRow} (hr : replyRows.all (fun x => r.apart x) = true) (s : State) (m status n : Nat) :
    (s.answer m status).bit r n = s.bit r n := congrArg (BitVec.getLsbD · n) (answer_rd hr s m status [] 0 0 0 0 0)

theorem answer_pm (s : State) (m status : Nat) : (s.answer m status).pm = s.pm :=
  answer_keeps (p := State.pm) (fun _ _ _ _ _ _ _ => rfl) (fun _ _ => rfl) (fun _ _ => rfl) _ _ _ _ _ _

theorem syncOp_core (s : State) : s.syncOp.core = s.core := syncOp_keeps (p := State.core) (fun _ _ _ _ _ _ _ => rfl) s
theorem syncOp_pm (s : State) : s.syncOp.pm = s.pm := syncOp_keeps (p := State.pm) (fun _ _ _ _ _ _ _ => rfl) s
theorem syncOp_mem (s : State) : s.syncOp.mem = s.mem := syncOp_keeps (p := State.mem) (fun _ _ _ _ _ _ _ => rfl) s

theorem exec_opChangeDone {s : State} {op m : Nat} (htarget : s.pm.opTarget = some (op, m)) (hlive : s.live = true)
    (hpower : s.power ≠ 3) :
    exec .opChangeDone s = .next ((State.opChanged (State.syncOp { s with pm := { s.pm with opTarget := none } })).answer m S_OK) := by
  change Host.Outcome.next _ = _
  rw [htarget]
  exact next_if_pos ⟨hlive, hpower⟩

theorem opChange_ends {s : State} {m : Nat} (hm : m < 16) (hcp : s.core.cp = .running) :
    let t := (s.syncOp.opChanged).answer m S_OK
    t.pm = s.pm ∧ t.opEffective = max s.opRequested s.opCap ∧
      t.f Reg.PM_OP_STATUS 16 16 = opMillivolts (max s.opRequested s.opCap) ∧ t.bit Reg.PM_OP_STATUS 9 = false ∧
      t.bit Reg.PM_EVENT 0 = true ∧ t.replied m S_OK ∧ t.mem = s.mem := by
  obtain ⟨heff, hmv, -⟩ := syncOp_shows s
  obtain ⟨hbusy, hevent⟩ := opChanged_bits s.syncOp
  have hcore : (s.syncOp.opChanged).core.cp = .running := (congrArg CoreSt.cp (syncOp_core s)).trans hcp
  exact ⟨(answer_pm _ _ _).trans (syncOp_pm s),
    (answer_f (by decide) _ _ _ _ _).trans ((opChanged_f _ (by decide)).trans heff),
    (answer_f (by decide) _ _ _ _ _).trans ((opChanged_f _ (by decide)).trans hmv),
    (answer_bit (by decide) _ _ _ _).trans hbusy, (answer_bit (by decide) _ _ _ _).trans hevent,
    answer_replied (.inl hcore) hm (by decide) _ _ _, (answer_mem _ _ _ _ _ _).trans (syncOp_mem s)⟩

/-- A step down: what is left after the cap has stepped. -/
theorem throttleDown_steps {s : State} {degC : Int} (halive : s.core.alive = true) (hlive : s.live = true)
    (hpower : s.power ≠ 3) (hdeg : s.throttleC ≤ degC) (hdue : s.stepDue 10000000 = true) (hroom : s.opCap < 3) :
    ∃ u, exec (.throttleStepDown degC) s = .next { ((u.raise Reg.PM_EVENT 1).bump Reg.PM_CNT 0) with
        pm := { u.pm with lastStep := some u.raw, coolSince := none } } ∧
      u = ((s.measure degC).setF Reg.PM_OP_STATUS 2 2 (s.opCap + 1)).syncOp := by
  obtain ⟨hmcap, -⟩ := measure_op s degC
  have hpass : (s.measure degC).live = true ∧ (s.measure degC).power ≠ 3 ∧ (s.measure degC).throttleC ≤ degC ∧
      (s.measure degC).stepDue 10000000 = true ∧ (s.measure degC).opCap < 3 :=
    ⟨by rwa [measure_live], by rwa [measure_power], by rwa [measure_throttleC], by rwa [measure_stepDue], by rwa [hmcap]⟩
  refine ⟨_, (next_if_pos halive).trans (next_if_pos hpass), ?_⟩
  rw [hmcap]

/-- The end of a step up, the cap stepped already; `was` says that the point was throttled before it. -/
def State.raisedCap (u : State) (was : Bool) : State :=
  let v := u.when (was && !u.bit Reg.PM_OP_STATUS 8) (fun v => v.raise Reg.PM_EVENT 2)
  { v with pm := { v.pm with lastStep := some v.raw } }

theorem throttleUp_steps {s : State} {degC : Int} {t : DWord} (halive : s.core.alive = true) (hlive : s.live = true)
    (hpower : s.power ≠ 3) (hdeg : degC < s.throttleC - 5) (hcool : s.pm.coolSince = some t)
    (hlong : 100000000 ≤ s.since t) (hdue : s.stepDue 100000000 = true) (hroom : 0 < s.opCap) :
    exec (.throttleStepUp degC) s = .next (State.raisedCap (((s.measure degC).setF Reg.PM_OP_STATUS 2 2 (s.opCap - 1)).syncOp)
      ((s.measure degC).bit Reg.PM_OP_STATUS 8)) := by
  obtain ⟨hmcap, -⟩ := measure_op s degC
  have hsince : (s.measure degC).since t = s.since t := congrArg (fun r : DWord => (r - t).toNat) (measure_raw s degC)
  have hpass : (s.measure degC).live = true ∧ (s.measure degC).power ≠ 3 ∧ 100000000 ≤ (s.measure degC).since t ∧
      (s.measure degC).stepDue 100000000 = true ∧ 0 < (s.measure degC).opCap :=
    ⟨by rwa [measure_live], by rwa [measure_power], by rwa [hsince], by rwa [measure_stepDue], by rwa [hmcap]⟩
  refine (next_if_pos halive).trans ?_
  refine (next_if_neg (by rw [measure_throttleC]; omega)).trans ?_
  rw [measure_coolSince, hcool, ← hmcap]
  exact next_if_pos hpass

theorem alive_of_live {s : State} (h : s.live = true) : s.core.alive = true := by
  simp only [State.live, Bool.and_eq_true] at h
  exact h.1.1.1.1

theorem quiet_of_live {s : State} (h : s.live = true) : (!s.core.quiesced) = true := by
  simp only [State.live, Bool.and_eq_true] at h
  exact h.1.2

/-- Settles O27: the operating point by `opChange_ends`, a step by `capStep_shows`, the temperature by `measure_shows`, the
trip by `intoS3_facts`. -/
theorem operatingPointsAndThermal : Obligations.OperatingPointsAndThermal := by
  unfold Obligations.OperatingPointsAndThermal
  refine ⟨?change, ?throttle, ?hot, ?trip⟩
  case change =>
    intro s op m htarget hlive hpower hcp
    obtain ⟨hpm, heff, hmv, hbusy, hevent, hreply, hmem⟩ :=
      opChange_ends (s := { s with pm := { s.pm with opTarget := none } }) m.isLt hcp
    exact ⟨_, exec_opChangeDone htarget hlive hpower, congrArg PmSt.opTarget hpm, heff, hmv, hbusy, hevent, hreply,
      memKept_of hmem⟩
  case throttle =>
    intro s degC hlive hpower
    have halive := alive_of_live hlive
    have hcap : s.opCap < 4 := f_lt s _ 2 2 0 0 0
    obtain ⟨-, hmreq⟩ := measure_op s degC
    refine ⟨fun hdeg hdue hroom => ?_, fun since hdeg hcool hlong hdue hroom => ?_⟩
    · obtain ⟨hnew, heff⟩ := capStep_shows (s.measure degC) (cap := s.opCap + 1) (by omega)
      obtain ⟨u, hnext, hu⟩ := throttleDown_steps halive hlive hpower hdeg hdue hroom
      rw [hmreq, ← hu] at heff
      rw [← hu] at hnew
      refine ⟨_, hnext, ?_, ?_, ?_, ?_, memKept_of ?_⟩
      · simpa (disch := decide) [State.opCap] using hnew
      · simpa (disch := decide) [State.opEffective] using heff
      · simp (disch := decide)
      · rw [hu]
        exact congrArg some ((syncOp_keeps (p := State.raw) (fun _ _ _ _ _ _ _ => rfl) _).trans (measure_raw s degC))
      · rw [hu]
        exact (capStep_mem _ _).trans (measure_mem s degC)
    · obtain ⟨hnew, heff⟩ := capStep_shows (s.measure degC) (cap := s.opCap - 1) (by omega)
      rw [hmreq] at heff
      refine ⟨_, throttleUp_steps halive hlive hpower hdeg hcool hlong hdue hroom, ?_, ?_, memKept_of ?_⟩
      · simpa (disch := decide) [State.opCap, State.raisedCap] using hnew
      · simpa (disch := decide) [State.opEffective, State.raisedCap] using heff
      · refine (State.when_keeps State.mem _ _ _ rfl).trans ?_
        exact (capStep_mem _ _).trans (measure_mem s degC)
  case hot =>
    intro s degC halive hlow hhigh
    exact ⟨_, next_if_pos halive, measure_shows s hlow hhigh, measure_hot s, measure_regsKept s degC,
      memKept_of (measure_mem s degC)⟩
  case trip =>
    intro s core tower hlive hpower hhot
    have hpass : (125 ≤ core ∨ 100 ≤ tower) ∧ (s.measure core).live = true ∧ (s.measure core).power ≠ 3 :=
      ⟨hhot, by rwa [measure_live], by rwa [measure_power]⟩
    obtain ⟨h3, hoff, hforced, hmem⟩ := intoS3_facts ((s.measure core).saveStore 3)
    refine ⟨_, (next_if_pos ⟨alive_of_live hlive, quiet_of_live hlive⟩).trans (next_if_pos hpass), ?_, ?_, hforced, hoff, rfl,
      fun a => congrArg (fun m : AMap Byte => AMap.get m 0 a) hmem⟩
    · simpa (disch := decide) [State.power] using h3
    · simp (disch := decide)

end Sys2Proof.Machine
end

section
/-!
Power states and wake (spec/20_power_states_and_retention.md, R551 to R566).
-/
namespace Sys2Proof.Machine

open Sys2Proof

variable {β : Type} {p : State → β}

/-! ### The retention store (R562, R563) -/

theorem storeCheck_store (m : AMap Word) {a : Nat} (ha : a < 8) (v : Word) :
    storeCheck (AMap.store m 0 a v) = storeCheck m := by
  have hget (i : Nat) : AMap.get (AMap.store m 0 a v) 0 (8 + i) = AMap.get m 0 (8 + i) :=
    AMap.get_store_other _ _ _ (by omega)
  simp only [storeCheck, hget]

/-- A store that was written passes its checks, whatever else has changed since. -/
theorem storeGood_of_saved {s t : State} {target : Nat} (h : t.pm.store = (s.saveStore target).pm.store) :
    t.storeGood true = true := by
  simp only [State.storeGood, State.storeWord, h, State.saveStore]
  generalize storeWords.zipIdx.foldl (fun m e => AMap.store m 0 (8 + e.2) (s.rd e.1.1 e.1.2.1 e.1.2.2)) [] = m
  rw [AMap.get_store_same]
  repeat rw [storeCheck_store _ (by decide)]
  simp [AMap.get_store]

/-! ### Entries (R555) -/

theorem pendingWake_idle {s : State} (h : s.pm.wakePending = false) : s.pendingWake = s := by
  simp [State.pendingWake, h]

/-- The entry is over, and the sequencer no longer in transition. -/
def State.entryOver (s : State) : State := State.setBit { s with pm := { s.pm with entry := none } } Reg.PM_STATE 2 false

/-- S1 is in force. -/
def State.inS1 (s : State) : State := (s.entryOver.setF Reg.PM_STATE 0 2 1).bump Reg.PM_CNT 2

/-- S2 is in force. -/
def State.inS2 (s : State) : State := ((s.entryOver.saveStore 2).unitsOff.setF Reg.PM_STATE 0 2 2).bump Reg.PM_CNT 3

/-- The end of an entry that a command asked for. -/
theorem exec_powerEntryDone {s : State} {target m : Nat} (hentry : s.pm.entry = some (target, some m)) (hlive : s.live = true) :
    exec .powerEntryDone s = .next
      (if target = 1 then (s.inS1.answer m S_OK).pendingWake
       else if target = 2 then (s.inS2.answer m S_OK).pendingWake
       else (((s.entryOver.saveStore 3).answer m S_OK).intoS3).pendingWake) := by
  change Host.Outcome.next _ = _
  rw [hentry]
  exact next_if_pos hlive

/-- What a reading that sees no unit of S2 keeps as the units lose their power. -/
theorem unitsOff_keeps (hb : SectorBlind p) (hmem : ∀ (s : State) x, p { s with mem := x } = p s)
    (hw : Blind (Reg.LN_MAC_CFG :: laneRows) p) (hl : ∀ (s : State) x, p { s with lanes := x } = p s)
    (hall : ∀ (s : State) a b c d e f g h i j k l, p
      { s with cams := a, ispOuts := b, ispCtxs := c, ispPipes := d, dec := e, lanes := f, macs := g, fab := h, wt := i,
               fio := j, memory := k, job := l } = p s) (s : State) : p s.unitsOff = p s := by
  unfold State.unitsOff
  extract_lets s1 s2 s3
  have h1 : p s1 = p s := State.forAll_keeps p _ (fun v t => foldl_keeps p _ (fun u e => retireMerge_keeps hb hmem u e) _ t) s _
  have h2 : p s2 = p s1 := State.forAll_keeps p _ (fun _ t => hw.setBit (by simp) t _ _ _ _ _) s1 _
  have h3 : p s3 = p s2 := State.forAll_keeps p _ (fun l t => laneTo_keeps (hw.mono (by simp)) hl t l 2) s2 _
  exact (hall s3 _ _ _ _ _ _ _ _ _ _ _ _).trans (h3.trans (h2.trans h1))

theorem unitsOff_pm (s : State) : s.unitsOff.pm = s.pm :=
  unitsOff_keeps (p := State.pm) ⟨⟨fun _ _ _ _ _ _ _ => rfl, fun _ _ => rfl, fun _ _ => rfl, fun _ _ => rfl, fun _ _ => rfl⟩,
    fun _ _ _ _ _ _ _ => rfl, fun _ _ _ _ _ _ _ => rfl, fun _ _ => rfl, fun _ _ => rfl, fun _ _ => rfl⟩ (fun _ _ => rfl)
    (fun _ _ _ _ _ _ _ => rfl) (fun _ _ => rfl) (fun _ _ _ _ _ _ _ _ _ _ _ _ _ => rfl) s

theorem unitsOff_encs (s : State) : s.unitsOff.encs = s.encs :=
  unitsOff_keeps (p := State.encs) ⟨⟨fun _ _ _ _ _ _ _ => rfl, fun _ _ => rfl, fun _ _ => rfl, fun _ _ => rfl, fun _ _ => rfl⟩,
    fun _ _ _ _ _ _ _ => rfl, fun _ _ _ _ _ _ _ => rfl, fun _ _ => rfl, fun _ _ => rfl, fun _ _ => rfl⟩ (fun _ _ => rfl)
    (fun _ _ _ _ _ _ _ => rfl) (fun _ _ => rfl) (fun _ _ _ _ _ _ _ _ _ _ _ _ _ => rfl) s

theorem unitsOff_core (s : State) : s.unitsOff.core = s.core :=
  unitsOff_keeps (p := State.core) ⟨⟨fun _ _ _ _ _ _ _ => rfl, fun _ _ => rfl, fun _ _ => rfl, fun _ _ => rfl, fun _ _ => rfl⟩,
    fun _ _ _ _ _ _ _ => rfl, fun _ _ _ _ _ _ _ => rfl, fun _ _ => rfl, fun _ _ => rfl, fun _ _ => rfl⟩ (fun _ _ => rfl)
    (fun _ _ _ _ _ _ _ => rfl) (fun _ _ => rfl) (fun _ _ _ _ _ _ _ _ _ _ _ _ _ => rfl) s

theorem answer_encs (s : State) (m status : Nat) : (s.answer m status).encs = s.encs :=
  answer_keeps (p := State.encs) (fun _ _ _ _ _ _ _ => rfl) (fun _ _ => rfl) (fun _ _ => rfl) _ _ _ _ _ _

theorem answer_wt (s : State) (m status : Nat) : (s.answer m status).wt = s.wt :=
  answer_keeps (p := State.wt) (fun _ _ _ _ _ _ _ => rfl) (fun _ _ => rfl) (fun _ _ => rfl) _ _ _ _ _ _

theorem answer_flash (s : State) (m status : Nat) : (s.answer m status).flash = s.flash :=
  answer_keeps (p := State.flash) (fun _ _ _ _ _ _ _ => rfl) (fun _ _ => rfl) (fun _ _ => rfl) _ _ _ _ _ _

theorem intoS3_pm (s : State) : s.intoS3.pm = { s.pm with opTarget := none, entry := none, waking := none, wakeReply := none } :=
  rfl

theorem intoS3_flash (s : State) : s.intoS3.flash = s.flash := by
  change s.outputsOff.flash = s.flash
  unfold State.outputsOff
  exact syncOuts_keeps (p := State.flash) (fun _ _ _ _ _ _ _ => rfl) (fun _ _ => rfl) _

theorem bump_power (s : State) (v k : Nat) (hv : v < 4) : ((s.setF Reg.PM_STATE 0 2 v).bump Reg.PM_CNT k).power = v := by
  rw [State.power, bump_eq, f_bumpBy_apart (by decide), State.f_setF_same _ _ _ _ _ _ _ _ (by decide)]
  exact Nat.mod_eq_of_lt hv

theorem bump_bit (s : State) (v k : Nat) : ((s.setF Reg.PM_STATE 0 2 v).bump Reg.PM_CNT k).bit Reg.PM_STATE 2 = s.bit Reg.PM_STATE 2 := by
  rw [bump_eq, bit_bumpBy_apart (by decide), bit_setF_other (by decide)]

theorem inS1_shows (s : State) : s.inS1.power = 1 ∧ s.inS1.bit Reg.PM_STATE 2 = false :=
  ⟨bump_power s.entryOver 1 2 (by decide), (bump_bit s.entryOver 1 2).trans (State.bit_setBit_same _ _ 2 false 0 0 0 (by decide))⟩

theorem inS2_power (s : State) : s.inS2.power = 2 := bump_power _ 2 3 (by decide)

/-- A reading that sees no register keeps its value as a power state is entered. -/
theorem entered_keeps (hw : Blind [Reg.PM_STATE, Reg.PM_CNT] p) (s : State) (v k : Nat) :
    p ((s.setF Reg.PM_STATE 0 2 v).bump Reg.PM_CNT k) = p s :=
  (hw.bump (r := Reg.PM_CNT) (by simp) _ _ _).trans (hw.setF (r := Reg.PM_STATE) (by simp) _ _ _ _ _ _ _)

theorem inS2_core (s : State) : s.inS2.core = s.core :=
  (entered_keeps (p := State.core) (fun _ _ _ _ _ _ _ => rfl) _ 2 3).trans (unitsOff_core _)

theorem inS2_encs (s : State) : s.inS2.encs = s.encs :=
  (entered_keeps (p := State.encs) (fun _ _ _ _ _ _ _ => rfl) _ 2 3).trans (unitsOff_encs _)

theorem inS2_comets (s : State) : s.inS2.wt.comets = [] :=
  (entered_keeps (p := fun t => t.wt.comets) (fun _ _ _ _ _ _ _ => rfl) _ 2 3).trans rfl

theorem inS2_pm (s : State) : s.inS2.pm = (s.entryOver.saveStore 2).pm :=
  (entered_keeps (p := State.pm) (fun _ _ _ _ _ _ _ => rfl) _ 2 3).trans (unitsOff_pm _)

theorem answer_power (s : State) (m status : Nat) : (s.answer m status).power = s.power := answer_f (by decide) s m status 0 2

/-- A reply in a state in which no wake waits. -/
theorem answer_pendingWake {s : State} (h : s.pm.wakePending = false) (m status : Nat) :
    (s.answer m status).pendingWake = s.answer m status := pendingWake_idle (by rw [answer_pm, h])

section
variable {s : State} {m : Fin 16} (hlive : s.live = true) (hcp : s.core.cp = .running) (hpend : s.pm.wakePending = false)
include hlive hcp hpend

theorem entryS1 (hentry : s.pm.entry = some (1, some m.val)) :
    ∃ t, exec .powerEntryDone s = .next t ∧ t.power = 1 ∧ t.pm.entry = none ∧ t.bit Reg.PM_STATE 2 = false ∧
      t.replied m S_OK ∧ t.encs = s.encs ∧ t.wt = s.wt ∧ MemKept s t := by
  obtain ⟨hpower, hidle⟩ := inS1_shows s
  have hnext := (exec_powerEntryDone hentry hlive).trans (next_if_pos rfl)
  rw [answer_pendingWake (s := s.inS1) hpend] at hnext
  refine ⟨_, hnext, (answer_power _ _ _).trans hpower, ?_, (answer_bit (by decide) _ _ _ _).trans hidle,
    answer_replied (s := s.inS1) (.inl hcp) m.isLt (by decide) _ _ _, answer_encs _ _ _, answer_wt _ _ _,
    memKept_of (answer_mem _ _ _ _ _ _)⟩
  rw [answer_pm]
  rfl

theorem entryS2 (hentry : s.pm.entry = some (2, some m.val)) :
    ∃ t, exec .powerEntryDone s = .next t ∧ t.power = 2 ∧ t.pm.entry = none ∧ t.storeGood true = true ∧
      t.replied m S_OK ∧ t.encs = s.encs ∧ t.wt.comets = [] := by
  have hnext := (exec_powerEntryDone hentry hlive).trans ((next_if_neg (by decide)).trans (next_if_pos rfl))
  have hpm : (s.inS2.answer m S_OK).pm = (s.entryOver.saveStore 2).pm := (answer_pm _ _ _).trans (inS2_pm s)
  have hwait : s.inS2.pm.wakePending = false := (congrArg PmSt.wakePending (inS2_pm s)).trans hpend
  rw [answer_pendingWake hwait] at hnext
  refine ⟨_, hnext, (answer_power _ _ _).trans (inS2_power s), ?_, storeGood_of_saved (congrArg PmSt.store hpm),
    answer_replied (.inl (by rw [inS2_core, hcp])) m.isLt (by decide) _ _ _, (answer_encs _ _ _).trans (inS2_encs s), ?_⟩
  · rw [hpm]
    rfl
  · rw [answer_wt, inS2_comets]

omit hcp in
theorem entryS3 (hentry : s.pm.entry = some (3, some m.val)) :
    ∃ t, exec .powerEntryDone s = .next t ∧ t.power = 3 ∧ t.pm.entry = none ∧ t.storeGood true = true ∧ t.core.cp = .off ∧
      t.fio.forcedOff = true ∧ t.flash = s.flash ∧ ∀ a, t.byte a = 0 := by
  have hnext := (exec_powerEntryDone hentry hlive).trans ((next_if_neg (by decide)).trans (next_if_neg (by decide)))
  obtain ⟨h3, hoff, hforced, hmem⟩ := intoS3_facts ((s.entryOver.saveStore 3).answer m S_OK)
  have hpm := intoS3_pm ((s.entryOver.saveStore 3).answer m S_OK)
  have hstore : ((s.entryOver.saveStore 3).answer m S_OK).intoS3.pm.store = (s.entryOver.saveStore 3).pm.store := by
    rw [hpm, answer_pm]
  rw [answer_pm] at hpm
  rw [pendingWake_idle ((congrArg PmSt.wakePending hpm).trans hpend)] at hnext
  exact ⟨_, hnext, h3, congrArg PmSt.entry hpm, storeGood_of_saved (s := s.entryOver) (target := 3) hstore, hoff, hforced,
    (intoS3_flash _).trans (answer_flash _ _ _), fun a => congrArg (fun x : AMap Byte => AMap.get x 0 a) hmem⟩

end

end Sys2Proof.Machine
end

section
/-!
Wakes and the exits from the power states (spec/20_power_states_and_retention.md, R556 to R565).
-/
namespace Sys2Proof.Machine

open Sys2Proof

variable {β : Type} {p : State → β}

/-! ### A wake source starts the exit (R558) -/

/-- The registers of a wake. -/
def wakeRegs : List Nat := [Reg.PM_WAKE_CAUSE.addr, Reg.PM_EVENT.addr, Reg.PM_STATE.addr]

/-- A module that an external source may wake, with no entry and no exit in progress. -/
structure CanWake (s : State) : Prop where
  alive : s.core.alive = true
  notQuiesced : s.core.quiesced = false
  notRemoved : s.core.removed = false
  cool : s.pm.tripHold = false
  noEntry : s.pm.entry = none
  noExit : s.pm.waking = none

/-- The exit to S0 starts from the state in force. -/
def State.exiting (s : State) (src : Nat) : State :=
  let t := (s.setBit Reg.PM_WAKE_CAUSE src true).raise Reg.PM_EVENT 4
  ({ t with pm := { t.pm with waking := some t.power } }).setBit Reg.PM_STATE 2 true

theorem wakeFire_starts {s : State} (h : CanWake s) {src : Nat} {states : List Nat} (hp : s.power ∈ states) :
    s.wakeFire src states = s.exiting src := by
  have hstate : s.wakeState = s.power := by simp [State.wakeState, h.noEntry]
  have hpass : s.core.alive = true ∧ (!s.core.quiesced) = true ∧ (!s.core.removed) = true ∧ (!s.pm.tripHold) = true ∧
      s.wakeState ∈ states := by
    simp [h.alive, h.notQuiesced, h.notRemoved, h.cool, hstate, hp]
  have hpm : ((s.setBit Reg.PM_WAKE_CAUSE src true).raise Reg.PM_EVENT 4).pm = s.pm := rfl
  unfold State.wakeFire
  rw [if_pos hpass, if_neg (by rw [hpm, h.noEntry]; simp), if_neg (by rw [hpm, h.noExit]; simp)]
  rfl

theorem exiting_power (s : State) (src : Nat) :
    ((s.setBit Reg.PM_WAKE_CAUSE src true).raise Reg.PM_EVENT 4).power = s.power := by
  rw [State.power, raise_eq, State.f]
  simp (disch := decide) [State.power, State.f]

theorem exiting_shows (s : State) {src : Nat} (h : src < 32) : (s.exiting src).pm.waking = some s.power ∧
    (s.exiting src).bit Reg.PM_WAKE_CAUSE src = true ∧ (s.exiting src).bit Reg.PM_EVENT 4 = true ∧
    (s.exiting src).bit Reg.PM_STATE 2 = true ∧ RegsKept s (s.exiting src) wakeRegs ∧ MemKept s (s.exiting src) := by
  unfold State.exiting
  refine ⟨congrArg some (exiting_power s src), ?_, ?_, ?_, ?_, memKept_of rfl⟩
  · rw [raise_eq]
    simp (disch := decide)
    exact State.bit_setBit_same _ _ _ _ _ _ _ h
  · simp (disch := decide) [raise_eq]
  · simp (disch := decide)
  · simp [wakeRegs, raise_eq]

/-- A wake of a state that can wake, from one of the source's own states. -/
theorem wakeFire_shows {s : State} (h : CanWake s) {src : Nat} (hsrc : src < 32) {states : List Nat} (hp : s.power ∈ states) :
    (s.wakeFire src states).pm.waking = some s.power ∧ (s.wakeFire src states).bit Reg.PM_WAKE_CAUSE src = true ∧
      (s.wakeFire src states).bit Reg.PM_EVENT 4 = true ∧ (s.wakeFire src states).bit Reg.PM_STATE 2 = true ∧
      RegsKept s (s.wakeFire src states) wakeRegs ∧ MemKept s (s.wakeFire src states) := by
  rw [wakeFire_starts h hp]
  exact exiting_shows s hsrc

theorem power_lt (s : State) : s.power < 4 := f_lt s _ 0 2 0 0 0

theorem busFrame_wakes {s : State} (h : CanWake s) {addr : BitVec 7} (haddr : addr.toNat = s.f Reg.PM_WAKE_ADDR 0 7)
    (hall : addr ≠ 0x7F) (hzero : addr ≠ 0) (hon : s.bit Reg.PM_WAKE_CFG 0 = true) (hp : 1 ≤ s.power) :
    ∃ t, exec (.wakeBusFrame addr 1) s = .next t ∧ t.pm.waking = some s.power ∧ t.pm.busAnswer = some true ∧
      t.bit Reg.PM_WAKE_CAUSE 0 = true ∧ t.bit Reg.PM_EVENT 4 = true ∧ t.bit Reg.PM_STATE 2 = true ∧
      RegsKept s t wakeRegs ∧ MemKept s t := by
  have hmine : (decide (addr.toNat = s.f Reg.PM_WAKE_ADDR 0 7) && decide (addr ≠ 0x7F) && decide (addr ≠ 0)) = true := by
    rw [decide_eq_true haddr, decide_eq_true hall, decide_eq_true hzero]
    rfl
  let u : State := { s with pm := { s.pm with busAnswer := some true } }
  have hu : CanWake u := ⟨h.alive, h.notQuiesced, h.notRemoved, h.cool, h.noEntry, h.noExit⟩
  have hrange : u.power ∈ [1, 2, 3] := by
    have := power_lt s
    change s.power ∈ [1, 2, 3]
    simp only [List.mem_cons, List.not_mem_nil, or_false]
    omega
  have hnext : exec (.wakeBusFrame addr 1) s = .next (u.wakeFire 0 [1, 2, 3]) := by
    change execWakeBusFrame addr 1 s = _
    unfold execWakeBusFrame
    simp only [hmine]
    exact (next_if_pos ⟨h.alive, by simp [h.notQuiesced], .inl trivial⟩).trans (next_if_pos ⟨trivial, hon⟩)
  obtain ⟨hwaking, hcause, hevent, hstate, hregs, hmem⟩ := wakeFire_shows hu (by decide : 0 < 32) hrange
  have hbus : (u.wakeFire 0 [1, 2, 3]).pm.busAnswer = some true := by
    rw [wakeFire_starts hu hrange]
    rfl
  exact ⟨_, hnext, hwaking, hbus, hcause, hevent, hstate, hregs, hmem⟩

theorem pattern_wakes {s : State} (h : CanWake s) {lane : Fin 32} {bursts : List (Nat × Nat)}
    (hlane : s.bit Reg.PM_WAKE_LANES lane = true) (hpat : s.bit Reg.PM_WAKE_PATTERN lane = true)
    (hseen : patternSeen bursts = true) (hp : 2 ≤ s.power) :
    ∃ t, exec (.wakePattern lane bursts) s = .next t ∧ t.pm.waking = some s.power ∧ t.bit Reg.PM_WAKE_CAUSE 2 = true ∧
      t.bit Reg.PM_EVENT 4 = true ∧ RegsKept s t wakeRegs ∧ MemKept s t := by
  have hrange : s.power ∈ [2, 3] := by
    have := power_lt s
    simp only [List.mem_cons, List.not_mem_nil, or_false]
    omega
  obtain ⟨hwaking, hcause, hevent, -, hregs, hmem⟩ := wakeFire_shows h (by decide : 2 < 32) hrange
  exact ⟨_, next_if_pos ⟨hlane, hpat, hseen⟩, hwaking, hcause, hevent, hregs, hmem⟩

theorem startBit_wakes {s : State} (h : CanWake s) (hon : s.bit Reg.PM_WAKE_CFG 1 = true) (hp : s.power = 3) :
    ∃ t, exec .sdioStartBitWake s = .next t ∧ t.pm.waking = some 3 ∧ t.bit Reg.PM_WAKE_CAUSE 1 = true ∧
      t.bit Reg.PM_EVENT 4 = true ∧ RegsKept s t wakeRegs ∧ MemKept s t := by
  obtain ⟨hwaking, hcause, hevent, -, hregs, hmem⟩ := wakeFire_shows h (src := 1) (states := [3]) (by decide) (by simp [hp])
  exact ⟨_, next_if_pos hon, hwaking.trans (congrArg some hp), hcause, hevent, hregs, hmem⟩

/-! ### The retention store is restored (R563) -/

/-- The writes that restore a list of words. -/
def restoreList (w : Nat → Word) (c : Block → Bool) (l : List ((RegRow × Nat × Nat) × Nat)) (s : State) : State :=
  l.foldl (fun t e =>
    let r := e.1.1
    if ((blockAt r.addr).map c).getD false then t.wr r ((w (8 + e.2) &&& r.rw) ||| (r.reset &&& ~~~ r.rw)) e.1.2.1 e.1.2.2
    else t) s

theorem restoreWords_eq (s : State) (c : Block → Bool) : s.restoreWords c = restoreList s.storeWord c storeWords.zipIdx s := rfl

theorem restoreList_keeps (w : Nat → Word) (c : Block → Bool) {l : List ((RegRow × Nat × Nat) × Nat)}
    (hw : Blind (l.map (fun e => e.1.1)) p) (s : State) : p (restoreList w c l s) = p s := by
  induction l generalizing s with
  | nil => rfl
  | cons e l ih =>
    refine (ih (hw.mono (fun r hr => List.mem_cons_of_mem _ hr)) _).trans ?_
    exact ite_keeps (hw _ _ _ _ _ _ (by simp)) rfl

theorem restoreWords_keeps (h : ∀ s r v i j k, p (State.wr s r v i j k) = p s) (s : State) (c : Block → Bool) :
    p (s.restoreWords c) = p s :=
  restoreList_keeps _ c (blind_of_wr h _) s

/-- The words of the store after WT_CTRL. -/
def storeAfterCtrl : List (RegRow × Nat × Nat) := storeWords.drop 45

theorem storeWords_ctrl : storeWords = storeEnc ++ (Reg.WT_CTRL, 0, 0) :: storeAfterCtrl := by
  decide +kernel

theorem storeAfterCtrl_apart : storeAfterCtrl.all (fun e => Reg.WT_CTRL.apart e.1) = true := by
  decide +kernel

/-- WT_CTRL returns from word 52 of the store where WT is restored. -/
theorem restoreWords_ctrl (s : State) {c : Block → Bool} (hc : c .WT = true) :
    (s.restoreWords c).rd Reg.WT_CTRL = (s.storeWord 52 &&& Reg.WT_CTRL.rw) ||| (Reg.WT_CTRL.reset &&& ~~~ Reg.WT_CTRL.rw) := by
  have hsplit : storeWords.zipIdx = storeEnc.zipIdx ++ ((Reg.WT_CTRL, 0, 0), 44) :: storeAfterCtrl.zipIdx 45 := by
    rw [storeWords_ctrl, List.zipIdx_append]
    rfl
  have hwt : ((blockAt Reg.WT_CTRL.addr).map c).getD false = true := hc
  have hrest : ((storeAfterCtrl.zipIdx 45).map (fun e => e.1.1)).all (fun x => Reg.WT_CTRL.apart x) = true := by
    have hmap : (storeAfterCtrl.zipIdx 45).map (fun e => e.1.1) = storeAfterCtrl.map (fun e => e.1) := by
      rw [← List.zipIdx_map_fst 45 storeAfterCtrl, List.map_map]
      simp
    rw [hmap, List.all_map]
    exact storeAfterCtrl_apart
  rw [restoreWords_eq, hsplit, restoreList, List.foldl_append, List.foldl_cons]
  refine (restoreList_keeps (p := fun t => t.rd Reg.WT_CTRL) s.storeWord c (blind_rd hrest 0 0 0) _).trans ?_
  simp only [hwt, if_true]
  exact State.rd_wr_same _ _ _ _ _ _

/-! ### The exit ends in S0 (R556) -/

/-- The sequencer stands in S0. -/
def State.inS0 (s : State) : State :=
  let t := (s.setF Reg.PM_STATE 0 3 0).bump Reg.PM_CNT 5
  { t with pm := { t.pm with waking := none, wakeReply := none } }

theorem awake_eq {s : State} (h : s.pm.wakeReply = none) : s.awake = s.inS0 := by
  have hpm : ((s.setF Reg.PM_STATE 0 3 0).bump Reg.PM_CNT 5).pm = s.pm := rfl
  unfold State.awake
  extract_lets s1 mb s2
  have hmb : mb = none := (congrArg PmSt.wakeReply hpm).trans h
  rw [hmb]
  rfl

theorem inS0_power (s : State) : s.inS0.power = 0 := by
  change ((s.setF Reg.PM_STATE 0 3 0).bump Reg.PM_CNT 5).power = 0
  rw [State.power, bump_eq, f_bumpBy_apart (by decide)]
  exact power_setF s 0

theorem inS0_pm (s : State) : s.inS0.pm = { s.pm with waking := none, wakeReply := none } := rfl

/-- What a reading that sees no register of the sequencer keeps as the exit ends. -/
theorem inS0_keeps (hw : Blind [Reg.PM_STATE, Reg.PM_CNT] p) (hpm : ∀ (s : State) x, p { s with pm := x } = p s) (s : State) :
    p s.inS0 = p s :=
  (hpm _ _).trans ((hw.bump (r := Reg.PM_CNT) (by simp) _ _ _).trans (hw.setF (r := Reg.PM_STATE) (by simp) _ _ _ _ _ _ _))

/-- The registers that show the queues, lanes, engines and outputs. -/
def unitRows : List RegRow := [Reg.QM_STATUS, Reg.QM_POOL_FREE, Reg.FIO_DO_STATUS] ++ (laneRows ++ jobRows)

/-- A reading that sees nothing of lanes, links, jobs, queues and outputs. -/
structure UnitBlind (p : State → β) : Prop extends JobBlind p where
  units : Blind unitRows p
  lanes : ∀ (s : State) x, p { s with lanes := x } = p s
  fab : ∀ (s : State) x, p { s with fab := x } = p s
  fio : ∀ (s : State) x, p { s with fio := x } = p s

section
variable (hu : UnitBlind p)
include hu

theorem syncQueues_keeps (s : State) : p s.syncQueues = p s :=
  (hu.units _ _ _ _ _ _ (by simp [unitRows])).trans (hu.units _ _ _ _ _ _ (by simp [unitRows]))

theorem outputsFree_keeps (s : State) : p s.outputsFree = p s :=
  (syncOuts_keeps (hu.units.mono (by simp [unitRows])) hu.fio _).trans (hu.fio _ _)

theorem unitClaims_keeps (s : State) : p s.syncQueues.claimLanes = p s :=
  (claimLanes_keeps (hu.units.mono (fun r hr => by simp [unitRows, hr])) hu.lanes hu.fab _).trans (syncQueues_keeps hu s)

/-- The units take up what the restored registers say. -/
theorem unitsBack_keeps (s : State) : p (s.syncQueues.claimLanes.syncJobs.outputsFree) = p s :=
  (outputsFree_keeps hu _).trans ((syncJobs_keeps hu.toJobBlind.ctx _).trans (unitClaims_keeps hu s))

end

theorem unitBlind_of_wr (hw : ∀ s r v i j k, p (State.wr s r v i j k) = p s)
    (hq : ∀ (s : State) x, p { s with queues := x } = p s) (hm : ∀ (s : State) x, p { s with memory := x } = p s)
    (hj : ∀ (s : State) x, p { s with job := x } = p s) (hwt : ∀ (s : State) x, p { s with wt := x } = p s)
    (hl : ∀ (s : State) x, p { s with lanes := x } = p s) (hf : ∀ (s : State) x, p { s with fab := x } = p s)
    (ho : ∀ (s : State) x, p { s with fio := x } = p s) : UnitBlind p :=
  ⟨⟨blind_of_wr hw _, hq, hm, hj, hwt⟩, blind_of_wr hw _, hl, hf, ho⟩

/-- A reading of a register that shows no unit. -/
theorem unitBlind_bit {r : RegRow} (h : unitRows.all (fun x => r.apart x) = true) (n : Nat) : UnitBlind (fun t => t.bit r n) :=
  have hu : Blind unitRows (fun t => t.bit r n) := blind_bit h n 0 0 0
  ⟨⟨hu.mono (fun x hx => by simp [unitRows, hx]), fun _ _ => rfl, fun _ _ => rfl, fun _ _ => rfl, fun _ _ => rfl⟩, hu,
    fun _ _ => rfl, fun _ _ => rfl, fun _ _ => rfl⟩

theorem unitBlind_rd {r : RegRow} (h : unitRows.all (fun x => r.apart x) = true) : UnitBlind (fun t => t.rd r) :=
  have hu : Blind unitRows (fun t => t.rd r) := blind_rd h 0 0 0
  ⟨⟨hu.mono (fun x hx => by simp [unitRows, hx]), fun _ _ => rfl, fun _ _ => rfl, fun _ _ => rfl, fun _ _ => rfl⟩, hu,
    fun _ _ => rfl, fun _ _ => rfl, fun _ _ => rfl⟩

theorem unitBlind_encs : UnitBlind State.encs :=
  unitBlind_of_wr (fun _ _ _ _ _ _ => rfl) (fun _ _ => rfl) (fun _ _ => rfl) (fun _ _ => rfl) (fun _ _ => rfl)
    (fun _ _ => rfl) (fun _ _ => rfl) (fun _ _ => rfl)

theorem unitBlind_mem : UnitBlind State.mem :=
  unitBlind_of_wr (fun _ _ _ _ _ _ => rfl) (fun _ _ => rfl) (fun _ _ => rfl) (fun _ _ => rfl) (fun _ _ => rfl)
    (fun _ _ => rfl) (fun _ _ => rfl) (fun _ _ => rfl)

theorem unitBlind_pm : UnitBlind State.pm :=
  unitBlind_of_wr (fun _ _ _ _ _ _ => rfl) (fun _ _ => rfl) (fun _ _ => rfl) (fun _ _ => rfl) (fun _ _ => rfl)
    (fun _ _ => rfl) (fun _ _ => rfl) (fun _ _ => rfl)

theorem unitBlind_core : UnitBlind State.core :=
  unitBlind_of_wr (fun _ _ _ _ _ _ => rfl) (fun _ _ => rfl) (fun _ _ => rfl) (fun _ _ => rfl) (fun _ _ => rfl)
    (fun _ _ => rfl) (fun _ _ => rfl) (fun _ _ => rfl)

theorem unitBlind_flash : UnitBlind State.flash :=
  unitBlind_of_wr (fun _ _ _ _ _ _ => rfl) (fun _ _ => rfl) (fun _ _ => rfl) (fun _ _ => rfl) (fun _ _ => rfl)
    (fun _ _ => rfl) (fun _ _ => rfl) (fun _ _ => rfl)

/-! ### The exit from S2 -/

/-- The registers and pairs that return from S2, in S0. -/
def State.afterS2 (s : State) : State :=
  let kept (m : AMap Word) : AMap Word := m.filter (fun p => ((blockAt p.1).map Block.onInS2).getD true)
  ({ s with regs := regsAfter .s2 s.regs, pairLatch := kept s.pairLatch, pairPend := kept s.pairPend }).setF Reg.PM_STATE 0 2 0

/-- The blocks whose words return from S2. -/
def backFromS2 (b : Block) : Bool := decide (b = .WT ∨ b = .QM ∨ b = .LN ∨ b = .FAB)

theorem wakeS2_good {s : State} {ok : Bool} (h : s.storeGood ok = true) :
    s.wakeS2 ok = ((s.afterS2).restoreWords backFromS2).syncQueues.claimLanes.syncJobs.outputsFree := by
  unfold State.wakeS2
  rw [h]
  rfl

theorem wakeS2_bad {s : State} {ok : Bool} (h : s.storeGood ok = false) :
    s.wakeS2 ok = ((s.afterS2).storeBad).syncQueues.claimLanes.syncJobs.outputsFree := by
  unfold State.wakeS2
  rw [h]
  rfl

/-- What a reading that sees no register and no unit keeps over the exit from S2. -/
theorem wakeS2_keeps (hu : UnitBlind p) (hw : ∀ s r v i j k, p (State.wr s r v i j k) = p s) (s : State) (ok : Bool)
    (h0 : p s.afterS2 = p s) : p (s.wakeS2 ok) = p s := by
  cases h : s.storeGood ok with
  | true => rw [wakeS2_good h, unitsBack_keeps hu, restoreWords_keeps hw, h0]
  | false =>
    rw [wakeS2_bad h, unitsBack_keeps hu, ← h0]
    have hall : Blind [Reg.PM_EVENT, Reg.PM_CNT] p := blind_of_wr hw _
    exact (hall.bump (r := Reg.PM_CNT) (by simp) _ _ _).trans (hall.raise (r := Reg.PM_EVENT) (by simp) _ _ _ _)

theorem storeBad_raises (s : State) : s.storeBad.bit Reg.PM_EVENT 5 = true := by
  simp (disch := decide) [State.storeBad, raise_eq, bump_eq]

/-! ### The exit from S3 -/

/-- What stands after S3, with the host held off, before the boot. -/
def State.coldS3 (s : State) : State :=
  let t := s.blank (regsAfter .s3 s.regs)
  ({ t with pm := { s.pm with hostBlocked := true } }).setF Reg.PM_STATE 0 2 0

/-- A boot begins after S3. -/
def State.afterS3 (s : State) : State := s.coldS3.startBoot

/-- The clock of a PTP port listens anew, and the units take up what the registers say. -/
def State.unitsBoot (s : State) : State :=
  (s.when (s.bit Reg.TIME_PTP_CFG 0) (fun s => s.setF Reg.TIME_STATUS 4 3 1)).syncQueues.claimLanes.outputsFree

theorem wakeS3_eq (s : State) (ok : Bool) :
    s.wakeS3 ok = (if s.storeGood ok then s.afterS3.restoreWords (fun _ => true) else s.afterS3.storeBad).unitsBoot := rfl

theorem unitsBoot_keeps (hu : UnitBlind p) (hw : Blind [Reg.TIME_STATUS] p) (s : State) : p s.unitsBoot = p s :=
  (outputsFree_keeps hu _).trans ((unitClaims_keeps hu _).trans (State.when_keeps p s _ (fun s => s.setF Reg.TIME_STATUS 4 3 1)
    (hw.setF (r := Reg.TIME_STATUS) (by simp) _ _ _ _ _ _ _)))

/-- What a reading that sees no register and no unit shows after the exit from S3. -/
theorem wakeS3_keeps (hu : UnitBlind p) (hw : ∀ s r v i j k, p (State.wr s r v i j k) = p s) (s : State) (ok : Bool) :
    p (s.wakeS3 ok) = p s.afterS3 := by
  have hall : Blind [Reg.PM_EVENT, Reg.PM_CNT] p := blind_of_wr hw _
  rw [wakeS3_eq, unitsBoot_keeps hu (blind_of_wr hw _)]
  refine ite_keeps (restoreWords_keeps hw _ _) ?_
  exact (hall.bump (r := Reg.PM_CNT) (by simp) _ _ _).trans (hall.raise (r := Reg.PM_EVENT) (by simp) _ _ _ _)

theorem wakeS3_bad {s : State} {ok : Bool} (h : s.storeGood ok = false) : (s.wakeS3 ok).bit Reg.PM_EVENT 5 = true := by
  rw [wakeS3_eq, h]
  refine (unitsBoot_keeps (p := fun t => t.bit Reg.PM_EVENT 5) (unitBlind_bit (by decide) 5) (blind_bit (by decide) 5 0 0 0)
    _).trans ?_
  exact storeBad_raises _

theorem afterS3_keeps (hw : ∀ s r v i j k, p (State.wr s r v i j k) = p s) (s : State) :
    p s.afterS3 = p { s.coldS3 with core := { s.coldS3.core with cp := .booting, held := false, romDone := false } } :=
  startBoot_keeps (blind_of_wr hw _) _

theorem wakeS3_pm (s : State) (ok : Bool) : (s.wakeS3 ok).pm = { s.pm with hostBlocked := true } :=
  (wakeS3_keeps unitBlind_pm (fun _ _ _ _ _ _ => rfl) s ok).trans (afterS3_keeps (p := State.pm) (fun _ _ _ _ _ _ => rfl) s)

theorem wakeS3_core (s : State) (ok : Bool) : (s.wakeS3 ok).core.cp = .booting :=
  congrArg (·.cp) ((wakeS3_keeps unitBlind_core (fun _ _ _ _ _ _ => rfl) s ok).trans
    (afterS3_keeps (p := State.core) (fun _ _ _ _ _ _ => rfl) s))

theorem wakeS3_flash (s : State) (ok : Bool) : (s.wakeS3 ok).flash = s.flash :=
  (wakeS3_keeps unitBlind_flash (fun _ _ _ _ _ _ => rfl) s ok).trans (afterS3_keeps (p := State.flash) (fun _ _ _ _ _ _ => rfl) s)

theorem wakeS3_mem (s : State) (ok : Bool) : (s.wakeS3 ok).mem = [] :=
  (wakeS3_keeps unitBlind_mem (fun _ _ _ _ _ _ => rfl) s ok).trans (afterS3_keeps (p := State.mem) (fun _ _ _ _ _ _ => rfl) s)

/-! ### WAKE_DONE -/

/-- A reading that sees neither registers nor the sequencer, as the exit ends. -/
theorem inS0_sees (hw : ∀ s r v i j k, p (State.wr s r v i j k) = p s) (hpm : ∀ (s : State) x, p { s with pm := x } = p s)
    (s : State) : p s.inS0 = p s := inS0_keeps (blind_of_wr hw _) hpm s

theorem inS0_rd {r : RegRow} (h : [Reg.PM_STATE, Reg.PM_CNT].all (fun x => r.apart x) = true) (s : State) :
    s.inS0.rd r = s.rd r := inS0_keeps (p := fun t => t.rd r) (blind_rd h 0 0 0) (fun _ _ => rfl) s

theorem exec_wakeDone {s : State} {n : Nat} (h : s.pm.waking = some n) (ok : Bool) : exec (.wakeDone ok) s = .next
    (if n = 1 then ({ s with regs := regsAfter .s1 s.regs }).awake else if n = 2 then (s.wakeS2 ok).awake
      else (s.wakeS3 ok).awake) := by
  change execWakeDone ok s = _
  unfold execWakeDone
  rw [h]

section
variable {s : State} (ok : Bool) (hreply : s.pm.wakeReply = none)
include hreply

theorem wakeDone_s1 (h : s.pm.waking = some 1) :
    ∃ t, exec (.wakeDone ok) s = .next t ∧ t.power = 0 ∧ t.pm.waking = none ∧ t.wt = s.wt ∧ t.encs = s.encs ∧ MemKept s t := by
  let u : State := { s with regs := regsAfter .s1 s.regs }
  have hu : u.awake = u.inS0 := awake_eq hreply
  have hnext : exec (.wakeDone ok) s = .next u.inS0 := (exec_wakeDone h ok).trans ((next_if_pos rfl).trans (congrArg _ hu))
  exact ⟨_, hnext, inS0_power u, rfl, inS0_sees (p := State.wt) (fun _ _ _ _ _ _ => rfl) (fun _ _ => rfl) u,
    inS0_sees (p := State.encs) (fun _ _ _ _ _ _ => rfl) (fun _ _ => rfl) u,
    memKept_of (inS0_sees (p := State.mem) (fun _ _ _ _ _ _ => rfl) (fun _ _ => rfl) u)⟩

theorem wakeDone_s2 (h : s.pm.waking = some 2) :
    ∃ t, exec (.wakeDone ok) s = .next t ∧ t.power = 0 ∧ t.pm.waking = none ∧
      (s.storeGood ok = true → t.rd Reg.WT_CTRL =
        (s.storeWord 52 &&& Reg.WT_CTRL.rw) ||| (Reg.WT_CTRL.reset &&& ~~~Reg.WT_CTRL.rw)) ∧
      (s.storeGood ok = false → t.bit Reg.PM_EVENT 5 = true) ∧ t.encs = s.encs ∧ MemKept s t := by
  have hpm : (s.wakeS2 ok).pm = s.pm := wakeS2_keeps unitBlind_pm (fun _ _ _ _ _ _ => rfl) s ok rfl
  have hwake : (s.wakeS2 ok).awake = (s.wakeS2 ok).inS0 := awake_eq (by rw [hpm, hreply])
  refine ⟨_, (exec_wakeDone h ok).trans ((next_if_neg (by decide)).trans ((next_if_pos rfl).trans (congrArg _ hwake))),
    inS0_power _, congrArg PmSt.waking (inS0_pm _), fun hgood => ?_, fun hbad => ?_,
    (inS0_sees (p := State.encs) (fun _ _ _ _ _ _ => rfl) (fun _ _ => rfl) _).trans
      (wakeS2_keeps unitBlind_encs (fun _ _ _ _ _ _ => rfl) s ok rfl),
    memKept_of ((inS0_sees (p := State.mem) (fun _ _ _ _ _ _ => rfl) (fun _ _ => rfl) _).trans
      (wakeS2_keeps unitBlind_mem (fun _ _ _ _ _ _ => rfl) s ok rfl))⟩
  · rw [inS0_rd (by decide), wakeS2_good hgood, unitsBack_keeps (p := fun t => t.rd Reg.WT_CTRL) (unitBlind_rd (by decide)),
      restoreWords_ctrl _ rfl]
    rfl
  · refine (congrArg (·.getLsbD 5) (inS0_rd (r := Reg.PM_EVENT) (by decide) _)).trans ?_
    rw [wakeS2_bad hbad]
    exact (unitsBack_keeps (p := fun t => t.bit Reg.PM_EVENT 5) (unitBlind_bit (by decide) 5) _).trans (storeBad_raises _)

theorem wakeDone_s3 (h : s.pm.waking = some 3) :
    ∃ t, exec (.wakeDone ok) s = .next t ∧ t.power = 0 ∧ t.core.cp = .booting ∧ t.pm.hostBlocked = true ∧ t.flash = s.flash ∧
      (s.storeGood ok = false → t.bit Reg.PM_EVENT 5 = true) ∧ ∀ a, t.byte a = 0 := by
  have hpm := wakeS3_pm s ok
  have hwake : (s.wakeS3 ok).awake = (s.wakeS3 ok).inS0 := awake_eq (by rw [hpm, hreply])
  have hmem : (s.wakeS3 ok).inS0.mem = [] :=
    (inS0_sees (p := State.mem) (fun _ _ _ _ _ _ => rfl) (fun _ _ => rfl) _).trans (wakeS3_mem s ok)
  refine ⟨_, (exec_wakeDone h ok).trans ((next_if_neg (by decide)).trans ((next_if_neg (by decide)).trans (congrArg _ hwake))),
    inS0_power _, ?_, ?_, ?_, fun hbad => ?_, fun a => congrArg (fun x : AMap Byte => AMap.get x 0 a) hmem⟩
  · exact (inS0_sees (p := fun t => t.core.cp) (fun _ _ _ _ _ _ => rfl) (fun _ _ => rfl) _).trans (wakeS3_core s ok)
  · rw [inS0_pm, hpm]
  · exact (inS0_sees (p := State.flash) (fun _ _ _ _ _ _ => rfl) (fun _ _ => rfl) _).trans (wakeS3_flash s ok)
  · exact (congrArg (·.getLsbD 5) (inS0_rd (r := Reg.PM_EVENT) (by decide) _)).trans (wakeS3_bad hbad)

end

/-- Settles O28: entries, wake sources and exits, each by the shape of the sequencer's step. -/
theorem powerStatesAndWake : Obligations.PowerStatesAndWake := by
  unfold Obligations.PowerStatesAndWake
  refine ⟨fun s m hlive hcp hpend => ⟨entryS1 hlive hcp hpend, entryS2 hlive hcp hpend, entryS3 hlive hpend⟩,
    fun s halive hquiesced hremoved hcool hentry hexit => ?_,
    fun s ok hreply => ⟨wakeDone_s1 ok hreply, wakeDone_s2 ok hreply, wakeDone_s3 ok hreply⟩⟩
  have h : CanWake s := ⟨halive, hquiesced, hremoved, hcool, hentry, hexit⟩
  exact ⟨fun addr => busFrame_wakes h, fun lane bursts => pattern_wakes h, startBit_wakes h⟩

end Sys2Proof.Machine
end

section
/-!
Boot, insertion, reset and removal (spec/22_secure_boot_and_attestation.md, spec/23_module_connectors_and_hot_plug.md).
-/
namespace Sys2Proof.Machine

open Sys2Proof

variable {β : Type} {p : State → β}

/-! ### The boot ROM (R586 to R588) -/

/-- The registers that secure boot sets. -/
def secRows : List RegRow :=
  [Reg.SEC_STATUS, Reg.SEC_KEYSET, Reg.SEC_EVENT, Reg.SEC_CNT, Reg.SEC_DEVICE_ID_LO, Reg.SEC_DEVICE_ID_HI, Reg.SEC_CERT_DEV,
    Reg.SEC_CERT_ALIAS, Reg.SYS_FW_VERSION]

theorem fwCheck_lt (s : State) (d : List Byte) : s.fwCheck d < 2 ^ 8 := by
  unfold State.fwCheck
  extract_lets n key slot flags svn revoke digest
  split_ifs <;> decide

section
variable (hw : Blind secRows p)
include hw

theorem syncSec_keeps (s : State) : p s.syncSec = p s := by
  have hrows := hw.each
  simp only [secRows, EachBlind] at hrows
  simp [State.syncSec, State.setF, State.setBit, hrows]

theorem secRefused_keeps (s : State) (k : Nat) : p (s.secRefused k) = p s :=
  (hw.bump (r := Reg.SEC_CNT) (by simp [secRows]) _ _ _).trans ((hw.raise (r := Reg.SEC_EVENT) (by simp [secRows]) _ _ _ _).trans
    (hw.setF (r := Reg.SEC_STATUS) (by simp [secRows]) _ _ _ _ _ _ _))

theorem enterRecovery_keeps (hcore : ∀ (s : State) x y, p { s with core := x, host := y } = p s) (s : State) (k : Nat) : p (s.enterRecovery k) = p s := by
  unfold State.enterRecovery
  extract_lets s1 s2
  have h1 : p s1 = p s := (syncSec_keeps hw _).trans (secRefused_keeps hw s k)
  have h2 : p s2 = p s1 := (hw.setF (r := Reg.SYS_FW_VERSION) (by simp [secRows]) _ _ _ _ _ _ _).trans
    (hw.setBit (r := Reg.SEC_STATUS) (by simp [secRows]) _ _ _ _ _ _)
  exact (hcore _ _ _).trans (h2.trans h1)

end

/-- The certificates are written. -/
theorem certWords_keeps {r : RegRow} (hw : Blind [r] p) (s : State) (c : List Byte) : p (s.certWords r c) = p s :=
  State.forAll_keeps p _ (fun _ t => hw _ _ _ _ _ _ (by simp)) s _

theorem secRefused_event (s : State) (k : Nat) : (s.secRefused k).bit Reg.SEC_EVENT 0 = true := by
  simp (disch := decide) [State.secRefused, raise_eq, bump_eq]

theorem syncSec_bit (s : State) (n : Nat) : s.syncSec.bit Reg.SEC_EVENT n = s.bit Reg.SEC_EVENT n := by
  simp (disch := decide) [State.syncSec]

theorem syncSec_check (s : State) : s.syncSec.f Reg.SEC_STATUS 24 8 = s.f Reg.SEC_STATUS 24 8 := by
  simp (disch := decide) [State.syncSec]

theorem secRefused_check (s : State) {k : Nat} (h : k < 2 ^ 8) : (s.secRefused k).f Reg.SEC_STATUS 24 8 = k := by
  rw [State.secRefused, raise_eq, bump_eq, f_bumpBy_apart (by decide)]
  simpa (disch := decide) using h

/-- Recovery stands with its number, its event and function 1 alone ready (R588). -/
theorem enterRecovery_shows (s : State) {k : Nat} (h : k < 2 ^ 8) : (s.enterRecovery k).core.cp = .recovery ∧
    (s.enterRecovery k).bit Reg.SEC_STATUS 0 = true ∧ (s.enterRecovery k).bit Reg.SEC_EVENT 0 = true ∧
    (s.enterRecovery k).host.ioReady = 2 ∧ (s.enterRecovery k).f Reg.SEC_STATUS 24 8 = k := by
  unfold State.enterRecovery
  refine ⟨rfl, ?_, ?_, rfl, ?_⟩
  · simp (disch := decide)
  · simp (disch := decide) [syncSec_bit, secRefused_event]
  · simp (disch := decide) [syncSec_check, secRefused_check s h]

theorem enterRecovery_mem (s : State) (k : Nat) : (s.enterRecovery k).mem = s.mem :=
  enterRecovery_keeps (p := State.mem) (fun _ _ _ _ _ _ _ => rfl) (fun _ _ _ => rfl) s k

theorem enterRecovery_flash (s : State) (k : Nat) : (s.enterRecovery k).flash = s.flash :=
  enterRecovery_keeps (p := State.flash) (fun _ _ _ _ _ _ _ => rfl) (fun _ _ _ => rfl) s k

/-- What a verified image leaves: fuses, the identity of the firmware and its certificates (R587). -/
theorem secStart_keeps (hw : Blind secRows p) (hfuse : ∀ (s : State) x y, p { s with fuse := x, sec := y } = p { s with sec := y }) (s : State) (d : List Byte) :
    p (s.secStart d) = p { s with sec := { fwDigest := Config.shake256 d, running := some d,
                                           aliasCert := aliasCertificate (Config.shake256 d) (imgNat d 16 4) } } := by
  unfold State.secStart
  extract_lets svn commit fw src fuse cert s1 s2 s3 s4 s5
  have h1 : p s1 = p { s with sec := { fwDigest := fw, running := some d, aliasCert := cert } } := hfuse s _ _
  have h2 : p s2 = p s1 := (hw.setF (r := Reg.SEC_STATUS) (by simp [secRows]) _ _ _ _ _ _ _).trans (syncSec_keeps hw s1)
  have h3 : p s3 = p s2 := (hw.setBit (r := Reg.SEC_STATUS) (by simp [secRows]) _ _ _ _ _ _).trans
    (hw.setBit (r := Reg.SEC_STATUS) (by simp [secRows]) _ _ _ _ _ _)
  have h4 : p s4 = p s3 := (hw.setBit (r := Reg.SEC_STATUS) (by simp [secRows]) _ _ _ _ _ _).trans
    (hw.setF (r := Reg.SEC_STATUS) (by simp [secRows]) _ _ _ _ _ _ _)
  have h5 : p s5 = p s4 := hw.wr64 (by simp [secRows]) (by simp [secRows]) _ _ _ _
  have hdev (t : State) (c : List Byte) : p (t.certWords Reg.SEC_CERT_DEV c) = p t := certWords_keeps (hw.mono (by simp [secRows])) t c
  have hali (t : State) (c : List Byte) : p (t.certWords Reg.SEC_CERT_ALIAS c) = p t := certWords_keeps (hw.mono (by simp [secRows])) t c
  exact (hali _ _).trans ((hdev _ _).trans (h5.trans (h4.trans (h3.trans (h2.trans h1)))))

theorem certWords_bit {r : RegRow} (h : Reg.SEC_STATUS.apart r = true) (s : State) (c : List Byte) (n : Nat) :
    (s.certWords r c).bit Reg.SEC_STATUS n = s.bit Reg.SEC_STATUS n :=
  certWords_keeps (p := fun t => t.bit Reg.SEC_STATUS n) (blind_bit (by simpa using h) n 0 0 0) s c

theorem secStart_verified (s : State) (d : List Byte) : (s.secStart d).bit Reg.SEC_STATUS 1 = true := by
  unfold State.secStart
  extract_lets svn commit fw src fuse cert s1 s2 s3 s4 s5
  rw [certWords_bit (by decide), certWords_bit (by decide)]
  simp (disch := decide) [s5, s4, s3, State.wr64]

theorem secStart_mem (s : State) (d : List Byte) : (s.secStart d).mem = s.mem :=
  (secStart_keeps (p := State.mem) (fun _ _ _ _ _ _ _ => rfl) (fun _ _ _ => rfl) s d).trans rfl

theorem secStart_flash (s : State) (d : List Byte) : (s.secStart d).flash = s.flash :=
  (secStart_keeps (p := State.flash) (fun _ _ _ _ _ _ _ => rfl) (fun _ _ _ => rfl) s d).trans rfl

theorem secStart_running (s : State) (d : List Byte) : (s.secStart d).sec.running = some d :=
  (secStart_keeps (p := fun t => t.sec.running) (fun _ _ _ _ _ _ _ => rfl) (fun _ _ _ => rfl) s d).trans rfl

/-- The boot ROM hands over to the image that it verified. -/
def State.romHandsOver (t : State) : State := { t with core := { t.core with romDone := true } }

theorem romHandsOver_shows {s t : State} {d : List Byte} (hflash : t.flash = s.flash) (hmem : t.mem = s.mem)
    (hrun : t.sec.running = some d) (hbit : t.bit Reg.SEC_STATUS 1 = true) :
    t.romHandsOver.flash = s.flash ∧ MemKept s t.romHandsOver ∧ t.romHandsOver.core.romDone = true ∧
      t.romHandsOver.sec.running = some d ∧ t.romHandsOver.bit Reg.SEC_STATUS 1 = true :=
  ⟨hflash, memKept_of hmem, rfl, hrun, hbit⟩

theorem secBoot_image {s : State} {d : List Byte} (h : s.flash.firmware = some d) :
    s.secBoot = if s.fwCheck d = 0 then (s.secStart d).romHandsOver else s.enterRecovery (s.fwCheck d) := by
  simp only [State.secBoot, h]
  rfl

section
variable {s : State} (hlive : s.live = true) (hcp : s.core.cp = .booting) (hrom : s.core.romDone = false)
include hlive hcp hrom

theorem exec_powerOnReset : exec .powerOnReset s = .next s.secBoot := next_if_pos ⟨hlive, hcp, by simp [hrom]⟩

theorem boot_empty (h : s.flash.firmware = none) : ∃ t, exec .powerOnReset s = .next t ∧ t.core.cp = .recovery ∧
    t.bit Reg.SEC_STATUS 0 = true ∧ t.bit Reg.SEC_EVENT 0 = true ∧ t.host.ioReady = 2 ∧ MemKept s t := by
  have hboot : s.secBoot = s.enterRecovery 1 := by simp only [State.secBoot, h]
  obtain ⟨hrecovery, hstatus, hevent, hready, -⟩ := enterRecovery_shows s (k := 1) (by decide)
  exact ⟨_, (exec_powerOnReset hlive hcp hrom).trans (congrArg _ hboot), hrecovery, hstatus, hevent, hready,
    memKept_of (enterRecovery_mem s 1)⟩

theorem boot_image {d : List Byte} (h : s.flash.firmware = some d) :
    ∃ t, exec .powerOnReset s = .next t ∧ t.flash = s.flash ∧ MemKept s t ∧
      (s.fwCheck d = 0 → t.core.romDone = true ∧ t.sec.running = some d ∧ t.bit Reg.SEC_STATUS 1 = true) ∧
      (s.fwCheck d ≠ 0 → t.core.cp = .recovery ∧ t.f Reg.SEC_STATUS 24 8 = s.fwCheck d) := by
  refine ⟨_, exec_powerOnReset hlive hcp hrom, ?_⟩
  rw [secBoot_image h]
  by_cases hcheck : s.fwCheck d = 0
  · obtain ⟨hflash, hmem, hrom', hrun, hbit⟩ := romHandsOver_shows (secStart_flash s d) (secStart_mem s d) (secStart_running s d)
      (secStart_verified s d)
    rw [if_pos hcheck]
    exact ⟨hflash, hmem, fun _ => ⟨hrom', hrun, hbit⟩, fun hne => absurd hcheck hne⟩
  · obtain ⟨hrecovery, -, -, -, hnumber⟩ := enterRecovery_shows s (fwCheck_lt s d)
    rw [if_neg hcheck]
    exact ⟨enterRecovery_flash s _, memKept_of (enterRecovery_mem s _), fun h0 => absurd h0 hcheck, fun _ => ⟨hrecovery, hnumber⟩⟩

end

/-! ### Insertion, MRST_N and loss of power (R576, R612 to R619) -/

theorem byte_of_empty {s : State} (h : s.mem = []) (a : Nat) : s.byte a = 0 := congrArg (fun x : AMap Byte => AMap.get x 0 a) h

/-- The always-on domain as it starts. -/
def State.seatedState (s : State) : State :=
  ({ s.powerLost with core := { alive := true, mrst := s.core.mrst } }).wr Reg.PM_HOTPLUG (if s.core.mrst then 15 else 7)

theorem seated_starts {s : State} {heldNs : Nat} (hdead : s.core.alive = false) (hmrst : s.core.mrst = false)
    (hheld : 10000000 ≤ heldNs) :
    ∃ t, exec (.seated heldNs) s = .next t ∧ t.core.alive = true ∧ t.core.held = true ∧ t.core.cp = .off ∧
      t.rd Reg.PM_HOTPLUG = 7 ∧ t.rd Reg.WT_CTRL = Reg.WT_CTRL.reset ∧ t.flash = s.flash ∧ ∀ a, t.byte a = 0 := by
  have hnext : exec (.seated heldNs) s = .next s.seatedState := next_if_pos ⟨hheld, .inl (by simp [hdead])⟩
  refine ⟨_, hnext, rfl, rfl, rfl, ?_, ?_, rfl, byte_of_empty rfl⟩
  · rw [State.seatedState, State.rd_wr_same, hmrst]
    rfl
  · rw [State.seatedState, rd_wr_apart (by decide)]
    rfl

theorem mrst_holds {s : State} {heldNs : Nat} (halive : s.core.alive = true) (hq : s.core.quiesced = false) (hheld : 10000 ≤ heldNs) :
    ∃ t, exec (.mrst heldNs) s = .next t ∧ t.core.mrst = true ∧ t.core.held = true ∧ t.core.cp = .off ∧
      t.bit Reg.PM_HOTPLUG 3 = true ∧ t.host.cardUp = s.host.cardUp ∧ t.flash = s.flash ∧ ∀ a, t.byte a = 0 := by
  let u := s.resetModule.setBit Reg.PM_HOTPLUG 3 true
  have hseated : (s.core.alive && !s.core.quiesced) = true := by simp [halive, hq]
  have hopen : (decide (1000 ≤ heldNs) && decide (heldNs < 10000)) = false := by simp; omega
  have hnext : exec (.mrst heldNs) s = .next { u with core := { u.core with mrst := true } } := by
    change execMrst heldNs s = _
    unfold execMrst
    simp only [hopen, Bool.false_eq_true, if_false, hseated, if_true]
    exact next_if_pos (.inl hheld)
  refine ⟨_, hnext, rfl, rfl, rfl, ?_, rfl, rfl, byte_of_empty rfl⟩
  exact State.bit_setBit_same _ _ 3 true 0 0 0 (by decide)

theorem mrstRelease_boots {s : State} (hmrst : s.core.mrst = true) (halive : s.core.alive = true) (hq : s.core.quiesced = false)
    (honce : s.core.enabledOnce = true) (hheld : s.core.held = true) (hoff : s.core.cp = .off) :
    ∃ t, exec .mrstRelease s = .next t ∧ t.core.mrst = false ∧ t.core.held = false ∧ t.core.cp = .booting ∧ MemKept s t := by
  let u : State := ({ s with core := { s.core with mrst := false } }).setBit Reg.PM_HOTPLUG 3 false
  have hnext : exec .mrstRelease s = .next u.startBoot :=
    (next_if_pos hmrst).trans (next_if_pos (s := u.startBoot) ⟨halive, congrArg (!·) hq, honce, hheld, hoff⟩)
  have hcore : u.startBoot.core = { u.core with cp := .booting, held := false, romDone := false } :=
    startBoot_keeps (p := State.core) (fun _ _ _ _ _ _ _ => rfl) u
  refine ⟨_, hnext, congrArg (·.mrst) hcore, congrArg (·.held) hcore, congrArg (·.cp) hcore, memKept_of ?_⟩
  exact startBoot_keeps (p := State.mem) (fun _ _ _ _ _ _ _ => rfl) u

theorem quiesce_holds {s : State} {heldNs : Nat} (pin : Fin 2) (halive : s.core.alive = true) (hq : s.core.quiesced = false)
    (hheld : 2000 ≤ heldNs) :
    ∃ t, exec (.emergencyQuiesce pin heldNs) s = .next t ∧ t.core.quiesced = true ∧ t.fio.forcedOff = true ∧
      t.bit Reg.PM_HOTPLUG 0 = false ∧ t.bit Reg.PM_HOTPLUG (1 + pin) = false ∧ t.flash = s.flash ∧ ∀ a, t.byte a = 0 := by
  refine ⟨_, next_if_pos ⟨halive, by simp [hq], hheld⟩, rfl, rfl, ?_, ?_, rfl, byte_of_empty rfl⟩
  · rw [State.bit, State.rd_wr_same, putBit_other _ _ _ _ (by omega), putBit_same _ _ _ (by decide)]
  · rw [State.bit, State.rd_wr_same, putBit_same _ _ _ (by omega)]

/-- Settles O29: each event's step, written out in the state it leaves. -/
theorem bootResetInsertionAndRemoval : Obligations.BootResetInsertionAndRemoval := by
  unfold Obligations.BootResetInsertionAndRemoval
  refine ⟨fun s hlive hcp hrom => ⟨boot_empty hlive hcp hrom, fun d => boot_image hlive hcp hrom⟩,
    fun s heldNs => seated_starts, fun s heldNs => mrst_holds, fun s => mrstRelease_boots,
    fun s pin heldNs => quiesce_holds pin, fun s decivolts h => ?_⟩
  exact ⟨_, next_if_pos h, rfl, rfl, rfl, rfl, byte_of_empty rfl⟩

end Sys2Proof.Machine
end

section
/-!
Cameras, decoder streams, MACs, lanes and links: what the loss of a link leaves alone (spec/03_camera_ingress.md,
spec/05_decoder.md, spec/17_serial_lanes_and_fabric.md).
-/
namespace Sys2Proof.Machine

open Sys2Proof

variable {β : Type} {p : State → β}

/-! ### A camera port (R71 to R95) -/

/-- The registers of a camera port that its blocks and lines show in. -/
def camRows : List RegRow := [Reg.CAM_OCC, Reg.CAM_STATUS, Reg.CAM_CNT, Reg.CAM_EVENT]

/-- A reading that sees nothing of the camera ports. -/
structure CamBlind (p : State → β) : Prop where
  camRows : Blind camRows p
  cams : ∀ (s : State) x, p { s with cams := x } = p s
  free : ∀ (s : State) x, p { s with free := x } = p s

section
variable (hc : CamBlind p)
include hc

theorem updCam_keeps (s : State) (n : Nat) (f : CamPort → CamPort) : p (s.updCam n f) = p s := hc.cams _ _

theorem camCnt_keeps (s : State) (n k : Nat) : p (s.camCnt n k) = p s := hc.camRows.bump (by simp [camRows]) _ _ _

theorem camEvent_keeps (s : State) (b n : Nat) : p (s.raise Reg.CAM_EVENT b n) = p s :=
  hc.camRows.raise (by simp [camRows]) _ _ _ _

theorem camOcc_keeps (s : State) (n : Nat) : p (s.camOcc n) = p s :=
  (hc.camRows.setBit (r := Reg.CAM_STATUS) (by simp [camRows]) _ _ _ _ _ _).trans
    (hc.camRows _ _ _ _ _ _ (by simp [camRows]))

theorem camRelease_keeps (s : State) (n : Nat) : p (s.camRelease n) = p s :=
  (camOcc_keeps hc _ _).trans (updCam_keeps hc _ _ _)

theorem camPair_keeps (s : State) (n : Nat) (t : Option CamTrig) : p (s.camPair n t) = p s := by
  cases t with
  | none => rfl
  | some t => exact hc.cams _ _

theorem camAligned_keeps (s : State) (n : Nat) (b : CamBlock) (t : Option CamTrig) : p (s.camAligned n b t).2.2.2 = p s := by
  have hdraw : p s.draw.2.draw.2 = p s := (hc.free _ _).trans (hc.free _ _)
  unfold State.camAligned
  simp only
  split
  · exact ite_keeps rfl hdraw
  · split
    · exact ite_keeps rfl hdraw
    · exact hdraw

theorem camAdmit_keeps (s : State) (n i : Nat) (b : CamBlock) (t : Option CamTrig) (fillLine : Bool) :
    p (s.camAdmit n i b t fillLine) = p s := by
  have hpair := camPair_keeps hc s n t
  unfold State.camAdmit
  extract_lets s1
  refine ite_keeps ?_ ?_
  · exact (updCam_keeps hc _ _ _).trans ((camEvent_keeps hc _ _ _).trans ((camCnt_keeps hc _ _ _).trans hpair))
  · refine ite_keeps ?_ ?_
    · exact (camRelease_keeps hc _ _).trans ((updCam_keeps hc _ _ _).trans ((camAligned_keeps hc _ _ _ _).trans hpair))
    · exact (camOcc_keeps hc _ _).trans ((camCnt_keeps hc _ _ _).trans ((updCam_keeps hc _ _ _).trans
        ((camAligned_keeps hc _ _ _ _).trans hpair)))

theorem camDiscard_keeps (s : State) (n : Nat) : p (s.camDiscard n) = p s :=
  (updCam_keeps hc _ _ _).trans (camCnt_keeps hc _ _ _)

theorem camLineDone_keeps (s : State) (n : Nat) : p (s.camLineDone n) = p s := by
  unfold State.camLineDone
  split
  · split
    · exact (camRelease_keeps hc _ _).trans ((State.when_keeps p _ _ (fun s => s.camCnt n 6) (camCnt_keeps hc _ _ _)).trans
        (updCam_keeps hc _ _ _))
    · rfl
  · rfl

theorem camLine_keeps (s : State) (n i : Nat) : p (s.camLine n i) = p s := by
  unfold State.camLine
  extract_lets s1
  have h1 : p s1 = p s := camLineDone_keeps hc s n
  split
  · exact h1
  · extract_lets s2
    have h2 : p s2 = p s := (updCam_keeps hc _ _ _).trans h1
    refine ite_keeps ((camDiscard_keeps hc _ _).trans h2) (ite_keeps ((camAdmit_keeps hc _ _ _ _ _ _).trans h2) ?_)
    split
    · exact (camAdmit_keeps hc _ _ _ _ _ _).trans h2
    · exact (camDiscard_keeps hc _ _).trans h2

theorem camFill_keeps (s : State) (n : Nat) : p (s.camFill n) = p s := by
  unfold State.camFill
  split
  · rfl
  · refine State.forAll_keeps p _ (fun i t => ?_) s _
    split
    · rfl
    · refine ite_keeps (camAdmit_keeps hc _ _ _ _ _ _) ?_
      split
      · exact camAdmit_keeps hc _ _ _ _ _ _
      · rfl

theorem camLeave_keeps (s : State) (n no : Nat) : p (s.camLeave n no) = p s := hc.cams _ _

theorem camClose_keeps (s : State) (n marks : Nat) : p (s.camClose n marks) = p s := by
  unfold State.camClose
  split
  · rfl
  · extract_lets short s1 s2 s3
    have h1 : p s1 = p s := camLineDone_keeps hc s n
    have h2 : p s2 = p s1 := updCam_keeps hc _ _ _
    have h3 : p s3 = p s2 := State.when_keeps p s2 _ (fun s => s.camFill n) (camFill_keeps hc _ _)
    have h3 : p s3 = p s := h3.trans (h2.trans h1)
    split
    · exact h3
    · extract_lets s4 s5 s6 s7 s8
      have h4 : p s4 = p s3 := updCam_keeps hc _ _ _
      have h5 : p s5 = p s4 := (camRelease_keeps hc _ _).trans (camLeave_keeps hc _ _ _)
      have h6 : p s6 = p s5 := camCnt_keeps hc _ _ _
      have h7 : p s7 = p s6 := State.when_keeps p s6 _ (fun s => s.camCnt n 4) (camCnt_keeps hc _ _ _)
      have h8 : p s8 = p s7 := State.when_keeps p s7 _ (fun s => s.camCnt n 5) (camCnt_keeps hc _ _ _)
      exact (State.when_keeps p s8 _ (fun s => s.raise Reg.CAM_EVENT 4 n) (camEvent_keeps hc _ _ _)).trans
        (h8.trans (h7.trans (h6.trans (h5.trans (h4.trans h3)))))

theorem camDown_keeps (s : State) (n : Nat) : p (s.camDown n) = p s := by
  unfold State.camDown
  extract_lets was s1 s2 s3
  have h1 : p s1 = p s := camClose_keeps hc _ _ _
  have h2 : p s2 = p s1 := updCam_keeps hc _ _ _
  have h3 : p s3 = p s2 := hc.camRows.setF (r := Reg.CAM_STATUS) (by simp [camRows]) _ _ _ _ _ _ _
  exact (State.when_keeps p s3 _ (fun s => s.raise Reg.CAM_EVENT 1 n) (camEvent_keeps hc _ _ _)).trans
    (h3.trans (h2.trans h1))

theorem camLanesUp_keeps (s : State) (n : Nat) : p (s.camLanesUp n) = p s :=
  hc.camRows.setF (r := Reg.CAM_STATUS) (by simp [camRows]) _ _ _ _ _ _ _

end

/-! ### A decoder stream (R146, R151, R157) -/

/-- The registers of a decoder stream. -/
def decRows : List RegRow := [Reg.DEC_STREAM_CNT, Reg.DEC_STREAM_STATUS, Reg.DEC_EVENT]

/-- A reading that sees nothing of the decoder and of the queues. -/
structure DecBlind (p : State → β) : Prop where
  decRows : Blind decRows p
  appends : Blind appendRows p
  dec : ∀ (s : State) x, p { s with dec := x } = p s
  free : ∀ (s : State) x, p { s with free := x } = p s
  queues : ∀ (s : State) x, p { s with queues := x } = p s
  memory : ∀ (s : State) x, p { s with memory := x } = p s

section
variable (hd : DecBlind p)
include hd

theorem updStream_keeps (s : State) (n : Nat) (f : DecStream → DecStream) : p (s.updStream n f) = p s := hd.dec _ _

theorem decCnt_keeps (s : State) (n k : Nat) : p (s.decCnt n k) = p s := hd.decRows.bump (by simp [decRows]) _ _ _

theorem decReport_keeps (s : State) (n mode kind status : Nat) (seq : Word) (bitpos row0 rows method : Nat) :
    p (s.decReport n mode kind status seq bitpos row0 rows method) = p s := by
  unfold State.decReport
  exact ite_keeps rfl (ite_keeps rfl (ite_keeps (qOffer_keeps hd.appends hd.queues hd.memory _ _ _ _) (updStream_keeps hd _ _ _)))

theorem pushSample_keeps (s : State) (n : Nat) (x : DecSample) : p (s.pushSample n x) = p s := updStream_keeps hd _ _ _

theorem writePads_keeps (s : State) (n fuel : Nat) : p (s.writePads n fuel) = p s := by
  induction fuel generalizing s with
  | zero => rfl
  | succ fuel ih =>
    unfold State.writePads
    refine ite_keeps rfl ((ih _).trans ((decCnt_keeps hd _ _ _).trans ((updStream_keeps hd _ _ _).trans
      ((pushSample_keeps hd _ _ _).trans ((hd.free _ _).trans (hd.free _ _))))))

theorem closeBatch_keeps (s : State) (n : Nat) : p (s.closeBatch n) = p s := by
  unfold State.closeBatch
  split
  · exact (writePads_keeps hd _ _ _).trans (updStream_keeps hd _ _ _)
  · rfl

theorem endEarly_keeps (s : State) (n : Nat) (at_ : DWord) (x : DecPic) (bitpos : Nat) : p (s.endEarly n at_ x bitpos) = p s := by
  unfold State.endEarly
  exact (updStream_keeps hd _ _ _).trans (ite_keeps rfl (decReport_keeps hd _ _ _ _ _ _ _ _ _ _))

theorem decLinkLost_keeps (s : State) (n : Nat) : p (s.decLinkLost n) = p s := by
  have hend : p (match (s.stream n).pic with
      | some x => if x.ended.isSome then s else s.draw.2.endEarly n s.draw.2.raw x s.draw.1.toNat
      | none => s) = p s := by
    split
    · exact ite_keeps rfl ((endEarly_keeps hd _ _ _ _ _).trans (hd.free _ _))
    · rfl
  unfold State.decLinkLost
  exact (hd.decRows.setBit (r := Reg.DEC_STREAM_STATUS) (by simp [decRows]) _ _ _ _ _ _).trans
    ((closeBatch_keeps hd _ _).trans hend)

end

/-! ### Lanes, MACs and links (R491, R496, R501 to R510) -/

/-- The registers of links. -/
def fabRows : List RegRow := [Reg.FAB_LINK_STATUS, Reg.FAB_LINK_CNT, Reg.FAB_EVENT]

/-- A reading that sees nothing of the links. -/
structure FabBlind (p : State → β) : Prop extends RecordBlind p where
  fabRows : Blind fabRows p
  fab : ∀ (s : State) x, p { s with fab := x } = p s

section
variable (hf : FabBlind p)
include hf

theorem setLink_keeps (s : State) (j : Nat) (x : LinkSt) : p (s.setLink j x) = p s := hf.fab _ _

theorem linkShown_keeps (s : State) (j : Nat) : p (s.syncLink j) = p s :=
  hf.fabRows.setF (r := Reg.FAB_LINK_STATUS) (by simp [fabRows]) _ _ _ _ _ _ _

theorem linkStateSet_keeps (s : State) (j n : Nat) : p (s.setLinkState j n) = p s :=
  hf.fabRows.setF (r := Reg.FAB_LINK_STATUS) (by simp [fabRows]) _ _ _ _ _ _ _

theorem fabEvent_keeps (s : State) (n : Nat) : p (s.raise Reg.FAB_EVENT n) = p s :=
  hf.fabRows.raise (by simp [fabRows]) _ _ _ _

theorem flitOut_keeps (s : State) (j : Nat) (sequenced : Bool) : p (s.flitOut j sequenced) = p s :=
  (hf.fabRows.bump (r := Reg.FAB_LINK_CNT) (by simp [fabRows]) _ _ _).trans (setLink_keeps hf _ _ _)

theorem controlOut_keeps (s : State) (j : Nat) : p (s.controlOut j) = p s := flitOut_keeps hf _ _ _

theorem lanesLeft_keeps (s : State) (j : Nat) : p (s.lanesLeft j) = p s := by
  unfold State.lanesLeft
  refine ite_keeps ?_ (ite_keeps ?_ (linkShown_keeps hf _ _))
  · exact (setLink_keeps hf _ _ _).trans ((fabEvent_keeps hf _ _).trans ((linkShown_keeps hf _ _).trans (linkStateSet_keeps hf _ _ _)))
  · exact (linkShown_keeps hf _ _).trans ((linkStateSet_keeps hf _ _ _).trans (ite_keeps rfl (fabEvent_keeps hf _ _)))

theorem failLane_keeps (s : State) (j k crit : Nat) : p (s.failLane j k crit) = p s := by
  have hfail : p (s.setBit Reg.FAB_LINK_STATUS (16 + k) true j) = p s :=
    hf.fabRows.setBit (by simp [fabRows]) _ _ _ _ _ _
  unfold State.failLane
  refine ite_keeps rfl (ite_keeps ((controlOut_keeps hf _ _).trans (setLink_keeps hf _ _ _)) (ite_keeps rfl ?_))
  exact ite_keeps ((lanesLeft_keeps hf _ _).trans ((faultNew_sees hf.toRecordBlind _ _).trans hfail)) hfail

end

/-- The registers of lanes, MACs and links. -/
def linkRows : List RegRow :=
  [Reg.LN_EVENT, Reg.LN_LANE_CNT, Reg.LN_MAC_CFG, Reg.LN_MAC_CNT] ++ (laneRows ++ (fabRows ++ (camRows ++ decRows)))

/-- A reading that sees nothing of lanes and of what runs over them. -/
structure LinkBlind (p : State → β) : Prop extends FabBlind p where
  linkRows : Blind linkRows p
  lanes : ∀ (s : State) x, p { s with lanes := x } = p s
  macs : ∀ (s : State) x, p { s with macs := x } = p s
  cams : ∀ (s : State) x, p { s with cams := x } = p s
  dec : ∀ (s : State) x, p { s with dec := x } = p s
  free : ∀ (s : State) x, p { s with free := x } = p s

section
variable (hl : LinkBlind p)
include hl

theorem LinkBlind.cam : CamBlind p := ⟨hl.linkRows.mono (fun r hr => by simp [Machine.linkRows, hr]), hl.cams, hl.free⟩

theorem LinkBlind.decoder : DecBlind p :=
  ⟨hl.linkRows.mono (fun r hr => by simp [Machine.linkRows, hr]), hl.appends, hl.dec, hl.free, hl.queues, hl.memory⟩

theorem LinkBlind.laneRows : Blind laneRows p := hl.linkRows.mono (fun r hr => by simp [Machine.linkRows, hr])

theorem laneCycle_keeps (s : State) (l : Nat) : p (s.laneCycle l) = p s :=
  (laneTo_keeps hl.laneRows hl.lanes _ _ _).trans (laneTo_keeps hl.laneRows hl.lanes _ _ _)

theorem macDown_keeps (s : State) (m : Nat) : p (s.macDown m) = p s := by
  unfold State.macDown
  refine ite_keeps rfl ?_
  refine (State.forAll_keeps p _ (fun n t => State.when_keeps p t _ (fun s => s.decLinkLost n)
    (decLinkLost_keeps hl.decoder t n)) _ _).trans ?_
  refine (State.forAll_keeps p _ (fun n t => State.when_keeps p t _ (fun s => s.camDown n)
    (camDown_keeps hl.cam t n)) _ _).trans ?_
  exact (hl.macs _ _).trans ((hl.linkRows.bump (r := Reg.LN_MAC_CNT) (by simp [Machine.linkRows]) _ _ _).trans
    (hl.linkRows.setBit (r := Reg.LN_MAC_CFG) (by simp [Machine.linkRows]) _ _ _ _ _ _))

theorem fabLinkReset_keeps (s : State) (j : Nat) : p (s.fabLinkReset j) = p s := by
  unfold State.fabLinkReset
  extract_lets x s1 s2 s3
  have h1 : p s1 = p s := setLink_keeps hl.toFabBlind _ _ _
  have h2 : p s2 = p s1 := State.forAll_keeps p _ (fun k t => (hl.lanes _ _).trans
    (hl.linkRows _ Reg.LN_LANE_STATUS _ _ _ _ (by simp [Machine.linkRows, Machine.laneRows]))) s1 _
  have h3 : p s3 = p s2 := (linkShown_keeps hl.toFabBlind _ _).trans ((linkStateSet_keeps hl.toFabBlind _ _ _).trans
    (hl.fabRows.setF (r := Reg.FAB_LINK_STATUS) (by simp [Machine.fabRows]) _ _ _ _ _ _ _))
  exact (hl.fabRows.bump (r := Reg.FAB_LINK_CNT) (by simp [Machine.fabRows]) _ _ _).trans (h3.trans (h2.trans h1))

theorem ownerReset_keeps (s : State) (l : Nat) : p (s.ownerReset l) = p s := by
  unfold State.ownerReset
  extract_lets id
  split
  · exact (camLanesUp_keeps hl.cam _ _).trans ((State.forAll_keeps p _ (fun x t => laneCycle_keeps hl t x) _ _).trans
      (camDown_keeps hl.cam _ _))
  · exact (State.forAll_keeps p _ (fun x t => laneCycle_keeps hl t x) _ _).trans (macDown_keeps hl _ _)
  · exact fabLinkReset_keeps hl _ _
  · rfl

theorem lockLost_keeps (s : State) (n heldNs : Nat) : p (s.lockLost n heldNs) = p s := by
  unfold State.lockLost
  refine ite_keeps ?_ rfl
  extract_lets s1 s2 seq s3
  have h1 : p s1 = p s := (hl.linkRows.bump (r := Reg.LN_LANE_CNT) (by simp [Machine.linkRows]) _ _ _).trans
    (hl.linkRows.setF (r := Reg.LN_LANE_STATUS) (by simp [Machine.linkRows, Machine.laneRows]) _ _ _ _ _ _ _)
  have h2 : p s2 = p s1 := State.when_keeps p s1 _ (fun s => s.raise Reg.LN_EVENT 1)
    (hl.linkRows.raise (by simp [Machine.linkRows]) _ _ _ _)
  have h3 : p s3 = p s2 := faultNew_sees hl.toRecordBlind _ _
  have h2 : p s2 = p s := h2.trans h1
  refine ite_keeps ?_ (ite_keeps ((failLane_keeps hl.toFabBlind _ _ _ _).trans h2) h2)
  exact (ownerReset_keeps hl _ _).trans ((hl.lanes _ _).trans (h3.trans h2))

end

theorem linkBlind_of_wr (hw : ∀ s r v i j k, p (State.wr s r v i j k) = p s) (hs : ∀ (s : State) x, p { s with snap := x } = p s)
    (hq : ∀ (s : State) x, p { s with queues := x } = p s) (hm : ∀ (s : State) x, p { s with memory := x } = p s)
    (hf : ∀ (s : State) x, p { s with fault := x } = p s) (hfab : ∀ (s : State) x, p { s with fab := x } = p s)
    (hlanes : ∀ (s : State) x, p { s with lanes := x } = p s) (hmacs : ∀ (s : State) x, p { s with macs := x } = p s)
    (hcams : ∀ (s : State) x, p { s with cams := x } = p s) (hdec : ∀ (s : State) x, p { s with dec := x } = p s)
    (hfree : ∀ (s : State) x, p { s with free := x } = p s) : LinkBlind p :=
  ⟨⟨recordBlind_of_wr hw hs hq hm hf, blind_of_wr hw _, hfab⟩, blind_of_wr hw _, hlanes, hmacs, hcams, hdec, hfree⟩

theorem linkBlind_mem : LinkBlind State.mem :=
  linkBlind_of_wr (fun _ _ _ _ _ _ => rfl) (fun _ _ => rfl) (fun _ _ => rfl) (fun _ _ => rfl) (fun _ _ => rfl) (fun _ _ => rfl)
    (fun _ _ => rfl) (fun _ _ => rfl) (fun _ _ => rfl) (fun _ _ => rfl) (fun _ _ => rfl)

end Sys2Proof.Machine
end

section
/-!
CP restarts, the 48 V inputs and the cages (R23, R461, R575, R576, R605 to R607).
-/
namespace Sys2Proof.Machine

open Sys2Proof

variable {β : Type} {p : State → β}

/-! ### The watchdog (R575) -/

theorem recordBlind_core : RecordBlind State.core :=
  recordBlind_of_wr (fun _ _ _ _ _ _ => rfl) (fun _ _ => rfl) (fun _ _ => rfl) (fun _ _ => rfl) (fun _ _ => rfl)

theorem recordBlind_encs : RecordBlind State.encs :=
  recordBlind_of_wr (fun _ _ _ _ _ _ => rfl) (fun _ _ => rfl) (fun _ _ => rfl) (fun _ _ => rfl) (fun _ _ => rfl)

theorem recordBlind_wt : RecordBlind State.wt :=
  recordBlind_of_wr (fun _ _ _ _ _ _ => rfl) (fun _ _ => rfl) (fun _ _ => rfl) (fun _ _ => rfl) (fun _ _ => rfl)

theorem recordBlind_mem : RecordBlind State.mem :=
  recordBlind_of_wr (fun _ _ _ _ _ _ => rfl) (fun _ _ => rfl) (fun _ _ => rfl) (fun _ _ => rfl) (fun _ _ => rfl)

/-- Restarts within the last 60 s. -/
def State.recentRestarts (s : State) : List DWord := s.core.restartTimes.filter (fun t => decide (s.since t ≤ 60000000000))

/-- A restart is counted. -/
def State.restartCounted (s : State) : State :=
  { s.bump Reg.SNAP_CNT 7 with
    core := { s.core with warmRestarts := s.core.warmRestarts + 1, restartTimes := s.raw :: s.recentRestarts } }

/-- The third restart halts the CP. -/
def State.restartHalts (s : State) (r : FaultRec) : State :=
  let t := (s.faultNew r).raise Reg.SNAP_EVENT 4
  { t with core := { t.core with cp := .halted }, host := { t.host with ioReady := 0 } }

/-- The CP restarts. -/
def State.restartStarts (s : State) (r : FaultRec) (x : Option (Word × Nat × DWord)) : State :=
  let t := s.faultNew r
  { t with core := { t.core with cp := .restarting, restartRec := x } }

theorem exec_watchdogTimeout {s : State} {reason : Fin 4} (pc : DWord) (hlive : s.live = true) (hp : s.power ≠ 3)
    (hcp : s.core.cp = .running) (hr : reason.val ≠ 0) : exec (.watchdogTimeout reason pc) s = .next
      (if 2 ≤ s.recentRestarts.length then s.restartCounted.restartHalts (restartFault reason pc 2)
        else s.restartCounted.restartStarts (restartFault reason pc 0) (some (s.restartCounted.fault.seq, reason.val, pc))) :=
  next_if_pos ⟨hlive, hp, hcp, hr⟩

theorem restartHalts_shows (s : State) (r : FaultRec) : (s.restartHalts r).core.cp = .halted ∧
    (s.restartHalts r).core.warmRestarts = s.core.warmRestarts ∧ (s.restartHalts r).bit Reg.SNAP_EVENT 4 = true ∧
    (s.restartHalts r).encs = s.encs ∧ (s.restartHalts r).wt = s.wt ∧ MemKept s (s.restartHalts r) := by
  have hcore := faultNew_sees recordBlind_core s r
  refine ⟨rfl, congrArg (·.warmRestarts) hcore, ?_, faultNew_sees recordBlind_encs s r, faultNew_sees recordBlind_wt s r,
    memKept_of (faultNew_sees recordBlind_mem s r)⟩
  exact State.bit_setBit_same _ _ 4 true 0 0 0 (by decide)

theorem restartStarts_shows (s : State) (r : FaultRec) (x : Option (Word × Nat × DWord)) :
    (s.restartStarts r x).core.cp = .restarting ∧ (s.restartStarts r x).core.warmRestarts = s.core.warmRestarts ∧
    (s.restartStarts r x).encs = s.encs ∧ (s.restartStarts r x).wt = s.wt ∧ MemKept s (s.restartStarts r x) := by
  have hcore := faultNew_sees recordBlind_core s r
  exact ⟨rfl, congrArg (·.warmRestarts) hcore, faultNew_sees recordBlind_encs s r, faultNew_sees recordBlind_wt s r,
    memKept_of (faultNew_sees recordBlind_mem s r)⟩

theorem watchdog_restarts {s : State} {reason : Fin 4} {pc : DWord} (hlive : s.live = true) (hp : s.power ≠ 3)
    (hcp : s.core.cp = .running) (hr : reason.val ≠ 0) :
    ∃ t, exec (.watchdogTimeout reason pc) s = .next t ∧ t.core.warmRestarts = s.core.warmRestarts + 1 ∧
      (s.recentRestarts.length < 2 → t.core.cp = .restarting) ∧
      (2 ≤ s.recentRestarts.length → t.core.cp = .halted ∧ t.bit Reg.SNAP_EVENT 4 = true) ∧
      t.encs = s.encs ∧ t.wt = s.wt ∧ MemKept s t := by
  have hnext := exec_watchdogTimeout pc hlive hp hcp hr
  by_cases hthird : 2 ≤ s.recentRestarts.length
  · obtain ⟨hhalted, hcount, hevent, hencs, hwt, hmem⟩ := restartHalts_shows s.restartCounted (restartFault reason pc 2)
    rw [if_pos hthird] at hnext
    exact ⟨_, hnext, hcount, fun h => absurd h (by omega), fun _ => ⟨hhalted, hevent⟩, hencs, hwt, hmem⟩
  · obtain ⟨hcp', hcount, hencs, hwt, hmem⟩ := restartStarts_shows s.restartCounted (restartFault reason pc 0)
      (some (s.restartCounted.fault.seq, reason.val, pc))
    rw [if_neg hthird] at hnext
    exact ⟨_, hnext, hcount, fun _ => hcp', fun h => absurd h hthird, hencs, hwt, hmem⟩

/-! ### After the restart (R461) -/

/-- One mailbox is served again. -/
def State.mailAgain (s : State) (m : Nat) : State :=
  match AMap.look s.host.journal m with
  | some b => (s.mailReply m b).bump Reg.F1_CNT 4
  | none => if s.mbState m = 2 ∧ !s.pmWaits m then s.setMb m 1 else s

theorem busyAgain_eq (s : State) : s.busyAgain = s.forAll (upTo 16) (fun m s => s.mailAgain m) := rfl

theorem mailAgain_keeps (hw : Blind replyRows p) (hq : ∀ (s : State) x, p { s with queues := x } = p s)
    (hh : ∀ (s : State) x, p { s with host := x } = p s) (s : State) (m : Nat) : p (s.mailAgain m) = p s := by
  unfold State.mailAgain
  split
  · exact (hw.bump (r := Reg.F1_CNT) (by simp [replyRows]) _ _ _).trans (mailReply_keeps hw hq hh _ _ _)
  · exact ite_keeps (hw.setF (r := Reg.F1_MB_STATE) (by simp [replyRows]) _ _ _ _ _ _ _) rfl

theorem mailReply_mbState_other (s : State) {m k : Nat} (hm : m < 16) (h : k ≠ m) (b : List Byte) :
    (s.mailReply m b).mbState k = s.mbState k := by
  rw [State.mailReply, bellServed_mbState]
  simp (disch := decide) only [State.mbState, raise_eq, bump_eq, f_bumpBy_apart, f_setBit_apart]
  exact (mbState_setMb _ hm (by decide) k).trans (if_neg h)

theorem mailReply_host_other (s : State) {m k : Nat} (h : k ≠ m) (b : List Byte) :
    AMap.look (s.mailReply m b).host.journal k = AMap.look s.host.journal k ∧
      (s.mailReply m b).host.swapWait = s.host.swapWait := by
  have hbell (t : State) : (t.bellServed m).host = t.host :=
    bellServed_keeps (p := State.host) (fun _ _ _ _ _ _ _ => rfl) (fun _ _ => rfl) t m
  rw [State.mailReply, hbell]
  exact ⟨(AMap.look_del _ _ _).trans (if_neg h), rfl⟩

/-- What the state shows of the command in a mailbox, as a restart finds it. -/
def State.mailStands (s : State) (k : Nat) : Nat × Option (List Byte) × Bool :=
  (s.mbState k, AMap.look s.host.journal k, s.pmWaits k)

theorem mailAgain_other (s : State) {m k : Nat} (hm : m < 16) (h : k ≠ m) : (s.mailAgain m).mailStands k = s.mailStands k := by
  unfold State.mailAgain
  split
  next b hb =>
    obtain ⟨hjournal, hswap⟩ := mailReply_host_other s h b
    have hmb : ((s.mailReply m b).bump Reg.F1_CNT 4).mbState k = s.mbState k := by
      rw [bump_eq, State.mbState, f_bumpBy_apart (by decide)]
      exact mailReply_mbState_other s hm h b
    have hpm : (s.mailReply m b).pm = s.pm :=
      mailReply_keeps (p := State.pm) (fun _ _ _ _ _ _ _ => rfl) (fun _ _ => rfl) (fun _ _ => rfl) s m b
    have hwaits : ((s.mailReply m b).bump Reg.F1_CNT 4).pmWaits k = s.pmWaits k := by
      change (s.mailReply m b).pmWaits k = _
      simp only [State.pmWaits, hpm, hswap]
    exact Prod.ext hmb (Prod.ext hjournal hwaits)
  next =>
    split
    · exact Prod.ext ((mbState_setMb s hm (n := 1) (by decide) k).trans (if_neg h)) rfl
    · rfl

theorem mailAgain_posts {s : State} {m : Nat} (hm : m < 16) (h : s.mailStands m = (2, none, false)) :
    (s.mailAgain m).mbState m = 1 := by
  simp only [State.mailStands, Prod.mk.injEq] at h
  obtain ⟨hbusy, hjournal, hwaits⟩ := h
  unfold State.mailAgain
  rw [hjournal]
  simp only [hbusy, hwaits, Bool.not_false, and_self, if_true]
  exact (mbState_setMb s hm (n := 1) (by decide) m).trans (if_pos rfl)

/-- A command that was BUSY, without a reply in the journal and without a transition that it waits for, is POSTED again. -/
theorem busyAgain_posts {s : State} (m : Fin 16) (h : s.mailStands m = (2, none, false)) : s.busyAgain.mbState m = 1 := by
  have hsplit : ∀ m : Fin 16, upTo 16 = upTo m ++ [m.val] ++ (upTo 16).drop (m.val + 1) := by decide
  have hbefore : ∀ m : Fin 16, ∀ k ∈ upTo m, k < 16 ∧ m.val ≠ k := by decide
  have hafter : ∀ m : Fin 16, ∀ k ∈ (upTo 16).drop (m.val + 1), k < 16 ∧ m.val ≠ k := by decide
  have hfirst := forAll_keeps_mem (fun t => t.mailStands m) (l := upTo m) (f := fun k t => t.mailAgain k)
    (fun k hk t => mailAgain_other t (hbefore m k hk).1 (hbefore m k hk).2) s
  rw [busyAgain_eq, hsplit m, forAll_append, forAll_append, forAll_singleton]
  refine (congrArg Prod.fst (forAll_keeps_mem (fun t => t.mailStands m) (l := (upTo 16).drop (m.val + 1))
    (f := fun k t => t.mailAgain k) (fun k hk t => mailAgain_other t (hafter m k hk).1 (hafter m k hk).2) _)).trans ?_
  exact mailAgain_posts m.isLt (hfirst.trans h)

theorem busyAgain_keeps (hw : Blind replyRows p) (hq : ∀ (s : State) x, p { s with queues := x } = p s)
    (hh : ∀ (s : State) x, p { s with host := x } = p s) (s : State) : p s.busyAgain = p s :=
  State.forAll_keeps p _ (fun m t => mailAgain_keeps hw hq hh t m) s _

theorem mailAgain_event {s : State} {m : Nat} (hm : m < 16) (h : s.bit Reg.F1_EVENT 16 = true) :
    (s.mailAgain m).bit Reg.F1_EVENT 16 = true := by
  unfold State.mailAgain
  split
  next b hb =>
    have hbell (t : State) : (t.bellServed m).bit Reg.F1_EVENT 16 = t.bit Reg.F1_EVENT 16 :=
      bellServed_keeps (p := fun t => t.bit Reg.F1_EVENT 16) (blind_bit (by decide) 16 0 0 0) (fun _ _ => rfl) t m
    rw [bump_eq, bit_bumpBy_apart (by decide), State.mailReply, hbell, bump_eq, bit_bumpBy_apart (by decide), raise_eq,
      State.bit_setBit_bit _ _ _ _ _ _ _ _ (by omega), State.setMb, bit_setF_apart (by decide)]
    exact h
  next =>
    split
    · rw [State.setMb, bit_setF_apart (by decide), h]
    · exact h

theorem busyAgain_event {s : State} (h : s.bit Reg.F1_EVENT 16 = true) : s.busyAgain.bit Reg.F1_EVENT 16 = true := by
  have hall : ∀ l : List Nat, (∀ m ∈ l, m < 16) → ∀ s : State, s.bit Reg.F1_EVENT 16 = true →
      (s.forAll l (fun m s => s.mailAgain m)).bit Reg.F1_EVENT 16 = true := by
    intro l
    induction l with
    | nil => exact fun _ _ h => h
    | cons m l ih => exact fun hl s h => ih (fun k hk => hl k (List.mem_cons_of_mem m hk)) _ (mailAgain_event (hl m (by simp)) h)
  exact hall (upTo 16) (by decide) s h

theorem warmRestart_serves {s : State} (hlive : s.live = true) (hp : s.power ≠ 3) (hcp : s.core.cp = .restarting)
    (hrec : s.core.restartRec = none) :
    ∃ t, exec (.warmRestartDone false) s = .next t ∧ t.core.cp = .running ∧ t.bit Reg.F1_EVENT 16 = true ∧
      (∀ m : Fin 16, s.mbState m = 2 → s.pmWaits m = false → AMap.look s.host.journal m = none → t.mbState m = 1) ∧
      MemKept s t := by
  let u : State := { s with core := { s.core with cp := .running }, host := { s.host with camXfer := none } }
  have hends : s.restartEnds = s := by simp only [State.restartEnds, hrec]
  have hnext : exec (.warmRestartDone false) s = .next (u.raise Reg.F1_EVENT 16).busyAgain := by
    refine (next_if_pos ⟨hlive, hp, hcp⟩).trans ?_
    rw [hends]
    rfl
  refine ⟨_, hnext, ?_, ?_, fun m hbusy hwaits hjournal => ?_, memKept_of ?_⟩
  · exact busyAgain_keeps (p := fun t => t.core.cp) (fun _ _ _ _ _ _ _ => rfl) (fun _ _ => rfl) (fun _ _ => rfl) _
  · exact busyAgain_event (State.bit_setBit_same u Reg.F1_EVENT 16 true 0 0 0 (by decide))
  · refine busyAgain_posts m ?_
    have hmb : (u.raise Reg.F1_EVENT 16).mbState m = 2 := by
      rw [State.mbState, raise_eq, f_setBit_apart (by decide)]
      exact hbusy
    exact Prod.ext hmb (Prod.ext hjournal hwaits)
  · exact busyAgain_keeps (p := State.mem) (fun _ _ _ _ _ _ _ => rfl) (fun _ _ => rfl) (fun _ _ => rfl) _

/-! ### The 48 V inputs (R576) -/

theorem inputState_lt {decivolts heldNs st : Nat} (h : inputState decivolts heldNs = some st) : st < 4 := by
  unfold inputState at h
  split_ifs at h <;> simp only [Option.some.injEq] at h <;> omega

/-- An input shows its voltage and its state. -/
def State.inputShown (s : State) (b : Bool) (decivolts st : Nat) : State :=
  (s.setF Reg.SNAP_SUPPLY (12 * b.toNat) 12 (min decivolts 4095)).setF Reg.SNAP_SUPPLY (28 + 2 * b.toNat) 2 st

theorem inputShown_shows (s : State) (b : Bool) (decivolts : Nat) {st : Nat} (h : st < 4) :
    (s.inputShown b decivolts st).f Reg.SNAP_SUPPLY (12 * b.toNat) 12 = min decivolts 4095 ∧
      (s.inputShown b decivolts st).f Reg.SNAP_SUPPLY (28 + 2 * b.toNat) 2 = st := by
  have hb : b.toNat < 2 := by cases b <;> decide
  unfold State.inputShown
  constructor
  · rw [f_setF_other (by omega), State.f_setF_same _ _ _ _ _ _ _ _ (by omega)]
    exact Nat.mod_eq_of_lt (by omega)
  · rw [State.f_setF_same _ _ _ _ _ _ _ _ (by omega)]
    exact Nat.mod_eq_of_lt h

/-- The fields of a register that no record shows in. -/
theorem recordBlind_f {r : RegRow} (h : (Reg.SNAP_EVENT :: (latchRows ++ appendRows)).all (fun x => r.apart x) = true)
    (lo len i : Nat) : RecordBlind (fun t => t.f r lo len i) :=
  have hall : Blind (Reg.SNAP_EVENT :: (latchRows ++ appendRows)) (fun t => t.f r lo len i) := blind_f h lo len i 0 0
  ⟨hall.mono (fun x hx => by simp [hx]), fun _ => hall.raise (by simp) _ _ _ _, fun _ => hall.raise (by simp) _ _ _ _,
    hall.mono (fun x hx => by simp [hx]), fun _ _ => rfl, fun _ _ => rfl, fun _ _ => rfl, fun _ _ => rfl⟩

/-- A record leaves the events of SNAP alone that it does not raise itself. -/
theorem recordBlind_event {n : Nat} (h1 : n ≠ 1) (h2 : n ≠ 2) : RecordBlind (fun t => t.bit Reg.SNAP_EVENT n) :=
  ⟨blind_bit (by decide) n 0 0 0, fun s => State.bit_setBit_bit s _ _ _ _ _ _ _ h1, fun s => State.bit_setBit_bit s _ _ _ _ _ _ _ h2,
    blind_bit (by decide) n 0 0 0, fun _ _ => rfl, fun _ _ => rfl, fun _ _ => rfl, fun _ _ => rfl⟩

/-- The record of a supply. -/
def supplyRecord (b : Bool) (st : Nat) : FaultRec :=
  { block := 1, cause := 12, unit := b.toNat, cls := 3, detail := bytesLE 1 b.toNat ++ bytesLE 1 st }

theorem powerInput_shows {s : State} {b : Bool} {decivolts heldNs st : Nat} (halive : s.core.alive = true)
    (hq : s.core.quiesced = false) (hst : inputState decivolts heldNs = some st) :
    ∃ t, exec (.powerInputChange b decivolts heldNs) s = .next t ∧
      t.f Reg.SNAP_SUPPLY (12 * b.toNat) 12 = min decivolts 4095 ∧ t.f Reg.SNAP_SUPPLY (28 + 2 * b.toNat) 2 = st ∧
      (s.f Reg.SNAP_SUPPLY (28 + 2 * b.toNat) 2 = 2 → st ≠ 2 → s.on .SNAP = true → t.bit Reg.SNAP_EVENT 3 = true) ∧
      MemKept s t := by
  let u := s.inputShown b decivolts st
  let f : State → State := fun s => (s.raise Reg.SNAP_EVENT 3).faultNew (supplyRecord b st)
  have hon : u.on .SNAP = s.on .SNAP := on_congr (s := s) (t := u) rfl (by simp (disch := decide) [u, State.inputShown]) .SNAP
  have hnext : exec (.powerInputChange b decivolts heldNs) s =
      .next (u.when (decide (s.f Reg.SNAP_SUPPLY (28 + 2 * b.toNat) 2 = 2 ∧ st ≠ 2) && u.on .SNAP) f) := by
    refine (next_if_pos ⟨halive, by simp [hq]⟩).trans ?_
    rw [hst]
    rfl
  have hfield (lo len : Nat) (c : Bool) : (u.when c f).f Reg.SNAP_SUPPLY lo len = u.f Reg.SNAP_SUPPLY lo len :=
    State.when_keeps (fun t => t.f Reg.SNAP_SUPPLY lo len) u c f
      ((faultNew_sees (recordBlind_f (by decide) lo len 0) _ _).trans (f_setBit_apart (r := Reg.SNAP_EVENT) (by decide) _ _ _ _ _ _ _ _ _ _ _))
  obtain ⟨hvolts, hstate⟩ := inputShown_shows s b decivolts (inputState_lt hst)
  refine ⟨_, hnext, (hfield _ _ _).trans hvolts, (hfield _ _ _).trans hstate, fun hgood hne hsnap => ?_, memKept_of ?_⟩
  · have hcond : (decide (s.f Reg.SNAP_SUPPLY (28 + 2 * b.toNat) 2 = 2 ∧ st ≠ 2) && u.on .SNAP) = true := by
      rw [hon, hsnap, Bool.and_true, decide_eq_true ⟨hgood, hne⟩]
    rw [hcond]
    exact (faultNew_sees (recordBlind_event (n := 3) (by decide) (by decide)) _ _).trans
      (State.bit_setBit_same u Reg.SNAP_EVENT 3 true 0 0 0 (by decide))
  · exact State.when_keeps State.mem u _ f (faultNew_sees recordBlind_mem _ _)

/-! ### Front cages (R605 to R607) -/

/-- The registers that the loss of a lane can change. -/
def lossRows : List RegRow := Reg.SNAP_EVENT :: (latchRows ++ (appendRows ++ linkRows))

/-- A reading of registers alone that sees none of those that the loss of a lane changes. -/
theorem linkBlind_of_rows (hw : Blind lossRows p) (h : ∀ s t : State, t.regs = s.regs → p t = p s) : LinkBlind p :=
  ⟨⟨⟨hw.mono (fun x hx => by simp [lossRows, hx]), fun _ => hw.raise (by simp [lossRows]) _ _ _ _,
      fun _ => hw.raise (by simp [lossRows]) _ _ _ _, hw.mono (fun x hx => by simp [lossRows, hx]), fun _ _ => h _ _ rfl,
      fun _ _ => h _ _ rfl, fun _ _ => h _ _ rfl, fun _ _ => h _ _ rfl⟩,
    hw.mono (fun x hx => by simp [lossRows, linkRows, hx]), fun _ _ => h _ _ rfl⟩,
    hw.mono (fun x hx => by simp [lossRows, hx]), fun _ _ => h _ _ rfl, fun _ _ => h _ _ rfl, fun _ _ => h _ _ rfl,
    fun _ _ => h _ _ rfl, fun _ _ => h _ _ rfl⟩

theorem rd_of_regs {s t : State} (h : t.regs = s.regs) (r : RegRow) (i j k : Nat) : t.rd r i j k = s.rd r i j k :=
  congrArg (fun x : AMap Word => AMap.get x r.reset (r.at i j k)) h

theorem linkBlind_rd {r : RegRow} (h : lossRows.all (fun x => r.apart x) = true) (i : Nat) : LinkBlind (fun t => t.rd r i) :=
  linkBlind_of_rows (blind_rd h i 0 0) (fun _ _ ht => rd_of_regs ht r i 0 0)

theorem cageDark_keeps (hl : LinkBlind p) (s : State) (k : Nat) : p (s.cageDark k) = p s :=
  State.forAll_keeps p _ (fun _ t => lockLost_keeps hl t _ _) s _

theorem live_of_on {s : State} {b : Block} (h : s.on b = true) : s.live = true := by
  simp only [State.on, Bool.and_eq_true] at h
  exact h.1.1

theorem cageDark_shows (s : State) (k : Nat) {n : Nat} :
    (s.cageDark k).rd Reg.LN_CAGE_STATUS k = s.rd Reg.LN_CAGE_STATUS k ∧
      (s.cageDark k).bit Reg.LN_CAGE_EVENT n = s.bit Reg.LN_CAGE_EVENT n ∧ (s.cageDark k).mem = s.mem :=
  ⟨cageDark_keeps (linkBlind_rd (by decide) k) s k,
    congrArg (·.getLsbD n) (cageDark_keeps (linkBlind_rd (r := Reg.LN_CAGE_EVENT) (by decide) 0) s k),
    cageDark_keeps linkBlind_mem s k⟩

/-- The status word of a cage with a plugged module. -/
def cageWord (cls : Nat) : Word := BitVec.ofNat 32 (1 + 16 * min cls 8 + (if decide (4 < min cls 8) then 1536 else 0))

theorem cageWord_shows : ∀ cls : Fin 16, (cageWord cls).getLsbD 0 = true ∧ fld (cageWord cls) 4 4 = min cls.val 8 ∧
    (cageWord cls).getLsbD 9 = decide (4 < min cls.val 8) := by decide

section
variable {s : State} (k : Fin 4) (hon : s.on .LN = true)
include hon

theorem cageInsert_shows (cls : Fin 16) (hempty : s.bit Reg.LN_CAGE_STATUS 0 k = false) :
    ∃ t, exec (.cageInsert k cls) s = .next t ∧ t.bit Reg.LN_CAGE_STATUS 0 k = true ∧
      t.f Reg.LN_CAGE_STATUS 4 4 k = min cls.val 8 ∧ t.bit Reg.LN_CAGE_STATUS 9 k = decide (4 < min cls.val 8) ∧
      t.bit Reg.LN_CAGE_EVENT k = true ∧
      RegsKept s t [Reg.LN_CAGE_STATUS.at k 0 0, Reg.LN_CAGE_EVENT.addr] ∧ MemKept s t := by
  let u := s.wr Reg.LN_CAGE_STATUS (cageWord cls) k
  let f : State → State := fun s => s.raise Reg.LN_CAGE_EVENT (8 + k.val)
  have hlive := live_of_on hon
  have hu : u.on .LN = true := (on_congr (s := s) (t := u) rfl (by simp (disch := decide) [u]) .LN).trans hon
  have hnext : exec (.cageInsert k cls) s = .next ((u.raise Reg.LN_CAGE_EVENT k).when (decide (4 < min cls.val 8)) f) :=
    (next_if_pos ⟨alive_of_live hlive, by simp [quiet_of_live hlive], by simp [hempty]⟩).trans (next_if_pos hu)
  have hword : ((u.raise Reg.LN_CAGE_EVENT k).when (decide (4 < min cls.val 8)) f).rd Reg.LN_CAGE_STATUS k = cageWord cls := by
    refine (State.when_keeps (fun t => t.rd Reg.LN_CAGE_STATUS k) _ _ f (rd_setBit_apart (by decide) _ _ _ _ _ _ _ _ _)).trans ?_
    exact (rd_setBit_apart (by decide) _ _ _ _ _ _ _ _ _).trans (State.rd_wr_same _ _ _ _ _ _)
  obtain ⟨hpresent, hclass, hlimit⟩ := cageWord_shows cls
  refine ⟨_, hnext, ?_, ?_, ?_, ?_, ?_, memKept_of ?_⟩
  · rw [State.bit, hword, hpresent]
  · rw [State.f, hword, hclass]
  · rw [State.bit, hword, hlimit]
  · refine (State.when_keeps (fun t => t.bit Reg.LN_CAGE_EVENT k) _ _ f (State.bit_setBit_bit _ _ _ _ _ _ _ _ (by omega))).trans ?_
    exact State.bit_setBit_same u Reg.LN_CAGE_EVENT k true 0 0 0 (by omega)
  · simp [u, f, raise_eq]
  · exact State.when_keeps State.mem _ _ f rfl

variable (hin : s.bit Reg.LN_CAGE_STATUS 0 k = true)
include hin

theorem cageRemove_shows : ∃ t, exec (.cageRemove k) s = .next t ∧ t.rd Reg.LN_CAGE_STATUS k = 0 ∧
    t.bit Reg.LN_CAGE_EVENT (4 + k) = true ∧ MemKept s t := by
  let u := s.wr Reg.LN_CAGE_STATUS 0 k
  have hlive := live_of_on hon
  have hu : u.on .LN = true := (on_congr (s := s) (t := u) rfl (by simp (disch := decide) [u]) .LN).trans hon
  have hnext : exec (.cageRemove k) s = .next ((u.raise Reg.LN_CAGE_EVENT (4 + k.val)).cageDark k) :=
    (next_if_pos ⟨alive_of_live hlive, by simp [quiet_of_live hlive], hin⟩).trans (next_if_pos hu)
  obtain ⟨hrd, hbit, hmem⟩ := cageDark_shows (u.raise Reg.LN_CAGE_EVENT (4 + k.val)) k (n := 4 + k.val)
  refine ⟨_, hnext, hrd.trans ?_, hbit.trans ?_, memKept_of hmem⟩
  · exact (rd_setBit_apart (by decide) _ _ _ _ _ _ _ _ _).trans (State.rd_wr_same _ _ _ _ _ _)
  · exact State.bit_setBit_same u Reg.LN_CAGE_EVENT (4 + k.val) true 0 0 0 (by omega)

theorem cagePowerFault_shows {heldNs : Nat} (hheld : 1000000 ≤ heldNs) (hgood : s.bit Reg.LN_CAGE_STATUS 8 k = false) :
    ∃ t, exec (.cagePowerFault k heldNs) s = .next t ∧ t.bit Reg.LN_CAGE_STATUS 8 k = true ∧
      t.bit Reg.LN_CAGE_EVENT (8 + k) = true ∧ MemKept s t := by
  let u := s.setBit Reg.LN_CAGE_STATUS 8 true k
  obtain ⟨hrd, hbit, hmem⟩ := cageDark_shows (u.raise Reg.LN_CAGE_EVENT (8 + k.val)) k (n := 8 + k.val)
  have hnext : exec (.cagePowerFault k heldNs) s = .next ((u.raise Reg.LN_CAGE_EVENT (8 + k.val)).cageDark k) :=
    next_if_pos ⟨hon, hin, by simp [hgood], hheld⟩
  refine ⟨_, hnext, ?_, hbit.trans ?_, memKept_of hmem⟩
  · rw [State.bit, hrd]
    exact (congrArg (·.getLsbD 8) (rd_setBit_apart (r := Reg.LN_CAGE_EVENT) (by decide) _ _ _ _ _ _ _ _ _)).trans
      (State.bit_setBit_same s Reg.LN_CAGE_STATUS 8 true k 0 0 (by decide))
  · exact State.bit_setBit_same u Reg.LN_CAGE_EVENT (8 + k.val) true 0 0 0 (by omega)

theorem cageInterrupt_shows : ∃ t, exec (.cageInterrupt k) s = .next t ∧ t.bit Reg.LN_CAGE_STATUS 1 k = true ∧
    t.bit Reg.LN_CAGE_EVENT (12 + k) = true ∧ RegsKept s t [Reg.LN_CAGE_STATUS.at k 0 0, Reg.LN_CAGE_EVENT.addr] ∧
    MemKept s t := by
  refine ⟨_, next_if_pos ⟨hon, hin⟩, ?_, ?_, ?_, memKept_of rfl⟩
  · simp (disch := decide) [raise_eq]
  · exact State.bit_setBit_same _ _ _ _ _ _ _ (by omega)
  · simp [raise_eq]

end

/-- Settles O30: restarts, supplies and cages, each by what its step shows. -/
theorem cpRestartsSuppliesAndCages : Obligations.CpRestartsSuppliesAndCages := by
  unfold Obligations.CpRestartsSuppliesAndCages
  exact ⟨fun s reason pc => watchdog_restarts, fun s => warmRestart_serves, fun s b decivolts heldNs st => powerInput_shows,
    fun s k hon => ⟨cageInsert_shows k hon, fun hin => ⟨cageRemove_shows k hon hin, fun heldNs => cagePowerFault_shows k hon hin,
      cageInterrupt_shows k hon hin⟩⟩⟩

end Sys2Proof.Machine
end

section
/-!
PTP messages and the position histories (spec/18_network_time.md, R521 to R523, R531).
-/
namespace Sys2Proof.Machine

open Sys2Proof

/-! ### Messages received (R521 to R524) -/

theorem ptpDropped_shows {s : State} {mac : Fin 8} {msg : PtpMsg} (hon : s.on .TIME = true) (h : s.ptpAccepts mac msg = false) :
    ∃ t, exec (.ptpReceive mac msg) s = .next t ∧
      (t.rd Reg.TIME_CNT 4).toNat = min ((s.rd Reg.TIME_CNT 4).toNat + 1) 0xFFFFFFFF ∧ t.time = s.time ∧
      RegsKept s t [Reg.TIME_CNT.at 4 0 0] ∧ MemKept s t := by
  have hnext : exec (.ptpReceive mac msg) s = .next (s.bumpBy 1 Reg.TIME_CNT 4) :=
    (next_if_pos hon).trans (next_if_neg (by simp [h]))
  exact ⟨_, hnext, rd_bumpBy_same s 1 Reg.TIME_CNT 4 0, rfl, by simp, memKept_of rfl⟩

/-- A two-step Sync as a slave takes it. -/
def State.syncTaken (s : State) (origin stamp : DWord) : State :=
  let t := s.bumpBy 1 Reg.TIME_CNT 1
  { t with time := { t.time with lastSync := some s.raw, t1 := origin, t2 := stamp, syncWaits := true } }

theorem ptpSync_twoStep {s : State} {m : PtpMsg} (htwo : m.twoStep = true) (hslave : s.ptpState = 3) (hcp : s.core.cp = .running)
    (stamp : DWord) : s.ptpSync m stamp = s.syncTaken m.origin stamp := by
  have hstate : (s.bumpBy 1 Reg.TIME_CNT 1).ptpState = 3 := (f_bumpBy_apart (by decide) _ _ _ _ _ _ _ _ _).trans hslave
  unfold State.ptpSync
  extract_lets t src s1 src2 s2
  have hpass : (s1.ptpState = 2 ∨ s1.ptpState = 3) ∧ s1.core.cp = .running := ⟨.inr hstate, hcp⟩
  rw [if_pos hpass, if_pos htwo]
  simp only [s2, src2, htwo]
  rfl

theorem ptpSync_shows {s : State} {mac : Fin 8} {msg : PtpMsg} (hon : s.on .TIME = true) (h : s.ptpAccepts mac msg = true)
    (hkind : msg.kind = .sync) (htwo : msg.twoStep = true) (hslave : s.ptpState = 3) (hcp : s.core.cp = .running) :
    ∃ t, exec (.ptpReceive mac msg) s = .next t ∧ t.time.t1 = msg.origin ∧ t.time.t2 = s.rxStamp mac ∧
      t.time.lastSync = some s.raw ∧ t.time.syncWaits = true ∧ t.now = s.now ∧
      RegsKept s t [Reg.TIME_CNT.at 1 0 0] ∧ MemKept s t := by
  have htake : s.ptpTake mac msg = s.syncTaken msg.origin (s.rxStamp mac) := by
    rw [State.ptpTake, hkind]
    exact ptpSync_twoStep htwo hslave hcp _
  have hnext : exec (.ptpReceive mac msg) s = .next (s.syncTaken msg.origin (s.rxStamp mac)) :=
    (next_if_pos hon).trans ((next_if_pos h).trans (congrArg _ htake))
  refine ⟨_, hnext, rfl, rfl, rfl, rfl, now_wr_apart (by decide) s _ _ _ _, ?_, memKept_of rfl⟩
  exact regsKept_of_regs (t := s.bumpBy 1 Reg.TIME_CNT 1) rfl (by simp)

/-! ### Messages sent (R522) -/

/-- What a message sent on its interval leaves. -/
theorem ptpSend_shows (s : State) (slot : Nat) (k : PtpKind) :
    ((s.ptpSend slot k).mac s.ptpMac).txq = (s.mac s.ptpMac).txq ++ [{ cls := 1, tag := .ptp k, data := [] }] ∧
      AMap.look (s.ptpSend slot k).time.lastSent slot = some s.raw ∧ (s.ptpSend slot k).regs = s.regs ∧
      MemKept s (s.ptpSend slot k) :=
  ⟨congrArg MacSt.txq (AMap.get_store_same _ _ _ _), AMap.look_put_same _ _ _, rfl, memKept_of rfl⟩

theorem timeUnlock_now (s : State) : s.timeUnlock.now = s.now := by
  unfold State.timeUnlock
  extract_lets src s1
  split
  · rw [bump_eq, State.bumpBy, now_wr_apart (by decide), raise_eq, State.setBit, now_wr_apart (by decide), State.setBit,
      now_wr_apart (by decide)]
    rfl
  · rfl

section
variable {s : State} (hptp : s.ptpOn = true)
include hptp

theorem ptpSyncSend_shows (hmaster : s.ptpState = 4)
    (hdue : s.ptpDue 0 (logNs (clampI (-7) 4 (sfld (s.rd Reg.TIME_PTP_INTERVAL) 0 8))) = true) :
    ∃ t, exec .ptpSyncSend s = .next t ∧
      (t.mac s.ptpMac).txq = (s.mac s.ptpMac).txq ++ [{ cls := 1, tag := .ptp .sync, data := [] }] ∧
      AMap.look t.time.lastSent 0 = some s.raw ∧ RegsKept s t [Reg.TIME_CNT.at 2 0 0] ∧ MemKept s t := by
  obtain ⟨htx, hsent, hregs, hmem⟩ := ptpSend_shows s 0 .sync
  refine ⟨_, next_if_pos ⟨hptp, hmaster, hdue⟩, htx, hsent, ?_, hmem⟩
  exact (regsKept_bumpBy (by simp)).2 (regsKept_of hregs)

theorem ptpAnnounceSend_shows (hmaster : s.ptpState = 4) (hdue : s.ptpDue 1 (logNs (sfld (s.rd Reg.TIME_PTP_INTERVAL) 8 8)) = true) :
    ∃ t, exec .ptpAnnounceSend s = .next t ∧
      (t.mac s.ptpMac).txq = (s.mac s.ptpMac).txq ++ [{ cls := 1, tag := .ptp .announce, data := [] }] ∧
      t.regs = s.regs ∧ MemKept s t := by
  obtain ⟨htx, -, hregs, hmem⟩ := ptpSend_shows s 1 .announce
  exact ⟨_, next_if_pos ⟨hptp, hmaster, hdue⟩, htx, hregs, hmem⟩

theorem ptpDelayReqSend_shows (hdue : s.ptpDue 2 (logNs (sfld (s.rd Reg.TIME_PTP_INTERVAL) 16 8)) = true)
    (hwho : 1 ≤ s.ptpProfile ∨ s.ptpState = 3) :
    ∃ t, exec .ptpDelayReqSend s = .next t ∧
      (t.mac s.ptpMac).txq = (s.mac s.ptpMac).txq ++
        [{ cls := 1, tag := .ptp (if 1 ≤ s.ptpProfile then .pdelayReq else .delayReq), data := [] }] ∧
      t.regs = s.regs ∧ MemKept s t := by
  by_cases hpeer : 1 ≤ s.ptpProfile
  · obtain ⟨htx, -, hregs, hmem⟩ := ptpSend_shows s 2 .pdelayReq
    rw [if_pos hpeer]
    exact ⟨_, (next_if_pos ⟨hptp, hdue⟩).trans (next_if_pos hpeer), htx, hregs, hmem⟩
  · obtain ⟨htx, -, hregs, hmem⟩ := ptpSend_shows s 2 .delayReq
    rw [if_neg hpeer]
    have hslave : s.ptpState = 3 := hwho.resolve_left hpeer
    exact ⟨_, (next_if_pos ⟨hptp, hdue⟩).trans ((next_if_neg hpeer).trans (next_if_pos hslave)), htx, hregs, hmem⟩

theorem announceTimeout_shows {last : DWord} (hlast : s.time.lastSync = some last)
    (hlong : max 2 (s.f Reg.TIME_PTP_INTERVAL 24 8) * logNs (sfld (s.rd Reg.TIME_PTP_INTERVAL) 8 8) ≤ s.since last) :
    ∃ t, exec .announceTimeout s = .next t ∧ t.bit Reg.TIME_STATUS 1 = false ∧ t.now = s.now ∧ MemKept s t := by
  have hnext : exec .announceTimeout s = .next s.timeUnlock := by
    change execAnnounceTimeout s = _
    unfold execAnnounceTimeout
    rw [hlast]
    exact next_if_pos ⟨hptp, hlong⟩
  exact ⟨_, hnext, timeUnlock_unlocked s, timeUnlock_now s,
    memKept_of (timeUnlock_keeps (p := State.mem) (fun _ _ => rfl) (fun _ => rfl) s)⟩

end

/-! ### Position histories (R531) -/

/-- A key that passes the filter is found as before. -/
theorem look_filter_key {β : Type} (m : AMap β) (f : Nat → Bool) {a : Nat} (h : f a = true) :
    AMap.look (List.filter (fun p => f p.1) m) a = AMap.look m a := by
  induction m with
  | nil => rfl
  | cons e t ih =>
    obtain ⟨k, v⟩ := e
    by_cases hk : a = k
    · subst hk
      simp [List.filter, h, AMap.look]
    · cases hf : f k <;> simp [List.filter, hf, AMap.look, hk, ih]

/-- The entry that a channel writes now. -/
def State.histEntry (s : State) (n : Nat) : HistEnt :=
  { pos := (s.enc n).pos, unknown := s.bit Reg.ENC_STATUS 0 n, epoch := (s.enc n).epoch }

theorem histWrite_entry {s : State} {n : Nat} (h : s.f Reg.ENC_CFG 0 2 n ≠ 0) :
    AMap.look (AMap.get (s.histWrite n).time.hist [] n) (s.raw.toNat / 1000) = some (s.histEntry n) := by
  unfold State.histWrite
  rw [if_neg h]
  have hget (m : AMap (AMap HistEnt)) (x : AMap HistEnt) : AMap.get (AMap.put m n x) [] n = x := by
    rw [AMap.get, AMap.look_put_same]
    rfl
  exact (congrArg (AMap.look · _) (hget _ _)).trans ((look_filter_key _ (fun k => decide (s.raw.toNat / 1000 < k + 65536))
    (by simp)).trans (AMap.look_put_same _ _ _))

theorem histWrite_other (s : State) {k n : Nat} (h : n ≠ k) :
    AMap.get (s.histWrite k).time.hist [] n = AMap.get s.time.hist [] n := by
  unfold State.histWrite
  split
  · rfl
  · have hget (m : AMap (AMap HistEnt)) (x : AMap HistEnt) : AMap.get (AMap.put m k x) [] n = AMap.get m [] n := by
      rw [AMap.get, AMap.get, AMap.look_put_other _ _ h]
    exact hget _ _

/-- What an entry is made of, and the memory, as a history entry of another channel leaves them. -/
theorem histWrite_keeps {β : Type} {p : State → β} (h : ∀ (s : State) x, p { s with time := x } = p s) (s : State) (n : Nat) :
    p (s.histWrite n) = p s := ite_keeps rfl (h _ _)

theorem historyEntry_shows {s : State} {n : Fin 4} (hon : s.on .TIME = true) (hus : s.raw.toNat % 1000 = 0)
    (henc : s.f Reg.ENC_CFG 0 2 n ≠ 0) :
    ∃ t, exec .historyEntry s = .next t ∧
      AMap.look (AMap.get t.time.hist [] n) (s.raw.toNat / 1000) = some (s.histEntry n) ∧ t.regs = s.regs ∧ MemKept s t := by
  have hsplit : ∀ n : Fin 4, upTo 4 = upTo n ++ [n.val] ++ (upTo 4).drop (n.val + 1) := by decide
  have hafter : ∀ n : Fin 4, ∀ k ∈ (upTo 4).drop (n.val + 1), n.val ≠ k := by decide
  have hall {β : Type} {p : State → β} (h : ∀ (s : State) x, p { s with time := x } = p s) (l : List Nat) (s : State) :
      p (s.forAll l (fun n s => s.histWrite n)) = p s := State.forAll_keeps p _ (fun n t => histWrite_keeps h t n) s l
  refine ⟨_, next_if_pos ⟨hon, hus⟩, ?_, hall (p := State.regs) (fun _ _ => rfl) _ _,
    memKept_of (hall (p := State.mem) (fun _ _ => rfl) _ _)⟩
  rw [hsplit n, forAll_append, forAll_append, forAll_singleton]
  refine (congrArg (AMap.look · _) (forAll_keeps_mem (fun t => AMap.get t.time.hist [] n.val) (l := (upTo 4).drop (n.val + 1))
    (f := fun k t => t.histWrite k) (fun k hk t => histWrite_other t (hafter n k hk)) _)).trans ?_
  have hraw := hall (p := State.raw) (fun _ _ => rfl) (upTo n) s
  have hcfg := hall (p := fun t => t.f Reg.ENC_CFG 0 2 n) (fun _ _ => rfl) (upTo n) s
  have hentry := hall (p := fun t => t.histEntry n) (fun _ _ => rfl) (upTo n) s
  rw [← hraw, ← hentry]
  exact histWrite_entry (by rw [hcfg]; exact henc)

/-- Settles O32: the port's messages and the histories, each by what its step shows. -/
theorem ptpMessagesAndHistories : Obligations.PtpMessagesAndHistories := by
  unfold Obligations.PtpMessagesAndHistories
  exact ⟨fun s mac msg hon => ⟨ptpDropped_shows hon, ptpSync_shows hon⟩,
    fun s hptp => ⟨ptpSyncSend_shows hptp, ptpAnnounceSend_shows hptp, ptpDelayReqSend_shows hptp,
      fun last => announceTimeout_shows hptp⟩,
    fun s n => historyEntry_shows⟩

end Sys2Proof.Machine
end

section
/-!
Mailbox commands (spec/16_host_link_and_mailboxes.md, R460, R473 to R476): how a command is served, and the commands that
report.
-/
namespace Sys2Proof.Machine

open Sys2Proof

/-! ### A command is served (R460, R473, R474, R553) -/

/-- What is known of a module that serves the command of an opcode in a mailbox. -/
structure Served (s : State) (m op : Nat) : Prop where
  can : s.canServe m = true
  running : s.core.cp = .running
  opcode : s.cmdOp m = op
  known : knownOps.contains op = true
  reserved : natLE (s.mailBytes m 8 8) = 0
  inS2 : s.power ≠ 2 ∨ opInS2 op = true

section
variable {s : State} {m op : Nat}

theorem served_of_serves {len : Nat → Bool} (h : s.serves m op len = true) : Served s m op ∧ len (s.cmdLen m) = true := by
  simp only [State.serves, Bool.and_eq_true, decide_eq_true_eq, Bool.or_eq_true, Bool.not_eq_true', decide_eq_false_iff_not] at h
  obtain ⟨⟨⟨⟨⟨⟨hcan, hrun⟩, hop⟩, hknown⟩, hlen⟩, hres⟩, hpow⟩ := h
  exact ⟨⟨hcan, hrun, hop, hknown, hres, hpow⟩, hlen⟩

theorem Served.live (h : Served s m op) : s.live = true ∧ s.power ≠ 3 ∧ s.mbState m = 1 := by
  have hcan := h.can
  simp only [State.canServe, Bool.and_eq_true, decide_eq_true_eq] at hcan
  exact ⟨hcan.1.1.1.1, hcan.1.1.1.2, hcan.1.2⟩

/-- A length that the opcode does not have. -/
def badLength (len : Option Nat) (n : Nat) : Bool := (len.map (fun k => decide (k ≠ n))).getD (decide (4080 < n))

theorem command_serves (h : Served s m op) {len : Option Nat} (hlen : badLength len (s.cmdLen m) = false) {pick : Bool}
    (hpick : pick = true) (f : State → State) : s.command m op len pick f = f s := by
  have hS2 : ¬ (s.power = 2 ∧ (!opInS2 op) = true) := by
    rintro ⟨hp, hno⟩
    rcases h.inS2 with h2 | h2
    · exact h2 hp
    · simp [h2] at hno
  unfold State.command
  rw [if_neg (by simp [h.can]), if_neg (by simp [h.running]), h.opcode, if_neg (by rw [h.known]; decide), if_neg (by simp [hpick])]
  unfold badLength at hlen
  rw [if_neg (by rw [hlen]; decide), if_neg (by simp [h.reserved]), if_neg hS2]

theorem command_badLength (h : Served s m op) {len : Option Nat} (hlen : badLength len (s.cmdLen m) = true) {pick : Bool}
    (hpick : pick = true) (f : State → State) : s.command m op len pick f = s.answer m S_BAD_LENGTH := by
  unfold State.command
  rw [if_neg (by simp [h.can]), if_neg (by simp [h.running]), h.opcode, if_neg (by rw [h.known]; decide), if_neg (by simp [hpick])]
  unfold badLength at hlen
  rw [if_pos hlen]

theorem command_unknown (hcan : s.canServe m = true) (hrun : s.core.cp = .running)
    (hunknown : knownOps.contains (s.cmdOp m) = false) (len : Option Nat) (pick : Bool) (f : State → State) :
    s.command m op len pick f = s.answer m S_UNKNOWN_COMMAND := by
  unfold State.command
  rw [if_neg (by simp [hcan]), if_neg (by simp [hrun]), if_pos (by simpa using hunknown)]

/-- A command of a fixed length is served with its effect. -/
theorem serves_exact {n : Nat} (h : s.serves m op (fun k => decide (k = n)) = true) {pick : Bool} (hpick : pick = true)
    (f : State → State) : s.command m op (some n) pick f = f s := by
  obtain ⟨hs, hlen⟩ := served_of_serves h
  refine command_serves hs ?_ hpick f
  simp only [decide_eq_true_eq] at hlen
  simp [badLength, hlen]

theorem fields_ok {ok : Bool} (h : ok = true) (f : State → State) : s.fields m ok f = f s := if_pos h

end

/-! ### Replies -/

theorem fitBytes_length (n : Nat) (l : List Byte) : (fitBytes n l).length = n := by
  simp only [fitBytes, List.length_append, List.length_take, List.length_replicate]
  omega

/-- Bytes within the length kept and within what was there are as they were. -/
theorem fitBytes_take {k n : Nat} {l : List Byte} (hn : k ≤ n) (hl : k ≤ l.length) : (fitBytes n l).take k = l.take k := by
  rw [fitBytes, List.take_append_of_le_length (by simp; omega), List.take_take, Nat.min_eq_left hn]

theorem fitBytes_self {n : Nat} {l : List Byte} (h : l.length = n) : fitBytes n l = l := by
  simp [fitBytes, h, List.take_of_length_le (Nat.le_of_eq h)]

section
variable {s : State} (hcp : s.core.cp = .running ∨ s.core.cp = .recovery) {m status : Nat} {payload : List Byte} {d0 d1 : Nat}
include hcp

/-- LENGTH of a reply. -/
theorem answer_length (h : payload.length < 65536) : natLE ((s.answer m status payload d0 d1).mailBytes m 2 2) = payload.length := by
  rw [answer_mailBytes hcp (by omega) (by omega)]
  have hbytes : ((s.replyBytes m status payload d0 d1).drop 2).take 2 = bytesLE 2 payload.length := by
    simp only [State.replyBytes, List.append_assoc]
    rw [List.drop_left' (by simp), List.take_left' (by simp)]
  rw [hbytes, natLE_bytesLE]
  exact Nat.mod_eq_of_lt h

/-- The first detail of a reply. -/
theorem answer_detail (h : d0 < 4294967296) : natLE ((s.answer m status payload d0 d1).mailBytes m 8 4) = d0 := by
  rw [answer_mailBytes hcp (by omega) (by omega)]
  have hbytes : ((s.replyBytes m status payload d0 d1).drop 8).take 4 = bytesLE 4 d0 := by
    have hsplit : s.replyBytes m status payload d0 d1 =
        (bytesLE 2 status ++ bytesLE 2 payload.length ++ s.mailBytes m 4 4) ++ (bytesLE 4 d0 ++ (bytesLE 4 d1 ++ payload)) := by
      simp [State.replyBytes]
    rw [hsplit, List.drop_left' (by simp [mailBytes_length]), List.take_left' (by simp)]
  rw [hbytes, natLE_bytesLE]
  exact Nat.mod_eq_of_lt h

/-- The first bytes of a payload. -/
theorem answer_payload_first {n : Nat} (hn : n ≤ payload.length) (hend : n ≤ 4080) :
    (s.answer m status payload d0 d1).mailBytes m 16 n = payload.take n :=
  answer_payload hcp (k := 0) (by omega) (by omega)

/-- The first word of a payload. -/
theorem answer_word {w : Nat} (hw : w < 4294967296) (h : payload.take 4 = bytesLE 4 w)
    (hlen : 4 ≤ payload.length) : natLE ((s.answer m status payload d0 d1).mailBytes m 16 4) = w := by
  rw [answer_payload_first hcp hlen (by decide), h, natLE_bytesLE]
  exact Nat.mod_eq_of_lt hw

end

/-- A reply changes the mail, the bells and the journal of the host link. -/
theorem answer_host (s : State) (m status : Nat) (payload : List Byte) (d0 d1 : Nat) :
    ∃ mail bells journal, (s.answer m status payload d0 d1).host =
      { s.host with mail := mail, bells := bells, journal := journal } := by
  unfold State.answer State.mailReply
  split
  · exact ⟨_, _, _, bellServed_keeps (p := State.host) (fun _ _ _ _ _ _ _ => rfl) (fun _ _ => rfl) _ _⟩
  · exact ⟨_, _, _, rfl⟩

theorem answer_generation (s : State) (m status : Nat) (payload : List Byte) (d0 d1 : Nat) :
    (s.answer m status payload d0 d1).host.generation = s.host.generation ∧
      (s.answer m status payload d0 d1).host.summary = s.host.summary := by
  obtain ⟨mail, bells, journal, h⟩ := answer_host s m status payload d0 d1
  rw [h]
  exact ⟨rfl, rfl⟩

theorem answer_job (s : State) (m status : Nat) (payload : List Byte) (d0 d1 : Nat) :
    (s.answer m status payload d0 d1).job = s.job :=
  answer_keeps (p := State.job) (fun _ _ _ _ _ _ _ => rfl) (fun _ _ => rfl) (fun _ _ => rfl) _ _ _ _ _ _

theorem answer_sees_encs (s : State) (m status : Nat) (payload : List Byte) (d0 d1 : Nat) :
    (s.answer m status payload d0 d1).encs = s.encs :=
  answer_keeps (p := State.encs) (fun _ _ _ _ _ _ _ => rfl) (fun _ _ => rfl) (fun _ _ => rfl) _ _ _ _ _ _

theorem answer_sees_wt (s : State) (m status : Nat) (payload : List Byte) (d0 d1 : Nat) :
    (s.answer m status payload d0 d1).wt = s.wt :=
  answer_keeps (p := State.wt) (fun _ _ _ _ _ _ _ => rfl) (fun _ _ => rfl) (fun _ _ => rfl) _ _ _ _ _ _

/-- A reply raises the event of its mailbox. -/
theorem answer_event {s : State} (hcp : s.core.cp = .running ∨ s.core.cp = .recovery) {m : Nat} (hm : m < 32) (status : Nat)
    (payload : List Byte) (d0 d1 : Nat) : (s.answer m status payload d0 d1).bit Reg.F1_EVENT m = true := by
  have hbell (t : State) : (t.bellServed m).bit Reg.F1_EVENT m = t.bit Reg.F1_EVENT m :=
    bellServed_keeps (p := fun t => t.bit Reg.F1_EVENT m) (blind_bit (by decide) m 0 0 0) (fun _ _ => rfl) t m
  rw [answer_running hcp, State.mailReply, hbell, bump_eq, bit_bumpBy_apart (by decide)]
  exact State.bit_setBit_same _ _ m true 0 0 0 hm

/-! ### Commands that report (R458, R476, R577, R594) -/

/-- A reply in the state of the command, with the registers of a reply alone changed. -/
theorem answer_reports {s : State} (hcp : s.core.cp = .running) (m : Fin 16) {status : Nat} (hst : status < 65536)
    (payload : List Byte) (d0 d1 : Nat) : (s.answer m status payload d0 d1).replied m status ∧
      RegsKept s (s.answer m status payload d0 d1) replyRegs ∧ MemKept s (s.answer m status payload d0 d1) :=
  ⟨answer_replied (.inl hcp) m.isLt hst payload d0 d1, answer_regsKept (regsKept_refl _ _) (fun _ ha => ha) _ _ _ _ _,
    memKept_of (answer_mem _ _ _ _ _ _)⟩

section
variable {s : State} (m : Fin 16)

theorem nop_replies (h : s.serves m 1 (fun n => decide (n = 0)) = true) :
    ∃ t, exec (.nop m) s = .next t ∧ t.replied m S_OK ∧ t.bit Reg.F1_EVENT m = true ∧ t.encs = s.encs ∧ t.wt = s.wt ∧
      t.job = s.job ∧ RegsKept s t replyRegs ∧ MemKept s t := by
  have hcp := (served_of_serves h).1.running
  obtain ⟨hreplied, hregs, hmem⟩ := answer_reports hcp m (status := S_OK) (by decide) [] 0 0
  have hnext : exec (.nop m) s = .next (s.answer m S_OK) := congrArg Host.Outcome.next (serves_exact h rfl _)
  exact ⟨_, hnext, hreplied, answer_event (.inl hcp) (by omega) _ _ _ _, answer_sees_encs _ _ _ _ _ _,
    answer_sees_wt _ _ _ _ _ _, answer_job _ _ _ _ _ _, hregs, hmem⟩

theorem nop_badLength (h : s.serves m 1 (fun n => decide (n ≠ 0)) = true) :
    ∃ t, exec (.nop m) s = .next t ∧ t.replied m S_BAD_LENGTH ∧ RegsKept s t replyRegs ∧ MemKept s t := by
  obtain ⟨hs, hlen⟩ := served_of_serves h
  have hbad : badLength (some 0) (s.cmdLen m) = true := decide_eq_true (Ne.symm (of_decide_eq_true hlen))
  have hnext : exec (.nop m) s = .next (s.answer m S_BAD_LENGTH) :=
    congrArg Host.Outcome.next (command_badLength hs hbad rfl _)
  exact ⟨_, hnext, answer_reports hs.running m (by decide) [] 0 0⟩

theorem nop_unknown (hcan : s.canServe m = true) (hrun : s.core.cp = .running)
    (hunknown : knownOps.contains (s.cmdOp m) = false) :
    ∃ t, exec (.nop m) s = .next t ∧ t.replied m S_UNKNOWN_COMMAND ∧ RegsKept s t replyRegs ∧ MemKept s t := by
  have hnext : exec (.nop m) s = .next (s.answer m S_UNKNOWN_COMMAND) :=
    congrArg Host.Outcome.next (command_unknown hcan hrun hunknown _ _ _)
  exact ⟨_, hnext, answer_reports hrun m (by decide) [] 0 0⟩

/-- The state whose summary is taken: a snapshot has been triggered and the generation has risen. -/
def State.summarised (s : State) : State :=
  let t := s.snapFire 0
  { t with host := { t.host with generation := t.host.generation + 1 } }

/-- The summary is kept for its later parts. -/
def State.summaryKept (s : State) : State := { s with host := { s.host with summary := some s.summaryBytes } }

theorem summarised_keeps {β : Type} {p : State → β} (hw : Blind snapRows p) (hs : ∀ (s : State) x, p { s with snap := x } = p s)
    (hh : ∀ (s : State) x, p { s with host := x } = p s) (s : State) : p s.summarised.summaryKept = p s :=
  (hh _ _).trans ((hh _ _).trans (snapFire_keeps hw hs s 0))

theorem summarised_generation (s : State) : s.summarised.host.generation = s.host.generation + 1 := by
  have hhost : (s.snapFire 0).host = s.host := snapFire_keeps (p := State.host) (fun _ _ _ _ _ _ _ => rfl) (fun _ _ => rfl) s 0
  exact congrArg (fun x : HostSt => x.generation + 1) hhost

/-- The summary begins with its magic word. -/
theorem summary_begins (s : State) : (summaryPart s.summaryBytes 0).take 4 = bytesLE 4 0x53535649 ∧
    4 ≤ (summaryPart s.summaryBytes 0).length := by
  have hheader : s.summaryHeader.length = 256 := fitBytes_length _ _
  have hlong : 256 ≤ s.summaryBytes.length := by
    simp only [State.summaryBytes, List.length_append, hheader]
    omega
  constructor
  · rw [summaryPart, Nat.mul_zero, List.drop_zero, List.take_take, Nat.min_eq_left (by decide)]
    have hfirst : s.summaryBytes.take 4 = s.summaryHeader.take 4 := by
      simp only [State.summaryBytes, List.append_assoc]
      rw [List.take_append_of_le_length (by omega)]
    rw [hfirst, State.summaryHeader, fitBytes_take (by decide) (by simp)]
    simp only [List.append_assoc]
    rw [List.take_left' (by simp)]
  · simp only [summaryPart, Nat.mul_zero, List.drop_zero, List.length_take]
    omega

theorem stateSummary_replies (h : s.serves m 2 (fun n => decide (n = 4)) = true) (hpart : s.arg m 0 1 = 0) (hzero : s.arg m 1 3 = 0) :
    ∃ t, exec (.stateSummary m) s = .next t ∧ t.replied m S_OK ∧ t.host.generation = s.host.generation + 1 ∧
      t.host.summary.isSome = true ∧ natLE (t.mailBytes m 8 4) = 12240 ∧ natLE (t.mailBytes m 16 4) = 0x53535649 ∧
      t.encs = s.encs ∧ t.wt = s.wt ∧ MemKept s t := by
  let u := s.summarised.summaryKept
  have hcp : u.core.cp = .running := (congrArg (·.cp) (summarised_keeps (p := State.core) (fun _ _ _ _ _ _ _ => rfl)
    (fun _ _ => rfl) (fun _ _ => rfl) s)).trans (served_of_serves h).1.running
  have hnext : exec (.stateSummary m) s =
      .next (u.answer m S_OK (summaryPart s.summarised.summaryBytes 0) 12240 u.host.generation.toNat) := by
    refine congrArg _ ((serves_exact h (by rw [decide_eq_true hpart]) _).trans (fields_ok (by rw [decide_eq_true hzero]) _))
  obtain ⟨hgen, hsum⟩ := answer_generation u m S_OK (summaryPart s.summarised.summaryBytes 0) 12240 u.host.generation.toNat
  obtain ⟨hfirst, hlong⟩ := summary_begins s.summarised
  refine ⟨_, hnext, answer_replied (.inl hcp) m.isLt (by decide) _ _ _, hgen.trans (summarised_generation s), ?_,
    answer_detail (.inl hcp) (by decide), answer_word (.inl hcp) (by decide) hfirst hlong, ?_, ?_, memKept_of ?_⟩
  · rw [hsum]
    rfl
  · exact (answer_sees_encs _ _ _ _ _ _).trans (summarised_keeps (p := State.encs) (fun _ _ _ _ _ _ _ => rfl) (fun _ _ => rfl)
      (fun _ _ => rfl) s)
  · exact (answer_sees_wt _ _ _ _ _ _).trans (summarised_keeps (p := State.wt) (fun _ _ _ _ _ _ _ => rfl) (fun _ _ => rfl)
      (fun _ _ => rfl) s)
  · exact (answer_mem _ _ _ _ _ _).trans (summarised_keeps (p := State.mem) (fun _ _ _ _ _ _ _ => rfl) (fun _ _ => rfl)
      (fun _ _ => rfl) s)

theorem stateSummaryPart_replies {sum : List Byte} (h : s.serves m 2 (fun n => decide (n = 4)) = true)
    (hpart : s.arg m 0 1 = 1 ∨ s.arg m 0 1 = 2) (hzero : s.arg m 1 3 = 0) (hsum : s.host.summary = some sum) :
    ∃ t, exec (.stateSummaryPart m) s = .next t ∧ t.replied m S_OK ∧
      t.mailBytes m 16 (summaryPart sum (s.arg m 0 1)).length = summaryPart sum (s.arg m 0 1) ∧
      t.host.generation = s.host.generation ∧ RegsKept s t replyRegs ∧ MemKept s t := by
  have hcp := (served_of_serves h).1.running
  have hpick : decide (s.arg m 0 1 ≠ 0) = true := decide_eq_true (by omega)
  have hfields : (decide (s.arg m 0 1 ≤ 2) && decide (s.arg m 1 3 = 0)) = true := by
    rw [decide_eq_true hzero, decide_eq_true (by omega : s.arg m 0 1 ≤ 2)]
    rfl
  have hnext : exec (.stateSummaryPart m) s =
      .next (s.answer m S_OK (summaryPart sum (s.arg m 0 1)) 12240 s.host.generation.toNat) := by
    refine congrArg _ ((serves_exact h hpick _).trans ((fields_ok hfields _).trans ?_))
    rw [hsum]
  have hshort : (summaryPart sum (s.arg m 0 1)).length ≤ 4080 := by
    simp only [summaryPart, List.length_take]
    omega
  obtain ⟨hreplied, hregs, hmem⟩ := answer_reports hcp m (status := S_OK) (by decide) (summaryPart sum (s.arg m 0 1)) 12240
    s.host.generation.toNat
  refine ⟨_, hnext, hreplied, ?_, (answer_generation _ _ _ _ _ _).1, hregs, hmem⟩
  rw [answer_payload_first (.inl hcp) (Nat.le_refl _) hshort, List.take_length]

/-- A reply that carries a register's word. -/
theorem wordReply_shows {u : State} (hcp : u.core.cp = .running) (r : RegRow) :
    (u.answer m S_OK (bytesLE 4 (u.rd r).toNat)).replied m S_OK ∧
      natLE ((u.answer m S_OK (bytesLE 4 (u.rd r).toNat)).mailBytes m 16 4) = (u.rd r).toNat :=
  ⟨answer_replied (.inl hcp) m.isLt (by decide) _ _ _,
    answer_word (.inl hcp) (BitVec.isLt _) (List.take_of_length_le (by simp)) (by simp)⟩

theorem snapshot_replies (h : s.serves m 7 (fun n => decide (n = 0)) = true) (hon : s.on .SNAP = true)
    (harmed : s.f Reg.SNAP_STATUS 0 2 = 0) :
    ∃ t, exec (.snapshot m) s = .next t ∧ t.replied m S_OK ∧
      natLE (t.mailBytes m 16 4) = (s.rd Reg.SNAP_NUMBER + 1).toNat ∧ t.f Reg.SNAP_STATUS 0 2 = 1 ∧ MemKept s t := by
  have hcore : (s.snapLatch 1 false).core = s.core :=
    snapLatch_keeps (p := State.core) (fun _ _ _ _ _ _ _ => rfl) (fun _ _ => rfl) s 1 false
  have hmem := snapLatch_mem s 1 false
  obtain ⟨hlatched, hnumber, -, -⟩ := snapLatch_latches s 1 false
  have hnext : exec (.snapshot m) s = .next ((s.snapFire 0).answer m S_OK (bytesLE 4 ((s.snapFire 0).rd Reg.SNAP_NUMBER).toNat)) :=
    congrArg Host.Outcome.next (serves_exact h rfl _)
  rw [snapFire_armed hon (.inl rfl) harmed, Nat.pow_zero] at hnext
  generalize s.snapLatch 1 false = u at *
  obtain ⟨hreplied, hword⟩ := wordReply_shows m (u := u) (by rw [hcore]; exact (served_of_serves h).1.running) Reg.SNAP_NUMBER
  refine ⟨_, hnext, hreplied, hword.trans (congrArg BitVec.toNat hnumber), (congrArg (fld · 0 2) (answer_rd (by decide) u m S_OK _ 0 0 0 0 0)).trans
    hlatched, memKept_of ((answer_mem _ _ _ _ _ _).trans hmem)⟩

/-- The report of an attestation: its length, its magic word and the nonce. -/
theorem attestReport_shows (s : State) {nonce : List Byte} (h : nonce.length = 32) :
    (s.attestReport nonce).length = 4080 ∧ (s.attestReport nonce).take 4 = bytesLE 4 0x54415649 ∧
      ((s.attestReport nonce).drop 8).take 32 = nonce := by
  let head := bytesLE 4 0x54415649 ++ (bytesLE 2 1 ++ bytesLE 2 4080)
  obtain ⟨tail, jobs, hbody⟩ : ∃ tail jobs : List Byte,
      s.attestBody nonce = fitBytes 256 (head ++ (nonce ++ tail)) ++ fitBytes 512 jobs := by
    simp only [State.attestBody, fitBytes_self h, head, List.append_assoc]
    exact ⟨_, _, rfl⟩
  have hhead : head.length = 8 := by simp [head]
  have hfit : (fitBytes 256 (head ++ (nonce ++ tail))).take 40 = head ++ nonce := by
    rw [fitBytes_take (by decide) (by simp [hhead, h]; omega), ← List.append_assoc, List.take_left' (by simp [hhead, h])]
  have hfirst : (s.attestReport nonce).take 40 = head ++ nonce := by
    rw [State.attestReport, hbody, List.take_append_of_le_length (by simp [fitBytes_length]),
      List.take_append_of_le_length (by simp [fitBytes_length]), hfit]
  refine ⟨by simp [State.attestReport, State.attestBody, fitBytes_length], ?_, ?_⟩
  · have hword : (s.attestReport nonce).take 4 = ((s.attestReport nonce).take 40).take 4 := by
      rw [List.take_take, Nat.min_eq_left (by decide)]
    rw [hword, hfirst]
    simp only [head, List.append_assoc]
    rw [List.take_left' (by simp)]
  · have hnonce : ((s.attestReport nonce).drop 8).take 32 = ((s.attestReport nonce).take 40).drop 8 := by
      rw [List.drop_take]
    rw [hnonce, hfirst, List.drop_left' hhead]

theorem attest_replies (h : s.serves m 0x41 (fun n => decide (n = 32)) = true) :
    ∃ t, exec (.attest m) s = .next t ∧ t.replied m S_OK ∧ natLE (t.mailBytes m 2 2) = 4080 ∧
      natLE (t.mailBytes m 16 4) = 0x54415649 ∧ t.mailBytes m 24 32 = s.argBytes m 0 32 ∧
      RegsKept s t (Reg.SEC_CNT.at 3 0 0 :: replyRegs) ∧ MemKept s t := by
  let u := s.bumpBy 1 Reg.SEC_CNT 3
  have hcp : u.core.cp = .running := (served_of_serves h).1.running
  obtain ⟨hlen, hfirst, hnonce⟩ := attestReport_shows s (nonce := s.argBytes m 0 32) (mailBytes_length _ _ _ _)
  have hnext : exec (.attest m) s = .next (u.answer m S_OK (s.attestReport (s.argBytes m 0 32))) :=
    congrArg Host.Outcome.next (serves_exact h rfl _)
  generalize s.attestReport (s.argBytes m 0 32) = report at *
  refine ⟨_, hnext, answer_replied (.inl hcp) m.isLt (by decide) _ _ _, ?_, answer_word (.inl hcp) (by decide) hfirst (by omega),
    ?_, ?_, memKept_of (answer_mem u _ _ _ _ _)⟩
  · rw [answer_length (.inl hcp) (by omega), hlen]
  · exact (answer_payload (.inl hcp) (k := 8) (by omega) (by omega)).trans hnonce
  · exact answer_regsKept ((regsKept_bumpBy (by simp)).2 (regsKept_refl _ _)) (fun a ha => List.mem_cons_of_mem _ ha) _ _ _ _ _

end

/-- Settles O33: each command is served by `serves_exact`, and its reply read by the lemmas of an answer. -/
theorem reportingCommandsReply : Obligations.ReportingCommandsReply := by
  unfold Obligations.ReportingCommandsReply
  exact fun s m => ⟨nop_replies m, nop_badLength m, nop_unknown m, stateSummary_replies m, fun sum => stateSummaryPart_replies m,
    snapshot_replies m, attest_replies m⟩

end Sys2Proof.Machine
end

section
/-!
Commands on the module itself (R317, R426, R473, R546, R551, R552, R614).
-/
namespace Sys2Proof.Machine

open Sys2Proof

variable {β : Type} {p : State → β}

/-- A command of a fixed length, its fields checked. -/
theorem serves_fields {s : State} {m op n : Nat} (h : s.serves m op (fun k => decide (k = n)) = true) {ok : State → Bool}
    (hok : ok s = true) (f : State → State) : s.command m op (some n) true (fun s => s.fields m (ok s) f) = f s :=
  (serves_exact h rfl _).trans (fields_ok hok f)

/-! ### SET_OPERATING_POINT (R546) -/

theorem startOp_shows (s : State) (m : Fin 16) {op : Nat} (h : op ≤ 3) : (s.startOp m op).mbState m = 2 ∧
    (s.startOp m op).opRequested = op ∧ (s.startOp m op).bit Reg.PM_OP_STATUS 9 = true ∧
    RegsKept s (s.startOp m op) [Reg.PM_OP_STATUS.addr, Reg.F1_MB_STATE.addr] := by
  unfold State.startOp
  extract_lets t
  refine ⟨(mbState_setMb t m.isLt (by decide) m).trans (if_pos rfl), ?_, ?_, ?_⟩
  · have hop : t.f Reg.PM_OP_STATUS 0 2 = op := by
      refine (f_setBit_other (by decide) _ _ _ _ _ _).trans ((State.f_setF_same _ _ _ _ _ _ _ _ (by decide)).trans ?_)
      exact Nat.mod_eq_of_lt (by omega)
    exact (f_setF_apart (r := Reg.F1_MB_STATE) (by decide) _ _ _ _ _ _ _ _ _ _ _ _).trans hop
  · exact (bit_setF_apart (r := Reg.F1_MB_STATE) (by decide) _ _ _ _ _ _ _ _ _ _ _).trans
      (State.bit_setBit_same _ _ 9 true 0 0 0 (by decide))
  · change RegsKept s (t.setMb m 2) _
    simp [State.setMb, t]

theorem setOperatingPoint_waits {s : State} (m : Fin 16) (h : s.serves m 4 (fun n => decide (n = 4)) = true)
    (hop : s.arg m 0 1 ≤ 3) (hzero : s.arg m 1 3 = 0) (hok : s.opRefused (s.arg m 0 1) = none) :
    ∃ t, exec (.setOperatingPoint m) s = .next t ∧ t.mbState m = 2 ∧ t.opRequested = s.arg m 0 1 ∧
      t.pm.opTarget = some (s.arg m 0 1, m.val) ∧ t.bit Reg.PM_OP_STATUS 9 = true ∧
      RegsKept s t [Reg.PM_OP_STATUS.addr, Reg.F1_MB_STATE.addr] ∧ MemKept s t := by
  have hfields : (decide (s.arg m 0 1 ≤ 3) && decide (s.arg m 1 3 = 0)) = true := by
    rw [decide_eq_true hop, decide_eq_true hzero]
    rfl
  have hnext : exec (.setOperatingPoint m) s = .next ((s.checkedAt (s.arg m 0 1)).startOp m (s.arg m 0 1)) := by
    refine congrArg Host.Outcome.next ((serves_exact h rfl _).trans ((fields_ok hfields _).trans ?_))
    rw [hok]
  obtain ⟨hmb, hreq, hbit, hregs⟩ := startOp_shows (s.checkedAt (s.arg m 0 1)) m hop
  exact ⟨_, hnext, hmb, hreq, rfl, hbit, hregs, memKept_of rfl⟩

/-! ### SET_POWER_STATE (R551, R552) -/

theorem powerAnswer_shows {s : State} (hcp : s.core.cp = .running) (m : Fin 16) {status d0 : Nat} (hst : status < 65536)
    (hd : d0 < 4294967296) : (s.powerAnswer m status d0).replied m status ∧
      natLE ((s.powerAnswer m status d0).mailBytes m 8 4) = d0 ∧ (s.powerAnswer m status d0).power = s.power ∧
      RegsKept s (s.powerAnswer m status d0) (Reg.PM_STATE.addr :: replyRegs) ∧ MemKept s (s.powerAnswer m status d0) := by
  have hpower : (s.setF Reg.PM_STATE 16 16 status).power = s.power := f_setF_other (by decide) _ _ _ _ _ _
  have hcp' : (s.setF Reg.PM_STATE 16 16 status).core.cp = .running := hcp
  unfold State.powerAnswer
  refine ⟨answer_replied (.inl hcp') m.isLt hst _ _ _, answer_detail (.inl hcp') hd, ?_, ?_, memKept_of (answer_mem _ _ _ _ _ _)⟩
  · rw [State.power, State.f, answer_rd (by decide)]
    exact hpower
  · exact answer_regsKept ((regsKept_setF (by simp)).2 (regsKept_refl _ _)) (fun a ha => List.mem_cons_of_mem _ ha) _ _ _ _ _

/-- An entry has been asked for. -/
def State.entryAsked (s : State) (m target : Nat) : State :=
  let t := s.setMb m 2
  ({ t with pm := { t.pm with entry := some (target, some m) } }).setBit Reg.PM_STATE 2 true

theorem startEntry_keeps (hw : Blind [Reg.FIO_DO_STATUS] p) (hfio : ∀ (s : State) x, p { s with fio := x } = p s) (s : State)
    (m target : Nat) : p (s.startEntry m target) = p (s.entryAsked m target) := by
  unfold State.startEntry
  refine ite_keeps ?_ (ite_keeps ?_ rfl)
  · exact (syncOuts_keeps hw hfio _).trans (hfio _ _)
  · exact (syncOuts_keeps hw hfio _).trans (hfio _ _)

theorem entryAsked_shows (s : State) (m : Fin 16) (target : Nat) : (s.entryAsked m target).mbState m = 2 ∧
    (s.entryAsked m target).bit Reg.PM_STATE 2 = true ∧ (s.entryAsked m target).power = s.power := by
  unfold State.entryAsked
  extract_lets t
  refine ⟨?_, State.bit_setBit_same _ _ 2 true 0 0 0 (by decide), ?_⟩
  · exact (f_setBit_apart (r := Reg.PM_STATE) (by decide) _ _ _ _ _ _ _ _ _ _ _).trans
      ((mbState_setMb s m.isLt (by decide) m).trans (if_pos rfl))
  · exact (f_setBit_other (by decide) _ _ _ _ _ _).trans (f_setF_apart (r := Reg.F1_MB_STATE) (by decide) _ _ _ _ _ _ _ _ _ _ _ _)

theorem startEntry_shows (s : State) (m : Fin 16) (target : Nat) : (s.startEntry m target).mbState m = 2 ∧
    (s.startEntry m target).pm.entry = some (target, some m.val) ∧ (s.startEntry m target).bit Reg.PM_STATE 2 = true ∧
    (s.startEntry m target).power = s.power ∧ (s.startEntry m target).mem = s.mem := by
  obtain ⟨hmb, hbit, hpower⟩ := entryAsked_shows s m target
  refine ⟨?_, ?_, ?_, ?_, ?_⟩
  · exact (startEntry_keeps (p := fun t => t.mbState m) (blind_f (by decide) _ _ 0 0 0) (fun _ _ => rfl) s m target).trans hmb
  · exact (startEntry_keeps (p := fun t => t.pm.entry) (fun _ _ _ _ _ _ _ => rfl) (fun _ _ => rfl) s m target).trans rfl
  · exact (startEntry_keeps (p := fun t => t.bit Reg.PM_STATE 2) (blind_bit (by decide) _ 0 0 0) (fun _ _ => rfl) s m target).trans
      hbit
  · exact (startEntry_keeps (p := fun t => t.power) (blind_f (by decide) _ _ 0 0 0) (fun _ _ => rfl) s m target).trans hpower
  · exact startEntry_keeps (p := State.mem) (fun _ _ _ _ _ _ _ => rfl) (fun _ _ => rfl) s m target

theorem entryFails_lt {s : State} {target k : Nat} (h : s.entryFails (entryNeeds target) = some k) : k < 4294967296 := by
  have hmem : k ∈ entryNeeds target := List.mem_of_find?_eq_some h
  unfold entryNeeds at hmem
  split at hmem <;> simp at hmem <;> omega

section
variable {s : State} (m : Fin 16) (h : s.serves m 5 (fun n => decide (n = 4)) = true) (hwake : s.pm.waking = none)
  (harg : s.arg m 0 1 ≤ 3) (hzero : s.arg m 1 3 = 0)
include h hwake harg hzero

theorem exec_setPowerState {u : State}
    (hu : (if s.arg m 0 1 = s.power then s.powerAnswer m S_OK 0
        else if s.arg m 0 1 = 0 then
          let t := (s.setF Reg.PM_STATE 16 16 S_OK).setMb m 2
          ({ t with pm := { t.pm with wakeReply := some m.val } }).wakeFire 5 [1, 2]
        else if s.arg m 0 1 < s.power then s.powerAnswer m S_POWER_STATE 0
        else
          match s.entryFails (entryNeeds (s.arg m 0 1)) with
          | some k => s.powerAnswer m S_POWER_STATE k
          | none => (s.setF Reg.PM_STATE 16 16 S_OK).startEntry m (s.arg m 0 1)) = u) :
    exec (.setPowerState m) s = .next u := by
  have hfields : (decide (s.arg m 0 1 ≤ 3) && decide (s.arg m 1 3 = 0)) = true := by
    rw [decide_eq_true harg, decide_eq_true hzero]
    rfl
  refine (next_if_neg (by simp [hwake])).trans (congrArg Host.Outcome.next ?_)
  exact (serves_exact h rfl _).trans ((fields_ok hfields _).trans hu)

theorem setPowerState_same (hsame : s.arg m 0 1 = s.power) : ∃ t, exec (.setPowerState m) s = .next t ∧ t.replied m S_OK ∧
    RegsKept s t (Reg.PM_STATE.addr :: replyRegs) ∧ MemKept s t := by
  obtain ⟨hreplied, -, -, hregs, hmem⟩ := powerAnswer_shows (served_of_serves h).1.running m (status := S_OK) (d0 := 0)
    (by decide) (by decide)
  exact ⟨_, exec_setPowerState m h hwake harg hzero (if_pos hsame), hreplied, hregs, hmem⟩

variable (hdeeper : s.power < s.arg m 0 1)
include hdeeper

theorem exec_setPowerState_deeper {u : State}
    (hu : (match s.entryFails (entryNeeds (s.arg m 0 1)) with
      | some k => s.powerAnswer m S_POWER_STATE k
      | none => (s.setF Reg.PM_STATE 16 16 S_OK).startEntry m (s.arg m 0 1)) = u) : exec (.setPowerState m) s = .next u := by
  refine exec_setPowerState m h hwake harg hzero ?_
  rw [if_neg (by omega), if_neg (by omega), if_neg (by omega)]
  exact hu

theorem setPowerState_enters (hok : s.entryFails (entryNeeds (s.arg m 0 1)) = none) :
    ∃ t, exec (.setPowerState m) s = .next t ∧ t.mbState m = 2 ∧ t.pm.entry = some (s.arg m 0 1, some m.val) ∧
      t.bit Reg.PM_STATE 2 = true ∧ t.power = s.power ∧ MemKept s t := by
  obtain ⟨hmb, hentry, hbit, hpower, hmem⟩ := startEntry_shows (s.setF Reg.PM_STATE 16 16 S_OK) m (s.arg m 0 1)
  refine ⟨_, exec_setPowerState_deeper m h hwake harg hzero hdeeper (by rw [hok]), hmb, hentry, hbit, hpower.trans ?_,
    memKept_of hmem⟩
  exact f_setF_other (by decide) _ _ _ _ _ _

theorem setPowerState_refused {k : Nat} (hfails : s.entryFails (entryNeeds (s.arg m 0 1)) = some k) :
    ∃ t, exec (.setPowerState m) s = .next t ∧ t.replied m S_POWER_STATE ∧ natLE (t.mailBytes m 8 4) = k ∧
      t.power = s.power ∧ RegsKept s t (Reg.PM_STATE.addr :: replyRegs) ∧ MemKept s t := by
  exact ⟨_, exec_setPowerState_deeper m h hwake harg hzero hdeeper (by rw [hfails]),
    powerAnswer_shows (served_of_serves h).1.running m (by decide) (entryFails_lt hfails)⟩

end

/-! ### ORDERLY_REMOVE (R614) -/

theorem look_append_of_none {γ : Type} {l l' : AMap γ} {a : Nat} (h : AMap.look l a = none) :
    AMap.look (l ++ l') a = AMap.look l' a := by
  induction l with
  | nil => rfl
  | cons e t ih =>
    obtain ⟨k, v⟩ := e
    by_cases hk : a = k
    · simp [AMap.look, hk] at h
    · simp only [AMap.look, if_neg hk] at h
      simp [AMap.look, hk, ih h]

theorem look_filter_key_none {γ : Type} (m : AMap γ) (f : Nat → Bool) {a : Nat} (h : f a = false) :
    AMap.look (List.filter (fun p => f p.1) m) a = none := by
  induction m with
  | nil => rfl
  | cons e t ih =>
    obtain ⟨k, v⟩ := e
    by_cases hk : a = k
    · subst hk
      simp [List.filter, h, ih]
    · cases hf : f k <;> simp [List.filter, hf, AMap.look, hk, ih]

/-- The state as an orderly removal leaves it. -/
def State.removedState (s : State) : State :=
  let mail := s.regs.filter (fun p => decide (0x10000000 ≤ p.1))
  { s.blank ((regsAfter .s3 s.regs).filter (fun p => decide (p.1 < 0x10000000)) ++ mail) with
    core := { s.core with removed := true, removeLit := true, cp := .off }, fio := { forcedOff := true } }

/-- The registers of the mailboxes stay readable after an orderly removal. -/
theorem removedState_rd (s : State) {r : RegRow} {i j k : Nat} (h : 0x10000000 ≤ r.at i j k) :
    s.removedState.rd r i j k = s.rd r i j k := by
  have hlow : AMap.look ((regsAfter .s3 s.regs).filter (fun p => decide (p.1 < 0x10000000))) (r.at i j k) = none :=
    look_filter_key_none _ (fun n => decide (n < 0x10000000)) (by simpa using h)
  have hmail : AMap.look (s.regs.filter (fun p => decide (0x10000000 ≤ p.1))) (r.at i j k) = AMap.look s.regs (r.at i j k) :=
    look_filter_key _ (fun n => decide (0x10000000 ≤ n)) (by simpa using h)
  exact congrArg (·.getD r.reset) ((look_append_of_none hlow).trans hmail)

/-- A removal is marked and counted. -/
def State.markRemoval (s : State) : State := ({ s with flash := { s.flash with orderly := true } }).bumpPlug 2

theorem markRemoval_shows (s : State) : s.markRemoval.core = s.core ∧ s.markRemoval.flash.orderly = true := ⟨rfl, rfl⟩

/-- Outputs are off and the removal is marked. -/
def State.removing (s : State) : State := s.outputsOff.markRemoval

theorem outputsOff_core (s : State) : s.outputsOff.core = s.core := by
  unfold State.outputsOff
  exact syncOuts_keeps (p := State.core) (fun _ _ _ _ _ _ _ => rfl) (fun _ _ => rfl) _

theorem removing_core (s : State) : s.removing.core = s.core := (markRemoval_shows _).1.trans (outputsOff_core s)

theorem removing_orderly (s : State) : s.removing.flash.orderly = true := (markRemoval_shows _).2

theorem exec_orderlyRemove {s : State} (m : Fin 16) (h : s.serves m 6 (fun n => decide (n = 0)) = true)
    (hok : s.entryFails [1, 2, 3] = none) : exec (.orderlyRemove m) s = .next (s.removing.answer m S_OK).removedState := by
  refine congrArg Host.Outcome.next ((serves_exact h rfl _).trans ?_)
  rw [hok]
  rfl

/-- The mailbox of a removed module still shows the reply. -/
theorem removedState_replied {s : State} (hcp : s.core.cp = .running) (m : Fin 16) :
    (s.answer m S_OK).removedState.replied m S_OK := by
  obtain ⟨hmb, hstatus⟩ := answer_replied (.inl hcp) m.isLt (status := S_OK) (by decide) [] 0 0
  exact ⟨(congrArg (fld · (2 * m.val) 2) (removedState_rd (s.answer m S_OK) (r := Reg.F1_MB_STATE) (by decide))).trans hmb, hstatus⟩

theorem removedState_shows (s : State) : s.removedState.core.removed = true ∧ s.removedState.core.removeLit = true ∧
    s.removedState.flash = s.flash ∧ s.removedState.fio.forcedOff = true ∧ s.removedState.mem = [] :=
  ⟨rfl, rfl, rfl, rfl, rfl⟩

theorem orderlyRemove_shows {s : State} (m : Fin 16) (h : s.serves m 6 (fun n => decide (n = 0)) = true)
    (hok : s.entryFails [1, 2, 3] = none) :
    ∃ t, exec (.orderlyRemove m) s = .next t ∧ t.core.removed = true ∧ t.core.removeLit = true ∧ t.flash.orderly = true ∧
      t.fio.forcedOff = true ∧ t.replied m S_OK ∧ ∀ a, t.byte a = 0 := by
  have hcp : s.removing.core.cp = .running := by
    rw [removing_core]
    exact (served_of_serves h).1.running
  obtain ⟨hremoved, hlit, hflash, hforced, hmem⟩ := removedState_shows (s.removing.answer m S_OK)
  refine ⟨_, exec_orderlyRemove m h hok, hremoved, hlit, ?_, hforced, removedState_replied hcp m, byte_of_empty hmem⟩
  rw [hflash, answer_flash, removing_orderly]

/-! ### MODULE_RESET (R473) -/

/-- A register that the reset does not keep has no word after it. -/
theorem look_regsAfter_none {k : Restart} {regs : AMap Word} {a : Nat}
    (h : ∀ w, (match findReg a with
      | some (r, i, _, _) => if r.keeps k i ∧ r.kept w ≠ r.reset then some (a, r.kept w) else none
      | none => none) = none) : AMap.look (regsAfter k regs) a = none := by
  unfold regsAfter
  induction regs with
  | nil => rfl
  | cons e t ih =>
    obtain ⟨b, w⟩ := e
    by_cases hb : a = b
    · subst hb
      have hw := h w
      rw [List.filterMap_cons]
      split
      · exact ih
      · next q hq => exact absurd (hq.symm.trans hw) (by simp)
    · rw [List.filterMap_cons]
      split
      · exact ih
      · next q hq =>
        have hkey : q.1 = b := by
          revert hq
          dsimp only
          split
          · split
            · rintro ⟨⟩; rfl
            · rintro ⟨⟩
          · rintro ⟨⟩
        obtain ⟨qk, qv⟩ := q
        simp only at hkey
        subst hkey
        simp [AMap.look, hb, ih]

theorem moduleReset_drops_ctrl (regs : AMap Word) : AMap.look (regsAfter .moduleReset regs) Reg.WT_CTRL.addr = none := by
  refine look_regsAfter_none (fun w => ?_)
  have hfind : findReg Reg.WT_CTRL.addr = some (Reg.WT_CTRL, 0, 0, 0) := by decide +kernel
  rw [hfind]
  rfl

theorem moduleReset_shows {s : State} (m : Fin 16) (h : s.serves m 3 (fun n => decide (n = 4)) = true)
    (hmagic : s.arg m 0 4 = 0x5A5A0001) :
    ∃ t, exec (.moduleReset m) s = .next t ∧ t.core.cp = .booting ∧ t.core.held = false ∧ t.flash = s.flash ∧
      t.rd Reg.WT_CTRL = Reg.WT_CTRL.reset ∧ t.queues = [] ∧ ∀ a, t.byte a = 0 := by
  have hnext : exec (.moduleReset m) s = .next (s.answer m S_OK).resetModule.startBoot :=
    congrArg Host.Outcome.next ((serves_exact h rfl _).trans (fields_ok (decide_eq_true hmagic) _))
  have hflash := answer_flash s m S_OK
  generalize s.answer m S_OK = u at *
  have hcore := startBoot_keeps (p := State.core) (fun _ _ _ _ _ _ _ => rfl) u.resetModule
  refine ⟨_, hnext, congrArg (·.cp) hcore, congrArg (·.held) hcore, ?_, ?_, ?_, byte_of_empty ?_⟩
  · exact (startBoot_keeps (p := State.flash) (fun _ _ _ _ _ _ _ => rfl) u.resetModule).trans hflash
  · exact (startBoot_keeps (p := fun t => t.rd Reg.WT_CTRL) (blind_rd (by decide) 0 0 0) u.resetModule).trans
      (congrArg (·.getD Reg.WT_CTRL.reset) (moduleReset_drops_ctrl u.regs))
  · exact startBoot_keeps (p := State.queues) (fun _ _ _ _ _ _ _ => rfl) u.resetModule
  · exact startBoot_keeps (p := State.mem) (fun _ _ _ _ _ _ _ => rfl) u.resetModule

/-! ### CLEAR_SOFT_MAP (R426) -/

theorem syncSpare_keeps (hw : Blind [Reg.MEM_SPARE_STATUS] p) (s : State) : p s.syncSpare = p s := hw _ _ _ _ _ _ (by simp)

/-- The soft map is empty. -/
def State.softCleared (s : State) : State :=
  ({ s with flash := { s.flash with softMap := [], softDisabled := [] } }).syncSpare

theorem softCleared_shows (s : State) : s.softCleared.flash.softMap = [] ∧ s.softCleared.flash.softDisabled = [] ∧
    s.softCleared.core = s.core ∧ s.softCleared.mem = s.mem ∧
    RegsKept s s.softCleared (Reg.MEM_SPARE_STATUS.addr :: replyRegs) := by
  have hflash := syncSpare_keeps (p := State.flash) (fun _ _ _ _ _ _ _ => rfl)
    { s with flash := { s.flash with softMap := [], softDisabled := [] } }
  refine ⟨congrArg (·.softMap) hflash, congrArg (·.softDisabled) hflash,
    syncSpare_keeps (p := State.core) (fun _ _ _ _ _ _ _ => rfl) _,
    syncSpare_keeps (p := State.mem) (fun _ _ _ _ _ _ _ => rfl) _, ?_⟩
  simp [State.softCleared, State.syncSpare]

theorem clearSoftMap_shows {s : State} (m : Fin 16) (h : s.serves m 0x31 (fun n => decide (n = 4)) = true)
    (hmagic : s.arg m 0 4 = 0x5A5A0002) :
    ∃ t, exec (.clearSoftMap m) s = .next t ∧ t.flash.softMap = [] ∧ t.flash.softDisabled = [] ∧ t.replied m S_OK ∧
      RegsKept s t (Reg.MEM_SPARE_STATUS.addr :: replyRegs) ∧ MemKept s t := by
  have hnext : exec (.clearSoftMap m) s = .next (s.softCleared.answer m S_OK) :=
    congrArg Host.Outcome.next ((serves_exact h rfl _).trans (fields_ok (decide_eq_true hmagic) _))
  obtain ⟨hmap, hdis, hcore, hmem, hregs⟩ := softCleared_shows s
  have hcp : s.softCleared.core.cp = .running := by rw [hcore]; exact (served_of_serves h).1.running
  refine ⟨_, hnext, ?_, ?_, answer_replied (.inl hcp) m.isLt (by decide) _ _ _,
    answer_regsKept hregs (fun a ha => List.mem_cons_of_mem _ ha) _ _ _ _ _, memKept_of ((answer_mem _ _ _ _ _ _).trans hmem)⟩
  · rw [answer_flash, hmap]
  · rw [answer_flash, hdis]

end Sys2Proof.Machine
end

section
/-!
SPARE_SWAP (spec/10_scheduling_and_preemption.md, R317): a swap waits for its boundary, or is made at once.
-/
namespace Sys2Proof.Machine

open Sys2Proof

variable {β : Type} {p : State → β}

/-- The command waits for the boundary of a spire. -/
def State.swapAsked (s : State) (m u e : Nat) : State :=
  let t := s.setMb m 2
  { t with host := { t.host with swapWait := some (m, u, e) } }

/-- Which spire presents a unit, read from SPR_ID. -/
theorem spireOf_eq {s t : State} (h : ∀ e, t.rd Reg.SPR_ID e = s.rd Reg.SPR_ID e) (u : Nat) : t.spireOf u = s.spireOf u := by
  simp only [State.spireOf, State.bit, State.f, h]
  rfl

theorem spireOf_presents {s : State} {u e : Nat} (h : s.spireOf u = some e) :
    s.bit Reg.SPR_ID 7 e = true ∧ s.f Reg.SPR_ID 0 5 e = u ∧ e < 34 := by
  have hp := List.find?_some h
  have hm := List.mem_of_find?_eq_some h
  simp only [Bool.and_eq_true, decide_eq_true_eq] at hp
  exact ⟨hp.1, hp.2, mem_upTo.1 hm⟩

/-- A swap that has not been made at its spire leaves the command waiting. -/
theorem swapAnswer_waits {s : State} {m u e : Nat} (hwait : s.host.swapWait = some (m, u, e)) (hspire : s.spireOf u = some e)
    (hpending : (s.engine e).swapPending = true) : s.swapAnswer = s := by
  simp only [State.swapAnswer, hwait, hspire]
  exact (if_neg (fun hne => hne rfl)).trans (if_pos hpending)

/-- A swap that has been made is answered with the spire that presents the unit. -/
theorem swapAnswer_made {s : State} {m u e e' : Nat} (hwait : s.host.swapWait = some (m, u, e)) (hspire : s.spireOf u = some e')
    (hne : e' ≠ e) : s.swapAnswer = ({ s with host := { s.host with swapWait := none } }).answer m S_OK (bytesLE 1 e') := by
  simp only [State.swapAnswer, hwait, hspire]
  exact if_pos hne

/-- The swap is noted at the engine, whose tile runs to its boundary. -/
theorem swapAt_pending {s : State} {e : Nat} {x : TileRun} (htile : (s.engine e).tile = some x) (hsusp : x.susp = false) :
    s.swapAt e = s.setEngine e { s.engine e with swapPending := true } := by
  have hyield : s.yieldSuspended e = s := by simp [State.yieldSuspended, htile, hsusp]
  unfold State.swapAt
  rw [hyield]
  exact if_pos (.inl (by rw [htile]; rfl))

theorem setEngine_engine (s : State) (e : Nat) (x : Engine) : (s.setEngine e x).engine e = x := AMap.get_store_same _ _ _ _

section
variable {s : State} {m : Fin 16} {e : Nat} (h : s.serves m 0x30 (fun n => decide (n = 4)) = true) (hunit : s.arg m 0 1 ≤ 31)
  (hzero : s.arg m 1 3 = 0) (hspire : s.spireOf (s.arg m 0 1) = some e)
include h hunit hzero hspire

theorem exec_spareSwap : exec (.spareSwap m) s = .next (((s.swapAsked m (s.arg m 0 1) e).swapAt e).swapAnswer) := by
  have hfields : (decide (s.arg m 0 1 ≤ 31) && decide (s.arg m 1 3 = 0)) = true := by
    rw [decide_eq_true hunit, decide_eq_true hzero]
    rfl
  refine congrArg Host.Outcome.next ((serves_exact h rfl _).trans ((fields_ok hfields _).trans ?_))
  rw [hspire]
  rfl

omit h hunit hzero in
theorem swapAsked_spire : (s.swapAsked m (s.arg m 0 1) e).spireOf (s.arg m 0 1) = some e := by
  refine (spireOf_eq (fun k => ?_) _).trans hspire
  exact rd_setF_apart (r := Reg.F1_MB_STATE) (by decide) s _ _ _ _ _ _ _ _ _

theorem spareSwap_waits {x : TileRun} (htile : (s.engine e).tile = some x) (hsusp : x.susp = false) :
    ∃ t, exec (.spareSwap m) s = .next t ∧ t.mbState m = 2 ∧ t.host.swapWait = some (m.val, s.arg m 0 1, e) ∧
      (t.engine e).swapPending = true ∧ RegsKept s t [Reg.F1_MB_STATE.addr] ∧ MemKept s t := by
  let u := s.swapAsked m (s.arg m 0 1) e
  let t := u.setEngine e { u.engine e with swapPending := true }
  have hat : u.swapAt e = t := swapAt_pending htile hsusp
  have hpending : (t.engine e).swapPending = true := congrArg Engine.swapPending (setEngine_engine u e _)
  have hanswer : t.swapAnswer = t := swapAnswer_waits rfl (swapAsked_spire hspire) hpending
  have hnext : exec (.spareSwap m) s = .next t := by
    rw [exec_spareSwap h hunit hzero hspire, hat, hanswer]
  refine ⟨t, hnext, (mbState_setMb s m.isLt (by decide) m).trans (if_pos rfl), rfl, hpending, ?_, memKept_of rfl⟩
  exact regsKept_of_regs (t := s.setMb m 2) rfl (by simp [State.setMb])

end

/-! ### The swap at a boundary -/

/-- The engine is empty, its spire presents nothing any more, and the spare presents the unit. -/
def State.spareTakes (s : State) (e q : Nat) : State :=
  let t := s.setEngine e { s.engine e with swapPending := false, resident := none, hung := none }
  (t.setF Reg.SPR_ID 0 8 (if s.bit Reg.SPR_STATUS 3 e then 32 else 64) e).setF Reg.SPR_ID 0 8 (128 + s.f Reg.SPR_ID 0 5 e) q

theorem swapSpire_eq {s : State} {e q : Nat} (hspare : s.spareSpire = some q) :
    s.swapSpire e = (((s.spareTakes e q).raise Reg.QM_SCHED_EVENT 3).syncJobs).noteElig := by
  unfold State.swapSpire
  extract_lets u dead src t
  have ht : t.spareSpire = some q := hspare
  rw [ht]
  rfl

theorem swapAt_empty {s : State} {e : Nat} (htile : (s.engine e).tile = none) (hswitch : (s.engine e).switch = none)
    (hres : (s.engine e).resident = none) : s.swapAt e = s.swapSpire e := by
  have hyield : s.yieldSuspended e = s := by simp [State.yieldSuspended, htile]
  unfold State.swapAt
  rw [hyield]
  exact (if_neg (by simp [htile, hswitch])).trans (if_neg (by simp [hres]))

theorem noteElig_keeps (hw : Blind [Reg.QM_CLIENT_CNT] p)
    (hj : ∀ (s : State) x, x.jobs = s.job.jobs → p { s with job := x } = p s) (s : State) : p s.noteElig = p s := by
  have hcount (t : State) (h k : Nat) : p (t.clientCnt h k) = p t := by
    unfold State.clientCnt
    split
    · exact hw.bump (r := Reg.QM_CLIENT_CNT) (by simp) _ _ _
    · rfl
  refine State.forAll_keeps p _ (fun (c : Nat × Nat) t => ?_) s _
  have hset (u : State) (x : Ctx) : p (u.setCtx c.1 c.2 x) = p u := hj u _ rfl
  exact ite_keeps ((hset _ _).trans (State.when_keeps p t _ (fun s => s.clientCnt c.1 6) (hcount t c.1 6))) (hset _ _)

/-- What a swap keeps besides the two spires and the engine. -/
theorem swapSpire_keeps (hj : JobBlind p) (hw : Blind [Reg.QM_SCHED_EVENT, Reg.QM_CLIENT_CNT] p) {s : State} {e q : Nat}
    (hspare : s.spareSpire = some q) : p (s.swapSpire e) = p (s.spareTakes e q) := by
  rw [swapSpire_eq hspare]
  exact (noteElig_keeps (hw.mono (by simp)) (fun s x _ => hj.job s x) _).trans ((syncJobs_keeps hj.ctx _).trans
    (hw.raise (r := Reg.QM_SCHED_EVENT) (by simp) _ _ _ _))

/-- A reading of registers alone, apart from those of jobs. -/
theorem jobBlind_rd {r : RegRow} (h : jobRows.all (fun x => r.apart x) = true) (i : Nat) : JobBlind (fun t => t.rd r i) :=
  ⟨blind_rd h i 0 0, fun _ _ => rfl, fun _ _ => rfl, fun _ _ => rfl, fun _ _ => rfl⟩

theorem jobBlind_host : JobBlind State.host :=
  ⟨fun _ _ _ _ _ _ _ => rfl, fun _ _ => rfl, fun _ _ => rfl, fun _ _ => rfl, fun _ _ => rfl⟩

theorem jobBlind_core : JobBlind State.core :=
  ⟨fun _ _ _ _ _ _ _ => rfl, fun _ _ => rfl, fun _ _ => rfl, fun _ _ => rfl, fun _ _ => rfl⟩

theorem jobBlind_mem : JobBlind State.mem :=
  ⟨fun _ _ _ _ _ _ _ => rfl, fun _ _ => rfl, fun _ _ => rfl, fun _ _ => rfl, fun _ _ => rfl⟩

/-- SPR_ID of two spires are two registers. -/
theorem sprId_ne {e q : Nat} (he : e < 34) (hq : q < 34) (h : q ≠ e) : Reg.SPR_ID.at e 0 0 ≠ Reg.SPR_ID.at q 0 0 := by
  simp only [RegRow.at, Reg.SPR_ID]
  omega

section
variable {s : State} {e q : Nat} (he : e < 34) (hq : q < 34) (hne : q ≠ e)
include he hq hne

theorem spareTakes_spare : (s.spareTakes e q).rd Reg.SPR_ID q =
    setFld (s.rd Reg.SPR_ID q) 0 8 (128 + s.f Reg.SPR_ID 0 5 e) := by
  unfold State.spareTakes
  rw [State.setF, State.rd_wr_same, State.setF, State.rd_wr_other _ _ _ _ _ _ _ _ _ _ (sprId_ne hq he hne.symm)]
  rfl

theorem spareTakes_old : (s.spareTakes e q).bit Reg.SPR_ID 7 e = false := by
  unfold State.spareTakes
  rw [State.setF, State.bit_wr_other _ _ _ _ _ _ _ _ _ _ _ (sprId_ne he hq hne), State.bit, State.setF, State.rd_wr_same,
    setFld_getLsbD _ _ _ _ _ (by decide), if_pos (by decide)]
  cases s.bit Reg.SPR_STATUS 3 e <;> rfl

end

/-- The spire that presents the unit after the swap is not the one that it left. -/
theorem spireOf_swapped {t : State} {u e q : Nat} (hq : q < 34) (hold : t.bit Reg.SPR_ID 7 e = false)
    (hnew : t.f Reg.SPR_ID 0 8 q = 128 + u) (hu : u < 32) : ∃ e', t.spireOf u = some e' ∧ e' ≠ e := by
  have hpresents : (t.bit Reg.SPR_ID 7 q && decide (t.f Reg.SPR_ID 0 5 q = u)) = true := by
    have hlow : fld (t.rd Reg.SPR_ID q) 0 8 = 128 + u := hnew
    simp only [fld, Nat.shiftRight_zero] at hlow
    have h5 : t.f Reg.SPR_ID 0 5 q = u := by
      simp only [State.f, fld, Nat.shiftRight_zero]
      omega
    have h7 : t.bit Reg.SPR_ID 7 q = true := by
      rw [State.bit, BitVec.getLsbD, Nat.testBit_eq_decide_div_mod_eq]
      simp only [decide_eq_true_eq]
      omega
    rw [h7, h5, decide_eq_true rfl]
    rfl
  obtain ⟨e', he'⟩ : ∃ e', t.spireOf u = some e' :=
    Option.isSome_iff_exists.1 (List.find?_isSome.2 ⟨q, mem_upTo.2 hq, hpresents⟩)
  refine ⟨e', he', ?_⟩
  rintro rfl
  exact absurd (spireOf_presents he').1 (by rw [hold]; decide)

/-- The reply to a swap that has been made. -/
theorem swapReply_shows {s : State} (hcp : s.core.cp = .running) (m : Fin 16) (e : Nat) :
    ((({ s with host := { s.host with swapWait := none } } : State).answer m S_OK (bytesLE 1 e)).replied m S_OK) ∧
      (∀ i, ((({ s with host := { s.host with swapWait := none } } : State).answer m S_OK (bytesLE 1 e)).rd Reg.SPR_ID i) =
        s.rd Reg.SPR_ID i) ∧
      (({ s with host := { s.host with swapWait := none } } : State).answer m S_OK (bytesLE 1 e)).host.swapWait = none ∧
      (({ s with host := { s.host with swapWait := none } } : State).answer m S_OK (bytesLE 1 e)).mem = s.mem := by
  generalize hu : ({ s with host := { s.host with swapWait := none } } : State) = u
  have hcp' : u.core.cp = .running := by rw [← hu]; exact hcp
  have hnone : u.host.swapWait = none := by rw [← hu]
  have hrd (i : Nat) : u.rd Reg.SPR_ID i = s.rd Reg.SPR_ID i := by rw [← hu]; rfl
  have hmem : u.mem = s.mem := by rw [← hu]
  obtain ⟨mail, bells, journal, hhost⟩ := answer_host u m S_OK (bytesLE 1 e) 0 0
  refine ⟨answer_replied (.inl hcp') m.isLt (by decide) _ _ _, fun i => (answer_rd (by decide) _ _ _ _ _ _ _ _ _).trans (hrd i),
    ?_, (answer_mem _ _ _ _ _ _).trans hmem⟩
  rw [hhost]
  exact hnone

theorem spareSwap_swaps {s : State} {m : Fin 16} {e q : Nat} (h : s.serves m 0x30 (fun n => decide (n = 4)) = true)
    (hunit : s.arg m 0 1 ≤ 31) (hzero : s.arg m 1 3 = 0) (hspire : s.spireOf (s.arg m 0 1) = some e)
    (hswitch : (s.engine e).switch = none) (htile : (s.engine e).tile = none) (hres : (s.engine e).resident = none)
    (hspare : s.spareSpire = some q) (hne : q ≠ e) :
    ∃ t, exec (.spareSwap m) s = .next t ∧ t.replied m S_OK ∧ t.f Reg.SPR_ID 0 8 q = 128 + s.arg m 0 1 ∧
      t.host.swapWait = none ∧ MemKept s t := by
  obtain ⟨-, hpresented, he⟩ := spireOf_presents hspire
  have hq : q < 34 := mem_upTo.1 (List.mem_of_find?_eq_some hspare)
  have hnext := exec_spareSwap h hunit hzero hspire
  have hcp : (s.swapAsked m (s.arg m 0 1) e).core.cp = .running := (served_of_serves h).1.running
  have hwait : (s.swapAsked m (s.arg m 0 1) e).host.swapWait = some (m.val, s.arg m 0 1, e) := rfl
  have hmem : (s.swapAsked m (s.arg m 0 1) e).mem = s.mem := rfl
  have hid (i : Nat) : (s.swapAsked m (s.arg m 0 1) e).rd Reg.SPR_ID i = s.rd Reg.SPR_ID i :=
    rd_setF_apart (r := Reg.F1_MB_STATE) (by decide) s _ _ _ _ _ _ _ _ _
  have hspare' : (s.swapAsked m (s.arg m 0 1) e).spareSpire = some q := by
    have hstatus (i : Nat) : (s.swapAsked m (s.arg m 0 1) e).rd Reg.SPR_STATUS i = s.rd Reg.SPR_STATUS i :=
      rd_setF_apart (r := Reg.F1_MB_STATE) (by decide) s _ _ _ _ _ _ _ _ _
    rw [← hspare]
    simp only [State.spareSpire, State.bit, hid, hstatus]
  have hpres : (s.swapAsked m (s.arg m 0 1) e).f Reg.SPR_ID 0 5 e = s.arg m 0 1 :=
    (congrArg (fld · 0 5) (hid e)).trans hpresented
  rw [swapAt_empty (s := s.swapAsked m (s.arg m 0 1) e) htile hswitch hres] at hnext
  generalize s.swapAsked m (s.arg m 0 1) e = u at *
  have hblind : Blind [Reg.QM_SCHED_EVENT, Reg.QM_CLIENT_CNT] (fun t : State => t.rd Reg.SPR_ID e) := blind_rd (by decide) e 0 0
  have hblind' : Blind [Reg.QM_SCHED_EVENT, Reg.QM_CLIENT_CNT] (fun t : State => t.rd Reg.SPR_ID q) := blind_rd (by decide) q 0 0
  have hold : (u.swapSpire e).bit Reg.SPR_ID 7 e = false :=
    (congrArg (·.getLsbD 7) (swapSpire_keeps (jobBlind_rd (by decide) e) hblind hspare')).trans (spareTakes_old he hq hne)
  have hnew : (u.swapSpire e).f Reg.SPR_ID 0 8 q = 128 + s.arg m 0 1 := by
    refine (congrArg (fld · 0 8) (swapSpire_keeps (jobBlind_rd (by decide) q) hblind' hspare')).trans ?_
    rw [spareTakes_spare he hq hne, fld_setFld_same _ _ _ _ (by decide), hpres]
    exact Nat.mod_eq_of_lt (by omega)
  have hwait' : (u.swapSpire e).host.swapWait = some (m.val, s.arg m 0 1, e) :=
    (congrArg (·.swapWait) (swapSpire_keeps jobBlind_host (fun _ _ _ _ _ _ _ => rfl) hspare')).trans hwait
  have hcp' : (u.swapSpire e).core.cp = .running :=
    (congrArg (·.cp) (swapSpire_keeps jobBlind_core (fun _ _ _ _ _ _ _ => rfl) hspare')).trans hcp
  have hmem' : (u.swapSpire e).mem = s.mem := (swapSpire_keeps jobBlind_mem (fun _ _ _ _ _ _ _ => rfl) hspare').trans hmem
  obtain ⟨e', he', hne'⟩ := spireOf_swapped hq hold hnew (by omega)
  generalize u.swapSpire e = w at *
  rw [swapAnswer_made hwait' he' hne'] at hnext
  refine ⟨_, hnext, swapReply_shows hcp' m e' |>.imp_right ?_⟩
  rintro ⟨hrd, hnone, hmem''⟩
  exact ⟨(congrArg (fld · 0 8) (hrd q)).trans hnew, hnone, memKept_of (hmem''.trans hmem')⟩

/-- Settles O34: each command by the state that it asks for or reaches. -/
theorem moduleCommandsTakeEffect : Obligations.ModuleCommandsTakeEffect := by
  unfold Obligations.ModuleCommandsTakeEffect
  exact fun s m => ⟨setOperatingPoint_waits m,
    fun h hwake harg hzero => ⟨setPowerState_same m h hwake harg hzero, setPowerState_enters m h hwake harg hzero,
      fun k hdeeper => setPowerState_refused m h hwake harg hzero hdeeper⟩,
    orderlyRemove_shows m, moduleReset_shows m, clearSoftMap_shows m,
    fun e h hunit hzero hspire hswitch => ⟨fun x => spareSwap_waits h hunit hzero hspire,
      fun q htile hres => spareSwap_swaps h hunit hzero hspire hswitch htile hres⟩⟩

end Sys2Proof.Machine
end

section
/-!
Camera control and the commands that create and destroy queues (R435, R449, R475).
-/
namespace Sys2Proof.Machine

open Sys2Proof

/-! ### Camera control (R475) -/

/-- A packet of a transfer is sent: the transfer is in flight, and only a MAC's queue may have changed. -/
theorem camSend_shows (s : State) (x : CamXfer) (n : Nat) :
    (s.camSend x n).host.camXfer = some { x with retries := n, sentAt := s.raw } ∧ (s.camSend x n).regs = s.regs ∧
      (s.camSend x n).mem = s.mem := by
  unfold State.camSend
  extract_lets src t
  split <;> exact ⟨rfl, rfl, rfl⟩

/-- A transfer begins with its mailbox BUSY. -/
theorem camBegin_shows {s : State} (m : Fin 16) (hsome : 0 < s.arg m 8 4) (write : Bool) (data : List Byte) :
    (s.camBegin m write data).mbState m = 2 ∧
      (s.camBegin m write data).host.camXfer = some
        { mailbox := m, port := s.arg m 0 1, write := write, addr := s.arg m 4 4, left := s.arg m 8 4,
          wdata := data, rdata := [], retries := 0, sentAt := s.raw } ∧
      RegsKept s (s.camBegin m write data) [Reg.F1_MB_STATE.addr] ∧ MemKept s (s.camBegin m write data) := by
  unfold State.camBegin
  extract_lets n
  rw [if_neg (by omega)]
  let x : CamXfer :=
    { mailbox := m, port := s.arg m 0 1, write := write, addr := s.arg m 4 4, left := n, wdata := data, rdata := [], retries := 0,
      sentAt := s.raw }
  obtain ⟨hxfer, hregs, hmem⟩ := camSend_shows (s.setMb m 2) x 0
  refine ⟨?_, hxfer, ?_, memKept_of hmem⟩
  · refine (congrArg (fld · (2 * m.val) 2) (rd_of_regs hregs Reg.F1_MB_STATE 0 0 0)).trans ?_
    exact (mbState_setMb s m.isLt (by decide) m).trans (if_pos rfl)
  · exact regsKept_of_regs (t := s.setMb m 2) hregs (by simp [State.setMb])

theorem camRead_begins {s : State} {m : Fin 16} (hfields : s.camFields m = true)
    (h : s.serves m 8 (fun n => decide (n = 12)) = true) (hread : s.arg m 1 1 = 0) (hsome : 0 < s.arg m 8 4) :
    ∃ t, exec (.camControlRead m) s = .next t ∧ t.mbState m = 2 ∧
      t.host.camXfer = some
        { mailbox := m, port := s.arg m 0 1, write := false, addr := s.arg m 4 4, left := s.arg m 8 4,
          wdata := [], rdata := [], retries := 0, sentAt := s.raw } ∧
      RegsKept s t [Reg.F1_MB_STATE.addr] ∧ MemKept s t := by
  have hnext : exec (.camControlRead m) s = .next (s.camBegin m false []) :=
    congrArg Host.Outcome.next ((serves_exact h (by rw [hread]; rfl) _).trans (fields_ok hfields _))
  exact ⟨_, hnext, camBegin_shows m hsome false []⟩

theorem camWrite_begins {s : State} {m : Fin 16} (hfields : s.camFields m = true)
    (h : s.serves m 8 (fun n => decide (n = 12 + s.arg m 8 4)) = true) (hwrite : s.arg m 1 1 = 1) (hsome : 0 < s.arg m 8 4) :
    ∃ t, exec (.camControlWrite m) s = .next t ∧ t.mbState m = 2 ∧
      t.host.camXfer = some
        { mailbox := m, port := s.arg m 0 1, write := true, addr := s.arg m 4 4, left := s.arg m 8 4,
          wdata := s.argBytes m 12 (s.arg m 8 4), rdata := [], retries := 0, sentAt := s.raw } ∧
      RegsKept s t [Reg.F1_MB_STATE.addr] ∧ MemKept s t := by
  obtain ⟨hs, hlen⟩ := served_of_serves h
  have hlen : s.cmdLen m = 12 + s.arg m 8 4 := of_decide_eq_true hlen
  have hshort : s.arg m 8 4 ≤ 4064 := by
    simp only [State.camFields, Bool.and_eq_true, decide_eq_true_eq] at hfields
    exact hfields.2
  have hgood : badLength none (s.cmdLen m) = false := decide_eq_false (by omega)
  have hnext : exec (.camControlWrite m) s = .next (s.camBegin m true (s.argBytes m 12 (s.arg m 8 4))) := by
    refine congrArg Host.Outcome.next ((command_serves hs hgood (decide_eq_true hwrite) _).trans ((fields_ok hfields _).trans ?_))
    exact if_neg (by omega)
  exact ⟨_, hnext, camBegin_shows m hsome true _⟩

/-- The transfer is over. -/
def State.xferOver (s : State) : State := { s with host := { s.host with camXfer := none } }

/-- The reply that ends a transfer. -/
theorem xferReply_shows {s : State} (hcp : s.core.cp = .running) (m : Fin 16) {status : Nat} (hst : status < 65536)
    (payload : List Byte) : (s.xferOver.answer m status payload).replied m status ∧
      (s.xferOver.answer m status payload).host.camXfer = none ∧
      RegsKept s (s.xferOver.answer m status payload) replyRegs ∧ MemKept s (s.xferOver.answer m status payload) := by
  obtain ⟨mail, bells, journal, hhost⟩ := answer_host s.xferOver m status payload 0 0
  obtain ⟨hreplied, hregs, hmem⟩ := answer_reports (s := s.xferOver) hcp m hst payload 0 0
  refine ⟨hreplied, ?_, hregs, hmem⟩
  rw [hhost]
  rfl

section
variable {s : State} {m : Fin 16} {x : CamXfer} (hx : s.host.camXfer = some x) (hm : x.mailbox = m.val) (hcp : s.core.cp = .running)
include hx hcp

theorem exec_controlAck {port : Fin 8} {data : List Byte} (hport : x.port = port.val) (hdata : data ≠ []) :
    exec (.controlAcknowledge port true data) s = .next
      (if (x.acked data).left = 0 then s.xferOver.answer (x.acked data).mailbox S_OK (x.acked data).rdata
        else s.camSend (x.acked data) 0) := by
  change execControlAcknowledge port true data s = _
  unfold execControlAcknowledge
  rw [hx]
  exact next_if_neg (by simp [hport, hdata, hcp])

include hm

theorem controlAck_ends {port : Fin 8} {data : List Byte} (hport : x.port = port.val) (hdata : data ≠ []) (hread : x.write = false)
    (hall : x.left ≤ data.length) (hshort : x.rdata.length + x.left ≤ 4064) :
    ∃ t, exec (.controlAcknowledge port true data) s = .next t ∧ t.replied m S_OK ∧ t.host.camXfer = none ∧
      t.mailBytes m 16 (x.rdata.length + x.left) = x.rdata ++ data.take x.left ∧ RegsKept s t replyRegs ∧ MemKept s t := by
  have hleft : (x.acked data).left = 0 := by
    simp only [CamXfer.acked]
    omega
  have hrdata : (x.acked data).rdata = x.rdata ++ data.take x.left := by
    simp [CamXfer.acked, hread, Nat.min_eq_left hall]
  have hlength : (x.rdata ++ data.take x.left).length = x.rdata.length + x.left := by simp [hall]
  have hnext : exec (.controlAcknowledge port true data) s = .next (s.xferOver.answer m S_OK (x.rdata ++ data.take x.left)) := by
    rw [exec_controlAck hx hcp hport hdata, if_pos hleft, hrdata]
    exact congrArg (fun k => Host.Outcome.next (s.xferOver.answer k S_OK (x.rdata ++ data.take x.left))) hm
  obtain ⟨hreplied, hover, hregs, hmem⟩ := xferReply_shows hcp m (status := S_OK) (by decide) (x.rdata ++ data.take x.left)
  refine ⟨_, hnext, hreplied, hover, ?_, hregs, hmem⟩
  rw [← hlength, answer_payload_first (s := s.xferOver) (.inl hcp) (Nat.le_refl _) (by omega), List.take_length]

omit hm in
theorem controlAck_goesOn {port : Fin 8} {data : List Byte} (hport : x.port = port.val) (hdata : data ≠ []) (hread : x.write = false)
    (hmore : data.length < x.left) :
    ∃ t, exec (.controlAcknowledge port true data) s = .next t ∧
      t.host.camXfer = some
        { x with addr := x.addr + data.length, left := x.left - data.length, wdata := [],
                 rdata := x.rdata ++ data, retries := 0, sentAt := s.raw } ∧ t.regs = s.regs ∧ MemKept s t := by
  have hmin : min x.left data.length = data.length := by omega
  have hacked : x.acked data = { x with addr := x.addr + data.length, left := x.left - data.length, wdata := [],
                                        rdata := x.rdata ++ data } := by
    simp [CamXfer.acked, hread, hmin]
  have hnext : exec (.controlAcknowledge port true data) s = .next (s.camSend (x.acked data) 0) := by
    rw [exec_controlAck hx hcp hport hdata, if_neg (by rw [hacked]; simp only; omega)]
  obtain ⟨hxfer, hregs, hmem⟩ := camSend_shows s (x.acked data) 0
  refine ⟨_, hnext, hxfer.trans ?_, hregs, memKept_of hmem⟩
  rw [hacked]

variable (hlate : 200000000 ≤ s.since x.sentAt)
include hlate

omit hm in
theorem exec_cameraTimeout : exec .cameraTimeout s = .next
    (if x.retries < 3 then s.camSend x (x.retries + 1) else s.xferOver.answer x.mailbox S_CAMERA_TIMEOUT) := by
  change execCameraTimeout s = _
  unfold execCameraTimeout
  rw [hx]
  exact next_if_neg (by simp only [hcp, ne_eq, not_true_eq_false, false_or]; omega)

omit hm in
theorem cameraTimeout_retries (hfew : x.retries < 3) : ∃ t, exec .cameraTimeout s = .next t ∧
    t.host.camXfer = some { x with retries := x.retries + 1, sentAt := s.raw } ∧ t.regs = s.regs ∧ MemKept s t := by
  obtain ⟨hxfer, hregs, hmem⟩ := camSend_shows s x (x.retries + 1)
  exact ⟨_, (exec_cameraTimeout hx hcp hlate).trans (next_if_pos hfew), hxfer, hregs, memKept_of hmem⟩

theorem cameraTimeout_stops (hmany : 3 ≤ x.retries) : ∃ t, exec .cameraTimeout s = .next t ∧ t.replied m S_CAMERA_TIMEOUT ∧
    t.host.camXfer = none ∧ RegsKept s t replyRegs ∧ MemKept s t := by
  refine ⟨_, (exec_cameraTimeout hx hcp hlate).trans (next_if_neg (by omega)), ?_⟩
  rw [hm]
  exact xferReply_shows hcp m (by decide) []

end

/-! ### Queues (R435, R449) -/

/-- A reply touches queue 0 alone. -/
theorem answer_queue (s : State) (m status : Nat) (payload : List Byte) (d0 d1 : Nat) {q : Nat} (h : q ≠ 0) :
    (s.answer m status payload d0 d1).queue q = s.queue q := by
  have hset (t : State) (x : Queue) : (t.setQueue 0 x).queue q = t.queue q := AMap.get_store_other _ _ _ h
  have hbell (t : State) : (t.bellServed m).queue q = t.queue q := by
    unfold State.bellServed State.releaseServed
    extract_lets x mine items x' gone
    split
    · exact hset _ _
    · exact (putQueue_queue _ _ _ _).trans ((if_neg h).trans (hset _ _))
  unfold State.answer State.mailReply
  split
  · exact hbell _
  · rfl

/-- The registers of a queue other than queue 0 are none of those of a reply. -/
theorem queueRow_notReply {r : RegRow} (hr : r ∈ [Reg.QM_Q_CFG, Reg.QM_Q_FILL]) (q : Fin 16384) (h : 256 ≤ q.val) :
    r.at q 0 0 ∉ replyRegs := by
  fin_cases hr <;>
    simp only [replyRegs, queueRegs, RegRow.at, Reg.QM_Q_CFG, Reg.QM_Q_FILL, Reg.QM_Q_CREDIT, Reg.QM_Q_SEQ, Reg.F3_LEVEL, Reg.QM_PEND,
      Reg.QM_EVENT, Reg.F1_MB_STATE, Reg.F1_EVENT, Reg.F1_CNT, List.mem_cons, List.not_mem_nil, or_false] <;> omega

theorem makeQueue_shows (s : State) (q : Nat) (w : Word) : (s.makeQueue q w).rd Reg.QM_Q_CFG q = w ||| 0x80000000 ∧
    (s.makeQueue q w).queue q = {} ∧ (s.makeQueue q w).rd Reg.QM_Q_FILL q = 0 ∧
    (s.makeQueue q w).rd Reg.QM_POOL_FREE = s.rd Reg.QM_POOL_FREE - BitVec.ofNat 32 (ringKib w) := by
  have hgone : AMap.get (AMap.del s.queues q) ({} : Queue) q = {} := by
    rw [AMap.get, AMap.look_del, if_pos rfl]
    rfl
  unfold State.makeQueue
  refine ⟨?_, hgone, ?_, ?_⟩
  · simp (disch := decide) [State.wr64, rd_mk]
  · simp (disch := decide)
  · simp (disch := decide) [State.wr64, rd_mk]

theorem makeQueue_world (s : State) (q : Nat) (w : Word) : (s.makeQueue q w).core = s.core ∧ (s.makeQueue q w).mem = s.mem :=
  ⟨makeQueue_keeps (p := State.core) (fun _ _ _ _ _ _ _ => rfl) (fun _ _ => rfl) s q w,
    makeQueue_keeps (p := State.mem) (fun _ _ _ _ _ _ _ => rfl) (fun _ _ => rfl) s q w⟩

theorem dropQueue_shows (s : State) (q : Nat) : (s.dropQueue q).bit Reg.QM_Q_CFG 31 q = false ∧ (s.dropQueue q).queue q = {} := by
  have hgone : AMap.get (AMap.del s.queues q) ({} : Queue) q = {} := by
    rw [AMap.get, AMap.look_del, if_pos rfl]
    rfl
  unfold State.dropQueue
  refine ⟨?_, hgone⟩
  simp (disch := decide) [State.wr64, State.bit, rd_mk]
  decide

/-- A register of a queue that a reply does not write. -/
theorem answer_queueRow {r : RegRow} (hr : r ∈ [Reg.QM_Q_CFG, Reg.QM_Q_FILL]) (q : Fin 16384) (h : 256 ≤ q.val) (s : State)
    (m status : Nat) : (s.answer m status).rd r q = s.rd r q :=
  rd_of_regsKept (answer_regsKept (regsKept_refl s replyRegs) (fun _ ha => ha) m status [] 0 0) (queueRow_notReply hr q h)

section
variable {s : State} {m : Fin 16} {q : Fin 16384} (hq : s.arg m 0 2 = q.val) (hfree : 256 ≤ q.val)
include hq hfree

theorem queueCreate_answers (h : s.serves m 0x10 (fun n => decide (n = 12)) = true) (hoff : s.bit Reg.QM_Q_CFG 31 q = false)
    (hmode : s.arg m 2 1 ≤ 1) (hpolicy : s.arg m 3 1 ≤ 1) (hcons : s.arg m 4 1 ≤ 3) (hring : 4 ≤ s.arg m 5 1)
    (hring' : s.arg m 5 1 ≤ 16) (hentry : s.arg m 6 1 ≤ 3) (hirq : s.arg m 7 1 ≤ 1) (hwater : s.arg m 8 4 < 2 ^ 17) :
    let w := queueWord (s.arg m 2 1) (s.arg m 3 1) (s.arg m 4 1) (s.arg m 5 1) (s.arg m 6 1) (s.arg m 7 1) (s.arg m 8 4)
    (ringKib w ≤ (s.rd Reg.QM_POOL_FREE).toNat →
      ∃ t, exec (.queueCreate m) s = .next t ∧ t.replied m S_OK ∧ t.rd Reg.QM_Q_CFG q = w ||| 0x80000000 ∧
        t.queue q = {} ∧ t.rd Reg.QM_Q_FILL q = 0 ∧ MemKept s t ∧
        t.rd Reg.QM_POOL_FREE = s.rd Reg.QM_POOL_FREE - BitVec.ofNat 32 (ringKib w)) ∧
    ((s.rd Reg.QM_POOL_FREE).toNat < ringKib w →
      ∃ t, exec (.queueCreate m) s = .next t ∧ t.replied m S_QUEUE_BUDGET ∧ RegsKept s t replyRegs ∧ MemKept s t) := by
  intro w
  have hcp := (served_of_serves h).1.running
  have hgood : ¬ (s.arg m 0 2 < 256 ∨ 16384 ≤ s.arg m 0 2 ∨ s.bit Reg.QM_Q_CFG 31 (s.arg m 0 2) = true ∨ 1 < s.arg m 2 1 ∨
      1 < s.arg m 3 1 ∨ 3 < s.arg m 4 1 ∨ s.arg m 5 1 < 4 ∨ 16 < s.arg m 5 1 ∨ 3 < s.arg m 6 1 ∨ 1 < s.arg m 7 1 ∨
      2 ^ 17 ≤ s.arg m 8 4) := by
    rw [hq, hoff]
    have := q.isLt
    simp only [Bool.false_eq_true, false_or]
    omega
  have hexec : exec (.queueCreate m) s = .next (if (s.rd Reg.QM_POOL_FREE).toNat < ringKib w then s.answer m S_QUEUE_BUDGET
      else (s.makeQueue q w).answer m S_OK) := by
    refine congrArg Host.Outcome.next ((serves_exact h rfl _).trans ((if_neg hgood).trans ?_))
    rw [← hq]
  refine ⟨fun hroom => ?_, fun hfull => ?_⟩
  · obtain ⟨hcfg, hempty, hfill, hpool⟩ := makeQueue_shows s q w
    obtain ⟨hcore, hmem⟩ := makeQueue_world s q w
    have hnext := hexec.trans (next_if_neg (by omega))
    clear hexec
    generalize s.makeQueue q w = u at *
    have hcp' : u.core.cp = .running := by rw [hcore, hcp]
    exact ⟨_, hnext, answer_replied (.inl hcp') m.isLt (by decide) _ _ _, (answer_queueRow (by simp) q hfree _ _ _).trans hcfg,
      (answer_queue _ _ _ _ _ _ (by omega)).trans hempty, (answer_queueRow (by simp) q hfree _ _ _).trans hfill,
      memKept_of ((answer_mem _ _ _ _ _ _).trans hmem), (answer_rd (by decide) _ _ _ _ _ _ _ _ _).trans hpool⟩
  · exact ⟨_, hexec.trans (next_if_pos hfull), answer_reports hcp m (by decide) [] 0 0⟩

theorem queueDestroy_answers (h : s.serves m 0x11 (fun n => decide (n = 4)) = true) (hzero : s.arg m 2 2 = 0)
    (hon : s.bit Reg.QM_Q_CFG 31 q = true) :
    (s.queueInUse q = false →
      ∃ t, exec (.queueDestroy m) s = .next t ∧ t.replied m S_OK ∧ t.bit Reg.QM_Q_CFG 31 q = false ∧ t.queue q = {} ∧
        MemKept s t) ∧
    (s.queueInUse q = true →
      ∃ t, exec (.queueDestroy m) s = .next t ∧ t.replied m S_BUSY ∧ RegsKept s t replyRegs ∧ MemKept s t) := by
  have hcp := (served_of_serves h).1.running
  have hgood : ¬ (s.arg m 0 2 < 256 ∨ 16384 ≤ s.arg m 0 2 ∨ (!s.bit Reg.QM_Q_CFG 31 (s.arg m 0 2)) = true) := by
    rw [hq, hon]
    have := q.isLt
    simp only [Bool.not_true, Bool.false_eq_true, or_false]
    omega
  have hexec : exec (.queueDestroy m) s = .next (if s.queueInUse q then s.answer m S_BUSY else (s.dropQueue q).answer m S_OK) := by
    refine congrArg Host.Outcome.next ((serves_exact h rfl _).trans ((fields_ok (decide_eq_true hzero) _).trans
      ((if_neg hgood).trans ?_)))
    rw [← hq]
  refine ⟨fun hidle => ?_, fun hbusy => ⟨_, hexec.trans (next_if_pos hbusy), answer_reports hcp m (by decide) [] 0 0⟩⟩
  obtain ⟨hbit, hempty⟩ := dropQueue_shows s q
  have hcore : (s.dropQueue q).core.cp = .running := hcp
  have hmem : (s.dropQueue q).mem = s.mem := rfl
  have hnext := hexec.trans (next_if_neg (by rw [hidle]; decide))
  generalize s.dropQueue q = u at *
  exact ⟨_, hnext, answer_replied (.inl hcore) m.isLt (by decide) _ _ _,
    (congrArg (·.getLsbD 31) (answer_queueRow (by simp) q hfree _ _ _)).trans hbit,
    (answer_queue _ _ _ _ _ _ (by omega)).trans hempty, memKept_of ((answer_mem _ _ _ _ _ _).trans hmem)⟩

end

/-- Settles O35: transfers by `camSend_shows`, queues by `makeQueue_shows` and `dropQueue_shows`. -/
theorem cameraControlAndQueueCommands : Obligations.CameraControlAndQueueCommands := by
  unfold Obligations.CameraControlAndQueueCommands
  exact ⟨fun s m hfields => ⟨camRead_begins hfields, camWrite_begins hfields⟩,
    fun s m x hx hm hcp => ⟨fun port data hport hdata hread => ⟨controlAck_ends hx hm hcp hport hdata hread,
      controlAck_goesOn hx hcp hport hdata hread⟩, cameraTimeout_retries hx hcp, cameraTimeout_stops hx hm hcp⟩,
    fun s m q hq hfree => ⟨queueCreate_answers hq hfree, queueDestroy_answers hq hfree⟩⟩

end Sys2Proof.Machine
end

section
/-!
Runs of jobs (R287, R288): O37 fails, since a START writes page tables, and the write may retire a merge entry of the same job
whose sector cannot be read.
-/
namespace Sys2Proof.Machine

open Sys2Proof

/-- A merge entry of one byte that job 0 wrote. -/
def partialEntry (sector : Nat) : MergeEnt := { sector := sector, bytes := [(0, 1)], at_ := 0, sources := [0] }

/-- Mailbox 0 holds START of job 0, which has one page and is not in a run. The merge buffer of vault 0 is full of entries of
the job, and the sector of the oldest has two bad symbols. -/
def startFaultsState : State :=
  { State.reset with
    core := { alive := true, held := false, cp := .running }
    regs := [(Reg.MEM_STATUS.addr, 2), (Reg.F1_MB_STATE.addr, 1)]
    host := { mail := [(0, 0x24), (2, 4)], bells := [0] }
    memory := { merge := [(0, (upTo 64).map partialEntry)], errs := [(0, { syms := 3, injected := true })] }
    job := { jobs := [(0, { img := {}, pages := [0] })] } }

/-- The job of `startFaultsState`. -/
def onePageJob : Job := { img := {}, pages := [0] }

theorem startFaultsState_starts : exec (.start 0) startFaultsState = .next (startFaultsState.startJob 0 0 onePageJob false) := by
  have hserves : startFaultsState.serves 0 0x24 (fun n => decide (n = 4)) = true := by decide +kernel
  refine congrArg Host.Outcome.next ((serves_exact hserves (by decide +kernel) _).trans ((fields_ok (by decide +kernel) _).trans ?_))
  have harg : startFaultsState.arg (0 : Fin 16).val 0 2 = 0 := by decide +kernel
  have hjob : startFaultsState.jobOf 0 = some onePageJob := rfl
  rw [State.withJob, harg, hjob]
  rfl

theorem startFaultsState_faults :
    ((startFaultsState.startJob 0 0 onePageJob false).jobOf 0).map (fun j => j.st) = some .faulted := by
  decide +kernel

/-- Refutes O37: in `startFaultsState` the first write of the page tables evicts the entry whose sector cannot be read, and the
fault of its sources ends the run that has just begun. -/
theorem not_jobRunCommandsChangeStates : ¬ Obligations.JobRunCommandsChangeStates := by
  intro h
  obtain ⟨-, hjobs⟩ := h startFaultsState 0 onePageJob
  obtain ⟨hstart, -⟩ := hjobs (by decide +kernel)
  obtain ⟨hnow, -⟩ := hstart (by decide +kernel) (by decide +kernel) rfl (by decide) (by decide +kernel)
  obtain ⟨t, j', ht, -, -, hjob, hrunning, -⟩ := hnow (by decide +kernel)
  have ht' : startFaultsState.startJob 0 0 onePageJob false = t := by simpa [startFaultsState_starts] using ht
  have hfaulted := startFaultsState_faults
  have harg : startFaultsState.arg (0 : Fin 16).val 0 2 = 0 := by decide +kernel
  rw [harg] at hjob
  rw [ht', hjob, Option.map_some, hrunning] at hfaulted
  exact absurd hfaulted (by decide)

end Sys2Proof.Machine
end

section
/-!
Bindings, priorities, weight switches, calibration and banks of a job (R219 to R221, R248, R263, R284, R310).
-/
namespace Sys2Proof.Machine

open Sys2Proof

variable {β : Type} {p : State → β}

/-! ### Reads and writes of DRAM by firmware -/

theorem ctxBlind_jobs : CtxBlind (fun t => t.job.jobs) :=
  ⟨fun _ _ _ _ _ _ _ => rfl, fun _ _ => rfl, fun _ _ => rfl, fun _ _ h => h⟩

theorem noteElig_jobs (s : State) : s.noteElig.job.jobs = s.job.jobs :=
  noteElig_keeps (p := fun t => t.job.jobs) (fun _ _ _ _ _ _ _ => rfl) (fun _ _ h => h) s

section
variable (hb : SectorBlind p) (hmem : ∀ (s : State) x, p { s with mem := x } = p s)
include hb

theorem countBytes_keeps (s : State) (k v n : Nat) : p (s.countBytes k v n) = p s := by
  unfold State.countBytes
  exact ite_keeps ((hb.sectors.bumpBy (by simp [sectorRows]) _ _ _ _).trans (hb.memory _ _)) (hb.memory _ _)

include hmem

theorem settleSector_keeps (s : State) (sector : Nat) : p (s.settleSector sector) = p s := by
  unfold State.settleSector
  split
  · exact (hb.sectors.bump (by simp [sectorRows]) _ _ _).trans (retireMerge_keeps hb hmem _ _)
  · rfl

theorem fetchSector_keeps (s : State) (sector port : Nat) (first second : BitVec 36) :
    p (s.fetchSector sector port first second).1 = p s :=
  (readSector_keeps hb _ _ _ _ _).trans ((countBytes_keeps hb _ _ _ _).trans (settleSector_keeps hb hmem _ _))

theorem readPhys_keeps (s : State) (fuel pa n : Nat) : p (s.readPhys fuel pa n).1 = p s := by
  induction fuel generalizing s pa n with
  | zero => rfl
  | succ fuel ih =>
    unfold State.readPhys
    split
    · rfl
    · dsimp only
      split
      · exact (ih _ _ _).trans (fetchSector_keeps hb hmem _ _ _ _ _)
      · exact fetchSector_keeps hb hmem _ _ _ _ _

theorem fwRead_keeps (s : State) (pages : List Nat) (fuel va n : Nat) : p (s.fwRead pages fuel va n).1 = p s := by
  induction fuel generalizing s va n with
  | zero => rfl
  | succ fuel ih =>
    unfold State.fwRead
    split
    · rfl
    · extract_lets off k page r
      have hr : p r.1 = p s := by
        dsimp only [r]
        split
        · rfl
        · exact readPhys_keeps hb hmem _ _ _ _
      clear_value r
      obtain ⟨s1, _ | l⟩ := r
      · exact hr
      · have hrest := ih s1 (va + k) (n - k)
        dsimp only
        split
        · next s2 t hread => exact Eq.trans (by rw [← hrest, hread]) hr
        · exact hrest.trans hr

theorem writeSector_keeps (s : State) (sector off src : Nat) (l : List Byte) : p (s.writeSector sector off src l) = p s := by
  unfold State.writeSector
  extract_lets v s1 old s2 s3 base e rest s4
  have h1 : p s1 = p s := countBytes_keeps hb _ _ _ _
  have h2 : p s2 = p s := (setMerge_keeps hb _ _ _).trans h1
  have h3 : p s3 = p s := by
    dsimp only [s3]
    split
    · split
      · exact (hb.sectors.raise (by simp [sectorRows]) _ _ _ _).trans ((hb.sectors.bump (by simp [sectorRows]) _ _ _).trans
          ((retireMerge_keeps hb hmem _ _).trans h1))
      · exact h1
    · exact h1
  have h4 : p s4 = p s := (setMerge_keeps hb _ _ _).trans h3
  exact ite_keeps ((sectorStored_keeps hb.memory _ _).trans ((pokes_blind hmem _ _ _).trans h2))
    (ite_keeps ((retireMerge_keeps hb hmem _ _).trans h4) h4)

theorem writePhys_keeps (s : State) (src fuel pa : Nat) (l : List Byte) : p (s.writePhys src fuel pa l) = p s := by
  induction fuel generalizing s pa l with
  | zero => rfl
  | succ fuel ih =>
    unfold State.writePhys
    split
    · rfl
    · exact (ih _ _ _).trans (writeSector_keeps hb hmem _ _ _ _ _)

theorem fwWrite_keeps (s : State) (pages : List Nat) (fuel va : Nat) (l : List Byte) :
    p (s.fwWrite pages fuel va l) = p s := by
  induction fuel generalizing s va l with
  | zero => rfl
  | succ fuel ih =>
    unfold State.fwWrite
    split
    · rfl
    · exact (ih _ _ _).trans (writePhys_keeps hb hmem _ _ _ _ _)

theorem mapPage_keeps (s : State) (h i page kind : Nat) (v : Bool) : p (s.mapPage h i page kind v) = p s :=
  (writePhys_keeps hb hmem _ _ _ _ _).trans ((writePhys_keeps hb hmem _ _ _ _ _).trans (writePhys_keeps hb hmem _ _ _ _ _))

theorem calibrateAll_keeps (s : State) (j : Job) (typ : Nat) (sym : Bool) (n src dst : Nat) :
    p (s.calibrateAll j typ sym n src dst).1 = p s := by
  induction n generalizing s src dst with
  | zero => rfl
  | succ n ih =>
    have hread := fwRead_keeps hb hmem s j.pages 3 src 64
    unfold State.calibrateAll
    split
    · next s1 b hok =>
      extract_lets e
      have h1 : p s1 = p s := by rw [← hread, hok]
      have h2 := (ih (s1.fwWrite j.pages 3 dst e) (src + 64) (dst + 32)).trans ((fwWrite_keeps hb hmem _ _ _ _ _).trans h1)
      split
      · next s2 k hrest => rw [← h2, hrest]
      · exact h2
    · next s1 hbad => rw [← hread, hbad]

theorem bankNorms_keeps (s : State) (j : Job) (stream d n i : Nat) : p (s.bankNorms j stream d n i).1 = p s := by
  induction n generalizing s i with
  | zero => rfl
  | succ n ih =>
    unfold State.bankNorms
    extract_lets x ten
    have hread := fwRead_keeps hb hmem s j.pages (x.rowStride / 65536 + 2) (x.base + i * x.rowStride) x.rowStride
    split
    · next s1 b hok => exact (ih _ _).trans ((fwWrite_keeps hb hmem _ _ _ _ _).trans (by rw [← hread, hok]))
    · next s1 hbad => rw [← hread, hbad]

theorem prepareBanks_keeps (s : State) (j : Job) (d : Nat) (l : List Nat) : p (s.prepareBanks j d l).1 = p s := by
  induction l generalizing s with
  | nil => rfl
  | cons b t ih =>
    unfold State.prepareBanks
    extract_lets ten
    have hnorms := bankNorms_keeps hb hmem s j b d (ten.w * ten.h) 0
    split
    · next s1 hok => exact (ih s1).trans (by rw [← hnorms, hok])
    · exact hnorms

end

/-- What a reading of a unit outside memory sees. -/
theorem sectorBlind_of_wr (hj : JobBlind p) (hw : ∀ s r v i j k, p (State.wr s r v i j k) = p s)
    (hs : ∀ (s : State) x, p { s with snap := x } = p s) (hf : ∀ (s : State) x, p { s with fault := x } = p s)
    (hfl : ∀ (s : State) x, p { s with flash := x } = p s) : SectorBlind p :=
  { hj with sectors := blind_of_wr hw _, snapRows := blind_of_wr hw _, snap := hs, fault := hf, flash := hfl }

theorem sectorBlind_core : SectorBlind State.core :=
  sectorBlind_of_wr jobBlind_core (fun _ _ _ _ _ _ => rfl) (fun _ _ => rfl) (fun _ _ => rfl) (fun _ _ => rfl)

/-! ### Commands on a job (R474) -/

theorem setJob_job (s : State) (h : Nat) (j : Job) : (s.setJob h j).jobOf h = some j := by
  simp [State.setJob, State.jobOf]

theorem jobOf_of_jobs {s t : State} (h : t.job.jobs = s.job.jobs) (n : Nat) : t.jobOf n = s.jobOf n :=
  congrArg (fun l => AMap.look l n) h

theorem withJob_some {s : State} {m : Nat} {j : Job} (h : s.jobOf (s.arg m 0 2) = some j) (f : Nat → Job → State → State) :
    s.withJob m f = f (s.arg m 0 2) j s := by
  unfold State.withJob
  rw [h]

/-- An answer shows the job of a handle as it was. -/
theorem answer_jobOf (s : State) (m status : Nat) (payload : List Byte) (h : Nat) :
    (s.answer m status payload).jobOf h = s.jobOf h :=
  jobOf_of_jobs (congrArg (fun x : JobSt => x.jobs) (answer_job s m status payload 0 0)) h

theorem noteElig_core (s : State) : s.noteElig.core = s.core :=
  noteElig_keeps (p := State.core) (fun _ _ _ _ _ _ _ => rfl) (fun _ _ _ => rfl) s

theorem noteElig_mem (s : State) : s.noteElig.mem = s.mem :=
  noteElig_keeps (p := State.mem) (fun _ _ _ _ _ _ _ => rfl) (fun _ _ _ => rfl) s

/-- An answer after a change of what is eligible. -/
theorem noteElig_answers {t : State} (hcp : t.core.cp = .running) (m : Fin 16) (h : Nat) :
    (t.noteElig.answer m S_OK).replied m S_OK ∧ (t.noteElig.answer m S_OK).jobOf h = t.jobOf h ∧
      (t.noteElig.answer m S_OK).mem = t.mem := by
  have hcp' : t.noteElig.core.cp = .running := by rw [noteElig_core, hcp]
  exact ⟨answer_replied (.inl hcp') m.isLt (by decide) _ _ _,
    (answer_jobOf _ _ _ _ _).trans (jobOf_of_jobs (noteElig_jobs t) h), (answer_mem _ _ _ _ _ _).trans (noteElig_mem t)⟩

section
variable {s : State} {m : Fin 16} {j : Job} (hjob : s.jobOf (s.arg m 0 2) = some j)
include hjob

/-! ### BIND_INPUT and SET_PRIORITY -/

omit hjob in
theorem bindInput_shows (s : State) (h : Nat) (j : Job) (input : Nat) (b : Binding) :
    (s.bindInput h j input b).jobOf h = some { j with binds := AMap.put j.binds input b } ∧
      (s.bindInput h j input b).core = s.core ∧ (s.bindInput h j input b).mem = s.mem := by
  unfold State.bindInput
  extract_lets t
  have hcore : t.core = s.core := by
    dsimp only [t]
    split
    · split <;> rfl
    · rfl
  have hmem : t.mem = s.mem := by
    dsimp only [t]
    split
    · split <;> rfl
    · rfl
  exact ⟨setJob_job _ _ _, hcore, hmem⟩

theorem bindInput_answers (h : s.serves m 0x23 (fun n => decide (n = 12)) = true) (hinput : s.arg m 2 1 ≤ 15)
    (hpipe : s.arg m 3 1 ≤ 7) (hout : s.arg m 4 1 ≤ 3) (hzero : s.arg m 5 3 = 0)
    (hhas : j.img.inputs.any (fun i => decide (i.input = s.arg m 2 1)) = true) :
    let b : Binding := { pipe := s.arg m 3 1, out := s.arg m 4 1, lanes := BitVec.ofNat 32 (s.arg m 8 4) }
    let t' := s.bindInput (s.arg m 0 2) j (s.arg m 2 1) b
    (t'.jobOk (s.arg m 0 2) t'.effOp 1 = true → s.keepsJobs t' = true →
      ∃ t, exec (.bindInput m) s = .next t ∧ t.replied m S_OK ∧
        t.jobOf (s.arg m 0 2) = some { j with binds := AMap.put j.binds (s.arg m 2 1) b } ∧ MemKept s t) ∧
    (t'.jobOk (s.arg m 0 2) t'.effOp 1 = false →
      ∃ t, exec (.bindInput m) s = .next t ∧ t.replied m S_DEADLINE_INFEASIBLE ∧ t.job = s.job ∧
        RegsKept s t replyRegs ∧ MemKept s t) := by
  intro b t'
  have hcp := (served_of_serves h).1.running
  have hfields : (decide (s.arg m 2 1 ≤ 15) && decide (b.pipe ≤ 7) && decide (b.out ≤ 3) && decide (s.arg m 5 3 = 0)) = true := by
    simp [b, hinput, hpipe, hout, hzero]
  have hexec : exec (.bindInput m) s = .next (if t'.jobOk (s.arg m 0 2) t'.effOp 1 ∧ s.keepsJobs t' then
      t'.noteElig.answer m S_OK else s.answer m S_DEADLINE_INFEASIBLE) := by
    refine congrArg Host.Outcome.next ((serves_exact h rfl _).trans ((fields_ok hfields _).trans ((withJob_some hjob _).trans ?_)))
    exact if_neg (by simp [hhas])
  refine ⟨fun hok hkeeps => ?_, fun hbad => ?_⟩
  · obtain ⟨hjobs, hcore, hmem⟩ := bindInput_shows s (s.arg m 0 2) j (s.arg m 2 1) b
    obtain ⟨hreplied, hshown, hmem'⟩ := noteElig_answers (t := t') (by rw [hcore, hcp]) m (s.arg m 0 2)
    exact ⟨_, hexec.trans (next_if_pos ⟨hok, hkeeps⟩), hreplied, hshown.trans hjobs, memKept_of (hmem'.trans hmem)⟩
  · obtain ⟨hreplied, hregs, hmem⟩ := answer_reports hcp m (status := S_DEADLINE_INFEASIBLE) (by decide) [] 0 0
    exact ⟨_, hexec.trans (next_if_neg (by simp [hbad])), hreplied, answer_job _ _ _ _ _ _, hregs, hmem⟩

theorem setPriority_answers (h : s.serves m 0x2A (fun n => decide (n = 8)) = true) (hprio : s.arg m 2 1 ≤ 15)
    (hzero : s.arg m 3 1 = 0) (hclient : s.arg m 4 2 ≤ 63) (hshare : 1 ≤ s.arg m 6 2) (hshare' : s.arg m 6 2 ≤ 1024) :
    let j' : Job := { j with prio := s.arg m 2 1, client := s.arg m 4 2, share := s.arg m 6 2 }
    (s.setJob (s.arg m 0 2) j').budgets j' = none → (s.setJob (s.arg m 0 2) j').aroundOk (s.arg m 0 2) = true →
    ∃ t, exec (.setPriority m) s = .next t ∧ t.replied m S_OK ∧ t.jobOf (s.arg m 0 2) = some j' ∧ MemKept s t := by
  intro j' hbudget haround
  have hcp := (served_of_serves h).1.running
  have hfields : (decide (s.arg m 2 1 ≤ 15) && decide (s.arg m 3 1 = 0) && decide (s.arg m 4 2 ≤ 63) &&
      within 1 1024 (s.arg m 6 2)) = true := by
    simp [within, hprio, hzero, hclient, hshare, hshare']
  have hexec : exec (.setPriority m) s = .next ((s.setJob (s.arg m 0 2) j').syncJobs.noteElig.answer m S_OK) := by
    refine congrArg Host.Outcome.next ((serves_exact h rfl _).trans ((fields_ok hfields _).trans ((withJob_some hjob _).trans ?_)))
    dsimp only
    rw [hbudget]
    exact if_pos haround
  generalize hu : s.setJob (s.arg m 0 2) j' = u at *
  have hcore : u.syncJobs.core = s.core := (syncJobs_keeps jobBlind_core.ctx _).trans (by rw [← hu]; rfl)
  have hmem : u.syncJobs.mem = s.mem := (syncJobs_keeps jobBlind_mem.ctx _).trans (by rw [← hu]; rfl)
  have hshow : u.syncJobs.jobOf (s.arg m 0 2) = some j' := by
    rw [jobOf_of_jobs (syncJobs_keeps ctxBlind_jobs u), ← hu, setJob_job]
  obtain ⟨hreplied, hshown, hmem'⟩ := noteElig_answers (t := u.syncJobs) (by rw [hcore, hcp]) m (s.arg m 0 2)
  exact ⟨_, hexec, hreplied, hshown.trans hshow, memKept_of (hmem'.trans hmem)⟩

/-! ### SWITCH_WEIGHTS -/

omit hjob in
theorem freeOldSet_keeps (hb : SectorBlind p) (hmem : ∀ (s : State) x, p { s with mem := x } = p s) (s : State) (h : Nat) :
    p (s.freeOldSet h) = p s := by
  have hjob (t : State) (x : Job) : p (t.setJob h x) = p t := hb.job t _
  have hfree (t : State) : p t.syncFree = p t := hb.sectors _ _ _ _ _ _ (by simp [sectorRows])
  unfold State.freeOldSet
  split
  · split
    · extract_lets gone s1 pages img slots s2
      have h1 : p s1 = p s := State.forAll_keeps p _ (fun i t => mapPage_keeps hb hmem t _ _ _ _ _) s _
      refine (hfree _).trans ((State.forAll_keeps p _ (fun u t => ?_) _ _).trans ((hjob _ _).trans h1))
      exact setCtx_keeps hb.toJobBlind.ctx _ _ _ _
    · rfl
  · rfl

omit hjob in
/-- The job whose old set may have been freed. -/
theorem freeOldSet_job {s : State} {h : Nat} {j : Job} (hj : s.jobOf h = some j) :
    ∃ j', (s.freeOldSet h).jobOf h = some j' ∧ (j' = j ∨ j'.set2 = none ∧ j'.switch = []) ∧ j'.st = j.st := by
  have hctx (t : State) (l : List Nat) (f : Ctx → Ctx) :
      (t.forAll l (fun u t => t.setCtx h u (f (t.ctx h u)))).job.jobs = t.job.jobs :=
    State.forAll_keeps (fun t => t.job.jobs) (fun u t => t.setCtx h u (f (t.ctx h u))) (fun _ _ => rfl) t l
  unfold State.freeOldSet
  rw [hj]
  dsimp only
  split
  · exact ⟨_, (jobOf_of_jobs (hctx _ _ (fun c => { c with active := renamed c.active, idle := renamed c.idle })) h).trans
      (setJob_job _ _ _), .inr ⟨rfl, rfl⟩, rfl⟩
  · exact ⟨j, hj, .inl rfl, rfl⟩

theorem switchWeights_answers {g : JobImg} {s1 : State} {d : List Byte}
    (h : s.serves m 0x2B (fun n => decide (n = 8 + 8 * (maskLanes (s.arg m 4 4)).length)) = true) (hzero : s.arg m 3 1 = 0)
    (hset : s.arg m 2 1 = 1 - j.nextSet) (hlanes : maskLanes (s.arg m 4 4) = j.lanes)
    (hset2 : j.set2 = some g) (hswitch : j.switch = []) (hok : s.jobOk (s.arg m 0 2) s.effOp 2 = true)
    (hread : s.fwRead j.set2Pages (g.imageBytes / 65536 + 2) 0 g.imageBytes = (s1, some d)) (h3 : s1.check3 d = none)
    (h8 : check8 g = none) :
    ∃ t j', exec (.switchWeights m) s = .next t ∧ t.replied m S_OK ∧ t.jobOf (s.arg m 0 2) = some j' ∧
      (j'.switch = (s.switchArgs m).map (fun p => (p.1, s1.switchFrom p.1 p.2)) ∨ j'.set2 = none ∧ j'.switch = []) ∧
      j'.st = j.st := by
  obtain ⟨hs, hlen⟩ := served_of_serves h
  have hlen : s.cmdLen m = 8 + 8 * (maskLanes (s.arg m 4 4)).length := of_decide_eq_true hlen
  have hshort : (maskLanes (s.arg m 4 4)).length ≤ 32 :=
    (List.length_filter_le _ _).trans (by simp [upTo])
  have hgood : badLength none (s.cmdLen m) = false := decide_eq_false (by omega)
  have hfields : (decide (s.arg m 2 1 ≤ 1) && decide (s.arg m 3 1 = 0)) = true := by
    rw [decide_eq_true hzero, decide_eq_true (by omega : s.arg m 2 1 ≤ 1)]
    rfl
  let armed := s1.setJob (s.arg m 0 2) { j with switch := (s.switchArgs m).map (fun p => (p.1, s1.switchFrom p.1 p.2)) }
  have hexec : exec (.switchWeights m) s = .next ((armed.freeOldSet (s.arg m 0 2)).noteElig.answer m S_OK) := by
    refine congrArg Host.Outcome.next ((command_serves hs hgood rfl _).trans ((if_neg (by simp [hlen])).trans
      ((fields_ok hfields _).trans ((withJob_some hjob _).trans ?_))))
    rw [hset2]
    refine (if_neg (by simp [hset, hlanes])).trans ((if_neg (by simp [hswitch])).trans ((if_neg (by simp [hok])).trans ?_))
    unfold State.switchSet
    rw [hread]
    dsimp only
    rw [h3, h8]
    rfl
  have hcore : s1.core = s.core := by
    rw [← fwRead_keeps (p := State.core) sectorBlind_core (fun _ _ => rfl) s j.set2Pages (g.imageBytes / 65536 + 2) 0 g.imageBytes,
      hread]
  have hcore' : (armed.freeOldSet (s.arg m 0 2)).core.cp = .running := by
    rw [freeOldSet_keeps (p := State.core) sectorBlind_core (fun _ _ => rfl)]
    exact (congrArg (·.cp) hcore).trans hs.running
  obtain ⟨j', hj', hcases, hst⟩ := freeOldSet_job (s := armed) (setJob_job _ _ _)
  obtain ⟨hreplied, hshown, -⟩ := noteElig_answers hcore' m (s.arg m 0 2)
  refine ⟨_, j', hexec, hreplied, hshown.trans hj', ?_, hst⟩
  exact hcases.imp (fun h => by rw [h]) id

/-! ### CALIBRATE and BANK_PREPARE -/

omit hjob in
/-- An answer after firmware has read and written DRAM. -/
theorem fwDone_answers {s1 : State} (hcore : s1.core = s.core) (hcp : s.core.cp = .running) (payload : List Byte) :
    (s1.answer m S_OK payload).replied m S_OK ∧ MemKept s1 (s1.answer m S_OK payload) ∧
      (s1.answer m S_OK payload).encs = s1.encs :=
  ⟨answer_replied (.inl (by rw [hcore, hcp])) m.isLt (by decide) _ _ _, memKept_of (answer_mem _ _ _ _ _ _),
    answer_sees_encs _ _ _ _ _ _⟩

theorem calibrate_answers {s1 : State} {k : Nat} (h : s.serves m 0x2C (fun n => decide (n = 24)) = true)
    (htyp : s.arg m 2 1 ≤ 4) (hsym : s.arg m 3 1 ≤ 1) (halign : s.arg m 8 8 % 64 = 0)
    (hsrc : j.holds (s.arg m 8 8) (64 * s.arg m 4 4) = true) (hdst : j.holds (s.arg m 16 8) (32 * s.arg m 4 4) = true)
    (hall : s.calibrateAll j (s.arg m 2 1) (decide (s.arg m 3 1 = 1)) (s.arg m 4 4) (s.arg m 8 8) (s.arg m 16 8) = (s1, some k)) :
    ∃ t, exec (.calibrate m) s = .next t ∧ t.replied m S_OK ∧ natLE (t.mailBytes m 16 4) = k % 2 ^ 32 ∧ MemKept s1 t ∧
      t.encs = s1.encs := by
  have hcp := (served_of_serves h).1.running
  have hfields : (decide (s.arg m 2 1 ≤ 4) && decide (s.arg m 3 1 ≤ 1)) = true := by simp [htyp, hsym]
  have hexec : exec (.calibrate m) s = .next (s1.answer m S_OK (bytesLE 4 k)) := by
    refine congrArg Host.Outcome.next ((serves_exact h rfl _).trans ((fields_ok hfields _).trans ((withJob_some hjob _).trans ?_)))
    refine (if_neg (by simp [halign, hsrc, hdst])).trans ?_
    rw [hall]
  have hcore : s1.core = s.core := by
    rw [← calibrateAll_keeps (p := State.core) sectorBlind_core (fun _ _ => rfl) s j (s.arg m 2 1) (decide (s.arg m 3 1 = 1))
      (s.arg m 4 4) (s.arg m 8 8) (s.arg m 16 8), hall]
  obtain ⟨hreplied, hmem, hencs⟩ := fwDone_answers (m := m) hcore hcp (bytesLE 4 k)
  refine ⟨_, hexec, hreplied, ?_, hmem, hencs⟩
  rw [answer_payload_first (.inl (by rw [hcore, hcp])) (by simp) (by decide), List.take_of_length_le (by simp), natLE_bytesLE]
  rfl

theorem bankPrepare_answers {s1 : State} (h : s.serves m 0x2D (fun n => decide (n = 4)) = true)
    (hbanks : j.banksOf (s.arg m 2 2) ≠ [])
    (hall : s.prepareBanks j (j.img.layer (s.arg m 2 2)).d (j.banksOf (s.arg m 2 2)) = (s1, true)) :
    ∃ t, exec (.bankPrepare m) s = .next t ∧ t.replied m S_OK ∧ MemKept s1 t ∧ t.encs = s1.encs := by
  have hcp := (served_of_serves h).1.running
  have hexec : exec (.bankPrepare m) s = .next (s1.answer m S_OK) := by
    refine congrArg Host.Outcome.next ((serves_exact h rfl _).trans ((withJob_some hjob _).trans ((if_neg hbanks).trans ?_)))
    rw [hall]
  have hcore : s1.core = s.core := by
    rw [← prepareBanks_keeps (p := State.core) sectorBlind_core (fun _ _ => rfl) s j (j.img.layer (s.arg m 2 2)).d
      (j.banksOf (s.arg m 2 2)), hall]
  exact ⟨_, hexec, fwDone_answers (m := m) hcore hcp []⟩

end

/-- Settles O38: each command is served by `serves_exact` on the job that it names, and firmware's reads and writes of DRAM keep
the CP that answers. -/
theorem jobParameterCommandsTakeEffect : Obligations.JobParameterCommandsTakeEffect := by
  unfold Obligations.JobParameterCommandsTakeEffect
  exact fun s m j hjob => ⟨bindInput_answers hjob, setPriority_answers hjob,
    fun g s1 d h hzero _ hset hlanes hset2 hswitch hok hread h3 h8 =>
      switchWeights_answers hjob h hzero hset hlanes hset2 hswitch hok hread h3 h8,
    fun s1 k h htyp hsym halign hsrc hdst hall => calibrate_answers hjob h htyp hsym halign hsrc hdst hall,
    fun s1 h hbanks hall => bankPrepare_answers hjob h hbanks hall⟩

end Sys2Proof.Machine
end

section
/-!
Triggers of camera ports (R75 to R77, R79, R84).
-/
namespace Sys2Proof.Machine

open Sys2Proof

variable {β : Type} {p : State → β}

/-! ### A port and the operations on it -/

theorem updCam_cam (s : State) (n : Nat) (f : CamPort → CamPort) : (s.updCam n f).cam n = f (s.cam n) :=
  (State.cam_setCam _ _ _ _).trans (if_pos rfl)

theorem camFree_setCam {s : State} {n : Nat} {c : CamPort} (h : c.lastTrig = (s.cam n).lastTrig) :
    (s.setCam n c).camFree n = s.camFree n := by
  unfold State.camFree
  rw [State.cam_setCam, if_pos rfl, h]
  rfl

/-- A port whose trigger `num` has gone out. -/
def CamPort.issued (c : CamPort) (num : Nat) (late noPos : Bool) (at_ : DWord) : CamPort :=
  { c with
    lastTrig := some at_
    orphans := c.orphans.filter (fun t => decide (t.num ≠ num))
    fifo := c.fifo.map (fun t => if t.num = num then { t with issued := true, late := late, noPos := noPos } else t) }

/-- The issue of a trigger as the port's own registers show it. -/
def State.camNoted (s : State) (n num : Nat) (late : Bool) : State :=
  (s.setCam n ((s.cam n).issued num late (s.bit Reg.ENC_STATUS 0 (s.camEnc n)) s.raw)).when late (fun s => s.camCnt n 7)

/-- Beside the port, a trigger touches an output or a MAC. -/
theorem camIssue_keeps (hw : Blind [Reg.FIO_DO_STATUS] p) (hfio : ∀ (s : State) x, p { s with fio := x } = p s)
    (hmacs : ∀ (s : State) x, p { s with macs := x } = p s) (s : State) (n num : Nat) (late : Bool) :
    p (s.camIssue n num late) = p (s.camNoted n num late) :=
  ite_keeps ((syncOuts_keeps hw hfio _).trans (hfio _ _)) (ite_keeps (hmacs _ _) rfl)

theorem camNoted_keeps (hc : CamBlind p) (s : State) (n num : Nat) (late : Bool) : p (s.camNoted n num late) = p s :=
  (State.when_keeps p _ late (fun s => s.camCnt n 7) (camCnt_keeps hc _ _ _)).trans (hc.cams _ _)

theorem camIssue_cam (s : State) (n num : Nat) (late : Bool) :
    (s.camIssue n num late).cam n = (s.cam n).issued num late (s.bit Reg.ENC_STATUS 0 (s.camEnc n)) s.raw := by
  refine (camIssue_keeps (p := fun t => t.cam n) (fun _ _ _ _ _ _ _ => rfl) (fun _ _ => rfl) (fun _ _ => rfl) s n num late).trans ?_
  unfold State.camNoted
  cases late
  · exact (State.cam_setCam _ _ _ _).trans (if_pos rfl)
  · exact (State.cam_setCam _ _ _ _).trans (if_pos rfl)

theorem camIssue_mem (s : State) (n num : Nat) (late : Bool) : (s.camIssue n num late).mem = s.mem :=
  (camIssue_keeps (p := State.mem) (fun _ _ _ _ _ _ _ => rfl) (fun _ _ => rfl) (fun _ _ => rfl) s n num late).trans
    (camNoted_keeps ⟨fun _ _ _ _ _ _ _ => rfl, fun _ _ => rfl, fun _ _ => rfl⟩ s n num late)

/-- A trigger packet writes no register. -/
theorem camIssue_packet {s : State} {n : Nat} (h : s.camSource n = 1) (num : Nat) : (s.camIssue n num false).regs = s.regs := by
  have hsource : (s.camNoted n num false).camSource n = 1 := h
  have hpacket : s.camIssue n num false = s.camNoted n num false :=
    (if_neg (c := (s.camNoted n num false).camSource n = 2) (by omega)).trans
      (if_neg (c := (s.camNoted n num false).camSource n = 3) (by omega))
  rw [hpacket]
  rfl

/-- A late trigger is counted. -/
theorem camIssue_counts_late (s : State) (n num : Nat) :
    ((s.camIssue n num true).rd Reg.CAM_CNT n 7).toNat = min ((s.rd Reg.CAM_CNT n 7).toNat + 1) 0xFFFFFFFF := by
  rw [camIssue_keeps (p := fun t => t.rd Reg.CAM_CNT n 7) (blind_rd (by decide) n 7 0) (fun _ _ => rfl) (fun _ _ => rfl) s n num true]
  exact rd_bumpBy_same _ 1 _ _ _

/-! ### Grid points -/

/-- The port has passed the grid point. -/
def State.camPassed (s : State) (n : Nat) (high : DWord) : State := s.updCam n (fun c => { c with high := high })

/-- The trigger position `num` has entered the FIFO. -/
def CamPort.numbered (c : CamPort) (high g : DWord) : CamPort :=
  { c with
    high := high, nextNum := c.nextNum + 1, skipped := false,
    fifo := c.fifo ++ [{ num := c.nextNum, pos := g, issued := false, late := false, noPos := false }] }

/-- A block takes the mark of a trigger suppressed before. -/
def CamPort.markSkipped (c : CamPort) (no : Nat) : CamPort :=
  match c.block with
  | some b => if b.no = no then c.mark markDropped else { c with dropBlocks := no :: c.dropBlocks }
  | none => { c with dropBlocks := no :: c.dropBlocks }

theorem CamPort.markSkipped_shows (c : CamPort) (no : Nat) : (c.markSkipped no).high = c.high ∧
    (c.markSkipped no).nextNum = c.nextNum ∧ (c.markSkipped no).fifo = c.fifo := by
  unfold CamPort.markSkipped
  split
  · split <;> exact ⟨rfl, rfl, rfl⟩
  · exact ⟨rfl, rfl, rfl⟩

section
variable {s : State} {n : Fin 8} {g high : DWord} (hon : s.camEnabled n = true) (hsource : s.camSource n ≠ 0)
  (hnext : s.camNext n = some (g, high))
include hon hsource hnext

omit hnext in
theorem exec_gridPointReached {u : State} (hu : s.camReach n = u) : exec (.gridPointReached n) s = .next u :=
  (next_if_pos ⟨hon, hsource⟩).trans (congrArg Host.Outcome.next hu)

omit hon hsource in
/-- A grid point that a ready port numbers, and issues at once. -/
theorem camReach_issues (hready : s.camReady n = true) (hfew : (s.cam n).fifo.length < 4096) (hwaits : (s.cam n).waits = [])
    (hfree : s.camFree n = true) (hahead : (s.cam n).blockNo ≤ (s.cam n).nextNum / s.camPerBlock n) :
    s.camReach n = State.camIssue (((s.camPassed n high).setCam n ((s.cam n).numbered high g)).when (s.cam n).skipped
      (fun t => t.updCam n (fun c => c.markSkipped ((s.cam n).nextNum / s.camPerBlock n)))) n (s.cam n).nextNum false := by
  have hcam : (s.camPassed n high).cam n = { s.cam n with high := high } := updCam_cam _ _ _
  have hpassed : (s.camPassed n high).camFree n = true :=
    (camFree_setCam (c := { s.cam n with high := high }) rfl).trans hfree
  have hready' : (s.camPassed n high).camReady n = true := hready
  have hper : (s.camPassed n high).camPerBlock n = s.camPerBlock n := rfl
  unfold State.camReach
  rw [hnext]
  dsimp -zeta only
  extract_lets t c num no atOnce x past u v
  rw [if_neg (by simp [show t.camReady n = true from hready']), if_neg (by rw [show t.cam n = _ from hcam]; simpa using hfew)]
  have hc : c = { s.cam n with high := high } := hcam
  have hnum : num = (s.cam n).nextNum := by simp only [num, hc]
  have hno : no = (s.cam n).nextNum / s.camPerBlock n := by
    simp only [no, hnum]
    exact congrArg _ hper
  have hatOnce : atOnce = true := by
    have hwaits' : c.waits = [] := by rw [hc]; exact hwaits
    simp only [atOnce, hwaits', List.isEmpty_nil, Bool.true_and]
    exact hpassed
  have hpast : past = false := by
    have hnot : ¬ no < c.blockNo := by
      rw [hno, hc]
      exact Nat.not_lt.2 hahead
    simp [past, hnot]
  simp only [v, u, x, hatOnce, hpast, hc, hnum, hno]
  rfl

theorem gridPoint_issues (hready : s.camReady n = true) (hfew : (s.cam n).fifo.length < 4096) (hwaits : (s.cam n).waits = [])
    (hfree : s.camFree n = true) (hahead : (s.cam n).blockNo ≤ (s.cam n).nextNum / s.camPerBlock n) :
    ∃ t, exec (.gridPointReached n) s = .next t ∧ (t.cam n).high = high ∧ (t.cam n).nextNum = (s.cam n).nextNum + 1 ∧
      { num := (s.cam n).nextNum, pos := g, issued := true, late := false,
        noPos := s.bit Reg.ENC_STATUS 0 (s.camEnc n) } ∈ (t.cam n).fifo ∧
      (t.cam n).lastTrig = some s.raw ∧ (s.camSource n = 1 → t.regs = s.regs) ∧ MemKept s t := by
  have hexec := exec_gridPointReached hon hsource (camReach_issues hnext hready hfew hwaits hfree hahead)
  generalize hu : ((s.camPassed n high).setCam n ((s.cam n).numbered high g)).when (s.cam n).skipped
    (fun t => t.updCam n (fun c => c.markSkipped ((s.cam n).nextNum / s.camPerBlock n))) = u at hexec
  have hworld : u.regs = s.regs ∧ u.raw = s.raw ∧ u.mem = s.mem := by
    have hwhen {β : Type} (p : State → β) (hp : ∀ (t : State) f, p (t.updCam n f) = p t) (t : State) (c : Bool) (f : CamPort → CamPort) :
        p (t.when c (fun t => t.updCam n f)) = p t := State.when_keeps p t c (fun t => t.updCam n f) (hp t f)
    rw [← hu]
    exact ⟨hwhen State.regs (fun _ _ => rfl) _ _ _, hwhen State.raw (fun _ _ => rfl) _ _ _, hwhen State.mem (fun _ _ => rfl) _ _ _⟩
  have hcam : (u.cam n).high = high ∧ (u.cam n).nextNum = (s.cam n).nextNum + 1 ∧
      (u.cam n).fifo = (s.cam n).fifo ++
        [{ num := (s.cam n).nextNum, pos := g, issued := false, late := false, noPos := false }] := by
    have hset : ((s.camPassed n high).setCam n ((s.cam n).numbered high g)).cam n = (s.cam n).numbered high g :=
      (State.cam_setCam _ _ _ _).trans (if_pos rfl)
    rw [← hu]
    unfold State.when
    split
    · rw [updCam_cam, hset]
      exact CamPort.markSkipped_shows _ _
    · rw [hset]
      exact ⟨rfl, rfl, rfl⟩
  obtain ⟨hregs, hraw, hmem⟩ := hworld
  obtain ⟨hhigh, hnum, hfifo⟩ := hcam
  have hissued := camIssue_cam u n (s.cam n).nextNum false
  have hnoPos : u.bit Reg.ENC_STATUS 0 (u.camEnc n) = s.bit Reg.ENC_STATUS 0 (s.camEnc n) := by
    simp only [State.bit, State.camEnc, State.f, State.rd, hregs]
  have hsame : u.camSource n = s.camSource n := by simp only [State.camSource, State.f, State.rd, hregs]
  refine ⟨_, hexec, ?_, ?_, ?_, ?_, fun h1 => (camIssue_packet (hsame.trans h1) _).trans hregs,
    memKept_of ((camIssue_mem _ _ _ _).trans hmem)⟩
  · rw [hissued]
    exact hhigh
  · rw [hissued]
    exact hnum
  · rw [hissued, hnoPos]
    simp [CamPort.issued, hfifo]
  · rw [hissued, hraw]
    rfl

omit hon hsource in
theorem camReach_suppressed (hready : s.camReady n = false) : s.camReach n = (s.camPassed n high).camCnt n 10 := by
  unfold State.camReach
  rw [hnext]
  have hready' : (s.camPassed n high).camReady n = false := hready
  exact if_pos (c := (!(s.camPassed n high).camReady n) = true) (by rw [hready']; rfl)

omit hon hsource in
theorem camReach_full (hready : s.camReady n = true) (hfull : 4096 ≤ (s.cam n).fifo.length) : s.camReach n =
    (((s.camPassed n high).camCnt n 10).raise Reg.CAM_EVENT 3 n).updCam n (fun c => { c with skipped := true }) := by
  have hfull' : 4096 ≤ ((s.camPassed n high).cam n).fifo.length := by
    rw [State.camPassed, updCam_cam]
    exact hfull
  unfold State.camReach
  rw [hnext]
  have hready' : (s.camPassed n high).camReady n = true := hready
  exact (if_neg (c := (!(s.camPassed n high).camReady n) = true) (by rw [hready']; decide)).trans (if_pos hfull')

theorem gridPoint_suppressed (hready : s.camReady n = false) :
    ∃ t, exec (.gridPointReached n) s = .next t ∧ (t.cam n).high = high ∧ (t.cam n).fifo = (s.cam n).fifo ∧
      (t.rd Reg.CAM_CNT n 10).toNat = min ((s.rd Reg.CAM_CNT n 10).toNat + 1) 0xFFFFFFFF ∧
      RegsKept s t [Reg.CAM_CNT.at n 10 0] ∧ MemKept s t := by
  have hcam : ((s.camPassed n high).camCnt n 10).cam n = { s.cam n with high := high } :=
    updCam_cam s n (fun c => { c with high := high })
  refine ⟨_, exec_gridPointReached hon hsource (camReach_suppressed hnext hready), by rw [hcam], by rw [hcam],
    rd_bumpBy_same _ 1 _ _ _, ?_, memKept_of rfl⟩
  exact (regsKept_bumpBy (by simp)).2 (regsKept_of_regs rfl (regsKept_refl s _))

theorem gridPoint_full (hready : s.camReady n = true) (hfull : 4096 ≤ (s.cam n).fifo.length) :
    ∃ t, exec (.gridPointReached n) s = .next t ∧ (t.cam n).fifo = (s.cam n).fifo ∧ (t.cam n).skipped = true ∧
      t.bit Reg.CAM_EVENT 3 n = true ∧ RegsKept s t [Reg.CAM_CNT.at n 10 0, Reg.CAM_EVENT.at n 0 0] ∧ MemKept s t := by
  let u := ((s.camPassed n high).camCnt n 10).raise Reg.CAM_EVENT 3 n
  have hcam : (u.updCam n (fun c => { c with skipped := true })).cam n = { s.cam n with high := high, skipped := true } := by
    have hu : u.cam n = { s.cam n with high := high } := updCam_cam s n (fun c => { c with high := high })
    rw [updCam_cam, hu]
  have hexec := exec_gridPointReached hon hsource (camReach_full hnext hready hfull)
  refine ⟨_, hexec, by rw [hcam], by rw [hcam], State.bit_setBit_same _ _ 3 true _ _ _ (by decide), ?_, memKept_of rfl⟩
  refine regsKept_of_regs (t := u) rfl ?_
  refine (regsKept_setBit (by simp)).2 ((regsKept_bumpBy (by simp)).2 (regsKept_of_regs rfl (regsKept_refl s _)))

end

/-! ### Delayed triggers and acknowledgements -/

theorem delayedTrigger_issues {s : State} {n : Fin 8} {w : CamTrig} {rest : List CamTrig} (hwaits : (s.cam n).waits = w :: rest)
    (hfree : s.camFree n = true) :
    ∃ t, exec (.delayedTrigger n) s = .next t ∧ (t.cam n).lastTrig = some s.raw ∧
      (∀ x ∈ (t.cam n).fifo, x.num = w.num → x.issued = true ∧ x.late = true) ∧
      (t.rd Reg.CAM_CNT n 7).toNat = min ((s.rd Reg.CAM_CNT n 7).toNat + 1) 0xFFFFFFFF ∧ MemKept s t := by
  have hexec : exec (.delayedTrigger n) s = .next (s.camIssue n w.num true) := by
    change Host.Outcome.next (s.camDelayed n) = _
    unfold State.camDelayed
    rw [hwaits]
    exact next_if_pos hfree
  have hissued := camIssue_cam s n w.num true
  refine ⟨_, hexec, by rw [hissued]; rfl, ?_, camIssue_counts_late s n w.num, memKept_of (camIssue_mem s n w.num true)⟩
  rw [hissued]
  intro x hx hnum
  obtain ⟨y, hy, rfl⟩ := List.mem_map.1 hx
  by_cases hy' : y.num = w.num
  · rw [if_pos hy']
    exact ⟨rfl, rfl⟩
  · rw [if_neg hy'] at hnum
    exact absurd hnum hy'

theorem triggerAck_counts {s : State} {n : Fin 8} (hup : s.camUp n = true) (hgev : s.camGev n = false) :
    ∃ t, exec (.triggerAck n) s = .next t ∧ (t.cam n).acks = (s.cam n).acks + 1 ∧ t.regs = s.regs ∧ MemKept s t :=
  ⟨_, next_if_pos ⟨hup, by simp [hgev]⟩, by rw [updCam_cam], rfl, memKept_of rfl⟩

/-- Settles O39: `camReach` by its three outcomes, and the issue of a trigger by `camIssue_cam`. -/
theorem cameraTriggersFollowTheGrid : Obligations.CameraTriggersFollowTheGrid := by
  unfold Obligations.CameraTriggersFollowTheGrid
  exact fun s n => ⟨fun g high hon hsource hnext => ⟨gridPoint_issues hon hsource hnext, gridPoint_suppressed hon hsource hnext,
    gridPoint_full hon hsource hnext⟩, fun w rest => delayedTrigger_issues, triggerAck_counts⟩

end Sys2Proof.Machine
end

section
/-!
The link of a camera port and the close of its blocks (R71, R73, R84, R95).
-/
namespace Sys2Proof.Machine

open Sys2Proof

variable {β : Type} {p : State → β} {n : Nat}

/-! ### The close of a block (R84) -/

/-- A reading of port `n` that sees which block is open and how many have closed, and little else of the port. -/
structure PortBlind (n : Nat) (p : State → β) : Prop where
  rows : Blind [Reg.CAM_OCC, Reg.CAM_STATUS, Reg.CAM_EVENT] p
  count : ∀ (s : State) k, 0 < k → k < 11 → p (s.camCnt n k) = p s
  port : ∀ (s : State) f, (∀ c : CamPort, (f c).block.map (fun b => b.id) = c.block.map (fun b => b.id)) → p (s.updCam n f) = p s
  free : ∀ (s : State) x, p { s with free := x } = p s

theorem mark_id (c : CamPort) (m : Nat) : (c.mark m).block.map (fun b => b.id) = c.block.map (fun b => b.id) := by
  unfold CamPort.mark
  cases c.block <;> rfl

theorem portBlind_open (n : Nat) : PortBlind n (fun s => (s.cam n).block.map (fun b => b.id)) :=
  ⟨fun _ _ _ _ _ _ _ => rfl, fun _ _ _ _ => rfl,
    fun s f h => (congrArg (fun c : CamPort => c.block.map (fun b => b.id)) (updCam_cam s n f)).trans (h _), fun _ _ => rfl⟩

theorem portBlind_closed (n : Nat) : PortBlind n (fun s => s.rd Reg.CAM_CNT n 0) where
  rows := blind_rd (by decide) n 0 0
  count s k hk hk' := by
    refine State.rd_wr_other _ _ _ _ _ _ _ _ _ 0 ?_
    simp only [RegRow.at, Reg.CAM_CNT]
    omega
  port _ _ _ := rfl
  free _ _ := rfl

section
variable (hp : PortBlind n p)
include hp

theorem portOcc_keeps (s : State) : p (s.camOcc n) = p s :=
  (hp.rows.setBit (r := Reg.CAM_STATUS) (by simp) _ _ _ _ _ _).trans (hp.rows _ _ _ _ _ _ (by simp))

theorem portRelease_keeps (s : State) : p (s.camRelease n) = p s := (portOcc_keeps hp _).trans (hp.port _ _ (fun _ => rfl))

theorem portPair_keeps (s : State) (t : Option CamTrig) : p (s.camPair n t) = p s := by
  cases t with
  | none => rfl
  | some t =>
    unfold State.camPair
    refine hp.port s _ ?_
    intro c
    dsimp only
    split
    · simp [Function.comp_def]
    · rfl

theorem portAligned_keeps (s : State) (b : CamBlock) (t : Option CamTrig) : p (s.camAligned n b t).2.2.2 = p s := by
  have hdraw : p s.draw.2.draw.2 = p s := (hp.free _ _).trans (hp.free _ _)
  unfold State.camAligned
  simp only
  split
  · exact ite_keeps rfl hdraw
  · split
    · exact ite_keeps rfl hdraw
    · exact hdraw

theorem portAdmit_keeps (s : State) (i : Nat) (b : CamBlock) (t : Option CamTrig) (fillLine : Bool) :
    p (s.camAdmit n i b t fillLine) = p s := by
  have hpair := portPair_keeps hp s t
  unfold State.camAdmit
  extract_lets s1
  refine ite_keeps ?_ ?_
  · refine (hp.port _ _ ?_).trans ((hp.rows.raise (r := Reg.CAM_EVENT) (by simp) _ _ _ _).trans
      ((hp.count _ 3 (by decide) (by decide)).trans hpair))
    exact fun c => by simp [CamPort.mark, Function.comp_def]
  · have haligned := (portAligned_keeps hp s1 b t).trans hpair
    refine ite_keeps ?_ ?_
    · refine (portRelease_keeps hp _).trans ((hp.port _ _ ?_).trans haligned)
      exact fun c => by simp [CamPort.mark, Function.comp_def]
    · refine (portOcc_keeps hp _).trans ((hp.count _ 1 (by decide) (by decide)).trans ((hp.port _ _ ?_).trans haligned))
      exact fun c => by simp [CamPort.mark, Function.comp_def]

theorem portLineDone_keeps (s : State) : p (s.camLineDone n) = p s := by
  unfold State.camLineDone
  split
  · split
    · refine (portRelease_keeps hp _).trans ((State.when_keeps p _ _ (fun s => s.camCnt n 6)
        (hp.count _ 6 (by decide) (by decide))).trans (hp.port _ _ ?_))
      intro c
      dsimp only
      split <;> simp [CamPort.mark, Function.comp_def]
    · rfl
  · rfl

theorem portFill_keeps (s : State) : p (s.camFill n) = p s := by
  unfold State.camFill
  split
  · rfl
  · refine State.forAll_keeps p _ (fun i t => ?_) s _
    split
    · rfl
    · refine ite_keeps (portAdmit_keeps hp _ _ _ _ _) ?_
      split
      · exact portAdmit_keeps hp _ _ _ _ _
      · rfl

end

/-- The open block has the lines that it will have, and its marks. -/
def State.camFilled (s : State) (n marks : Nat) (b0 : CamBlock) : State :=
  let short := decide ((b0.seen.filter (fun i => decide (i < s.blockLines n))).length < s.blockLines n)
  ((s.camLineDone n).updCam n (fun c => c.mark (marks ||| (if short then markShort else 0)))).when short (fun s => s.camFill n)

/-- The block leaves the port. -/
def State.camShut (s : State) (n : Nat) (b : CamBlock) : State :=
  ((s.updCam n (fun c => { c with
    slots := c.slots.map (fun l => if l.block = b.id then { l with marks := b.marks, full := true } else l)
    block := none })).camLeave n b.no).camRelease n

/-- The close of a block is counted with its marks. -/
def State.camCounted (s : State) (n : Nat) (b : CamBlock) : State :=
  (((s.camCnt n 0).when (b.marks.getLsbD 3) (fun s => s.camCnt n 4)).when (b.marks.getLsbD 4) (fun s => s.camCnt n 5)).when
    (decide (b.marks ≠ 0)) (fun s => s.raise Reg.CAM_EVENT 4 n)

theorem camFilled_keeps (hp : PortBlind n p) (s : State) (marks : Nat) (b : CamBlock) : p (s.camFilled n marks b) = p s :=
  (State.when_keeps p _ _ (fun s => s.camFill n) (portFill_keeps hp _)).trans
    ((hp.port _ _ (fun c => mark_id c _)).trans (portLineDone_keeps hp s))

/-- A block that closes, with the identity of the open one. -/
theorem camClose_some {s : State} {b0 : CamBlock} (h : (s.cam n).block = some b0) (marks : Nat) :
    ∃ b, b.id = b0.id ∧ s.camClose n marks = ((s.camFilled n marks b0).camShut n b).camCounted n b := by
  have hid : ((s.camFilled n marks b0).cam n).block.map (fun b => b.id) = some b0.id := by
    rw [camFilled_keeps (portBlind_open n), h]
    rfl
  obtain ⟨b, hb, hsame⟩ := Option.map_eq_some_iff.1 hid
  refine ⟨b, hsame, ?_⟩
  unfold State.camClose
  rw [h]
  change (match ((s.camFilled n marks b0).cam n).block with
    | none => s.camFilled n marks b0
    | some b => ((s.camFilled n marks b0).camShut n b).camCounted n b) = _
  rw [hb]

theorem camClose_none {s : State} (h : (s.cam n).block = none) (marks : Nat) : s.camClose n marks = s := by
  unfold State.camClose
  rw [h]

theorem camCounted_keeps (hw : Blind [Reg.CAM_CNT, Reg.CAM_EVENT] p) (s : State) (b : CamBlock) : p (s.camCounted n b) = p s := by
  have hcnt (t : State) (k : Nat) : p (t.camCnt n k) = p t := hw.bump (r := Reg.CAM_CNT) (by simp) _ _ _
  refine (State.when_keeps p _ _ (fun s => s.raise Reg.CAM_EVENT 4 n) (hw.raise (r := Reg.CAM_EVENT) (by simp) _ _ _ _)).trans ?_
  exact (State.when_keeps p _ _ (fun s => s.camCnt n 5) (hcnt _ _)).trans
    ((State.when_keeps p _ _ (fun s => s.camCnt n 4) (hcnt _ _)).trans (hcnt _ _))

theorem camRelease_cam (s : State) : (s.camRelease n).cam n =
    { s.cam n with slots := (s.cam n).slots.filter (fun l => !(l.full && l.readers.isEmpty)) } :=
  updCam_cam s n (fun c => { c with slots := c.slots.filter (fun l => !(l.full && l.readers.isEmpty)) })

theorem camShut_cam (s : State) (b : CamBlock) : ((s.camShut n b).cam n).block = none ∧
    ∀ l ∈ ((s.camShut n b).cam n).slots, l.block = b.id → l.full = true := by
  unfold State.camShut State.camLeave
  rw [camRelease_cam, updCam_cam, updCam_cam]
  refine ⟨rfl, fun l hl hblock => ?_⟩
  obtain ⟨x, -, rfl⟩ := List.mem_map.1 (List.mem_filter.1 hl).1
  by_cases hx : x.block = b.id
  · rw [if_pos hx]
  · rw [if_neg hx] at hblock
    exact absurd hblock hx

theorem camShut_closed (s : State) (b : CamBlock) : (s.camShut n b).rd Reg.CAM_CNT n 0 = s.rd Reg.CAM_CNT n 0 :=
  (portRelease_keeps (portBlind_closed n) _).trans rfl

/-- A closed block leaves no block open, its lines are full, and it is counted. -/
theorem camClose_shows {s : State} {b : CamBlock} (h : (s.cam n).block = some b) (marks : Nat) :
    ((s.camClose n marks).cam n).block = none ∧ (∀ l ∈ ((s.camClose n marks).cam n).slots, l.block = b.id → l.full = true) ∧
      ((s.camClose n marks).rd Reg.CAM_CNT n 0).toNat = min ((s.rd Reg.CAM_CNT n 0).toNat + 1) 0xFFFFFFFF := by
  obtain ⟨b', hid, hclose⟩ := camClose_some h marks
  obtain ⟨hnone, hfull⟩ := camShut_cam (n := n) (s.camFilled n marks b) b'
  have hcam := camCounted_keeps (n := n) (p := fun t => t.cam n) (fun _ _ _ _ _ _ _ => rfl) ((s.camFilled n marks b).camShut n b') b'
  rw [hclose, hcam, ← hid]
  refine ⟨hnone, hfull, ?_⟩
  let shut := (s.camFilled n marks b).camShut n b'
  have hshut : shut.rd Reg.CAM_CNT n 0 = s.rd Reg.CAM_CNT n 0 :=
    (camShut_closed _ _).trans (camFilled_keeps (portBlind_closed n) s marks b)
  have hother (t : State) (k : Nat) (hk : 0 < k) (hk' : k < 11) : (t.camCnt n k).rd Reg.CAM_CNT n 0 = t.rd Reg.CAM_CNT n 0 :=
    (portBlind_closed n).count t k hk hk'
  have hcounted : (shut.camCounted n b').rd Reg.CAM_CNT n 0 = (shut.camCnt n 0).rd Reg.CAM_CNT n 0 := by
    refine (State.when_keeps (fun t => t.rd Reg.CAM_CNT n 0) _ _ (fun s => s.raise Reg.CAM_EVENT 4 n)
      ((portBlind_closed n).rows.raise (r := Reg.CAM_EVENT) (by simp) _ _ _ _)).trans ?_
    refine (State.when_keeps (fun t => t.rd Reg.CAM_CNT n 0) _ _ (fun s => s.camCnt n 5) (hother _ 5 (by decide) (by decide))).trans ?_
    exact State.when_keeps (fun t => t.rd Reg.CAM_CNT n 0) _ _ (fun s => s.camCnt n 4) (hother _ 4 (by decide) (by decide))
  rw [hcounted, State.camCnt, State.bump, rd_bumpBy_same, hshut]

theorem camClose_block (s : State) (n marks : Nat) : ((s.camClose n marks).cam n).block = none := by
  cases h : (s.cam n).block with
  | none => rw [camClose_none h, h]
  | some b => exact (camClose_shows h marks).1

/-! ### The link comes up (R71) -/

section
variable {s : State} {n : Fin 8}

theorem camLinkUp_shows (hon : s.camEnabled n = true) (hdown : s.camUp n = false) (hcarrier : s.camCarrier n = true)
    (hlive : s.camGev n = true ∨ (s.cam n).lastHeart.isSome = true) :
    ∃ t, exec (.camLinkUp n) s = .next t ∧ t.f Reg.CAM_STATUS 0 3 n = 1 ∧ t.bit Reg.CAM_EVENT 0 n = true ∧
      (t.cam n).discovering = !s.camGev n ∧
      RegsKept s t [Reg.CAM_STATUS.at n 0 0, Reg.CAM_EVENT.at n 0 0] ∧ MemKept s t := by
  let u := (s.setF Reg.CAM_STATUS 0 3 1 n).raise Reg.CAM_EVENT 0 n
  have hexec : exec (.camLinkUp n) s = .next (u.updCam n (fun c => { c with discovering := !s.camGev n })) :=
    next_if_pos ⟨hon, by simp [hdown], hcarrier, hlive⟩
  refine ⟨_, hexec, ?_, State.bit_setBit_same _ _ 0 true _ _ _ (by decide), ?_, ?_, memKept_of rfl⟩
  · exact (f_setBit_apart (r := Reg.CAM_EVENT) (by decide) _ _ _ _ _ _ _ _ _ _ _).trans
      (State.f_setF_same _ _ _ _ _ _ _ _ (by decide))
  · rw [updCam_cam]
  · exact regsKept_of_regs (t := u) rfl ((regsKept_setBit (by simp)).2 ((regsKept_setF (by simp)).2 (regsKept_refl s _)))

theorem discoveryDone_shows {ids : List Nat} {same : Bool} (hup : s.camUp n = true) (hdisc : (s.cam n).discovering = true) :
    ∃ t, exec (.discoveryDone n ids same) s = .next t ∧ (t.cam n).discovering = false ∧
      (same = true → ids = List.range (s.camLanes n).length →
        t.bit Reg.CAM_STATUS 1 n = true ∧ t.bit Reg.CAM_EVENT 2 n = true) ∧
      (same = false ∨ ids ≠ List.range (s.camLanes n).length → t.bit Reg.CAM_STATUS 2 n = true) ∧
      RegsKept s t [Reg.CAM_STATUS.at n 0 0, Reg.CAM_EVENT.at n 0 0] ∧ MemKept s t := by
  let u := s.updCam n (fun c => { c with discovering := false })
  have hcam : (u.cam n).discovering = false := by rw [updCam_cam]
  have hexec : exec (.discoveryDone n ids same) s = .next (if same ∧ ids = List.range (s.camLanes n).length then
      (u.setBit Reg.CAM_STATUS 1 true n).raise Reg.CAM_EVENT 2 n else u.setBit Reg.CAM_STATUS 2 true n) :=
    next_if_pos ⟨hup, hdisc⟩
  have hkept : RegsKept s u [Reg.CAM_STATUS.at n 0 0, Reg.CAM_EVENT.at n 0 0] := regsKept_of_regs (t := s) rfl (regsKept_refl s _)
  by_cases hgood : same ∧ ids = List.range (s.camLanes n).length
  · refine ⟨_, hexec.trans (next_if_pos hgood), hcam, fun _ _ => ⟨?_, State.bit_setBit_same _ _ 2 true _ _ _ (by decide)⟩,
      fun hbad => ?_, (regsKept_setBit (by simp)).2 ((regsKept_setBit (by simp)).2 hkept), memKept_of rfl⟩
    · exact (bit_setBit_apart (r := Reg.CAM_EVENT) (by decide) _ _ _ _ _ _ _ _ _ _).trans
        (State.bit_setBit_same _ _ 1 true _ _ _ (by decide))
    · obtain ⟨hsame, hids⟩ := hgood
      rcases hbad with hbad | hbad
      · rw [hsame] at hbad
        cases hbad
      · exact absurd hids hbad
  · exact ⟨_, hexec.trans (next_if_neg hgood), hcam, fun hsame hids => absurd ⟨hsame, hids⟩ hgood,
      fun _ => State.bit_setBit_same _ _ 2 true _ _ _ (by decide), (regsKept_setBit (by simp)).2 hkept, memKept_of rfl⟩

/-! ### The link is lost (R71, R95) -/

/-- A port that has lost its link. -/
def CamPort.unlinked (c : CamPort) : CamPort :=
  { c with
    fifo := [], orphans := [], nextNum := 0, blockNo := 0, dropBlocks := [], skipped := false, discard := false,
    lastHeart := none, discovering := false }

theorem camDown_eq (hup : s.camUp n = true) : s.camDown n =
    (((s.camClose n (markMissing ||| markShort)).updCam n CamPort.unlinked).setF Reg.CAM_STATUS 0 3 0 n).raise
      Reg.CAM_EVENT 1 n := by
  have hwas : (s.bit Reg.CAM_STATUS 0 n || (s.cam n).block.isSome) = true := by
    have hlink := (Bool.and_eq_true_iff.1 hup).2
    rw [hlink, Bool.true_or]
  exact if_pos hwas

/-- A port without its link: no trigger waits, no block is open, and numbering starts anew. -/
theorem camDown_shows (hup : s.camUp n = true) : (s.camDown n).f Reg.CAM_STATUS 0 3 n = 0 ∧
    (s.camDown n).bit Reg.CAM_EVENT 1 n = true ∧ ((s.camDown n).cam n).fifo = [] ∧ ((s.camDown n).cam n).block = none ∧
    ((s.camDown n).cam n).nextNum = 0 ∧ MemKept s (s.camDown n) := by
  have hmem : (s.camDown n).mem = s.mem := camDown_keeps ⟨fun _ _ _ _ _ _ _ => rfl, fun _ _ => rfl, fun _ _ => rfl⟩ s n
  have hcam : (s.camDown n).cam n = ((s.camClose n (markMissing ||| markShort)).cam n).unlinked := by
    rw [camDown_eq hup]
    exact updCam_cam (s.camClose n (markMissing ||| markShort)) n CamPort.unlinked
  refine ⟨?_, ?_, by rw [hcam]; rfl, by rw [hcam]; exact camClose_block s n _, by rw [hcam]; rfl, memKept_of hmem⟩
  · rw [camDown_eq hup]
    exact (f_setBit_apart (r := Reg.CAM_EVENT) (by decide) _ _ _ _ _ _ _ _ _ _ _).trans
      (State.f_setF_same _ _ _ _ _ _ _ _ (by decide))
  · rw [camDown_eq hup]
    exact State.bit_setBit_same _ _ 1 true _ _ _ (by decide)

theorem camLinkDown_shows (hup : s.camUp n = true) (hcarrier : s.camCarrier n = false) :
    ∃ t, exec (.camLinkDown n) s = .next t ∧ t.f Reg.CAM_STATUS 0 3 n = 0 ∧ t.bit Reg.CAM_EVENT 1 n = true ∧
      (t.cam n).fifo = [] ∧ (t.cam n).block = none ∧ (t.cam n).nextNum = 0 ∧ MemKept s t :=
  ⟨_, next_if_pos ⟨hup, by simp [hcarrier]⟩, camDown_shows hup⟩

theorem heartbeatTimeout_shows {last : DWord} (hup : s.camUp n = true) (hgev : s.camGev n = false)
    (hlast : (s.cam n).lastHeart = some last) (hlate : 1000000000 ≤ s.since last) :
    ∃ t, exec (.heartbeatTimeout n) s = .next t ∧ t.f Reg.CAM_STATUS 0 3 n = 0 ∧ t.bit Reg.CAM_EVENT 1 n = true ∧
      (t.cam n).fifo = [] ∧ (t.cam n).block = none ∧ MemKept s t := by
  have hexec : exec (.heartbeatTimeout n) s = .next (s.camDown n) := by
    refine (next_if_pos ⟨hup, by simp [hgev]⟩).trans ?_
    rw [hlast]
    exact next_if_pos hlate
  obtain ⟨hstatus, hevent, hfifo, hblock, -, hmem⟩ := camDown_shows hup
  exact ⟨_, hexec, hstatus, hevent, hfifo, hblock, hmem⟩

theorem heartbeatPacket_shows (hon : s.camEnabled n = true) (hgev : s.camGev n = false) (hcarrier : s.camCarrier n = true) :
    ∃ t, exec (.heartbeatPacket n) s = .next t ∧ (t.cam n).lastHeart = some s.raw ∧ t.regs = s.regs ∧ MemKept s t :=
  ⟨_, next_if_pos ⟨hon, by simp [hgev], hcarrier⟩, by rw [updCam_cam], rfl, memKept_of rfl⟩

theorem gevHeartbeat_shows (hup : s.camUp n = true) (hgev : s.camGev n = true) (hcp : s.core.cp = .running) :
    ∃ t, exec (.gevHeartbeat n) s = .next t ∧
      (t.mac (s.camMac n)).txq = (s.mac (s.camMac n)).txq ++ [{ cls := 2, tag := .gvcp n, data := [] }] ∧
      (t.cam n).beatSent = some s.raw ∧ t.regs = s.regs ∧ MemKept s t := by
  let u := s.macSend (s.camMac n) { cls := 2, tag := .gvcp n, data := [] }
  have hmac : u.mac (s.camMac n) = { s.mac (s.camMac n) with
      txq := (s.mac (s.camMac n)).txq ++ [{ cls := 2, tag := .gvcp n, data := [] }] } :=
    (State.mac_setMac _ _ _ _).trans (if_pos rfl)
  refine ⟨u.updCam n (fun c => { c with beatSent := some s.raw }), next_if_pos ⟨hup, hgev, hcp⟩, ?_, by rw [updCam_cam], rfl,
    memKept_of rfl⟩
  exact congrArg MacSt.txq hmac

end

/-- Settles O40: a lost link closes the block by `camClose_block` and empties the port by `camDown_shows`. -/
theorem cameraLinkComesAndGoes : Obligations.CameraLinkComesAndGoes := by
  unfold Obligations.CameraLinkComesAndGoes
  exact fun s n => ⟨camLinkUp_shows, fun ids same => discoveryDone_shows, camLinkDown_shows, fun last => heartbeatTimeout_shows,
    heartbeatPacket_shows, gevHeartbeat_shows⟩

end Sys2Proof.Machine
end

section
/-!
Blocks and lines of camera ports, and their event packets (R72, R83 to R85, R90, R93, R644).
-/
namespace Sys2Proof.Machine

open Sys2Proof

/-! ### Blocks (R72, R84) -/

section
variable {s : State} {n : Fin 8} (hready : s.camReady n = true)
include hready

/-- What a ready port receives. -/
theorem camTake_ready (f : State → State) : s.camTake n f = f s := by
  have hup := (Bool.and_eq_true_iff.1 hready).1
  exact (if_neg (by simp [hup])).trans (if_pos hready)

theorem blockHeader_opens {fmt : BitVec 7} {width : Nat} {exposure : DWord} (hnone : (s.cam n).block = none)
    (hfmt : fmt.toNat = s.f Reg.CAM_FMT 17 7 n) :
    ∃ t b, exec (.streamBlockHeader n fmt width exposure) s = .next t ∧ (t.cam n).block = some b ∧
      b.no = (s.cam n).blockNo ∧ b.width = width ∧ b.exposure = exposure ∧ b.seen = [] ∧ b.cur = none ∧
      (t.cam n).blockNo = (s.cam n).blockNo + 1 ∧ t.regs = s.regs ∧ MemKept s t := by
  have hopen : s.camOpen n fmt width exposure = s.updCam n (fun c => { c with
      blockNo := (s.cam n).blockNo + 1, discard := false, opened := c.opened + 1,
      dropBlocks := c.dropBlocks.filter (fun x => decide (x ≠ (s.cam n).blockNo)),
      block := some { no := (s.cam n).blockNo, id := c.opened, width := width, exposure := exposure,
                      marks := if c.dropBlocks.contains (s.cam n).blockNo then BitVec.ofNat 32 markDropped else 0 } }) := by
    unfold State.camOpen
    rw [camClose_none hnone]
    exact if_neg (by simp [hfmt])
  have hnext : exec (.streamBlockHeader n fmt width exposure) s = .next (s.camOpen n fmt width exposure) :=
    congrArg Host.Outcome.next (camTake_ready hready _)
  rw [hopen] at hnext
  exact ⟨_, _, hnext, by rw [updCam_cam], rfl, rfl, rfl, rfl, rfl, by rw [updCam_cam], rfl, memKept_of rfl⟩

/-- The port discards the block that arrives. -/
def CamPort.discarding (c : CamPort) (no : Nat) : CamPort := { c with blockNo := no + 1, discard := true }

theorem blockHeader_discards {fmt : BitVec 7} {width : Nat} {exposure : DWord} (hnone : (s.cam n).block = none)
    (hfmt : fmt.toNat ≠ s.f Reg.CAM_FMT 17 7 n) :
    ∃ t, exec (.streamBlockHeader n fmt width exposure) s = .next t ∧ (t.cam n).block = none ∧
      (t.cam n).discard = true ∧ t.bit Reg.CAM_EVENT 5 n = true ∧
      RegsKept s t [Reg.CAM_CNT.at n 9 0, Reg.CAM_EVENT.at n 0 0] ∧ MemKept s t := by
  let no := (s.cam n).blockNo
  let left := (s.updCam n (fun c => c.discarding no)).camLeave n no
  have hopen : s.camOpen n fmt width exposure = (left.camCnt n 9).raise Reg.CAM_EVENT 5 n := by
    unfold State.camOpen
    rw [camClose_none hnone]
    exact if_pos hfmt
  have hnext : exec (.streamBlockHeader n fmt width exposure) s = .next (s.camOpen n fmt width exposure) :=
    congrArg Host.Outcome.next (camTake_ready hready _)
  rw [hopen] at hnext
  have hcam : (left.cam n).block = none ∧ (left.cam n).discard = true := by
    simp only [left, State.camLeave, updCam_cam]
    exact ⟨hnone, rfl⟩
  refine ⟨_, hnext, hcam.1, hcam.2, State.bit_setBit_same _ _ 5 true _ _ _ (by decide), ?_, memKept_of rfl⟩
  exact (regsKept_setBit (by simp)).2 ((regsKept_bumpBy (by simp)).2 (regsKept_of_regs (t := s) rfl (regsKept_refl s _)))

theorem blockEnd_closes {b : CamBlock} (hblock : (s.cam n).block = some b) :
    ∃ t, exec (.blockEnd n) s = .next t ∧ (t.cam n).block = none ∧ (t.cam n).discard = false ∧
      (∀ l ∈ (t.cam n).slots, l.block = b.id → l.full = true) ∧
      (t.rd Reg.CAM_CNT n 0).toNat = min ((s.rd Reg.CAM_CNT n 0).toNat + 1) 0xFFFFFFFF ∧ MemKept s t := by
  have hnext : exec (.blockEnd n) s = .next ((s.camClose n 0).updCam n (fun c => { c with discard := false })) :=
    congrArg Host.Outcome.next (camTake_ready hready _)
  have hmem : (s.camClose n 0).mem = s.mem :=
    camClose_keeps ⟨fun _ _ _ _ _ _ _ => rfl, fun _ _ => rfl, fun _ _ => rfl⟩ s n 0
  obtain ⟨hnone, hfull, hcount⟩ := camClose_shows hblock 0
  generalize s.camClose n 0 = u at *
  refine ⟨_, hnext, ?_, ?_, ?_, hcount, memKept_of hmem⟩
  · rw [updCam_cam]
    exact hnone
  · rw [updCam_cam]
  · rw [updCam_cam]
    exact hfull

/-! ### Lines (R83, R85, R90) -/

section
variable {b : CamBlock} (hblock : (s.cam n).block = some b)

omit hready in
theorem camLineDone_none {s : State} {n : Nat} {b : CamBlock} (hblock : (s.cam n).block = some b) (hcur : b.cur = none) :
    s.camLineDone n = s := by
  unfold State.camLineDone
  rw [hblock]
  dsimp only
  rw [hcur]

/-- The port has seen line `i` of its open block. -/
def State.camSeen (s : State) (n i : Nat) (b : CamBlock) : State :=
  s.updCam n (fun c => { c with block := some { b with seen := i :: b.seen } })

omit hready in
theorem camLine_admits {tr : CamTrig} (hblock : (s.cam n).block = some b) (hcur : b.cur = none) {i : Nat} (hi : i < s.blockLines n)
    (hsource : s.camSource n ≠ 0) (htrig : s.camTrigOf n b i = some tr) :
    s.camLine n i = (s.camSeen n i b).camAdmit n i b (some tr) false := by
  have htrig' : (s.camSeen n i b).camTrigOf n b i = some tr := by
    have hfifo : ((s.camSeen n i b).cam n).fifo = (s.cam n).fifo := by rw [State.camSeen, updCam_cam]
    unfold State.camTrigOf at htrig ⊢
    rw [hfifo]
    exact htrig
  have hlines : ¬ (s.camSeen n i b).blockLines n ≤ i := Nat.not_le.2 hi
  have hsource' : ¬ (s.camSeen n i b).camSource n = 0 := hsource
  unfold State.camLine
  rw [camLineDone_none hblock hcur]
  dsimp only
  rw [hblock]
  refine (if_neg hlines).trans ((if_neg hsource').trans ?_)
  change (match (s.camSeen n i b).camTrigOf n b i with
    | some t => _
    | none => _) = _
  rw [htrig']
  rfl

omit hready in
theorem camAligned_position {s : State} {n : Nat} (h : s.camAlign n = 1) (b : CamBlock) (t : CamTrig) : s.camAligned n b (some t) =
    (posWord (t.pos.toInt - s.camOffset n), t.pos, (if t.late then markLate else 0) + (if t.noPos then markNoPos else 0), s) := by
  unfold State.camAligned
  simp [h]

omit hready in
/-- A line for which a slot is free. -/
theorem camAdmit_takes {s : State} {n : Nat} (hroom : (s.cam n).slots.length < s.camCap n) (halign : s.camAlign n = 1) (i : Nat)
    (b : CamBlock) (tr : CamTrig) : ∃ (l : CamLine) (f : CamPort → CamPort),
      s.camAdmit n i b (some tr) false = (((s.camPair n (some tr)).updCam n f).camCnt n 1).camOcc n ∧
      (∀ c, (f c).slots = c.slots ++ [l]) ∧ l.block = b.id ∧ l.index = i ∧
      l.aligned = posWord (tr.pos.toInt - s.camOffset n) ∧ l.trig = tr.pos ∧ l.time = s.now ∧ l.full = false := by
  have hslots : ((s.camPair n (some tr)).cam n).slots = (s.cam n).slots := by
    unfold State.camPair
    rw [updCam_cam]
  have hcap : ¬ (s.camPair n (some tr)).camCap n ≤ ((s.camPair n (some tr)).cam n).slots.length := by
    rw [hslots]
    exact Nat.not_le.2 hroom
  have haligned := camAligned_position (s := s.camPair n (some tr)) halign b tr
  unfold State.camAdmit
  rw [if_neg hcap, haligned]
  exact ⟨_, _, rfl, fun _ => rfl, rfl, rfl, rfl, rfl, rfl, rfl⟩

omit hready in
/-- A line for which no slot is free. -/
theorem camAdmit_drops {s : State} {n : Nat} (hfull : s.camCap n ≤ (s.cam n).slots.length) (i : Nat) (b : CamBlock) (tr : CamTrig) :
    ∃ f : CamPort → CamPort, s.camAdmit n i b (some tr) false =
      (((s.camPair n (some tr)).camCnt n 3).raise Reg.CAM_EVENT 3 n).updCam n f ∧ ∀ c, (f c).slots = c.slots := by
  have hslots : ((s.camPair n (some tr)).cam n).slots = (s.cam n).slots := by
    unfold State.camPair
    rw [updCam_cam]
  have hcap : (s.camPair n (some tr)).camCap n ≤ ((s.camPair n (some tr)).cam n).slots.length := by
    rw [hslots]
    exact hfull
  unfold State.camAdmit
  rw [if_pos hcap]
  exact ⟨_, rfl, fun _ => rfl⟩

omit hready in
theorem camSeen_slots (s : State) (n i : Nat) (b : CamBlock) : ((s.camSeen n i b).cam n).slots = (s.cam n).slots := by
  rw [State.camSeen, updCam_cam]

omit hready in
theorem camSeen_reads (s : State) (n i : Nat) (b : CamBlock) : (s.camSeen n i b).now = s.now ∧
    (s.camSeen n i b).camOffset n = s.camOffset n ∧ (s.camSeen n i b).camAlign n = s.camAlign n ∧
    (s.camSeen n i b).camCap n = s.camCap n := ⟨rfl, rfl, rfl, rfl⟩

omit hready in
/-- The port with its line seen, and paired with its trigger. -/
theorem camPaired_slots (s : State) (n i : Nat) (b : CamBlock) (t : CamTrig) :
    (((s.camSeen n i b).camPair n (some t)).cam n).slots = (s.cam n).slots := by
  unfold State.camPair
  rw [updCam_cam]
  exact camSeen_slots s n i b

omit hready in
theorem camOcc_regsKept {s t : State} {n : Nat} {l : List Nat} (h : RegsKept s t l) (hocc : Reg.CAM_OCC.at n 0 0 ∈ l)
    (hstatus : Reg.CAM_STATUS.at n 0 0 ∈ l) : RegsKept s (t.camOcc n) l :=
  (regsKept_setBit hstatus).2 (regsKept_wr h hocc)

omit hready in
/-- A port that has admitted a line and shows it. -/
theorem camAdmitted_cam (s : State) (n : Nat) (f : CamPort → CamPort) :
    (((s.updCam n f).camCnt n 1).camOcc n).cam n = f (s.cam n) := updCam_cam s n f

include hblock

theorem exec_lineArrival {index : Nat} {tr : CamTrig} (hgev : s.camGev n = false) (hcur : b.cur = none)
    (hmore : b.seen.length < s.blockLines n) (hsource : s.camSource n ≠ 0) (htrig : s.camTrigOf n b b.seen.length = some tr) :
    exec (.lineArrival n index) s =
      .next ((s.camSeen n b.seen.length b).camAdmit n b.seen.length b (some tr) false) := by
  refine congrArg Host.Outcome.next ((camTake_ready hready _).trans ?_)
  rw [hblock]
  exact (if_neg (by simp [hgev])).trans (camLine_admits hblock hcur hmore hsource htrig)

theorem lineArrival_takes {index : Nat} {tr : CamTrig} (hgev : s.camGev n = false) (hcur : b.cur = none)
    (hmore : b.seen.length < s.blockLines n) (hsource : s.camSource n ≠ 0) (htrig : s.camTrigOf n b b.seen.length = some tr)
    (hroom : (s.cam n).slots.length < s.camCap n) (halign : s.camAlign n = 1) :
    ∃ t, exec (.lineArrival n index) s = .next t ∧
      (∃ l, (t.cam n).slots = (s.cam n).slots ++ [l] ∧ l.block = b.id ∧ l.index = b.seen.length ∧
        l.aligned = posWord (tr.pos.toInt - s.camOffset n) ∧ l.trig = tr.pos ∧ l.time = s.now ∧ l.full = false) ∧
      RegsKept s t [Reg.CAM_CNT.at n 1 0, Reg.CAM_OCC.at n 0 0, Reg.CAM_STATUS.at n 0 0] ∧ MemKept s t := by
  have hexec := exec_lineArrival hready hblock (index := index) hgev hcur hmore hsource htrig
  obtain ⟨hnow, hoffset, halign', hcap⟩ := camSeen_reads s n b.seen.length b
  obtain ⟨l, f, hadmit, hf, hblk, hindex, haligned, htr, htime, hfull⟩ := camAdmit_takes (s := s.camSeen n b.seen.length b)
    (by rw [camSeen_slots, hcap]; exact hroom) (halign'.trans halign) b.seen.length b tr
  rw [hoffset] at haligned
  rw [hnow] at htime
  rw [hadmit] at hexec
  have hslots := camPaired_slots s n b.seen.length b tr
  have hworld : ((s.camSeen n b.seen.length b).camPair n (some tr)).regs = s.regs ∧
      ((s.camSeen n b.seen.length b).camPair n (some tr)).mem = s.mem := ⟨rfl, rfl⟩
  obtain ⟨hregs, hmem⟩ := hworld
  clear hadmit
  generalize (s.camSeen n b.seen.length b).camPair n (some tr) = u at *
  have hkept : RegsKept s ((u.updCam n f).camCnt n 1) [Reg.CAM_CNT.at n 1 0, Reg.CAM_OCC.at n 0 0, Reg.CAM_STATUS.at n 0 0] :=
    (regsKept_bumpBy (by simp)).2 (regsKept_of_regs hregs (regsKept_refl s _))
  refine ⟨_, hexec, ⟨l, ?_, hblk, hindex, haligned, htr, htime, hfull⟩, camOcc_regsKept hkept (by simp) (by simp),
    memKept_of hmem⟩
  rw [camAdmitted_cam, hf, hslots]

theorem lineArrival_drops {index : Nat} {tr : CamTrig} (hgev : s.camGev n = false) (hcur : b.cur = none)
    (hmore : b.seen.length < s.blockLines n) (hsource : s.camSource n ≠ 0) (htrig : s.camTrigOf n b b.seen.length = some tr)
    (hfull : s.camCap n ≤ (s.cam n).slots.length) :
    ∃ t, exec (.lineArrival n index) s = .next t ∧ (t.cam n).slots = (s.cam n).slots ∧
      t.bit Reg.CAM_EVENT 3 n = true ∧
      (t.rd Reg.CAM_CNT n 3).toNat = min ((s.rd Reg.CAM_CNT n 3).toNat + 1) 0xFFFFFFFF ∧
      RegsKept s t [Reg.CAM_CNT.at n 3 0, Reg.CAM_EVENT.at n 0 0] ∧ MemKept s t := by
  have hexec := exec_lineArrival hready hblock (index := index) hgev hcur hmore hsource htrig
  obtain ⟨-, -, -, hcap⟩ := camSeen_reads s n b.seen.length b
  obtain ⟨f, hadmit, hf⟩ := camAdmit_drops (s := s.camSeen n b.seen.length b) (by rw [camSeen_slots, hcap]; exact hfull)
    b.seen.length b tr
  rw [hadmit] at hexec
  refine ⟨_, hexec, ?_, State.bit_setBit_same _ _ 3 true _ _ _ (by decide), ?_, ?_, memKept_of rfl⟩
  · rw [updCam_cam, hf]
    exact camPaired_slots s n b.seen.length b tr
  · exact (congrArg BitVec.toNat (rd_setBit_apart (r := Reg.CAM_EVENT) (by decide) _ _ _ _ _ _ _ _ _)).trans
      (rd_bumpBy_same _ 1 _ _ _)
  · exact regsKept_of_regs (t := (((s.camSeen n b.seen.length b).camPair n (some tr)).camCnt n 3).raise Reg.CAM_EVENT 3 n) rfl
      ((regsKept_setBit (by simp)).2 ((regsKept_bumpBy (by simp)).2 (regsKept_of_regs (t := s) rfl (regsKept_refl s _))))

/-! ### Pixels (R72, R93) -/

/-- A line with the pixels that follow those it has. -/
def CamLine.grown (l : CamLine) (place : Nat → Option Nat) (pix : List Nat) : CamLine :=
  { l with pix := placePix place l.got pix l.pix, got := l.got + pix.length }

omit hready hblock in
/-- Pixels that do not complete the one line held. -/
theorem camWrite_grows {s : State} {n : Nat} {b : CamBlock} {l : CamLine} {i : Nat} {pix : List Nat}
    (hblock : (s.cam n).block = some b) (hslots : (s.cam n).slots = [l]) (hl : l.block = b.id) (hi : l.index = i)
    (hopen : l.full = false) (hmore : l.got + pix.length < b.width * s.camComps n) : s.camWrite n i none pix =
      s.updCam n (fun c => { c with slots := c.slots.map (fun l =>
        if l.block = b.id ∧ l.index = i ∧ !l.full then
          l.grown (camPlace (decide (s.camPattern n = 6)) b.width (s.camWidth n) (s.camComps n)) pix else l) }) := by
  unfold State.camWrite
  rw [hblock]
  dsimp -zeta only
  extract_lets place upd t
  have hcam : (t.cam n).slots = [l.grown place pix] := by
    simp only [t, updCam_cam, hslots, List.map_cons, List.map_nil, upd]
    rw [if_pos ⟨hl, hi, by simp [hopen]⟩]
    rfl
  have hcomps : ¬ b.width * t.camComps n ≤ l.got + pix.length := Nat.not_le.2 hmore
  rw [hcam]
  have hfind : [l.grown place pix].find? (fun l => decide (l.block = b.id ∧ l.index = i)) = some (l.grown place pix) := by
    rw [List.find?_cons_of_pos]
    exact decide_eq_true ⟨hl, hi⟩
  rw [hfind]
  exact if_neg hcomps

theorem exec_streamPacket {pix : List Nat} {i : Nat} (hcur : b.cur = some i) (ok : Bool) :
    exec (.streamPacket n (.cxp pix ok)) s =
      .next ((s.when (!ok) (fun s => (s.camCnt n 2).updCam n (fun c => c.mark markCrc))).camWrite n i none pix) := by
  refine congrArg Host.Outcome.next ((camTake_ready hready _).trans ?_)
  rw [hblock]
  dsimp only
  rw [hcur]

theorem streamPacket_grows {pix : List Nat} {i : Nat} {l : CamLine} (hcur : b.cur = some i) (hslots : (s.cam n).slots = [l])
    (hl : l.block = b.id) (hi : l.index = i) (hopen : l.full = false) (hmore : l.got + pix.length < b.width * s.camComps n) :
    ∃ t, exec (.streamPacket n (.cxp pix true)) s = .next t ∧
      (t.cam n).slots = [{ l with
        pix := placePix (camPlace (decide (s.camPattern n = 6)) b.width (s.camWidth n) (s.camComps n)) l.got pix l.pix,
        got := l.got + pix.length }] ∧ t.regs = s.regs ∧ MemKept s t := by
  have hwrite := camWrite_grows hblock hslots hl hi hopen hmore
  refine ⟨_, (exec_streamPacket hready hblock hcur true).trans (congrArg Host.Outcome.next hwrite), ?_, rfl, memKept_of rfl⟩
  rw [updCam_cam]
  simp only [hslots, List.map_cons, List.map_nil]
  rw [if_pos ⟨hl, hi, by simp [hopen]⟩]
  rfl

omit hready hblock in
/-- A packet of a bad CRC is counted and marks the block. -/
theorem crcMarked_shows (s : State) (n : Nat) {b : CamBlock} (hblock : (s.cam n).block = some b) {u : State}
    (hu : (s.camCnt n 2).updCam n (fun c => c.mark markCrc) = u) :
    (u.cam n).block = some { b with marks := b.marks ||| BitVec.ofNat 32 markCrc } ∧ (u.cam n).slots = (s.cam n).slots ∧
      u.camComps n = s.camComps n ∧ RegsKept s u [Reg.CAM_CNT.at n 2 0] ∧ u.mem = s.mem := by
  have hcam : u.cam n = (s.cam n).mark markCrc := by
    rw [← hu]
    exact updCam_cam _ _ _
  have hfmt : u.rd Reg.CAM_FMT n = s.rd Reg.CAM_FMT n := by
    rw [← hu]
    exact rd_bumpBy_apart (r := Reg.CAM_CNT) (by decide) _ _ _ _ _ _ _
  have hcomps : u.camComps n = s.camComps n :=
    congrArg (fun w => if fld w 20 4 = 5 ∨ fld w 20 4 = 6 then 3 else 1) hfmt
  refine ⟨?_, by rw [hcam]; rfl, hcomps, ?_, by rw [← hu]; rfl⟩
  · rw [hcam, CamPort.mark, hblock]
    rfl
  · rw [← hu]
    exact (regsKept_bumpBy (s := s) (by simp)).2 (regsKept_refl s _)

theorem streamPacket_marks {pix : List Nat} {i : Nat} {l : CamLine} (hcur : b.cur = some i) (hslots : (s.cam n).slots = [l])
    (hl : l.block = b.id) (hi : l.index = i) (hopen : l.full = false) (hmore : l.got + pix.length < b.width * s.camComps n) :
    ∃ t b', exec (.streamPacket n (.cxp pix false)) s = .next t ∧ (t.cam n).block = some b' ∧
      b'.marks.getLsbD 0 = true ∧ RegsKept s t [Reg.CAM_CNT.at n 2 0] ∧ MemKept s t := by
  have hexec := exec_streamPacket hready hblock (pix := pix) hcur false
  obtain ⟨hblock', hslots', hcomps, hregs, hmem⟩ := crcMarked_shows s n hblock rfl
  have hmarked : s.when (!false) (fun s => (s.camCnt n 2).updCam n (fun c => c.mark markCrc)) =
      (s.camCnt n 2).updCam n (fun c => c.mark markCrc) := rfl
  rw [hmarked] at hexec
  generalize (s.camCnt n 2).updCam n (fun c => c.mark markCrc) = u at *
  rw [camWrite_grows hblock' (hslots'.trans hslots) hl hi hopen (by rw [hcomps]; exact hmore)] at hexec
  refine ⟨_, { b with marks := b.marks ||| BitVec.ofNat 32 markCrc }, hexec, ?_, ?_, hregs, memKept_of hmem⟩
  · rw [updCam_cam]
    exact hblock'
  · simp [markCrc]

end

end

/-! ### Event packets (R440, R644) -/

/-- The entry that a packet of a producer reserves. -/
def State.reservation (s : State) (q p len : Nat) : QItem :=
  { first := (s.queue q).tail, entries := ceilDiv len (s.qSize q), producer := p, seq := (s.queue q).seq, len := len, data := [],
    published := false, pad := false, done := false }

section
variable {s : State} {q p len : Nat} (hon : s.qOn q = true)
include hon

/-- A packet that fits before the end of the ring is reserved without padding. -/
theorem qReserve_fits (hpacket : s.qPacket q = true) (hdrop : s.qDrop q = true) (hlen : s.qLenOk q len = true)
    (hend : ceilDiv len (s.qSize q) ≤ s.qCap q - (s.queue q).tail) (hfree : ceilDiv len (s.qSize q) ≤ s.qFree q) :
    ∃ x : Queue, s.qReserve q p len = s.putQueue q x ∧ x.items = (s.queue q).items ++ [s.reservation q p len] := by
  have hready : ¬ (!(s.qOn q && s.qPacket q)) = true := by simp [hon, hpacket]
  have hlen' : ¬ (!s.qLenOk q len) = true := by simp [hlen]
  unfold State.qReserve
  rw [if_neg hready, if_neg hlen']
  extract_lets x need toEnd padN total padIt at_ it x'
  have hpad : padN = 0 := if_pos hend
  have htotal : total ≤ s.qFree q + x.credit p := by
    simp only [total, hpad]
    omega
  rw [if_pos (.inr ⟨hdrop, htotal⟩)]
  have hpadIt : padIt = [] := if_pos hpad
  have hat : at_ = x.tail := if_pos hpad
  refine ⟨_, if_neg (by simp [hpad]), ?_⟩
  simp only [hpadIt, List.append_nil, it, hat]
  rfl

/-- A reservation is published by its header and its body. -/
theorem qBackFill_publishes {seq : Word} {it : QItem} (hres : (s.queue q).reserved p seq = some it) {kind : Nat} (hkind : kind ≠ 0)
    (body : List Byte) : ∃ x : Queue, s.qBackFill q p seq kind body =
      ((s.putQueue q x).ringStored q it.first it.entries).bumpBy it.entries Reg.QM_CNT 0 ∧
      x.items = updReserved p seq (fun i =>
        { i with published := true, data := packetHeader kind i.len seq ++ fitBytes (i.len - 8) body }) (s.queue q).items := by
  unfold State.qBackFill
  dsimp only
  rw [hon, decide_eq_true hkind, hres]
  exact ⟨_, rfl, rfl⟩

end

/-- The first reservation that matches is the one changed. -/
theorem updReserved_append {p : Nat} {seq : Word} (f : QItem → QItem) {l : List QItem} {it : QItem}
    (hl : l.find? (fun i => !i.published && decide (i.producer = p) && decide (i.seq = seq)) = none)
    (hit : (!it.published && decide (it.producer = p) && decide (it.seq = seq)) = true) :
    updReserved p seq f (l ++ [it]) = l ++ [f it] := by
  induction l with
  | nil => exact if_pos hit
  | cons i t ih =>
    rw [List.find?_cons] at hl
    split at hl
    · cases hl
    · next hi => exact (if_neg (by simpa using hi)).trans (congrArg (i :: ·) (ih hl))

theorem qOn_congr {s t : State} {q : Nat} (hcore : t.core = s.core) (hpower : t.rd Reg.PM_STATE = s.rd Reg.PM_STATE)
    (hcfg : t.rd Reg.QM_Q_CFG q = s.rd Reg.QM_Q_CFG q) : t.qOn q = s.qOn q := by
  have hbit : t.bit Reg.QM_Q_CFG 31 q = s.bit Reg.QM_Q_CFG 31 q := congrArg (BitVec.getLsbD · 31) hcfg
  rw [State.qOn, State.qOn, on_congr hcore hpower, hbit]

theorem putQueue_qOn (s : State) (q : Nat) (x : Queue) : (s.putQueue q x).qOn q = s.qOn q :=
  qOn_congr (putQueue_keeps (p := State.core) (fun _ _ _ _ _ _ _ => rfl) (fun _ _ => rfl) s q x)
    (putQueue_keeps (p := fun t => t.rd Reg.PM_STATE) (blind_rd (by decide) 0 0 0) (fun _ _ => rfl) s q x)
    (putQueue_keeps (p := fun t => t.rd Reg.QM_Q_CFG q) (blind_rd (by decide) q 0 0) (fun _ _ => rfl) s q x)

theorem putQueue_mem (s : State) (q : Nat) (x : Queue) : (s.putQueue q x).mem = s.mem :=
  putQueue_keeps (p := State.mem) (fun _ _ _ _ _ _ _ => rfl) (fun _ _ => rfl) s q x

theorem packetHeader_length (kind len : Nat) (seq : Word) : (packetHeader kind len seq).length = 8 := by
  simp [packetHeader]

theorem eventPacket_enters {s : State} {n : Fin 8} {body : List Byte} (hup : s.camUp n = true) (hon : s.qOn 19 = true)
    (hpacket : s.qPacket 19 = true) (hdrop : s.qDrop 19 = true) (hlen : s.qLenOk 19 (8 + body.length) = true)
    (hend : ceilDiv (8 + body.length) (s.qSize 19) ≤ s.qCap 19 - (s.queue 19).tail)
    (hfree : ceilDiv (8 + body.length) (s.qSize 19) ≤ s.qFree 19)
    (hnone : (s.queue 19).reserved (32 + n) (s.queue 19).seq = none) :
    ∃ t it, exec (.cxpEventPacket n body) s = .next t ∧ it ∈ (t.queue 19).items ∧ it.published = true ∧
      it.len = 8 + body.length ∧ it.seq = (s.queue 19).seq ∧ it.data.drop 8 = body ∧
      RegsKept s t (Reg.QM_CNT.addr :: queueRegs 19) ∧ MemKept s t := by
  let kind := 1 + s.draw.1.toNat % 127
  let it := s.reservation 19 (32 + n) (8 + body.length)
  let filled : QItem := { it with published := true, data := packetHeader kind it.len it.seq ++ fitBytes (it.len - 8) body }
  obtain ⟨x, hreserve, hitems⟩ := qReserve_fits (s := s.draw.2) (p := 32 + n) hon hpacket hdrop hlen hend hfree
  have hnext : exec (.cxpEventPacket n body) s =
      .next ((s.draw.2.qReserve 19 (32 + n) (8 + body.length)).qBackFill 19 (32 + n) (s.queue 19).seq kind body) := next_if_pos hup
  rw [hreserve] at hnext
  have hqueue : ((s.draw.2.putQueue 19 x).queue 19).items = (s.queue 19).items ++ [it] :=
    (congrArg Queue.items ((putQueue_queue _ _ _ _).trans (if_pos rfl))).trans hitems
  have hon' : (s.draw.2.putQueue 19 x).qOn 19 = true := (putQueue_qOn _ _ _).trans hon
  have hu : RegsKept s (s.draw.2.putQueue 19 x) (Reg.QM_CNT.addr :: queueRegs 19) :=
    putQueue_regsKept (t := s.draw.2) (regsKept_of_regs (t := s) rfl (regsKept_refl s _)) (fun _ ha => List.mem_cons_of_mem _ ha) x
  have hmemU : (s.draw.2.putQueue 19 x).mem = s.mem := (putQueue_mem _ _ _).trans rfl
  clear hreserve
  generalize s.draw.2.putQueue 19 x = u at *
  have hmatch : (!it.published && decide (it.producer = 32 + n.val) && decide (it.seq = (s.queue 19).seq)) = true := by
    simp [it, State.reservation]
  have hres : (u.queue 19).reserved (32 + n) (s.queue 19).seq = some it := by
    have hlast : [it].find? (fun i => !i.published && decide (i.producer = 32 + n.val) && decide (i.seq = (s.queue 19).seq)) =
        some it := List.find?_cons_of_pos hmatch
    rw [Queue.reserved, hqueue, List.find?_append, show List.find? _ (s.queue 19).items = none from hnone, Option.none_or, hlast]
  obtain ⟨y, hfill, hy⟩ := qBackFill_publishes hon' hres (kind := kind) (by omega) body
  rw [hqueue, updReserved_append _ hnone hmatch] at hy
  rw [hfill] at hnext
  have hqueues (t : State) (f k : Nat) : (t.ringStored 19 f k).queues = t.queues := ringStored_keeps (p := State.queues) (fun _ _ => rfl) _ _ _ _
  have hregs (t : State) (f k : Nat) : (t.ringStored 19 f k).regs = t.regs := ringStored_keeps (p := State.regs) (fun _ _ => rfl) _ _ _ _
  have hmem (t : State) (f k : Nat) : (t.ringStored 19 f k).mem = t.mem := ringStored_keeps (p := State.mem) (fun _ _ => rfl) _ _ _ _
  have hlength : it.len - 8 = body.length := by simp [it, State.reservation]
  refine ⟨_, filled, hnext, ?_, rfl, rfl, rfl, ?_, ?_, memKept_of ?_⟩
  · have hshown : ((((u.putQueue 19 y).ringStored 19 it.first it.entries).bumpBy it.entries Reg.QM_CNT 0).queue 19) = y :=
      (congrArg (fun m : AMap Queue => AMap.get m {} 19) (hqueues _ _ _)).trans ((putQueue_queue _ _ _ _).trans (if_pos rfl))
    rw [hshown, hy]
    exact List.mem_append_right _ (List.mem_singleton.2 rfl)
  · change (packetHeader kind it.len it.seq ++ fitBytes (it.len - 8) body).drop 8 = body
    rw [List.drop_left' (packetHeader_length _ _ _), hlength, fitBytes_self rfl]
  · exact (regsKept_bumpBy (by simp)).2 (regsKept_of_regs (hregs _ _ _) (putQueue_regsKept hu (fun _ ha => List.mem_cons_of_mem _ ha) y))
  · exact (hmem _ _ _).trans ((putQueue_mem _ _ _).trans hmemU)

/-- Settles O41: blocks by `camClose_shows`, lines by the two outcomes of `camAdmit`, pixels by `camWrite_grows`, and an event
packet by the reservation that it back-fills. -/
theorem cameraBlocksAndLines : Obligations.CameraBlocksAndLines := by
  unfold Obligations.CameraBlocksAndLines
  refine fun s n => ⟨fun hready => ⟨fun fmt width exposure hnone => ⟨blockHeader_opens hready hnone,
    blockHeader_discards hready hnone⟩, fun b hblock => ⟨fun index tr hgev hcur hmore hsource htrig =>
      ⟨lineArrival_takes hready hblock hgev hcur hmore hsource htrig, lineArrival_drops hready hblock hgev hcur hmore hsource htrig⟩,
      fun pix i l hcur hslots hl hi hopen hmore => ⟨streamPacket_grows hready hblock hcur hslots hl hi hopen hmore,
        streamPacket_marks hready hblock hcur hslots hl hi hopen hmore⟩,
      blockEnd_closes hready hblock⟩⟩, fun body => eventPacket_enters⟩

end Sys2Proof.Machine
end

section
/-!
Image pipelines: units of work (R119, R123).
-/
namespace Sys2Proof.Machine

open Sys2Proof

variable {β : Type} {p : State → β}

/-! ### What comes next on a pipeline does not show in its counters -/

section
variable (s : State) (v : Word) (i j k : Nat)

theorem rowFree_wr (r : RegRow) (q o : Nat) (w : Word) : (s.wr r v i j k).rowFree q o w = s.rowFree q o w := by
  have hrows : ((s.wr r v i j k).makeRoom q o).ispOuts = (s.makeRoom q o).ispOuts := by
    have hout : (s.wr r v i j k).ispOut q o = s.ispOut q o := rfl
    have hidle (u : Nat) (x : OutRow) : (s.wr r v i j k).rowIdle u x = s.rowIdle u x := rfl
    unfold State.makeRoom
    simp only [hout, hidle]
    split
    · split <;> rfl
    · rfl
  simp only [State.rowFree, State.ispOut, hrows]
  rfl

theorem nextWork_blind (q c : Nat) : (s.wr Reg.ISP_CNT v i j k).nextWork q c = s.nextWork q c := by
  have hrd (r : RegRow) (h : r.apart Reg.ISP_CNT = true) (a b c : Nat) : (s.wr Reg.ISP_CNT v i j k).rd r a b c = s.rd r a b c :=
    rd_wr_apart h _ _ _ _ _ _ _ _
  unfold State.nextWork
  simp (disch := decide) only [State.ctxOn, State.on, State.live, State.power, State.bit, State.f, State.portSrc,
    State.camPattern, State.camWidth, State.camComps, State.camArea, hrd, State.frameLines, State.srcLine, State.blockLines,
    State.sampleSrc]
  rfl

theorem ispPick_blind (q : Nat) : (s.wr Reg.ISP_CNT v i j k).ispPick q = s.ispPick q := by
  have heligible (c : Nat) : (s.wr Reg.ISP_CNT v i j k).ctxEligible q c = s.ctxEligible q c := by
    unfold State.ctxEligible State.ctxRoom
    simp only [nextWork_blind, rowFree_wr]
    rfl
  unfold State.ispPick
  simp only [heligible]
  rfl

end

/-! ### A unit of work starts (R123) -/

/-- A reading that sees no register, and nothing of DRAM, of jobs and of the output units and contexts of pipelines. -/
structure WorkBlind (p : State → β) : Prop extends SectorBlind p where
  wr : ∀ s r v i j k, p (State.wr s r v i j k) = p s
  mem : ∀ (s : State) x, p { s with mem := x } = p s
  ispOuts : ∀ (s : State) x, p { s with ispOuts := x } = p s
  ispCtxs : ∀ (s : State) x, p { s with ispCtxs := x } = p s

section
variable (hb : WorkBlind p)
include hb

theorem WorkBlind.bumpBy (s : State) (n : Nat) (r : RegRow) (i j : Nat) : p (s.bumpBy n r i j) = p s := hb.wr _ _ _ _ _ _

theorem readTable_keeps (s : State) (fuel pa n : Nat) : p (s.readTable fuel pa n).1 = p s := by
  induction fuel generalizing s pa n with
  | zero => rfl
  | succ fuel ih =>
    unfold State.readTable
    split
    · rfl
    · exact (ih _ _ _).trans (fetchSector_keeps hb.toSectorBlind hb.mem _ _ _ _ _)

theorem ispTable_keeps (s : State) (q c pa n : Nat) : p (s.ispTable q c pa n).1 = p s := by
  have hread : p (s.table pa n).1 = p s := readTable_keeps hb _ _ _ _
  unfold State.ispTable
  dsimp only
  split
  · refine (hb.wr _ _ _ _ _ _).trans ((hb.wr _ _ _ _ _ _).trans (Eq.trans ?_ hread))
    exact faultNew_keeps hb.toJobBlind hb.snapRows hb.snap hb.fault _ _
  · exact hread

theorem ispTables_keeps (s : State) (q c : Nat) (f : IspCfg) (src : PixSrc) (h : Nat) : p (s.ispTables q c f src h).1 = p s := by
  have hread (t : State) (b : Bool) (pa n : Nat) : p (if b then t.ispTable q c pa n else (t, [], false)).1 = p t := by
    cases b
    · rfl
    · exact ispTable_keeps hb _ _ _ _ _
  have hread' (t : State) (b : Prop) [Decidable b] (pa n : Nat) : p (if b then t.ispTable q c pa n else (t, [], false)).1 = p t := by
    split
    · exact ispTable_keeps hb _ _ _ _ _
    · rfl
  exact (hread _ _ _ _).trans ((hread' _ _ _ _).trans (hread _ _ _ _))

theorem tnrFrame_keeps (s : State) (q c : Nat) (f : IspCfg) (rows : List PixRow) : p (s.tnrFrame q c f rows).2 = p s := by
  have hset (t : State) (x : IspCtx) : p (t.setIspCtx q c x) = p t := hb.ispCtxs _ _
  unfold State.tnrFrame
  split
  · rfl
  · refine (State.when_keeps p _ _ (fun s => s.bump Reg.ISP_CNT q 2) (hb.wr _ _ _ _ _ _)).trans ((hset _ _).trans ?_)
    exact (writePhys_keeps hb.toSectorBlind hb.mem _ _ _ _ _).trans (readTable_keeps hb _ _ _ _)

theorem outUnits_keeps (s : State) (q c : Nat) (f : IspCfg) (src : PixSrc) (bad : Bool) (rows : Nat → List (PixRow × SrcLine))
    (l : List Nat) (a : List (Nat × OutRow)) :
    p (l.foldl (fun (a : List (Nat × OutRow) × State) o =>
      let r := a.2.outUnit q c o f src bad (rows o)
      (a.1 ++ r.1.map (fun q => (o, q)), r.2)) (a, s)).2 = p s := by
  induction l generalizing s a with
  | nil => rfl
  | cons o t ih => exact (ih _ _).trans (hb.ispOuts _ _)

end

theorem workBlind_pipes : WorkBlind State.ispPipes where
  toSectorBlind := sectorBlind_of_wr ⟨blind_of_wr (fun _ _ _ _ _ _ => rfl) _, fun _ _ => rfl, fun _ _ => rfl, fun _ _ => rfl,
    fun _ _ => rfl⟩ (fun _ _ _ _ _ _ => rfl) (fun _ _ => rfl) (fun _ _ => rfl) (fun _ _ => rfl)
  wr _ _ _ _ _ _ := rfl
  mem _ _ := rfl
  ispOuts _ _ := rfl
  ispCtxs _ _ := rfl

theorem workBlind_raw : WorkBlind State.raw where
  toSectorBlind := sectorBlind_of_wr ⟨blind_of_wr (fun _ _ _ _ _ _ => rfl) _, fun _ _ => rfl, fun _ _ => rfl, fun _ _ => rfl,
    fun _ _ => rfl⟩ (fun _ _ _ _ _ _ => rfl) (fun _ _ => rfl) (fun _ _ => rfl) (fun _ _ => rfl)
  wr _ _ _ _ _ _ := rfl
  mem _ _ := rfl
  ispOuts _ _ := rfl
  ispCtxs _ _ := rfl

/-- The pipeline runs a unit of work. -/
def State.workRuns (s : State) (q : Nat) (w : IspWork) : State :=
  ((s.setIspPipe q { s.ispPipe q with work := some w }).setF Reg.ISP_PIPE_STATUS 0 2 w.ctx q).setBit Reg.ISP_PIPE_STATUS 2 false q

/-- A unit of work runs on a pipeline as it was, at the same raw count. -/
theorem startWork_runs (s : State) (q c : Nat) (src : PixSrc) (past own ahead : List SrcLine) (frame : Option Word) :
    ∃ (t : State) (rows : List (Nat × OutRow)), s.startWork q c src past own ahead frame =
        t.workRuns q { ctx := c, lines := own, rows := rows, frame := frame, startAt := t.raw } ∧
      t.ispPipes = s.ispPipes ∧ t.raw = s.raw := by
  unfold State.startWork
  extract_lets f t s1 row tn s2 window block st cnt s3 made s4 x keep s5 pp s6
  have hs {β : Type} {p : State → β} (hb : WorkBlind p) : p s5 = p s := by
    have h1 : p s1 = p s := ispTables_keeps hb _ _ _ _ _ _
    have h2 : p s2 = p s1 := by
      dsimp only [s2, tn]
      split
      · exact tnrFrame_keeps hb _ _ _ _ _
      · rfl
    have h3 : p s3 = p s2 := (hb.bumpBy _ _ _ _ _).trans (hb.bumpBy _ _ _ _ _)
    have h4 : p s4 = p s3 := outUnits_keeps hb s3 q c f src t.2.bad _ _ _
    exact (hb.ispCtxs _ _).trans (h4.trans (h3.trans (h2.trans h1)))
  exact ⟨s5, made.1, rfl, hs workBlind_pipes, hs workBlind_raw⟩

theorem workRuns_shows (s : State) (q : Nat) (w : IspWork) : ((s.workRuns q w).ispPipe q).work = some w ∧
    ((s.workRuns q w).ispPipe q).cur = (s.ispPipe q).cur ∧ (s.workRuns q w).f Reg.ISP_PIPE_STATUS 0 2 q = w.ctx % 2 ^ 2 ∧
    (s.workRuns q w).bit Reg.ISP_PIPE_STATUS 2 q = false := by
  have hpipe : (s.workRuns q w).ispPipe q = { s.ispPipe q with work := some w } := AMap.get_store_same _ _ _ _
  refine ⟨by rw [hpipe], by rw [hpipe], ?_, State.bit_setBit_same _ _ 2 false _ _ _ (by decide)⟩
  exact (f_setBit_other (by decide) _ _ _ _ _ _).trans (State.f_setF_same _ _ _ _ _ _ _ _ (by decide))

theorem skipLost_none {s : State} {q c : Nat} (h : (s.ispCtx q c).waitBlock = false) : s.skipLost q c = s := by
  unfold State.skipLost
  exact if_pos (by simp [h])

theorem forAll_same {α : Type} {f : α → State → State} {s : State} (h : ∀ a, f a s = s) (l : List α) : s.forAll l f = s := by
  unfold State.forAll
  induction l with
  | nil => rfl
  | cons a t ih =>
    rw [List.foldl_cons, h a]
    exact ih

/-- The turn of a context on its pipeline. -/
def State.turnTaken (s : State) (q c : Nat) : State :=
  let pp := s.ispPipe q
  let more := decide (c = pp.cur) && decide (pp.used < ctxWeight (s.ispForce q c) c)
  (s.setIspPipe q { pp with cur := c, used := if more then pp.used + 1 else 1 }).when (decide (c ≠ pp.cur))
    (fun s => s.bump Reg.ISP_CNT q 1)

theorem turnTaken_shows (s : State) (q c : Nat) : ((s.turnTaken q c).ispPipe q).cur = c ∧ (s.turnTaken q c).raw = s.raw := by
  unfold State.turnTaken
  extract_lets pp more
  refine ⟨?_, State.when_keeps State.raw _ _ (fun s => s.bump Reg.ISP_CNT q 1) rfl⟩
  refine (congrArg IspPipe.cur (State.when_keeps (fun t => t.ispPipe q) _ _ (fun s => s.bump Reg.ISP_CNT q 1) rfl)).trans ?_
  exact congrArg IspPipe.cur (AMap.get_store_same _ _ _ _)

/-- The contexts that had no room are counted. -/
def State.stallsCounted (s : State) (q n : Nat) (b : Bool) : State := s.when b (fun s => s.bumpBy n Reg.ISP_CNT q 6)

theorem stallsCounted_keeps (hw : Blind [Reg.ISP_CNT] p) (s : State) (q n : Nat) (b : Bool) : p (s.stallsCounted q n b) = p s :=
  State.when_keeps p _ _ (fun s => s.bumpBy n Reg.ISP_CNT q 6) (hw.bumpBy (r := Reg.ISP_CNT) (by simp) _ _ _ _)

theorem blind_ispCnt (h : ∀ s v i j k, p (State.wr s Reg.ISP_CNT v i j k) = p s) : Blind [Reg.ISP_CNT] p := by
  intro s r v i j k hr
  rw [List.mem_singleton.1 hr]
  exact h s v i j k

section
variable {s : State} {q : Fin 8} (hon : s.on .ISP = true)
include hon

theorem stripeStart_eq {c : Nat} {src : PixSrc} {own ahead : List SrcLine} {frame : Option Word}
    (hidle : (s.ispPipe q).work = none) (hwait : ∀ d, (s.ispCtx q d).waitBlock = false) (hpick : s.ispPick q = some c)
    (hnext : s.nextWork q c = some (src, own, ahead, frame)) :
    ∃ u past, s.stripeStart q = State.startWork (State.turnTaken u q c) q c src past own ahead frame ∧ u.raw = s.raw := by
  have hskip : s.forAll (upTo 4) (fun c s => s.skipLost q c) = s := forAll_same (fun c => skipLost_none (hwait c)) _
  unfold State.stripeStart
  rw [if_neg (by simp [hon, hidle]), hskip]
  extract_lets s0 stalled u
  have hu (p : State → Bool) (hp : ∀ s v i j k, p (State.wr s Reg.ISP_CNT v i j k) = p s) : p u = p s :=
    stallsCounted_keeps (blind_ispCnt hp) s q _ _
  have hpick' : u.ispPick q = some c := (stallsCounted_keeps (p := fun t => t.ispPick q) (blind_ispCnt (fun _ _ _ _ _ => ispPick_blind _ _ _ _ _ _)) s q _ _).trans hpick
  have hnext' : u.nextWork q c = some (src, own, ahead, frame) :=
    (stallsCounted_keeps (p := fun t => t.nextWork q c) (blind_ispCnt (fun _ _ _ _ _ => nextWork_blind _ _ _ _ _ _ _)) s q _ _).trans hnext
  have hwait' : (u.ispCtx q c).waitBlock = false := (hu (fun t => (t.ispCtx q c).waitBlock) (fun _ _ _ _ _ => rfl)).trans (hwait c)
  rw [hpick']
  dsimp only
  rw [if_neg (by simp [hwait']), hnext']
  exact ⟨u, _, rfl, stallsCounted_keeps (p := State.raw) (blind_ispCnt (fun _ _ _ _ _ => rfl)) s q _ _⟩

theorem stripeStart_runs {c : Fin 4} {src : PixSrc} {own ahead : List SrcLine} {frame : Option Word}
    (hidle : (s.ispPipe q).work = none) (hwait : ∀ d, (s.ispCtx q d).waitBlock = false) (hpick : s.ispPick q = some c.val)
    (hnext : s.nextWork q c = some (src, own, ahead, frame)) :
    ∃ t w, exec (.stripeStart q) s = .next t ∧ (t.ispPipe q).work = some w ∧ w.ctx = c.val ∧ w.lines = own ∧
      w.frame = frame ∧ w.startAt = s.raw ∧ (t.ispPipe q).cur = c.val ∧ t.f Reg.ISP_PIPE_STATUS 0 2 q = c.val ∧
      t.bit Reg.ISP_PIPE_STATUS 2 q = false := by
  obtain ⟨u, past, hstart, hraw⟩ := stripeStart_eq hon hidle hwait hpick hnext
  obtain ⟨t, rows, hruns, hpipes, hraw'⟩ := startWork_runs (u.turnTaken q c) q c src past own ahead frame
  obtain ⟨hcur, hturn⟩ := turnTaken_shows u q c
  obtain ⟨hwork, hcur', hstatus, hbusy⟩ := workRuns_shows t q { ctx := c, lines := own, rows := rows, frame := frame, startAt := t.raw }
  refine ⟨_, _, congrArg Host.Outcome.next (hstart.trans hruns), hwork, rfl, rfl, rfl, (hraw'.trans hturn).trans hraw, ?_, ?_, hbusy⟩
  · rw [hcur', State.ispPipe, hpipes]
    exact hcur
  · rw [hstatus]
    exact Nat.mod_eq_of_lt c.isLt

end

/-! ### A unit of work ends (R119, R123) -/

theorem putRows_mem (s : State) (q : Nat) (f : IspCfg) (l : List (Nat × OutRow)) : (s.putRows q f l).1.mem = s.mem := by
  induction l generalizing s with
  | nil => rfl
  | cons a t ih =>
    obtain ⟨o, r⟩ := a
    have hput (w : Word) : (s.putRow q o w r).mem = s.mem := by
      have hroom : (s.makeRoom q o).mem = s.mem := by
        unfold State.makeRoom
        split
        · split <;> rfl
        · rfl
      unfold State.putRow
      extract_lets s1 users x
      have h1 : s1.mem = s.mem := by
        dsimp only [s1]
        split
        · rfl
        · exact hroom
      exact h1
    unfold State.putRows
    split
    · exact (ih _).trans (hput _)
    · rfl

theorem releaseWork_keeps (hc : CamBlind p) (hdec : ∀ (s : State) x, p { s with dec := x } = p s) (s : State) (q : Nat) (w : IspWork) :
    p (s.releaseWork q w) = p s := by
  unfold State.releaseWork
  extract_lets src
  split
  · exact hdec _ _
  · exact (camRelease_keeps hc _ _).trans (updCam_keeps hc _ _ _)

section
variable {s s1 : State} {q : Fin 8} {w : IspWork} (hon : s.on .ISP = true) (hwork : (s.ispPipe q).work = some w)
include hon hwork

theorem exec_stripeDone {l : List (Nat × OutRow)} (hput : s.putRows q (s.ispForce q w.ctx) w.rows = (s1, l)) :
    exec (.stripeDone q) s = .next (if l = [] then ((s1.releaseWork q w).bump Reg.ISP_CNT q 0).ispIdle q else
      (s1.setIspPipe q { s1.ispPipe q with work := some { w with rows := l } }).bump Reg.ISP_CNT q 6).noteElig := by
  refine congrArg Host.Outcome.next ?_
  unfold State.stripeDone
  rw [hwork]
  dsimp only
  rw [if_neg (by simp [hon]), hput]

theorem stripeDone_idles (hput : s.putRows q (s.ispForce q w.ctx) w.rows = (s1, [])) :
    ∃ t, exec (.stripeDone q) s = .next t ∧ (t.ispPipe q).work = none ∧ t.bit Reg.ISP_PIPE_STATUS 2 q = true ∧
      (t.rd Reg.ISP_CNT q 0).toNat = min ((s1.rd Reg.ISP_CNT q 0).toNat + 1) 0xFFFFFFFF ∧ MemKept s t := by
  have hmem : s1.mem = s.mem := by rw [← putRows_mem s q (s.ispForce q w.ctx) w.rows, hput]
  have hexec := (exec_stripeDone hon hwork hput).trans (congrArg (fun t => Host.Outcome.next (State.noteElig t)) (if_pos rfl))
  have hrelease : (s1.releaseWork q w).rd Reg.ISP_CNT q 0 = s1.rd Reg.ISP_CNT q 0 ∧ (s1.releaseWork q w).mem = s1.mem :=
    ⟨releaseWork_keeps (p := fun t => t.rd Reg.ISP_CNT q 0) ⟨blind_rd (by decide) q 0 0, fun _ _ => rfl, fun _ _ => rfl⟩ (fun _ _ => rfl) _ _ _,
      releaseWork_keeps (p := State.mem) ⟨fun _ _ _ _ _ _ _ => rfl, fun _ _ => rfl, fun _ _ => rfl⟩ (fun _ _ => rfl) _ _ _⟩
  obtain ⟨hcount, hmem'⟩ := hrelease
  generalize s1.releaseWork q w = u at *
  let idle := (u.bump Reg.ISP_CNT q 0).ispIdle q
  have hpipe : idle.noteElig.ispPipe q = idle.ispPipe q :=
    noteElig_keeps (p := fun t => t.ispPipe q) (fun _ _ _ _ _ _ _ => rfl) (fun _ _ _ => rfl) _
  refine ⟨_, hexec, ?_, ?_, ?_, memKept_of ((noteElig_mem _).trans (hmem'.trans hmem))⟩
  · rw [hpipe]
    exact congrArg IspPipe.work (AMap.get_store_same _ _ _ _)
  · rw [noteElig_keeps (p := fun t => t.bit Reg.ISP_PIPE_STATUS 2 q) (blind_bit (by decide) 2 q 0 0) (fun _ _ _ => rfl)]
    exact State.bit_setBit_same _ _ 2 true _ _ _ (by decide)
  · rw [noteElig_keeps (p := fun t => t.rd Reg.ISP_CNT q 0) (blind_rd (by decide) q 0 0) (fun _ _ _ => rfl), ← hcount]
    refine (congrArg BitVec.toNat (rd_setBit_apart (r := Reg.ISP_PIPE_STATUS) (by decide) _ _ _ _ _ _ _ _ _)).trans ?_
    exact rd_bumpBy_same _ 1 _ _ _

theorem stripeDone_waits {r : Nat × OutRow} {rest : List (Nat × OutRow)}
    (hput : s.putRows q (s.ispForce q w.ctx) w.rows = (s1, r :: rest)) :
    ∃ t, exec (.stripeDone q) s = .next t ∧ (t.ispPipe q).work = some { w with rows := r :: rest } ∧ MemKept s t := by
  have hmem : s1.mem = s.mem := by rw [← putRows_mem s q (s.ispForce q w.ctx) w.rows, hput]
  have hexec := (exec_stripeDone hon hwork hput).trans (congrArg (fun t => Host.Outcome.next (State.noteElig t))
    (if_neg (List.cons_ne_nil _ _)))
  let held := (s1.setIspPipe q { s1.ispPipe q with work := some { w with rows := r :: rest } }).bump Reg.ISP_CNT q 6
  have hpipe : held.noteElig.ispPipe q = held.ispPipe q :=
    noteElig_keeps (p := fun t => t.ispPipe q) (fun _ _ _ _ _ _ _ => rfl) (fun _ _ _ => rfl) _
  refine ⟨_, hexec, ?_, memKept_of ((noteElig_mem _).trans hmem)⟩
  rw [hpipe]
  exact congrArg IspPipe.work (AMap.get_store_same _ _ _ _)

end

end Sys2Proof.Machine
end

section
/-!
Configuration and reset of image pipelines (R128, R131 to R133).
-/
namespace Sys2Proof.Machine

open Sys2Proof

variable {β : Type} {p : State → β}

/-! ### Refusals (R12) -/

/-- The registers that a refusal is recorded in. -/
def refusalRows : List RegRow :=
  [Reg.LN_STATUS, Reg.FAB_NODE, Reg.TIME_STATUS, Reg.DEC_STREAM_STATUS, Reg.SYS_REFUSED_STATUS, Reg.SYS_REFUSED_ADDR,
    Reg.SYS_REFUSED_CNT, Reg.SYS_HOST_EVENT]

theorem refuse_blind (hw : Blind refusalRows p) (s : State) (st a : Nat) : p (s.refuse st a) = p s := by
  have hlast : p (s.lastStatus st a) = p s := by
    unfold State.lastStatus
    split
    · exact hw.setF (by simp [refusalRows]) _ _ _ _ _ _ _
    · exact hw.setF (by simp [refusalRows]) _ _ _ _ _ _ _
    · exact hw.setF (by simp [refusalRows]) _ _ _ _ _ _ _
    · split
      · exact hw.setF (by simp [refusalRows]) _ _ _ _ _ _ _
      · rfl
    · rfl
  refine (hw.raise (r := Reg.SYS_HOST_EVENT) (by simp [refusalRows]) _ _ _ _).trans ?_
  refine (hw.bump (r := Reg.SYS_REFUSED_CNT) (by simp [refusalRows]) _ _ _).trans ?_
  exact (hw _ _ _ _ _ _ (by simp [refusalRows])).trans ((hw _ _ _ _ _ _ (by simp [refusalRows])).trans hlast)

/-! ### APPLY (R128, R131) -/

section
variable {s : State} {q : Fin 8} {w : Writer} {c : Fin 4} (htakes : s.takes w Reg.ISP_CTX_APPLY q c 0 = true)
include htakes

theorem apply_pends (hok : s.applyCheck q c = none) :
    ∃ t, exec (.apply w q c) s = .next t ∧ (t.ispCtx q c).pend = true ∧ t.bit Reg.ISP_CTX_STATUS 0 q c = true ∧
      t.f Reg.ISP_CTX_STATUS 16 16 q c = S_OK ∧ (t.ispCtx q c).force = (s.ispCtx q c).force ∧
      RegsKept s t [Reg.ISP_CTX_STATUS.at q c 0] ∧ MemKept s t := by
  have hexec : exec (.apply w q c) s = .next (((s.setIspCtx q c { s.ispCtx q c with pend := true }).setF Reg.ISP_CTX_STATUS 16 16
      S_OK q c).setBit Reg.ISP_CTX_STATUS 0 true q c) := by
    refine congrArg Host.Outcome.next ((takes_gate htakes _).trans ?_)
    unfold State.applyWrite
    rw [hok]
  have hctx (u : State) (x : IspCtx) : (((u.setIspCtx q c x).setF Reg.ISP_CTX_STATUS 16 16 S_OK q c).setBit Reg.ISP_CTX_STATUS 0
      true q c).ispCtx q c = x := State.ispCtx_setIspCtx_same u q c x
  refine ⟨_, hexec, by rw [hctx], State.bit_setBit_same _ _ 0 true _ _ _ (by decide), ?_, by rw [hctx], ?_, memKept_of rfl⟩
  · refine (f_setBit_other (by decide) _ _ _ _ _ _).trans ((State.f_setF_same _ _ _ _ _ _ _ _ (by decide)).trans ?_)
    decide
  · exact (regsKept_setBit (by simp)).2 ((regsKept_setF (by simp)).2 (regsKept_of_regs (t := s) rfl (regsKept_refl s _)))

theorem apply_refused {st : Nat} (hbad : s.applyCheck q c = some st) (hst : st < 65536) :
    ∃ t, exec (.apply w q c) s = .next t ∧ t.refusedWith st (Reg.ISP_CTX_APPLY.at q c 0) ∧
      t.f Reg.ISP_CTX_STATUS 16 16 q c = st ∧ t.bit Reg.ISP_EVENT (4 + c) q = true ∧ t.ispCtxs = s.ispCtxs ∧ MemKept s t := by
  let u := (s.setF Reg.ISP_CTX_STATUS 16 16 st q c).raise Reg.ISP_EVENT (4 + c) q
  have hexec : exec (.apply w q c) s = .next (u.refuse st (Reg.ISP_CTX_APPLY.at q c 0)) := by
    refine congrArg Host.Outcome.next ((takes_gate htakes _).trans ?_)
    unfold State.applyWrite
    rw [hbad]
  have haddr : Reg.ISP_CTX_APPLY.at q c 0 < 2 ^ 26 := by
    simp only [RegRow.at, Reg.ISP_CTX_APPLY]
    omega
  refine ⟨_, hexec, refuse_refusedWith _ (by omega) haddr, ?_, ?_, ?_, memKept_of ?_⟩
  · refine (refuse_blind (p := fun t => t.f Reg.ISP_CTX_STATUS 16 16 q c) (blind_f (by decide) 16 16 q c 0) u _ _).trans ?_
    refine (f_setBit_apart (r := Reg.ISP_EVENT) (by decide) _ _ _ _ _ _ _ _ _ _ _).trans ?_
    exact (State.f_setF_same _ _ _ _ _ _ _ _ (by decide)).trans (Nat.mod_eq_of_lt (by omega))
  · refine (refuse_blind (p := fun t => t.bit Reg.ISP_EVENT (4 + c) q) (blind_bit (by decide) _ q 0 0) u _ _).trans ?_
    exact State.bit_setBit_same _ _ _ true _ _ _ (by omega)
  · exact refuse_blind (p := State.ispCtxs) (fun _ _ _ _ _ _ _ => rfl) u _ _
  · exact refuse_blind (p := State.mem) (fun _ _ _ _ _ _ _ => rfl) u _ _

end

/-! ### A step for each of a list -/

/-- Steps that leave a part of the state as it is leave it so together. -/
theorem forAll_others {α γ : Type} (part : α → State → γ) (f : α → State → State)
    (hother : ∀ a b s, a ≠ b → part a (f b s) = part a s) {a : α} (l : List α) (ha : a ∉ l) (s : State) :
    part a (s.forAll l f) = part a s := by
  unfold State.forAll
  induction l generalizing s with
  | nil => rfl
  | cons b t ih =>
    obtain ⟨hab, hat⟩ := not_or.1 (mt List.mem_cons.2 ha)
    exact (ih hat _).trans (hother a b s hab)

/-- Of steps that each change their own part of the state, each part shows its own step. -/
theorem forAll_each {α γ : Type} (part : α → State → γ) (f : α → State → State) (g : γ → γ)
    (hsame : ∀ a s, part a (f a s) = g (part a s)) (hother : ∀ a b s, a ≠ b → part a (f b s) = part a s) (l : List α)
    (hl : l.Nodup) {a : α} (ha : a ∈ l) (s : State) : part a (s.forAll l f) = g (part a s) := by
  induction l generalizing s with
  | nil => cases ha
  | cons b t ih =>
    obtain ⟨hb, ht⟩ := List.nodup_cons.1 hl
    rcases List.mem_cons.1 ha with rfl | ha
    · exact (forAll_others part f hother t hb (f a s)).trans (hsame a s)
    · have hab : a ≠ b := fun h => hb (h ▸ ha)
      exact (ih ht ha (f b s)).trans (congrArg g (hother a b s hab))

theorem ispCtx_setIspCtx_other {s : State} {q c d : Nat} (h : c ≠ d) (x : IspCtx) : (s.setIspCtx q d x).ispCtx q c = s.ispCtx q c :=
  AMap.get_store_other _ _ _ (by omega)

theorem ispOut_setIspOut_other {s : State} {q c d : Nat} (h : c ≠ d) (x : IspOut) : (s.setIspOut q d x).ispOut q c = s.ispOut q c :=
  AMap.get_store_other _ _ _ (by omega)

/-! ### The boundary (R128, R132) -/

/-- A context in which the shadows have come into force. -/
def State.ctxApplied (s : State) (q c : Nat) : State :=
  let t := s.takeShadows q c
  t.setIspCtx q c { t.ispCtx q c with pend := false, applying := true }

theorem ctxApplied_ctx (s : State) (q c : Nat) : ((s.ctxApplied q c).ispCtx q c).force = s.shadowWords q c ∧
    ((s.ctxApplied q c).ispCtx q c).pend = false ∧ ((s.ctxApplied q c).ispCtx q c).applying = true := by
  have hshadow : ((s.takeShadows q c).ispCtx q c).force = s.shadowWords q c := by
    unfold State.takeShadows
    rw [State.ispCtx_setIspCtx_same]
  unfold State.ctxApplied
  rw [State.ispCtx_setIspCtx_same]
  exact ⟨hshadow, rfl, rfl⟩

theorem takeShadows_keeps (hi : ∀ (s : State) x, p { s with ispCtxs := x } = p s) (s : State) (q c : Nat) :
    p (s.takeShadows q c) = p s := by
  have hset (t : State) (d : Nat) (x : IspCtx) : p (t.setIspCtx q d x) = p t := hi _ _
  exact (hset _ _ _).trans (State.forAll_keeps p _ (fun d t => ite_keeps rfl (hset _ _ _)) s _)

/-- What the boundary does beside the words in force: a reading of one context that sees neither its history nor the rows that
its outputs hold. -/
structure BoundaryBlind (q c : Nat) (p : State → β) : Prop where
  fresh : ∀ (s : State) a b, p (s.setIspCtx q c { s.ispCtx q c with fresh := a, prevBad := b }) = p s
  past : ∀ (s : State) a b, p (s.setIspCtx q c { s.ispCtx q c with past := a, lastBlock := b }) = p s
  outs : ∀ (s : State) x, p { s with ispOuts := x } = p s
  rows : Blind [Reg.ISP_CTX_STATUS, Reg.ISP_PIPE_STATUS, Reg.DEC_STATUS] p

theorem applyNow_keeps {q c : Nat} (hb : BoundaryBlind q c p) (s : State) : p (s.applyNow q c).syncLoads = p (s.ctxApplied q c) := by
  refine (syncLoads_keeps (hb.rows.mono (by simp)) _).trans ?_
  unfold State.applyNow
  extract_lets old mine s1 src s2 new s3 s4 x s5
  have h3 : p s3 = p s2 := State.when_keeps p _ _ (fun s => s.setIspCtx q c { s.ispCtx q c with fresh := true, prevBad := false })
    (hb.fresh _ _ _)
  have h4 : p s4 = p s3 := State.forAll_keeps p _ (fun o t => ite_keeps rfl (hb.outs _ _)) s3 _
  have h5 : p s5 = p s4 := ite_keeps rfl (hb.past _ _ _)
  exact (hb.rows.setF (r := Reg.ISP_CTX_STATUS) (by simp) _ _ _ _ _ _ _).trans
    ((hb.rows.setBit (r := Reg.ISP_CTX_STATUS) (by simp) _ _ _ _ _ _).trans (h5.trans (h4.trans h3)))

theorem boundaryBlind_ctx {γ : Type} (q c : Nat) (g : IspCtx → γ) (hfresh : ∀ x a b, g { x with fresh := a, prevBad := b } = g x)
    (hpast : ∀ x a b, g { x with past := a, lastBlock := b } = g x) : BoundaryBlind q c (fun s => g (s.ispCtx q c)) where
  fresh s a b := by rw [State.ispCtx_setIspCtx_same, hfresh]
  past s a b := by rw [State.ispCtx_setIspCtx_same, hpast]
  outs _ _ := rfl
  rows _ _ _ _ _ _ _ := rfl

section
variable {s : State} {q : Fin 8} (hon : s.on .ISP = true)
include hon

theorem applyBoundary_applies {c : Fin 4} (hpend : (s.ispCtx q c).pend = true) (hat : s.atBoundary q c = true) :
    ∃ t, exec (.applyBoundary q c) s = .next t ∧ (t.ispCtx q c).force = s.shadowWords q c ∧ (t.ispCtx q c).pend = false ∧
      (t.ispCtx q c).applying = true ∧ t.bit Reg.ISP_CTX_STATUS 0 q c = false ∧ MemKept s t := by
  obtain ⟨hforce, hpend', happlying⟩ := ctxApplied_ctx s q c
  have hkeeps {γ : Type} (g : IspCtx → γ) (hfresh : ∀ x a b, g { x with fresh := a, prevBad := b } = g x)
      (hpast : ∀ x a b, g { x with past := a, lastBlock := b } = g x) :
      g ((s.applyNow q c).syncLoads.ispCtx q c) = g ((s.ctxApplied q c).ispCtx q c) :=
    applyNow_keeps (boundaryBlind_ctx q.val c.val g hfresh hpast) s
  refine ⟨_, next_if_pos ⟨hon, hpend, hat⟩, (hkeeps IspCtx.force (fun _ _ _ => rfl) (fun _ _ _ => rfl)).trans hforce,
    (hkeeps IspCtx.pend (fun _ _ _ => rfl) (fun _ _ _ => rfl)).trans hpend',
    (hkeeps IspCtx.applying (fun _ _ _ => rfl) (fun _ _ _ => rfl)).trans happlying, ?_, memKept_of ?_⟩
  · refine (syncLoads_keeps (p := fun t => t.bit Reg.ISP_CTX_STATUS 0 q c) (blind_bit (by decide) 0 q c 0) _).trans ?_
    exact (bit_setF_other (by decide) _ _ _ _ _ _).trans (State.bit_setBit_same _ _ 0 false _ _ _ (by decide))
  · refine (applyNow_keeps (p := State.mem) ⟨fun _ _ _ => rfl, fun _ _ _ => rfl, fun _ _ => rfl, fun _ _ _ _ _ _ _ => rfl⟩ s).trans ?_
    exact takeShadows_keeps (p := State.mem) (fun _ _ => rfl) s q c

theorem applied_shows {c : Fin 4} (happlying : (s.ispCtx q c).applying = true) :
    ∃ t, exec (.applied q c) s = .next t ∧ (t.ispCtx q c).applying = false ∧ t.bit Reg.ISP_EVENT c q = true ∧
      RegsKept s t [Reg.ISP_EVENT.at q 0 0] ∧ MemKept s t := by
  have hctx (u : State) (x : IspCtx) : ((u.setIspCtx q c x).raise Reg.ISP_EVENT c q).ispCtx q c = x := State.ispCtx_setIspCtx_same u q c x
  refine ⟨_, next_if_pos ⟨hon, happlying⟩, by rw [hctx], State.bit_setBit_same _ _ _ true _ _ _ (by omega), ?_, memKept_of rfl⟩
  exact (regsKept_setBit (by simp)).2 (regsKept_of_regs (t := s) rfl (regsKept_refl s _))

/-! ### Engine reset (R133) -/

/-- The work under way is abandoned. -/
def State.workAbandoned (s : State) (q : Nat) : State :=
  match (s.ispPipe q).work with
  | some w => (s.releaseWork q w).ispIdle q
  | none => s

omit hon in
theorem workAbandoned_work (s : State) (q : Nat) : ((s.workAbandoned q).ispPipe q).work = none := by
  unfold State.workAbandoned
  cases h : (s.ispPipe q).work with
  | none => exact h
  | some w => exact congrArg IspPipe.work (AMap.get_store_same _ _ _ _)

omit hon in
theorem workAbandoned_keeps (hc : CamBlind p) (hdec : ∀ (s : State) x, p { s with dec := x } = p s)
    (hpipes : ∀ (s : State) x, p { s with ispPipes := x } = p s) (hw : Blind [Reg.ISP_PIPE_STATUS] p) (s : State) (q : Nat) :
    p (s.workAbandoned q) = p s := by
  unfold State.workAbandoned
  split
  · exact (hw.setBit (r := Reg.ISP_PIPE_STATUS) (by simp) _ _ _ _ _ _).trans ((hpipes _ _).trans (releaseWork_keeps hc hdec _ _ _))
  · rfl

/-- An output unit whose next row carries PIPE_GAP. -/
def IspOut.gapped (x : IspOut) : IspOut := { x with held := [], voff := 0, odd := none, gap := true }

theorem ispEngineReset_shows : ∃ t, exec (.ispEngineReset q) s = .next t ∧ (t.ispPipe q).work = none ∧
      (∀ c : Fin 4, (t.ispCtx q c).waitBlock = true ∧ (t.ispCtx q c).fresh = true ∧
        (t.ispCtx q c).force = (s.ispCtx q c).force) ∧
      (∀ o : Fin 4, (t.ispOut q o).gap = true ∧ (t.ispOut q o).rows = (s.ispOut q o).rows) ∧
      t.bit Reg.ISP_EVENT 9 q = true ∧ MemKept s t := by
  let resetCtxs (t : State) : State := t.forAll (upTo 4) (fun c t => t.setIspCtx q c (t.ispCtx q c).afterReset)
  let gapOuts (t : State) : State := t.forAll (upTo 4) (fun o t => t.setIspOut q o (t.ispOut q o).gapped)
  have hexec : exec (.ispEngineReset q) s = .next ((gapOuts (resetCtxs (s.workAbandoned q))).raise Reg.ISP_EVENT 9 q) :=
    next_if_neg (by simp [hon])
  have hctxs {γ : Type} (g : State → γ) (hg : ∀ (s : State) x, g { s with ispCtxs := x } = g s) (t : State) : g (resetCtxs t) = g t :=
    State.forAll_keeps g _ (fun _ _ => hg _ _) t _
  have houts {γ : Type} (g : State → γ) (hg : ∀ (s : State) x, g { s with ispOuts := x } = g s) (t : State) : g (gapOuts t) = g t :=
    State.forAll_keeps g _ (fun _ _ => hg _ _) t _
  have hcam {γ : Type} (g : State → γ) (hwr : ∀ s r v i j k, g (State.wr s r v i j k) = g s)
      (hcams : ∀ (s : State) x, g { s with cams := x } = g s) (hfree : ∀ (s : State) x, g { s with free := x } = g s) : CamBlind g :=
    ⟨blind_of_wr hwr _, hcams, hfree⟩
  refine ⟨_, hexec, ?_, fun c => ?_, fun o => ?_, State.bit_setBit_same _ _ 9 true _ _ _ (by decide), memKept_of ?_⟩
  · exact (houts (fun t => (t.ispPipe q).work) (fun _ _ => rfl) _).trans
      ((hctxs (fun t => (t.ispPipe q).work) (fun _ _ => rfl) _).trans (workAbandoned_work s q))
  · have hctx : ((gapOuts (resetCtxs (s.workAbandoned q))).raise Reg.ISP_EVENT 9 q).ispCtx q c = (s.ispCtx q c).afterReset := by
      refine (houts (fun t => t.ispCtx q c) (fun _ _ => rfl) _).trans ?_
      refine (forAll_each (fun d (t : State) => t.ispCtx q d) _ IspCtx.afterReset (fun d t => State.ispCtx_setIspCtx_same _ _ _ _)
        (fun d e t h => ispCtx_setIspCtx_other h _) _ List.nodup_range (List.mem_range.2 c.isLt) _).trans ?_
      exact congrArg IspCtx.afterReset (workAbandoned_keeps (p := fun t => t.ispCtx q c) (hcam _ (fun _ _ _ _ _ _ => rfl) (fun _ _ => rfl)
        (fun _ _ => rfl)) (fun _ _ => rfl) (fun _ _ => rfl) (fun _ _ _ _ _ _ _ => rfl) s q)
    rw [hctx]
    exact ⟨rfl, rfl, rfl⟩
  · have hout : ((gapOuts (resetCtxs (s.workAbandoned q))).raise Reg.ISP_EVENT 9 q).ispOut q o = (s.ispOut q o).gapped := by
      refine (forAll_each (fun d (t : State) => t.ispOut q d) _ IspOut.gapped (fun d t => State.ispOut_setIspOut_same _ _ _ _)
        (fun d e t h => ispOut_setIspOut_other h _) _ List.nodup_range (List.mem_range.2 o.isLt) _).trans ?_
      refine congrArg IspOut.gapped ((hctxs (fun t => t.ispOut q o) (fun _ _ => rfl) _).trans ?_)
      exact workAbandoned_keeps (p := fun t => t.ispOut q o) (hcam _ (fun _ _ _ _ _ _ => rfl) (fun _ _ => rfl)
        (fun _ _ => rfl)) (fun _ _ => rfl) (fun _ _ => rfl) (fun _ _ _ _ _ _ _ => rfl) s q
    rw [hout]
    exact ⟨rfl, rfl⟩
  · refine (houts State.mem (fun _ _ => rfl) _).trans ((hctxs State.mem (fun _ _ => rfl) _).trans ?_)
    exact workAbandoned_keeps (p := State.mem) (hcam _ (fun _ _ _ _ _ _ => rfl) (fun _ _ => rfl) (fun _ _ => rfl)) (fun _ _ => rfl)
      (fun _ _ => rfl) (fun _ _ _ _ _ _ _ => rfl) s q

end

/-- Settles O42: a unit of work starts by `startWork_runs`, an APPLY comes into force by `applyNow_keeps`, and a reset marks each
context and output by `forAll_each`. -/
theorem pipelinesRunAndApply : Obligations.PipelinesRunAndApply := by
  unfold Obligations.PipelinesRunAndApply
  exact fun s q hon => ⟨fun c src own ahead frame => stripeStart_runs hon, fun w s1 => stripeDone_idles hon,
    fun w s1 r rest hwork hput => stripeDone_waits hon hwork hput, fun w c htakes => ⟨apply_pends htakes, fun st => apply_refused htakes⟩,
    fun c => applyBoundary_applies hon, fun c => applied_shows hon, ispEngineReset_shows hon⟩

end Sys2Proof.Machine
end

section
/-!
Contexts in their save areas (R300, R301): O45 fails, since a save writes pages, and the write may retire a merge entry of
another job whose sector cannot be read.
-/
namespace Sys2Proof.Machine

open Sys2Proof

/-- A job with one tile, on spire 0, and a save area of one page whose last sector is not full. -/
def pausedJob : Job := { img := { tiles := [{}] }, st := .pausing, saves := [(0, [0])], foot := [(0, 1)] }

/-- A running job whose slot 0 holds the part of comet 0. -/
def slottedJob : Job := { img := {}, st := .running, slots := [(0, { st := .active, taken := true })] }

/-- The comet in the slot of `slottedJob`. -/
def slottedComet : Comet :=
  { seq := 0, st := .committed, lane := 0, src := 0, enc := 0, lead := 0, commitOfs := 0, ejectOfs := 0, ejectExt := 0,
    winPre := 0, winPost := 0, group := 0, tCreate := 0 }

/-- The save of job 1 on spire 0 ends. The merge buffer of vault 0 is full of entries of job 0, and the sector of the oldest has
two bad symbols. -/
def saveFaultsState : State :=
  { State.reset with
    core := { alive := true, held := false, cp := .running }
    regs := [(Reg.MEM_STATUS.addr, 2), (Reg.SPR_ID.at 0 0 0, 0x80)]
    memory := { merge := [(0, (upTo 64).map (fun k => partialEntry (100 + k)))], errs := [(100, { syms := 3, injected := true })] }
    wt := { comets := [(0, slottedComet)] }
    job := { jobs := [(0, slottedJob), (1, pausedJob)],
             engines := [(0, { resident := some 1, switch := some (.saving 2) })] } }

/-- What the end of the save leaves. -/
def savedState : State := ((saveFaultsState.saved 0 1 2).afterSave 0 1 2).noteElig.swapAnswer

theorem contextSaveDone_saves {s : State} {e : Fin 34} {h : Nat} (hon : s.on .SPR = true)
    (hswitch : (s.engine e).switch = some (.saving 2)) (hresident : (s.engine e).resident = some h)
    (hcause : (s.engine e).cause = none) :
    exec (.contextSaveDone e .clean) s = .next ((s.saved e h 2).afterSave e h 2).noteElig.swapAnswer := by
  have hcharge : s.chargeSwitch e = s := by rw [State.chargeSwitch, hcause]
  refine congrArg Host.Outcome.next ?_
  rw [hswitch, hresident]
  simp [hon, hcharge, State.sramRead]

theorem saveFaultsState_saves : exec (.contextSaveDone 0 .clean) saveFaultsState = .next savedState :=
  contextSaveDone_saves (by decide +kernel) rfl rfl rfl

theorem savedState_drops : (savedState.comet 0).map (fun c => c.flags) = some 0x80 := by
  decide +kernel

/-- Refutes O45: in `saveFaultsState` the last write of the save evicts the entry whose sector cannot be read, the fault of its
sources ends the run of job 0, and the comet in its slot takes SLOT_DROPPED. -/
theorem not_contextsSaveAndRestore : ¬ Obligations.ContextsSaveAndRestore := by
  intro h
  obtain ⟨hsave, -⟩ := h saveFaultsState 0 1 (by decide +kernel)
  obtain ⟨t, ht, -, -, -, -, hwt⟩ := hsave rfl rfl rfl
  have hsaved : savedState = t := by simpa [saveFaultsState_saves] using ht
  have hdropped := savedState_drops
  rw [State.comet, hsaved, hwt] at hdropped
  exact absurd hdropped (by decide)

end Sys2Proof.Machine
end

section
/-!
Parts, windows and replies (R290, R297, R302): what a change of eligibility leaves of a context, and a step over every context.
-/
namespace Sys2Proof.Machine

open Sys2Proof

variable {β : Type} {p : State → β}

/-! ### Contexts -/

theorem ctx_setCtx (s : State) (h u h' u' : Nat) (x : Ctx) :
    (s.setCtx h u x).ctx h' u' = if 64 * h' + u' = 64 * h + u then x else s.ctx h' u' := AMap.get_store _ _ _ _ _

theorem clientCnt_keeps (hw : Blind [Reg.QM_CLIENT_CNT] p) (s : State) (h k : Nat) : p (s.clientCnt h k) = p s := by
  unfold State.clientCnt
  split
  · exact hw.bump (r := Reg.QM_CLIENT_CNT) (by simp) _ _ _
  · rfl

/-- A change of eligibility is seen only in the times since which contexts are eligible and in the mark of their budgets. -/
theorem noteElig_sees (hw : Blind [Reg.QM_CLIENT_CNT] p)
    (hc : ∀ (s : State) h u a b, p (s.setCtx h u { s.ctx h u with eligAt := a, budgetOut := b }) = p s) (s : State) :
    p s.noteElig = p s := by
  refine State.forAll_keeps p _ (fun (c : Nat × Nat) t => ite_keeps ?_ (hc t _ _ none (t.ctx c.1 c.2).budgetOut)) s _
  let out := t.sharedUnit c.2 && decide ((t.ctx c.1 c.2).budget = 0) && (t.ctx c.1 c.2).budgetOut
  let t' := t.when out (fun s => s.clientCnt c.1 6)
  have hctx : t'.ctx c.1 c.2 = t.ctx c.1 c.2 :=
    State.when_keeps (fun t => t.ctx c.1 c.2) t out _
      (clientCnt_keeps (p := fun t => t.ctx c.1 c.2) (fun _ _ _ _ _ _ _ => rfl) t _ _)
  have hset := hc t' c.1 c.2 (some ((t.ctx c.1 c.2).eligAt.getD t'.raw)) ((t.ctx c.1 c.2).budgetOut && !out)
  rw [hctx] at hset
  exact hset.trans (State.when_keeps p t out _ (clientCnt_keeps hw t _ _))

theorem noteElig_ctx {γ : Type} (g : Ctx → γ) (hg : ∀ x a b, g { x with eligAt := a, budgetOut := b } = g x) (s : State)
    (h u : Nat) : g (s.noteElig.ctx h u) = g (s.ctx h u) := by
  refine noteElig_sees (p := fun t => g (t.ctx h u)) (fun _ _ _ _ _ _ _ => rfl) (fun t h' u' a b => ?_) s
  rw [ctx_setCtx]
  split
  · next hkey =>
    have hsame : t.ctx h' u' = t.ctx h u := congrArg (AMap.get t.job.ctxs {}) hkey.symm
    rw [hg, hsame]
  · rfl

theorem noteElig_encs (s : State) : s.noteElig.encs = s.encs :=
  noteElig_keeps (p := State.encs) (fun _ _ _ _ _ _ _ => rfl) (fun _ _ _ => rfl) s

theorem noteElig_wt (s : State) : s.noteElig.wt = s.wt :=
  noteElig_keeps (p := State.wt) (fun _ _ _ _ _ _ _ => rfl) (fun _ _ _ => rfl) s

theorem unit_lt {s : State} {h u : Nat} (hmem : (h, u) ∈ s.allCtxs) : u < 64 := by
  obtain ⟨q, -, hq⟩ := List.mem_flatMap.1 hmem
  obtain ⟨v, hv, heq⟩ := List.mem_map.1 hq
  obtain ⟨t, -, ht⟩ := List.mem_map.1 (List.mem_eraseDups.1 hv)
  have hu : u = t.1.unit := by rw [ht]; exact (congrArg Prod.snd heq).symm
  rw [hu, TileD.unit]
  split <;> omega

/-! ### A step over a list that reaches each of its members -/

/-- Where the step of one member brings about what no step of any member undoes, it holds after all of them. -/
theorem forAll_reaches {α : Type} {P Q : State → Prop} (f : α → State → State) {a : α} {l : List α} (ha : a ∈ l)
    (hkeepQ : ∀ b t, Q t → Q (f b t)) (hset : ∀ t, Q t → P (f a t)) (hkeep : ∀ b, b ∈ l → ∀ t, Q t → P t → P (f b t)) (s : State)
    (hs : Q s) : P (s.forAll l f) := by
  have hstays : ∀ (m : List α) (t : State), (∀ b, b ∈ m → b ∈ l) → Q t → P t → P (m.foldl (fun s x => f x s) t) := by
    intro m
    induction m with
    | nil => exact fun _ _ _ hP => hP
    | cons b m ih =>
      exact fun t hm hQ hP => ih _ (fun c hc => hm c (List.mem_cons_of_mem _ hc)) (hkeepQ b t hQ)
        (hkeep b (hm b List.mem_cons_self) t hQ hP)
  obtain ⟨l1, l2, hl⟩ := List.append_of_mem ha
  have hQ1 : Q (l1.foldl (fun s x => f x s) s) := List.foldlRecOn l1 _ hs (fun t ht b _ => hkeepQ b t ht)
  unfold State.forAll
  rw [hl, List.foldl_append, List.foldl_cons]
  exact hstays l2 _ (fun b hb => hl ▸ List.mem_append_right _ (List.mem_cons_of_mem _ hb)) (hkeepQ a _ hQ1) (hset _ hQ1)

/-! ### The accounting window (R297) -/

/-- A context on a shared spire receives its share. -/
def State.renewBudget (p : Nat × Nat) (s : State) : State :=
  if s.sharedUnit p.2 then
    s.setCtx p.1 p.2 { s.ctx p.1 p.2 with
      budget := ((s.jobOf p.1).map (fun j => j.share)).getD 0 * s.windowNs / 1024, budgetOut := false }
  else s

theorem renewBudget_keeps (hc : ∀ (s : State) h u x, p (s.setCtx h u x) = p s) (c : Nat × Nat) (s : State) :
    p (State.renewBudget c s) = p s := ite_keeps (hc _ _ _ _) rfl

theorem renewBudgets_ctx {s : State} {h u : Nat} {j : Job} (hmem : (h, u) ∈ s.allCtxs) (hjob : s.jobOf h = some j)
    (hshared : s.sharedUnit u = true) :
    ((s.forAll s.allCtxs State.renewBudget).ctx h u).budget = j.share * s.windowNs / 1024 := by
  let Q (t : State) : Prop := t.job.jobs = s.job.jobs ∧ t.regs = s.regs
  have hread (t : State) (ht : Q t) : t.sharedUnit u = true ∧ t.jobOf h = some j ∧ t.windowNs = s.windowNs := by
    obtain ⟨hjobs, hregs⟩ := ht
    refine ⟨?_, ?_, ?_⟩
    · rw [State.sharedUnit, State.jobsOn, hjobs]
      exact hshared
    · rw [State.jobOf, hjobs]
      exact hjob
    · rw [State.windowNs, State.f, State.rd, hregs]
      rfl
  refine forAll_reaches (P := fun t => (t.ctx h u).budget = j.share * s.windowNs / 1024) (Q := Q) State.renewBudget hmem ?_ ?_ ?_ s
    ⟨rfl, rfl⟩
  · exact fun b t ht => ⟨(renewBudget_keeps (p := fun t => t.job.jobs) (fun _ _ _ _ => rfl) b t).trans ht.1,
      (renewBudget_keeps (p := State.regs) (fun _ _ _ _ => rfl) b t).trans ht.2⟩
  · intro t ht
    obtain ⟨hs, hj, hn⟩ := hread t ht
    rw [State.renewBudget, if_pos hs, State.ctx_setCtx_same, hj, hn]
    rfl
  · intro b hb t ht hP
    obtain ⟨hs, hj, hn⟩ := hread t ht
    unfold State.renewBudget
    split
    · rw [ctx_setCtx]
      split
      · next hkey =>
        have hb2 : b.2 < 64 := unit_lt hb
        have hu : u < 64 := unit_lt hmem
        have hb1 : b.1 = h := by omega
        rw [hb1, hj, hn]
        rfl
      · exact hP
    · exact hP

theorem accountingWindow_renews {s : State} (hon : s.on .QM = true) (hnew : s.now.toNat / s.windowNs ≠ s.job.window) :
    ∃ t, exec .accountingWindow s = .next t ∧ t.job.window = s.now.toNat / s.windowNs ∧
      (∀ h u j, (h, u) ∈ s.allCtxs → u < 64 → s.jobOf h = some j → s.sharedUnit u = true →
        (t.ctx h u).budget = j.share * s.windowNs / 1024) ∧
      t.job.jobs = s.job.jobs ∧ t.encs = s.encs ∧ t.wt = s.wt ∧ MemKept s t := by
  let s1 := { s with job := { s.job with window := s.now.toNat / s.windowNs } }
  let s2 := s1.forAll s1.allCtxs State.renewBudget
  have hkeeps {γ : Type} (g : State → γ) (hc : ∀ (s : State) h u x, g (s.setCtx h u x) = g s) : g s2 = g s1 :=
    State.forAll_keeps g _ (fun c t => renewBudget_keeps hc c t) s1 _
  refine ⟨s2.noteElig, next_if_pos ⟨hon, hnew⟩, ?_, fun h u j hmem _ hjob hshared => ?_, ?_, ?_, ?_, memKept_of ?_⟩
  · exact (noteElig_sees (p := fun t => t.job.window) (fun _ _ _ _ _ _ _ => rfl) (fun _ _ _ _ _ => rfl) s2).trans
      (hkeeps (fun t => t.job.window) (fun _ _ _ _ => rfl))
  · exact (noteElig_ctx Ctx.budget (fun _ _ _ => rfl) s2 h u).trans (renewBudgets_ctx (s := s1) hmem hjob hshared)
  · exact (noteElig_jobs s2).trans (hkeeps (fun t => t.job.jobs) (fun _ _ _ _ => rfl))
  · exact (noteElig_encs s2).trans (hkeeps State.encs (fun _ _ _ _ => rfl))
  · exact (noteElig_wt s2).trans (hkeeps State.wt (fun _ _ _ _ => rfl))
  · exact (noteElig_mem s2).trans (hkeeps State.mem (fun _ _ _ _ => rfl))

/-! ### Parts join (R290) -/

theorem partJoin_joins {s : State} {h : Nat} {j : Job} {p : Nat × Comet} {f : AMap Word} {k : Nat} (hon : s.on .QM = true)
    (hjob : s.jobOf h = some j) (hrunning : j.st = .running) (hboundary : s.joinBoundary h j = true)
    (hfirst : (s.waiting j).findSome? (fun p => (s.partFirst h j p.2).map (fun f => (p, f))) = some (p, f))
    (hslot : j.freeSlot = some k) : s.partJoin h = (s.joinComet h k j p f).noteElig := by
  unfold State.partJoin
  rw [hjob]
  dsimp only
  rw [if_neg (by simp [hon, hrunning, hboundary]), hfirst, hslot]

theorem joinComet_shows {s : State} {h k : Nat} {j : Job} {p : Nat × Comet} {f : AMap Word} (hswitch : j.switch = []) :
    (s.joinComet h k j p f).jobOf h = some { j with
      slots := AMap.put j.slots k { taken := true, comet := p.1, cseq := p.2.seq, ringFirst := f }, parts := j.parts + 1 } ∧
      (s.joinComet h k j p f).comet p.1 = some { p.2 with joined := true, job := h } ∧
      ∀ n, n ≠ p.1 → (s.joinComet h k j p f).comet n = s.comet n := by
  unfold State.joinComet
  rw [hswitch]
  exact ⟨AMap.look_put_same _ _ _, AMap.look_put_same _ _ _, fun n hn => AMap.look_put_other _ _ hn⟩

theorem partJoin_shows {s : State} {h : Fin 1024} {j : Job} {p : Nat × Comet} {f : AMap Word} {k : Nat} (hon : s.on .QM = true)
    (hjob : s.jobOf h = some j) (hrunning : j.st = .running) (hboundary : s.joinBoundary h j = true)
    (hfirst : (s.waiting j).findSome? (fun p => (s.partFirst h j p.2).map (fun f => (p, f))) = some (p, f))
    (hslot : j.freeSlot = some k) (hswitch : j.switch = []) :
    ∃ t, exec (.partJoin h) s = .next t ∧
      t.jobOf h = some { j with
        slots := AMap.put j.slots k { taken := true, comet := p.1, cseq := p.2.seq, ringFirst := f }, parts := j.parts + 1 } ∧
      t.comet p.1 = some { p.2 with joined := true, job := h } ∧ (∀ n, n ≠ p.1 → t.comet n = s.comet n) ∧
      t.encs = s.encs ∧ MemKept s t := by
  obtain ⟨hjoined, hcomet, hothers⟩ := joinComet_shows (s := s) (h := h.val) (k := k) (p := p) (f := f) hswitch
  have hwt (n : Nat) : (s.joinComet h k j p f).noteElig.comet n = (s.joinComet h k j p f).comet n :=
    congrArg (fun w : WtSt => AMap.look w.comets n) (noteElig_wt _)
  refine ⟨_, congrArg Host.Outcome.next (partJoin_joins hon hjob hrunning hboundary hfirst hslot),
    (jobOf_of_jobs (noteElig_jobs _) _).trans hjoined, (hwt _).trans hcomet, fun n hn => (hwt n).trans (hothers n hn),
    noteElig_encs _, memKept_of (noteElig_mem _)⟩

/-! ### Replies (R302, R500) -/

theorem remoteReplyLand_lands {s s1 : State} {h : Fin 1024} {u : Fin 32} {m : Nat × Nat × List Byte} (hon : s.on .FAB = true)
    (hreply : s.replyFor h u = some m) (hland : s.landMessage h m.2.2 = (s1, true)) :
    ∃ t, exec (.remoteReplyLand h u) s = .next t ∧ (t.ctx h u).remoteDone = true ∧
      t.fab.inbox = s1.fab.inbox.erase m ∧ MemKept s1 t ∧ t.encs = s1.encs ∧ t.wt = s1.wt := by
  let s2 := { s1 with fab := { s1.fab with inbox := s1.fab.inbox.erase m } }
  let s3 := s2.setCtx h u { s2.ctx h u with remoteDone := true }
  have hexec : exec (.remoteReplyLand h u) s = .next s3.noteElig := by
    refine congrArg Host.Outcome.next ((if_neg (by simp [hon])).trans ?_)
    rw [hreply]
    dsimp only
    rw [hland]
  refine ⟨_, hexec, ?_, ?_, memKept_of (noteElig_mem s3), noteElig_encs s3, noteElig_wt s3⟩
  · rw [noteElig_ctx Ctx.remoteDone (fun _ _ _ => rfl), State.ctx_setCtx_same]
  · exact noteElig_sees (p := fun t => t.fab.inbox) (fun _ _ _ _ _ _ _ => rfl) (fun _ _ _ _ _ => rfl) s3

/-- Settles O47: a part joins by `joinComet_shows`, budgets are renewed by `renewBudgets_ctx`, a reply lands by
`remoteReplyLand_lands`. -/
theorem partsWindowsAndReplies : Obligations.PartsWindowsAndReplies := by
  unfold Obligations.PartsWindowsAndReplies
  exact fun s => ⟨fun h j p f k hon hjob hrunning hboundary hfirst hslot hswitch _ =>
      partJoin_shows hon hjob hrunning hboundary hfirst hslot hswitch,
    accountingWindow_renews, fun h u m s1 => remoteReplyLand_lands⟩

end Sys2Proof.Machine
end

section
/-!
Serial lanes (R487 to R491, R503, R504, R508, R567): what training, lock and a link reset show.
-/
namespace Sys2Proof.Machine

open Sys2Proof

variable {β : Type} {p : State → β}

/-! ### The status word of a lane -/

/-- The status word of a lane whose training is complete. -/
def trainedWord (v : Word) : Word := setFld (putBit (putBit (putBit v 3 true) 4 false) 2 false) 6 2 0

theorem trainedWord_shows (v : Word) : fld (trainedWord v) 6 2 = 0 ∧ (trainedWord v).getLsbD 3 = true ∧
    (trainedWord v).getLsbD 4 = false ∧ fld (trainedWord v) 8 4 = fld v 8 4 ∧ fld (trainedWord v) 12 2 = fld v 12 2 := by
  unfold trainedWord
  refine ⟨fld_setFld_same _ _ _ _ (by decide), ?_, ?_, ?_, ?_⟩
  · rw [setFld_getLsbD_other _ _ _ _ _ (by decide), putBit_other _ _ _ _ (by decide), putBit_other _ _ _ _ (by decide),
      putBit_same _ _ _ (by decide)]
  · rw [setFld_getLsbD_other _ _ _ _ _ (by decide), putBit_other _ _ _ _ (by decide), putBit_same _ _ _ (by decide)]
  · rw [fld_setFld_other _ _ _ _ _ _ (by decide), fld_putBit_other _ _ _ _ _ (by decide), fld_putBit_other _ _ _ _ _ (by decide),
      fld_putBit_other _ _ _ _ _ (by decide)]
  · rw [fld_setFld_other _ _ _ _ _ _ (by decide), fld_putBit_other _ _ _ _ _ (by decide), fld_putBit_other _ _ _ _ _ (by decide),
      fld_putBit_other _ _ _ _ _ (by decide)]

/-- A lane that has trained is ACTIVE. -/
def State.laneTrained (s : State) (l : Nat) : State :=
  (s.wr Reg.LN_LANE_STATUS (trainedWord (s.rd Reg.LN_LANE_STATUS l)) l).setLane l { s.lane l with training := none }

theorem laneTrained_shows (s : State) (l : Nat) : (s.laneTrained l).laneState l = 0 ∧
    (s.laneTrained l).bit Reg.LN_LANE_STATUS 3 l = true ∧ (s.laneTrained l).bit Reg.LN_LANE_STATUS 4 l = false ∧
    (s.laneTrained l).laneOwnerId l = s.laneOwnerId l ∧ (s.laneTrained l).laneOwner l = s.laneOwner l ∧
    ((s.laneTrained l).lane l).training = none := by
  obtain ⟨hstate, htrained, hfail, hid, howner⟩ := trainedWord_shows (s.rd Reg.LN_LANE_STATUS l)
  have hword : (s.laneTrained l).rd Reg.LN_LANE_STATUS l = trainedWord (s.rd Reg.LN_LANE_STATUS l) := State.rd_wr_same _ _ _ _ _ _
  refine ⟨?_, ?_, ?_, ?_, ?_, congrArg LaneSt.training (AMap.get_store_same _ _ _ _)⟩
  · rw [State.laneState, State.f, hword, hstate]
  · rw [State.bit, hword, htrained]
  · rw [State.bit, hword, hfail]
  · rw [State.laneOwnerId, State.f, hword, hid]
    rfl
  · rw [State.laneOwner, State.f, hword, howner]
    rfl

theorem laneTrained_keeps (hw : Blind [Reg.LN_LANE_STATUS] p) (hl : ∀ (s : State) x, p { s with lanes := x } = p s) (s : State)
    (l : Nat) : p (s.laneTrained l) = p s := (hl _ _).trans (hw _ _ _ _ _ _ (by simp))

theorem laneTrained_regsKept {s : State} {l : Nat} {m : List Nat} (hm : Reg.LN_LANE_STATUS.at l 0 0 ∈ m) :
    RegsKept s (s.laneTrained l) m :=
  regsKept_of_regs (t := s.wr Reg.LN_LANE_STATUS _ l) rfl ((regsKept_wr_iff hm).2 (regsKept_refl s m))

section
variable {s : State} {l : Fin 32} (hon : s.on .LN = true)
include hon

section
variable {t0 : DWord} (htraining : (s.lane l).training = some t0) (hcage : s.cageHeld l = false)
include htraining hcage

/-- The end of training goes on as the owner of the lane says. -/
theorem trainingDone_eq (peer : Fin 16) (precode : BitVec 2) : exec (.trainingDone l peer precode) s =
    .next (((s.laneTrained l).when (decide (s.laneOwner l = 2)) (fun s => s.setF Reg.LN_LANE_CFG 4 2 precode.toNat l)).when
      (decide (s.laneOwner l = 3)) (fun t => t.linkTrained (s.laneOwnerId l) peer)) := by
  obtain ⟨-, -, -, hid, howner, -⟩ := laneTrained_shows s l
  refine congrArg Host.Outcome.next ?_
  rw [htraining]
  refine (if_pos ⟨hon, by simp [hcage]⟩).trans ?_
  change ((s.laneTrained l).when (decide ((s.laneTrained l).laneOwner l = 2)) (fun s => s.setF Reg.LN_LANE_CFG 4 2 precode.toNat l)).when
    (decide (((s.laneTrained l).when (decide ((s.laneTrained l).laneOwner l = 2))
      (fun s => s.setF Reg.LN_LANE_CFG 4 2 precode.toNat l)).laneOwner l = 3)) (fun t => t.linkTrained (t.laneOwnerId l) peer) = _
  rw [howner]
  have hcfg (g : State → Nat) (hg : Blind [Reg.LN_LANE_CFG] g) : g ((s.laneTrained l).when (decide (s.laneOwner l = 2))
      (fun s => s.setF Reg.LN_LANE_CFG 4 2 precode.toNat l)) = g (s.laneTrained l) :=
    State.when_keeps g _ _ (fun s => s.setF Reg.LN_LANE_CFG 4 2 precode.toNat l) (hg.setF (by simp) _ _ _ _ _ _ _)
  have hown := hcfg (fun t => t.laneOwner l) (blind_f (by decide) 12 2 l 0 0)
  have hown' := hcfg (fun t => t.laneOwnerId l) (blind_f (by decide) 8 4 l 0 0)
  unfold State.when at hown hown' ⊢
  rw [hown, howner]
  split
  · exact congrArg (fun n => State.linkTrained _ n _) (hown'.trans hid)
  · rfl

theorem trainingDone_mac (peer : Fin 16) (precode : BitVec 2) (howner : s.laneOwner l = 2) :
    ∃ t, exec (.trainingDone l peer precode) s = .next t ∧ t.laneState l = 0 ∧ t.bit Reg.LN_LANE_STATUS 3 l = true ∧
      t.bit Reg.LN_LANE_STATUS 4 l = false ∧ (t.lane l).training = none ∧ t.f Reg.LN_LANE_CFG 4 2 l = precode.toNat ∧
      RegsKept s t [Reg.LN_LANE_STATUS.at l 0 0, Reg.LN_LANE_CFG.at l 0 0] ∧ MemKept s t := by
  obtain ⟨hstate, htrained, hfail, -, -, hnone⟩ := laneTrained_shows s l
  have hexec := trainingDone_eq hon htraining hcage peer precode
  rw [howner] at hexec
  refine ⟨_, hexec, ?_, ?_, ?_, hnone, ?_, ?_, memKept_of rfl⟩
  · exact (f_setF_apart (r := Reg.LN_LANE_CFG) (by decide) _ _ _ _ _ _ _ _ _ _ _ _).trans hstate
  · exact (bit_setF_apart (r := Reg.LN_LANE_CFG) (by decide) _ _ _ _ _ _ _ _ _ _ _).trans htrained
  · exact (bit_setF_apart (r := Reg.LN_LANE_CFG) (by decide) _ _ _ _ _ _ _ _ _ _ _).trans hfail
  · exact (State.f_setF_same _ _ _ _ _ _ _ _ (by decide)).trans (Nat.mod_eq_of_lt precode.isLt)
  · exact (regsKept_setF (by simp)).2 (laneTrained_regsKept (by simp))

/-- The end of training of a lane of a link. -/
theorem trainingDone_link {j : Fin 4} (peer : Fin 16) (precode : BitVec 2) (howner : s.laneOwner l = 3)
    (hid : s.laneOwnerId l = j.val) :
    exec (.trainingDone l peer precode) s = .next ((s.laneTrained l).linkTrained j peer) := by
  rw [trainingDone_eq hon htraining hcage, howner, hid]
  rfl

end
end

/-! ### A link whose lane has trained (R504) -/

theorem syncLink_f (s : State) (j : Nat) {lo len : Nat} (h : lo + len ≤ 20 ∨ 24 ≤ lo) :
    (s.syncLink j).f Reg.FAB_LINK_STATUS lo len j = s.f Reg.FAB_LINK_STATUS lo len j := f_setF_other (by omega) _ _ _ _ _ _

theorem linkUp_congr {s t : State} (hcore : t.core = s.core) (hpower : t.rd Reg.PM_STATE = s.rd Reg.PM_STATE)
    (hnode : t.rd Reg.FAB_NODE = s.rd Reg.FAB_NODE) {j : Nat} (hstate : t.linkState j = s.linkState j) : t.linkUp j = s.linkUp j := by
  rw [State.linkUp, State.linkUp, on_congr hcore hpower, hstate, State.bit, State.bit, hnode]

/-- A wrong peer holds the link down. -/
theorem linkTrained_wrong {s : State} {j : Nat} {peer : Fin 16} (hpeer : peer.val ≠ s.f Reg.FAB_LINK_CFG 12 4 j) :
    (s.linkTrained j peer).linkState j = 0 ∧ (s.linkTrained j peer).f Reg.FAB_LINK_STATUS 28 4 j = peer.val ∧
      (s.linkTrained j peer).bit Reg.FAB_EVENT 5 = true ∧
      (∀ m, Reg.FAB_LINK_STATUS.at j 0 0 ∈ m → Reg.FAB_EVENT.addr ∈ m → RegsKept s (s.linkTrained j peer) m) ∧
      (s.linkTrained j peer).mem = s.mem ∧ (s.linkTrained j peer).laneState = s.laneState := by
  have hcfg : (s.setF Reg.FAB_LINK_STATUS 28 4 peer.val j).f Reg.FAB_LINK_CFG 12 4 j = s.f Reg.FAB_LINK_CFG 12 4 j :=
    f_setF_apart (r := Reg.FAB_LINK_STATUS) (by decide) _ _ _ _ _ _ _ _ _ _ _ _
  have heq : s.linkTrained j peer =
      (((s.setF Reg.FAB_LINK_STATUS 28 4 peer.val j).setLinkState j 0).syncLink j).raise Reg.FAB_EVENT 5 :=
    if_pos (by rw [hcfg]; exact hpeer)
  rw [heq]
  refine ⟨?_, ?_, State.bit_setBit_same _ _ 5 true _ _ _ (by decide), fun m hlink hevent => ?_, rfl, ?_⟩
  · refine (f_setBit_apart (r := Reg.FAB_EVENT) (by decide) _ _ _ _ _ _ _ _ _ _ _).trans ((syncLink_f _ j (by decide)).trans ?_)
    exact State.f_setF_same _ _ _ _ _ _ _ _ (by decide)
  · refine (f_setBit_apart (r := Reg.FAB_EVENT) (by decide) _ _ _ _ _ _ _ _ _ _ _).trans ((syncLink_f _ j (by decide)).trans ?_)
    refine (f_setF_other (by decide) _ _ _ _ _ _).trans ((State.f_setF_same _ _ _ _ _ _ _ _ (by decide)).trans ?_)
    exact Nat.mod_eq_of_lt peer.isLt
  · exact (regsKept_setBit hevent).2 ((regsKept_setF hlink).2 ((regsKept_setF hlink).2 ((regsKept_setF hlink).2
      (regsKept_refl s m))))
  · funext l
    simp (disch := decide) [State.laneState, State.raise, State.syncLink, State.setLinkState]

/-- What a link keeps when it comes up. -/
def LinkSt.afresh (x : LinkSt) : LinkSt := { x with retrain := none, downSeq := none, resync := true, nakSent := false }

/-- A link that comes up shows it. -/
def State.linkRises (s : State) (j : Nat) : State :=
  (((s.setLink j (s.link j).afresh).setLinkState j 2).syncLink j).raise Reg.FAB_EVENT 0

theorem linkRises_shows (s : State) (j : Nat) : (s.linkRises j).linkState j = 2 ∧ (s.linkRises j).bit Reg.FAB_EVENT 0 = true ∧
    (s.linkRises j).link j = (s.link j).afresh := by
  refine ⟨?_, State.bit_setBit_same _ _ 0 true _ _ _ (by decide), AMap.get_store_same _ _ _ _⟩
  refine (f_setBit_apart (r := Reg.FAB_EVENT) (by decide) _ _ _ _ _ _ _ _ _ _ _).trans ((syncLink_f _ j (by decide)).trans ?_)
  exact State.f_setF_same _ _ _ _ _ _ _ _ (by decide)

theorem flitOut_link (s : State) (j : Nat) (sequenced : Bool) : ((s.flitOut j sequenced).link j) =
    { s.link j with ackAt := s.raw, rxCount := 0, inject := if sequenced then (s.link j).inject - 1 else (s.link j).inject } :=
  AMap.get_store_same _ _ _ _

/-- With the last lane trained the link comes up. -/
theorem linkTrained_eq {s : State} {j : Nat} {peer : Fin 16} (hpeer : peer.val = s.f Reg.FAB_LINK_CFG 12 4 j)
    (hall : s.allTrained j = true) (hdown : s.linkUp j = false) (hseq : (s.link j).downSeq = none) :
    s.linkTrained j peer = ((s.setF Reg.FAB_LINK_STATUS 28 4 peer.val j).linkRises j).controlOut j := by
  unfold State.linkTrained
  generalize hs1 : s.setF Reg.FAB_LINK_STATUS 28 4 peer.val j = s1
  have hcfg : s1.f Reg.FAB_LINK_CFG 12 4 j = s.f Reg.FAB_LINK_CFG 12 4 j := by
    rw [← hs1]
    exact f_setF_apart (r := Reg.FAB_LINK_STATUS) (by decide) _ _ _ _ _ _ _ _ _ _ _ _
  have hall1 : s1.allTrained j = true := by
    rw [← hall, ← hs1]
    simp (disch := decide) [State.allTrained]
  have hdown1 : s1.linkUp j = false := by
    rw [← hdown, ← hs1]
    refine linkUp_congr (s := s) (t := s.setF Reg.FAB_LINK_STATUS 28 4 peer.val j) rfl ?_ ?_ ?_
    · exact rd_setF_apart (r := Reg.FAB_LINK_STATUS) (by decide) _ _ _ _ _ _ _ _ _ _
    · exact rd_setF_apart (r := Reg.FAB_LINK_STATUS) (by decide) _ _ _ _ _ _ _ _ _ _
    · exact f_setF_other (r := Reg.FAB_LINK_STATUS) (lo := 28) (len := 4) (by decide) s peer.val j 0 0
  have hseq1 : (s1.link j).downSeq = none := by
    rw [← hseq, ← hs1]
    rfl
  dsimp only
  rw [if_neg (by rw [hcfg]; exact not_not.2 hpeer), if_pos (by simp [hall1, hdown1]), hseq1]
  rfl

theorem linkTrained_up {s : State} {j : Nat} {peer : Fin 16} (hpeer : peer.val = s.f Reg.FAB_LINK_CFG 12 4 j)
    (hall : s.allTrained j = true) (hdown : s.linkUp j = false) (hseq : (s.link j).downSeq = none) :
    (s.linkTrained j peer).linkState j = 2 ∧ (s.linkTrained j peer).bit Reg.FAB_EVENT 0 = true ∧
      ((s.linkTrained j peer).link j).retrain = none ∧ ((s.linkTrained j peer).link j).resync = true ∧
      ((s.linkTrained j peer).link j).replay = (s.link j).replay ∧ ((s.linkTrained j peer).link j).txSeq = (s.link j).txSeq ∧
      (s.linkTrained j peer).mem = s.mem := by
  obtain ⟨hstate, hevent, hlink⟩ := linkRises_shows (s.setF Reg.FAB_LINK_STATUS 28 4 peer.val j) j
  rw [linkTrained_eq hpeer hall hdown hseq, State.controlOut, flitOut_link, hlink]
  refine ⟨?_, ?_, rfl, rfl, rfl, rfl, rfl⟩
  · exact (f_bumpBy_apart (r := Reg.FAB_LINK_CNT) (by decide) _ _ _ _ _ _ _ _ _).trans hstate
  · exact (bit_bumpBy_apart (r := Reg.FAB_LINK_CNT) (by decide) _ _ _ _ _ _ _ _).trans hevent

section
variable {s : State} {l : Fin 32} (hon : s.on .LN = true) {t0 : DWord} (htraining : (s.lane l).training = some t0)
  (hcage : s.cageHeld l = false) {j : Fin 4} (howner : s.laneOwner l = 3) (hid : s.laneOwnerId l = j.val)
include hon htraining hcage howner hid

theorem trainingDone_wrong {peer : Fin 16} {precode : BitVec 2} (hpeer : peer.val ≠ s.f Reg.FAB_LINK_CFG 12 4 j) :
    ∃ t, exec (.trainingDone l peer precode) s = .next t ∧ t.laneState l = 0 ∧ t.linkState j = 0 ∧
      t.f Reg.FAB_LINK_STATUS 28 4 j = peer.val ∧ t.bit Reg.FAB_EVENT 5 = true ∧
      RegsKept s t [Reg.LN_LANE_STATUS.at l 0 0, Reg.FAB_LINK_STATUS.at j 0 0, Reg.FAB_EVENT.addr] ∧ MemKept s t := by
  have hcfg := laneTrained_keeps (p := fun t => t.f Reg.FAB_LINK_CFG 12 4 j) (blind_f (by decide) 12 4 j 0 0) (fun _ _ => rfl) s l
  obtain ⟨hstate, hpeer', hevent, hregs, hmem, hlane⟩ := linkTrained_wrong (s := s.laneTrained l) (j := j) (peer := peer)
    (by rw [hcfg]; exact hpeer)
  refine ⟨_, trainingDone_link hon htraining hcage peer precode howner hid, ?_, hstate, hpeer', hevent, ?_, memKept_of hmem⟩
  · rw [hlane]
    exact (laneTrained_shows s l).1
  · exact regsKept_trans (laneTrained_regsKept (by simp)) (hregs _ (by simp) (by simp))

theorem trainingDone_up {peer : Fin 16} {precode : BitVec 2} (hpeer : peer.val = s.f Reg.FAB_LINK_CFG 12 4 j)
    (hothers : ∀ k : Fin 4, 16 + 4 * j.val + k.val = l.val ∨ s.bit Reg.LN_LANE_STATUS 3 (16 + 4 * j.val + k.val) = true)
    (hdown : s.linkUp j = false) (hseq : (s.link j).downSeq = none) :
    ∃ t, exec (.trainingDone l peer precode) s = .next t ∧ t.linkState j = 2 ∧ t.bit Reg.FAB_EVENT 0 = true ∧
      (t.link j).retrain = none ∧ (t.link j).resync = true ∧ (t.link j).replay = (s.link j).replay ∧
      (t.link j).txSeq = (s.link j).txSeq ∧ MemKept s t := by
  have hkeeps {γ : Type} (g : State → γ) (hw : Blind [Reg.LN_LANE_STATUS] g) (hl : ∀ (s : State) x, g { s with lanes := x } = g s) :
      g (s.laneTrained l) = g s := laneTrained_keeps hw hl s l
  have hcfg := hkeeps (fun t => t.f Reg.FAB_LINK_CFG 12 4 j) (blind_f (by decide) 12 4 j 0 0) (fun _ _ => rfl)
  have hall : (s.laneTrained l).allTrained j = true := by
    refine List.all_eq_true.2 (fun k hk => ?_)
    have hk4 : k < 4 := List.mem_range.1 hk
    by_cases hl : 16 + 4 * j.val + k = l.val
    · rw [hl]
      exact (laneTrained_shows s l).2.1
    · have hbit : s.bit Reg.LN_LANE_STATUS 3 (16 + 4 * j.val + k) = true := (hothers ⟨k, hk4⟩).resolve_left hl
      rw [← hbit]
      exact State.bit_wr_other _ _ _ _ _ _ _ _ _ _ _ (by simp only [RegRow.at, Reg.LN_LANE_STATUS]; omega)
  have hup : (s.laneTrained l).linkUp j = false := by
    rw [← hdown]
    exact linkUp_congr (s := s) (t := s.laneTrained l) rfl (hkeeps (fun t => t.rd Reg.PM_STATE) (blind_rd (by decide) 0 0 0) (fun _ _ => rfl))
      (hkeeps (fun t => t.rd Reg.FAB_NODE) (blind_rd (by decide) 0 0 0) (fun _ _ => rfl))
      (hkeeps (fun t => t.linkState j) (blind_f (by decide) 0 3 j 0 0) (fun _ _ => rfl))
  obtain ⟨hstate, hevent, hretrain, hresync, hreplay, htx, hmem⟩ := linkTrained_up (s := s.laneTrained l) (j := j) (peer := peer)
    (by rw [hcfg]; exact hpeer) hall hup hseq
  exact ⟨_, trainingDone_link hon htraining hcage peer precode howner hid, hstate, hevent, hretrain, hresync, hreplay, htx,
    memKept_of hmem⟩

end

end Sys2Proof.Machine
end

section
/-!
Lock, activity and link resets of lanes (R488 to R491, R508, R567).
-/
namespace Sys2Proof.Machine

open Sys2Proof

variable {β : Type} {p : State → β}

theorem laneClassify_none {s : State} {l : Nat} {ok : Bool} (h : (s.lane l).downSeq = none) : s.laneClassify l ok = s := by
  rw [State.laneClassify, h]

theorem lane_setLane_same (s : State) (l : Nat) (x : LaneSt) : (s.setLane l x).lane l = x := AMap.get_store_same _ _ _ _

section
variable {s : State} {l : Fin 32} (hon : s.on .LN = true)
include hon

/-! ### Training without success (R487) -/

theorem trainTimeout_shows {t0 : DWord} (htraining : (s.lane l).training = some t0) (hlate : 500000000 ≤ s.since t0)
    (hseq : (s.lane l).downSeq = none) :
    ∃ t, exec (.trainTimeout l) s = .next t ∧ t.bit Reg.LN_LANE_STATUS 4 l = true ∧ t.bit Reg.LN_EVENT 4 = true ∧
      (t.lane l).training = some s.raw ∧
      RegsKept s t [Reg.LN_LANE_STATUS.at l 0 0, Reg.LN_EVENT.addr, Reg.LN_LANE_CNT.at l 5 0] ∧ MemKept s t := by
  let s1 := ((s.setBit Reg.LN_LANE_STATUS 4 true l).raise Reg.LN_EVENT 4).bump Reg.LN_LANE_CNT l 5
  let s2 := s1.setLane l { s1.lane l with training := some s1.raw }
  have hlane : s2.lane l = { s.lane l with training := some s.raw } := lane_setLane_same s1 l _
  have hexec : exec (.trainTimeout l) s = .next s2 := by
    refine congrArg Host.Outcome.next ?_
    rw [htraining]
    exact (if_pos ⟨hon, hlate⟩).trans (laneClassify_none (by rw [hlane]; exact hseq))
  refine ⟨s2, hexec, ?_, ?_, by rw [hlane], ?_, memKept_of rfl⟩
  · refine (bit_bumpBy_apart (r := Reg.LN_LANE_CNT) (by decide) _ _ _ _ _ _ _ _).trans ?_
    exact (bit_setBit_apart (r := Reg.LN_EVENT) (by decide) _ _ _ _ _ _ _ _ _ _).trans
      (State.bit_setBit_same _ _ 4 true _ _ _ (by decide))
  · exact (bit_bumpBy_apart (r := Reg.LN_LANE_CNT) (by decide) _ _ _ _ _ _ _ _).trans (State.bit_setBit_same _ _ 4 true _ _ _ (by decide))
  · exact (regsKept_bumpBy (by simp)).2 ((regsKept_setBit (by simp)).2 ((regsKept_setBit (by simp)).2 (regsKept_refl s _)))

/-! ### Lock (R488, R508, R567) -/

theorem laneUp_shows (hactive : s.laneState l = 0) (hlock : s.laneLock l = false) (hcage : s.cageHeld l = false)
    (howner : s.laneOwner l ≠ 1) (hseq : (s.lane l).downSeq = none) :
    ∃ t, exec (.laneUp l) s = .next t ∧ t.laneLock l = true ∧ (s.laneOwner l ≠ 0 → t.bit Reg.LN_EVENT 0 = true) ∧
      RegsKept s t [Reg.LN_LANE_STATUS.at l 0 0, Reg.LN_EVENT.addr] ∧ MemKept s t := by
  let s1 := s.setF Reg.LN_LANE_STATUS 0 2 3 l
  let s2 := s1.when (decide (s1.laneOwner l ≠ 0)) (fun s => s.raise Reg.LN_EVENT 0)
  have hkeeps {γ : Type} (g : State → γ) (hg : Blind [Reg.LN_EVENT] g) : g s2 = g s1 :=
    State.when_keeps g s1 _ (fun s => s.raise Reg.LN_EVENT 0) (hg.raise (by simp) _ _ _ _)
  have howner1 : s1.laneOwner l = s.laneOwner l := f_setF_other (by decide) _ _ _ _ _ _
  have howner2 : s2.laneOwner l = s1.laneOwner l := hkeeps (fun t => t.laneOwner l) (blind_f (by decide) 12 2 l 0 0)
  have hexec : exec (.laneUp l) s = .next s2 := by
    refine congrArg Host.Outcome.next ((if_pos ⟨hon, hactive, by simp [hlock], by simp [hcage]⟩).trans ?_)
    have hskip : s2.when (decide (s2.laneOwner l = 1)) (fun s => s.camLanesUp (s.laneOwnerId l)) = s2 := by
      rw [howner2, howner1]
      exact if_neg (by simpa using howner)
    change (s2.when (decide (s2.laneOwner l = 1)) (fun s => s.camLanesUp (s.laneOwnerId l))).laneClassify l true = s2
    rw [hskip]
    exact laneClassify_none ((hkeeps (fun t => (t.lane l).downSeq) (fun _ _ _ _ _ _ _ => rfl)).trans hseq)
  refine ⟨s2, hexec, ?_, fun hne => ?_, ?_, memKept_of (hkeeps State.mem (fun _ _ _ _ _ _ _ => rfl))⟩
  · refine (hkeeps (fun t => t.laneLock l) (blind_bit (by decide) 0 l 0 0)).trans ?_
    simp only [State.laneLock, State.bit, s1, State.setF, State.rd_wr_same]
    exact (setFld_getLsbD _ _ _ _ _ (by decide)).trans (if_pos (by decide))
  · have hs2 : s2 = s1.raise Reg.LN_EVENT 0 := if_pos (by rw [howner1]; simpa using hne)
    rw [hs2]
    exact State.bit_setBit_same _ _ 0 true _ _ _ (by decide)
  · have hs1 : RegsKept s s1 [Reg.LN_LANE_STATUS.at l 0 0, Reg.LN_EVENT.addr] := (regsKept_setF (by simp)).2 (regsKept_refl s _)
    refine regsKept_when.2 ?_
    split
    · exact (regsKept_setBit (by simp)).2 hs1
    · exact hs1

end

/-! #### Lock lost -/

/-- A lane without lock, counted. -/
def State.lockGone (s : State) (l : Nat) : State :=
  let s := (s.setF Reg.LN_LANE_STATUS 0 2 0 l).bump Reg.LN_LANE_CNT l 4
  s.when (decide (s.laneOwner l ≠ 0)) (fun s => s.raise Reg.LN_EVENT 1)

theorem lockGone_keeps (hw : Blind [Reg.LN_LANE_STATUS, Reg.LN_LANE_CNT, Reg.LN_EVENT] p) (s : State) (l : Nat) :
    p (s.lockGone l) = p s := by
  unfold State.lockGone
  exact (State.when_keeps p _ _ (fun s => s.raise Reg.LN_EVENT 1) (hw.raise (by simp) _ _ _ _)).trans
    ((hw.bump (r := Reg.LN_LANE_CNT) (by simp) _ _ _).trans (hw.setF (r := Reg.LN_LANE_STATUS) (by simp) _ _ _ _ _ _ _))

theorem lockGone_shows (s : State) (l : Nat) : (s.lockGone l).laneLock l = false ∧
    (s.lockGone l).laneOwner l = s.laneOwner l ∧ (s.lockGone l).laneOwnerId l = s.laneOwnerId l ∧
    ((s.lockGone l).rd Reg.LN_LANE_CNT l 4).toNat = min ((s.rd Reg.LN_LANE_CNT l 4).toNat + 1) 0xFFFFFFFF ∧
    (s.laneOwner l ≠ 0 → (s.lockGone l).bit Reg.LN_EVENT 1 = true) ∧
    RegsKept s (s.lockGone l) [Reg.LN_LANE_STATUS.at l 0 0, Reg.LN_EVENT.addr, Reg.LN_LANE_CNT.at l 4 0] := by
  let s1 := (s.setF Reg.LN_LANE_STATUS 0 2 0 l).bump Reg.LN_LANE_CNT l 4
  have hkeeps {γ : Type} (g : State → γ) (hg : Blind [Reg.LN_EVENT] g) : g (s.lockGone l) = g s1 :=
    State.when_keeps g s1 _ (fun s => s.raise Reg.LN_EVENT 1) (hg.raise (by simp) _ _ _ _)
  have hstatus (lo len : Nat) (h : 2 ≤ lo) : s1.f Reg.LN_LANE_STATUS lo len l = s.f Reg.LN_LANE_STATUS lo len l :=
    (f_bumpBy_apart (r := Reg.LN_LANE_CNT) (by decide) _ _ _ _ _ _ _ _ _).trans (f_setF_other (by omega) _ _ _ _ _ _)
  refine ⟨?_, ?_, ?_, ?_, fun hne => ?_, ?_⟩
  · refine (hkeeps (fun t => t.laneLock l) (blind_bit (by decide) 0 l 0 0)).trans ?_
    refine (bit_bumpBy_apart (r := Reg.LN_LANE_CNT) (by decide) _ _ _ _ _ _ _ _).trans ?_
    simp only [State.bit, State.setF, State.rd_wr_same]
    exact (setFld_getLsbD _ _ _ _ _ (by decide)).trans (if_pos (by decide))
  · exact (hkeeps (fun t => t.laneOwner l) (blind_f (by decide) 12 2 l 0 0)).trans (hstatus 12 2 (by decide))
  · exact (hkeeps (fun t => t.laneOwnerId l) (blind_f (by decide) 8 4 l 0 0)).trans (hstatus 8 4 (by decide))
  · refine (congrArg BitVec.toNat (hkeeps (fun t => t.rd Reg.LN_LANE_CNT l 4) (blind_rd (by decide) l 4 0))).trans ?_
    refine (rd_bumpBy_same _ _ _ _ _).trans ?_
    rw [rd_setF_apart (r := Reg.LN_LANE_STATUS) (by decide)]
  · have hne1 : s1.laneOwner l ≠ 0 := fun h => hne ((hstatus 12 2 (by decide)).symm.trans h)
    have hs2 : s.lockGone l = s1.raise Reg.LN_EVENT 1 := if_pos (decide_eq_true hne1)
    rw [hs2]
    exact State.bit_setBit_same _ _ 1 true _ _ _ (by decide)
  · have hs1 : RegsKept s s1 [Reg.LN_LANE_STATUS.at l 0 0, Reg.LN_EVENT.addr, Reg.LN_LANE_CNT.at l 4 0] :=
      (regsKept_bumpBy (by simp)).2 ((regsKept_setF (by simp)).2 (regsKept_refl s _))
    refine regsKept_when.2 ?_
    split
    · exact (regsKept_setBit (by simp)).2 hs1
    · exact hs1

/-- The loss of lock goes on as the owner of the lane says. -/
theorem lockLost_eq {s : State} {l : Nat} (hon : s.on .LN = true) (hlock : s.laneLock l = true) (heldNs : Nat) :
    s.lockLost l heldNs =
      let t := s.lockGone l
      if s.laneOwner l = 1 ∨ s.laneOwner l = 2 then
        let u := t.faultNew (laneDownRecord l 0)
        (u.setLane l { u.lane l with downSeq := some t.fault.seq }).ownerReset l
      else if s.laneOwner l = 3 ∧ 1000 ≤ heldNs then t.failLane (s.laneOwnerId l) (l % 4) 1
      else t := by
  obtain ⟨-, howner, hid, -⟩ := lockGone_shows s l
  refine (if_pos ⟨hon, hlock⟩).trans ?_
  dsimp only
  rw [← hid, ← howner]
  rfl

section
variable {s : State} {l : Fin 32} (hon : s.on .LN = true)
include hon

theorem laneLockLoss_counts {heldNs : Nat} (hlock : s.laneLock l = true)
    (howner : s.laneOwner l = 0 ∨ s.laneOwner l = 3 ∧ heldNs < 1000) :
    ∃ t, exec (.laneLockLoss l heldNs) s = .next t ∧ t.laneLock l = false ∧
      (t.rd Reg.LN_LANE_CNT l 4).toNat = min ((s.rd Reg.LN_LANE_CNT l 4).toNat + 1) 0xFFFFFFFF ∧
      (s.laneOwner l = 3 → t.bit Reg.LN_EVENT 1 = true) ∧
      RegsKept s t [Reg.LN_LANE_STATUS.at l 0 0, Reg.LN_EVENT.addr, Reg.LN_LANE_CNT.at l 4 0] ∧ MemKept s t := by
  obtain ⟨hgone, -, -, hcnt, hevent, hregs⟩ := lockGone_shows s l
  have hexec : exec (.laneLockLoss l heldNs) s = .next (s.lockGone l) := by
    refine congrArg Host.Outcome.next ((lockLost_eq hon hlock heldNs).trans ?_)
    dsimp only
    rw [if_neg (by omega), if_neg (by omega)]
  exact ⟨_, hexec, hgone, hcnt, fun h => hevent (by omega), hregs, memKept_of (lockGone_keeps (fun _ _ _ _ _ _ _ => rfl) s l)⟩

end

/-! #### The link of a MAC goes down (R491) -/

/-- A reading that sees nothing of what a MAC carries. -/
structure MacBlind (p : State → β) : Prop where
  cam : CamBlind p
  dec : DecBlind p
  macs : ∀ (s : State) x, p { s with macs := x } = p s

theorem macDown_sees (hm : MacBlind p) (s : State) (m : Nat) : p (s.macDown m) = p s ∨
    p (s.macDown m) = p ((s.setBit Reg.LN_MAC_CFG 31 false m).bump Reg.LN_MAC_CNT m 8) := by
  unfold State.macDown
  split
  · exact .inl rfl
  · refine .inr ?_
    refine (State.forAll_keeps p _ (fun n t => State.when_keeps p t _ (fun s => s.decLinkLost n)
      (decLinkLost_keeps hm.dec t n)) _ _).trans ?_
    refine (State.forAll_keeps p _ (fun n t => State.when_keeps p t _ (fun s => s.camDown n)
      (camDown_keeps hm.cam t n)) _ _).trans ?_
    exact hm.macs _ _

/-- A reading of registers alone that sees none of the registers of cameras, decoder and queues. -/
theorem macBlind_regs (g : State → β) (hmk : ∀ s t : State, s.regs = t.regs → g s = g t) (hw : Blind (camRows ++ decRows ++ appendRows) g) :
    MacBlind g :=
  ⟨⟨hw.mono (fun r hr => by simp [hr]), fun _ _ => hmk _ _ rfl, fun _ _ => hmk _ _ rfl⟩,
    ⟨hw.mono (fun r hr => by simp [hr]), hw.mono (fun r hr => by simp [hr]), fun _ _ => hmk _ _ rfl, fun _ _ => hmk _ _ rfl,
      fun _ _ => hmk _ _ rfl, fun _ _ => hmk _ _ rfl⟩, fun _ _ => hmk _ _ rfl⟩

/-- A reading of registers alone that sees none of the registers of records. -/
theorem recordBlind_rd {r : RegRow} (h : (Reg.SNAP_EVENT :: (latchRows ++ appendRows)).all (fun x => r.apart x) = true) (i j k : Nat) :
    RecordBlind (fun s => s.rd r i j k) :=
  have hall : Blind (Reg.SNAP_EVENT :: (latchRows ++ appendRows)) (fun s => s.rd r i j k) := blind_rd h i j k
  ⟨hall.mono (fun x hx => by simp [hx]), fun _ => hall.raise (by simp) _ _ _ _, fun _ => hall.raise (by simp) _ _ _ _,
    hall.mono (fun x hx => by simp [hx]), fun _ _ => rfl, fun _ _ => rfl, fun _ _ => rfl, fun _ _ => rfl⟩

theorem macBlind_rd {r : RegRow} (h : (camRows ++ decRows ++ appendRows).all (fun x => r.apart x) = true) (i j k : Nat) :
    MacBlind (fun s => s.rd r i j k) :=
  macBlind_regs _ (fun s t hst => by rw [State.rd, State.rd, hst]) (blind_rd h i j k)

theorem macDown_mac (s : State) (m : Nat) : (s.macDown m).bit Reg.LN_MAC_CFG 31 m = false := by
  by_cases h : s.bit Reg.LN_MAC_CFG 31 m = true
  · have hblind : MacBlind (fun t => t.bit Reg.LN_MAC_CFG 31 m) :=
      macBlind_regs _ (fun s t hst => by rw [State.bit, State.bit, State.rd, State.rd, hst]) (blind_bit (by decide) 31 m 0 0)
    unfold State.macDown
    rw [if_neg (by simp [h])]
    refine (State.forAll_keeps (fun t => t.bit Reg.LN_MAC_CFG 31 m) _ (fun n t => State.when_keeps (fun t => t.bit Reg.LN_MAC_CFG 31 m)
      t _ (fun s => s.decLinkLost n)
      (decLinkLost_keeps hblind.dec t n)) _ _).trans ?_
    refine (State.forAll_keeps (fun t => t.bit Reg.LN_MAC_CFG 31 m) _ (fun n t => State.when_keeps (fun t => t.bit Reg.LN_MAC_CFG 31 m)
      t _ (fun s => s.camDown n)
      (camDown_keeps hblind.cam t n)) _ _).trans ?_
    refine (bit_bumpBy_apart (r := Reg.LN_MAC_CNT) (by decide) _ _ _ _ _ _ _ _).trans ?_
    exact State.bit_setBit_same _ _ 31 false _ _ _ (by decide)
  · unfold State.macDown
    rw [if_pos (by simpa using h)]
    simpa using h

/-! #### Lanes through DEEP (R491) -/

theorem laneTo_lock {s : State} {l x st : Nat} (h : s.laneLock l = false) : (s.laneTo x st).laneLock l = false := by
  have hwr (v : Word) (hv : s.laneLock x = false → v.getLsbD 0 = false) : (s.wr Reg.LN_LANE_STATUS v x).laneLock l = false := by
    by_cases hx : Reg.LN_LANE_STATUS.at l 0 0 = Reg.LN_LANE_STATUS.at x 0 0
    · have hsame (t : State) : t.laneLock l = t.laneLock x := by
        rw [State.laneLock, State.laneLock, State.bit, State.bit, State.rd, State.rd, hx]
      rw [hsame] at h ⊢
      rw [State.laneLock, State.bit, State.rd_wr_same, hv h]
    · rw [← h]
      exact State.bit_wr_other _ _ _ _ _ _ _ _ _ _ _ hx
  unfold State.laneTo
  extract_lets w old x1 v v'
  split
  · split
    · exact h
    · split
      · exact h
      · refine hwr _ (fun hx => ?_)
        rw [setFld_getLsbD_other _ _ _ _ _ (by decide), putBit_other _ _ _ _ (by decide)]
        exact hx
  · split
    · refine hwr v' (fun _ => ?_)
      have hv : v.getLsbD 0 = false := by
        rw [putBit_other _ _ _ _ (by decide), putBit_same _ _ _ (by decide)]
      change (if st = 2 then putBit v 3 false else v).getLsbD 0 = false
      split
      · rw [putBit_other _ _ _ _ (by decide), hv]
      · exact hv
    · exact h

theorem laneTo_downSeq (s : State) (l x st : Nat) : ((s.laneTo x st).lane l).downSeq = (s.lane l).downSeq := by
  have hset (t : State) (a : Option DWord) : ((t.setLane x { t.lane x with training := a }).lane l).downSeq = (t.lane l).downSeq := by
    rw [State.lane_setLane]
    split
    · next h => rw [h]
    · rfl
  unfold State.laneTo
  let g (t : State) : Option Word := (t.lane l).downSeq
  exact ite_keeps (p := g) (ite_keeps (p := g) rfl (ite_keeps (p := g) (hset _ _) rfl)) (ite_keeps (p := g) (hset _ _) rfl)

theorem macLanesCycle_lock {s : State} {l : Nat} (h : s.laneLock l = false) (ls : List Nat) :
    (s.forAll ls (fun x s => s.laneCycle x)).laneLock l = false :=
  List.foldlRecOn (motive := fun t : State => t.laneLock l = false) ls (fun s x => s.laneCycle x) h
    (fun _ ht _ _ => laneTo_lock (laneTo_lock ht))

theorem ownerReset_mac {s : State} {l m : Nat} (howner : s.laneOwner l = 2) (hid : s.laneOwnerId l = m) :
    s.ownerReset l = (s.macDown m).forAll (s.macLanes m) (fun x s => s.laneCycle x) := by
  unfold State.ownerReset
  rw [howner, hid]
  rfl

theorem ownerReset_link {s : State} {l j : Nat} (howner : s.laneOwner l = 3) (hid : s.laneOwnerId l = j) :
    s.ownerReset l = s.fabLinkReset j := by
  unfold State.ownerReset
  rw [howner, hid]
  rfl

theorem ownerReset_none {s : State} {l : Nat} (howner : s.laneOwner l = 0) : s.ownerReset l = s := by
  unfold State.ownerReset
  rw [howner]
  rfl

section
variable {s : State} {l : Fin 32} (hon : s.on .LN = true) (hlock : s.laneLock l = true) {m : Fin 8} (howner : s.laneOwner l = 2)
  (hid : s.laneOwnerId l = m.val)

/-- A lane whose loss of lock has been recorded. -/
def State.lockRecorded (s : State) (l : Nat) : State :=
  let t := s.lockGone l
  let u := t.faultNew (laneDownRecord l 0)
  u.setLane l { u.lane l with downSeq := some t.fault.seq }

theorem lockRecorded_keeps (hr : RecordBlind p) (hl : ∀ (s : State) x, p { s with lanes := x } = p s) (s : State) (l : Nat) :
    p (s.lockRecorded l) = p (s.lockGone l) := (hl _ _).trans (faultNew_sees hr _ _)

include hon hlock howner hid

theorem laneLockLoss_mac (heldNs : Nat) :
    ∃ t, exec (.laneLockLoss l heldNs) s = .next t ∧ t.laneLock l = false ∧ t.bit Reg.LN_MAC_CFG 31 m = false ∧
      (t.lane l).downSeq = some s.fault.seq ∧ t.bit Reg.LN_EVENT 1 = true ∧ MemKept s t := by
  obtain ⟨hgone, howner1, hid1, -, hevent, -⟩ := lockGone_shows s l
  let v := s.lockRecorded l
  have hv {r : RegRow} (i j : Nat) (hr : (Reg.SNAP_EVENT :: (latchRows ++ appendRows)).all (fun x => r.apart x) = true) :
      v.rd r i j = (s.lockGone l).rd r i j :=
    lockRecorded_keeps (p := fun t => t.rd r i j) (recordBlind_rd hr _ _ _) (fun _ _ => rfl) s l
  have hlost : s.lockLost l heldNs = (v.macDown m).forAll (v.macLanes m) (fun x s => s.laneCycle x) := by
    refine (lockLost_eq hon hlock heldNs).trans ((if_pos (.inr howner)).trans ?_)
    change v.ownerReset l = _
    have hown : v.laneOwner l = 2 := (congrArg (fld · 12 2) (hv l 0 (by decide))).trans (howner1.trans howner)
    have hid' : v.laneOwnerId l = m.val := (congrArg (fld · 8 4) (hv l 0 (by decide))).trans (hid1.trans hid)
    exact ownerReset_mac hown hid'
  have hcycle {γ : Type} (g : State → γ) (hw : Blind laneRows g) (hl : ∀ (s : State) x, g { s with lanes := x } = g s) :
      g (s.lockLost l heldNs) = g (v.macDown m) := by
    rw [hlost]
    exact State.forAll_keeps g _ (fun x t => (laneTo_keeps hw hl _ _ _).trans (laneTo_keeps hw hl _ _ _)) _ _
  have hdown {γ : Type} (g : State → γ) (hm : MacBlind g) (hcfg : Blind [Reg.LN_MAC_CFG, Reg.LN_MAC_CNT] g) :
      g (v.macDown m) = g v :=
    (macDown_sees hm v m).elim id (fun h => h.trans ((hcfg.bump (r := Reg.LN_MAC_CNT) (by simp) _ _ _).trans
      (hcfg.setBit (r := Reg.LN_MAC_CFG) (by simp) _ _ _ _ _ _)))
  refine ⟨_, rfl, ?_, ?_, ?_, ?_, memKept_of (lockLost_keeps linkBlind_mem s l heldNs)⟩
  · rw [hlost]
    refine macLanesCycle_lock ?_ _
    have hstatus := (hdown (fun t => t.rd Reg.LN_LANE_STATUS l) (macBlind_rd (by decide) l 0 0) (blind_rd (by decide) l 0 0)).trans
      (hv l 0 (by decide))
    exact (congrArg (BitVec.getLsbD · 0) hstatus).trans hgone
  · exact (hcycle (fun t => t.bit Reg.LN_MAC_CFG 31 m) (blind_bit (by decide) 31 m 0 0) (fun _ _ => rfl)).trans (macDown_mac v m)
  · rw [hlost]
    refine (State.forAll_keeps (fun t => (t.lane l).downSeq) _ (fun x t => (laneTo_downSeq _ _ _ _).trans (laneTo_downSeq _ _ _ _))
      _ _).trans ?_
    have hblind : MacBlind (fun t => (t.lane l).downSeq) :=
      ⟨⟨fun _ _ _ _ _ _ _ => rfl, fun _ _ => rfl, fun _ _ => rfl⟩, ⟨fun _ _ _ _ _ _ _ => rfl, fun _ _ _ _ _ _ _ => rfl,
        fun _ _ => rfl, fun _ _ => rfl, fun _ _ => rfl, fun _ _ => rfl⟩, fun _ _ => rfl⟩
    refine (hdown (fun t => (t.lane l).downSeq) hblind (fun _ _ _ _ _ _ _ => rfl)).trans ?_
    refine (congrArg LaneSt.downSeq (lane_setLane_same _ _ _)).trans ?_
    exact congrArg some (lockGone_keeps (p := fun t => t.fault.seq) (fun _ _ _ _ _ _ _ => rfl) s l)
  · refine (congrArg (BitVec.getLsbD · 1) ?_).trans (hevent (by omega))
    refine (hcycle (fun t => t.rd Reg.LN_EVENT) (blind_rd (by decide) 0 0 0) (fun _ _ => rfl)).trans ?_
    exact (hdown (fun t => t.rd Reg.LN_EVENT) (macBlind_rd (by decide) 0 0 0) (blind_rd (by decide) 0 0 0)).trans (hv 0 0 (by decide))

end

/-! ### Activity (R490) -/

theorem laneActivity_shows {s : State} {l : Fin 32} (hon : s.on .LN = true) {millivolts heldNs : Nat} (hsees : 80 < millivolts)
    (hheld : 10000 ≤ heldNs) (hdeep : s.laneState l = 2) (hwake : s.bit Reg.PM_WAKE_LANES l = false) :
    ∃ t, exec (.laneActivity l millivolts heldNs) s = .next t ∧ t.bit Reg.LN_EVENT 2 = true ∧
      RegsKept s t [Reg.LN_LANE_STATUS.at l 0 0, Reg.LN_EVENT.addr] ∧ MemKept s t := by
  let s1 := (s.setF Reg.LN_LANE_STATUS 1 2 3 l).raise Reg.LN_EVENT 2
  have hwake1 : s1.bit Reg.PM_WAKE_LANES l = false :=
    (bit_setBit_apart (r := Reg.LN_EVENT) (by decide) _ _ _ _ _ _ _ _ _ _).trans
      ((bit_setF_apart (r := Reg.LN_LANE_STATUS) (by decide) _ _ _ _ _ _ _ _ _ _ _).trans hwake)
  have hexec : exec (.laneActivity l millivolts heldNs) s = .next s1 := by
    refine congrArg Host.Outcome.next ((if_pos ⟨hsees, hheld, .inr hdeep⟩).trans ?_)
    rw [hon]
    change s1.when (s1.bit Reg.PM_WAKE_LANES l && !s1.bit Reg.PM_WAKE_PATTERN l) _ = s1
    rw [hwake1]
    rfl
  refine ⟨s1, hexec, State.bit_setBit_same _ _ 2 true _ _ _ (by decide), ?_, memKept_of rfl⟩
  exact (regsKept_setBit (by simp)).2 ((regsKept_setF (by simp)).2 (regsKept_refl s _))

/-! ### Link resets (R491) -/

/-- A write of LN_LINK_RESET that names one lane resets the link of its owner. -/
theorem linkReset_owner {s : State} {l : Fin 32} {w : Writer} (htakes : s.takes w Reg.LN_LINK_RESET 0 0 0 = true) :
    exec (.linkReset w (BitVec.ofNat 32 (2 ^ l.val))) s = .next (s.ownerReset l) := by
  have hbit (x : Nat) (hx : x < 32) : (BitVec.ofNat 32 (2 ^ l.val)).getLsbD x = decide (l.val = x) := by
    rw [BitVec.getLsbD_ofNat, Nat.testBit_two_pow]
    simp [hx]
  have hfirst (k : Nat) (hk : k = l.val) : ((upTo k).any (fun x => (BitVec.ofNat 32 (2 ^ l.val)).getLsbD x &&
      decide (s.laneOwner x = s.laneOwner k) && decide (s.laneOwnerId x = s.laneOwnerId k))) = false := by
    refine List.any_eq_false.2 (fun x hx => ?_)
    have hlt : x < k := List.mem_range.1 hx
    rw [hbit x (by omega), decide_eq_false (by omega)]
    simp
  have hnamed : (upTo 32).filter (fun k => (BitVec.ofNat 32 (2 ^ l.val)).getLsbD k && !(upTo k).any (fun x =>
      (BitVec.ofNat 32 (2 ^ l.val)).getLsbD x && decide (s.laneOwner x = s.laneOwner k) &&
        decide (s.laneOwnerId x = s.laneOwnerId k))) = [l.val] := by
    have hone : ∀ l : Fin 32, (upTo 32).filter (fun k => decide (l.val = k)) = [l.val] := by decide
    rw [← hone l]
    refine List.filter_congr (fun k hk => ?_)
    rw [hbit k (List.mem_range.1 hk)]
    by_cases h : l.val = k
    · rw [hfirst k h.symm]
      simp
    · simp [h]
  refine congrArg Host.Outcome.next ((takes_gate htakes _).trans ?_)
  dsimp only
  rw [hnamed]
  rfl

/-- The status word of a lane of a link under reset. -/
def resetWord (v : Word) : Word := setFld (setFld (setFld v 0 2 0) 3 1 0) 6 2 2

/-- A lane of a link under reset trains again. -/
def State.laneRetrain (s : State) (l : Nat) : State :=
  (s.wr Reg.LN_LANE_STATUS (resetWord (s.rd Reg.LN_LANE_STATUS l)) l).setLane l { s.lane l with training := some s.raw }

theorem laneRetrain_other {s : State} {l x : Nat} (hl : l < 32) (hx : x < 32) (h : l ≠ x) :
    (s.laneRetrain x).laneState l = s.laneState l ∧ (s.laneRetrain x).lane l = s.lane l :=
  ⟨State.f_wr_other _ _ _ _ _ _ _ _ _ _ _ _ (by simp only [RegRow.at, Reg.LN_LANE_STATUS]; omega),
    (State.lane_setLane _ _ _ _).trans (if_neg h)⟩

theorem laneRetrain_shows (s : State) (l : Nat) :
    (s.laneRetrain l).laneState l = 2 ∧ ((s.laneRetrain l).lane l).training = some s.raw := by
  refine ⟨?_, congrArg LaneSt.training (lane_setLane_same _ _ _)⟩
  refine (congrArg (fld · 6 2) (State.rd_wr_same _ _ _ _ _ _)).trans ?_
  exact fld_setFld_same _ _ _ _ (by decide)

/-- What a reset leaves of a link. -/
def LinkSt.dropped (x : LinkSt) (now : DWord) : LinkSt :=
  { x with swap := none, spareUsed := false, replays := 0, nakSent := false, retrain := some now, resync := false }

/-- The lanes of a link under reset train again. -/
def State.lanesRetrain (s : State) (j : Nat) : State :=
  (s.setLink j ((s.link j).dropped s.raw)).forAll (upTo 4) (fun k s => s.laneRetrain (16 + 4 * j + k))

theorem fabLinkReset_eq (s : State) (j : Nat) : s.fabLinkReset j =
    ((((s.lanesRetrain j).setF Reg.FAB_LINK_STATUS 16 4 0 j).setLinkState j 4).syncLink j).bump Reg.FAB_LINK_CNT j 4 := rfl

theorem lanesRetrain_lane (s : State) (j k : Fin 4) : (s.lanesRetrain j).laneState (16 + 4 * j.val + k.val) = 2 ∧
    ((s.lanesRetrain j).lane (16 + 4 * j.val + k.val)).training = some s.raw := by
  have hown (t : State) (ht : t.raw = s.raw) : (t.laneRetrain (16 + 4 * j.val + k.val)).laneState (16 + 4 * j.val + k.val) = 2 ∧
      ((t.laneRetrain (16 + 4 * j.val + k.val)).lane (16 + 4 * j.val + k.val)).training = some s.raw := by
    rw [← ht]
    exact laneRetrain_shows t _
  refine forAll_reaches (Q := fun t => t.raw = s.raw) (P := fun t => t.laneState (16 + 4 * j.val + k.val) = 2 ∧
    (t.lane (16 + 4 * j.val + k.val)).training = some s.raw) (fun k t => t.laneRetrain (16 + 4 * j.val + k))
    (a := k.val) (List.mem_range.2 k.isLt) (fun _ _ ht => ht) ?_ ?_ _ rfl
  · exact hown
  · intro b hb t ht hP
    by_cases h : b = k.val
    · rw [h]
      exact hown t ht
    · have hb4 : b < 4 := List.mem_range.1 hb
      obtain ⟨hstate, hlane⟩ := laneRetrain_other (s := t) (l := 16 + 4 * j.val + k.val) (x := 16 + 4 * j.val + b) (by omega) (by omega)
        (by omega)
      rw [hstate, hlane]
      exact hP

theorem fabLinkReset_shows (s : State) (j : Fin 4) : (s.fabLinkReset j).linkState j = 4 ∧
    (∀ k : Fin 4, (s.fabLinkReset j).laneState (16 + 4 * j.val + k.val) = 2 ∧
      ((s.fabLinkReset j).lane (16 + 4 * j.val + k.val)).training = some s.raw) ∧
    (s.fabLinkReset j).link j = (s.link j).dropped s.raw ∧ (s.fabLinkReset j).mem = s.mem := by
  have hkeeps {γ : Type} (g : State → γ) (hw : Blind [Reg.FAB_LINK_STATUS, Reg.FAB_LINK_CNT] g) :
      g (s.fabLinkReset j) = g (s.lanesRetrain j) := by
    rw [fabLinkReset_eq]
    exact (hw.bump (r := Reg.FAB_LINK_CNT) (by simp) _ _ _).trans ((hw.setF (r := Reg.FAB_LINK_STATUS) (by simp) _ _ _ _ _ _ _).trans
      ((hw.setF (r := Reg.FAB_LINK_STATUS) (by simp) _ _ _ _ _ _ _).trans (hw.setF (r := Reg.FAB_LINK_STATUS) (by simp) _ _ _ _ _ _ _)))
  have hlanes {γ : Type} (g : State → γ) (hw : Blind [Reg.LN_LANE_STATUS] g) (hl : ∀ (s : State) x, g { s with lanes := x } = g s) :
      g (s.lanesRetrain j) = g (s.setLink j ((s.link j).dropped s.raw)) :=
    State.forAll_keeps g _ (fun _ _ => (hl _ _).trans (hw _ _ _ _ _ _ (by simp))) _ _
  refine ⟨?_, fun k => ?_, ?_, ?_⟩
  · rw [fabLinkReset_eq]
    refine (f_bumpBy_apart (r := Reg.FAB_LINK_CNT) (by decide) _ _ _ _ _ _ _ _ _).trans ((syncLink_f _ j (by decide)).trans ?_)
    exact State.f_setF_same _ _ _ _ _ _ _ _ (by decide)
  · obtain ⟨hstate, htraining⟩ := lanesRetrain_lane s j k
    exact ⟨(hkeeps (fun t => t.laneState (16 + 4 * j.val + k.val)) (blind_f (by decide) 6 2 _ 0 0)).trans hstate,
      (hkeeps (fun t => (t.lane (16 + 4 * j.val + k.val)).training) (fun _ _ _ _ _ _ _ => rfl)).trans htraining⟩
  · refine (hkeeps (fun t => t.link j) (fun _ _ _ _ _ _ _ => rfl)).trans ?_
    refine (hlanes (fun t => t.link j) (fun _ _ _ _ _ _ _ => rfl) (fun _ _ => rfl)).trans ?_
    exact (State.link_setLink _ _ _ _).trans (if_pos rfl)
  · exact (hkeeps State.mem (fun _ _ _ _ _ _ _ => rfl)).trans (hlanes State.mem (fun _ _ _ _ _ _ _ => rfl) (fun _ _ => rfl))

theorem linkReset_resets {s : State} {l : Fin 32} {w : Writer} (htakes : s.takes w Reg.LN_LINK_RESET 0 0 0 = true) {j : Fin 4}
    (howner : s.laneOwner l = 3) (hid : s.laneOwnerId l = j.val) :
    ∃ t, exec (.linkReset w (BitVec.ofNat 32 (2 ^ l.val))) s = .next t ∧ t.linkState j = 4 ∧
      (∀ k : Fin 4, t.laneState (16 + 4 * j.val + k.val) = 2 ∧ (t.lane (16 + 4 * j.val + k.val)).training = some s.raw) ∧
      (t.link j).replay = (s.link j).replay ∧ (t.link j).txSeq = (s.link j).txSeq ∧ (t.link j).rxSeq = (s.link j).rxSeq ∧
      MemKept s t := by
  obtain ⟨hstate, hlanes, hlink, hmem⟩ := fabLinkReset_shows s j
  refine ⟨s.fabLinkReset j, ?_, hstate, hlanes, ?_, ?_, ?_, memKept_of hmem⟩
  · rw [linkReset_owner htakes, ownerReset_link howner hid]
  all_goals rw [hlink]; rfl

/-- Settles O52: the end of training by `trainingDone_eq`, the loss of lock by `lockLost_eq`, a link reset by `linkReset_owner`. -/
theorem lanesTrainLockAndReset : Obligations.LanesTrainLockAndReset := by
  unfold Obligations.LanesTrainLockAndReset
  refine fun s l hon => ⟨fun t0 peer precode htraining hcage => ⟨trainingDone_mac hon htraining hcage peer precode, ?_, ?_⟩,
    fun t0 => trainTimeout_shows hon, laneUp_shows hon, fun heldNs hlock => ⟨laneLockLoss_counts hon hlock, ?_⟩,
    fun millivolts heldNs => laneActivity_shows hon, fun w htakes => ⟨fun j => linkReset_resets htakes, fun howner => ?_⟩⟩
  · exact fun j howner hid => trainingDone_wrong hon htraining hcage howner hid
  · exact fun j howner hid => trainingDone_up hon htraining hcage howner hid
  · exact fun m howner hid => laneLockLoss_mac hon hlock howner hid heldNs
  · exact ⟨s, by rw [linkReset_owner htakes, ownerReset_none howner], rfl, rfl, memKept_of rfl⟩

end Sys2Proof.Machine
end

section
/-!
PRBS generators and checkers (R492 to R494) and Ethernet frames (R495 to R498).
-/
namespace Sys2Proof.Machine

open Sys2Proof

/-! ### PRBS (R492 to R494) -/

section
variable {s : State} {l : Fin 32} (hon : s.on .LN = true)

section
variable {w : Writer} {v : Word} (htakes : s.takes w Reg.LN_PRBS_CFG l 0 0 = true)
include htakes

theorem prbsInjOne_injects (hgen : patternOk (s.f Reg.LN_LANE_CFG 0 2 l) (fld v 8 4) = true)
    (hcheck : patternOk (s.f Reg.LN_LANE_CFG 0 2 l) (fld v 12 4) = true) (howner : s.laneOwner l = 0) (hon : v.getLsbD 0 = true)
    (hone : v.getLsbD 20 = true) :
    ∃ t, exec (.prbsInjOne w l v) s = .next t ∧ t.rd Reg.LN_PRBS_CFG l = v &&& 0xFFF03 ∧
      (t.lane l).flips = (s.lane l).flips + 1 ∧
      RegsKept s t [Reg.LN_PRBS_CFG.at l 0 0, Reg.LN_LANE_STATUS.at l 0 0] ∧ MemKept s t := by
  let v' := v &&& 0xFFF03
  let s1 := s.wr Reg.LN_PRBS_CFG v' l
  let s2 := s1.when (!v'.getLsbD 1) (fun s => s.setBit Reg.LN_LANE_STATUS 5 false l)
  let s3 := s2.when (!v'.getLsbD 0 || decide (fld v' 16 4 = 0)) (fun s => s.setLane l { s.lane l with genBits := 0 })
  have hon' : v'.getLsbD 0 = true := by
    rw [BitVec.getLsbD_and, hon]
    decide
  have hexec : exec (.prbsInjOne w l v) s = .next (s3.setLane l { s3.lane l with flips := (s3.lane l).flips + 1 }) := by
    refine congrArg Host.Outcome.next ((takes_gate htakes _).trans ((if_neg (by simp [hgen, hcheck])).trans ?_))
    rw [howner]
    exact if_pos (by rw [hone]; exact hon')
  have hs2 {γ : Type} (g : State → γ) (hg : Blind [Reg.LN_LANE_STATUS] g) : g s2 = g s1 :=
    State.when_keeps g s1 _ (fun s => s.setBit Reg.LN_LANE_STATUS 5 false l) (hg.setBit (by simp) _ _ _ _ _ _)
  have hs3 {γ : Type} (g : State → γ) (hg : ∀ (t : State) a, g (t.setLane l { t.lane l with genBits := a }) = g t) : g s3 = g s2 :=
    State.when_keeps g s2 _ (fun s => s.setLane l { s.lane l with genBits := 0 }) (hg s2 0)
  refine ⟨_, hexec, ?_, ?_, ?_, memKept_of ?_⟩
  · exact (hs3 (fun t => t.rd Reg.LN_PRBS_CFG l) (fun _ _ => rfl)).trans
      ((hs2 (fun t => t.rd Reg.LN_PRBS_CFG l) (blind_rd (by decide) _ 0 0)).trans (State.rd_wr_same _ _ _ _ _ _))
  · rw [lane_setLane_same]
    refine congrArg (· + 1) ((hs3 (fun t => (t.lane l).flips) (fun t a => ?_)).trans (hs2 (fun t => (t.lane l).flips)
      (fun _ _ _ _ _ _ _ => rfl)))
    rw [lane_setLane_same]
  · have h1 : RegsKept s s1 [Reg.LN_PRBS_CFG.at l 0 0, Reg.LN_LANE_STATUS.at l 0 0] := (regsKept_wr_iff (by simp)).2 (regsKept_refl s _)
    have h2 : RegsKept s s2 [Reg.LN_PRBS_CFG.at l 0 0, Reg.LN_LANE_STATUS.at l 0 0] := by
      refine regsKept_when.2 ?_
      split
      · exact (regsKept_setBit (by simp)).2 h1
      · exact h1
    exact regsKept_of_regs (t := s2) (hs3 State.regs (fun _ _ => rfl)) h2
  · exact (hs3 State.mem (fun _ _ => rfl)).trans (hs2 State.mem (fun _ _ _ _ _ _ _ => rfl))

theorem prbsInjOne_refuses (hgen : patternOk (s.f Reg.LN_LANE_CFG 0 2 l) (fld v 8 4) = false) :
    ∃ t, exec (.prbsInjOne w l v) s = .next t ∧ t.refusedWith S_INVALID_CONFIG (Reg.LN_PRBS_CFG.at l 0 0) ∧
      t.rd Reg.LN_PRBS_CFG l = s.rd Reg.LN_PRBS_CFG l ∧ t.lanes = s.lanes ∧ MemKept s t := by
  have hexec : exec (.prbsInjOne w l v) s = .next (s.refuse S_INVALID_CONFIG (Reg.LN_PRBS_CFG.at l 0 0)) :=
    congrArg Host.Outcome.next ((takes_gate htakes _).trans (if_pos (by simp [hgen])))
  have haddr : Reg.LN_PRBS_CFG.at l 0 0 < 2 ^ 26 := by
    simp only [RegRow.at, Reg.LN_PRBS_CFG]
    omega
  exact ⟨_, hexec, refuse_refusedWith _ (by decide) haddr,
    refuse_blind (p := fun t => t.rd Reg.LN_PRBS_CFG l) (blind_rd (by decide) l 0 0) s _ _,
    refuse_blind (p := State.lanes) (fun _ _ _ _ _ _ _ => rfl) s _ _,
    memKept_of (refuse_blind (p := State.mem) (fun _ _ _ _ _ _ _ => rfl) s _ _)⟩

end

include hon

section
variable (hcheck : s.bit Reg.LN_PRBS_CFG 1 l = true)
include hcheck

theorem checkerOn_of : s.checkerOn l = true := by
  rw [State.checkerOn, hon, hcheck]
  rfl

theorem prbsCheckerLock_locks {n : Nat} (hn : 64 ≤ n) :
    ∃ t, exec (.prbsCheckerLock l n) s = .next t ∧ t.bit Reg.LN_LANE_STATUS 5 l = true ∧
      RegsKept s t [Reg.LN_LANE_STATUS.at l 0 0] ∧ t.lanes = s.lanes ∧ MemKept s t :=
  ⟨_, next_if_pos ⟨checkerOn_of hon hcheck, hn⟩, State.bit_setBit_same _ _ 5 true _ _ _ (by decide),
    (regsKept_setBit (by simp)).2 (regsKept_refl s _), rfl, memKept_of rfl⟩

theorem prbsCheckerResync_unlocks {errors bits : Nat} (hlocked : s.bit Reg.LN_LANE_STATUS 5 l = true) (herrors : 16 ≤ errors)
    (hbits : bits ≤ 64) :
    ∃ t, exec (.prbsCheckerResync l errors bits) s = .next t ∧ t.bit Reg.LN_LANE_STATUS 5 l = false ∧
      (t.rd Reg.LN_LANE_CNT l 1).toNat = min ((s.rd Reg.LN_LANE_CNT l 1).toNat + 1) 0xFFFFFFFF ∧
      RegsKept s t [Reg.LN_LANE_STATUS.at l 0 0, Reg.LN_LANE_CNT.at l 1 0] ∧ t.lanes = s.lanes ∧ MemKept s t := by
  refine ⟨_, next_if_pos ⟨checkerOn_of hon hcheck, hlocked, herrors, hbits⟩, ?_, ?_, ?_, rfl, memKept_of rfl⟩
  · exact (bit_bumpBy_apart (r := Reg.LN_LANE_CNT) (by decide) _ _ _ _ _ _ _ _).trans (State.bit_setBit_same _ _ 5 false _ _ _ (by decide))
  · refine (rd_bumpBy_same _ _ _ _ _).trans ?_
    rw [rd_setBit_apart (r := Reg.LN_LANE_STATUS) (by decide)]
  · exact (regsKept_bumpBy (by simp)).2 ((regsKept_setBit (by simp)).2 (regsKept_refl s _))

theorem prbsBitError_counts (hlocked : s.bit Reg.LN_LANE_STATUS 5 l = true) :
    ∃ t, exec (.prbsBitError l) s = .next t ∧ t.bit Reg.LN_EVENT 3 = true ∧
      (t.rd Reg.LN_LANE_CNT l 0).toNat = min ((s.rd Reg.LN_LANE_CNT l 0).toNat + 1) 0xFFFFFFFF ∧
      RegsKept s t [Reg.LN_EVENT.addr, Reg.LN_LANE_CNT.at l 0 0] ∧ t.lanes = s.lanes ∧ MemKept s t := by
  refine ⟨_, next_if_pos ⟨checkerOn_of hon hcheck, hlocked⟩, State.bit_setBit_same _ _ 3 true _ _ _ (by decide), ?_, ?_, rfl, memKept_of rfl⟩
  · exact (congrArg BitVec.toNat (rd_setBit_apart (r := Reg.LN_EVENT) (by decide) _ _ _ _ _ _ _ _ _)).trans (rd_bumpBy_same _ _ _ _ _)
  · exact (regsKept_setBit (by simp)).2 ((regsKept_bumpBy (by simp)).2 (regsKept_refl s _))

end

theorem prbsRateInjection_injects {bits : Nat} (hgen : s.bit Reg.LN_PRBS_CFG 0 l = true) (hrate : s.f Reg.LN_PRBS_CFG 16 4 l ≠ 0) :
    ∃ t, exec (.prbsRateInjection l bits) s = .next t ∧
      (t.lane l).flips = (s.lane l).flips + ((s.lane l).genBits + bits) / 2 ^ (s.f Reg.LN_PRBS_CFG 16 4 l + 10) ∧
      (t.lane l).genBits = ((s.lane l).genBits + bits) % 2 ^ (s.f Reg.LN_PRBS_CFG 16 4 l + 10) ∧
      t.regs = s.regs ∧ MemKept s t := by
  refine ⟨_, next_if_pos ⟨hon, hgen, hrate⟩, ?_, ?_, rfl, memKept_of rfl⟩
  all_goals rw [lane_setLane_same]

end

/-! ### Frames received (R496, R497) -/

theorem udpDest_blind (m : Nat) (f : EthFrame) : Blind [Reg.LN_MAC_CNT] (fun s => s.udpDest m f) := by
  intro s r v i j k hr
  have hr : r = Reg.LN_MAC_CNT := List.mem_singleton.1 hr
  subst hr
  have hon (b : Block) : (s.wr Reg.LN_MAC_CNT v i j k).on b = s.on b := on_congr (s := s) (t := s.wr Reg.LN_MAC_CNT v i j k) rfl
    (rd_wr_apart (by decide) _ _ _ _ _ _ _ _) b
  simp (disch := decide) only [State.udpDest, State.camEnabled, State.camGev, State.camMac, State.decOn, State.decMac,
    State.grpRemote, hon, rd_wr_apart, bit_wr_apart, f_wr_apart]
  rfl

theorem frameDest_blind (m : Nat) (f : EthFrame) : Blind [Reg.LN_MAC_CNT] (fun s => s.frameDest m f) := by
  intro s r v i j k hr
  have hudp := udpDest_blind m f s r v i j k hr
  have haddr := blind_rd (rows := [Reg.LN_MAC_CNT]) (r := Reg.LN_MAC_IPV4) (by decide) m 0 0 s r v i j k hr
  dsimp only at hudp haddr ⊢
  rw [State.frameDest, State.frameDest, hudp, haddr]

section
variable {s : State} {m : Fin 8} {f : EthFrame} (hup : s.macUp m = true)

theorem macCnt_counts {k : Nat} (hk : k ≠ 0) (hk8 : k < 8) : let t := (s.bump Reg.LN_MAC_CNT m 0).bump Reg.LN_MAC_CNT m k
    (t.rd Reg.LN_MAC_CNT m k).toNat = min ((s.rd Reg.LN_MAC_CNT m k).toNat + 1) 0xFFFFFFFF ∧
      RegsKept s t [Reg.LN_MAC_CNT.at m 0 0, Reg.LN_MAC_CNT.at m k 0] := by
  refine ⟨(rd_bumpBy_same _ _ _ _ _).trans ?_, (regsKept_bumpBy (by simp)).2 ((regsKept_bumpBy (by simp)).2 (regsKept_refl s _))⟩
  have hother : (s.bump Reg.LN_MAC_CNT m 0).rd Reg.LN_MAC_CNT m k = s.rd Reg.LN_MAC_CNT m k :=
    State.rd_wr_other _ _ _ _ _ _ _ _ _ _ (by simp only [RegRow.at, Reg.LN_MAC_CNT]; omega)
  rw [hother]

include hup

theorem ethFrameReceive_badFcs (hfcs : f.fcsOk = false) :
    ∃ t, exec (.ethFrameReceive m f) s = .next t ∧ t.macs = s.macs ∧
      (t.rd Reg.LN_MAC_CNT m 2).toNat = min ((s.rd Reg.LN_MAC_CNT m 2).toNat + 1) 0xFFFFFFFF ∧
      RegsKept s t [Reg.LN_MAC_CNT.at m 0 0, Reg.LN_MAC_CNT.at m 2 0] ∧ MemKept s t := by
  obtain ⟨hcnt, hregs⟩ := macCnt_counts (s := s) (m := m) (k := 2) (by decide) (by decide)
  exact ⟨_, congrArg Host.Outcome.next ((if_pos hup).trans (if_pos (by simp [hfcs]))), rfl, hcnt, hregs, memKept_of rfl⟩

section
variable (hfcs : f.fcsOk = true)
include hfcs

theorem ethFrameReceive_badLen (hlen : f.len < 64 ∨ 9216 < f.len) :
    ∃ t, exec (.ethFrameReceive m f) s = .next t ∧ t.macs = s.macs ∧
      (t.rd Reg.LN_MAC_CNT m 3).toNat = min ((s.rd Reg.LN_MAC_CNT m 3).toNat + 1) 0xFFFFFFFF ∧
      RegsKept s t [Reg.LN_MAC_CNT.at m 0 0, Reg.LN_MAC_CNT.at m 3 0] ∧ MemKept s t := by
  obtain ⟨hcnt, hregs⟩ := macCnt_counts (s := s) (m := m) (k := 3) (by decide) (by decide)
  exact ⟨_, congrArg Host.Outcome.next ((if_pos hup).trans ((if_neg (by simp [hfcs])).trans (if_pos hlen))), rfl, hcnt, hregs,
    memKept_of rfl⟩

section
variable (hmin : 64 ≤ f.len) (hmax : f.len ≤ 9216) (hpause : f.pause = false) (hv6 : f.etherType ≠ 0x86DD)
include hmin hmax hpause hv6

/-- A good frame goes on as its destination says. -/
theorem ethFrameReceive_good : exec (.ethFrameReceive m f) s = .next (match s.frameDest m f with
    | some .cp => (s.bump Reg.LN_MAC_CNT m 0).frameToCp m f
    | some d => s.bump Reg.LN_MAC_CNT m 0 |>.setMac m { s.mac m with lastDest := some d }
    | none => (s.bump Reg.LN_MAC_CNT m 0).bump Reg.LN_MAC_CNT m 5) := by
  refine congrArg Host.Outcome.next ((if_pos hup).trans ((if_neg (by simp [hfcs])).trans ((if_neg (by omega)).trans
    ((if_neg (by simp [hpause])).trans ((if_neg hv6).trans ?_)))))
  have hdest := (frameDest_blind m f).bump (r := Reg.LN_MAC_CNT) (by simp) s m 0
  rw [hdest]
  rfl

theorem ethFrameReceive_classified {d : FrameDest} (hdest : s.frameDest m f = some d) (hcp : d ≠ .cp) :
    ∃ t, exec (.ethFrameReceive m f) s = .next t ∧ (t.mac m).lastDest = some d ∧ (t.mac m).txq = (s.mac m).txq ∧
      RegsKept s t [Reg.LN_MAC_CNT.at m 0 0] ∧ MemKept s t := by
  have hexec : exec (.ethFrameReceive m f) s =
      .next ((s.bump Reg.LN_MAC_CNT m 0).setMac m { s.mac m with lastDest := some d }) := by
    rw [ethFrameReceive_good hup hfcs hmin hmax hpause hv6, hdest]
    cases d with
    | cp => exact absurd rfl hcp
    | _ => rfl
  have hmac : ((s.bump Reg.LN_MAC_CNT m 0).setMac m { s.mac m with lastDest := some d }).mac m = { s.mac m with lastDest := some d } :=
    (State.mac_setMac _ _ _ _).trans (if_pos rfl)
  refine ⟨_, hexec, by rw [hmac], by rw [hmac], ?_, memKept_of rfl⟩
  exact regsKept_of_regs (t := s.bump Reg.LN_MAC_CNT m 0) rfl ((regsKept_bumpBy (by simp)).2 (regsKept_refl s _))

theorem ethFrameReceive_unknown (hdest : s.frameDest m f = none) :
    ∃ t, exec (.ethFrameReceive m f) s = .next t ∧ t.macs = s.macs ∧
      (t.rd Reg.LN_MAC_CNT m 5).toNat = min ((s.rd Reg.LN_MAC_CNT m 5).toNat + 1) 0xFFFFFFFF ∧
      RegsKept s t [Reg.LN_MAC_CNT.at m 0 0, Reg.LN_MAC_CNT.at m 5 0] ∧ MemKept s t := by
  obtain ⟨hcnt, hregs⟩ := macCnt_counts (s := s) (m := m) (k := 5) (by decide) (by decide)
  have hexec := ethFrameReceive_good hup hfcs hmin hmax hpause hv6
  rw [hdest] at hexec
  exact ⟨_, hexec, rfl, hcnt, hregs, memKept_of rfl⟩

end
end

/-! ### Frames sent (R498) -/

theorem ethFrameTransmit_sends {g : TxFrame} {rest : List TxFrame} (htake : takeFrame s.maySend (s.mac m).txq = some (g, rest))
    (htag : g.tag = .cp) :
    ∃ t, exec (.ethFrameTransmit m) s = .next t ∧ (t.mac m).txq = rest ∧ (∀ n, n ≠ m.val → t.mac n = s.mac n) ∧
      RegsKept s t [Reg.LN_MAC_CNT.at m 1 0] ∧ MemKept s t := by
  have hexec : exec (.ethFrameTransmit m) s =
      .next ((s.setMac m { s.mac m with txq := rest }).bump Reg.LN_MAC_CNT m 1) := by
    refine congrArg Host.Outcome.next ((if_pos hup).trans ?_)
    rw [htake]
    dsimp only
    rw [htag]
  refine ⟨_, hexec, ?_, fun n hn => (State.mac_setMac _ _ _ _).trans (if_neg hn), ?_, memKept_of rfl⟩
  · exact congrArg MacSt.txq ((State.mac_setMac _ _ _ _).trans (if_pos rfl))
  · exact (regsKept_bumpBy (by simp)).2 (regsKept_of_regs (t := s) rfl (regsKept_refl s _))

end

/-! ### A link comes up (R497) -/

theorem macSend_grows {s : State} {m n : Nat} {f g : TxFrame} (h : f ∈ (s.mac m).txq) : f ∈ ((s.macSend n g).mac m).txq := by
  rw [State.macSend, State.mac_setMac]
  split
  · next hm => exact List.mem_append_left _ (hm ▸ h)
  · exact h

/-- The CP's requests for the banks behind a MAC. -/
def State.askBanks (s : State) (m : Nat) : State :=
  s.forAll (upTo 16) (fun g s =>
    s.when (s.on .WT && s.grpRemote g && decide (s.f Reg.WT_GRP_CFG 1 3 g = m)) (fun s => s.bankArp g))

theorem askBanks_keeps {β : Type} {p : State → β} (hp : ∀ (s : State) x, p { s with macs := x } = p s) (s : State) (m : Nat) :
    p (s.askBanks m) = p s :=
  State.forAll_keeps p _ (fun g t => State.when_keeps p t _ (fun s => s.bankArp g) (hp _ _)) s _

theorem askBanks_grows {s : State} {m : Nat} {f : TxFrame} (h : f ∈ (s.mac m).txq) : f ∈ ((s.askBanks m).mac m).txq := by
  refine List.foldlRecOn (motive := fun t : State => f ∈ (t.mac m).txq) _ _ h (fun t ht g _ => ?_)
  dsimp only [State.when]
  split
  · exact macSend_grows ht
  · exact ht

theorem macLinkUp_rises {s : State} {m : Fin 8} (henabled : s.macEnabled m = true) (hdown : s.macUp m = false)
    (hready : ∀ l, l ∈ s.macLanes m → s.laneState l = 0 ∧ s.laneLock l = true ∧
      (s.bit Reg.LN_LANE_CFG 3 l = true → s.bit Reg.LN_LANE_STATUS 3 l = true)) :
    ∃ t, exec (.macLinkUp m) s = .next t ∧ t.bit Reg.LN_MAC_CFG 31 m = true ∧
      { cls := 3, tag := .cp, data := [] } ∈ (t.mac m).txq ∧ RegsKept s t [Reg.LN_MAC_CFG.at m 0 0] ∧ MemKept s t := by
  let s1 := (s.setBit Reg.LN_MAC_CFG 31 true m).macSend m { cls := 3, tag := .cp, data := [] }
  have hlanes : ((s.macLanes m).all (fun l => decide (s.laneState l = 0) && s.laneLock l &&
      (!s.bit Reg.LN_LANE_CFG 3 l || s.bit Reg.LN_LANE_STATUS 3 l))) = true := by
    refine List.all_eq_true.2 (fun l hl => ?_)
    obtain ⟨hstate, hlock, htrained⟩ := hready l hl
    rw [hstate, hlock]
    cases htrains : s.bit Reg.LN_LANE_CFG 3 l with
    | false => rfl
    | true => rw [htrained htrains]; rfl
  have hfirst : { cls := 3, tag := .cp, data := [] } ∈ (s1.mac m).txq := by
    change _ ∈ (((s.setBit Reg.LN_MAC_CFG 31 true m).setMac m _).mac m).txq
    rw [State.mac_setMac, if_pos rfl]
    simp
  have hexec : exec (.macLinkUp m) s = .next (s1.askBanks m) := next_if_pos ⟨henabled, by simp [hdown], hlanes⟩
  refine ⟨_, hexec, ?_, askBanks_grows hfirst, ?_, memKept_of (askBanks_keeps (p := State.mem) (fun _ _ => rfl) s1 m)⟩
  · refine (askBanks_keeps (p := fun t => t.bit Reg.LN_MAC_CFG 31 m) (fun _ _ => rfl) s1 m).trans ?_
    exact State.bit_setBit_same _ _ 31 true _ _ _ (by decide)
  · refine regsKept_of_regs (t := s.setBit Reg.LN_MAC_CFG 31 true m) (askBanks_keeps (p := State.regs) (fun _ _ => rfl) s1 m) ?_
    exact (regsKept_setBit (by simp)).2 (regsKept_refl s _)

/-- Settles O53: the checker by `checkerOn_of`, a good frame by `ethFrameReceive_good`, a link by `askBanks_grows`. -/
theorem prbsAndEthernetFrames : Obligations.PrbsAndEthernetFrames := by
  unfold Obligations.PrbsAndEthernetFrames
  refine ⟨fun s l hon => ⟨fun w v htakes => ⟨prbsInjOne_injects htakes, prbsInjOne_refuses htakes⟩, fun hcheck =>
      ⟨fun n => prbsCheckerLock_locks hon hcheck, fun errors bits => prbsCheckerResync_unlocks hon hcheck, prbsBitError_counts hon hcheck⟩,
      fun bits => prbsRateInjection_injects hon⟩,
    fun s m => ⟨fun f hup => ⟨ethFrameReceive_badFcs hup, ethFrameReceive_badLen hup, fun hfcs hmin hmax hpause hv6 =>
      ⟨fun d => ethFrameReceive_classified hup hfcs hmin hmax hpause hv6, ethFrameReceive_unknown hup hfcs hmin hmax hpause hv6⟩⟩,
      fun f rest hup => ethFrameTransmit_sends hup, macLinkUp_rises⟩⟩

end Sys2Proof.Machine
end

section
/-!
Kalinamo links (R499 to R511): flits received, replay, acknowledgement, loss and swap of lanes.
-/
namespace Sys2Proof.Machine

open Sys2Proof

variable {β : Type} {p : State → β}

/-! ### Layers of a link -/

theorem link_setLink_same (s : State) (j : Nat) (x : LinkSt) : (s.setLink j x).link j = x :=
  (State.link_setLink _ _ _ _).trans (if_pos rfl)

/-- A flit that goes out is seen in the counter of flits and in the times of the link. -/
theorem flitOut_sees (hw : Blind [Reg.FAB_LINK_CNT] p)
    (hl : ∀ (s : State) j a b c, p (s.setLink j { s.link j with ackAt := a, rxCount := b, inject := c }) = p s) (s : State) (j : Nat)
    (sequenced : Bool) : p (s.flitOut j sequenced) = p s :=
  (hw.bump (r := Reg.FAB_LINK_CNT) (by simp) _ _ _).trans (hl _ _ _ _ _)

theorem controlOut_sees (hw : Blind [Reg.FAB_LINK_CNT] p)
    (hl : ∀ (s : State) j a b c, p (s.setLink j { s.link j with ackAt := a, rxCount := b, inject := c }) = p s) (s : State) (j : Nat) :
    p (s.controlOut j) = p s := flitOut_sees hw hl s j false

theorem controlOut_link (s : State) (j : Nat) :
    (s.controlOut j).link j = { s.link j with ackAt := s.raw, rxCount := 0, inject := (s.link j).inject } := flitOut_link s j false

theorem controlOut_regsKept {s t : State} {j : Nat} {l : List Nat} (hm : Reg.FAB_LINK_CNT.at j 0 0 ∈ l) :
    RegsKept s (t.controlOut j) l ↔ RegsKept s t l := by
  unfold State.controlOut State.flitOut
  exact (regsKept_bumpBy hm).trans Iff.rfl

theorem linkCnt_bumpBy_other (s : State) (j : Fin 4) (n : Nat) {k k' : Nat} (hk : k < 8) (hk' : k' < 8) (h : k ≠ k') :
    (s.bumpBy n Reg.FAB_LINK_CNT j k').rd Reg.FAB_LINK_CNT j k = s.rd Reg.FAB_LINK_CNT j k :=
  State.rd_wr_other _ _ _ _ _ _ _ _ _ _ (by simp only [RegRow.at, Reg.FAB_LINK_CNT]; omega)

theorem controlOut_cnt (s : State) (j : Fin 4) {k : Nat} (hk : k < 8) (h : k ≠ 0) :
    (s.controlOut j).rd Reg.FAB_LINK_CNT j k = s.rd Reg.FAB_LINK_CNT j k := by
  unfold State.controlOut State.flitOut
  exact (linkCnt_bumpBy_other _ j 1 hk (by decide) h).trans (State.rd_setLink s j _ Reg.FAB_LINK_CNT j k 0)

theorem sendNak_shows (s : State) (j : Nat) : ((s.sendNak j).link j).nakSent = true ∧
    ((s.sendNak j).link j).rxSeq = (s.link j).rxSeq ∧ ((s.sendNak j).link j).out = (s.link j).out ∧
    (s.sendNak j).fab.inbox = s.fab.inbox ∧ (s.sendNak j).fab.partials = s.fab.partials ∧ (s.sendNak j).mem = s.mem := by
  unfold State.sendNak
  extract_lets x
  split
  · next hsent => exact ⟨hsent, rfl, rfl, rfl, rfl, rfl⟩
  · rw [controlOut_link, link_setLink_same]
    exact ⟨rfl, rfl, rfl, rfl, rfl, rfl⟩

theorem sendNak_regsKept {s t : State} {j : Nat} {l : List Nat} (hm : Reg.FAB_LINK_CNT.at j 0 0 ∈ l) (h : RegsKept s t l) :
    RegsKept s (t.sendNak j) l := by
  unfold State.sendNak
  extract_lets x
  split
  · exact h
  · exact (controlOut_regsKept hm).2 (regsKept_of_regs (t := t) rfl h)

/-- With nothing waiting on a link nothing goes out. -/
theorem pump_nothing {s : State} {j : Nat} (h : (s.link j).out = []) : s.pump j = s := by
  rw [State.pump, h]
  rfl

theorem splitServe_nothing {s : State} (h : ∀ m, m ∈ s.fab.inbox → m.1 ≠ 2) : s.splitServe = s :=
  if_pos (List.filter_eq_nil_iff.2 (fun m hm => by simpa using h m hm))

theorem flitAck_shows (s : State) (j : Nat) (f : Flit) : ((s.flitAck j f).link j).replay = ackFlits f.ack (s.link j).replay ∧
    ((s.flitAck j f).link j).rxSeq = (s.link j).rxSeq ∧ ((s.flitAck j f).link j).out = (s.link j).out := by
  unfold State.flitAck
  extract_lets x left moved vc
  rw [link_setLink_same]
  exact ⟨rfl, rfl, rfl⟩

/-! ### Flits received (R501, R505) -/

section
variable {s : State} {j : Fin 4} {f : Flit} (hup : s.linkUp j = true) (hinbox : ∀ m, m ∈ s.fab.inbox → m.1 ≠ 2)
include hup hinbox

theorem flitReceive_bad (hsent : (s.link j).nakSent = false) :
    ∃ t, exec (.flitReceive j f false) s = .next t ∧ (t.link j).nakSent = true ∧ (t.link j).rxSeq = (s.link j).rxSeq ∧
      t.fab.inbox = s.fab.inbox ∧
      (t.rd Reg.FAB_LINK_CNT j 2).toNat = min ((s.rd Reg.FAB_LINK_CNT j 2).toNat + 1) 0xFFFFFFFF ∧
      RegsKept s t [Reg.FAB_LINK_CNT.at j 0 0, Reg.FAB_LINK_CNT.at j 1 0, Reg.FAB_LINK_CNT.at j 2 0] ∧ MemKept s t := by
  let s1 := (s.bump Reg.FAB_LINK_CNT j 1).bump Reg.FAB_LINK_CNT j 2
  obtain ⟨hnak, hseq, -, hin, -, hmem⟩ := sendNak_shows s1 j
  have hexec : exec (.flitReceive j f false) s = .next (s1.sendNak j) :=
    congrArg Host.Outcome.next ((if_pos hup).trans (splitServe_nothing (s := s1.sendNak j) (by rw [hin]; exact hinbox)))
  have hsent1 : (s1.link j).nakSent = false := hsent
  have h2 : (s1.sendNak j).rd Reg.FAB_LINK_CNT j 2 = s1.rd Reg.FAB_LINK_CNT j 2 := by
    unfold State.sendNak
    rw [if_neg (by simp [hsent1])]
    exact (controlOut_cnt _ j (by decide) (by decide)).trans (State.rd_setLink s1 j _ Reg.FAB_LINK_CNT j 2 0)
  refine ⟨_, hexec, hnak, hseq, hin, ?_, ?_, memKept_of hmem⟩
  · rw [h2]
    exact (rd_bumpBy_same _ _ _ _ _).trans (congrArg (fun w : Word => min (w.toNat + 1) 0xFFFFFFFF)
      (linkCnt_bumpBy_other s j 1 (by decide) (by decide) (by decide)))
  · exact sendNak_regsKept (by simp) ((regsKept_bumpBy (by simp)).2 ((regsKept_bumpBy (by simp)).2 (regsKept_refl s _)))

section
variable (hout : (s.link j).out = []) (hplain : f.nak = false)
include hout hplain

omit hinbox hout in
/-- A good sequenced flit with nothing to send. -/
theorem flitReceive_sequenced (htyp : 1 ≤ f.typ.toNat) (htyp' : f.typ.toNat ≤ 4) {t : State}
    (ht : t = (let u := (s.bump Reg.FAB_LINK_CNT j 1).flitAck j f
      if f.seq = (u.link j).rxSeq then u.acceptFlit j f else u.sendNak j)) (hnothing : (t.link j).out = [])
    (hin : ∀ m, m ∈ t.fab.inbox → m.1 ≠ 2) : exec (.flitReceive j f true) s = .next t := by
  refine congrArg Host.Outcome.next ((if_pos hup).trans ?_)
  have hflit : s.flitIn j f true = t := by
    unfold State.flitIn
    dsimp only
    have h15 : ¬ f.typ.toNat = 15 := by omega
    have hplain' : ¬ f.nak = true := by simp [hplain]
    rw [if_neg (c := (!true) = true) (by simp), if_neg h15, if_pos (And.intro htyp htyp'), if_neg hplain', ← ht, pump_nothing hnothing]
  rw [hflit, splitServe_nothing hin]

theorem flitReceive_outOfSequence (htyp : 1 ≤ f.typ.toNat) (htyp' : f.typ.toNat ≤ 4) (hseq : f.seq ≠ (s.link j).rxSeq) :
    ∃ t, exec (.flitReceive j f true) s = .next t ∧ (t.link j).rxSeq = (s.link j).rxSeq ∧
      (t.link j).nakSent = true ∧ t.fab.inbox = s.fab.inbox ∧ t.fab.partials = s.fab.partials ∧
      RegsKept s t [Reg.FAB_LINK_CNT.at j 0 0, Reg.FAB_LINK_CNT.at j 1 0] ∧ MemKept s t := by
  let u := (s.bump Reg.FAB_LINK_CNT j 1).flitAck j f
  obtain ⟨-, hrx, hnothing⟩ := flitAck_shows (s.bump Reg.FAB_LINK_CNT j 1) j f
  obtain ⟨hnak, hrx', hnothing', hin, hpartials, hmem⟩ := sendNak_shows u j
  have hrx1 : (u.link j).rxSeq = (s.link j).rxSeq := hrx
  have hexec : exec (.flitReceive j f true) s = .next (u.sendNak j) := by
    refine flitReceive_sequenced hup hplain htyp htyp' ?_ (hnothing'.trans (hnothing.trans hout)) ?_
    · exact (if_neg (by rw [hrx1]; exact hseq)).symm
    · rw [hin]
      exact hinbox
  refine ⟨_, hexec, hrx'.trans hrx, hnak, hin, hpartials, ?_, memKept_of hmem⟩
  have hu : RegsKept s u [Reg.FAB_LINK_CNT.at j 0 0, Reg.FAB_LINK_CNT.at j 1 0] :=
    regsKept_of_regs (t := s.bump Reg.FAB_LINK_CNT j 1) rfl ((regsKept_bumpBy (by simp)).2 (regsKept_refl s _))
  exact sendNak_regsKept (by simp) hu

end
end

/-- A message of one flit reaches the inbox. -/
theorem takePart_only {s : State} {f : Flit} (htyp : f.typ = 4) (hvc : f.vc.toNat ≤ 1) :
    (s.takePart f).fab.inbox = s.fab.inbox ++ [(f.vc.toNat, f.src.toNat, f.payload)] ∧ (s.takePart f).fab.links = s.fab.links ∧
      (s.takePart f).regs = s.regs ∧ (s.takePart f).mem = s.mem := by
  have harrive (t : State) (l : List Byte) : t.arrive f.vc.toNat f.src.toNat l =
      { t with fab := { t.fab with inbox := t.fab.inbox ++ [(f.vc.toNat, f.src.toNat, l)] } } :=
    (if_neg (by omega)).trans (if_neg (by omega))
  have htyp' : f.typ.toNat = 4 := by rw [htyp]; rfl
  unfold State.takePart
  dsimp only
  rw [htyp', if_pos (.inr rfl), if_pos (.inr rfl), harrive]
  exact ⟨rfl, rfl, rfl, rfl⟩

/-- An in-sequence message of one flit for this node. -/
theorem acceptFlit_only {s : State} {j : Nat} {f : Flit} (htyp : f.typ = 4) (hdest : f.dest.toNat = s.nodeId) (hvc : f.vc.toNat ≤ 1) :
    ((s.acceptFlit j f).link j).rxSeq = (s.link j).rxSeq + 1 ∧ ((s.acceptFlit j f).link j).replay = (s.link j).replay ∧
      ((s.acceptFlit j f).link j).out = (s.link j).out ∧
      (s.acceptFlit j f).fab.inbox = s.fab.inbox ++ [(f.vc.toNat, f.src.toNat, f.payload)] ∧
      (∀ l, Reg.FAB_LINK_CNT.at j 0 0 ∈ l → RegsKept s (s.acceptFlit j f) l) ∧ (s.acceptFlit j f).mem = s.mem := by
  let s1 := s.setLink j { s.link j with rxSeq := (s.link j).rxSeq + 1, nakSent := false, rxCount := (s.link j).rxCount + 1 }
  obtain ⟨hin, hlinks, hregs, hmem⟩ := takePart_only (s := s1) htyp hvc
  have hlink : (s1.takePart f).link j =
      { s.link j with rxSeq := (s.link j).rxSeq + 1, nakSent := false, rxCount := (s.link j).rxCount + 1 } :=
    (congrArg (fun m : AMap LinkSt => AMap.get m {} j) hlinks).trans (link_setLink_same s j _)
  have hnode : f.dest.toNat = s1.nodeId := hdest
  have heq : s.acceptFlit j f =
      if 32 ≤ ((s1.takePart f).link j).rxCount then (s1.takePart f).controlOut j else s1.takePart f := by
    unfold State.acceptFlit
    dsimp only
    rw [if_pos hnode]
  have hkept (l : List Nat) : RegsKept s (s1.takePart f) l := regsKept_of_regs (t := s) hregs (regsKept_refl s l)
  rw [heq]
  split
  · rw [controlOut_link, hlink]
    exact ⟨rfl, rfl, rfl, hin, fun l hl => (controlOut_regsKept hl).2 (hkept l), hmem⟩
  · rw [hlink]
    exact ⟨rfl, rfl, rfl, hin, fun l _ => hkept l, hmem⟩

theorem flitReceive_arrives {s : State} {j : Fin 4} {f : Flit} (hup : s.linkUp j = true) (hinbox : ∀ m, m ∈ s.fab.inbox → m.1 ≠ 2)
    (hout : (s.link j).out = []) (htyp : f.typ = 4) (hplain : f.nak = false) (hdest : f.dest.toNat = s.nodeId)
    (hvc : f.vc.toNat ≤ 1) (hseq : f.seq = (s.link j).rxSeq) :
    ∃ t, exec (.flitReceive j f true) s = .next t ∧ (t.link j).rxSeq = (s.link j).rxSeq + 1 ∧
      t.fab.inbox = s.fab.inbox ++ [(f.vc.toNat, f.src.toNat, f.payload)] ∧
      (t.link j).replay = ackFlits f.ack (s.link j).replay ∧
      RegsKept s t [Reg.FAB_LINK_CNT.at j 0 0, Reg.FAB_LINK_CNT.at j 1 0] ∧ MemKept s t := by
  let u := (s.bump Reg.FAB_LINK_CNT j 1).flitAck j f
  obtain ⟨hreplay, hrx, hnothing⟩ := flitAck_shows (s.bump Reg.FAB_LINK_CNT j 1) j f
  have hrx1 : (u.link j).rxSeq = (s.link j).rxSeq := hrx
  have hnode : u.nodeId = s.nodeId := f_bumpBy_apart (r := Reg.FAB_LINK_CNT) (by decide) _ _ _ _ _ _ _ _ _
  obtain ⟨hrx', hreplay', hnothing', hin, hregs, hmem⟩ := acceptFlit_only (s := u) (j := j.val) htyp (by rw [hnode]; exact hdest) hvc
  have htyp4 : f.typ.toNat = 4 := by rw [htyp]; rfl
  have hexec : exec (.flitReceive j f true) s = .next (u.acceptFlit j f) := by
    refine flitReceive_sequenced hup hplain (by omega) (by omega) ?_ (hnothing'.trans (hnothing.trans hout)) ?_
    · exact (if_pos (by rw [hrx1]; exact hseq)).symm
    · rw [hin]
      intro m hm
      rcases List.mem_append.1 hm with hm | hm
      · exact hinbox m hm
      · rw [List.mem_singleton.1 hm]
        change f.vc.toNat ≠ 2
        omega
  refine ⟨_, hexec, ?_, hin, hreplay'.trans hreplay, ?_, memKept_of hmem⟩
  · exact hrx'.trans (congrArg (· + 1) hrx1)
  · have hu : RegsKept s u [Reg.FAB_LINK_CNT.at j 0 0, Reg.FAB_LINK_CNT.at j 1 0] :=
      regsKept_of_regs (t := s.bump Reg.FAB_LINK_CNT j 1) rfl ((regsKept_bumpBy (by simp)).2 (regsKept_refl s _))
    exact regsKept_trans hu (hregs _ (by simp))

end Sys2Proof.Machine
end

section
/-!
Kalinamo links without progress, without lanes, and with the spare (R501, R502, R508 to R511).
-/
namespace Sys2Proof.Machine

open Sys2Proof

variable {β : Type} {p : State → β}

/-! ### Replay (R501) -/

theorem retryTimeout_replays {s : State} {j : Fin 4} (hup : s.linkUp j = true) (hreplay : (s.link j).replay ≠ [])
    (hlate : max 1 (s.f Reg.FAB_LINK_CFG 16 8 j) * 100 ≤ s.since (s.link j).progressAt) (hfew : (s.link j).replays < 8) :
    ∃ t, exec (.retryTimeout j) s = .next t ∧ (t.link j).replays = (s.link j).replays + 1 ∧
      (t.link j).replay = (s.link j).replay ∧ t.bit Reg.FAB_EVENT 1 = true ∧
      (t.rd Reg.FAB_LINK_CNT j 3).toNat = min ((s.rd Reg.FAB_LINK_CNT j 3).toNat + 1) 0xFFFFFFFF ∧
      RegsKept s t [Reg.FAB_LINK_CNT.at j 0 0, Reg.FAB_LINK_CNT.at j 3 0, Reg.FAB_EVENT.addr] ∧ MemKept s t := by
  let x := s.link j
  let s1 := s.setLink j { x with replays := x.replays + 1, progressAt := s.raw, ackAt := s.raw, rxCount := 0,
                                 inject := x.inject - x.replay.length }
  let s2 := s1.bumpBy x.replay.length Reg.FAB_LINK_CNT j 0
  have hexec : exec (.retryTimeout j) s = .next ((s2.bump Reg.FAB_LINK_CNT j 3).raise Reg.FAB_EVENT 1) :=
    congrArg Host.Outcome.next ((if_pos ⟨hup, hreplay, hlate⟩).trans ((if_neg hreplay).trans (if_neg (by omega))))
  have hlink : s1.link j = { x with replays := x.replays + 1, progressAt := s.raw, ackAt := s.raw, rxCount := 0,
                                    inject := x.inject - x.replay.length } := link_setLink_same _ _ _
  have hlink2 : ((s2.bump Reg.FAB_LINK_CNT j 3).raise Reg.FAB_EVENT 1).link j = s1.link j := rfl
  have hregs1 (l : List Nat) : RegsKept s s1 l := regsKept_of_regs (t := s) rfl (regsKept_refl s l)
  have hcnt1 : s1.rd Reg.FAB_LINK_CNT j 3 = s.rd Reg.FAB_LINK_CNT j 3 := State.rd_setLink _ _ _ _ _ _ _
  refine ⟨_, hexec, by rw [hlink2, hlink], by rw [hlink2, hlink], State.bit_setBit_same _ _ 1 true _ _ _ (by decide), ?_, ?_,
    memKept_of rfl⟩
  · refine (congrArg BitVec.toNat (rd_setBit_apart (r := Reg.FAB_EVENT) (by decide) _ _ _ _ _ _ _ _ _)).trans ?_
    refine (rd_bumpBy_same _ _ _ _ _).trans (congrArg (fun w : Word => min (w.toNat + 1) 0xFFFFFFFF) ?_)
    exact (linkCnt_bumpBy_other s1 j _ (by decide) (by decide) (by decide)).trans hcnt1
  · exact (regsKept_setBit (by simp)).2 ((regsKept_bumpBy (by simp)).2 ((regsKept_bumpBy (by simp)).2 (hregs1 _)))

/-- The link whose replays have been in vain is recorded. -/
def State.linkRecorded (s : State) (j : Nat) : State :=
  let u := s.faultNew (linkRecord j 0 1 (s.link j).replays)
  u.setLink j { u.link j with downSeq := some s.fault.seq }

theorem faultNew_fab (s : State) (r : FaultRec) : (s.faultNew r).fab = s.fab :=
  faultNew_sees (p := State.fab) (recordBlind_of_wr (fun _ _ _ _ _ _ => rfl) (fun _ _ => rfl) (fun _ _ => rfl) (fun _ _ => rfl)
    (fun _ _ => rfl)) s r

theorem faultNew_mem (s : State) (r : FaultRec) : (s.faultNew r).mem = s.mem := faultNew_sees recordBlind_mem s r

theorem link_of_fab {s t : State} (h : t.fab = s.fab) (j : Nat) : t.link j = s.link j := by rw [State.link, State.link, h]

theorem retryTimeout_resets {s : State} {j : Fin 4} (hup : s.linkUp j = true) (hreplay : (s.link j).replay ≠ [])
    (hlate : max 1 (s.f Reg.FAB_LINK_CFG 16 8 j) * 100 ≤ s.since (s.link j).progressAt) (hmany : 8 ≤ (s.link j).replays) :
    ∃ t, exec (.retryTimeout j) s = .next t ∧ t.linkState j = 4 ∧ (t.link j).downSeq = some s.fault.seq ∧
      (t.link j).replay = (s.link j).replay ∧ MemKept s t := by
  have hexec : exec (.retryTimeout j) s = .next ((s.linkRecorded j).fabLinkReset j) :=
    congrArg Host.Outcome.next ((if_pos ⟨hup, hreplay, hlate⟩).trans ((if_neg hreplay).trans (if_pos hmany)))
  obtain ⟨hstate, -, hlink, hmem⟩ := fabLinkReset_shows (s.linkRecorded j) j
  have hrecorded : (s.linkRecorded j).link j = { s.link j with downSeq := some s.fault.seq } := by
    refine (link_setLink_same _ _ _).trans ?_
    rw [link_of_fab (faultNew_fab s _)]
  refine ⟨_, hexec, hstate, ?_, ?_, memKept_of (hmem.trans (faultNew_mem s _))⟩
  all_goals
    rw [hlink, hrecorded]
    rfl

/-! ### Acknowledgements (R501) -/

theorem ackInterval_acks {s : State} {j : Fin 4} (hup : s.linkUp j = true) (hlate : 1000 ≤ s.since (s.link j).ackAt) :
    ∃ t, exec (.ackInterval j) s = .next t ∧ (t.link j).ackAt = s.raw ∧ (t.link j).rxCount = 0 ∧
      (t.link j).replay = (s.link j).replay ∧ RegsKept s t [Reg.FAB_LINK_CNT.at j 0 0] ∧ MemKept s t := by
  refine ⟨_, next_if_pos ⟨hup, hlate⟩, ?_, ?_, ?_, (controlOut_regsKept (by simp)).2 (regsKept_refl s _), memKept_of rfl⟩
  all_goals rw [controlOut_link]

/-! ### A link that does not retrain (R502) -/

theorem linkRetrainTimeout_downs {s : State} {j : Fin 4} {t0 : DWord} (hon : s.on .FAB = true) (hretrain : (s.link j).retrain = some t0)
    (hlate : 100000000 ≤ s.since t0) :
    ∃ t, exec (.linkRetrainTimeout j) s = .next t ∧ t.linkState j = 0 ∧ (t.link j).retrain = none ∧
      t.bit Reg.FAB_EVENT 2 = true ∧ MemKept s t := by
  let u := match (s.link j).downSeq with
    | some q => s.faultWrite (linkRecord j 2 0 8) q
    | none => s.faultNew (linkRecord j 2 0 0)
  let v := (u.setLink j { s.link j with retrain := none, downSeq := none }).setLinkState j 0
  have hmem : u.mem = s.mem := by
    cases h : (s.link j).downSeq with
    | some q =>
      have hu : u = s.faultWrite (linkRecord j 2 0 8) q := by simp only [u, h]
      rw [hu]
      exact faultWrite_sees recordBlind_mem s _ _
    | none =>
      have hu : u = s.faultNew (linkRecord j 2 0 0) := by simp only [u, h]
      rw [hu]
      exact faultNew_mem s _
  have hexec : exec (.linkRetrainTimeout j) s = .next (v.raise Reg.FAB_EVENT 2) := by
    refine congrArg Host.Outcome.next ((if_pos hon).trans ?_)
    unfold State.retrainLate
    dsimp only
    rw [hretrain]
    exact if_pos hlate
  refine ⟨_, hexec, ?_, ?_, State.bit_setBit_same _ _ 2 true _ _ _ (by decide), memKept_of hmem⟩
  · refine (f_setBit_apart (r := Reg.FAB_EVENT) (by decide) _ _ _ _ _ _ _ _ _ _ _).trans ?_
    exact State.f_setF_same _ _ _ _ _ _ _ _ (by decide)
  · exact congrArg LinkSt.retrain (link_setLink_same u j _)

/-! ### The failed-lane map (R508, R509) -/

theorem dataLanes_mem {s : State} {j k : Nat} (hk : k ∈ s.dataLanes j) : s.laneFailed j k = false := by
  obtain ⟨-, h⟩ := List.mem_filter.1 hk
  rw [Bool.and_eq_true, Bool.not_eq_true'] at h
  exact h.1

theorem laneFailed_congr {s t : State} {j : Nat} (h : t.rd Reg.FAB_LINK_STATUS j = s.rd Reg.FAB_LINK_STATUS j) (k : Nat) :
    t.laneFailed j k = s.laneFailed j k := congrArg (BitVec.getLsbD · (16 + k)) h

theorem dataLanes_congr {s t : State} {j : Nat} (hstatus : t.rd Reg.FAB_LINK_STATUS j = s.rd Reg.FAB_LINK_STATUS j)
    (hcfg : t.rd Reg.FAB_LINK_CFG j = s.rd Reg.FAB_LINK_CFG j) (hfab : t.fab = s.fab) : t.dataLanes j = s.dataLanes j := by
  have hspare : t.spareLane j = s.spareLane j := congrArg (fld · 8 2) hcfg
  simp only [State.dataLanes, laneFailed_congr hstatus, hspare, link_of_fab hfab]

theorem spareFree_congr {s t : State} {j : Nat} (hstatus : t.rd Reg.FAB_LINK_STATUS j = s.rd Reg.FAB_LINK_STATUS j)
    (hcfg : t.rd Reg.FAB_LINK_CFG j = s.rd Reg.FAB_LINK_CFG j) (hfab : t.fab = s.fab) : t.spareFree j = s.spareFree j := by
  have hspare : t.spareLane j = s.spareLane j := congrArg (fld · 8 2) hcfg
  rw [State.spareFree, State.spareFree, link_of_fab hfab, hspare, laneFailed_congr hstatus]

/-- A lane marked as failed is no data lane, and the others stay. -/
theorem dataLanes_failed {s : State} {j k : Nat} (hk : k < 4) :
    (s.setBit Reg.FAB_LINK_STATUS (16 + k) true j).dataLanes j = (s.dataLanes j).filter (fun x => decide (x ≠ k)) := by
  have hcfg : (s.setBit Reg.FAB_LINK_STATUS (16 + k) true j).spareLane j = s.spareLane j :=
    f_setBit_apart (r := Reg.FAB_LINK_STATUS) (by decide) _ _ _ _ _ _ _ _ _ _ _
  unfold State.dataLanes
  rw [List.filter_filter]
  refine List.filter_congr (fun x hx => ?_)
  have hbit : (s.setBit Reg.FAB_LINK_STATUS (16 + k) true j).laneFailed j x = if x = k then true else s.laneFailed j x := by
    refine (bit_setBit (by omega) _ _ _ _ _ _ _).trans ?_
    simp only [Nat.add_left_cancel_iff]
    rfl
  rw [hbit, hcfg]
  change (!(if x = k then true else s.laneFailed j x) && (decide (x ≠ s.spareLane j) || (s.link j).spareUsed)) = _
  by_cases h : x = k <;> simp [h]

theorem dataLanes_failed_length {s : State} {j k : Nat} (hk : k < 4) (hmem : k ∈ s.dataLanes j) :
    ((s.setBit Reg.FAB_LINK_STATUS (16 + k) true j).dataLanes j).length = (s.dataLanes j).length - 1 := by
  have hnodup : (s.dataLanes j).Nodup := List.nodup_range.filter _
  rw [dataLanes_failed hk, ← List.length_erase_of_mem hmem, hnodup.erase_eq_filter]
  congr 2
  funext x
  simp [bne, beq_eq_decide]

/-! ### Lanes that fail (R508 to R510) -/

/-- A lane of the map failed, with its record. -/
def State.laneLost (s : State) (j k crit : Nat) : State :=
  (s.setBit Reg.FAB_LINK_STATUS (16 + k) true j).faultNew { laneRecord j k crit with action := 0 }

theorem faultNew_rd {r : RegRow} (h : (Reg.SNAP_EVENT :: (latchRows ++ appendRows)).all (fun x => r.apart x) = true) (s : State)
    (x : FaultRec) (i j k : Nat) : (s.faultNew x).rd r i j k = s.rd r i j k := faultNew_sees (recordBlind_rd h i j k) s x

theorem failLane_requests {s : State} {j k crit : Nat} (hup : s.linkUp j = true) (hk : k ∈ s.dataLanes j)
    (hfree : s.spareFree j = true) (hswap : (s.link j).swap = none) :
    s.failLane j k crit = (s.setLink j { s.link j with swap := some (4 * crit + k) }).controlOut j := by
  unfold State.failLane
  rw [if_neg (by simp [hup, dataLanes_mem hk])]
  exact if_pos ⟨List.contains_iff_mem.2 hk, hfree, hswap⟩

theorem failLane_loses {s : State} {j k crit : Nat} (hup : s.linkUp j = true) (hk : k ∈ s.dataLanes j)
    (hfree : s.spareFree j = false) : s.failLane j k crit = (s.laneLost j k crit).lanesLeft j := by
  unfold State.failLane
  rw [if_neg (by simp [hup, dataLanes_mem hk])]
  dsimp only
  rw [if_neg (by simp [hfree]), if_neg (by simp [hfree]), if_pos (List.contains_iff_mem.2 hk)]
  rfl

/-- A link left with two lanes is DEGRADED. -/
theorem lanesLeft_two {s : State} {j : Nat} (htwo : (s.dataLanes j).length = 2) :
    (s.lanesLeft j).linkState j = 3 ∧ (∀ k, k < 4 → (s.lanesLeft j).laneFailed j k = s.laneFailed j k) ∧
      (s.linkState j = 2 → (s.lanesLeft j).bit Reg.FAB_EVENT 4 = true) ∧ (s.lanesLeft j).mem = s.mem := by
  have heq : s.lanesLeft j = ((if s.linkState j = 3 then s else s.raise Reg.FAB_EVENT 4).setLinkState j 3).syncLink j := by
    unfold State.lanesLeft
    rw [htwo]
    rfl
  rw [heq]
  refine ⟨(syncLink_f _ j (by decide)).trans (State.f_setF_same _ _ _ _ _ _ _ _ (by decide)), fun k hk => ?_, fun h => ?_, ?_⟩
  · refine (bit_setF_other (by omega) _ _ _ _ _ _).trans ((bit_setF_other (by omega) _ _ _ _ _ _).trans ?_)
    exact ite_keeps (p := fun t => t.laneFailed j k) rfl (bit_setBit_apart (r := Reg.FAB_EVENT) (by decide) _ _ _ _ _ _ _ _ _ _)
  · rw [if_neg (by omega)]
    refine (bit_setF_apart (r := Reg.FAB_LINK_STATUS) (by decide) _ _ _ _ _ _ _ _ _ _ _).trans ?_
    exact (bit_setF_apart (r := Reg.FAB_LINK_STATUS) (by decide) _ _ _ _ _ _ _ _ _ _ _).trans
      (State.bit_setBit_same _ _ 4 true _ _ _ (by decide))
  · exact ite_keeps (p := State.mem) rfl rfl

/-- What a millisecond of a lane counts. -/
def State.laneCounted (s : State) (j k unc corr : Nat) : State :=
  (s.bumpBy corr Reg.LN_LANE_CNT (16 + 4 * j + k) 2).bumpBy unc Reg.LN_LANE_CNT (16 + 4 * j + k) 3

theorem laneCounted_rd {r : RegRow} (h : r.apart Reg.LN_LANE_CNT = true) (s : State) (j k unc corr a b c : Nat) :
    (s.laneCounted j k unc corr).rd r a b c = s.rd r a b c :=
  (rd_bumpBy_apart (r := Reg.LN_LANE_CNT) h _ _ _ _ _ _ _).trans (rd_bumpBy_apart (r := Reg.LN_LANE_CNT) h _ _ _ _ _ _ _)

section
variable {s : State} {j : Fin 4} (hup : s.linkUp j = true) {k : Fin 4} (hk : k.val ∈ s.dataLanes j)

section
variable {unc corr : Nat}

theorem laneCounted_status : (s.laneCounted j k unc corr).rd Reg.FAB_LINK_STATUS j = s.rd Reg.FAB_LINK_STATUS j :=
  laneCounted_rd (by decide) s j k unc corr j 0 0

theorem laneCounted_cfg : (s.laneCounted j k unc corr).rd Reg.FAB_LINK_CFG j = s.rd Reg.FAB_LINK_CFG j :=
  laneCounted_rd (by decide) s j k unc corr j 0 0

theorem laneCounted_state : (s.laneCounted j k unc corr).linkState j = s.linkState j := congrArg (fld · 0 3) laneCounted_status

include hk in
theorem laneCounted_mem : k.val ∈ (s.laneCounted j k unc corr).dataLanes j := by
  rw [dataLanes_congr (s := s) (t := s.laneCounted j k unc corr) laneCounted_status laneCounted_cfg rfl]
  exact hk

theorem laneCounted_spare : (s.laneCounted j k unc corr).spareFree j = s.spareFree j :=
  spareFree_congr (s := s) (t := s.laneCounted j k unc corr) laneCounted_status laneCounted_cfg rfl

include hup

theorem laneCounted_up : (s.laneCounted j k unc corr).linkUp j = true := by
  rw [← hup]
  exact linkUp_congr (s := s) (t := s.laneCounted j k unc corr) rfl (laneCounted_rd (by decide) s j k unc corr 0 0 0)
    (laneCounted_rd (by decide) s j k unc corr 0 0 0) laneCounted_state

variable {lostNs : Nat} (hlost : 1000 ≤ lostNs)
include hlost

theorem laneFail_eq : exec (.laneFail j k lostNs unc corr) s = .next ((s.laneCounted j k unc corr).failLane j k 1) :=
  congrArg Host.Outcome.next ((if_pos hup).trans (if_pos hlost))

include hk

theorem laneFail_requests (hfree : s.spareFree j = true) (hswap : (s.link j).swap = none) :
    ∃ t, exec (.laneFail j k lostNs unc corr) s = .next t ∧ (t.link j).swap = some (4 + k.val) ∧
      t.laneFailed j k = false ∧ t.linkState j = s.linkState j ∧ MemKept s t := by
  let u := s.laneCounted j k unc corr
  have hfail : u.failLane j k 1 = (u.setLink j { u.link j with swap := some (4 * 1 + k.val) }).controlOut j :=
    failLane_requests (laneCounted_up hup) (laneCounted_mem hk) (laneCounted_spare.trans hfree) hswap
  have hstatus : ((u.setLink j { u.link j with swap := some (4 * 1 + k.val) }).controlOut j).rd Reg.FAB_LINK_STATUS j =
      s.rd Reg.FAB_LINK_STATUS j :=
    (rd_bumpBy_apart (r := Reg.FAB_LINK_CNT) (by decide) _ _ _ _ _ _ _).trans laneCounted_status
  refine ⟨_, laneFail_eq hup hlost, ?_, ?_, ?_, memKept_of ?_⟩
  · rw [hfail, controlOut_link, link_setLink_same]
  · rw [hfail, laneFailed_congr hstatus, dataLanes_mem hk]
  · rw [hfail]
    exact congrArg (fld · 0 3) hstatus
  · rw [hfail]
    rfl

theorem laneFail_degrades (hfree : s.spareFree j = false) (hthree : (s.dataLanes j).length = 3) :
    ∃ t, exec (.laneFail j k lostNs unc corr) s = .next t ∧ t.linkState j = 3 ∧ t.laneFailed j k = true ∧
      (s.linkState j = 2 → t.bit Reg.FAB_EVENT 4 = true) ∧ MemKept s t := by
  let u := s.laneCounted j k unc corr
  let v := u.setBit Reg.FAB_LINK_STATUS (16 + k.val) true j
  have hfail : u.failLane j k 1 = (u.laneLost j k 1).lanesLeft j :=
    failLane_loses (laneCounted_up hup) (laneCounted_mem hk) (laneCounted_spare.trans hfree)
  have hstatus : (u.laneLost j k 1).rd Reg.FAB_LINK_STATUS j = v.rd Reg.FAB_LINK_STATUS j := faultNew_rd (by decide) v _ _ _ _
  have htwo : ((u.laneLost j k 1).dataLanes j).length = 2 := by
    rw [dataLanes_congr (s := v) hstatus (faultNew_rd (by decide) v _ _ _ _) (faultNew_fab v _),
      dataLanes_failed_length k.isLt (laneCounted_mem hk),
      dataLanes_congr (s := s) (t := u) laneCounted_status laneCounted_cfg rfl, hthree]
  obtain ⟨hstate, hfailed, hevent, hmem⟩ := lanesLeft_two htwo
  refine ⟨_, laneFail_eq hup hlost, ?_, ?_, fun h => ?_, memKept_of ?_⟩
  · rw [hfail, hstate]
  · rw [hfail, hfailed k k.isLt, laneFailed_congr hstatus]
    exact State.bit_setBit_same _ _ _ true _ _ _ (by omega)
  · rw [hfail]
    refine hevent ((congrArg (fld · 0 3) hstatus).trans ?_)
    exact (f_setBit_other (by omega) _ _ _ _ _ _).trans (laneCounted_state.trans h)
  · rw [hfail, hmem]
    exact faultNew_mem v _

end

/-! ### The swap (R509, R511) -/

theorem swapDone_shows (s : State) (j : Nat) {k : Nat} (hk : k < 4) (crit : Nat) : ((s.swapDone j k crit).link j).swap = none ∧
    ((s.swapDone j k crit).link j).spareUsed = true ∧ (s.swapDone j k crit).laneFailed j k = true ∧
    (s.swapDone j k crit).bit Reg.FAB_EVENT 3 = true ∧ (s.swapDone j k crit).linkState j = s.linkState j ∧
    (s.swapDone j k crit).mem = s.mem := by
  let s1 := s.setBit Reg.FAB_LINK_STATUS (16 + k) true j
  let s2 := s1.setLink j { s1.link j with swap := none, spareUsed := true }
  let s3 := (s2.bump Reg.FAB_LINK_CNT j 5).raise Reg.FAB_EVENT 3
  have hstatus : s3.rd Reg.FAB_LINK_STATUS j = s1.rd Reg.FAB_LINK_STATUS j :=
    (rd_setBit_apart (r := Reg.FAB_EVENT) (by decide) _ _ _ _ _ _ _ _ _).trans
      ((rd_bumpBy_apart (r := Reg.FAB_LINK_CNT) (by decide) _ _ _ _ _ _ _).trans (State.rd_setLink _ _ _ _ _ _ _))
  have hrec {r : RegRow} (h : (Reg.SNAP_EVENT :: (latchRows ++ appendRows)).all (fun x => r.apart x) = true) (i : Nat) :
      (s.swapDone j k crit).rd r i = (s3.syncLink j).rd r i := faultNew_rd h _ _ _ _ _
  have hlink : (s.swapDone j k crit).link j = { s.link j with swap := none, spareUsed := true } :=
    (link_of_fab (faultNew_fab (s3.syncLink j) _) j).trans (link_setLink_same s1 j _)
  refine ⟨by rw [hlink], by rw [hlink], ?_, ?_, ?_, faultNew_mem (s3.syncLink j) _⟩
  · refine (laneFailed_congr (hrec (by decide) j) k).trans ((bit_setF_other (by omega) _ _ _ _ _ _).trans ?_)
    exact (laneFailed_congr hstatus k).trans (State.bit_setBit_same _ _ _ true _ _ _ (by omega))
  · refine (congrArg (BitVec.getLsbD · 3) (hrec (r := Reg.FAB_EVENT) (by decide) 0)).trans ?_
    refine (bit_setF_apart (r := Reg.FAB_LINK_STATUS) (by decide) _ _ _ _ _ _ _ _ _ _ _).trans ?_
    exact State.bit_setBit_same _ _ 3 true _ _ _ (by decide)
  · refine (congrArg (fld · 0 3) (hrec (by decide) j)).trans ((syncLink_f _ j (by decide)).trans ?_)
    exact (congrArg (fld · 0 3) hstatus).trans (f_setBit_other (by omega) _ _ _ _ _ _)

include hup

include hk in
theorem swapReqReceive_swaps (hfree : s.spareFree j = true) (hswap : (s.link j).swap = none) :
    ∃ t, exec (.swapReqReceive j k) s = .next t ∧ (t.link j).spareUsed = true ∧ t.laneFailed j k = true ∧
      t.bit Reg.FAB_EVENT 3 = true ∧ t.linkState j = s.linkState j ∧ MemKept s t := by
  obtain ⟨-, hused, hfailed, hevent, hstate, hmem⟩ := swapDone_shows (s.controlOut j) j k.isLt 0
  have hexec : exec (.swapReqReceive j k) s = .next ((s.controlOut j).swapDone j k 0) := by
    refine congrArg Host.Outcome.next ((if_pos ⟨hup, List.contains_iff_mem.2 hk, hfree⟩).trans ?_)
    rw [hswap]
  refine ⟨_, hexec, hused, hfailed, hevent, hstate.trans ?_, memKept_of hmem⟩
  exact f_bumpBy_apart (r := Reg.FAB_LINK_CNT) (by decide) _ _ _ _ _ _ _ _ _

omit hk in
theorem swapAckReceive_swaps {x : Nat} (hswap : (s.link j).swap = some x) :
    ∃ t, exec (.swapAckReceive j) s = .next t ∧ (t.link j).swap = none ∧ (t.link j).spareUsed = true ∧
      t.laneFailed j (x % 4) = true ∧ t.bit Reg.FAB_EVENT 3 = true ∧ MemKept s t := by
  obtain ⟨hnone, hused, hfailed, hevent, -, hmem⟩ := swapDone_shows s j (k := x % 4) (by omega) (x / 4)
  have hexec : exec (.swapAckReceive j) s = .next (s.swapDone j (x % 4) (x / 4)) := by
    refine congrArg Host.Outcome.next ?_
    rw [hswap]
    exact if_pos hup
  exact ⟨_, hexec, hnone, hused, hfailed, hevent, memKept_of hmem⟩

end

theorem fabInject_injects {s : State} {j : Fin 4} {w : Writer} {n : Byte} (htakes : s.takes w Reg.FAB_INJECT j 0 0 = true) :
    ∃ t, exec (.fabInject w j n) s = .next t ∧ (t.link j).inject = n.toNat ∧ (t.link j).replay = (s.link j).replay ∧
      t.regs = s.regs ∧ MemKept s t := by
  refine ⟨_, congrArg Host.Outcome.next (takes_gate htakes _), ?_, ?_, rfl, memKept_of rfl⟩
  all_goals rw [link_setLink_same]

/-- Settles O54: a flit by `flitReceive_sequenced`, a replay by `retryTimeout_replays`, a lost lane by `failLane_requests` and
`failLane_loses`, a swap by `swapDone_shows`. -/
theorem kalinamoLinksRetryAndSwapLanes : Obligations.KalinamoLinksRetryAndSwapLanes := by
  unfold Obligations.KalinamoLinksRetryAndSwapLanes
  refine fun s j => ⟨fun f hup hinbox hout => ⟨flitReceive_bad hup hinbox, ?_, ?_⟩,
    fun hup hreplay hlate => ⟨retryTimeout_replays hup hreplay hlate, retryTimeout_resets hup hreplay hlate⟩, ackInterval_acks,
    fun t0 => linkRetrainTimeout_downs,
    fun k lostNs unc corr hup hk hlost => ⟨laneFail_requests hup hk hlost, laneFail_degrades hup hk hlost⟩,
    fun k hup hk => swapReqReceive_swaps hup hk, fun x hup => swapAckReceive_swaps hup, fun w n => fabInject_injects⟩
  · exact fun htyp hplain hdest hvc hseq => flitReceive_arrives hup hinbox hout htyp hplain hdest hvc hseq
  · exact fun htyp htyp' hplain hseq => flitReceive_outOfSequence hup hinbox hout hplain htyp htyp' hseq

end Sys2Proof.Machine
end

section
/-!
Control instructions of tiles (R265, R270, R271, R273, R302, R304): the instruction in turn and the tile that has passed it.
-/
namespace Sys2Proof.Machine

open Sys2Proof

/-! ### The instruction in turn -/

theorem turn_shows {s : State} {e op : Nat} {r : TileRun} {i : TileInstr} (h : s.turn e op = some (r, i)) :
    (s.engine e).tile = some r ∧ r.ended = false ∧ s.on (engBlock e) = true ∧ ∃ b rest, r.todo = (op, i, b) :: rest := by
  unfold State.turn at h
  dsimp only at h
  split at h
  · next t ht =>
    split at h
    · next o i' b rest htodo =>
      split at h
      · next hc =>
        obtain ⟨hon, -, -, hended, rfl⟩ := hc
        cases h
        exact ⟨ht, by simpa using hended, hon, b, rest, htodo⟩
      · cases h
    · cases h
  · cases h

theorem onTurn_runs {s : State} {e op : Nat} {r : TileRun} {i : TileInstr} (h : s.turn e op = some (r, i))
    (f : TileRun → TileInstr → State → State) : s.onTurn e op f = f r i s := by
  rw [State.onTurn, h]

/-- `r'` is `r` past its present instruction, but for what the instruction notes. -/
structure TileRun.Goes (r r' : TileRun) : Prop where
  handle : r'.handle = r.pass.handle
  tile : r'.tile = r.pass.tile
  slots : r'.slots = r.pass.slots
  startAt : r'.startAt = r.pass.startAt
  todo : r'.todo = r.pass.todo
  ended : r'.ended = r.pass.ended

theorem TileRun.goes_pass (r : TileRun) : r.Goes r.pass := ⟨rfl, rfl, rfl, rfl, rfl, rfl⟩

theorem pass_shows {r : TileRun} (hended : r.ended = false) : r.pass.handle = r.handle ∧ r.pass.tile = r.tile ∧
    r.pass.slots = r.slots ∧ r.pass.startAt = r.startAt ∧ r.pass.todo = r.todo.tail ∧
    r.pass.ended = ((r.todo.head?.map (fun p => p.2.1.last)).getD false) := by
  unfold TileRun.pass
  split
  · next p rest h =>
    rw [h, hended]
    exact ⟨rfl, rfl, rfl, rfl, rfl, Bool.false_or _⟩
  · next h =>
    rw [h]
    exact ⟨rfl, rfl, rfl, rfl, rfl, hended⟩

theorem putTile_engine (s : State) (e : Nat) (r : TileRun) : (s.putTile e r).engine e = { s.engine e with tile := some r } :=
  (State.engine_setEngine _ _ _ _).trans (if_pos rfl)

/-- An engine has passed an instruction where its tile goes on and the rest stands. -/
theorem passed_putTile {s u : State} {e : Nat} {r r' : TileRun} (hended : r.ended = false) (hgoes : r.Goes r')
    (hregs : RegsKept s u (engineRegs e)) (hjobs : u.job.jobs = s.job.jobs) (hqueues : u.queues = s.queues) (hencs : u.encs = s.encs)
    (hwt : u.wt = s.wt) (hmem : u.mem = s.mem) : Passed s (u.putTile e r') e r r' := by
  obtain ⟨hhandle, htile, hslots, hstart, htodo, hlast⟩ := pass_shows hended
  exact ⟨congrArg Engine.tile (putTile_engine u e r'), hgoes.handle.trans hhandle, hgoes.tile.trans htile, hgoes.slots.trans hslots,
    hgoes.startAt.trans hstart, hgoes.todo.trans htodo, hgoes.ended.trans hlast, regsKept_of_regs (t := u) rfl hregs, hjobs, hqueues,
    hencs, hwt, memKept_of hmem⟩

/-- An instruction that changes its tile alone. -/
theorem passed_here {s : State} {e : Nat} {r r' : TileRun} (hended : r.ended = false) (hgoes : r.Goes r') :
    Passed s (s.putTile e r') e r r' := passed_putTile hended hgoes (regsKept_refl s _) rfl rfl rfl rfl rfl

section
variable {s : State} {e : Fin 42} {r : TileRun} {i : TileInstr}

theorem tileNop_passes (hturn : s.turn e 0x00 = some (r, i)) :
    ∃ t, exec (.tileNop e) s = .next t ∧ Passed s t e r r.pass ∧ t.regs = s.regs := by
  obtain ⟨-, hended, -⟩ := turn_shows hturn
  exact ⟨_, congrArg Host.Outcome.next (onTurn_runs hturn _), passed_here hended r.goes_pass, rfl⟩

theorem waitRows_passes (hturn : s.turn e 0x01 = some (r, i)) (hrows : s.stepRowsIn r i.srcA.toNat i.rows.toNat = true) :
    ∃ t, exec (.waitRows e) s = .next t ∧ Passed s t e r r.pass ∧ t.regs = s.regs := by
  obtain ⟨-, hended, -⟩ := turn_shows hturn
  exact ⟨_, congrArg Host.Outcome.next ((onTurn_runs hturn _).trans (if_pos hrows)), passed_here hended r.goes_pass, rfl⟩

theorem waitRows_holds (hturn : s.turn e 0x01 = some (r, i)) (hrows : s.stepRowsIn r i.srcA.toNat i.rows.toNat = false) :
    exec (.waitRows e) s = .next s :=
  congrArg Host.Outcome.next ((onTurn_runs hturn _).trans (if_neg (by simp [hrows])))

/-! ### Semaphores (R271, R304) -/

theorem look_foldl_put {β : Type} (l : List Nat) (m : AMap β) (v : β) (n : Nat) :
    AMap.look (l.foldl (fun m n => AMap.put m n v) m) n = if n ∈ l then some v else AMap.look m n := by
  induction l generalizing m with
  | nil => rfl
  | cons a t ih =>
    rw [List.foldl_cons, ih, AMap.look_put]
    by_cases ht : n ∈ t
    · simp [ht]
    · by_cases ha : n = a <;> simp [ht, ha]

section
variable (hturn : s.turn e 0x02 = some (r, i)) (hnew : r.sems.contains (i.arg1.toNat % 256) = false)
include hturn hnew

theorem semAcquire_takes (hfree : ((s.imgOf r).tile r.tile).acquires.all (fun n => (AMap.look s.job.sems n).isNone) = true) :
    ∃ t, exec (.semAcquire e) s = .next t ∧
      Passed s t e r { r.pass with sems := ((s.imgOf r).tile r.tile).acquires } ∧ t.regs = s.regs ∧
      (∀ n, n ∈ ((s.imgOf r).tile r.tile).acquires → AMap.look t.job.sems n = some r.handle) ∧
      (∀ n, n ∉ ((s.imgOf r).tile r.tile).acquires → AMap.look t.job.sems n = AMap.look s.job.sems n) := by
  obtain ⟨-, hended, -⟩ := turn_shows hturn
  let want := ((s.imgOf r).tile r.tile).acquires
  let u := { s with job := { s.job with sems := want.foldl (fun m n => AMap.put m n r.handle) s.job.sems } }
  have hexec : exec (.semAcquire e) s = .next (u.putTile e { r.pass with sems := want }) :=
    congrArg Host.Outcome.next ((onTurn_runs hturn _).trans ((if_neg (by rw [hnew]; exact Bool.false_ne_true)).trans (if_pos hfree)))
  refine ⟨_, hexec, passed_putTile hended ⟨rfl, rfl, rfl, rfl, rfl, rfl⟩ (regsKept_of_regs (t := s) rfl (regsKept_refl s _)) rfl rfl rfl
    rfl rfl, rfl, fun n hn => ?_, fun n hn => ?_⟩
  · exact (look_foldl_put _ _ _ _).trans (if_pos hn)
  · exact (look_foldl_put _ _ _ _).trans (if_neg hn)

end

theorem semRelease_notes (hturn : s.turn e 0x03 = some (r, i)) :
    ∃ t, exec (.semRelease e) s = .next t ∧
      Passed s t e r { r.pass with releases := r.releases ++ [i.arg1.toNat % 256] } ∧ t.regs = s.regs ∧
      t.job.sems = s.job.sems := by
  obtain ⟨-, hended, -⟩ := turn_shows hturn
  exact ⟨_, congrArg Host.Outcome.next (onTurn_runs hturn _), passed_here hended ⟨rfl, rfl, rfl, rfl, rfl, rfl⟩, rfl, rfl⟩

theorem remoteSend_notes (hturn : s.turn e 0x05 = some (r, i)) :
    ∃ t, exec (.remoteSend e) s = .next t ∧
      Passed s t e r { r.pass with sends := r.sends ++ [(i.srcA.toNat, i.arg0.toNat, i.arg1.toNat)] } ∧
      t.regs = s.regs ∧ t.fab = s.fab := by
  obtain ⟨-, hended, -⟩ := turn_shows hturn
  exact ⟨_, congrArg Host.Outcome.next (onTurn_runs hturn _), passed_here hended ⟨rfl, rfl, rfl, rfl, rfl, rfl⟩, rfl, rfl⟩

end

end Sys2Proof.Machine
end

section
/-!
Tiles that wait: for semaphores, at a barrier and for a reply (R270, R302, R304), and verdicts (R265).
-/
namespace Sys2Proof.Machine

open Sys2Proof

variable {β : Type} {p : State → β}

/-! ### The registers of an engine follow -/

theorem syncEngine_sees (hw : Blind [Reg.SPR_STATUS, Reg.SPR_SCHED_STATUS, Reg.MOON_STATUS] p) (s : State) (e : Nat) :
    p (s.syncEngine e) = p s := by
  unfold State.syncEngine
  refine ite_keeps ?_ (hw _ _ _ _ _ _ (by simp))
  exact (hw _ _ _ _ _ _ (by simp)).trans (hw _ _ _ _ _ _ (by simp))

/-- The registers in which engines and runs show. -/
def schedRows : List RegRow := [Reg.SPR_STATUS, Reg.SPR_SCHED_STATUS, Reg.MOON_STATUS, Reg.QM_SCHED_STATUS]

section
variable (hw : Blind schedRows p)
include hw

theorem syncSched_sees (s : State) : p s.syncSched = p s := hw _ _ _ _ _ _ (by simp [schedRows])

theorem syncJobs_sees (s : State) : p s.syncJobs = p s :=
  (syncSched_sees hw _).trans (State.forAll_keeps p _ (fun e t => syncEngine_sees (hw.mono (by simp [schedRows])) t e) s _)

theorem putEngine_sees (s : State) (e : Nat) (x : Engine) : p (s.putEngine e x) = p (s.setEngine e x) :=
  (syncSched_sees hw _).trans (syncEngine_sees (hw.mono (by simp [schedRows])) _ _)

end

theorem putEngine_engine (s : State) (e : Nat) (x : Engine) : (s.putEngine e x).engine e = x :=
  (putEngine_sees (p := fun t => t.engine e) (fun _ _ _ _ _ _ _ => rfl) s e x).trans
    ((State.engine_setEngine _ _ _ _).trans (if_pos rfl))

theorem putEngine_job (s : State) (e : Nat) (x : Engine) : (s.putEngine e x).job = (s.setEngine e x).job :=
  putEngine_sees (p := State.job) (fun _ _ _ _ _ _ _ => rfl) s e x

theorem imgOf_of_jobs {s t : State} (h : t.job.jobs = s.job.jobs) (r : TileRun) : t.imgOf r = s.imgOf r := by
  rw [State.imgOf, State.imgOf, jobOf_of_jobs h]

theorem tileCtx_of_job {s t : State} (h : t.job = s.job) (r : TileRun) : t.tileCtx r = s.tileCtx r := by
  rw [State.tileCtx, State.tileCtx, State.tileUnit, State.tileUnit, imgOf_of_jobs (congrArg JobSt.jobs h), State.ctx, State.ctx, h]

theorem setTileCtx_tileCtx (s : State) (r : TileRun) (c : Ctx) : (s.setTileCtx r c).tileCtx r = c := by
  have hunit : (s.setTileCtx r c).tileUnit r = s.tileUnit r := by
    rw [State.tileUnit, State.tileUnit, imgOf_of_jobs (s := s) (t := s.setTileCtx r c) rfl]
  rw [State.tileCtx, hunit]
  exact State.ctx_setCtx_same _ _ _ _

/-! ### Semaphores that are not free (R304, R305) -/

/-- No context lies in a save area. -/
def State.NoneSaved (s : State) : Prop := ∀ p, p ∈ s.job.ctxs → p.2.saved = false

theorem State.NoneSaved.tileCtx {s : State} (h : s.NoneSaved) (r : TileRun) : (s.tileCtx r).saved = false := by
  unfold State.tileCtx State.ctx AMap.get
  cases hlook : AMap.look s.job.ctxs (64 * r.handle + s.tileUnit r) with
  | none => rfl
  | some c =>
    obtain ⟨q, hq, rfl⟩ : ∃ q ∈ s.job.ctxs, q.2 = c := by
      revert hlook
      generalize s.job.ctxs = m
      induction m with
      | nil => exact fun hlook => absurd hlook (by simp)
      | cons q t ih =>
        intro hlook
        rw [AMap.look] at hlook
        split at hlook
        · exact ⟨q, List.mem_cons_self, Option.some.inj hlook⟩
        · obtain ⟨q', hq', h'⟩ := ih hlook
          exact ⟨q', List.mem_cons_of_mem _ hq', h'⟩
    exact h q hq

theorem State.NoneSaved.setTileCtx {s : State} (h : s.NoneSaved) {r : TileRun} {c : Ctx} (hc : c.saved = false) :
    (s.setTileCtx r c).NoneSaved := by
  intro q hq
  change q ∈ AMap.store s.job.ctxs {} _ c at hq
  unfold AMap.store at hq
  split at hq
  · exact h q (List.mem_filter.1 hq).1
  · rcases AMap.mem_put hq with rfl | hq
    · exact hc
    · exact h q hq

theorem State.NoneSaved.inheritPrio {s : State} (h : s.NoneSaved) (prio fuel : Nat) (sems : List Nat) : s.inheritPrio prio fuel sems = s := by
  have hnil (n : Nat) : s.inheritPrio prio n [] = s := by cases n <;> rfl
  cases fuel with
  | zero => rfl
  | succ n =>
    refine List.foldl_fixed' (fun k => ?_) _
    have hnone : s.job.ctxs.filter (fun p => decide (p.1 / 64 = k) && p.2.saved) = [] :=
      List.filter_eq_nil_iff.2 (fun q hq => by simp [h q hq])
    dsimp only
    rw [hnone]
    exact hnil n

theorem State.NoneSaved.countReversal {s : State} (h : s.NoneSaved) (k : Nat) (sems : List Nat) : s.countReversal k sems = s := by
  refine if_pos (List.filter_eq_nil_iff.2 (fun a _ => ?_))
  simp only [List.any_eq_true, not_exists]
  rintro q ⟨hq, hsaved⟩
  rw [h q hq, Bool.and_false] at hsaved
  cases hsaved

section
variable {s : State} {e : Fin 42} {r : TileRun} {i : TileInstr}

theorem semAcquire_waits (hturn : s.turn e 0x02 = some (r, i)) (hnew : r.sems.contains (i.arg1.toNat % 256) = false)
    (htaken : ((s.imgOf r).tile r.tile).acquires.all (fun n => (AMap.look s.job.sems n).isNone) = false) (hnone : s.NoneSaved) :
    ∃ t, exec (.semAcquire e) s = .next t ∧ (t.engine e).tile = none ∧
      (t.tileCtx r).semWait = ((s.imgOf r).tile r.tile).acquires ∧ (t.tileCtx r).nextTile = some r.tile ∧
      t.job.sems = s.job.sems ∧ t.job.jobs = s.job.jobs ∧ t.encs = s.encs ∧ MemKept s t := by
  let c := { s.tileCtx r with semWait := ((s.imgOf r).tile r.tile).acquires, nextTile := some r.tile, eligAt := none }
  let u := s.setTileCtx r c
  have hu : u.NoneSaved := hnone.setTileCtx (hnone.tileCtx r)
  let v := u.putEngine e { u.engine e with tile := none }
  have hexec : exec (.semAcquire e) s = .next v.syncJobs := by
    refine congrArg Host.Outcome.next ((onTurn_runs hturn _).trans ((if_neg (by rw [hnew]; exact Bool.false_ne_true)).trans
      ((if_neg (by rw [htaken]; exact Bool.false_ne_true)).trans ?_)))
    change (((u.inheritPrio _ 64 _).countReversal r.handle _).putEngine e _).syncJobs = _
    rw [hu.inheritPrio, hu.countReversal]
  have hkeeps {γ : Type} (g : State → γ) (hg : Blind schedRows g) : g v.syncJobs = g (u.setEngine e { u.engine e with tile := none }) :=
    (syncJobs_sees hg v).trans (putEngine_sees hg u e _)
  have hjob : v.syncJobs.job = (u.setEngine e { u.engine e with tile := none }).job := hkeeps State.job (fun _ _ _ _ _ _ _ => rfl)
  have hctx : v.syncJobs.tileCtx r = c := (tileCtx_of_job hjob r).trans (setTileCtx_tileCtx s r c)
  refine ⟨_, hexec, ?_, by rw [hctx], by rw [hctx], (congrArg JobSt.sems hjob :), (congrArg JobSt.jobs hjob :),
    hkeeps State.encs (fun _ _ _ _ _ _ _ => rfl), memKept_of (hkeeps State.mem (fun _ _ _ _ _ _ _ => rfl))⟩
  refine (congrArg Engine.tile (hkeeps (fun t => t.engine e) (fun _ _ _ _ _ _ _ => rfl))).trans ?_
  exact congrArg Engine.tile ((State.engine_setEngine _ _ _ _).trans (if_pos rfl))

/-! ### Barriers (R270) -/

/-- An engine whose tile stands at a barrier goes on. -/
def Engine.passBarrier (h b : Nat) (x : Engine) : Engine :=
  match x.tile with
  | some t =>
    match t.todo with
    | (4, i, _) :: _ => if t.handle = h ∧ i.arg1.toNat = b then { x with tile := some t.pass } else x
    | _ => x
  | none => x

/-- The step of one engine at a barrier. -/
def State.barrierStep (h b e : Nat) (s : State) : State :=
  match (s.engine e).tile with
  | some t =>
    match t.todo with
    | (4, i, _) :: _ => if t.handle = h ∧ i.arg1.toNat = b then s.putTile e t.pass else s
    | _ => s
  | none => s

theorem barrierStep_keeps (hs : ∀ (s : State) e x, p (s.setEngine e x) = p s) (h b e : Nat) (s : State) :
    p (State.barrierStep h b e s) = p s := by
  unfold State.barrierStep
  split
  · split
    · exact ite_keeps (hs _ _ _) rfl
    · rfl
  · rfl

theorem barrierStep_same (h b e : Nat) (s : State) :
    (State.barrierStep h b e s).engine e = (s.engine e).passBarrier h b := by
  unfold State.barrierStep Engine.passBarrier
  split
  · split
    · split
      · exact putTile_engine _ _ _
      · rfl
    · rfl
  · rfl

theorem passBarrier_engine (s : State) (h b : Nat) (e : Fin 42) :
    (s.passBarrier h b).engine e = (s.engine e).passBarrier h b :=
  forAll_each (fun e (t : State) => t.engine e) (State.barrierStep h b) (Engine.passBarrier h b)
    (fun e t => barrierStep_same h b e t)
    (fun a c t hne => by
      unfold State.barrierStep
      have hset (r : TileRun) : (t.putTile c r).engine a = t.engine a := (State.engine_setEngine _ _ _ _).trans (if_neg hne)
      split
      · split
        · split
          · exact hset _
          · rfl
        · rfl
      · rfl)
    _ List.nodup_range (List.mem_range.2 e.isLt) s

theorem passBarrier_keeps (hs : ∀ (s : State) e x, p (s.setEngine e x) = p s) (s : State) (h b : Nat) : p (s.passBarrier h b) = p s :=
  State.forAll_keeps p _ (fun e t => barrierStep_keeps hs h b e t) s _

theorem Engine.passBarrier_passes {x : Engine} {t : TileRun} {i : TileInstr} {b : Bool} {rest : List (Nat × TileInstr × Bool)}
    (htile : x.tile = some t) (htodo : t.todo = (4, i, b) :: rest) :
    (x.passBarrier t.handle i.arg1.toNat).tile = some t.pass := by
  unfold Engine.passBarrier
  rw [htile]
  dsimp only
  rw [htodo]
  exact congrArg Engine.tile (if_pos ⟨rfl, rfl⟩)

section
variable (hturn : s.turn e 0x04 = some (r, i))
  (hnew : r.tile ∉ AMap.get s.job.barriers [] (64 * r.handle + i.arg1.toNat % 64))
include hturn hnew

theorem barrier_passes (hall : ((s.imgOf r).barrierTiles i.arg1.toNat).all
      (fun k => (AMap.get s.job.barriers [] (64 * r.handle + i.arg1.toNat % 64) ++ [r.tile]).contains k) = true) :
    ∃ t, exec (.barrier e) s = .next t ∧ Passed s t e r r.pass ∧ t.regs = s.regs ∧
      AMap.look t.job.barriers (64 * r.handle + i.arg1.toNat % 64) = none := by
  obtain ⟨htile, hended, -, b, rest, htodo⟩ := turn_shows hturn
  obtain ⟨u, hu⟩ : ∃ u, s.passBarrier r.handle i.arg1.toNat = u := ⟨_, rfl⟩
  let t := { u with job := { u.job with barriers := AMap.del u.job.barriers (64 * r.handle + i.arg1.toNat % 64) } }
  have hexec : exec (.barrier e) s = .next t := by
    refine congrArg Host.Outcome.next ((onTurn_runs hturn _).trans ?_)
    unfold State.barrier
    dsimp only
    rw [if_neg (c := (AMap.get s.job.barriers [] (64 * r.handle + i.arg1.toNat % 64)).contains r.tile = true) (by simpa using hnew),
      if_pos hall, hu]
  have hkeeps {γ : Type} (g : State → γ) (hg : ∀ (s : State) e x, g (s.setEngine e x) = g s) : g u = g s := by
    rw [← hu]
    exact passBarrier_keeps hg s _ _
  have hpassed : (u.engine e).tile = some r.pass := by
    rw [← hu, passBarrier_engine]
    exact Engine.passBarrier_passes htile htodo
  obtain ⟨hhandle, htile', hslots, hstart, htodo', hlast⟩ := pass_shows hended
  have hregs : t.regs = s.regs := hkeeps State.regs (fun _ _ _ => rfl)
  refine ⟨t, hexec, ⟨hpassed, hhandle, htile', hslots, hstart, htodo', hlast, regsKept_of_regs (t := s) hregs (regsKept_refl s _), ?_, ?_,
    ?_, ?_, memKept_of ?_⟩, hregs, ?_⟩
  · exact hkeeps (fun t => t.job.jobs) (fun _ _ _ => rfl)
  · exact hkeeps State.queues (fun _ _ _ => rfl)
  · exact hkeeps State.encs (fun _ _ _ => rfl)
  · exact hkeeps State.wt (fun _ _ _ => rfl)
  · exact hkeeps State.mem (fun _ _ _ => rfl)
  · exact (AMap.look_del _ _ _).trans (if_pos rfl)

theorem barrier_waits (hall : ((s.imgOf r).barrierTiles i.arg1.toNat).all
      (fun k => (AMap.get s.job.barriers [] (64 * r.handle + i.arg1.toNat % 64) ++ [r.tile]).contains k) = false) :
    ∃ t, exec (.barrier e) s = .next t ∧ t.job.engines = s.job.engines ∧ t.regs = s.regs ∧ t.mem = s.mem ∧
      AMap.look t.job.barriers (64 * r.handle + i.arg1.toNat % 64) =
        some (AMap.get s.job.barriers [] (64 * r.handle + i.arg1.toNat % 64) ++ [r.tile]) := by
  have hexec : exec (.barrier e) s = .next { s with job := { s.job with
      barriers := AMap.put s.job.barriers (64 * r.handle + i.arg1.toNat % 64)
        (AMap.get s.job.barriers [] (64 * r.handle + i.arg1.toNat % 64) ++ [r.tile]) } } := by
    refine congrArg Host.Outcome.next ((onTurn_runs hturn _).trans ?_)
    unfold State.barrier
    dsimp only
    rw [if_neg (c := (AMap.get s.job.barriers [] (64 * r.handle + i.arg1.toNat % 64)).contains r.tile = true) (by simpa using hnew)]
    exact if_neg (by rw [hall]; exact Bool.false_ne_true)
  exact ⟨_, hexec, rfl, rfl, rfl, AMap.look_put_same _ _ _⟩

end

/-! ### Replies (R302) -/

section
variable (hturn : s.turn e 0x06 = some (r, i))
include hturn

theorem remoteWait_passes (hwant : (s.tileCtx r).remote = some (i.arg1.toNat, i.dst.toNat)) (hdone : (s.tileCtx r).remoteDone = true) :
    ∃ t r', exec (.remoteWait e) s = .next t ∧ Passed s t e r r' ∧ t.regs = s.regs ∧ (t.tileCtx r).remote = none ∧
      r'.progress = r.progress ++ r.slots.map (fun n => (n, s.instrKey r, (s.imgOf r).heightOf i.dst.toNat)) := by
  obtain ⟨-, hended, -⟩ := turn_shows hturn
  let c := { s.tileCtx r with remote := none, remoteDone := false }
  let u := s.setTileCtx r c
  let r' := { r.pass with progress := r.progress ++ r.slots.map (fun n => (n, u.instrKey r, (u.imgOf r).heightOf i.dst.toNat)) }
  have hexec : exec (.remoteWait e) s = .next (u.putTile e r') :=
    congrArg Host.Outcome.next ((onTurn_runs hturn _).trans (if_pos ⟨hwant, hdone⟩))
  refine ⟨_, r', hexec, passed_putTile hended ⟨rfl, rfl, rfl, rfl, rfl, rfl⟩ (regsKept_of_regs (t := s) rfl (regsKept_refl s _)) rfl rfl
    rfl rfl rfl, rfl, ?_, ?_⟩
  · have hctx : (u.putTile e r').tileCtx r = c := by
      refine Eq.trans ?_ (setTileCtx_tileCtx s r c)
      rw [State.tileCtx, State.tileCtx, State.tileUnit, State.tileUnit, imgOf_of_jobs (s := u) (t := u.putTile e r') rfl]
      rfl
    rw [hctx]
  · have himg : u.imgOf r = s.imgOf r := imgOf_of_jobs rfl r
    change r.progress ++ r.slots.map (fun n => (n, u.instrKey r, (u.imgOf r).heightOf i.dst.toNat)) = _
    rw [State.instrKey, State.instrNo, himg]
    rfl

theorem remoteWait_waits (hnone : (s.tileCtx r).remote = none) :
    ∃ t, exec (.remoteWait e) s = .next t ∧ (t.engine e).tile = none ∧
      (t.tileCtx r).remote = some (i.arg1.toNat, i.dst.toNat) ∧ (t.tileCtx r).remoteDone = false ∧
      (t.tileCtx r).nextTile = some r.tile ∧ t.job.jobs = s.job.jobs ∧ t.encs = s.encs ∧ MemKept s t := by
  let c := { s.tileCtx r with remote := some (i.arg1.toNat, i.dst.toNat), remoteDone := false, nextTile := some r.tile, eligAt := none }
  let u := s.setTileCtx r c
  let v := u.putEngine e { u.engine e with tile := none }
  have hexec : exec (.remoteWait e) s = .next v :=
    congrArg Host.Outcome.next ((onTurn_runs hturn _).trans (if_neg (by simp [hnone])))
  have hctx : v.tileCtx r = c := by
    have hv : v.tileCtx r = (u.setEngine e { u.engine e with tile := none }).tileCtx r := tileCtx_of_job (putEngine_job _ _ _) r
    refine hv.trans (Eq.trans ?_ (setTileCtx_tileCtx s r c))
    rw [State.tileCtx, State.tileCtx, State.tileUnit, State.tileUnit,
      imgOf_of_jobs (s := u) (t := u.setEngine e { u.engine e with tile := none }) rfl]
    rfl
  refine ⟨v, hexec, congrArg Engine.tile (putEngine_engine _ _ _), by rw [hctx], by rw [hctx], by rw [hctx],
    (congrArg JobSt.jobs (putEngine_job u e _) :), ?_, memKept_of ?_⟩
  · exact putEngine_sees (p := State.encs) (fun _ _ _ _ _ _ _ => rfl) u e _
  · exact putEngine_sees (p := State.mem) (fun _ _ _ _ _ _ _ => rfl) u e _

end

/-! ### Verdicts (R265) -/

section
variable {k n : Nat} {s1 : State}

/-- VERDICT and PROVISIONAL of one slot note what `verdictOf` says. -/
theorem verdictStep_notes {prov : Bool} (hended : r.ended = false)
    (hread : s.readIndices e r i.srcA.toNat r.slots = (s1, some [(k, n)])) :
    ∃ r', s.verdictStep e r i prov = s1.putTile e r' ∧ Passed s1 (s1.putTile e r') e r r' ∧
      r'.verdicts = r.verdicts ++ (
        let v := verdictOf (s1.imgOf r) (s1.slotOf r.handle k) n
        if !prov then [{ slot := k, kind := v.1, cls := v.2, index := n }]
        else if v.1 = 1 then [{ slot := k, kind := 4, cls := v.2, index := n }] else []) := by
  let vs : List VerdictOut := [(k, n)].filterMap (fun p =>
      let v := verdictOf (s1.imgOf r) (s1.slotOf r.handle p.1) p.2
      if !prov then some { slot := p.1, kind := v.1, cls := v.2, index := p.2 }
      else if v.1 = 1 then some { slot := p.1, kind := 4, cls := v.2, index := p.2 } else none)
  refine ⟨{ r.pass with verdicts := r.verdicts ++ vs }, ?_, passed_here hended ⟨rfl, rfl, rfl, rfl, rfl, rfl⟩, ?_⟩
  · unfold State.verdictStep
    rw [hread]
  · refine congrArg (r.verdicts ++ ·) ?_
    change [(k, n)].filterMap _ = _
    rw [List.filterMap_cons]
    dsimp only
    cases prov with
    | false => rfl
    | true =>
      by_cases h : (verdictOf (s1.imgOf r) (s1.slotOf r.handle k) n).1 = 1
      · rw [if_neg (by simp), if_pos h, if_neg (by simp), if_pos h]
        rfl
      · rw [if_neg (by simp), if_neg h, if_neg (by simp), if_neg h]
        rfl

theorem verdictOf_marked {g : JobImg} {x : Slot} {n : Nat} (h : fld x.marks 0 16 &&& g.markFailsafe ≠ 0) : verdictOf g x n = (2, 0) :=
  if_pos h

theorem verdictOf_class {g : JobImg} {x : Slot} {n c : Nat} (h : fld x.marks 0 16 &&& g.markFailsafe = 0)
    (hc : g.classMap[n]? = some c) : verdictOf g x n = (1, c) := by
  unfold verdictOf
  rw [if_neg (by simp [h]), List.head?_drop, hc]

theorem verdictOf_none {g : JobImg} {x : Slot} {n : Nat} (h : fld x.marks 0 16 &&& g.markFailsafe = 0)
    (hc : g.classMap[n]? = none) : verdictOf g x n = (3, 0) := by
  unfold verdictOf
  rw [if_neg (by simp [h]), List.head?_drop, hc]

variable (hread : s.readIndices e r i.srcA.toNat r.slots = (s1, some [(k, n)]))
include hread

theorem verdict_notes (hturn : s.turn e 0x07 = some (r, i)) :
    ∃ t r', exec (.verdict e) s = .next t ∧ Passed s1 t e r r' ∧
      (fld (s1.slotOf r.handle k).marks 0 16 &&& (s1.imgOf r).markFailsafe ≠ 0 →
        r'.verdicts = r.verdicts ++ [{ slot := k, kind := 2, cls := 0, index := n }]) ∧
      (fld (s1.slotOf r.handle k).marks 0 16 &&& (s1.imgOf r).markFailsafe = 0 →
        (∀ c, (s1.imgOf r).classMap[n]? = some c →
          r'.verdicts = r.verdicts ++ [{ slot := k, kind := 1, cls := c, index := n }]) ∧
        ((s1.imgOf r).classMap[n]? = none →
          r'.verdicts = r.verdicts ++ [{ slot := k, kind := 3, cls := 0, index := n }])) := by
  obtain ⟨-, hended, -⟩ := turn_shows hturn
  obtain ⟨r', hstep, hpassed, hverdicts⟩ := verdictStep_notes (prov := false) hended hread
  refine ⟨_, r', congrArg Host.Outcome.next ((onTurn_runs hturn _).trans hstep), hpassed, fun hmark => ?_, fun hmark =>
    ⟨fun c hc => ?_, fun hc => ?_⟩⟩
  · rw [hverdicts, verdictOf_marked hmark]
    rfl
  · rw [hverdicts, verdictOf_class hmark hc]
    rfl
  · rw [hverdicts, verdictOf_none hmark hc]
    rfl

theorem provisional_notes (hturn : s.turn e 0x08 = some (r, i)) :
    ∃ t r', exec (.provisional e) s = .next t ∧ Passed s1 t e r r' ∧
      (∀ c, fld (s1.slotOf r.handle k).marks 0 16 &&& (s1.imgOf r).markFailsafe = 0 →
        (s1.imgOf r).classMap[n]? = some c →
        r'.verdicts = r.verdicts ++ [{ slot := k, kind := 4, cls := c, index := n }]) ∧
      (fld (s1.slotOf r.handle k).marks 0 16 &&& (s1.imgOf r).markFailsafe ≠ 0 ∨
        (s1.imgOf r).classMap[n]? = none → r'.verdicts = r.verdicts) := by
  obtain ⟨-, hended, -⟩ := turn_shows hturn
  obtain ⟨r', hstep, hpassed, hverdicts⟩ := verdictStep_notes (prov := true) hended hread
  refine ⟨_, r', congrArg Host.Outcome.next ((onTurn_runs hturn _).trans hstep), hpassed, fun c hmark hc => ?_, fun hno => ?_⟩
  · rw [hverdicts, verdictOf_class hmark hc]
    rfl
  · rw [hverdicts]
    by_cases hmark : fld (s1.slotOf r.handle k).marks 0 16 &&& (s1.imgOf r).markFailsafe = 0
    · rw [verdictOf_none hmark (hno.resolve_left (fun h => h hmark))]
      exact List.append_nil _
    · rw [verdictOf_marked hmark]
      exact List.append_nil _

end

end

/-- Settles O48: tiles that pass by `passed_putTile`, those that wait by `putEngine_sees`, a barrier by `passBarrier_engine`, a
verdict by `verdictStep_notes`. -/
theorem tileControlInstructionsAdvance : Obligations.TileControlInstructionsAdvance := by
  unfold Obligations.TileControlInstructionsAdvance
  exact fun s e r i => ⟨tileNop_passes, fun hturn => ⟨waitRows_passes hturn, waitRows_holds hturn⟩,
    fun hturn hnew => ⟨semAcquire_takes hturn hnew, semAcquire_waits hturn hnew⟩, semRelease_notes,
    fun hturn hnew => ⟨barrier_passes hturn hnew, barrier_waits hturn hnew⟩, remoteSend_notes,
    fun hturn => ⟨remoteWait_passes hturn, remoteWait_waits hturn⟩,
    fun k n s1 hread => ⟨verdict_notes hread, provisional_notes hread⟩⟩

end Sys2Proof.Machine
end

section
/-!
Transfers of tiles (R165, R202, R224, R233, R248, R270, R273, R291): what they stage.
-/
namespace Sys2Proof.Machine

open Sys2Proof

variable {β : Type} {p : State → β}

/-! ### Tiles past an instruction with what they noted -/

theorem pass_notes (a : TileRun) : a.pass.writes = a.writes ∧ a.pass.progress = a.progress ∧ a.pass.gathers = a.gathers := by
  unfold TileRun.pass
  split <;> exact ⟨rfl, rfl, rfl⟩

/-- `a` is `r` with more staged, and more noted of rows and windows. -/
structure TileRun.Notes (r a : TileRun) : Prop where
  handle : a.handle = r.handle
  tile : a.tile = r.tile
  slots : a.slots = r.slots
  startAt : a.startAt = r.startAt
  todo : a.todo = r.todo
  ended : a.ended = r.ended

theorem TileRun.Notes.goes {r a : TileRun} (h : r.Notes a) : r.Goes a.pass := by
  obtain ⟨hhandle, htile, hslots, hstart, htodo, hended⟩ := h
  unfold TileRun.pass
  rw [htodo]
  split
  · next q rest hr =>
    constructor <;> simp only [TileRun.pass, hr, hhandle, htile, hslots, hstart, hended]
  · next hr =>
    constructor <;> simp only [TileRun.pass, hr, hhandle, htile, hslots, hstart, hended, htodo]

/-- A tile with more staged. -/
def TileRun.staging (r : TileRun) (l : List Staged) : TileRun := { r with writes := r.writes ++ l }

/-- What rows stage one after another is staged together. -/
theorem foldl_staging {α : Type} (f : TileRun → α → TileRun) (hf : ∀ a x, ∃ l, f a x = a.staging l) (rows : List α) (r : TileRun) :
    ∃ l, rows.foldl f r = r.staging l := by
  induction rows generalizing r with
  | nil => exact ⟨[], by simp [TileRun.staging]⟩
  | cons x t ih =>
    obtain ⟨l1, h1⟩ := hf r x
    obtain ⟨l2, h2⟩ := ih (r.staging l1)
    exact ⟨l1 ++ l2, by rw [List.foldl_cons, h1, h2]; simp [TileRun.staging]⟩

theorem stageRuns_staging (s : State) (a : TileRun) (n slot row : Nat) (runs : List (Nat × List Byte)) :
    s.stageRuns a n slot row runs = a.staging (runs.map (fun r =>
      { stream := n, slot := slot, row := row, va := s.rowVa a n slot row + r.1, bytes := r.2 })) := rfl

theorem stageScales_staging (s : State) (a : TileRun) (n slot row : Nat) (sc : List (Nat × Nat)) :
    ∃ l, s.stageScales a n slot row sc = a.staging l := ⟨_, rfl⟩

/-! ### Instructions whose reads are clean -/

theorem compute_clean {s : State} {e op : Nat} {r : TileRun} {i : TileInstr} (hturn : s.turn e op = some (r, i)) {tags : Bool}
    (htags : tags = true → s.tagsOf r i = none) (f : TileRun → TileInstr → State → State) :
    s.compute e op .clean tags f = f r i s := by
  refine (onTurn_runs hturn _).trans ?_
  dsimp only [State.sramRead]
  cases tags with
  | false => rfl
  | true => rw [if_pos rfl, htags rfl]

section
variable {s : State} {e : Fin 42} {r : TileRun} {i : TileInstr}

/-! ### Loads (R165, R202, R224, R248) -/

/-- An instruction that stages into the idle half of its context. -/
theorem staged_passes {s2 : State} (hended : r.ended = false) (w : StagedW) :
    let t := (s2.setTileCtx r ((s2.tileCtx r).stage w)).putTile e r.pass
    Passed s2 t e r r.pass ∧ w ∈ (t.tileCtx r).idle ∧ (t.tileCtx r).active = (s2.tileCtx r).active := by
  let u := s2.setTileCtx r ((s2.tileCtx r).stage w)
  have hctx : (u.putTile e r.pass).tileCtx r = (s2.tileCtx r).stage w := by
    refine Eq.trans ?_ (setTileCtx_tileCtx s2 r _)
    rw [State.tileCtx, State.tileCtx, State.tileUnit, State.tileUnit, imgOf_of_jobs (s := u) (t := u.putTile e r.pass) rfl]
    rfl
  refine ⟨passed_putTile hended r.goes_pass (regsKept_of_regs (t := s2) rfl (regsKept_refl s2 _)) rfl rfl rfl rfl rfl, ?_, ?_⟩
  · rw [hctx]
    exact List.mem_cons_self
  · rw [hctx]
    rfl

theorem loadWeights_stages {up : Option ReadUpset} {s1 s2 : State} {l : List Byte} {sc : List Word}
    (hturn : s.turn e 0x10 = some (r, i))
    (hread : s.dmaRead e r.handle up (sectorsOf (i.arg0.toNat * 64)) (s.streamVa r i.srcA.toNat) (i.arg0.toNat * 64) 0 =
      (s1, .done l))
    (hscales : s1.readScales e r i.srcA.toNat (i.arg0.toNat * 64 * 8 /
      max 1 (32 * fmtBits ((s.imgOf r).tensorOf i.srcA.toNat).fmt)) = (s2, .ok sc)) :
    ∃ t, exec (.loadWeights e .clean up) s = .next t ∧ Passed s2 t e r r.pass ∧
      { stream := r.stagedAs i.srcA.toNat, bytes := l, scales := sc } ∈ (t.tileCtx r).idle ∧
      (t.tileCtx r).active = (s2.tileCtx r).active := by
  obtain ⟨-, hended, -⟩ := turn_shows hturn
  refine ⟨_, congrArg Host.Outcome.next ((compute_clean hturn (fun h => absurd h (by decide)) _).trans ?_), staged_passes hended _⟩
  unfold State.loadWeights
  dsimp only
  rw [hread]
  dsimp only
  rw [hscales]

theorem loadAct_loads {up : Option ReadUpset} {s1 : State} (hturn : s.turn e 0x11 = some (r, i))
    (hload : s.loadRows e r i.srcA.toNat up (s.rowsToLoad r i.srcA.toNat i.rows.toNat) = (s1, true)) :
    ∃ t, exec (.loadAct e .clean up) s = .next t ∧ Passed s1 t e r r.pass ∧ t.job.ctxs = s1.job.ctxs := by
  obtain ⟨-, hended, -⟩ := turn_shows hturn
  refine ⟨s1.putTile e r.pass, congrArg Host.Outcome.next ((compute_clean hturn (fun h => absurd h (by decide)) _).trans ?_),
    passed_here hended r.goes_pass, rfl⟩
  unfold State.loadAct
  rw [hload]

theorem loadBank_stages {up : Option ReadUpset} {s1 s2 : State} {l m : List Byte} (hturn : s.turn e 0x13 = some (r, i))
    (hread : s.dmaRead e r.handle up (sectorsOf (i.arg0.toNat * ((s.imgOf r).stream i.srcA.toNat).rowStride))
      (s.streamVa r i.srcA.toNat + i.arg1.toNat * 65536 * ((s.imgOf r).stream i.srcA.toNat).rowStride)
      (i.arg0.toNat * ((s.imgOf r).stream i.srcA.toNat).rowStride) 0 = (s1, .done l))
    (hnorms : s1.dmaRead e r.handle none (sectorsOf (4 * i.arg0.toNat))
      (s1.streamVa r i.srcA.toNat + ((s.imgOf r).tensorOf i.srcA.toNat).w * ((s.imgOf r).tensorOf i.srcA.toNat).h *
        ((s.imgOf r).stream i.srcA.toNat).rowStride + 4 * (i.arg1.toNat * 65536)) (4 * i.arg0.toNat) 0 = (s2, .done m)) :
    ∃ t, exec (.loadBank e .clean up) s = .next t ∧ Passed s2 t e r r.pass ∧
      { stream := r.stagedAs i.srcA.toNat, bytes := l, entry := i.arg1.toNat * 65536,
        norms := (upTo i.arg0.toNat).map (fun k => BitVec.ofNat 32 (natLE ((m.drop (4 * k)).take 4))) } ∈
        (t.tileCtx r).idle := by
  obtain ⟨-, hended, -⟩ := turn_shows hturn
  let bank : StagedW :=
    { stream := r.stagedAs i.srcA.toNat, bytes := l, entry := i.arg1.toNat * 65536,
      norms := (upTo i.arg0.toNat).map (fun k => BitVec.ofNat 32 (natLE ((m.drop (4 * k)).take 4))) }
  obtain ⟨hpassed, hidle, -⟩ := staged_passes (s2 := s2) (e := e) hended bank
  refine ⟨_, congrArg Host.Outcome.next ((compute_clean hturn (fun h => absurd h (by decide)) _).trans ?_), hpassed, hidle⟩
  unfold State.loadBank
  dsimp only
  rw [hread]
  dsimp only
  rw [hnorms]

/-! ### Rows staged (R233, R270, R273) -/

section
variable {k : Nat} (hslots : r.slots = [k])
include hslots

/-- STORE and COPY stage the rows of their slot that are not done. -/
theorem copyRows_stages (hended : r.ended = false) : ∃ r', s.copyRows e r i = s.putTile e r' ∧ Passed s (s.putTile e r') e r r' ∧
    r.writes <+: r'.writes ∧ r'.progress = r.progress ++ [(k, s.instrKey r, max (s.doneRows r k)
      (min (s.srcOf r i.srcA.toNat k).rows.length ((s.imgOf r).tensorOf i.dst.toNat).h))] := by
  let rows := (upTo (min (s.srcOf r i.srcA.toNat k).rows.length ((s.imgOf r).tensorOf i.dst.toNat).h - s.doneRows r k)).map
    (fun j => s.doneRows r k + j)
  let step (a : TileRun) (row : Nat) : TileRun :=
    let c := copyRow (s.srcOf r i.srcA.toNat k) ((s.imgOf r).tensorOf i.dst.toNat) row
    s.stageScales (s.stageRuns a i.dst.toNat k row c.1) i.dst.toNat k row c.2
  obtain ⟨l, hl⟩ := foldl_staging step (fun a row => ⟨_, by
    simp only [step, stageRuns_staging, TileRun.staging, State.stageScales, List.append_assoc]
    rfl⟩) rows r
  let a : TileRun := { rows.foldl step r with
    progress := (rows.foldl step r).progress ++ [(k, s.instrKey r, s.doneRows r k + rows.length)] }
  have ha : a = { r.staging l with progress := r.progress ++ [(k, s.instrKey r, s.doneRows r k + rows.length)] } := by
    simp only [a, hl]
    rfl
  have hlen : rows.length = min (s.srcOf r i.srcA.toNat k).rows.length ((s.imgOf r).tensorOf i.dst.toNat).h - s.doneRows r k := by
    simp [rows, upTo]
  have hcopy : s.copyRows e r i = s.putTile e a.pass := by
    unfold State.copyRows
    rw [hslots]
    rfl
  obtain ⟨hwrites, hprogress, -⟩ := pass_notes a
  refine ⟨a.pass, hcopy, passed_here hended (TileRun.Notes.goes ?_), ?_, ?_⟩
  · rw [ha]
    exact ⟨rfl, rfl, rfl, rfl, rfl, rfl⟩
  · rw [hwrites, ha]
    exact List.prefix_append _ _
  · rw [hprogress, ha, hlen]
    refine congrArg (fun n => r.progress ++ [(k, s.instrKey r, n)]) ?_
    omega

theorem store_stages (hturn : s.turn e 0x12 = some (r, i)) :
    ∃ t r', exec (.store e) s = .next t ∧ Passed s t e r r' ∧ t.regs = s.regs ∧ r.writes <+: r'.writes ∧
      r'.progress = r.progress ++ [(k, s.instrKey r, max (s.doneRows r k)
        (min (s.srcOf r i.srcA.toNat k).rows.length ((s.imgOf r).tensorOf i.dst.toNat).h))] := by
  obtain ⟨-, hended, -⟩ := turn_shows hturn
  obtain ⟨r', hcopy, hpassed, hwrites, hprogress⟩ := copyRows_stages (s := s) (e := e) (i := i) hslots hended
  exact ⟨_, r', congrArg Host.Outcome.next ((onTurn_runs hturn _).trans hcopy), hpassed, rfl, hwrites, hprogress⟩

theorem zero_stages {b : List Byte} (hturn : s.turn e 0x15 = some (r, i)) (hfirst : s.doneRows r k = 0)
    (hstep : (s.slotOf r.handle k).step r.tile = 0) (hrows : i.rows.toNat = 1) (hheight : ((s.imgOf r).tensorOf i.dst.toNat).h ≠ 0)
    (hb : b = packCodes ((s.imgOf r).tensorOf i.dst.toNat).fmt
      (List.replicate ((s.imgOf r).tensorOf i.dst.toNat).rowElems 0)) :
    ∃ t r', exec (.zero e) s = .next t ∧ Passed s t e r r' ∧ t.regs = s.regs ∧
      r'.progress = r.progress ++ [(k, s.instrKey r, 1)] ∧
      r'.writes = r.writes ++
        [{ stream := i.dst.toNat, slot := k, row := 0, va := s.rowVa r i.dst.toNat k 0, bytes := b }] := by
  obtain ⟨-, hended, -⟩ := turn_shows hturn
  let a : TileRun := { s.stageRuns r i.dst.toNat k 0 [(0, b)] with progress := r.progress ++ [(k, s.instrKey r, 1)] }
  have hzero : s.zeroRows e r i = s.putTile e a.pass := by
    have hgoal : min ((s.imgOf r).tensorOf i.dst.toNat).h ((0 + 1) * 1) = 1 := by omega
    unfold State.zeroRows
    dsimp only
    rw [hslots, List.foldl_cons, List.foldl_nil, hfirst, hstep, hrows, hgoal, ← hb]
    rfl
  obtain ⟨hwrites, hprogress, -⟩ := pass_notes a
  exact ⟨_, a.pass, congrArg Host.Outcome.next ((onTurn_runs hturn _).trans hzero),
    passed_here hended (TileRun.Notes.goes ⟨rfl, rfl, rfl, rfl, rfl, rfl⟩), rfl, hprogress, hwrites⟩

end
end

/-! ### Windows of parts (R290 to R292) -/

theorem slotOf_setSlot {s : State} {h k : Nat} {j : Job} {x : Slot} (hjob : s.jobOf h = some j) : (s.setSlot h k x).slotOf h k = x := by
  have hset : (s.setSlot h k x).jobOf h = some { j with slots := AMap.store j.slots {} k x } := by
    unfold State.setSlot State.updJob
    rw [hjob]
    exact (State.jobOf_setJob _ _ _ _).trans (if_pos rfl)
  rw [State.slotOf, hset]
  exact AMap.get_store_same _ _ _ _

theorem setSlot_keeps (hjob : ∀ (s : State) x, p { s with job := x } = p s) (s : State) (h k : Nat) (x : Slot) :
    p (s.setSlot h k x) = p s := by
  unfold State.setSlot State.updJob
  split
  · exact hjob _ _
  · rfl

theorem sampleRows_staging (s : State) (n k : Nat) (f : Nat → List Byte) (rows : List Nat) (r : TileRun) :
    ∃ l, rows.foldl (fun (a : TileRun) row => s.stageRuns a n k row [(0, f row)]) r = r.staging l :=
  foldl_staging _ (fun a row => ⟨_, stageRuns_staging s a n k row _⟩) rows r

theorem gather_stages {s : State} {e : Fin 42} {r : TileRun} {i : TileInstr} {k : Nat} {j : Job} (hturn : s.turn e 0x14 = some (r, i))
    (hslots : r.slots = [k]) (hjob : s.jobOf r.handle = some j) :
    let input := (j.img.stream i.srcA.toNat).input
    let total := (j.img.input input).windowRows
    let w := s.windowOf r.handle j (j.slot k) input
    let goal := min total (min (s.windowRowsIn r.handle j (j.slot k) input) (((j.slot k).step r.tile + 1) * i.rows.toNat))
    ∃ t r', exec (.gather e) s = .next t ∧ (t.engine e).tile = some r' ∧ r'.todo = r.todo.tail ∧
      r.writes <+: r'.writes ∧ (t.slotOf r.handle k) = s.sampleHeader (j.slot k) input goal total w ∧
      (goal = total → r'.gathers = r.gathers ++ [(k, input)]) ∧ t.regs = s.regs ∧ t.encs = s.encs ∧ MemKept s t := by
  intro input total w goal
  obtain ⟨-, hended, -⟩ := turn_shows hturn
  let y := s.sampleHeader (j.slot k) input goal total w
  let u := s.setSlot r.handle k y
  let v := match u.comet (j.slot k).comet with
    | some c => if c.seq = (j.slot k).cseq ∧ !(j.slot k).padding then
        u.setComet (j.slot k).comet { c with marks := c.marks ||| y.marks } else u
    | none => u
  let rowBytes (row : Nat) : List Byte := match (w.drop row).head? with
    | some (o, true) => ringBytes (j.img.tensorOf i.dst.toNat) o.pix
    | _ => packCodes (j.img.tensorOf i.dst.toNat).fmt
        (List.replicate (j.img.tensorOf i.dst.toNat).rowElems (Config.windowFill r.handle input))
  let rows := (upTo (goal - s.doneRows r k)).map (fun n => s.doneRows r k + n)
  obtain ⟨l, hl⟩ := sampleRows_staging s i.dst.toNat k rowBytes rows r
  let staged : TileRun := rows.foldl (fun (a : TileRun) row => s.stageRuns a i.dst.toNat k row [(0, rowBytes row)]) r
  let a : TileRun := { staged with
    progress := staged.progress ++ [(k, v.instrKey r, max (s.doneRows r k) goal)],
    gathers := if goal = total then staged.gathers ++ [(k, input)] else staged.gathers }
  have hl : staged = r.staging l := hl
  have hv {γ : Type} (g : State → γ) (hg : ∀ (s : State) i c, g (s.setComet i c) = g s) : g v = g u := by
    simp only [v]
    split
    · exact ite_keeps (hg _ _ _) rfl
    · rfl
  have hgather : s.gather e r i = v.putTile e a.pass := by
    have hslot : s.gatherSlot r i k = (v, a) := by
      unfold State.gatherSlot
      rw [hjob] <;> rfl
    unfold State.gather
    rw [hslots, List.foldl_cons, List.foldl_nil, hslot]
  obtain ⟨hwrites, -, hgathers⟩ := pass_notes a
  have hgoes : r.Goes a.pass := by
    refine TileRun.Notes.goes ?_
    change r.Notes { staged with progress := _, gathers := _ }
    rw [hl]
    exact ⟨rfl, rfl, rfl, rfl, rfl, rfl⟩
  obtain ⟨-, -, -, -, htodo, -⟩ := pass_shows hended
  refine ⟨_, a.pass, congrArg Host.Outcome.next ((onTurn_runs hturn _).trans hgather), congrArg Engine.tile (putTile_engine v e _),
    hgoes.todo.trans htodo, ?_, ?_, fun hall => ?_, ?_, ?_, memKept_of ?_⟩
  · rw [hwrites]
    change r.writes <+: staged.writes
    rw [hl]
    exact List.prefix_append _ _
  · have hslot : (v.putTile e a.pass).slotOf r.handle k = v.slotOf r.handle k := by
      rw [State.slotOf, State.slotOf, jobOf_of_jobs (s := v) (t := v.putTile e a.pass) rfl]
    rw [hslot, hv (fun t => t.slotOf r.handle k) (fun _ _ _ => rfl)]
    exact slotOf_setSlot hjob
  · rw [hgathers]
    refine (if_pos hall).trans ?_
    rw [hl]
    rfl
  · exact (hv State.regs (fun _ _ _ => rfl)).trans (setSlot_keeps (p := State.regs) (fun _ _ => rfl) s _ _ _)
  · exact (hv State.encs (fun _ _ _ => rfl)).trans (setSlot_keeps (p := State.encs) (fun _ _ => rfl) s _ _ _)
  · exact (hv State.mem (fun _ _ _ => rfl)).trans (setSlot_keeps (p := State.mem) (fun _ _ => rfl) s _ _ _)

end Sys2Proof.Machine
end

section
/-!
A job faults (R192, R287, R417): its tiles leave their engines.
-/
namespace Sys2Proof.Machine

open Sys2Proof

/-! ### Engines that a job leaves (R287, R315) -/

theorem returnTileCredits_engine (s : State) (r : TileRun) (a : Nat) : (s.returnTileCredits r).engine a = s.engine a := by
  unfold State.returnTileCredits
  split
  · exact ite_keeps (p := fun t => t.engine a)
      (putQueue_keeps (p := fun t => t.engine a) (fun _ _ _ _ _ _ _ => rfl) (fun _ _ => rfl) s _ _) rfl
  · rfl

theorem engCnt_sees {β : Type} {p : State → β} (hw : Blind [Reg.SPR_CNT, Reg.MOON_CNT] p) (s : State) (e k n : Nat) :
    p (s.engCnt e k n) = p s :=
  ite_keeps rfl (ite_keeps (hw.bumpBy (by simp) _ _ _ _) (hw.bumpBy (by simp) _ _ _ _))

theorem abandonTile_engine {s : State} {e : Nat} {r : TileRun} (htile : (s.engine e).tile = some r) (a : Nat) :
    (s.abandonTile e).engine a = if a = e then { s.engine e with tile := none } else s.engine a := by
  unfold State.abandonTile
  dsimp only
  rw [htile]
  dsimp only
  refine (putEngine_sees (p := fun t => t.engine a) (fun _ _ _ _ _ _ _ => rfl) _ _ _).trans ((State.engine_setEngine _ _ _ _).trans ?_)
  refine congrArg (fun x => if a = e then { s.engine e with tile := none } else x) ?_
  refine (engCnt_sees (p := fun t => t.engine a) (fun _ _ _ _ _ _ _ => rfl) _ _ _ _).trans ((returnTileCredits_engine _ _ _).trans ?_)
  exact State.when_keeps (fun t => t.engine a) s r.susp (fun s => s.bump Reg.XLT_CNT 5) rfl

/-- The tile of an engine that a job leaves. -/
def leftTile (h : Nat) (x : Option TileRun) : Option TileRun := if (x.map (fun t => t.handle)) = some h then none else x

theorem leaveTile_tile (h e a : Nat) (s : State) :
    ((s.when (decide (((s.engine e).tile.map (fun t => t.handle)) = some h)) (fun s => s.abandonTile e)).engine a).tile =
      if a = e then leftTile h (s.engine a).tile else (s.engine a).tile := by
  unfold State.when leftTile
  by_cases hleft : ((s.engine e).tile.map (fun t => t.handle)) = some h
  · obtain ⟨r, htile, -⟩ := Option.map_eq_some_iff.1 hleft
    rw [if_pos (decide_eq_true hleft), abandonTile_engine htile a]
    by_cases hae : a = e
    · rw [if_pos hae, if_pos hae, hae, if_pos hleft]
    · rw [if_neg hae, if_neg hae]
  · rw [if_neg (c := decide _ = true) (by rw [decide_eq_true_eq]; exact hleft)]
    split
    · next hae => rw [hae, if_neg hleft]
    · rfl

theorem setEngine_tile (s : State) {e : Nat} (a : Nat) {x : Engine} (hx : x.tile = (s.engine e).tile) :
    ((s.setEngine e x).engine a).tile = (s.engine a).tile := by
  rw [State.engine_setEngine]
  split
  · next hae => rw [hae]; exact hx
  · rfl

/-- The step of one engine that a job leaves. -/
def State.leaveStep (h e : Nat) (s : State) : State :=
  let x := s.engine e
  let s := s.when (decide ((x.tile.map (fun t => t.handle)) = some h)) (fun s => s.abandonTile e)
  let x := s.engine e
  let gone : Bool := match x.switch with
    | some (.restoring h') => decide (h' = h)
    | some (.saving _) => decide (x.resident = some h)
    | none => false
  if x.resident = some h ∨ gone then
    s.setEngine e { x with resident := if x.resident = some h then none else x.resident,
                           switch := if gone then none else x.switch, preempt := false }
  else s

theorem leaveStep_tile (h e a : Nat) (s : State) :
    ((State.leaveStep h e s).engine a).tile = if a = e then leftTile h (s.engine a).tile else (s.engine a).tile := by
  refine Eq.trans ?_ (leaveTile_tile h e a s)
  unfold State.leaveStep
  extract_lets x s1 x1 gone
  exact ite_keeps (p := fun t => (t.engine a).tile) (s := s1) (setEngine_tile s1 a rfl) rfl

theorem cleared_tile (s : State) (h e : Nat) :
    ((((s.clearCtxs h).returnCredits h).syncJobs).engine e).tile = (s.engine e).tile :=
  syncJobs_sees (p := fun t => (t.engine e).tile) (fun _ _ _ _ _ _ _ => rfl) ((s.clearCtxs h).returnCredits h)

theorem leaveEngines_eq (s : State) (h : Nat) :
    s.leaveEngines h = (((s.forAll (upTo 42) (State.leaveStep h)).clearCtxs h).returnCredits h).syncJobs := rfl

theorem leaveEngines_tile (s : State) (h : Nat) (e : Fin 42) :
    ((s.leaveEngines h).engine e).tile = leftTile h (s.engine e).tile := by
  rw [leaveEngines_eq]
  refine (cleared_tile (s.forAll (upTo 42) (State.leaveStep h)) h e).trans ?_
  exact (forAll_each (fun a (t : State) => (t.engine a).tile) (State.leaveStep h) (leftTile h)
    (fun a t => (leaveStep_tile h a a t).trans (if_pos rfl)) (fun a b t hne => (leaveStep_tile h b a t).trans (if_neg hne))
    (upTo 42) List.nodup_range (mem_upTo.2 e.isLt) s)

/-! ### The fault of a job (R287) -/

theorem dropSlots_job {s : State} {h : Nat} {j : Job} (hjob : s.jobOf h = some j) :
    ∃ j', (s.dropSlots h).jobOf h = some j' ∧ ∀ a, (s.dropSlots h).engine a = s.engine a := by
  have hmark {γ : Type} (g : State → γ) (hg : ∀ (s : State) x, g { s with wt := x } = g s) (l : List (Nat × Slot)) (t : State) :
      g (t.forAll l (fun p s => if p.2.st = .final then s else s.markDropped p.2)) = g t := by
    refine State.forAll_keeps g _ (fun q u => ite_keeps rfl ?_) t l
    unfold State.markDropped
    split
    · exact ite_keeps (hg _ _) rfl
    · rfl
  unfold State.dropSlots
  rw [hjob]
  exact ⟨_, (State.jobOf_setJob _ _ _ _).trans (if_pos rfl), fun a => hmark (fun t => t.engine a) (fun _ _ => rfl) _ s⟩

/-- The run of a job that faults ends: the job is faulted and no engine runs a tile of it. -/
theorem faultJob_faults {s : State} {h status : Nat} {j : Job} (hjob : s.jobOf h = some j) (hrun : j.st.inRun = true) {e : Fin 42}
    {r : TileRun} (htile : (s.engine e).tile = some r) (hhandle : r.handle = h) :
    (∃ j', (s.faultJob h status).jobOf h = some j' ∧ j'.st = .faulted ∧ j'.lastStatus = status) ∧
      ((s.faultJob h status).engine e).tile = none := by
  have hleft : (s.leaveEngines h).jobOf h = some j := (jobOf_of_jobs (leaveEngines_keeps ctxBlind_jobs s h) h).trans hjob
  obtain ⟨j', hj', hengines⟩ := dropSlots_job hleft
  have hrest (t : State) (j'' : Job) : (((t.putCompletion h j' status).setJob h j'').syncJobs.engine e).tile = (t.engine e).tile := by
    refine (syncJobs_sees (p := fun t => (t.engine e).tile) (fun _ _ _ _ _ _ _ => rfl) _).trans ?_
    unfold State.putCompletion
    exact ite_keeps (p := fun t => (t.engine e).tile)
      (qOffer_keeps (p := fun t => (t.engine e).tile) (fun _ _ _ _ _ _ _ => rfl) (fun _ _ => rfl) (fun _ _ => rfl) _ _ _ _) rfl
  have hgone : (((s.leaveEngines h).dropSlots h).engine e).tile = none := by
    rw [hengines, leaveEngines_tile, htile, leftTile, Option.map_some, hhandle, if_pos rfl]
  unfold State.faultJob
  rw [hjob]
  dsimp only
  rw [if_pos hrun]
  unfold State.endRun
  dsimp only
  rw [hj']
  exact ⟨⟨_, (jobOf_of_jobs (syncJobs_keeps ctxBlind_jobs _) h).trans ((State.jobOf_setJob _ _ _ _).trans (if_pos rfl)), rfl, rfl⟩,
    (hrest _ _).trans hgone⟩

/-! ### SRAM that cannot be read (R192) -/

/-- An uncorrectable read of SRAM as it is counted and recorded. -/
def State.sramBad (s : State) (e : Nat) (r : TileRun) : State :=
  ((s.engCnt e 6 1).engEvent e 4).faultNew (sramRecord e r.handle r.tile 3 7 S_UNCORRECTABLE)

theorem sramBad_keeps {β : Type} {p : State → β} (hr : RecordBlind p)
    (hw : Blind [Reg.SPR_CNT, Reg.MOON_CNT, Reg.SPR_EVENT, Reg.MOON_EVENT] p) (s : State) (e : Nat) (r : TileRun) :
    p (s.sramBad e r) = p s := by
  refine (faultNew_sees hr _ _).trans (Eq.trans ?_ (engCnt_sees (hw.mono (by simp)) s e 6 1))
  exact ite_keeps (hw.raise (by simp) _ _ _ _) (hw.raise (by simp) _ _ _ _)

theorem loadAct_faults {s : State} {e : Fin 42} {r : TileRun} {i : TileInstr} {up : Option ReadUpset} {j : Job}
    (hturn : s.turn e 0x11 = some (r, i)) (hjob : s.jobOf r.handle = some j) (hrun : j.st.inRun = true) :
    ∃ t j', exec (.loadAct e .uncorrectable up) s = .next t ∧ t.jobOf r.handle = some j' ∧ j'.st = .faulted ∧
      j'.lastStatus = S_UNCORRECTABLE ∧ (t.engine e).tile = none ∧ t.encs = s.encs ∧ MemKept s t := by
  obtain ⟨htile, -⟩ := turn_shows hturn
  have hbad : (s.sramBad e r).job = s.job :=
    sramBad_keeps (p := State.job) (recordBlind_of_wr (fun _ _ _ _ _ _ => rfl) (fun _ _ => rfl) (fun _ _ => rfl) (fun _ _ => rfl)
      (fun _ _ => rfl)) (fun _ _ _ _ _ _ _ => rfl) s e r
  obtain ⟨⟨j', hj', hst, hlast⟩, hnone⟩ := faultJob_faults (s := s.sramBad e r) (status := S_UNCORRECTABLE)
    ((jobOf_of_jobs (congrArg JobSt.jobs hbad) _).trans hjob) hrun (e := e) (r := r)
    ((congrArg (fun x : JobSt => (AMap.get x.engines {} e).tile) hbad).trans htile) rfl
  have hexec : exec (.loadAct e .uncorrectable up) s = .next ((s.sramBad e r).faultJob r.handle S_UNCORRECTABLE) :=
    congrArg Host.Outcome.next (show s.compute e 0x11 .uncorrectable false _ = _ from onTurn_runs hturn _)
  refine ⟨_, j', hexec, hj', hst, hlast, hnone, ?_, memKept_of ?_⟩
  · exact (faultJob_keeps (p := State.encs) ⟨fun _ _ _ _ _ _ _ => rfl, fun _ _ => rfl, fun _ _ => rfl, fun _ _ => rfl, fun _ _ => rfl⟩
      _ _ _).trans (sramBad_keeps recordBlind_encs (fun _ _ _ _ _ _ _ => rfl) s e r)
  · exact (faultJob_keeps (p := State.mem) ⟨fun _ _ _ _ _ _ _ => rfl, fun _ _ => rfl, fun _ _ => rfl, fun _ _ => rfl, fun _ _ => rfl⟩
      _ _ _).trans (sramBad_keeps recordBlind_mem (fun _ _ _ _ _ _ _ => rfl) s e r)

/-- Settles O49: loads by `staged_passes`, rows by `foldl_staging`, an SRAM that cannot be read by `faultJob_faults`. -/
theorem tileTransfersStageTheirRows : Obligations.TileTransfersStageTheirRows := by
  unfold Obligations.TileTransfersStageTheirRows
  exact fun s e r i => ⟨fun up s1 s2 l sc => loadWeights_stages, fun up s1 => loadAct_loads, fun up s1 s2 l m => loadBank_stages,
    fun k hturn hslots => store_stages hslots hturn, fun k j => gather_stages, fun k b hturn hslots => zero_stages hslots hturn,
    fun up j => loadAct_faults⟩

end Sys2Proof.Machine
end

section
/-!
The values that element-wise instructions stage (R212, R237 to R239).
-/
namespace Sys2Proof.Machine

open Sys2Proof

/-! ### The arithmetic counters of an engine (R180 to R183) -/

section
variable {s t : State} {l : List Nat} {e k n : Nat}

theorem engCnt_regs (h : RegsKept s t l) (hm : (if isSpire e then Reg.SPR_CNT.at e k 0 else Reg.MOON_CNT.at (e - 34) k 0) ∈ l) :
    RegsKept s (t.engCnt e k n) l := by
  unfold State.engCnt
  split
  · exact h
  · split <;> simp_all

theorem engQCnt_regs (h : RegsKept s t l) (hm : (if isSpire e then Reg.SPR_QCNT.at e k 0 else Reg.MOON_QCNT.at (e - 34) k 0) ∈ l) :
    RegsKept s (t.engQCnt e k n) l := by
  unfold State.engQCnt
  split
  · exact h
  · split <;> simp_all

theorem engOpCnt_regs (h : RegsKept s t l) (hspire : isSpire e = true → Reg.SPR_OPCNT.at e k 0 ∈ l)
    (hmoon : isSpire e = false → k ≠ 0 → k ≠ 3 → Reg.MOON_OPCNT.at (e - 34) k 0 ∈ l) : RegsKept s (t.engOpCnt e k n) l := by
  unfold State.engOpCnt
  split
  · exact h
  · split
    · next hs => exact (regsKept_bumpBy (hspire hs)).2 h
    · next hs =>
      split
      · exact h
      · next hk => exact (regsKept_bumpBy (hmoon (by simpa using hs) (fun h0 => hk (.inl h0)) (fun h3 => hk (.inr h3)))).2 h

theorem engEvent_regs {b : Nat} {c : Bool} (h : RegsKept s t l)
    (hm : (if isSpire e then Reg.SPR_EVENT.at e 0 0 else Reg.MOON_EVENT.at (e - 34) 0 0) ∈ l) :
    RegsKept s (t.when c (fun t => t.engEvent e b)) l := by
  rw [regsKept_when]
  unfold State.engEvent
  split
  · split <;> exact (regsKept_setBit (by simp_all)).2 h
  · exact h

theorem engQEvent_regs {b : Nat} {c : Bool} (h : RegsKept s t l)
    (hm : (if isSpire e then Reg.SPR_QEVENT.at e 0 0 else Reg.MOON_QEVENT.at (e - 34) 0 0) ∈ l) :
    RegsKept s (t.when c (fun t => t.engQEvent e b)) l := by
  rw [regsKept_when]
  unfold State.engQEvent
  split
  · split <;> exact (regsKept_setBit (by simp_all)).2 h
  · exact h

end

theorem engCounts_regs (s : State) (e : Nat) (c : Cnt) : RegsKept s (s.engCounts e c) (engineRegs e) := by
  unfold State.engCounts
  cases hs : isSpire e
  case' true => have hl : engineRegs e = _ := if_pos hs
  case' false => have hl : engineRegs e = _ := if_neg (by simp [hs])
  all_goals
    rw [hl]
    refine engOpCnt_regs (engOpCnt_regs (engOpCnt_regs (engOpCnt_regs (engQEvent_regs (engQCnt_regs (engQEvent_regs
      (engQCnt_regs (engQCnt_regs (engEvent_regs (engCnt_regs (engEvent_regs (engCnt_regs (engEvent_regs (engCnt_regs
        (regsKept_refl s _) ?_) ?_) ?_) ?_) ?_) ?_) ?_) ?_) ?_) ?_) ?_) ?_ ?_) ?_ ?_) ?_ ?_) ?_ ?_ <;> simp [hs]

/-- The rows of those counters. -/
def arithRows : List RegRow :=
  [Reg.SPR_CNT, Reg.MOON_CNT, Reg.SPR_QCNT, Reg.MOON_QCNT, Reg.SPR_OPCNT, Reg.MOON_OPCNT, Reg.SPR_EVENT, Reg.MOON_EVENT,
    Reg.SPR_QEVENT, Reg.MOON_QEVENT]

theorem engCounts_sees {β : Type} {p : State → β} (hw : Blind arithRows p) (s : State) (e : Nat) (c : Cnt) :
    p (s.engCounts e c) = p s := by
  have hcnt (t : State) (k n : Nat) : p (t.engCnt e k n) = p t := engCnt_sees (hw.mono (by decide)) t e k n
  have hq (t : State) (k n : Nat) : p (t.engQCnt e k n) = p t :=
    ite_keeps rfl (ite_keeps (hw.bumpBy (by decide) _ _ _ _) (hw.bumpBy (by decide) _ _ _ _))
  have hop (t : State) (k n : Nat) : p (t.engOpCnt e k n) = p t :=
    ite_keeps rfl (ite_keeps (hw.bumpBy (by decide) _ _ _ _) (ite_keeps rfl (hw.bumpBy (by decide) _ _ _ _)))
  have hev (t : State) (c : Bool) (b : Nat) : p (t.when c (fun t => t.engEvent e b)) = p t :=
    State.when_keeps p _ _ _ (ite_keeps (hw.raise (by decide) _ _ _ _) (hw.raise (by decide) _ _ _ _))
  have hqev (t : State) (c : Bool) (b : Nat) : p (t.when c (fun t => t.engQEvent e b)) = p t :=
    State.when_keeps p _ _ _ (ite_keeps (hw.raise (by decide) _ _ _ _) (hw.raise (by decide) _ _ _ _))
  unfold State.engCounts
  simp only [hop, hqev, hev, hq, hcnt]

/-- The arithmetic of a passed instruction is counted. -/
theorem passed_engCounts {s t : State} {e : Nat} {r r' : TileRun} (h : Passed s t e r r') (c : Cnt) :
    Passed s (t.engCounts e c) e r r' := by
  obtain ⟨htile, hhandle, htileNo, hslots, hstart, htodo, hended, hregs, hjobs, hqueues, hencs, hwt, hmem⟩ := h
  have hw {β : Type} {p : State → β} (h : ∀ s r v i j k, p (State.wr s r v i j k) = p s) : p (t.engCounts e c) = p t :=
    engCounts_sees (blind_of_wr h _) t e c
  exact ⟨(hw (p := fun t => (t.engine e).tile) (fun _ _ _ _ _ _ => rfl)).trans htile, hhandle, htileNo, hslots, hstart, htodo, hended,
    regsKept_trans hregs (engCounts_regs t e c), (hw (p := fun t => t.job.jobs) (fun _ _ _ _ _ _ => rfl)).trans hjobs,
    (hw (p := State.queues) (fun _ _ _ _ _ _ => rfl)).trans hqueues, (hw (p := State.encs) (fun _ _ _ _ _ _ => rfl)).trans hencs,
    (hw (p := State.wt) (fun _ _ _ _ _ _ => rfl)).trans hwt, fun a => (memKept_of (hw (p := State.mem) (fun _ _ _ _ _ _ => rfl)) a).trans (hmem a)⟩

/-! ### Rows of one element -/

theorem readyRows_one {ready : Nat → Bool} (h : ready 0 = true) : readyRows ready 0 1 = [0] := by
  simp [readyRows, h]

theorem groupVals_one {i : TileInstr} (hgrp : i.cgrp = 0) (f : Nat → Nat → Counted Word) :
    (groupVals i 1 1 f).1 = .vals [(0, 0, (f 0 0).1)] := by
  have hch : chGroup i.cgrp.toNat 1 = [0] := by rw [hgrp]; decide
  simp [groupVals, hch, countAll]

theorem place_zero (d : TensorD) : d.place 0 0 = 0 := by
  unfold TensorD.place
  split
  · simp
  · split <;> simp

theorem outRow_one {d : TensorD} (hmx : fmtMx d.fmt = false) (q : QParam) (away sat : Bool) (v : Word) :
    (outRow d q away sat [(0, 0, v)]).1.runs = [(0, packCodes d.fmt [(requantElem d.fmt q away sat v).1])] ∧
      (outRow d q away sat [(0, 0, v)]).1.scales = [] := by
  simp [outRow, hmx, packRow, place_zero, insertElem, runsOf]

theorem packCodes_fp32 (v : Word) : packCodes 7 [v.toNat] = bytesLE 4 v.toNat := by
  have hv : v.toNat % 4294967296 = v.toNat := Nat.mod_eq_of_lt v.isLt
  simp [packCodes, fmtBits, packedBytes, ceilDiv, hv]

theorem packCodes_int8 (c : Nat) : packCodes 1 [c] = [BitVec.ofNat 8 c] := by
  have hc : BitVec.ofNat 8 (c % 256) = BitVec.ofNat 8 c := by simp [BitVec.ofNat, Fin.ofNat]
  simpa [packCodes, fmtBits, packedBytes, ceilDiv, bytesLE] using hc

/-! ### An instruction on tensors of one element -/

section
variable {s : State} {e : Fin 42} {r : TileRun} {i : TileInstr} {k : Nat}

/-- What is staged of a row of one element. -/
def TileRun.stagedOne (s : State) (r : TileRun) (i : TileInstr) (k : Nat) (l : List Byte) : TileRun :=
  r.staging [{ stream := i.dst.toNat, slot := k, row := 0, va := s.rowVa r i.dst.toNat k 0, bytes := l }]

theorem stageRow_one (hstat : i.stat = 0) (hmx : fmtMx ((s.imgOf r).tensorOf i.dst.toNat).fmt = false) (v : Word) :
    let d := (s.imgOf r).tensorOf i.dst.toNat
    (s.stageRow r i k 0 (.vals [(0, 0, v)])).1 = r.stagedOne s i k
      (packCodes d.fmt [(requantElem d.fmt ((s.imgOf r).qparam d.qparam) i.qrnd i.sat v).1]) := by
  obtain ⟨hruns, hscales⟩ := outRow_one hmx ((s.imgOf r).qparam ((s.imgOf r).tensorOf i.dst.toNat).qparam) i.qrnd i.sat v
  simp only [State.stageRow, hruns, hscales, stageStats, if_pos hstat, State.stageScales, stageRuns_staging, List.map_cons, List.map_nil,
    List.append_nil, Nat.add_zero]
  rfl

/-- An instruction whose output is one row of one element stages that element. -/
theorem computeRows_one (hslots : r.slots = [k]) (hdone : s.doneRows r k = 0) (hstat : i.stat = 0) (hended : r.ended = false)
    (hmx : fmtMx ((s.imgOf r).tensorOf i.dst.toNat).fmt = false) {ready : Nat → Nat → Bool} (hready : ready k 0 = true)
    {mk : Nat → Nat → Counted RowOut} {v : Word} (hmk : (mk k 0).1 = .vals [(0, 0, v)]) :
    let d := (s.imgOf r).tensorOf i.dst.toNat
    ∃ r', Passed s (s.computeRows e r i 1 ready mk) e r r' ∧ r'.writes = (r.stagedOne s i k
      (packCodes d.fmt [(requantElem d.fmt ((s.imgOf r).qparam d.qparam) i.qrnd i.sat v).1])).writes := by
  intro d
  let a := (s.computeSlot r i k 1 (ready k) (mk k)).1
  have ha : a = { r.stagedOne s i k
      (packCodes d.fmt [(requantElem d.fmt ((s.imgOf r).qparam d.qparam) i.qrnd i.sat v).1]) with
        progress := r.progress ++ [(k, s.instrKey r, 1)] } := by
    simp only [a, State.computeSlot, hdone, readyRows_one hready, List.foldl_cons, List.foldl_nil, hmk, stageRow_one hstat hmx]
    rfl
  have hpassed : Passed s (s.putTile e a.pass) e r a.pass := by
    refine passed_here hended (TileRun.Notes.goes ?_)
    rw [ha]
    exact ⟨rfl, rfl, rfl, rfl, rfl, rfl⟩
  refine ⟨a.pass, ?_, (pass_notes a).1.trans (by rw [ha])⟩
  unfold State.computeRows
  rw [hslots]
  exact passed_engCounts hpassed _

/-- Values of one element that an instruction computes, staged in the output's format. -/
theorem groupVals_stages (hslots : r.slots = [k]) (hdone : s.doneRows r k = 0) (hstat : i.stat = 0) (hended : r.ended = false)
    (hgrp : i.cgrp = 0) (hmx : fmtMx ((s.imgOf r).tensorOf i.dst.toNat).fmt = false) {ready : Nat → Nat → Bool}
    (hready : ready k 0 = true) (f : Nat → Nat → Nat → Nat → Counted Word) {w h c : Nat} (hw : w = 1) (hh : h = 1) (hc : c = 1) :
    let d := (s.imgOf r).tensorOf i.dst.toNat
    ∃ r', Passed s (s.computeRows e r i h ready (fun k row => groupVals i w c (f k row))) e r r' ∧ r'.writes = (r.stagedOne s i k
      (packCodes d.fmt [(requantElem d.fmt ((s.imgOf r).qparam d.qparam) i.qrnd i.sat (f k 0 0 0).1).1])).writes := by
  rw [hw, hh, hc]
  exact computeRows_one hslots hdone hstat hended hmx hready (groupVals_one hgrp _)

/-- An FP32 output holds the value itself. -/
theorem requantElem_fp32 (q : QParam) (away sat : Bool) (v : Word) : packCodes 7 [(requantElem 7 q away sat v).1] = bytesLE 4 v.toNat :=
  packCodes_fp32 v

/-- An INT8 output holds the code of R212. -/
theorem requantElem_int8 (q : QParam) (away sat : Bool) (v : Word) :
    packCodes 1 [(requantElem 1 q away sat v).1] = [BitVec.ofNat 8 (requantInt 1 q away v).1] := packCodes_int8 _

/-- The one value of a second operand of one element. -/
theorem second_one {b : Src} (hw : b.t.w = 1) (hh : b.t.h = 1) (hc : b.t.c = 1) : b.second 0 0 0 = b.val 0 0 0 := by
  rw [Src.second, if_pos ⟨hw, hh⟩, if_pos hc]

/-- An element-wise operation on two tensors of one element, with an FP32 output. -/
theorem eltStep_stages (hslots : r.slots = [k]) (hdone : s.doneRows r k = 0) (hstat : i.stat = 0) (hended : r.ended = false)
    (hgrp : i.cgrp = 0) (hfmt : ((s.imgOf r).tensorOf i.dst.toNat).fmt = 7)
    (ha : ((s.imgOf r).tensorOf i.srcA.toNat).w = 1 ∧ ((s.imgOf r).tensorOf i.srcA.toNat).h = 1 ∧
      ((s.imgOf r).tensorOf i.srcA.toNat).c = 1 ∧ (s.srcOf r i.srcA.toNat k).rows.length = 1)
    (hb : ((s.imgOf r).tensorOf i.srcB.toNat).w = 1 ∧ ((s.imgOf r).tensorOf i.srcB.toNat).h = 1 ∧
      ((s.imgOf r).tensorOf i.srcB.toNat).c = 1 ∧ (s.srcOf r i.srcB.toNat k).rows.length = 1) (op : EltOp) :
    ∃ r', Passed s (s.eltStep e r i op) e r r' ∧ r'.writes = (r.stagedOne s i k (bytesLE 4 (eltFn op (Rnd.of i.rnd)
      ((s.srcOf r i.srcA.toNat k).val 0 0 0) ((s.srcOf r i.srcB.toNat k).val 0 0 0)).1.toNat)).writes := by
  obtain ⟨haw, hah, hac, harows⟩ := ha
  obtain ⟨hbw, hbh, hbc, hbrows⟩ := hb
  rw [← second_one (b := s.srcOf r i.srcB.toNat k) hbw hbh hbc,
    ← requantElem_fp32 ((s.imgOf r).qparam ((s.imgOf r).tensorOf i.dst.toNat).qparam) i.qrnd i.sat, ← hfmt]
  refine groupVals_stages hslots hdone hstat hended hgrp (by rw [hfmt]; rfl) ?_ (fun k row x ch => eltFn op (Rnd.of i.rnd)
    ((s.srcOf r i.srcA.toNat k).val row x ch) ((s.srcOf r i.srcB.toNat k).second row x ch)) haw hah hac
  simp [harows, hbrows]

/-- A post instruction that computes each value from the value at its place. -/
theorem postRows_values (f : Word → Word) :
    s.postRows e r i (fun v row => groupVals i v.t.w v.t.c (fun x ch => (f (v.val row x ch), {}))) =
      s.computeRows e r i ((s.imgOf r).tensorOf i.srcA.toNat).h (fun k row => decide (row < (s.srcOf r i.srcA.toNat k).rows.length))
        (fun k row => groupVals i ((s.imgOf r).tensorOf i.srcA.toNat).w ((s.imgOf r).tensorOf i.srcA.toNat).c
          (fun x ch => (f ((s.srcOf r i.srcA.toNat k).val row x ch), {}))) := rfl

/-- A post instruction on a tensor of one element. -/
theorem postRows_stages (hslots : r.slots = [k]) (hdone : s.doneRows r k = 0) (hstat : i.stat = 0) (hended : r.ended = false)
    (hgrp : i.cgrp = 0) (hmx : fmtMx ((s.imgOf r).tensorOf i.dst.toNat).fmt = false)
    (ha : ((s.imgOf r).tensorOf i.srcA.toNat).w = 1 ∧ ((s.imgOf r).tensorOf i.srcA.toNat).h = 1 ∧
      ((s.imgOf r).tensorOf i.srcA.toNat).c = 1 ∧ (s.srcOf r i.srcA.toNat k).rows.length = 1) (f : Word → Word) :
    let d := (s.imgOf r).tensorOf i.dst.toNat
    ∃ r', Passed s (s.postRows e r i (fun v row => groupVals i v.t.w v.t.c (fun x ch => (f (v.val row x ch), {})))) e r r' ∧
      r'.writes = (r.stagedOne s i k (packCodes d.fmt [(requantElem d.fmt ((s.imgOf r).qparam d.qparam) i.qrnd i.sat
        (f ((s.srcOf r i.srcA.toNat k).val 0 0 0))).1])).writes := by
  obtain ⟨haw, hah, hac, harows⟩ := ha
  rw [postRows_values]
  exact groupVals_stages hslots hdone hstat hended hgrp hmx (decide_eq_true (by rw [harows]; decide))
    (fun k row x ch => (f ((s.srcOf r i.srcA.toNat k).val row x ch), {})) haw hah hac

end

/-- Settles O51: each instruction computes one row of one element and stages it (`groupVals_stages`). -/
theorem elementwiseValuesAreStaged : Obligations.ElementwiseValuesAreStaged := by
  unfold Obligations.ElementwiseValuesAreStaged
  intro s e r i k hslots hdone hgrp hstat g a d va vb staged haw hah hac harows
  have helt {op : Nat} {o : EltOp} (hturn : s.turn e op = some (r, i)) (hfmt : d.fmt = 7)
      (hb : (g.tensorOf i.srcB.toNat).w = 1 ∧ (g.tensorOf i.srcB.toNat).h = 1 ∧ (g.tensorOf i.srcB.toNat).c = 1 ∧
        (s.srcOf r i.srcB.toNat k).rows.length = 1) :
      ∃ t r', (.next (s.compute e op .clean false (fun r i s => s.eltStep e r i o)) : Out) = .next t ∧ Passed s t e r r' ∧
        staged r' (bytesLE 4 (eltFn o (Rnd.of i.rnd) va vb).1.toNat) := by
    obtain ⟨r', hpassed, hwrites⟩ := eltStep_stages (s := s) (e := e) hslots hdone hstat (turn_shows hturn).2.1 hgrp hfmt
      ⟨haw, hah, hac, harows⟩ hb o
    exact ⟨_, r', congrArg Host.Outcome.next (compute_clean hturn (by simp) _), hpassed, hwrites⟩
  have hpost {op : Nat} (f : State → TileRun → TileInstr → Word → Word) (hturn : s.turn e op = some (r, i))
      (hmx : fmtMx d.fmt = false) :
      ∃ t r', (.next (s.compute e op .clean false (fun r i s => s.postRows e r i (fun v row =>
        groupVals i v.t.w v.t.c (fun x ch => (f s r i (v.val row x ch), {}))))) : Out) = .next t ∧ Passed s t e r r' ∧
        staged r' (packCodes d.fmt [(requantElem d.fmt (g.qparam d.qparam) i.qrnd i.sat (f s r i va)).1]) := by
    obtain ⟨r', hpassed, hwrites⟩ := postRows_stages (s := s) (e := e) hslots hdone hstat (turn_shows hturn).2.1 hgrp hmx
      ⟨haw, hah, hac, harows⟩ (f s r i)
    exact ⟨_, r', congrArg Host.Outcome.next (compute_clean hturn (by simp) _), hpassed, hwrites⟩
  refine ⟨fun hfmt => ⟨fun hbw hbh hbc hbrows => ?_, fun hturn => ?_, fun hturn => ?_⟩, fun hfmt hturn => ?_⟩
  · have hb := And.intro hbw (And.intro hbh (And.intro hbc hbrows))
    exact ⟨fun hturn => helt (o := .add) hturn hfmt hb, fun hturn => helt (o := .sub) hturn hfmt hb,
      fun hturn => helt (o := .mul) hturn hfmt hb, fun hturn => helt (o := .max) hturn hfmt hb,
      fun hturn => helt (o := .min) hturn hfmt hb⟩
  · obtain ⟨t, r', hexec, hpassed, hwrites⟩ := hpost (fun s r i v => actFn i.act.toNat ((s.imgOf r).layer i.layer.toNat).p0
      ((s.imgOf r).layer i.layer.toNat).p1 v) hturn (by rw [hfmt]; rfl)
    rw [hfmt, requantElem_fp32] at hwrites
    exact ⟨t, r', hexec, hpassed, hwrites⟩
  · obtain ⟨t, r', hexec, hpassed, hwrites⟩ := hpost (fun _ _ _ v => v) hturn (by rw [hfmt]; rfl)
    rw [hfmt, requantElem_fp32] at hwrites
    exact ⟨t, r', hexec, hpassed, hwrites⟩
  · obtain ⟨t, r', hexec, hpassed, hwrites⟩ := hpost (fun _ _ _ v => v) hturn (by rw [hfmt]; rfl)
    rw [hfmt, requantElem_int8] at hwrites
    exact ⟨t, r', hexec, hpassed, hwrites⟩

end Sys2Proof.Machine
end

section
/-!
A tile starts, and a context is asked to give way (R289, R296 to R299, R304).
-/
namespace Sys2Proof.Machine

open Sys2Proof

variable {β : Type} {p : State → β}

/-! ### A tile starts (R165, R296, R304, R439) -/

/-- A wait that ends is seen in its client's registers and in the time of its context alone. -/
theorem waited_keeps (hw : Blind [Reg.QM_CLIENT_WAIT_LO, Reg.QM_CLIENT_WAIT_HI, Reg.QM_CLIENT_WAIT_MAX] p)
    (hctx : ∀ (s : State) h u c, p (s.setCtx h u c) = p s) (s : State) (h u : Nat) : p (s.waited h u) = p s := by
  unfold State.waited
  extract_lets c
  split
  · exact (hctx _ _ _ _).trans ((hw _ _ _ _ _ _ (by simp)).trans (hw.wr64 (by simp) (by simp) _ _ _ _))
  · rfl

/-- The state in which a tile is put on its engine. -/
def State.tileReady (s : State) (h : Nat) (x : TileD × Nat × List Nat × Bool) : State :=
  let t := x.1
  let u := t.unit
  let s := s.waited h u
  let c := s.ctx h u
  let need := stagedNames x.2.2.2 (((s.jobOf h).map (fun j => j.img.staged t)).getD [])
  let inActive := need.all (fun n => c.active.any (fun w => decide (w.stream = n)))
  let c := if inActive then c else { c with active := c.idle, idle := c.active }
  let s := s.setCtx h u { c with nextTile := none, semWait := [] }
  s.when t.delivers (fun s => s.putQueue 20 ((s.queue 20).addCredit (1024 + h) x.2.2.1.length))

theorem tileReady_keeps (hw : ∀ s r v i j k, p (State.wr s r v i j k) = p s) (hq : ∀ (s : State) x, p { s with queues := x } = p s)
    (hctx : ∀ (s : State) h u c, p (s.setCtx h u c) = p s) (s : State) (h : Nat) (x : TileD × Nat × List Nat × Bool) :
    p (s.tileReady h x) = p s := by
  unfold State.tileReady
  extract_lets t u s1 c need inActive c' s2
  refine (State.when_keeps p s2 t.delivers (fun s => s.putQueue 20 ((s.queue 20).addCredit (1024 + h) x.2.2.1.length))
    (putQueue_keeps (blind_of_wr hw _) hq _ _ _)).trans ?_
  exact (hctx _ _ _ _).trans (waited_keeps (blind_of_wr hw _) hctx s h u)

/-- The run of a tile that starts. -/
def startedRun (h : Nat) (x : TileD × Nat × List Nat × Bool) (raw : DWord) : TileRun :=
  { handle := h, tile := x.2.1, slots := x.2.2.1, newSet := x.2.2.2, startAt := raw, todo := x.1.prog }

theorem runTile_eq (s : State) (e h : Nat) (x : TileD × Nat × List Nat × Bool) :
    s.runTile e h x = (s.tileReady h x).putEngine e { (s.tileReady h x).engine e with
      tile := some (startedRun h x (s.tileReady h x).raw), preempt := false, resident := if isSpire e then some h else none } := rfl

theorem runTile_engine (s : State) (e h : Nat) (x : TileD × Nat × List Nat × Bool) :
    ((s.runTile e h x).engine e).tile = some (startedRun h x s.raw) ∧
      ((s.runTile e h x).engine e).resident = if isSpire e then some h else none := by
  have hraw : (s.tileReady h x).raw = s.raw :=
    tileReady_keeps (p := State.raw) (fun _ _ _ _ _ _ => rfl) (fun _ _ => rfl) (fun _ _ _ _ => rfl) s h x
  rw [runTile_eq, putEngine_engine, hraw]
  exact ⟨rfl, rfl⟩

theorem runTile_keeps (hw : ∀ s r v i j k, p (State.wr s r v i j k) = p s) (hq : ∀ (s : State) x, p { s with queues := x } = p s)
    (hjob : ∀ (s : State) x, p { s with job := x } = p s) (s : State) (e h : Nat) (x : TileD × Nat × List Nat × Bool) :
    p (s.runTile e h x) = p s :=
  (putEngine_sees (blind_of_wr hw _) (s.tileReady h x) e _).trans ((hjob _ _).trans
    (tileReady_keeps hw hq (fun s _ _ _ => hjob s _) s h x))

/-- The context that comes first runs where it is resident, or where the spire is empty and nothing of it is saved. -/
theorem serve_runs {s : State} {e h u : Nat} {j : Job} {x : TileD × Nat × List Nat × Bool} (hjob : s.jobOf h = some j)
    (hnext : s.nextTile h j u = some x) (hplace : isSpire e = false ∨ (s.engine e).resident = some h ∨
      ((s.engine e).resident = none ∧ (s.ctx h u).saved = false)) : s.serve e (h, u) = s.runTile e h x := by
  unfold State.serve
  rw [hjob]
  dsimp only
  rw [hnext]
  dsimp only
  by_cases hhere : isSpire e = false ∨ (s.engine e).resident = some h
  · exact if_pos (hhere.imp (by simp) id)
  · obtain ⟨hnone, hsaved⟩ : (s.engine e).resident = none ∧ (s.ctx h u).saved = false := by
      rcases hplace with hmoon | hres | hempty
      · exact absurd (.inl hmoon) hhere
      · exact absurd (.inr hres) hhere
      · exact hempty
    rw [if_neg (fun hc => hhere (hc.imp (by simp) id)), hnone]
    exact if_neg (by simp [hsaved])

/-- At a boundary of a free engine the context that comes first is served. -/
theorem tileStart_serves {s b : State} {e : Nat} {q : Nat × Nat} (hfree : s.engFree e = true)
    (hb : b = ((s.forAll (s.boundaryJobs e) (fun h s => s.freeFinal h)).pauseAt e).noteElig) (hswitch : (b.engine e).switch = none)
    (hfirst : b.firstCtx (b.candidates e) = some q) : s.tileStart e = b.serve e q := by
  have hpending : (s.engine e).swapPending = false := by
    simp only [State.engFree, Bool.and_eq_true, Bool.not_eq_true'] at hfree
    exact hfree.1.2
  unfold State.tileStart
  rw [if_neg (by simp [hpending]), if_neg (by simp [hfree])]
  dsimp only
  rw [← hb, if_neg (by simp [hswitch]), hfirst]

/-! ### A context is asked to give way (R299) -/

theorem yieldSuspended_keeps_tile {s : State} {e : Nat} (h : ∀ r, (s.engine e).tile = some r → r.susp = false) :
    s.yieldSuspended e = s := by
  unfold State.yieldSuspended
  split
  · next r hr => rw [if_neg (by simp [h r hr])]
  · rfl

theorem noteElig_engine (s : State) (e : Nat) : s.noteElig.engine e = s.engine e :=
  noteElig_sees (p := fun t => t.engine e) (fun _ _ _ _ _ _ _ => rfl) (fun _ _ _ _ _ => rfl) s

theorem preemptionRequest_asks {s : State} {e : Fin 42} (hon : s.on .SPR = true) (hspire : isSpire e = true)
    (hwanted : s.noteElig.preemptWanted e = true) (hswitch : (s.engine e).switch = none)
    (hsusp : ∀ r, (s.engine e).tile = some r → r.susp = false) :
    ∃ t, exec (.preemptionRequest e) s = .next t ∧ (t.engine e).preempt = true ∧ (t.engine e).tile = (s.engine e).tile ∧
      (t.engine e).resident = (s.engine e).resident ∧ t.job.jobs = s.job.jobs ∧ MemKept s t := by
  have hengine := noteElig_engine s e
  have hon' : s.noteElig.on (engBlock e) = true := by
    rw [engBlock, if_pos hspire]
    exact (noteElig_keeps (p := fun t => t.on .SPR) (fun t r v i j k hr =>
      on_congr (s := t) (t := t.wr r v i j k) rfl (blind_rd (r := Reg.PM_STATE) (by decide) 0 0 0 t r v i j k hr) .SPR) (fun _ _ _ => rfl) s).trans hon
  let t := s.noteElig.putEngine e { s.noteElig.engine e with preempt := true }
  have ht : t.engine e = { s.engine e with preempt := true } := by rw [putEngine_engine, hengine]
  have hexec : exec (.preemptionRequest e) s = .next t := by
    refine (next_if_pos (s := t.yieldSuspended e) (t := s.noteElig) ⟨hon', hspire, hwanted, by rw [hengine, hswitch]; rfl⟩).trans ?_
    rw [yieldSuspended_keeps_tile (fun r hr => hsusp r (by rw [ht] at hr; exact hr))]
  refine ⟨t, hexec, by rw [ht], by rw [ht], by rw [ht], ?_, memKept_of ?_⟩
  · exact (congrArg JobSt.jobs (putEngine_job _ _ _)).trans (noteElig_jobs s)
  · exact (putEngine_sees (p := State.mem) (fun _ _ _ _ _ _ _ => rfl) _ _ _).trans (noteElig_mem s)

end Sys2Proof.Machine
end

section
/-!
A tile commits (R273, R274, R289).
-/
namespace Sys2Proof.Machine

open Sys2Proof

variable {β : Type} {p : State → β}

/-! ### Slots of a job -/

theorem jobOf_setSlot (s : State) (h k : Nat) (x : Slot) :
    (s.setSlot h k x).jobOf h = (s.jobOf h).map (fun j => { j with slots := AMap.store j.slots {} k x }) := by
  unfold State.setSlot State.updJob
  cases hjob : s.jobOf h with
  | none => exact hjob
  | some j => exact (State.jobOf_setJob _ _ _ _).trans (if_pos rfl)

/-- What a commit shows of a slot: the steps of the tile, and the part of a comet that it holds. -/
def Slot.mark (tile : Nat) (x : Slot) : Nat × Nat × Nat × Bool := (x.step tile, x.comet, x.cseq.toNat, x.padding)

/-- The mark of a slot of a loaded job. -/
def State.slotMark (s : State) (h tile k : Nat) : Option (Nat × Nat × Nat × Bool) := (s.jobOf h).map (fun j => (j.slot k).mark tile)

theorem slotMark_slotOf {s : State} {h : Nat} (hjob : (s.jobOf h).isSome = true) (tile k : Nat) :
    s.slotMark h tile k = some ((s.slotOf h k).mark tile) := by
  obtain ⟨j, hj⟩ := Option.isSome_iff_exists.1 hjob
  rw [State.slotMark, State.slotOf, hj]
  rfl

theorem slotMark_setSlot (s : State) (h tile k a : Nat) (x : Slot) :
    (s.setSlot h k x).slotMark h tile a = (s.slotMark h tile a).map (fun m => if a = k then x.mark tile else m) := by
  rw [State.slotMark, State.slotMark, jobOf_setSlot]
  cases s.jobOf h with
  | none => rfl
  | some j =>
    refine congrArg some ((congrArg (Slot.mark tile) (AMap.get_store j.slots {} k a x)).trans ?_)
    split <;> rfl

theorem slotMark_of_jobs {s t : State} (h : t.job.jobs = s.job.jobs) (n tile k : Nat) : t.slotMark n tile k = s.slotMark n tile k :=
  congrArg (Option.map (fun j : Job => (j.slot k).mark tile)) (jobOf_of_jobs h n)

theorem afterTile_mark (x : Slot) (tile : Nat) (rows : List (Nat × Nat)) :
    (x.afterTile tile rows).mark tile = (x.step tile + 1, x.comet, x.cseq.toNat, x.padding) := by
  have hstep : (x.afterTile tile rows).step tile = x.step tile + 1 := by
    unfold Slot.step AMap.get Slot.afterTile
    rw [AMap.look_put_same]
    rfl
  rw [Slot.mark, hstep]
  rfl

/-- Every slot of the tile is one step on. -/
theorem commitSlots_mark {s : State} {r : TileRun} (hnodup : r.slots.Nodup) {k : Nat} (hk : k ∈ r.slots) :
    (s.commitSlots r).slotMark r.handle r.tile k = (s.slotMark r.handle r.tile k).map (fun m => (m.1 + 1, m.2)) := by
  refine forAll_each (fun a (t : State) => t.slotMark r.handle r.tile a) _ (Option.map (fun m => (m.1 + 1, m.2))) (fun a t => ?_)
    (fun a b t hne => ?_) r.slots hnodup hk s
  · refine (slotMark_setSlot _ _ _ _ _ _).trans ?_
    cases hjob : t.jobOf r.handle with
    | none => simp [State.slotMark, hjob]
    | some j =>
      simp only [State.slotMark, State.slotOf, hjob, Option.map_some, Option.getD_some, if_true]
      exact congrArg some (afterTile_mark _ _ _)
  · refine (slotMark_setSlot _ _ _ _ _ _).trans ?_
    simp only [if_neg hne]
    exact Option.map_id'

theorem commitSlots_keeps (hjob : ∀ (s : State) x, p { s with job := x } = p s) (s : State) (r : TileRun) :
    p (s.commitSlots r) = p s :=
  State.forAll_keeps p _ (fun _ t => setSlot_keeps hjob t _ _ _) s r.slots

/-! ### Verdicts (R273, R434) -/

/-- What a verdict leaves alone: all but registers, queues, stored sectors and jobs. -/
structure VerdictBlind (p : State → β) : Prop where
  wr : ∀ s r v i j k, p (State.wr s r v i j k) = p s
  queues : ∀ (s : State) x, p { s with queues := x } = p s
  memory : ∀ (s : State) x, p { s with memory := x } = p s
  job : ∀ (s : State) x, p { s with job := x } = p s

theorem deliver_keeps (hv : VerdictBlind p) (s : State) (h : Nat) (v : VerdictOut) : p (s.deliver h v) = p s := by
  have hupd (t : State) (f : Job → Job) : p (t.updJob h f) = p t := by
    unfold State.updJob
    split
    · exact hv.job _ _
    · rfl
  unfold State.deliver
  extract_lets x s1 src s2
  have h1 : p s1 = p s := ite_keeps rfl (qOffer_keeps (blind_of_wr hv.wr _) hv.queues hv.memory _ _ _ _)
  have h2 : p s2 = p s := (setSlot_keeps hv.job _ _ _ _).trans h1
  exact ite_keeps h1 (ite_keeps h2 ((hupd _ _).trans h2))

theorem updJob_map {γ : Type} (g : Job → γ) {f : Job → Job} (hg : ∀ j, g (f j) = g j) (s : State) (h : Nat) :
    ((s.updJob h f).jobOf h).map g = (s.jobOf h).map g := by
  unfold State.updJob
  cases hjob : s.jobOf h with
  | none => exact congrArg (Option.map g) hjob
  | some j =>
    refine (congrArg (Option.map g) ((State.jobOf_setJob _ _ _ _).trans (if_pos rfl))).trans ?_
    exact congrArg some (hg j)

theorem qOffer_jobs (s : State) (q pr : Nat) (data : List Byte) : (s.qOffer q pr data).job = s.job :=
  qOffer_keeps (p := State.job) (fun _ _ _ _ _ _ _ => rfl) (fun _ _ => rfl) (fun _ _ => rfl) s q pr data

theorem deliver_mark (s : State) (h tile k : Nat) (v : VerdictOut) : (s.deliver h v).slotMark h tile k = s.slotMark h tile k := by
  unfold State.deliver
  extract_lets x s1 src s2
  have h1 : s1.slotMark h tile k = s.slotMark h tile k :=
    ite_keeps (p := fun t => t.slotMark h tile k) rfl (slotMark_of_jobs (congrArg JobSt.jobs (qOffer_jobs _ _ _ _)) _ _ _)
  have h2 : s2.slotMark h tile k = s1.slotMark h tile k := by
    refine (slotMark_setSlot _ _ _ _ _ _).trans ?_
    cases hjob : s1.jobOf h with
    | none => simp [State.slotMark, hjob]
    | some j =>
      have hsrc : src = j.slot v.slot := by
        simp only [src, State.slotOf, hjob, Option.map_some, Option.getD_some]
      simp only [State.slotMark, hjob, Option.map_some]
      split
      · next hk => rw [hsrc, hk]; rfl
      · rfl
  exact ite_keeps (p := fun t => t.slotMark h tile k) h1 (ite_keeps (p := fun t => t.slotMark h tile k) (h2.trans h1)
    ((updJob_map (fun j : Job => (j.slot k).mark tile)
      (f := fun j => { j with verdicts := j.verdicts + 1 }) (fun _ => rfl) _ _).trans (h2.trans h1)))

/-- Verdicts delivered and credits returned, for a reading that keeps under both. -/
theorem commitVerdicts_keeps (hdeliver : ∀ (s : State) h v, p (s.deliver h v) = p s) (hput : ∀ (s : State) q x, p (s.putQueue q x) = p s)
    (s : State) (r : TileRun) : p (s.commitVerdicts r) = p s := by
  unfold State.commitVerdicts
  extract_lets s1 left mine
  have h1 : p s1 = p s := State.forAll_keeps p _ (fun v t => hdeliver t r.handle v) s r.verdicts
  exact ite_keeps ((hput _ _ _).trans h1) h1

theorem commitVerdicts_mark (s : State) (r : TileRun) (tile k : Nat) :
    (s.commitVerdicts r).slotMark r.handle tile k = s.slotMark r.handle tile k := by
  unfold State.commitVerdicts
  extract_lets s1 left mine
  have h1 : s1.slotMark r.handle tile k = s.slotMark r.handle tile k :=
    State.forAll_keeps (fun t => t.slotMark r.handle tile k) _ (fun v t => deliver_mark t r.handle tile k v) s r.verdicts
  exact ite_keeps (p := fun t => t.slotMark r.handle tile k) ((slotMark_of_jobs (putQueue_keeps (p := fun t => t.job.jobs)
    (fun _ _ _ _ _ _ _ => rfl) (fun _ _ => rfl) _ _ _) _ _ _).trans h1) h1

/-- A verdict of a part that is no padding goes to queue 20; a final one ends its slot. -/
theorem deliver_shows {s : State} {h : Nat} {v : VerdictOut} (hjob : (s.jobOf h).isSome = true)
    (hpad : (s.slotOf h v.slot).padding = false) (hroom : s.qRoom 20 (1024 + h) = true) :
    ((s.deliver h v).queue 20).items.map (fun i => i.data) = (s.queue 20).items.map (fun i => i.data) ++
        [fitBytes (s.qSize 20) (verdictEntry (s.slotOf h v.slot) v h)] ∧
      (v.kind ≠ 4 → ((s.deliver h v).slotOf h v.slot).st = .final) := by
  let s1 := s.qAppend 20 (1024 + h) (verdictEntry (s.slotOf h v.slot) v h)
  have hitems : (s1.queue 20).items.map (fun i => i.data) = (s.queue 20).items.map (fun i => i.data) ++
      [fitBytes (s.qSize 20) (verdictEntry (s.slotOf h v.slot) v h)] := by
    rw [qAppend_items, if_pos rfl, List.map_append]
    rfl
  have hdeliver : s.deliver h v = if v.kind = 4 then s1 else
      (s1.setSlot h v.slot { s1.slotOf h v.slot with st := .final }).updJob h (fun j => { j with verdicts := j.verdicts + 1 }) := by
    simp only [State.deliver, hpad, Bool.false_eq_true, if_false, State.qOffer, hroom, if_true, s1]
  rw [hdeliver]
  by_cases hkind : v.kind = 4
  · rw [if_pos hkind]
    exact ⟨hitems, fun hne => absurd hkind hne⟩
  · rw [if_neg hkind]
    have hjobs1 : (s1.jobOf h).isSome = true := by
      rw [jobOf_of_jobs (s := s) (qAppend_keeps (p := fun t => t.job.jobs) (fun _ _ _ _ _ _ _ => rfl) (fun _ _ => rfl)
        (fun _ _ => rfl) _ _ _ _)]
      exact hjob
    obtain ⟨j, hj⟩ := Option.isSome_iff_exists.1 hjobs1
    have hupd (g : Job → Job) : ((s1.setSlot h v.slot { s1.slotOf h v.slot with st := .final }).updJob h g).queues = s1.queues := by
      unfold State.setSlot State.updJob
      rw [hj]
      split <;> rfl
    refine ⟨Eq.trans ?_ hitems, fun _ => ?_⟩
    · exact congrArg (fun m : AMap Queue => (AMap.get m {} 20).items.map (fun i => i.data)) (hupd _)
    · have hslot : (s1.setSlot h v.slot { s1.slotOf h v.slot with st := .final }).slotOf h v.slot =
          { s1.slotOf h v.slot with st := .final } := slotOf_setSlot hj
      refine (congrArg (fun o : Option Slot => (o.getD {}).st) (updJob_map
        (fun j : Job => j.slot v.slot) (f := fun j => { j with verdicts := j.verdicts + 1 }) (fun _ => rfl) _ _)).trans ?_
      exact congrArg Slot.st hslot

end Sys2Proof.Machine
end

section
/-!
The boundary that a commit leaves, and the tiles of the engines (R273, R289, R296 to R299, R304).
-/
namespace Sys2Proof.Machine

open Sys2Proof

variable {β : Type} {p : State → β}

/-! ### The boundary after a commit (R297, R312) -/

/-- A reading that sees nothing of what a boundary changes: registers, contexts, engines but for their tiles, a pause, and
what a reply writes. -/
structure TileEndBlind (p : State → β) : Prop where
  wr : ∀ s r v i j k, p (State.wr s r v i j k) = p s
  ctx : ∀ (s : State) h u c, p (s.setCtx h u c) = p s
  engine : ∀ (s : State) e (x : Engine), x.tile = (s.engine e).tile → p (s.setEngine e x) = p s
  paused : ∀ (s : State) h (j : Job), s.jobOf h = some j → p (s.setJob h { j with st := .paused }) = p s
  host : ∀ (s : State) x, p { s with host := x } = p s
  answer : ∀ (s : State) m status pl, p (s.answer m status pl) = p s

section
variable (hb : TileEndBlind p)
include hb

theorem pauseAt_keeps (s : State) (e : Nat) : p (s.pauseAt e) = p s := by
  unfold State.pauseAt
  extract_lets x
  split
  · split
    · exact ite_keeps ((putEngine_sees (blind_of_wr hb.wr _) _ _ _).trans (hb.engine _ _ _ rfl)) rfl
    · rfl
  · rfl

theorem checkPaused_keeps (s : State) (h : Nat) : p (s.checkPaused h) = p s := by
  unfold State.checkPaused
  split
  · next j hj => exact ite_keeps ((syncJobs_sees (blind_of_wr hb.wr _) _).trans (hb.paused _ _ _ hj)) rfl
  · rfl

theorem swapAnswer_keeps (s : State) : p s.swapAnswer = p s := by
  have hanswer (m status : Nat) (pl : List Byte) :
      p (({ s with host := { s.host with swapWait := none } }).answer m status pl) = p s := (hb.answer _ _ _ _).trans (hb.host _ _)
  unfold State.swapAnswer
  split
  · split
    · exact ite_keeps (hanswer _ _ _) (ite_keeps rfl (hanswer _ _ _))
    · exact hanswer _ _ _
  · rfl

/-- What follows the end of a commit where no swap waits at the engine. -/
theorem boundary_keeps {s : State} {e : Nat} (hswap : (s.engine e).swapPending = false) (h : Nat) :
    p (((s.afterBoundary e).checkPaused h).noteElig.swapAnswer) = p s := by
  have hafter : s.afterBoundary e = s.pauseAt e := if_neg (by simp [hswap])
  rw [hafter]
  exact (swapAnswer_keeps hb _).trans ((noteElig_sees (blind_of_wr hb.wr _) (fun s _ _ _ _ => hb.ctx s _ _ _) _).trans
    ((checkPaused_keeps hb _ _).trans (pauseAt_keeps hb _ _)))

end

theorem answer_sees (hw : ∀ s r v i j k, p (State.wr s r v i j k) = p s) (hq : ∀ (s : State) x, p { s with queues := x } = p s)
    (hh : ∀ (s : State) x, p { s with host := x } = p s) (s : State) (m status : Nat) (pl : List Byte) :
    p (s.answer m status pl) = p s := answer_keeps (blind_of_wr hw _) hq hh s m status pl 0 0

/-- A reading of memory, encoders or comets. -/
theorem VerdictBlind.tileEnd (hv : VerdictBlind p) (hh : ∀ (s : State) x, p { s with host := x } = p s) : TileEndBlind p :=
  ⟨hv.wr, fun _ _ _ _ => hv.job _ _, fun _ _ _ _ => hv.job _ _, fun _ _ _ _ => hv.job _ _, hh, answer_sees hv.wr hv.queues hh⟩

theorem tileEndBlind_tile (e : Nat) : TileEndBlind (fun t => (t.engine e).tile) :=
  ⟨fun _ _ _ _ _ _ => rfl, fun _ _ _ _ => rfl, fun s _ _ hx => setEngine_tile s e hx, fun _ _ _ _ => rfl, fun _ _ => rfl,
    answer_sees (p := fun t => (t.engine e).tile) (fun _ _ _ _ _ _ => rfl) (fun _ _ => rfl) (fun _ _ => rfl)⟩

theorem tileEndBlind_slotOf (h k : Nat) : TileEndBlind (fun t => t.slotOf h k) := by
  refine ⟨fun _ _ _ _ _ _ => rfl, fun _ _ _ _ => rfl, fun _ _ _ _ => rfl, fun s h' j hj => ?_, fun _ _ => rfl,
    answer_sees (p := fun t => t.slotOf h k) (fun _ _ _ _ _ _ => rfl) (fun _ _ => rfl) (fun _ _ => rfl)⟩
  simp only [State.slotOf, State.jobOf_setJob]
  split
  · next hh => rw [hh, hj]; rfl
  · rfl

theorem tileEndBlind_queue {q : Nat} (hq : q ≠ 0) : TileEndBlind (fun t => t.queue q) :=
  ⟨fun _ _ _ _ _ _ => rfl, fun _ _ _ _ => rfl, fun _ _ _ _ => rfl, fun _ _ _ _ => rfl, fun _ _ => rfl,
    fun s m status pl => answer_queue s m status pl 0 0 hq⟩

/-! ### The end of a tile (R273, R297) -/

theorem addPair_keeps (hw : ∀ s r v i j k, p (State.wr s r v i j k) = p s) (s : State) (lo hi : RegRow) (i n : Nat) :
    p (s.addPair lo hi i n) = p s := (blind_of_wr hw [lo, hi]).wr64 (by simp) (by simp) s _ i 0

theorem chargeTime_keeps (hw : ∀ s r v i j k, p (State.wr s r v i j k) = p s) (hctx : ∀ (s : State) h u c, p (s.setCtx h u c) = p s)
    (s : State) (h u n : Nat) : p (s.chargeTime h u n) = p s := by
  have hcharge : p (s.charge h u n) = p s := by
    unfold State.charge
    split
    · exact (addPair_keeps hw _ _ _ _ _).trans (hctx _ _ _ _)
    · rfl
  unfold State.chargeTime
  extract_lets out s1
  exact (State.when_keeps p s1 out (fun s => s.setCtx h u { s.ctx h u with budgetOut := true }) (hctx _ _ _ _)).trans hcharge

/-- The state in which the engine is freed of a tile. -/
def State.tileCharged (s : State) (e : Nat) (r : TileRun) : State :=
  let u := s.tileUnit r
  let s := if isSpire e then s.chargeTime r.handle u (s.since r.startAt) else s
  let s := (s.engCnt e 0 1).clientCnt r.handle 0
  let s := s.setCtx r.handle u { s.ctx r.handle u with eligAt := none }
  { s with memory := { s.memory with resumed := AMap.del s.memory.resumed e } }

theorem tileDone_eq {s : State} {e : Nat} (r : TileRun) (hhung : (s.engine e).hung = none) :
    s.tileDone e r = (s.tileCharged e r).putEngine e { (s.tileCharged e r).engine e with tile := none } := by
  have hover : s.hangOver e r = s := by rw [State.hangOver, hhung]
  rw [State.tileDone, hover]
  rfl

theorem tileCharged_keeps (hw : ∀ s r v i j k, p (State.wr s r v i j k) = p s) (hctx : ∀ (s : State) h u c, p (s.setCtx h u c) = p s)
    (hm : ∀ (s : State) x, p { s with memory := x } = p s) (s : State) (e : Nat) (r : TileRun) : p (s.tileCharged e r) = p s := by
  unfold State.tileCharged
  extract_lets u s1 s2 s3
  have h1 : p s1 = p s := ite_keeps (chargeTime_keeps hw hctx _ _ _ _) rfl
  have h2 : p s2 = p s := (clientCnt_keeps (blind_of_wr hw _) _ _ _).trans ((engCnt_sees (blind_of_wr hw _) _ _ _ _).trans h1)
  exact (hm _ _).trans ((hctx _ _ _ _).trans h2)

theorem tileDone_keeps (hw : ∀ s r v i j k, p (State.wr s r v i j k) = p s) (hctx : ∀ (s : State) h u c, p (s.setCtx h u c) = p s)
    (hm : ∀ (s : State) x, p { s with memory := x } = p s) (he : ∀ (s : State) e x, p (s.setEngine e x) = p s) {s : State} {e : Nat}
    (r : TileRun) (hhung : (s.engine e).hung = none) : p (s.tileDone e r) = p s := by
  rw [tileDone_eq r hhung]
  exact (putEngine_sees (blind_of_wr hw _) _ _ _).trans ((he _ _ _).trans (tileCharged_keeps hw hctx hm s e r))

theorem tileDone_engine {s : State} {e : Nat} (r : TileRun) (hhung : (s.engine e).hung = none) :
    (s.tileDone e r).engine e = { s.engine e with tile := none } := by
  rw [tileDone_eq r hhung, putEngine_engine]
  exact congrArg (fun x : Engine => { x with tile := none }) (tileCharged_keeps (p := fun t => t.engine e) (fun _ _ _ _ _ _ => rfl)
    (fun _ _ _ _ => rfl) (fun _ _ => rfl) s e r)

/-! ### A commit whose writes have landed (R273, R274) -/

/-- What a tile without statistics, sends, releases and windows leaves before the boundary. -/
def State.committed (s : State) (r : TileRun) : State := (s.commitSlots r).commitVerdicts r

/-- The state after the commit. -/
def State.afterCommit (s : State) (e : Nat) (r : TileRun) : State :=
  ((((s.committed r).tileDone e r).afterBoundary e).checkPaused r.handle).noteElig.swapAnswer

section
variable {s s1 : State} {e : Fin 42} {r : TileRun}

theorem tileCommit_commits (htile : (s.engine e).tile = some r) (hon : s.on (engBlock e) = true) (hsusp : r.susp = false)
    (hended : r.ended = true) (hreset : (s.engine e).resetting = false) (hwrite : s.writeBack e r r.writes = (s1, none))
    (hstats : r.stats = []) (hsends : r.sends = []) (hreleases : r.releases = []) (hgathers : r.gathers = []) :
    exec (.tileCommit e) s = .next (s1.afterCommit e r) := by
  refine congrArg (fun t : State => Host.Outcome.next t.swapAnswer) ?_
  unfold State.tileCommit
  rw [htile]
  dsimp only
  rw [if_neg (by simp [hon, hsusp, hended, hreset]), hwrite]
  simp only [State.commitStats, State.commitSends, State.commitSems, hstats, hsends, hreleases, hgathers, State.forAll, List.foldl_nil,
    if_true]
  rfl

theorem committed_keeps (hv : VerdictBlind p) : p (s1.committed r) = p s1 :=
  (commitVerdicts_keeps (deliver_keeps hv) (putQueue_keeps (blind_of_wr hv.wr _) hv.queues) _ r).trans (commitSlots_keeps hv.job s1 r)

theorem committed_engine (a : Nat) : (s1.committed r).engine a = s1.engine a := by
  have hset (t : State) (h k : Nat) (x : Slot) : (t.setSlot h k x).engine a = t.engine a := by
    unfold State.setSlot State.updJob
    split <;> rfl
  have hupd (t : State) (h : Nat) (f : Job → Job) : (t.updJob h f).engine a = t.engine a := by
    unfold State.updJob
    split <;> rfl
  have hdeliver (t : State) (h : Nat) (v : VerdictOut) : (t.deliver h v).engine a = t.engine a := by
    unfold State.deliver
    extract_lets x s1 src s2
    have h1 : s1.engine a = t.engine a :=
      ite_keeps (p := fun t => t.engine a) rfl (congrArg (fun x : JobSt => AMap.get x.engines {} a) (qOffer_jobs _ _ _ _))
    have h2 : s2.engine a = t.engine a := (hset _ _ _ _).trans h1
    exact ite_keeps (p := fun t => t.engine a) h1 (ite_keeps (p := fun t => t.engine a) h2 ((hupd _ _ _).trans h2))
  exact (commitVerdicts_keeps (p := fun t => t.engine a) hdeliver
    (fun s q x => putQueue_keeps (p := fun t => t.engine a) (fun _ _ _ _ _ _ _ => rfl) (fun _ _ => rfl) s q x) _ r).trans
    (State.forAll_keeps (fun t => t.engine a) _ (fun _ t => hset t _ _ _) s1 r.slots)

variable (hswap : (s1.engine e).swapPending = false) (hhung : (s1.engine e).hung = none)
include hswap hhung

theorem tileDone_swap : (((s1.committed r).tileDone e r).engine e).swapPending = false := by
  rw [tileDone_engine r ((congrArg Engine.hung (committed_engine e)).trans hhung), committed_engine]
  exact hswap

theorem afterCommit_tile : ((s1.afterCommit e r).engine e).tile = none :=
  (boundary_keeps (tileEndBlind_tile e) (tileDone_swap hswap hhung) r.handle).trans
    (congrArg Engine.tile (tileDone_engine r ((congrArg Engine.hung (committed_engine e)).trans hhung)))

theorem afterCommit_keeps (hb : TileEndBlind p) (hm : ∀ (s : State) x, p { s with memory := x } = p s)
    (he : ∀ (s : State) e x, p (s.setEngine e x) = p s) : p (s1.afterCommit e r) = p (s1.committed r) :=
  (boundary_keeps hb (tileDone_swap hswap hhung) r.handle).trans
    (tileDone_keeps hb.wr hb.ctx hm he r ((congrArg Engine.hung (committed_engine e)).trans hhung))

/-- Memory, encoders and comets stand over a commit. -/
theorem afterCommit_rest (hv : VerdictBlind p) (hh : ∀ (s : State) x, p { s with host := x } = p s) : p (s1.afterCommit e r) = p s1 :=
  (afterCommit_keeps hswap hhung (hv.tileEnd hh) hv.memory (fun _ _ _ => hv.job _ _)).trans (committed_keeps hv)

theorem afterCommit_queue : (s1.afterCommit e r).queue 20 = (s1.committed r).queue 20 :=
  afterCommit_keeps hswap hhung (p := fun t => t.queue 20) (tileEndBlind_queue (by decide)) (fun _ _ => rfl) (fun _ _ _ => rfl)

theorem afterCommit_slotOf (k : Nat) : (s1.afterCommit e r).slotOf r.handle k = (s1.committed r).slotOf r.handle k :=
  afterCommit_keeps hswap hhung (p := fun t => t.slotOf r.handle k) (tileEndBlind_slotOf r.handle k) (fun _ _ => rfl) (fun _ _ _ => rfl)

end

theorem isSome_of_slotMark {s : State} {h tile k : Nat} {m : Nat × Nat × Nat × Bool} (hm : s.slotMark h tile k = some m) :
    (s.jobOf h).isSome = true := by
  obtain ⟨j, hj, -⟩ := Option.map_eq_some_iff.1 hm
  rw [hj]
  rfl

section
variable {s1 : State} {r : TileRun} (hnodup : r.slots.Nodup) (hjob : (s1.jobOf r.handle).isSome = true)
include hnodup hjob

/-- The mark of a slot of the tile once its rows and steps have been noted. -/
theorem commitSlots_slotOf {k : Nat} (hk : k ∈ r.slots) : ((s1.commitSlots r).jobOf r.handle).isSome = true ∧
    ((s1.commitSlots r).slotOf r.handle k).mark r.tile = ((s1.slotOf r.handle k).step r.tile + 1, (s1.slotOf r.handle k).comet,
      (s1.slotOf r.handle k).cseq.toNat, (s1.slotOf r.handle k).padding) := by
  have hmark := (commitSlots_mark hnodup hk).trans (congrArg (Option.map _) (slotMark_slotOf hjob r.tile k))
  have hsome := isSome_of_slotMark hmark
  rw [slotMark_slotOf hsome] at hmark
  exact ⟨hsome, Option.some.inj hmark⟩

theorem committed_step {k : Nat} (hk : k ∈ r.slots) :
    ((s1.committed r).slotOf r.handle k).step r.tile = (s1.slotOf r.handle k).step r.tile + 1 := by
  obtain ⟨hsome, hmark⟩ := commitSlots_slotOf hnodup hjob hk
  have hlast := (commitVerdicts_mark (s1.commitSlots r) r r.tile k).trans (slotMark_slotOf hsome r.tile k)
  rw [State.committed]
  rw [slotMark_slotOf (isSome_of_slotMark hlast), hmark] at hlast
  exact congrArg Prod.fst (Option.some.inj hlast)

/-- One verdict of a part that is no padding. -/
theorem committed_verdict {v : VerdictOut} (hverdicts : r.verdicts = [v]) (hv : v.slot ∈ r.slots)
    (hpad : (s1.slotOf r.handle v.slot).padding = false) (hroom : s1.qRoom 20 (1024 + r.handle) = true) :
    ((s1.committed r).queue 20).items.map (fun i => i.data) = (s1.queue 20).items.map (fun i => i.data) ++
        [fitBytes (s1.qSize 20) (verdictEntry (s1.slotOf r.handle v.slot) v r.handle)] ∧
      (v.kind ≠ 4 → ((s1.committed r).slotOf r.handle v.slot).st = .final) := by
  obtain ⟨hsome, hmark⟩ := commitSlots_slotOf hnodup hjob hv
  obtain ⟨-, hcomet, hcseq, hpadding⟩ : _ ∧ ((s1.commitSlots r).slotOf r.handle v.slot).comet = (s1.slotOf r.handle v.slot).comet ∧
      ((s1.commitSlots r).slotOf r.handle v.slot).cseq.toNat = (s1.slotOf r.handle v.slot).cseq.toNat ∧
      ((s1.commitSlots r).slotOf r.handle v.slot).padding = (s1.slotOf r.handle v.slot).padding := by
    simpa only [Slot.mark, Prod.mk.injEq] using hmark
  have hqueues : (s1.commitSlots r).queues = s1.queues := commitSlots_keeps (p := State.queues) (fun _ _ => rfl) s1 r
  have hregs : (s1.commitSlots r).regs = s1.regs := commitSlots_keeps (p := State.regs) (fun _ _ => rfl) s1 r
  have hcore : (s1.commitSlots r).core = s1.core := commitSlots_keeps (p := State.core) (fun _ _ => rfl) s1 r
  have hrd (x : RegRow) (i : Nat) : (s1.commitSlots r).rd x i = s1.rd x i := by rw [State.rd, State.rd, hregs]
  have hroom' : (s1.commitSlots r).qRoom 20 (1024 + r.handle) = true := (qRoom_congr hqueues hcore (hrd _ _) (hrd _ _) _).trans hroom
  obtain ⟨hitems, hfinal⟩ := deliver_shows (v := v) hsome (hpadding.trans hpad) hroom'
  have hentry : verdictEntry ((s1.commitSlots r).slotOf r.handle v.slot) v r.handle = verdictEntry (s1.slotOf r.handle v.slot) v r.handle := by
    rw [verdictEntry, verdictEntry, hcomet, hcseq]
  have hsize : (s1.commitSlots r).qSize 20 = s1.qSize 20 := by rw [State.qSize, State.qSize, State.f, State.f, hrd]
  have hqueue : (s1.commitSlots r).queue 20 = s1.queue 20 := by rw [State.queue, State.queue, hqueues]
  rw [hentry, hsize, hqueue] at hitems
  have hcredits {γ : Type} {g : State → γ} (hput : ∀ (s : State) n, g (s.putQueue 20 ((s.queue 20).useCredit (1024 + r.handle) n)) = g s) :
      g (s1.committed r) = g ((s1.commitSlots r).deliver r.handle v) := by
    unfold State.committed State.commitVerdicts
    rw [hverdicts]
    exact ite_keeps (hput _ _) rfl
  refine ⟨(hcredits (g := fun t => (t.queue 20).items.map (fun i => i.data)) (fun s n => ?_)).trans hitems,
    fun hkind => (congrArg Slot.st (hcredits (g := fun t => t.slotOf r.handle v.slot) (fun s n => ?_))).trans (hfinal hkind)⟩
  · exact congrArg (fun x : Queue => x.items.map (fun i => i.data)) ((putQueue_queue _ _ _ _).trans (if_pos rfl))
  · exact putQueue_keeps (p := fun t => t.slotOf r.handle v.slot) (fun _ _ _ _ _ _ _ => rfl) (fun _ _ => rfl) _ _ _

end

/-- Settles O44: starts by `serve_runs`, requests by `preemptionRequest_asks`, commits by the readings of `State.afterCommit`. -/
theorem enginesStartAndCommitTiles : Obligations.EnginesStartAndCommitTiles := by
  unfold Obligations.EnginesStartAndCommitTiles
  refine fun s e => ⟨?_, fun hon hspire => preemptionRequest_asks hon hspire, ?_⟩
  · intro b h u j x hfree hb hswitch hfirst hjob hnext hplace
    have hexec : exec (.tileStart e) s = .next (b.runTile e h x) :=
      congrArg Host.Outcome.next ((tileStart_serves hfree hb hswitch hfirst).trans (serve_runs hjob hnext hplace))
    obtain ⟨htile, hresident⟩ := runTile_engine b e h x
    exact ⟨_, _, hexec, htile, rfl, rfl, rfl, rfl, rfl, rfl, rfl, rfl, hresident,
      memKept_of (runTile_keeps (p := State.mem) (fun _ _ _ _ _ _ => rfl) (fun _ _ => rfl) (fun _ _ => rfl) b e h x),
      runTile_keeps (p := State.encs) (fun _ _ _ _ _ _ => rfl) (fun _ _ => rfl) (fun _ _ => rfl) b e h x,
      runTile_keeps (p := State.wt) (fun _ _ _ _ _ _ => rfl) (fun _ _ => rfl) (fun _ _ => rfl) b e h x⟩
  · intro r s1 htile hon hsusp hended hreset hwrite hstats hsends hreleases hgathers hswap hhung hnodup hjob
    have hmem := afterCommit_rest (e := e) (r := r) hswap hhung (p := State.mem) ⟨fun _ _ _ _ _ _ => rfl, fun _ _ => rfl, fun _ _ => rfl,
      fun _ _ => rfl⟩ (fun _ _ => rfl)
    have hencs := afterCommit_rest (e := e) (r := r) hswap hhung (p := State.encs) ⟨fun _ _ _ _ _ _ => rfl, fun _ _ => rfl, fun _ _ => rfl,
      fun _ _ => rfl⟩ (fun _ _ => rfl)
    have hwt := afterCommit_rest (e := e) (r := r) hswap hhung (p := State.wt) ⟨fun _ _ _ _ _ _ => rfl, fun _ _ => rfl, fun _ _ => rfl,
      fun _ _ => rfl⟩ (fun _ _ => rfl)
    refine ⟨_, tileCommit_commits htile hon hsusp hended hreset hwrite hstats hsends hreleases hgathers, afterCommit_tile hswap hhung,
      memKept_of hmem, hencs, hwt, fun k hk => ?_, fun v hverdicts hv hpad hroom => ?_⟩
    · rw [afterCommit_slotOf hswap hhung]
      exact committed_step hnodup hjob hk
    · obtain ⟨hitems, hfinal⟩ := committed_verdict hnodup hjob hverdicts hv hpad hroom
      refine ⟨Eq.trans ?_ hitems, fun hkind => ?_⟩
      · exact congrArg (fun x : Queue => x.items.map (fun i => i.data)) (afterCommit_queue hswap hhung)
      · rw [afterCommit_slotOf hswap hhung]
        exact hfinal hkind

end Sys2Proof.Machine
end
